-- ==== Sys2Proof/Word.lean ====
section
/-! DEFINITION. The words of the FM2048 (spec/00_scope.md R14, R17), the shape of a register field and of a row of the
register map (R18, R499), and exact fractions. -/

namespace Sys2Proof

/-- One byte of a memory window. -/
abbrev Byte := BitVec 8

/-- One register: 32 bits (R17). -/
abbrev Word := BitVec 32

/-- A register field: the register's offset and the field's bits [hi:lo] (R17). -/
structure Fld where
  off : Nat
  hi : Nat
  lo : Nat
deriving DecidableEq, Repr

/-- A row of the register map: base offset, the strides and counts of its instances (outermost first), the reset value,
and which bits are RW, RWL, W1C, RCL and WO (R18); every other bit is RO or reserved. -/
structure RegRow where
  base : Nat
  dims : List (Nat × Nat)
  rst : Nat
  rw : Nat
  rwl : Nat
  w1c : Nat
  rcl : Nat
  wo : Nat
deriving DecidableEq, Repr

/-- An exact fraction; the denominator of a fraction the model builds is never 0. -/
structure Frac where
  num : Int
  den : Nat
deriving DecidableEq, Repr

/-- The exact sum of two fractions. -/
def Frac.add (a b : Frac) : Frac :=
  let n := a.num * b.den + b.num * a.den
  let d := a.den * b.den
  let g := Nat.gcd n.natAbs d
  ⟨n / g, d / g⟩

end Sys2Proof
end

