-- ==== Sys2Proof/Syntax.lean ====
section
/-! DEFINITION. The commands of the FM2048 (spec/opcode_table.json) and the data they carry.  A command with an operand `via`
is a register write of the interface it names. -/

namespace Sys2Proof

/-- The interface that delivers a change, as the journal names it (R417). -/
inductive Src where
  | pcie
  | spi
  | moaby
  | ring
  | flask
  | device
deriving DecidableEq, Repr

/-- The pins that carry an edge reference (R246). -/
inductive RefPin where
  | wclkIn
  | ppsIn
deriving DecidableEq, Repr

/-- A vector; the unit depends on its use. -/
structure V3 where
  x : Int
  y : Int
  z : Int
deriving DecidableEq, Repr

/-- A route entry (R223). -/
structure RouteEnt where
  kind : Nat
  source : Nat
  dst : Nat
  gain : Int
deriving DecidableEq, Repr

/-- A metadata record as it is read from its 112 bytes (R118). -/
structure Rec where
  obj : Nat
  seg : Nat
  prio : Nat
  flags : Nat
  spread : Nat
  seq : Nat
  ns : Nat
  sec : Nat
  frac : Nat
  dur : Nat
  gain : Int
  p : V3
  v : V3
  a : V3
deriving DecidableEq, Repr

/-- A record with its effective block, its time origin (R128), and whether it was accepted unprotected (R129). -/
structure Seg where
  rcd : Rec
  e : Nat
  origin : Int
  unprot : Bool
deriving DecidableEq, Repr

/-- A frame as it arrives at a NET port: its bytes with the FCS, the capture at the MAC in 2^-5 REFCLK cycles, and how many
bytes of the unreserved and the reserved part of the receive FIFO are in use. -/
structure RxIn where
  bytes : List Byte
  stamp : Nat
  fifoRing : Nat
  fifoStream : Nat
deriving DecidableEq, Repr

/-- A LAYOUT record: a vertex, in units of 2^-23 m. -/
structure Vertex where
  target : Nat
  kind : Nat
  x : Int
  y : Int
  z : Int
deriving DecidableEq, Repr

/-- A layout with its mesh. -/
structure Layout where
  verts : List Vertex
  tris : List (Nat × Nat × Nat)
deriving DecidableEq, Repr

/-- Biquad coefficients in units of 2^-33 (R74). -/
structure Biquad where
  b0 : Int
  b1 : Int
  b2 : Int
  a1 : Int
  a2 : Int
deriving DecidableEq, Repr

/-- A FILTER_PEQ record. -/
structure PeqRec where
  kind : Nat
  band : Nat
  id : Nat
  bq : Biquad
deriving DecidableEq, Repr

/-- A FILTER_COEF record: taps as 36-bit integers. -/
structure CoefRec where
  out : Nat
  taps : List Int
deriving DecidableEq, Repr

/-- A GAIN record; the gain in units of 2^-34. -/
structure GainRec where
  kind : Nat
  id : Nat
  gain : Int
deriving DecidableEq, Repr

/-- What a snapshot or a join carries of an object (R112, R377, R389): its state, sequence state, HISTORY (sequence number
and effective block), REFUSED and accepted segments, the current one first if there is one. -/
structure ObjSnap where
  obj : Nat
  st : Nat
  seqValid : Bool
  high : Nat
  history : List (Nat × Nat)
  refused : List Nat
  cur : Option Seg
  queue : List Seg
deriving DecidableEq, Repr

/-- The register values that a CAP START uses (R338). -/
structure CapVals where
  base : Nat
  len : Nat
  ch : Nat
  meas : Bool
  stim : Nat
  f1 : Nat
  f2 : Nat
  t : Nat
deriving DecidableEq, Repr

/-- A mirrored item (R370). -/
inductive Item where
  /-- A record with its effective block; on a manager its LITEM and needed set (R398). -/
  | record (g : Seg) (litem : Nat) (needed : List Nat)
  /-- A route commit: block and validated table. -/
  | route (k : Nat) (table : List RouteEnt)
  | routeCancel (k : Nat)
  /-- An amendment: block, container and the interface's AMD_ID are in the container. -/
  | amend (k : Nat) (container : List Byte)
  /-- A pour: MSI named, block p and cut of R508, PATTERN_ID and total CRC. -/
  | pour (m p cut patId crc : Nat)
  | stop (k : Nat)
  | discard (p : Nat)
  /-- CAP START: block and the values it uses. -/
  | capStart (k : Nat) (v : CapVals)
  | capStop (k : Nat)
  | capCancel (k : Nat)
  | drill (d : Nat)
  | renorm (r : Nat)
  /-- A render-state register write: offset and value; a channel register has its channel's offset. -/
  | regWrite (off : Nat) (v : Nat)
  | objCmd (obj op : Nat)
  /-- A transmit context's sequence counter, and whether it still counts at the sender. -/
  | strSeq (ctx seq : Nat) (counting : Bool)
deriving DecidableEq, Repr

/-- What SNAP_DATA carries (R377). -/
inductive SnapPart where
  | obj (o : ObjSnap)
  /-- Live and shadow tables, and the crossfade in progress: the entries it leaves, its law, first block and length. -/
  | routes (live shadow old : List RouteEnt) (law first len : Nat)
  /-- A PEQ's set by its key: bands before and after its last change, and that change's first block and length. -/
  | peq (key : Nat) (old new : List Biquad) (xf : Option (Nat × Nat))
  /-- An output's live and staging taps, which set is live, and the crossfade: first block and length. -/
  | coef (out : Nat) (taps staging : List Int) (live : Nat) (xf : Option (Nat × Nat))
  /-- A gain by its key: the value its ramp starts from, the target, first block and length. -/
  | gain (key : Nat) (start : Frac) (target : Int) (first len : Nat)
  | layout (ix : Nat) (l : Layout)
  | reg (off v : Nat)
  /-- STR_TXt_SEQ, and the MSI of the first frame of the packet that it will number, of a context that runs or starts at the
  snapshot's boundary. -/
  | strSeq (ctx seq : Nat) (next : Option Nat)
  | epoch (e : Nat)
  /-- An item decided after the snapshot's boundary. -/
  | item (id : Nat) (i : Item)
deriving DecidableEq, Repr

/-- What a heartbeat reports of a time base: state, FADJ and last offset (R369). -/
structure TbReport where
  st : Nat
  fadj : Int
  ofs : Int
deriving DecidableEq, Repr

/-- The payload of a HEARTBEAT (R369, R371). -/
structure Heartbeat where
  word : Nat
  role : Nat
  readiness : Nat
  /-- Trigger and first input block of a recovery-scaling period that starts in this block. -/
  scale : Option (Nat × Nat)
  /-- Strobe time-stamp in 2^-16 ns. -/
  stamp : Int
  digests : List Nat
  tbs : List TbReport
  highItem : Nat
  confirms : List (Nat × Nat)
  discards : List Nat
  /-- Live PATTERN_ID and total CRC of the sender, zero when none runs: the manual names no other frame that tells a standby
  what its active unit runs while the link is UP (DESIGN CHOICE, assumption 2). -/
  patId : Nat
  patCrc : Nat
deriving DecidableEq, Repr

/-- Flask payloads (R368).  A refusal in COMMIT carries the owning chapter's reason code. -/
inductive FlkPayload where
  | hello (rank rev patId crc role epoch : Nat)
  | heartbeat (h : Heartbeat)
  | silence (objs outs : List (Nat × Nat))
  | mirror (items : List (Nat × Item))
  | commit (held : List Nat) (refused : List (Nat × Nat))
  | confirm (items : List (Nat × Nat))
  | discard (ids : List Nat)
  | snapReq
  | snapData (parts : List SnapPart)
  | snapEnd (s : Nat)
  | snapAbort
deriving DecidableEq, Repr

/-- A Flask frame as a lane delivers it (R367): its lane, MAGIC, TYPE, its reserved bytes as a number, whether the CRC-32C
checks, LSEQ, BLOCK and the payload, which is of no meaning under another TYPE than its own. -/
structure FlkFrame where
  lane : Nat
  magic : Nat
  type : Nat
  reserved : Nat
  crcOk : Bool
  lseq : Nat
  block : Nat
  payload : FlkPayload
deriving DecidableEq, Repr

/-- A received biphase subframe (R316): 24 audio bits, validity, user and channel-status bits, and whether parity holds. -/
structure SubFrame where
  audio : Int
  v : Bool
  u : Bool
  c : Bool
  parityOk : Bool
deriving DecidableEq, Repr

/-- A received biphase frame (R317): whether its preambles are valid, whether it begins a block, the nominal rate detected
(1 to 5 for 32, 44.1, 48, 88.2 and 96 kHz), and its two subframes. -/
structure BpFrame where
  valid : Bool
  z : Bool
  rate : Nat
  a : SubFrame
  b : SubFrame
deriving DecidableEq, Repr

/-- What comes with a block strobe (R27): the REFCLK cycles since the strobe before; words received in the block before by
32 x lane + slot; what the PDM data pins carried, one number for each frame, whose bits are the samples of the frame's clock
edges in order, rising then falling, the first one highest (R325); tiles whose END fell on another cycle than
the proof's, with that cycle; DRAM accesses missed, by tile and ordinal in its run; tiles with a late AT step; correctable
errors; and addresses of words with an uncorrectable error. -/
structure StrobeIn where
  refCycles : Nat
  lanes : List (Nat × List Int)
  pins : List (Nat × List Nat)
  ends : List (Nat × Nat)
  slotMiss : List (Nat × Nat)
  atMiss : List Nat
  eccCorr : Nat
  eccUnc : List Nat
deriving DecidableEq, Repr

/-- What a unit reads on a line during a block: the word of the frame, if a frame came, with the CRC-8 that followed it; a bit
driven low that read high; the line low during EOF; low at a sample between the decision point and the window; a fall before
the window. -/
structure ClaimRead where
  word : Option Nat
  crc : Nat
  drive : Bool
  eof : Bool
  stuck : Bool
  skew : Bool
deriving DecidableEq, Repr

/-- A bus matrix transaction (R438 to R441): master; whether it writes; whether the address is an offset of BAR2 rather than
a control-core address; address; bytes to read, or the bytes to write; whether it is of 4-byte accesses with all byte
enables; the beats that pass before a reset of the master masks the rest; addresses of words with an uncorrectable error
that a read meets, and how many correctable ones. -/
structure BusAcc where
  master : Fin 12
  write : Bool
  bar2 : Bool
  addr : BitVec 40
  len : Nat
  data : List Byte
  full : Bool
  keep : Nat
  unc : List Nat
  corr : Nat
deriving DecidableEq, Repr

/-- The commands: one constructor per row of spec/opcode_table.json, with the rule that describes it. -/
inductive Instr where
  /-- BLOCK_STROBE, R27: The TSU issues the block strobe at each MSI that is a multiple of 16, and every block-timed
  subsystem starts that block's work. -/
  | blockStrobe (inp : StrobeIn)
  /-- REGISTER_WRITE, R18: A write to a register that has no row of its own is applied, ignored or shadowed according to
  its access type. -/
  | registerWrite (via : Src) (off : BitVec 24) (v : Word)
  /-- STAT_W1C_WRITE, R20: A W1C write clears status bits, unless an event sets them in the same cycle, and supersedes
  stacked error entries tied to them. -/
  | statW1cWrite (off : BitVec 24) (v : Word)
  /-- RCL_READ, R19: A read of an RCL counter returns its value and clears it, unless CNT_HOLD is set. -/
  | rclRead (off : BitVec 24)
  /-- MSI_LO_READ, R47: A read of TSU_MSI_LO returns the low word of the counted MSI and latches the high word into
  TSU_MSI_HI. -/
  | msiLoRead
  /-- TB_NS_READ, R242: A read of TSU_TBn_NS returns the time-base nanoseconds and latches FRAC, SLO and SHI. -/
  | tbNsRead (n : Fin 4)
  /-- ERR_MSI_LO_READ, R407: A read of ERR_CUR_MSI_LO returns the low word of the current entry's MSI and latches the high
  word. -/
  | errMsiLoRead
  /-- BUS_MATRIX_ACCESS, R440: A bus matrix transaction from a master is arbitrated and performed at its target, or given
  the error response. -/
  | busMatrixAccess (x : BusAcc)
  /-- TILE_OVERRUN, R105: A tile that has not executed END by the next strobe abandons the block, and its unproduced
  results count as zero. -/
  | tileOverrun (t : Fin 17) (unwritten : List Nat) (claims : Nat)
  /-- TILE_FAIL, R105: A tile that overruns or drifts in OVR_LIMIT consecutive blocks is flagged TILE_FAIL and treated as
  lost. -/
  | tileFail (t : Fin 17)
  /-- SEQ_HANDOVER_GO, R108: A host command hands a seat to the spare at a named block, after the checks for LATE, BUSY
  and NO_SPARE. -/
  | seqHandoverGo (via : Src) (q : Fin 16)
  /-- HANDOVER_SWEEP, R108: In block h − 1 the seat's persistent region is copied to the spare, and writes to it are
  mirrored to both tiles. -/
  | handoverSweep
  /-- HANDOVER_SWITCH, R108: At the strobe of h the spare takes the seat and runs its table from step 0. -/
  | handoverSwitch
  /-- PAT_LOAD, R77: The LOAD command starts loading and validating a Pattern from DRAM into the staging area. -/
  | patLoad (via : Src)
  /-- PAT_LOAD_SLOT, R89: The LOAD_SLOT command starts loading a stored NVM slot through validation. -/
  | patLoadSlot (via : Src) (slot : Fin 4)
  /-- PAT_LOAD_DONE, R76: Streaming validation of a Pattern ends, and the staging area becomes VALID or INVALID. -/
  | patLoadDone
  /-- PAT_ARM, R77: The ARM command starts copying the primary runner tables to the inactive banks. -/
  | patArm (via : Src)
  /-- ARM_DONE, R77: Arming completes when every seat is copied, and the staging area becomes ARMED. -/
  | armDone
  /-- PAT_POUR, R78: The POUR command names a pour MSI and is judged, and mirrored in a pair. -/
  | patPour (via : Src)
  /-- POUR_STROBE, R80: At the pour block the tiles switch banks, REGSET records apply, and state carries over or resets.
  -/
  | pourStrobe
  /-- PAT_STOP, R84: The STOP command names a block from which input blocks are not rendered. -/
  | patStop (via : Src)
  /-- STOP_STROBE, R84: At block k changes due at or after k are discarded, and rendering of new input ends. -/
  | stopStrobe
  /-- PATTERN_STOPPED, R84: At the strobe of block k + 6 the live state becomes STOPPED and RWL registers become writable.
  -/
  | patternStopped
  /-- PAT_DISCARD, R79: The DISCARD command empties the staging area or cancels a pending pour if it is in time. -/
  | patDiscard (via : Src)
  /-- PAT_AMEND, R86: The AMEND command validates an amendment container and stages its sets for an effective block. -/
  | patAmend (via : Src)
  /-- AMEND_STAGE_CHECK, R86: At the strobe of k − 1, an amendment whose staging is incomplete is refused with LATE_STAGE.
  -/
  | amendStageCheck
  /-- AMEND_APPLY, R86: At the strobe of k every staged set of the amendment becomes live together. -/
  | amendApply
  /-- PAT_STORE, R89: The STORE command copies the staged Pattern into an NVM slot. -/
  | patStore (via : Src) (slot : Fin 4)
  /-- STORE_DONE, R89: A STORE completes and the slot becomes valid. -/
  | storeDone
  /-- PAT_ERASE, R89: The ERASE command makes an NVM slot invalid. -/
  | patErase (via : Src) (slot : Fin 4)
  /-- PAT_AUTO, R90: The AUTO command sets or clears the automatic slot. -/
  | patAuto (via : Src) (slot : Fin 4) (en : Bool)
  /-- AUTO_POUR, R90: After the start-up test and media lock the device loads, arms and pours the automatic slot by
  itself. -/
  | autoPour
  /-- COEF_CONVERSION_DONE, R75: Conversion of loaded coefficient sets into partition spectra completes. -/
  | coefConversionDone
  /-- FALLBACK_SWITCH, R430: At f = n + 17 every remaining tile's fallback bank becomes live, and outputs fade in. -/
  | fallbackSwitch
  /-- SHED_APPLY, R92: At the boundary after a loss on the fallback tables, the device vacates the seat and rebinds or
  sheds objects by rank. -/
  | shedApply
  /-- METADATA_FRAME_CHECK, R116: The intake engine checks a Moaby frame as a whole, and drops it whole on the first
  failure. -/
  | metadataFrameCheck (p : Fin 4)
  /-- RECORD_JUDGE, R124: The intake engine judges one metadata record from a Moaby ring or the host queue in its turn. -/
  | recordJudge
  /-- RECORD_LATE_REFUSE, R60: A record not accepted by the strobe of its effective block is refused LATE, and its SEQ
  enters REFUSED. -/
  | recordLateRefuse (obj : Fin 2048)
  /-- ACK_FRAME_SEND, R131: An ACK frame with every record's verdict is queued once the last record of a METADATA frame is
  decided. -/
  | ackFrameSend
  /-- HQ_TAIL_WRITE, R122: A write of OBJ_HQ_TAIL publishes host-queue entries, or is ignored on overflow. -/
  | hqTailWrite (v : Word)
  /-- HQ_BASE_WRITE, R122: A write of OBJ_HQ_BASE sets the ring base and returns TAIL, HEAD and DONE to 0. -/
  | hqBaseWrite (via : Src) (v : Word)
  /-- OBJ_CMD_RESEQ, R134: The RESEQ command is given for one object. -/
  | objCmdReseq (via : Src) (obj : Fin 2048)
  /-- OBJ_CMD_FLUSH, R134: The FLUSH command is given for one object. -/
  | objCmdFlush (via : Src) (obj : Fin 2048)
  /-- OBJ_CMD_ACT, R134: A pending object command acts at its boundary, once any pending record of the object is decided.
  -/
  | objCmdAct (obj : Fin 2048)
  /-- GEO_OVERRUN, R142: Targets not written by the strobe of b + 2 hold their previous values and raise GEO_OVERRUN. -/
  | geoOverrun (h : Fin 2048)
  /-- GEO_UNIT_FAIL, R142: A unit that misses in OVR_LIMIT consecutive blocks is flagged UNIT_FAIL and treated as lost. -/
  | geoUnitFail (u : Fin 3)
  /-- G_CHANGE, R143: A change of the geometry period takes effect at a block that is a multiple of the larger period. -/
  | gChange
  /-- SILENCE_HOLD_REACHED, R214: A silence counter reaches its hold, and the silence flag is set for that block. -/
  | silenceHoldReached (ch : Fin 3072)
  /-- SCALE_PERIOD_END, R211: An automatic-scaling period ends, and its 64-block crossfade back to unity begins. -/
  | scalePeriodEnd
  /-- SCALE_XFADE_END, R213: A scaling crossfade ends, and SCALE_END is set. -/
  | scaleXfadeEnd
  /-- RC_XFADE_END, R203: A room-correction crossfade ends, and the coefficient sets swap roles. -/
  | rcXfadeEnd (j : Fin 1024)
  /-- RTE_COMMIT, R231: The COMMIT command is tested and makes the shadow route table pending for an effective block. -/
  | rteCommit (via : Src)
  /-- RTE_COPY, R230: The COPY command overwrites the shadow table with the live table. -/
  | rteCopy (via : Src)
  /-- RTE_CANCEL, R232: The CANCEL command withdraws a pending commit if it is in time. -/
  | rteCancel (via : Src)
  /-- RTE_VALIDATION_DONE, R231: Validation of the shadow table completes, and the commit is accepted or refused. -/
  | rteValidationDone
  /-- RTE_COMMIT_APPLY, R231: At the strobe of k the shadow table becomes live and the crossfade begins, or an unaccepted
  commit is refused LATE_STAGE. -/
  | rteCommitApply
  /-- RTE_XF_DONE, R234: A route crossfade ends, and XF_DONE is set. -/
  | rteXfDone
  /-- TB_CFG_WRITE, R244: A write of TSU_TBn_CFG that changes SRC, PORT or WRATE places the time base in ACQUIRE. -/
  | tbCfgWrite (via : Src) (n : Fin 4) (v : Word)
  /-- TB_STEP, R243: The STEP command requests a step of a time base by the offset in its STEP registers. -/
  | tbStep (via : Src) (n : Fin 4)
  /-- TB_STEP_APPLY, R243: A pending time-base step applies at the next block strobe. -/
  | tbStepApply (n : Fin 4)
  /-- PTP_MEAS_WRITE, R250: Firmware delivers an offset from master, and the servo updates FADJ, steps, or counts a
  glitch. -/
  | ptpMeasWrite (n : Fin 4) (offset intervalNs : BitVec 32)
  /-- REF_EDGE, R247: A rising edge at WCLK_IN or PPS_IN is time-stamped and judged as accepted, rejected or rate-changed.
  -/
  | refEdge (pin : RefPin) (stamp : BitVec 64)
  /-- REF_EDGE_TIMEOUT, R247: No edge for 1.5 nominal periods counts as a loss and takes the time base to HOLDOVER. -/
  | refEdgeTimeout (n : Fin 4)
  /-- PTP_SYNC_TIMEOUT, R251: No Sync accepted for SYNC_TO intervals counts as loss of the PTP reference. -/
  | ptpSyncTimeout (n : Fin 4)
  /-- PTP_ANNOUNCE_TIMEOUT, R251: The selected master's announce receipt timeout expires, and the PTP reference is lost.
  -/
  | ptpAnnounceTimeout (n : Fin 4)
  /-- MEDIA_SEAT, R254: The media loop aligns the frame phase and seats the counted MSI. -/
  | mediaSeat
  /-- ML_REQUAL_LOCK, R254: After 1 s within the phase and frequency criteria, the media loop enters LOCKED from REQUAL.
  -/
  | mlRequalLock
  /-- PPS_OUT_SECOND, R258: PPS_OUT rises at each whole second of its time base for PPS_WIDTH ms. -/
  | ppsOutSecond
  /-- RX_FRAME, R264: A frame received at a NET port is judged by size, FCS and address, then time-stamped. -/
  | rxFrame (p : Fin 4) (inp : RxIn)
  /-- LINK_DOWN, R263: A port's link is lost and goes DOWN. -/
  | linkDown (p : Fin 4)
  /-- LINK_UP, R263: A port's link comes UP. -/
  | linkUp (p : Fin 4) (badSpeed anDone : Bool)
  /-- RX_RING_TAIL_WRITE, R270: A write of a receive-ring TAIL gives descriptors to the device, or is ignored on overflow.
  -/
  | rxRingTailWrite (p r : Fin 4) (v : Word)
  /-- TX_RING_TAIL_WRITE, R273: A write of a transmit-ring TAIL publishes frames for transmission. -/
  | txRingTailWrite (p r : Fin 4) (v : Word)
  /-- RING_CFG_WRITE, R270: A write of a ring BASE or CFG returns HEAD and TAIL to 0, and for ring 1 lays out its
  descriptors. -/
  | ringCfgWrite (via : Src) (p r : Fin 4) (tx isBase : Bool) (v : Word)
  /-- TX_FRAME, R277: A frame whose gate admits it starts on the line and completes its descriptors. -/
  | txFrame (p : Fin 4) (cycleNs stamp : BitVec 64)
  /-- TX_TAIL_TIMEOUT, R274: A TAIL left inside a frame for more than one block refuses that frame with BADDESC. -/
  | txTailTimeout (p r : Fin 4)
  /-- GCL_COMMIT, R278: The gate-list COMMIT command is judged for an effective block. -/
  | gclCommit (via : Src) (p : Fin 4)
  /-- GCL_CANCEL, R278: The gate-list CANCEL command withdraws a pending commit if it is in time. -/
  | gclCancel (via : Src) (p : Fin 4)
  /-- GCL_APPLY, R278: At the strobe of k the shadow gate list becomes operational, and its first cycle begins. -/
  | gclApply (p : Fin 4)
  /-- GCL_ENTRY_ADVANCE, R276: A gate entry's interval or the cycle expires, and the next entry takes effect. -/
  | gclEntryAdvance (p : Fin 4)
  /-- LPI_ENTER, R279: The transmitter enters low-power idle when its queues are empty and no honoured gate opens soon. -/
  | lpiEnter (p : Fin 4) (cycleNs : BitVec 64)
  /-- LPI_WAKE, R279: The transmitter starts waking on a queued frame or TW_TX before a honoured gate opens. -/
  | lpiWake (p : Fin 4)
  /-- STREAM_PACKET_RX, R291: A stream packet is checked, mapped to input MSIs, and its frames admitted, late, early,
  duplicate or claim-dropped. -/
  | streamPacketRx (c : Fin 256)
  /-- STR_RX_ENABLE, R297: Writing EN = 1 to a receive context checks its configuration and enables it, or refuses it. -/
  | strRxEnable (via : Src) (c : Fin 256)
  /-- STR_RX_DISABLE, R297: Writing EN = 0 to a receive context stops it at the next boundary. -/
  | strRxDisable (via : Src) (c : Fin 256)
  /-- STR_TX_ENABLE, R297: Writing EN = 1 to a transmit context checks its configuration and enables it, or refuses it. -/
  | strTxEnable (via : Src) (t : Fin 256)
  /-- STR_TX_DISABLE, R297: Writing EN = 0 to a transmit context stops it at the next boundary. -/
  | strTxDisable (via : Src) (t : Fin 256)
  /-- STR_RX_TIMEOUT, R296: No frame admitted for TMO ms takes the receive context to LOST. -/
  | strRxTimeout (c : Fin 256)
  /-- CLAIM_HOLD_TIMEOUT, R294: The held claim of a receive context returns to 0 after TMO ms without admission. -/
  | claimHoldTimeout (c : Fin 256)
  /-- HELD_PACKET_EXPIRE, R362: A packet held at a standby's gate is discarded at the second strobe after it was built. -/
  | heldPacketExpire (t : Fin 256)
  /-- APD_GROUP_ENABLE, R319: Writing EN = 1 to an audio port group checks it and enables it, or refuses it. -/
  | apdGroupEnable (via : Src) (g : Fin 16)
  /-- APD_GROUP_DISABLE, R319: Writing EN = 0 takes a group's outputs to IDLE and stops master clocks at the boundary. -/
  | apdGroupDisable (via : Src) (g : Fin 16)
  /-- SLAVE_FS_EDGE, R310: A frame-starting FS edge of a slave group is time-stamped and judged, and the group state
  follows. -/
  | slaveFsEdge (g : Fin 16) (stamp : BitVec 64) (bclks : BitVec 16)
  /-- SLAVE_FS_TIMEOUT, R310: No FS edge for 1.5 nominal periods takes the slave group to HOLD. -/
  | slaveFsTimeout (g : Fin 16)
  /-- LANE_MASK_WRITE, R312: A write of APD_LMASKl sets the shadow mask and makes a transfer pending. -/
  | laneMaskWrite (via : Src) (l : Fin 64) (v : Word)
  /-- LANE_MASK_TRANSFER, R312: The shadow mask and map transfer together at the first qualifying FS edge. -/
  | laneMaskTransfer (l : Fin 64)
  /-- CS_COMMIT, R318: Writing CS_COMMIT requests transfer of the transmit channel-status and user shadows. -/
  | csCommit (via : Src) (l : Fin 64)
  /-- CS_TRANSFER, R318: The transmit shadows transfer at the first Z preamble at least one frame after the commit. -/
  | csTransfer (l : Fin 64)
  /-- BIPHASE_FRAME_RX, R317: A biphase input frame is received, checked for parity and validity, and its channel-status
  block latched. -/
  | biphaseFrameRx (l : Fin 64) (f : BpFrame)
  /-- BIPHASE_LOCK_LOSS, R317: Four frames without a valid preamble lose lock, and the channels fade to zero. -/
  | biphaseLockLoss (l : Fin 64)
  /-- PDM_SYNC, R330: A PDM_CMD.SYNC write schedules a decimator reset at block c + 2. -/
  | pdmSync (via : Src)
  /-- MICSYNC_EDGE, R330: A rising edge at MICSYNC is accepted or rejected and schedules a decimator reset. -/
  | micsyncEdge (highCycles : BitVec 32)
  /-- DECIMATOR_RESET, R330: All enabled decimators reset together at the scheduled strobe. -/
  | decimatorReset
  /-- MIC_IDLE, R332: A microphone without transitions for 4,096 PDM clock periods becomes idle and delivers zero. -/
  | micIdle (m : Fin 32)
  /-- MIC_RESUME, R332: Transitions resume on an idle microphone, which is reset and fades in. -/
  | micResume (m : Fin 32)
  /-- CAP_START, R335: The START command judges and arms a capture for a named block. -/
  | capStart (via : Src)
  /-- CAP_STOP, R335: The STOP command ends a capture after a named block. -/
  | capStop (via : Src)
  /-- CAP_CANCEL, R335: The CANCEL command returns an ARMED capture to IDLE if it is in time. -/
  | capCancel (via : Src)
  /-- CAP_RUN_START, R335: At the strobe of k + 1 the capture enters RUN. -/
  | capRunStart
  /-- CAP_END, R335: A capture ends on reaching LEN, at its STOP block, or at a pour, and enters DONE. -/
  | capEnd
  /-- DAC_UNDERRUN, R344: A queue empty at a read instant in RUN holds the last code and counts an underrun. -/
  | dacUnderrun (n : Fin 32)
  /-- DAC_UR_FAULT, R344: An underrun lasting UR_LIM blocks takes the channel to FAULT with a ramp to its fault code. -/
  | dacUrFault (n : Fin 32)
  /-- DAC_FORCE, R350: The FORCE command takes a channel to FAULT at the next boundary. -/
  | dacForce (via : Src) (n : Fin 32)
  /-- DAC_CLEAR, R350: The CLEAR command returns a FAULT channel to SAFE at the next boundary. -/
  | dacClear (via : Src) (n : Fin 32)
  /-- DAC_POWER_UP_LOAD, R346: After PWRGOOD the converter die reads its NVM records, sets the channels, and releases the
  clamps at the safe codes. -/
  | dacPowerUpLoad
  /-- DAC_CFG_WRITE, R348: A write of SPAN or MODE is held, applied at once, or scheduled as a span-change sequence. -/
  | dacCfgWrite (via : Src) (n : Fin 32) (v : Word)
  /-- DAC_SPAN_START, R348: At the boundary after the write the output ramps to the old span's safe code over 64 frames.
  -/
  | dacSpanStart (n : Fin 32)
  /-- DAC_SPAN_SWITCH, R348: At 16t + 64 the channel clamps, switches span and mode, and turns its sources on. -/
  | dacSpanSwitch (n : Fin 32)
  /-- DAC_SETTLE_DONE, R348: After 20 µs of settling the channel loads the new safe code and releases the clamp. -/
  | dacSettleDone (n : Fin 32)
  /-- CLM_CFG_WRITE, R363: A write of CLM_CFG that sets EN takes the unit to LISTEN. -/
  | clmCfgWrite (via : Src) (v : Word)
  /-- CLM_DRILL, R381: The DRILL command is judged for a block d and mirrored. -/
  | clmDrill (via : Src)
  /-- CLM_RENORM, R364: The RENORM command is judged for a block r and mirrored. -/
  | clmRenorm (via : Src)
  /-- CLM_FORCE_ACTIVE, R365: The FORCE_ACTIVE command is judged and, if accepted, makes the standby ACTIVE at the next
  decision point. -/
  | clmForceActive (via : Src)
  /-- CLM_YIELD, R365: The YIELD command is judged and, if accepted, takes the active unit to YIELDED. -/
  | clmYield (via : Src)
  /-- FLK_RESYNC, R376: The RESYNC command restarts resynchronisation at a NOT_READY standby. -/
  | flkResync (via : Src)
  /-- CLAIM_FRAME_START, R358: A unit starts its claim frame 2.0 µs after its strobe, or hard-synchronises to an earlier
  falling edge. -/
  | claimFrameStart
  /-- CLAIM_DECISION_POINT, R360: At the end of EOF the unit judges its lines, decides whether it won the block, and
  changes role. -/
  | claimDecisionPoint (a b : ClaimRead)
  /-- LISTEN_END, R363: After 64 blocks in LISTEN the unit becomes STANDBY with the highest epoch it read. -/
  | listenEnd
  /-- DRILL_EXECUTE, R381: At blocks d − 1 to d + 1 the drill hands the outputs from the active unit to the standby. -/
  | drillExecute
  /-- AUTO_DRILL, R381: The active unit starts a drill by itself at the DRILL_INT interval. -/
  | autoDrill
  /-- RENORM_APPLY, R364: From the frame of block r both units send epoch 1. -/
  | renormApply
  /-- FLASK_FRAME_RX, R367: A Flask frame is received, checked, and ordered by LSEQ, or discarded. -/
  | flaskFrameRx (f : FlkFrame)
  /-- HELLO_RX, R368: A HELLO frame reports the peer's rank, revision, Pattern, role and epoch. -/
  | helloRx
  /-- HEARTBEAT_RX, R369: A heartbeat updates link state, skew, peer FADJ and scaling flags, and the seat digests are
  compared. -/
  | heartbeatRx
  /-- SILENCE_RX, R378: A SILENCE frame carries the active unit's silence counters, and at the end of SHADOW the standby
  corrects its own. -/
  | silenceRx
  /-- MIRROR_RX, R371: The standby validates and provisionally stages a mirrored item and answers with COMMIT. -/
  | mirrorRx
  /-- COMMIT_RX, R371: The active unit receives the standby's commit or refusal and decides the item. -/
  | commitRx
  /-- CONFIRM_RX, R371: The standby makes a confirmed item final. -/
  | confirmRx
  /-- DISCARD_RX, R371: The standby removes a discarded item. -/
  | discardRx
  /-- MIRROR_DEADLINE, R371: An item without COMMIT by its deadline is refused, and DISCARD is sent. -/
  | mirrorDeadline
  /-- SNAP_REQ_RX, R377: The active unit records its control state at its next boundary and sends SNAP_DATA. -/
  | snapReqRx
  /-- SNAP_DATA_RX, R377: The standby receives snapshot data. -/
  | snapDataRx
  /-- SNAP_END_RX, R377: The standby installs the snapshot and reports it by COMMIT. -/
  | snapEndRx
  /-- SNAP_ABORT_RX, R379: SNAP_ABORT discards the snapshot or replay, and the standby becomes NOT_READY. -/
  | snapAbortRx
  /-- JOIN_POUR, R377: The standby pours its ARMED Pattern at j and overwrites it with the snapshot and replayed items. -/
  | joinPour
  /-- SHADOW_END, R376: The shadow period ends after its block count, and the standby enters CONVERGE. -/
  | shadowEnd
  /-- CONV_TIMEOUT, R376: No convergence within CONV_TMO makes the standby NOT_READY. -/
  | convTimeout
  /-- RESYNC_RETRY, R376: After 1 s NOT_READY with the link UP, the standby returns to WAIT_PATTERN. -/
  | resyncRetry
  /-- FLASK_LINK_STALE, R369: Missing heartbeats for three blocks make the Flask link STALE. -/
  | flaskLinkStale
  /-- FLASK_LANE_DOWN, R366: A Flask lane loses block lock, and the link continues on one lane. -/
  | flaskLaneDown (lane : Fin 2)
  /-- FLASK_LANE_UP, R366: A Flask lane gains block lock. -/
  | flaskLaneUp (lane : Fin 2)
  /-- LADLE_REC_RX, R392: A worker stages or refuses a forwarded record and answers with LADLE_ACK. -/
  | ladleRecRx
  /-- LADLE_ACK_RX, R393: The manager collects a worker's answer and decides the record once it can. -/
  | ladleAckRx
  /-- LADLE_DECIDE_RX, R394: A worker makes a confirmed record final or removes a discarded one. -/
  | ladleDecideRx
  /-- LADLE_UNDECIDED, R394: A worker with no decision 64 blocks after e removes the record and rejoins. -/
  | ladleUndecided
  /-- LADLE_HB_RX, R395: A ladle heartbeat updates the manager's worker state or the worker's view of the manager. -/
  | ladleHbRx
  /-- WORKER_HB_TIMEOUT, R395: HB_TO missed heartbeats take a worker to LOST. -/
  | workerHbTimeout (w : Fin 16)
  /-- MANAGER_HB_TIMEOUT, R396: HB_TO missed manager heartbeats take a worker to ORPHAN. -/
  | managerHbTimeout
  /-- JOIN_REQ_SEND, R397: A JOINING worker sends JOIN_REQ once per second. -/
  | joinReqSend
  /-- JOIN_REQ_RX, R397: The manager refuses the join or snapshots object state into JOIN_DATA frames. -/
  | joinReqRx
  /-- JOIN_DATA_RX, R397: A joining worker receives snapshot entries. -/
  | joinDataRx
  /-- JOIN_END_RX, R397: A worker installs the snapshot, replays forwarded records, and acknowledges. -/
  | joinEndRx
  /-- JOIN_TIMEOUT, R397: A JOIN_END not received within 2 s aborts the join. -/
  | joinTimeout
  /-- SYNC_IN_EDGE, R399: A SYNC_IN edge is time-stamped and its offset checked, or used for seating. -/
  | syncInEdge (stamp : Nat)
  /-- ERR_ACK_WRITE, R407: A write to ERR_ACK acknowledges the current entry, and the next is chosen. -/
  | errAckWrite (code : BitVec 32)
  /-- JNL_FREEZE, R417: Writing JNL_CTL.FREEZE = 1 freezes the journal. -/
  | jnlFreeze (via : Src)
  /-- JNL_RESUME, R417: Writing JNL_CTL.FREEZE = 0 ends any freeze other than a FATAL freeze. -/
  | jnlResume (via : Src)
  /-- JNL_SEL_WRITE, R417: A write of JNL_SEL latches the named journal entry into JNL_E0–E3. -/
  | jnlSelWrite (via : Src) (serial : BitVec 32)
  /-- JNL_FREEZE_TIMEOUT, R417: A freeze other than a FATAL freeze ends after FRZ_MAX seconds. -/
  | jnlFreezeTimeout
  /-- STARTUP_SELF_TEST, R421: After PLL lock the device tests every unmarked region. -/
  | startupSelfTest
  /-- STARTUP_SELF_TEST_DONE, R422: The start-up test ends, seats and spares are assigned, and FAULT_N is released. -/
  | startupSelfTestDone (runs : List (Nat × Nat × Nat))
  /-- QUENCH_SLICE_START, R423: The device starts a slice on the region that waited longest, when every condition holds.
  -/
  | quenchSliceStart (busy : List (Fin 4))
  /-- SLICE_TEST_RUN_END, R420: A test run ends, and the region passes, retests, or is marked unusable. -/
  | sliceTestRunEnd (misr : BitVec 64)
  /-- SR_SLICE_END, R427: A save/restore slice restores the region and releases the master's held requests. -/
  | srSliceEnd (bad : Bool)
  /-- BST_CLEAR_MAP, R433: The CLEAR_MAP command empties the fault map in NVM. -/
  | bstClearMap (via : Src)
  /-- BST_MARK, R433: The MARK command marks a region unusable at the host's command. -/
  | bstMark (via : Src) (r : Fin 32)
  /-- FAULT_MAP_WRITE_DONE, R433: The other fault-map copy is written with GEN + 1. -/
  | faultMapWriteDone
  /-- MTX_CMD_RESET, R442: A write of MTX_CMD resets a named bus master. -/
  | mtxCmdReset (via : Src) (m : Fin 16)
  /-- CC_RUN_WRITE, R442: A write of CC_RUN releases cores or holds them in reset. -/
  | ccRunWrite (via : Src) (run : Fin 16)
  /-- CC_KICK, R445: A write of CC_KICKn restarts that core's watchdog. -/
  | ccKick (via : Src) (n : Fin 4) (v : Word)
  /-- WATCHDOG_EXPIRY, R445: A core that is not kicked within MS is reset and restarts. -/
  | watchdogExpiry (n : Fin 4)
  /-- CORE_EXCEPTION, R445: A core takes an undefined instruction or unhandled exception and stops. -/
  | coreException (n : Fin 4)
  /-- MAILBOX_DOORBELL, R452: A write of CC_DBn posts a mailbox request, or is discarded while BUSY. -/
  | mailboxDoorbell (via : Src) (n : Fin 4) (seq : BitVec 16)
  /-- MAILBOX_DONE, R452: A write of CC_DONEn answers the request and signals its vector. -/
  | mailboxDone (n : Fin 4) (seq : BitVec 16)
  /-- DMA_TAIL_WRITE, R448: A write of SYS_DMA_TAIL publishes PCIe DMA descriptors. -/
  | dmaTailWrite (via : Src) (v : Word)
  /-- DMA_DESCRIPTOR_DONE, R448: A DMA descriptor completes with DONE, ERROR or BADDESC. -/
  | dmaDescriptorDone (d host : List Byte) (unc : List Nat)
  /-- SPI_WRITE, R450: An SPI frame with command 0x02 writes 32-bit words. -/
  | spiWrite (addr : BitVec 40) (data : List Byte)
  /-- SPI_READ, R450: An SPI frame with command 0x0B reads 32-bit words. -/
  | spiRead (addr : BitVec 40) (words wait : Nat)
  /-- MGMT_FRAME_RX, R451: A management-ring frame is checked, its operations performed, and an answer sent. -/
  | mgmtFrameRx (frame : List Byte)
  /-- MGMT_READ32, R451: A READ32 operation of a management frame reads one register. -/
  | mgmtRead32 (addr : BitVec 40)
  /-- MGMT_WRITE32, R451: A WRITE32 operation of a management frame writes one register. -/
  | mgmtWrite32 (addr : BitVec 40) (v : Word)
  /-- BOOT_LOAD, R455: After PLL lock CC0 loads the boot image in force into working SRAM. -/
  | bootLoad
  /-- BOOT_LOAD_DONE, R455: Boot ends with REMAP set and CC1–CC3 released, or with BOOT_NONE. -/
  | bootLoadDone (bad : Bool)
  /-- NVM_PROGRAM, R456: The PROGRAM command erases and programs an NVM area from DRAM. -/
  | nvmProgram (via : Src) (area : Fin 4)
  /-- NVM_PROGRAM_DONE, R456: Programming ends with a read-back check. -/
  | nvmProgramDone (bad : Bool)
  /-- POWER_ON, R464: PWRGOOD rising resets everything except NVM and restarts the converter die; the banks sense their supply
  (R486). -/
  | powerOn
  /-- POWER_DOWN, R461: PWRGOOD falls before the rails leave tolerance. -/
  | powerDown
  /-- RESET_PIN, R464: RESET_N low for at least 1 µs resets the core die and keeps the converter die. -/
  | resetPin
  /-- SYS_RST_CORE, R466: SYS_RST_CMD with the right KEY and OP CORE resets the core die 1 µs later. -/
  | sysRstCore
  /-- SYS_RST_FULL, R466: SYS_RST_CMD with the right KEY and OP FULL acts as a power-on reset 1 µs later. -/
  | sysRstFull
  /-- PERST, R442: PERST_N resets the PCIe link and master M4 only. -/
  | perst
  /-- PCIE_LINK_RESET, R442: A PCIe hot reset, function-level reset or link down resets M4. -/
  | pcieLinkReset
  /-- CORE_PLL_LOCK, R468: The core PLL locks, and start-up self-test and boot begin. -/
  | corePllLock (pcieRef : Bool)
  /-- DRAM_READY, R468: DRAM initialisation and training complete, and DRAM_RDY is set. -/
  | dramReady
  /-- SUPPLY_DIP, R463: A VDD_CORE or VDD_SRAM dip below 94 % for 1 µs raises the FATAL SUPPLY. -/
  | supplyDip
  /-- REFCLK_FAIL, R470: REFCLK absence, frequency error or core PLL unlock closes the claim gate and raises CLK_FAIL. -/
  | refclkFail (unlock : Bool)
  /-- THERMAL_SAMPLE, R474: Every 1 ms the sensors are read and the thermal thresholds act. -/
  | thermalSample (core conv : BitVec 16)
  /-- THERMAL_SHUTDOWN, R475: At 120 °C the converter-die comparator holds the device in a FULL reset. -/
  | thermalShutdown
  /-- THERMAL_RELEASE, R475: After 1 s below 100 °C the thermal reset is released. -/
  | thermalRelease
  /-- TEST_EN_ASSERT, R467: TEST_EN high holds the core die in reset with the DAC outputs clamped and the claim lines
  released. -/
  | testEnAssert
  /-- TEST_EN_RELEASE, R467: TEST_EN falling ends the hold of the core die in reset, and the core die leaves reset as
  after a reset release. -/
  | testEnRelease
deriving DecidableEq, Repr

end Sys2Proof
end

