-- ==== Sys2Proof/Config.lean ====
section
/-! DEFINITION. What the spec leaves to an implementation or states no value for.  None of these constants has a body:
no proof can see a value of one, so whatever is proved holds for every value. -/

namespace Sys2Proof.Config

/-- The n-th free value: a value the spec gives an operation but does not state.  State.freeCtr counts the values drawn. -/
opaque freeValue : Nat → BitVec 64

/-- SYS_REV.REV: the die revision of the part (spec/20_control_fabric.md, R67 MIN_REV). -/
opaque dieRev : BitVec 16

/-- The bytes of the boot ROM the control cores see at address 0 (R436, R455). -/
opaque bootRom : Nat → Byte

/-- Manufacturing data and expected signatures: the first 16 KiB of the NVM (R419, R453). -/
opaque mfgByte : Nat → Byte

/-- Expected signatures of the regions, and whether their area of the NVM keeps its CRC (R419); its format is not given. -/
opaque signature : Nat → BitVec 64

/-- The NVM test area keeps its CRC-32C (R419). -/
opaque sigAreaOk : Bool

/-- The output y, in units of 2^-40, of a preset's two half-band filters and its compensation filter, for a CIC decimation and
the CIC's outputs of the present frame and the 2 D frames before it, oldest first: the spec gives their order, their bands and
their delay D, and no taps (R327 to R329). -/
opaque pdmFilters : Nat → Nat → List Int → Int

/-- DC mode's fixed pattern of 64 media-clock cycles: for the lower 6 bits of a 16-bit value and a cycle, whether the toggled unit
element is on.  The spec gives its length and not its order (R342). -/
opaque dcPattern : Nat → Nat → Bool

/-- MAC lane products of a LIM (0x0E) or CVT (0x0F) step of a count; the manual counts MAC lane products per block (R110)
without stating these two opcodes' share. -/
opaque macProducts : Nat → Nat → Nat

end Sys2Proof.Config
end

