-- ==== Sys2Proof/Machine/Assoc.lean ====
section
/-! DEFINITION. Sparse tables: a list of key and value pairs with strictly rising keys and no entry that equals what an
unlisted key reads as.  Registers, memory and every per-instance state of the model are held this way. -/

namespace Sys2Proof

/-- A sparse table keyed by Nat. -/
abbrev Tbl (α : Type) := List (Nat × α)

/-- The value at a key, with `d` giving what an unlisted key reads as. -/
def aGet {α : Type} (d : Nat → α) : Tbl α → Nat → α
  | [], k => d k
  | (k', v) :: t, k => if k = k' then v else aGet d t k

/-- The table without a key. -/
def aErase {α : Type} : Tbl α → Nat → Tbl α
  | [], _ => []
  | (k', v) :: t, k => if k = k' then aErase t k else (k', v) :: aErase t k

/-- Put an entry in its place by key. -/
def aInsert {α : Type} : Tbl α → Nat → α → Tbl α
  | [], k, v => [(k, v)]
  | (k', w) :: t, k, v =>
    if k < k' then (k, v) :: (k', w) :: t
    else if k = k' then (k, v) :: t
    else (k', w) :: aInsert t k v

/-- Set a key: a value equal to what the unlisted key reads as removes the entry, so equal tables are equal data. -/
def aSet {α : Type} [DecidableEq α] (d : Nat → α) (l : Tbl α) (k : Nat) (v : α) : Tbl α :=
  if v = d k then aErase l k else aInsert l k v

/-- Change the value at a key. -/
def aMod {α : Type} [DecidableEq α] (d : Nat → α) (l : Tbl α) (k : Nat) (f : α → α) : Tbl α :=
  aSet d l k (f (aGet d l k))

/-- Keys rise strictly from a lower bound, and no entry equals what its unlisted key reads as. -/
def aWfFrom {α : Type} [DecidableEq α] (d : Nat → α) : Nat → Tbl α → Bool
  | _, [] => true
  | lo, (k, v) :: t => lo ≤ k && !decide (v = d k) && aWfFrom d (k + 1) t

/-- The canonical form of a table. -/
def aWf {α : Type} [DecidableEq α] (d : Nat → α) (l : Tbl α) : Bool := aWfFrom d 0 l

end Sys2Proof
end

