-- ==== Sys2Proof/Machine/Operands.lean ====
section
/-! DEFINITION. Operand forms: bit fields of registers, two's complement, the fixed-point formats of R15, the rounding of
R162 and R509, little-endian byte strings, the packing of samples (R16) and the check codes (R65). -/

namespace Sys2Proof

/-- Bits [hi:lo] of a number. -/
def bits (w hi lo : Nat) : Nat := w / 2 ^ lo % 2 ^ (hi + 1 - lo)

/-- One bit of a number. -/
def bit (w i : Nat) : Bool := w / 2 ^ i % 2 == 1

/-- 1 for true and 0 for false. -/
def b2n (b : Bool) : Nat := if b then 1 else 0

/-- A number with bits [hi:lo] replaced by a value (cut to the field's width). -/
def putBits (w hi lo v : Nat) : Nat :=
  w / 2 ^ (hi + 1) * 2 ^ (hi + 1) + v % 2 ^ (hi + 1 - lo) * 2 ^ lo + w % 2 ^ lo

/-- A field of a register word. -/
def fget (w : Word) (hi lo : Nat) : Nat := bits w.toNat hi lo

/-- A register word with a field replaced. -/
def fput (w : Word) (hi lo v : Nat) : Word := BitVec.ofNat 32 (putBits w.toNat hi lo v)

/-- The two's-complement reading of the low n bits of a number. -/
def sx (n w : Nat) : Int :=
  let r := w % 2 ^ n
  if r < 2 ^ (n - 1) then (r : Int) else (r : Int) - 2 ^ n

/-- The n-bit two's-complement code of an integer. -/
def code (n : Nat) (x : Int) : Nat := (x % (2 ^ n : Int)).toNat

/-- Clamp into a closed range. -/
def clampI (lo hi x : Int) : Int := if x < lo then lo else if hi < x then hi else x

/-- Clamp into the n-bit two's-complement range. -/
def satS (n : Nat) (x : Int) : Int := clampI (-(2 ^ (n - 1))) (2 ^ (n - 1) - 1) x

/-- Does the n-bit two's-complement range hold the value? -/
def fitsS (n : Nat) (x : Int) : Bool := decide (-(2 ^ (n - 1)) ≤ x) && decide (x < 2 ^ (n - 1))

/-- RH, the rounding of R162: the nearest integer of a quotient, halves upward. -/
def rh (num : Int) (den : Nat) : Int := (2 * num + den) / (2 * (den : Int))

/-- RH of x over a power of two. -/
def rhShift (x : Int) (k : Nat) : Int := rh x (2 ^ k)

/-- RN: the nearest integer of a quotient, halves away from zero. -/
def rn (num : Int) (den : Nat) : Int :=
  if 0 ≤ num then rh num den else -(rh (-num) den)

/-- Ceiling of m / 16: the block boundary of a named MSI (R11). -/
def ceil16 (m : Nat) : Nat := (m + 15) / 16

/-- The signed compact difference of R13. -/
def cmpDiff (a b : Nat) : Int := sx 32 (a + 2 ^ 32 - b % 2 ^ 32)

/-- The exact sum of two fractions, in lowest terms. -/
def fracAdd (a b : Frac) : Frac :=
  let n := a.num * b.den + b.num * a.den
  let d := a.den * b.den
  let g := Nat.gcd n.natAbs d
  ⟨n / g, d / g⟩

/-- The exact product of a fraction and an integer. -/
def fracMulI (a : Frac) (k : Int) : Frac :=
  let n := a.num * k
  let g := Nat.gcd n.natAbs a.den
  ⟨n / g, a.den / g⟩

/-- The little-endian number of a byte string. -/
def leNat : List Byte → Nat
  | [] => 0
  | b :: bs => b.toNat + 256 * leNat bs

/-- n little-endian bytes of a number. -/
def leBytes : Nat → Nat → List Byte
  | 0, _ => []
  | n + 1, w => BitVec.ofNat 8 w :: leBytes n (w / 256)

/-- The big-endian number of a byte string. -/
def beNat (bs : List Byte) : Nat := bs.foldl (fun a b => 256 * a + b.toNat) 0

/-- n big-endian bytes of a number. -/
def beBytes (n w : Nat) : List Byte := (leBytes n w).reverse

/-- len bytes of a string from an offset. -/
def slice (bs : List Byte) (off len : Nat) : List Byte := (bs.drop off).take len

/-- The little-endian number of len bytes at an offset. -/
def leAt (bs : List Byte) (off len : Nat) : Nat := leNat (slice bs off len)

/-- One step of a reflected CRC: shift out one bit. -/
def crcBit (poly c : Nat) : Nat := if c % 2 = 1 then (c / 2) ^^^ poly else c / 2

/-- A reflected CRC over one byte. -/
def crcByte (poly c : Nat) (b : Byte) : Nat :=
  crcBit poly (crcBit poly (crcBit poly (crcBit poly (crcBit poly (crcBit poly (crcBit poly (crcBit poly
    (c ^^^ b.toNat))))))))

/-- The running register of a reflected CRC over a string. -/
def crcRun (poly : Nat) : Nat → List Byte → Nat
  | c, [] => c
  | c, b :: bs => crcRun poly (crcByte poly c b) bs

/-- CRC-32C of R65 (polynomial 0x1EDC_6F41, reflected 0x82F6_3B78). -/
def crc32c (bs : List Byte) : Nat := crcRun 0x82F63B78 0xFFFFFFFF bs ^^^ 0xFFFFFFFF

/-- Two audio samples of 36 bits in one 72-bit word (R16): the earlier in bits [35:0]. -/
def packPair (a b : Int) : Nat := code 36 a + 2 ^ 36 * code 36 b

/-- The two samples of a 72-bit word (R16). -/
def unpackPair (w : Nat) : Int × Int := (sx 36 w, sx 36 (w / 2 ^ 36))

/-- A fade weight num/den applied to an LSB count as one exact product, rounded once with RH (R509). -/
def fade (x : Int) (num den : Nat) : Int := rh (x * num) den

end Sys2Proof
end

