-- ==== Sys2Proof/Machine/Regs.lean ====
section
/-! DEFINITION. The register map: every register of the tables of spec/23_register_index.md (R497 to R499) and of the
block chapters, by its BAR0 offset (R21), with its fields, its access masks (R18) and its reset value.  A register that
exists once per selected channel (SPK_SEL) has one copy per channel at offsets from 0x100_0000 on, outside BAR0. -/

namespace Sys2Proof


/-! Block Sys: offsets. -/
namespace R
def SYS_STAT : Nat := 0x0
def SYS_MASK : Nat := 0x4
def SYS_RST_CAUSE : Nat := 0x8
def SYS_RST_CMD : Nat := 0xc
def SYS_ID : Nat := 0x10
def SYS_REV : Nat := 0x14
def SYS_CTL : Nat := 0x18
def SYS_IRQ_EN : Nat := 0x1c
def SYS_PAGE (i : Nat) : Nat := 0x100 + 4 * i
def SYS_GPIO_FN (i : Nat) : Nat := 0x200 + 4 * i
def SYS_GPIO_OUT : Nat := 0x210
def SYS_GPIO_IN : Nat := 0x214
def SYS_DMA_BASE_LO : Nat := 0x300
def SYS_DMA_BASE_HI : Nat := 0x304
def SYS_DMA_SIZE : Nat := 0x308
def SYS_DMA_TAIL : Nat := 0x30c
def SYS_DMA_HEAD : Nat := 0x310
def SYS_CLK_STAT : Nat := 0x400
def SYS_TEMP : Nat := 0x404
def SYS_TEMP_MAX : Nat := 0x408
def SYS_THERM_CFG : Nat := 0x40c
def SYS_PWR_STATE : Nat := 0x410
end R

/-! Block Sys: fields. -/
namespace F
def SYS_STAT_SUPPLY : Fld := ⟨R.SYS_STAT, 5, 5⟩
def SYS_STAT_CLK_FAIL : Fld := ⟨R.SYS_STAT, 4, 4⟩
def SYS_STAT_THERM_TRIP : Fld := ⟨R.SYS_STAT, 3, 3⟩
def SYS_STAT_THERM_CRIT : Fld := ⟨R.SYS_STAT, 2, 2⟩
def SYS_STAT_THERM_WARN : Fld := ⟨R.SYS_STAT, 1, 1⟩
def SYS_STAT_RESET : Fld := ⟨R.SYS_STAT, 0, 0⟩
def SYS_MASK_SUPPLY : Fld := ⟨R.SYS_MASK, 5, 5⟩
def SYS_MASK_CLK_FAIL : Fld := ⟨R.SYS_MASK, 4, 4⟩
def SYS_MASK_THERM_TRIP : Fld := ⟨R.SYS_MASK, 3, 3⟩
def SYS_MASK_THERM_CRIT : Fld := ⟨R.SYS_MASK, 2, 2⟩
def SYS_MASK_THERM_WARN : Fld := ⟨R.SYS_MASK, 1, 1⟩
def SYS_MASK_RESET : Fld := ⟨R.SYS_MASK, 0, 0⟩
def SYS_RST_CAUSE_THERM : Fld := ⟨R.SYS_RST_CAUSE, 4, 4⟩
def SYS_RST_CAUSE_SW_FULL : Fld := ⟨R.SYS_RST_CAUSE, 3, 3⟩
def SYS_RST_CAUSE_SW_CORE : Fld := ⟨R.SYS_RST_CAUSE, 2, 2⟩
def SYS_RST_CAUSE_PIN : Fld := ⟨R.SYS_RST_CAUSE, 1, 1⟩
def SYS_RST_CAUSE_POR : Fld := ⟨R.SYS_RST_CAUSE, 0, 0⟩
def SYS_RST_CMD_KEY : Fld := ⟨R.SYS_RST_CMD, 31, 16⟩
def SYS_RST_CMD_OP : Fld := ⟨R.SYS_RST_CMD, 1, 0⟩
def SYS_REV_REV : Fld := ⟨R.SYS_REV, 15, 0⟩
def SYS_CTL_REMAP : Fld := ⟨R.SYS_CTL, 31, 31⟩
def SYS_CTL_CNT_HOLD : Fld := ⟨R.SYS_CTL, 30, 30⟩
def SYS_CTL_TICK : Fld := ⟨R.SYS_CTL, 3, 0⟩
def SYS_IRQ_EN_EN : Fld := ⟨R.SYS_IRQ_EN, 6, 0⟩
def SYS_PAGE_BASE (i : Nat) : Fld := ⟨R.SYS_PAGE i, 15, 0⟩
def SYS_DMA_SIZE_SIZE : Fld := ⟨R.SYS_DMA_SIZE, 12, 0⟩
def SYS_DMA_TAIL_TAIL : Fld := ⟨R.SYS_DMA_TAIL, 12, 0⟩
def SYS_DMA_HEAD_HEAD : Fld := ⟨R.SYS_DMA_HEAD, 12, 0⟩
def SYS_CLK_STAT_REF_OK : Fld := ⟨R.SYS_CLK_STAT, 31, 31⟩
def SYS_CLK_STAT_CORE_LOCK : Fld := ⟨R.SYS_CLK_STAT, 30, 30⟩
def SYS_CLK_STAT_MEDIA_LOCK : Fld := ⟨R.SYS_CLK_STAT, 29, 29⟩
def SYS_CLK_STAT_PCIE_REF_OK : Fld := ⟨R.SYS_CLK_STAT, 28, 28⟩
def SYS_CLK_STAT_DRAM_RDY : Fld := ⟨R.SYS_CLK_STAT, 27, 27⟩
def SYS_TEMP_CONV : Fld := ⟨R.SYS_TEMP, 31, 16⟩
def SYS_TEMP_CORE : Fld := ⟨R.SYS_TEMP, 15, 0⟩
def SYS_TEMP_MAX_CONV : Fld := ⟨R.SYS_TEMP_MAX, 31, 16⟩
def SYS_TEMP_MAX_CORE : Fld := ⟨R.SYS_TEMP_MAX, 15, 0⟩
def SYS_THERM_CFG_YIELD : Fld := ⟨R.SYS_THERM_CFG, 31, 31⟩
def SYS_THERM_CFG_CC_SLOW : Fld := ⟨R.SYS_THERM_CFG, 30, 30⟩
def SYS_THERM_CFG_WARN : Fld := ⟨R.SYS_THERM_CFG, 7, 0⟩
def SYS_PWR_STATE_STATE : Fld := ⟨R.SYS_PWR_STATE, 31, 29⟩
def SYS_PWR_STATE_CC_SLOW : Fld := ⟨R.SYS_PWR_STATE, 28, 28⟩
end F

/-- Rows of block Sys: base, instances, reset value, then the RW, RWL, W1C, RCL and WO masks. -/
def rowsSys : List RegRow :=
  [⟨0x0, [], 0x1, 0x0, 0x0, 0x3f, 0x0, 0x0⟩,
   ⟨0x4, [], 0x0, 0x3f, 0x0, 0x0, 0x0, 0x0⟩,
   ⟨0x8, [], 0x1, 0x0, 0x0, 0x1f, 0x0, 0x0⟩,
   ⟨0xc, [], 0x0, 0x0, 0x0, 0x0, 0x0, 0xffff0003⟩,
   ⟨0x10, [], 0x464d2048, 0x0, 0x0, 0x0, 0x0, 0x0⟩,
   ⟨0x14, [], 0x0, 0x0, 0x0, 0x0, 0x0, 0x0⟩,
   ⟨0x18, [], 0xc, 0xc000000f, 0x0, 0x0, 0x0, 0x0⟩,
   ⟨0x1c, [], 0x1, 0x7f, 0x0, 0x0, 0x0, 0x0⟩,
   ⟨0x100, [], 0x1000, 0xffff, 0x0, 0x0, 0x0, 0x0⟩,
   ⟨0x104, [], 0x1001, 0xffff, 0x0, 0x0, 0x0, 0x0⟩,
   ⟨0x108, [], 0x1002, 0xffff, 0x0, 0x0, 0x0, 0x0⟩,
   ⟨0x10c, [], 0x1003, 0xffff, 0x0, 0x0, 0x0, 0x0⟩,
   ⟨0x110, [], 0x1004, 0xffff, 0x0, 0x0, 0x0, 0x0⟩,
   ⟨0x114, [], 0x1005, 0xffff, 0x0, 0x0, 0x0, 0x0⟩,
   ⟨0x118, [], 0x1006, 0xffff, 0x0, 0x0, 0x0, 0x0⟩,
   ⟨0x11c, [], 0x1007, 0xffff, 0x0, 0x0, 0x0, 0x0⟩,
   ⟨0x120, [], 0x1008, 0xffff, 0x0, 0x0, 0x0, 0x0⟩,
   ⟨0x124, [], 0x1009, 0xffff, 0x0, 0x0, 0x0, 0x0⟩,
   ⟨0x128, [], 0x100a, 0xffff, 0x0, 0x0, 0x0, 0x0⟩,
   ⟨0x12c, [], 0x100b, 0xffff, 0x0, 0x0, 0x0, 0x0⟩,
   ⟨0x130, [], 0x100c, 0xffff, 0x0, 0x0, 0x0, 0x0⟩,
   ⟨0x134, [], 0x100d, 0xffff, 0x0, 0x0, 0x0, 0x0⟩,
   ⟨0x138, [], 0x100e, 0xffff, 0x0, 0x0, 0x0, 0x0⟩,
   ⟨0x13c, [], 0x100f, 0xffff, 0x0, 0x0, 0x0, 0x0⟩] ++
  [⟨0x200, [(4, 4)], 0x0, 0xffffffff, 0x0, 0x0, 0x0, 0x0⟩,
   ⟨0x210, [], 0x0, 0xffffffff, 0x0, 0x0, 0x0, 0x0⟩,
   ⟨0x214, [], 0x0, 0x0, 0x0, 0x0, 0x0, 0x0⟩,
   ⟨0x300, [], 0x0, 0xffffffff, 0x0, 0x0, 0x0, 0x0⟩,
   ⟨0x304, [], 0x0, 0xffffffff, 0x0, 0x0, 0x0, 0x0⟩,
   ⟨0x308, [], 0x0, 0x1fff, 0x0, 0x0, 0x0, 0x0⟩,
   ⟨0x30c, [], 0x0, 0x1fff, 0x0, 0x0, 0x0, 0x0⟩,
   ⟨0x310, [], 0x0, 0x0, 0x0, 0x0, 0x0, 0x0⟩,
   ⟨0x400, [], 0x0, 0x0, 0x0, 0x0, 0x0, 0x0⟩,
   ⟨0x404, [], 0x0, 0x0, 0x0, 0x0, 0x0, 0x0⟩,
   ⟨0x408, [], 0x0, 0x0, 0x0, 0x0, 0x0, 0x0⟩,
   ⟨0x40c, [], 0xc0000064, 0xc00000ff, 0x0, 0x0, 0x0, 0x0⟩,
   ⟨0x410, [], 0x0, 0x0, 0x0, 0x0, 0x0, 0x0⟩]

/-! Block Err: offsets. -/
namespace R
def ERR_STAT : Nat := 0x10000
def ERR_MASK : Nat := 0x10004
def ERR_SUM : Nat := 0x10008
def ERR_CFG : Nat := 0x1000c
def ERR_CUR : Nat := 0x10010
def ERR_CUR_SRC : Nat := 0x10014
def ERR_CUR_MSI_LO : Nat := 0x10018
def ERR_CUR_MSI_HI : Nat := 0x1001c
def ERR_ACK : Nat := 0x10020
def ERR_FATAL : Nat := 0x10028
def ERR_FATAL2 : Nat := 0x1002c
def ERR_ECC_ADDR_LO : Nat := 0x10030
def ERR_ECC_ADDR_HI : Nat := 0x10034
def ERR_LOST : Nat := 0x10040
def ERR_SUPER_CNT : Nat := 0x10044
def ERR_ECC_CORR_CNT : Nat := 0x10048
def ERR_ECC_UNC_CNT : Nat := 0x1004c
end R

/-! Block Err: fields. -/
namespace F
def ERR_STAT_FATAL : Fld := ⟨R.ERR_STAT, 3, 3⟩
def ERR_STAT_ECC_UNC : Fld := ⟨R.ERR_STAT, 2, 2⟩
def ERR_STAT_ECC_RATE : Fld := ⟨R.ERR_STAT, 1, 1⟩
def ERR_STAT_OVF : Fld := ⟨R.ERR_STAT, 0, 0⟩
def ERR_MASK_FATAL : Fld := ⟨R.ERR_MASK, 3, 3⟩
def ERR_MASK_ECC_UNC : Fld := ⟨R.ERR_MASK, 2, 2⟩
def ERR_MASK_ECC_RATE : Fld := ⟨R.ERR_MASK, 1, 1⟩
def ERR_MASK_OVF : Fld := ⟨R.ERR_MASK, 0, 0⟩
def ERR_SUM_BLOCKS : Fld := ⟨R.ERR_SUM, 25, 0⟩
def ERR_CFG_ECC_LIM : Fld := ⟨R.ERR_CFG, 31, 16⟩
def ERR_CFG_PIN_SEV : Fld := ⟨R.ERR_CFG, 5, 4⟩
def ERR_CFG_IRQ_SEV : Fld := ⟨R.ERR_CFG, 3, 2⟩
def ERR_CFG_AUTO_SEV : Fld := ⟨R.ERR_CFG, 1, 0⟩
def ERR_CUR_VALID : Fld := ⟨R.ERR_CUR, 31, 31⟩
def ERR_CUR_RESUMED : Fld := ⟨R.ERR_CUR, 30, 30⟩
def ERR_CUR_SEV : Fld := ⟨R.ERR_CUR, 29, 28⟩
def ERR_CUR_FIFO : Fld := ⟨R.ERR_CUR, 27, 22⟩
def ERR_CUR_STACK : Fld := ⟨R.ERR_CUR, 21, 20⟩
def ERR_CUR_CODE : Fld := ⟨R.ERR_CUR, 15, 0⟩
def ERR_CUR_SRC_COUNT : Fld := ⟨R.ERR_CUR_SRC, 31, 16⟩
def ERR_CUR_SRC_SRC : Fld := ⟨R.ERR_CUR_SRC, 15, 0⟩
def ERR_ACK_CODE : Fld := ⟨R.ERR_ACK, 15, 0⟩
def ERR_FATAL_CODE : Fld := ⟨R.ERR_FATAL, 15, 0⟩
def ERR_FATAL2_CODE : Fld := ⟨R.ERR_FATAL2, 15, 0⟩
end F

/-- Rows of block Err: base, instances, reset value, then the RW, RWL, W1C, RCL and WO masks. -/
def rowsErr : List RegRow :=
  [⟨0x10000, [], 0x0, 0x0, 0x0, 0xf, 0x0, 0x0⟩,
   ⟨0x10004, [], 0x0, 0xf, 0x0, 0x0, 0x0, 0x0⟩,
   ⟨0x10008, [], 0x0, 0x0, 0x0, 0x0, 0x0, 0x0⟩,
   ⟨0x1000c, [], 0x640025, 0xffff003f, 0x0, 0x0, 0x0, 0x0⟩,
   ⟨0x10010, [], 0x0, 0x0, 0x0, 0x0, 0x0, 0x0⟩,
   ⟨0x10014, [], 0x0, 0x0, 0x0, 0x0, 0x0, 0x0⟩,
   ⟨0x10018, [], 0x0, 0x0, 0x0, 0x0, 0x0, 0x0⟩,
   ⟨0x1001c, [], 0x0, 0x0, 0x0, 0x0, 0x0, 0x0⟩,
   ⟨0x10020, [], 0x0, 0x0, 0x0, 0x0, 0x0, 0xffff⟩,
   ⟨0x10028, [], 0x0, 0x0, 0x0, 0x0, 0x0, 0x0⟩,
   ⟨0x1002c, [], 0x0, 0x0, 0x0, 0x0, 0x0, 0x0⟩,
   ⟨0x10030, [], 0x0, 0x0, 0x0, 0x0, 0x0, 0x0⟩,
   ⟨0x10034, [], 0x0, 0x0, 0x0, 0x0, 0x0, 0x0⟩,
   ⟨0x10040, [], 0x0, 0x0, 0x0, 0x0, 0xffffffff, 0x0⟩,
   ⟨0x10044, [], 0x0, 0x0, 0x0, 0x0, 0xffffffff, 0x0⟩,
   ⟨0x10048, [], 0x0, 0x0, 0x0, 0x0, 0xffffffff, 0x0⟩,
   ⟨0x1004c, [], 0x0, 0x0, 0x0, 0x0, 0xffffffff, 0x0⟩]

/-! Block Jnl: offsets. -/
namespace R
def JNL_CTL : Nat := 0x10800
def JNL_CFG : Nat := 0x10804
def JNL_NEXT : Nat := 0x10808
def JNL_SEL : Nat := 0x1080c
def JNL_E0 : Nat := 0x10810
def JNL_E1 : Nat := 0x10814
def JNL_E2 : Nat := 0x10818
def JNL_E3 : Nat := 0x1081c
def JNL_MISSED : Nat := 0x10820
def JNL_WRAP_CNT : Nat := 0x10824
end R

/-! Block Jnl: fields. -/
namespace F
def JNL_CTL_FREEZE : Fld := ⟨R.JNL_CTL, 0, 0⟩
def JNL_CFG_FRZ_MAX : Fld := ⟨R.JNL_CFG, 31, 20⟩
def JNL_CFG_FRZ_SEV : Fld := ⟨R.JNL_CFG, 17, 16⟩
def JNL_CFG_POST : Fld := ⟨R.JNL_CFG, 7, 0⟩
def JNL_E2_SRC : Fld := ⟨R.JNL_E2, 31, 28⟩
def JNL_E2_KIND : Fld := ⟨R.JNL_E2, 27, 24⟩
def JNL_E2_ADDR : Fld := ⟨R.JNL_E2, 23, 0⟩
end F

/-- Rows of block Jnl: base, instances, reset value, then the RW, RWL, W1C, RCL and WO masks. -/
def rowsJnl : List RegRow :=
  [⟨0x10800, [], 0x0, 0x1, 0x0, 0x0, 0x0, 0x0⟩,
   ⟨0x10804, [], 0x3c30000, 0xfff300ff, 0x0, 0x0, 0x0, 0x0⟩,
   ⟨0x10808, [], 0x0, 0x0, 0x0, 0x0, 0x0, 0x0⟩,
   ⟨0x1080c, [], 0x0, 0xffffffff, 0x0, 0x0, 0x0, 0x0⟩,
   ⟨0x10810, [], 0x0, 0x0, 0x0, 0x0, 0x0, 0x0⟩,
   ⟨0x10814, [], 0x0, 0x0, 0x0, 0x0, 0x0, 0x0⟩,
   ⟨0x10818, [], 0xf0000000, 0x0, 0x0, 0x0, 0x0, 0x0⟩,
   ⟨0x1081c, [], 0x0, 0x0, 0x0, 0x0, 0x0, 0x0⟩,
   ⟨0x10820, [], 0x0, 0x0, 0x0, 0x0, 0xffffffff, 0x0⟩,
   ⟨0x10824, [], 0x0, 0x0, 0x0, 0x0, 0xffffffff, 0x0⟩]

/-! Block Pat: offsets. -/
namespace R
def PAT_STAT : Nat := 0x20000
def PAT_MASK : Nat := 0x20004
def PAT_STATE : Nat := 0x20008
def PAT_CMD : Nat := 0x2000c
def PAT_SRC : Nat := 0x20010
def PAT_LEN : Nat := 0x20014
def PAT_MSI_LO : Nat := 0x20018
def PAT_MSI_HI : Nat := 0x2001c
def PAT_RESULT : Nat := 0x20020
def PAT_VERR : Nat := 0x20024
def PAT_VREC : Nat := 0x20028
def PAT_STG_CRC : Nat := 0x2002c
def PAT_STG_ID_LO : Nat := 0x20030
def PAT_STG_ID_HI : Nat := 0x20034
def PAT_LIVE_ID_LO : Nat := 0x20038
def PAT_LIVE_ID_HI : Nat := 0x2003c
def PAT_LIVE_CRC : Nat := 0x20040
def PAT_POUR_AT_LO : Nat := 0x20044
def PAT_POUR_AT_HI : Nat := 0x20048
def PAT_SLOT (i : Nat) : Nat := 0x20050 + 4 * i
def PAT_POUR_DISC : Nat := 0x20060
def PAT_SHED : Nat := 0x20064
end R

/-! Block Pat: fields. -/
namespace F
def PAT_STAT_FALLBACK : Fld := ⟨R.PAT_STAT, 7, 7⟩
def PAT_STAT_SHED : Fld := ⟨R.PAT_STAT, 6, 6⟩
def PAT_STAT_AMD_APPLIED : Fld := ⟨R.PAT_STAT, 5, 5⟩
def PAT_STAT_STOPPED : Fld := ⟨R.PAT_STAT, 4, 4⟩
def PAT_STAT_POURED : Fld := ⟨R.PAT_STAT, 3, 3⟩
def PAT_STAT_VERR : Fld := ⟨R.PAT_STAT, 2, 2⟩
def PAT_STAT_REFUSED : Fld := ⟨R.PAT_STAT, 1, 1⟩
def PAT_STAT_DONE : Fld := ⟨R.PAT_STAT, 0, 0⟩
def PAT_MASK_FALLBACK : Fld := ⟨R.PAT_MASK, 7, 7⟩
def PAT_MASK_SHED : Fld := ⟨R.PAT_MASK, 6, 6⟩
def PAT_MASK_AMD_APPLIED : Fld := ⟨R.PAT_MASK, 5, 5⟩
def PAT_MASK_STOPPED : Fld := ⟨R.PAT_MASK, 4, 4⟩
def PAT_MASK_POURED : Fld := ⟨R.PAT_MASK, 3, 3⟩
def PAT_MASK_VERR : Fld := ⟨R.PAT_MASK, 2, 2⟩
def PAT_MASK_REFUSED : Fld := ⟨R.PAT_MASK, 1, 1⟩
def PAT_MASK_DONE : Fld := ⟨R.PAT_MASK, 0, 0⟩
def PAT_STATE_RATE : Fld := ⟨R.PAT_STATE, 12, 12⟩
def PAT_STATE_STORING : Fld := ⟨R.PAT_STATE, 10, 10⟩
def PAT_STATE_AMD_PEND : Fld := ⟨R.PAT_STATE, 9, 9⟩
def PAT_STATE_BUSY : Fld := ⟨R.PAT_STATE, 8, 8⟩
def PAT_STATE_LIVE : Fld := ⟨R.PAT_STATE, 6, 4⟩
def PAT_STATE_STG : Fld := ⟨R.PAT_STATE, 3, 0⟩
def PAT_CMD_AUTO_EN : Fld := ⟨R.PAT_CMD, 12, 12⟩
def PAT_CMD_SLOT : Fld := ⟨R.PAT_CMD, 9, 8⟩
def PAT_CMD_CMD : Fld := ⟨R.PAT_CMD, 3, 0⟩
def PAT_RESULT_AMD_ID : Fld := ⟨R.PAT_RESULT, 31, 16⟩
def PAT_RESULT_REASON : Fld := ⟨R.PAT_RESULT, 15, 8⟩
def PAT_RESULT_CMD : Fld := ⟨R.PAT_RESULT, 3, 0⟩
def PAT_VERR_REASON : Fld := ⟨R.PAT_VERR, 23, 16⟩
def PAT_VERR_SECT : Fld := ⟨R.PAT_VERR, 12, 0⟩
def PAT_SLOT_VALID (i : Nat) : Fld := ⟨R.PAT_SLOT i, 31, 31⟩
def PAT_SLOT_AUTO (i : Nat) : Fld := ⟨R.PAT_SLOT i, 30, 30⟩
def PAT_SLOT_LEN_KIB (i : Nat) : Fld := ⟨R.PAT_SLOT i, 23, 0⟩
def PAT_SHED_OBJECTS : Fld := ⟨R.PAT_SHED, 11, 0⟩
end F

/-- Rows of block Pat: base, instances, reset value, then the RW, RWL, W1C, RCL and WO masks. -/
def rowsPat : List RegRow :=
  [⟨0x20000, [], 0x0, 0x0, 0x0, 0xff, 0x0, 0x0⟩,
   ⟨0x20004, [], 0x0, 0xff, 0x0, 0x0, 0x0, 0x0⟩,
   ⟨0x20008, [], 0x0, 0x0, 0x0, 0x0, 0x0, 0x0⟩,
   ⟨0x2000c, [], 0x0, 0x0, 0x0, 0x0, 0x0, 0x130f⟩,
   ⟨0x20010, [], 0x0, 0xffffffff, 0x0, 0x0, 0x0, 0x0⟩,
   ⟨0x20014, [], 0x0, 0xffffffff, 0x0, 0x0, 0x0, 0x0⟩,
   ⟨0x20018, [], 0x0, 0xffffffff, 0x0, 0x0, 0x0, 0x0⟩,
   ⟨0x2001c, [], 0x0, 0xffffffff, 0x0, 0x0, 0x0, 0x0⟩,
   ⟨0x20020, [], 0x0, 0x0, 0x0, 0x0, 0x0, 0x0⟩,
   ⟨0x20024, [], 0x0, 0x0, 0x0, 0x0, 0x0, 0x0⟩,
   ⟨0x20028, [], 0x0, 0x0, 0x0, 0x0, 0x0, 0x0⟩,
   ⟨0x2002c, [], 0x0, 0x0, 0x0, 0x0, 0x0, 0x0⟩,
   ⟨0x20030, [], 0x0, 0x0, 0x0, 0x0, 0x0, 0x0⟩,
   ⟨0x20034, [], 0x0, 0x0, 0x0, 0x0, 0x0, 0x0⟩,
   ⟨0x20038, [], 0x0, 0x0, 0x0, 0x0, 0x0, 0x0⟩,
   ⟨0x2003c, [], 0x0, 0x0, 0x0, 0x0, 0x0, 0x0⟩,
   ⟨0x20040, [], 0x0, 0x0, 0x0, 0x0, 0x0, 0x0⟩,
   ⟨0x20044, [], 0x0, 0x0, 0x0, 0x0, 0x0, 0x0⟩,
   ⟨0x20048, [], 0x0, 0x0, 0x0, 0x0, 0x0, 0x0⟩,
   ⟨0x20050, [(4, 4)], 0x0, 0x0, 0x0, 0x0, 0x0, 0x0⟩,
   ⟨0x20060, [], 0x0, 0x0, 0x0, 0x0, 0xffffffff, 0x0⟩,
   ⟨0x20064, [], 0x0, 0x0, 0x0, 0x0, 0x0, 0x0⟩]

/-! Block Seq: offsets. -/
namespace R
def SEQ_STAT : Nat := 0x30000
def SEQ_MASK : Nat := 0x30004
def SEQ_CFG : Nat := 0x30008
def SEQ_CAL : Nat := 0x3000c
def SEQ_SPARE : Nat := 0x30010
def SEQ_HO_CTL : Nat := 0x30014
def SEQ_HO_MSI_LO : Nat := 0x30018
def SEQ_HO_MSI_HI : Nat := 0x3001c
def SEQ_HO_STAT : Nat := 0x30020
def SEQ_OVR_CNT : Nat := 0x30024
def SEQ_MISS_CNT : Nat := 0x30028
def SEQ_DRIFT_CNT : Nat := 0x3002c
def SEQ_SEAT (i : Nat) : Nat := 0x30040 + 4 * i
def SEQ_FSEAT (i : Nat) : Nat := 0x30080 + 4 * i
def SEQ_TSTAT (i : Nat) : Nat := 0x30100 + 4 * i
def SEQ_TMAX (i : Nat) : Nat := 0x30180 + 4 * i
def SEQ_TEXP (i : Nat) : Nat := 0x30200 + 4 * i
end R

/-! Block Seq: fields. -/
namespace F
def SEQ_STAT_TILE_FAIL : Fld := ⟨R.SEQ_STAT, 7, 7⟩
def SEQ_STAT_HO_ABORT : Fld := ⟨R.SEQ_STAT, 6, 6⟩
def SEQ_STAT_HO_DONE : Fld := ⟨R.SEQ_STAT, 5, 5⟩
def SEQ_STAT_MARGIN : Fld := ⟨R.SEQ_STAT, 4, 4⟩
def SEQ_STAT_DRIFT : Fld := ⟨R.SEQ_STAT, 3, 3⟩
def SEQ_STAT_AT_MISS : Fld := ⟨R.SEQ_STAT, 2, 2⟩
def SEQ_STAT_SLOT_MISS : Fld := ⟨R.SEQ_STAT, 1, 1⟩
def SEQ_STAT_OVR : Fld := ⟨R.SEQ_STAT, 0, 0⟩
def SEQ_MASK_TILE_FAIL : Fld := ⟨R.SEQ_MASK, 7, 7⟩
def SEQ_MASK_HO_ABORT : Fld := ⟨R.SEQ_MASK, 6, 6⟩
def SEQ_MASK_HO_DONE : Fld := ⟨R.SEQ_MASK, 5, 5⟩
def SEQ_MASK_MARGIN : Fld := ⟨R.SEQ_MASK, 4, 4⟩
def SEQ_MASK_DRIFT : Fld := ⟨R.SEQ_MASK, 3, 3⟩
def SEQ_MASK_AT_MISS : Fld := ⟨R.SEQ_MASK, 2, 2⟩
def SEQ_MASK_SLOT_MISS : Fld := ⟨R.SEQ_MASK, 1, 1⟩
def SEQ_MASK_OVR : Fld := ⟨R.SEQ_MASK, 0, 0⟩
def SEQ_CFG_WARN_PCT : Fld := ⟨R.SEQ_CFG, 22, 16⟩
def SEQ_CFG_OVR_LIMIT : Fld := ⟨R.SEQ_CFG, 1, 0⟩
def SEQ_CAL_RENDER_ROWS : Fld := ⟨R.SEQ_CAL, 30, 16⟩
def SEQ_CAL_ROWS : Fld := ⟨R.SEQ_CAL, 14, 0⟩
def SEQ_SPARE_PRESENT : Fld := ⟨R.SEQ_SPARE, 31, 31⟩
def SEQ_SPARE_USABLE : Fld := ⟨R.SEQ_SPARE, 20, 16⟩
def SEQ_SPARE_SPARE : Fld := ⟨R.SEQ_SPARE, 4, 0⟩
def SEQ_HO_CTL_GO : Fld := ⟨R.SEQ_HO_CTL, 31, 31⟩
def SEQ_HO_CTL_SEAT : Fld := ⟨R.SEQ_HO_CTL, 3, 0⟩
def SEQ_HO_STAT_STATE : Fld := ⟨R.SEQ_HO_STAT, 31, 28⟩
def SEQ_HO_STAT_SEAT : Fld := ⟨R.SEQ_HO_STAT, 27, 24⟩
def SEQ_HO_STAT_FROM : Fld := ⟨R.SEQ_HO_STAT, 20, 16⟩
def SEQ_HO_STAT_TO : Fld := ⟨R.SEQ_HO_STAT, 12, 8⟩
def SEQ_HO_STAT_REASON : Fld := ⟨R.SEQ_HO_STAT, 7, 0⟩
def SEQ_SEAT_VALID (i : Nat) : Fld := ⟨R.SEQ_SEAT i, 31, 31⟩
def SEQ_SEAT_TILE (i : Nat) : Fld := ⟨R.SEQ_SEAT i, 4, 0⟩
def SEQ_FSEAT_VALID (i : Nat) : Fld := ⟨R.SEQ_FSEAT i, 31, 31⟩
def SEQ_FSEAT_TILE (i : Nat) : Fld := ⟨R.SEQ_FSEAT i, 4, 0⟩
def SEQ_TSTAT_STATE (i : Nat) : Fld := ⟨R.SEQ_TSTAT i, 31, 29⟩
def SEQ_TSTAT_BANK (i : Nat) : Fld := ⟨R.SEQ_TSTAT i, 28, 28⟩
def SEQ_TSTAT_FB (i : Nat) : Fld := ⟨R.SEQ_TSTAT i, 27, 27⟩
def SEQ_TSTAT_SEAT (i : Nat) : Fld := ⟨R.SEQ_TSTAT i, 26, 23⟩
def SEQ_TSTAT_LAST_END (i : Nat) : Fld := ⟨R.SEQ_TSTAT i, 19, 0⟩
def SEQ_TMAX_MAX_END (i : Nat) : Fld := ⟨R.SEQ_TMAX i, 19, 0⟩
def SEQ_TEXP_END_CYCLE (i : Nat) : Fld := ⟨R.SEQ_TEXP i, 19, 0⟩
end F

/-- Rows of block Seq: base, instances, reset value, then the RW, RWL, W1C, RCL and WO masks. -/
def rowsSeq : List RegRow :=
  [⟨0x30000, [], 0x0, 0x0, 0x0, 0xff, 0x0, 0x0⟩,
   ⟨0x30004, [], 0x0, 0xff, 0x0, 0x0, 0x0, 0x0⟩,
   ⟨0x30008, [], 0x5f0002, 0x7f0003, 0x0, 0x0, 0x0, 0x0⟩,
   ⟨0x3000c, [], 0x30d4, 0x0, 0x0, 0x0, 0x0, 0x0⟩,
   ⟨0x30010, [], 0x0, 0x0, 0x0, 0x0, 0x0, 0x0⟩,
   ⟨0x30014, [], 0x0, 0x0, 0x0, 0x0, 0x0, 0x8000000f⟩,
   ⟨0x30018, [], 0x0, 0xffffffff, 0x0, 0x0, 0x0, 0x0⟩,
   ⟨0x3001c, [], 0x0, 0xffffffff, 0x0, 0x0, 0x0, 0x0⟩,
   ⟨0x30020, [], 0x0, 0x0, 0x0, 0x0, 0x0, 0x0⟩,
   ⟨0x30024, [], 0x0, 0x0, 0x0, 0x0, 0xffffffff, 0x0⟩,
   ⟨0x30028, [], 0x0, 0x0, 0x0, 0x0, 0xffffffff, 0x0⟩,
   ⟨0x3002c, [], 0x0, 0x0, 0x0, 0x0, 0xffffffff, 0x0⟩,
   ⟨0x30040, [(4, 16)], 0x0, 0x0, 0x0, 0x0, 0x0, 0x0⟩,
   ⟨0x30080, [(4, 15)], 0x0, 0x0, 0x0, 0x0, 0x0, 0x0⟩,
   ⟨0x30100, [(4, 17)], 0x0, 0x0, 0x0, 0x0, 0x0, 0x0⟩,
   ⟨0x30180, [(4, 17)], 0x0, 0x0, 0x0, 0x0, 0xfffff, 0x0⟩,
   ⟨0x30200, [(4, 17)], 0x0, 0x0, 0x0, 0x0, 0x0, 0x0⟩]

/-! Block Tsu: offsets. -/
namespace R
def TSU_STAT : Nat := 0x40000
def TSU_MASK : Nat := 0x40004
def TSU_CFG : Nat := 0x40008
def TSU_ML_CFG : Nat := 0x4000c
def TSU_ML_STATE : Nat := 0x40010
def TSU_ML_FREQ : Nat := 0x40014
def TSU_PPSI_NS : Nat := 0x40018
def TSU_PPSI_FRAC : Nat := 0x4001c
def TSU_PPSI_SLO : Nat := 0x40020
def TSU_PPSI_SHI : Nat := 0x40024
def TSU_TB_CFG (i : Nat) : Nat := 0x40100 + 64 * i
def TSU_TB_STATE (i : Nat) : Nat := 0x40104 + 64 * i
def TSU_TB_NS (i : Nat) : Nat := 0x40108 + 64 * i
def TSU_TB_FRAC (i : Nat) : Nat := 0x4010c + 64 * i
def TSU_TB_SLO (i : Nat) : Nat := 0x40110 + 64 * i
def TSU_TB_SHI (i : Nat) : Nat := 0x40114 + 64 * i
def TSU_TB_FADJ (i : Nat) : Nat := 0x40118 + 64 * i
def TSU_TB_STEP_NS (i : Nat) : Nat := 0x4011c + 64 * i
def TSU_TB_STEP_SEC (i : Nat) : Nat := 0x40120 + 64 * i
def TSU_TB_CMD (i : Nat) : Nat := 0x40124 + 64 * i
def TSU_TB_OFS (i : Nat) : Nat := 0x40128 + 64 * i
def TSU_TB_MEAS (i : Nat) : Nat := 0x4012c + 64 * i
def TSU_TB_SERVO (i : Nat) : Nat := 0x40130 + 64 * i
def TSU_TB_TMO (i : Nat) : Nat := 0x40134 + 64 * i
def TSU_TB_RATE (i : Nat) : Nat := 0x40138 + 64 * i
def TSU_TB_PRIO (i : Nat) : Nat := 0x4013c + 64 * i
def TSU_TB_LOSS_CNT (i : Nat) : Nat := 0x40300 + 8 * i
def TSU_TB_GLITCH_CNT (i : Nat) : Nat := 0x40304 + 8 * i
def TSU_PCOR25 (i : Nat) : Nat := 0x40404 + 16 * i
def TSU_PCOR10 (i : Nat) : Nat := 0x40408 + 16 * i
def TSU_PCOR1 (i : Nat) : Nat := 0x4040c + 16 * i
def TSU_MSI_LO : Nat := 0x40800
def TSU_MSI_HI : Nat := 0x40804
def TSU_MEDIA_CFG : Nat := 0x40808
def TSU_MEPOCH_LO : Nat := 0x4080c
def TSU_MEPOCH_HI : Nat := 0x40810
def TSU_APPLY_WIN : Nat := 0x40814
def TSU_LEAD : Nat := 0x40818
def TSU_MPHASE : Nat := 0x4081c
def TSU_MPH_LIM : Nat := 0x40820
def TSU_APL_LATE : Nat := 0x40824
def TSU_APL_EARLY : Nat := 0x40828
def TSU_APL_GRACE : Nat := 0x4082c
end R

/-! Block Tsu: fields. -/
namespace F
def TSU_STAT_CONFLICT : Fld := ⟨R.TSU_STAT, 9, 9⟩
def TSU_STAT_PPS_IN : Fld := ⟨R.TSU_STAT, 8, 8⟩
def TSU_STAT_ML_CLAMP : Fld := ⟨R.TSU_STAT, 7, 7⟩
def TSU_STAT_MPH_EXC : Fld := ⟨R.TSU_STAT, 6, 6⟩
def TSU_STAT_TB_STEP : Fld := ⟨R.TSU_STAT, 5, 5⟩
def TSU_STAT_REINSTATED : Fld := ⟨R.TSU_STAT, 4, 4⟩
def TSU_STAT_RATE_CHG : Fld := ⟨R.TSU_STAT, 3, 3⟩
def TSU_STAT_GLITCH : Fld := ⟨R.TSU_STAT, 2, 2⟩
def TSU_STAT_REF_LOSS : Fld := ⟨R.TSU_STAT, 1, 1⟩
def TSU_STAT_LOCK : Fld := ⟨R.TSU_STAT, 0, 0⟩
def TSU_MASK_CONFLICT : Fld := ⟨R.TSU_MASK, 9, 9⟩
def TSU_MASK_PPS_IN : Fld := ⟨R.TSU_MASK, 8, 8⟩
def TSU_MASK_ML_CLAMP : Fld := ⟨R.TSU_MASK, 7, 7⟩
def TSU_MASK_MPH_EXC : Fld := ⟨R.TSU_MASK, 6, 6⟩
def TSU_MASK_TB_STEP : Fld := ⟨R.TSU_MASK, 5, 5⟩
def TSU_MASK_REINSTATED : Fld := ⟨R.TSU_MASK, 4, 4⟩
def TSU_MASK_RATE_CHG : Fld := ⟨R.TSU_MASK, 3, 3⟩
def TSU_MASK_GLITCH : Fld := ⟨R.TSU_MASK, 2, 2⟩
def TSU_MASK_REF_LOSS : Fld := ⟨R.TSU_MASK, 1, 1⟩
def TSU_MASK_LOCK : Fld := ⟨R.TSU_MASK, 0, 0⟩
def TSU_CFG_PPS_OUT_EN : Fld := ⟨R.TSU_CFG, 31, 31⟩
def TSU_CFG_PPS_TB : Fld := ⟨R.TSU_CFG, 29, 28⟩
def TSU_CFG_PPS_WIDTH : Fld := ⟨R.TSU_CFG, 25, 16⟩
def TSU_CFG_WCLK_DIV : Fld := ⟨R.TSU_CFG, 9, 8⟩
def TSU_CFG_PPSI_TB : Fld := ⟨R.TSU_CFG, 5, 4⟩
def TSU_ML_CFG_BW : Fld := ⟨R.TSU_ML_CFG, 1, 0⟩
def TSU_ML_STATE_STATE : Fld := ⟨R.TSU_ML_STATE, 31, 30⟩
def TSU_ML_STATE_SEATED : Fld := ⟨R.TSU_ML_STATE, 29, 29⟩
def TSU_ML_STATE_CLAMP : Fld := ⟨R.TSU_ML_STATE, 28, 28⟩
def TSU_ML_STATE_FOLLOW : Fld := ⟨R.TSU_ML_STATE, 1, 0⟩
def TSU_TB_CFG_SRC (i : Nat) : Fld := ⟨R.TSU_TB_CFG i, 31, 29⟩
def TSU_TB_CFG_FMT (i : Nat) : Fld := ⟨R.TSU_TB_CFG i, 28, 28⟩
def TSU_TB_CFG_PROF (i : Nat) : Fld := ⟨R.TSU_TB_CFG i, 27, 26⟩
def TSU_TB_CFG_PORT (i : Nat) : Fld := ⟨R.TSU_TB_CFG i, 25, 24⟩
def TSU_TB_CFG_SLAVE_ONLY (i : Nat) : Fld := ⟨R.TSU_TB_CFG i, 23, 23⟩
def TSU_TB_CFG_WRATE (i : Nat) : Fld := ⟨R.TSU_TB_CFG i, 22, 22⟩
def TSU_TB_CFG_DOMAIN (i : Nat) : Fld := ⟨R.TSU_TB_CFG i, 14, 8⟩
def TSU_TB_STATE_STATE (i : Nat) : Fld := ⟨R.TSU_TB_STATE i, 31, 29⟩
def TSU_TB_STATE_RATE_CHG (i : Nat) : Fld := ⟨R.TSU_TB_STATE i, 28, 28⟩
def TSU_TB_STATE_ROLE (i : Nat) : Fld := ⟨R.TSU_TB_STATE i, 27, 26⟩
def TSU_TB_STATE_CONFLICT (i : Nat) : Fld := ⟨R.TSU_TB_STATE i, 25, 25⟩
def TSU_TB_STATE_HOLD (i : Nat) : Fld := ⟨R.TSU_TB_STATE i, 15, 0⟩
def TSU_TB_CMD_STEP (i : Nat) : Fld := ⟨R.TSU_TB_CMD i, 0, 0⟩
def TSU_TB_SERVO_STEP_THR (i : Nat) : Fld := ⟨R.TSU_TB_SERVO i, 31, 16⟩
def TSU_TB_SERVO_KP_SH (i : Nat) : Fld := ⟨R.TSU_TB_SERVO i, 7, 4⟩
def TSU_TB_SERVO_KI_SH (i : Nat) : Fld := ⟨R.TSU_TB_SERVO i, 3, 0⟩
def TSU_TB_TMO_SYNC_TO (i : Nat) : Fld := ⟨R.TSU_TB_TMO i, 15, 8⟩
def TSU_TB_TMO_ANN_TO (i : Nat) : Fld := ⟨R.TSU_TB_TMO i, 7, 0⟩
def TSU_TB_PRIO_PRIORITY1 (i : Nat) : Fld := ⟨R.TSU_TB_PRIO i, 15, 8⟩
def TSU_TB_PRIO_PRIORITY2 (i : Nat) : Fld := ⟨R.TSU_TB_PRIO i, 7, 0⟩
def TSU_PCOR25_TX (i : Nat) : Fld := ⟨R.TSU_PCOR25 i, 31, 16⟩
def TSU_PCOR25_RX (i : Nat) : Fld := ⟨R.TSU_PCOR25 i, 15, 0⟩
def TSU_PCOR10_TX (i : Nat) : Fld := ⟨R.TSU_PCOR10 i, 31, 16⟩
def TSU_PCOR10_RX (i : Nat) : Fld := ⟨R.TSU_PCOR10 i, 15, 0⟩
def TSU_PCOR1_TX (i : Nat) : Fld := ⟨R.TSU_PCOR1 i, 31, 16⟩
def TSU_PCOR1_RX (i : Nat) : Fld := ⟨R.TSU_PCOR1 i, 15, 0⟩
def TSU_MEDIA_CFG_CMP : Fld := ⟨R.TSU_MEDIA_CFG, 12, 12⟩
def TSU_MEDIA_CFG_RATE : Fld := ⟨R.TSU_MEDIA_CFG, 8, 8⟩
def TSU_MEDIA_CFG_MTB : Fld := ⟨R.TSU_MEDIA_CFG, 1, 0⟩
def TSU_APPLY_WIN_LATE_GRACE : Fld := ⟨R.TSU_APPLY_WIN, 29, 24⟩
def TSU_APPLY_WIN_EARLY_WIN : Fld := ⟨R.TSU_APPLY_WIN, 19, 0⟩
def TSU_LEAD_MGR : Fld := ⟨R.TSU_LEAD, 9, 9⟩
def TSU_LEAD_PAIR : Fld := ⟨R.TSU_LEAD, 8, 8⟩
def TSU_LEAD_LEAD : Fld := ⟨R.TSU_LEAD, 2, 0⟩
def TSU_MPH_LIM_LIM : Fld := ⟨R.TSU_MPH_LIM, 15, 0⟩
end F

/-- Rows of block Tsu: base, instances, reset value, then the RW, RWL, W1C, RCL and WO masks. -/
def rowsTsu : List RegRow :=
  [⟨0x40000, [], 0x0, 0x0, 0x0, 0x3ff, 0x0, 0x0⟩,
   ⟨0x40004, [], 0x0, 0x3ff, 0x0, 0x0, 0x0, 0x0⟩,
   ⟨0x40008, [], 0x640100, 0xb3ff0330, 0x0, 0x0, 0x0, 0x0⟩,
   ⟨0x4000c, [], 0x1, 0x3, 0x0, 0x0, 0x0, 0x0⟩,
   ⟨0x40010, [], 0x0, 0x0, 0x0, 0x0, 0x0, 0x0⟩,
   ⟨0x40014, [], 0x0, 0x0, 0x0, 0x0, 0x0, 0x0⟩,
   ⟨0x40018, [], 0x0, 0x0, 0x0, 0x0, 0x0, 0x0⟩,
   ⟨0x4001c, [], 0x0, 0x0, 0x0, 0x0, 0x0, 0x0⟩,
   ⟨0x40020, [], 0x0, 0x0, 0x0, 0x0, 0x0, 0x0⟩,
   ⟨0x40024, [], 0x0, 0x0, 0x0, 0x0, 0x0, 0x0⟩,
   ⟨0x40100, [(64, 4)], 0x800000, 0x0, 0xffc07f00, 0x0, 0x0, 0x0⟩,
   ⟨0x40104, [(64, 4)], 0x0, 0x0, 0x0, 0x0, 0x0, 0x0⟩,
   ⟨0x40108, [(64, 4)], 0x0, 0x0, 0x0, 0x0, 0x0, 0x0⟩,
   ⟨0x4010c, [(64, 4)], 0x0, 0x0, 0x0, 0x0, 0x0, 0x0⟩,
   ⟨0x40110, [(64, 4)], 0x0, 0x0, 0x0, 0x0, 0x0, 0x0⟩,
   ⟨0x40114, [(64, 4)], 0x0, 0x0, 0x0, 0x0, 0x0, 0x0⟩,
   ⟨0x40118, [(64, 4)], 0x0, 0xffffffff, 0x0, 0x0, 0x0, 0x0⟩,
   ⟨0x4011c, [(64, 4)], 0x0, 0xffffffff, 0x0, 0x0, 0x0, 0x0⟩,
   ⟨0x40120, [(64, 4)], 0x0, 0xffffffff, 0x0, 0x0, 0x0, 0x0⟩,
   ⟨0x40124, [(64, 4)], 0x0, 0x0, 0x0, 0x0, 0x0, 0x1⟩,
   ⟨0x40128, [(64, 4)], 0x0, 0x0, 0x0, 0x0, 0x0, 0x0⟩,
   ⟨0x4012c, [(64, 4)], 0x0, 0x0, 0x0, 0x0, 0x0, 0xffffffff⟩,
   ⟨0x40130, [(64, 4)], 0x3e80036, 0xffff00ff, 0x0, 0x0, 0x0, 0x0⟩,
   ⟨0x40134, [(64, 4)], 0x303, 0xffff, 0x0, 0x0, 0x0, 0x0⟩] ++
  [⟨0x40138, [(64, 4)], 0x0, 0x0, 0x0, 0x0, 0x0, 0x0⟩,
   ⟨0x4013c, [(64, 4)], 0x8080, 0xffff, 0x0, 0x0, 0x0, 0x0⟩,
   ⟨0x40300, [(8, 4)], 0x0, 0x0, 0x0, 0x0, 0xffffffff, 0x0⟩,
   ⟨0x40304, [(8, 4)], 0x0, 0x0, 0x0, 0x0, 0xffffffff, 0x0⟩,
   ⟨0x40404, [(16, 4)], 0x23401cc, 0xffffffff, 0x0, 0x0, 0x0, 0x0⟩,
   ⟨0x40408, [(16, 4)], 0x46603e8, 0xffffffff, 0x0, 0x0, 0x0, 0x0⟩,
   ⟨0x4040c, [(16, 4)], 0x129a1368, 0xffffffff, 0x0, 0x0, 0x0, 0x0⟩,
   ⟨0x40800, [], 0x0, 0x0, 0x0, 0x0, 0x0, 0x0⟩,
   ⟨0x40804, [], 0x0, 0x0, 0x0, 0x0, 0x0, 0x0⟩,
   ⟨0x40808, [], 0x100, 0x0, 0x0, 0x0, 0x0, 0x0⟩,
   ⟨0x4080c, [], 0x0, 0x0, 0xffffffff, 0x0, 0x0, 0x0⟩,
   ⟨0x40810, [], 0x0, 0x0, 0xffffffff, 0x0, 0x0, 0x0⟩,
   ⟨0x40814, [], 0x4001770, 0x3f0fffff, 0x0, 0x0, 0x0, 0x0⟩,
   ⟨0x40818, [], 0x0, 0x0, 0x0, 0x0, 0x0, 0x0⟩,
   ⟨0x4081c, [], 0x0, 0x0, 0x0, 0x0, 0x0, 0x0⟩,
   ⟨0x40820, [], 0x10, 0xffff, 0x0, 0x0, 0x0, 0x0⟩,
   ⟨0x40824, [], 0x0, 0x0, 0x0, 0x0, 0xffffffff, 0x0⟩,
   ⟨0x40828, [], 0x0, 0x0, 0x0, 0x0, 0xffffffff, 0x0⟩,
   ⟨0x4082c, [], 0x0, 0x0, 0x0, 0x0, 0xffffffff, 0x0⟩]

/-! Block Mtx: offsets. -/
namespace R
def MTX_STAT : Nat := 0x50000
def MTX_MASK : Nat := 0x50004
def MTX_PRIO (i : Nat) : Nat := 0x50010 + 4 * i
def MTX_PRIO11 : Nat := 0x5003c
def MTX_CMD : Nat := 0x50040
def MTX_ERR_ADDR_LO : Nat := 0x50048
def MTX_ERR_ADDR_HI : Nat := 0x5004c
def MTX_ERR_INFO : Nat := 0x50050
def MTX_ABORT_CNT : Nat := 0x50060
def MTX_ERR_CNT : Nat := 0x50064
end R

/-! Block Mtx: fields. -/
namespace F
def MTX_STAT_ABORT : Fld := ⟨R.MTX_STAT, 27, 16⟩
def MTX_STAT_DECODE : Fld := ⟨R.MTX_STAT, 4, 4⟩
def MTX_STAT_PARTIAL : Fld := ⟨R.MTX_STAT, 3, 3⟩
def MTX_STAT_ERR_RESP : Fld := ⟨R.MTX_STAT, 2, 2⟩
def MTX_STAT_LIVE_WR : Fld := ⟨R.MTX_STAT, 1, 1⟩
def MTX_MASK_ABORT : Fld := ⟨R.MTX_MASK, 27, 16⟩
def MTX_MASK_DECODE : Fld := ⟨R.MTX_MASK, 4, 4⟩
def MTX_MASK_PARTIAL : Fld := ⟨R.MTX_MASK, 3, 3⟩
def MTX_MASK_ERR_RESP : Fld := ⟨R.MTX_MASK, 2, 2⟩
def MTX_MASK_LIVE_WR : Fld := ⟨R.MTX_MASK, 1, 1⟩
def MTX_CMD_RESET : Fld := ⟨R.MTX_CMD, 3, 0⟩
def MTX_ERR_ADDR_HI_ADDR : Fld := ⟨R.MTX_ERR_ADDR_HI, 7, 0⟩
def MTX_ERR_INFO_TARGET : Fld := ⟨R.MTX_ERR_INFO, 11, 8⟩
def MTX_ERR_INFO_MASTER : Fld := ⟨R.MTX_ERR_INFO, 3, 0⟩
end F

/-- Rows of block Mtx: base, instances, reset value, then the RW, RWL, W1C, RCL and WO masks. -/
def rowsMtx : List RegRow :=
  [⟨0x50000, [], 0x0, 0x0, 0x0, 0xfff001e, 0x0, 0x0⟩,
   ⟨0x50004, [], 0x0, 0xfff001e, 0x0, 0x0, 0x0, 0x0⟩,
   ⟨0x50010, [(4, 11)], 0x88888888, 0xffffffff, 0x0, 0x0, 0x0, 0x0⟩,
   ⟨0x5003c, [], 0xcccccccc, 0xffffffff, 0x0, 0x0, 0x0, 0x0⟩,
   ⟨0x50040, [], 0x0, 0x0, 0x0, 0x0, 0x0, 0xf⟩,
   ⟨0x50048, [], 0x0, 0x0, 0x0, 0x0, 0x0, 0x0⟩,
   ⟨0x5004c, [], 0x0, 0x0, 0x0, 0x0, 0x0, 0x0⟩,
   ⟨0x50050, [], 0x0, 0x0, 0x0, 0x0, 0x0, 0x0⟩,
   ⟨0x50060, [], 0x0, 0x0, 0x0, 0x0, 0xffffffff, 0x0⟩,
   ⟨0x50064, [], 0x0, 0x0, 0x0, 0x0, 0xffffffff, 0x0⟩]

/-! Block Bst: offsets. -/
namespace R
def BST_STAT : Nat := 0x60000
def BST_MASK : Nat := 0x60004
def BST_CFG : Nat := 0x60008
def BST_CMD : Nat := 0x6000c
def BST_STATE : Nat := 0x60010
def BST_MAP : Nat := 0x60014
def BST_NVMAP : Nat := 0x60018
def BST_LAST : Nat := 0x6001c
def BST_SIG_LO : Nat := 0x60020
def BST_SIG_HI : Nat := 0x60024
def BST_SLICE_CNT : Nat := 0x60040
def BST_FAIL_CNT : Nat := 0x60044
def BST_TRANS_CNT : Nat := 0x60048
def BST_ABORT_CNT : Nat := 0x6004c
def BST_HOT_CNT : Nat := 0x60050
end R

/-! Block Bst: fields. -/
namespace F
def BST_STAT_SIG_BAD : Fld := ⟨R.BST_STAT, 7, 7⟩
def BST_STAT_MAP_BAD : Fld := ⟨R.BST_STAT, 6, 6⟩
def BST_STAT_ABORT : Fld := ⟨R.BST_STAT, 5, 5⟩
def BST_STAT_NO_SPARE : Fld := ⟨R.BST_STAT, 4, 4⟩
def BST_STAT_MARKED : Fld := ⟨R.BST_STAT, 3, 3⟩
def BST_STAT_TRANSIENT : Fld := ⟨R.BST_STAT, 2, 2⟩
def BST_STAT_SLICE_DONE : Fld := ⟨R.BST_STAT, 1, 1⟩
def BST_STAT_STARTUP_DONE : Fld := ⟨R.BST_STAT, 0, 0⟩
def BST_MASK_SIG_BAD : Fld := ⟨R.BST_MASK, 7, 7⟩
def BST_MASK_MAP_BAD : Fld := ⟨R.BST_MASK, 6, 6⟩
def BST_MASK_ABORT : Fld := ⟨R.BST_MASK, 5, 5⟩
def BST_MASK_NO_SPARE : Fld := ⟨R.BST_MASK, 4, 4⟩
def BST_MASK_MARKED : Fld := ⟨R.BST_MASK, 3, 3⟩
def BST_MASK_TRANSIENT : Fld := ⟨R.BST_MASK, 2, 2⟩
def BST_MASK_SLICE_DONE : Fld := ⟨R.BST_MASK, 1, 1⟩
def BST_MASK_STARTUP_DONE : Fld := ⟨R.BST_MASK, 0, 0⟩
def BST_CFG_EN : Fld := ⟨R.BST_CFG, 31, 31⟩
def BST_CFG_TILE_EN : Fld := ⟨R.BST_CFG, 30, 30⟩
def BST_CFG_GEO_EN : Fld := ⟨R.BST_CFG, 29, 29⟩
def BST_CFG_SR_EN : Fld := ⟨R.BST_CFG, 28, 28⟩
def BST_CFG_GAP : Fld := ⟨R.BST_CFG, 15, 0⟩
def BST_CMD_REGION : Fld := ⟨R.BST_CMD, 12, 8⟩
def BST_CMD_CMD : Fld := ⟨R.BST_CMD, 3, 0⟩
def BST_STATE_STATE : Fld := ⟨R.BST_STATE, 31, 29⟩
def BST_STATE_REGION : Fld := ⟨R.BST_STATE, 20, 16⟩
def BST_STATE_NEXT_MS : Fld := ⟨R.BST_STATE, 15, 0⟩
def BST_MAP_MAP : Fld := ⟨R.BST_MAP, 25, 0⟩
def BST_NVMAP_MAP : Fld := ⟨R.BST_NVMAP, 25, 0⟩
def BST_LAST_RESULT : Fld := ⟨R.BST_LAST, 31, 30⟩
def BST_LAST_REGION : Fld := ⟨R.BST_LAST, 4, 0⟩
end F

/-- Rows of block Bst: base, instances, reset value, then the RW, RWL, W1C, RCL and WO masks. -/
def rowsBst : List RegRow :=
  [⟨0x60000, [], 0x0, 0x0, 0x0, 0xff, 0x0, 0x0⟩,
   ⟨0x60004, [], 0x0, 0xff, 0x0, 0x0, 0x0, 0x0⟩,
   ⟨0x60008, [], 0xf00001f4, 0xf000ffff, 0x0, 0x0, 0x0, 0x0⟩,
   ⟨0x6000c, [], 0x0, 0x0, 0x0, 0x0, 0x0, 0x1f0f⟩,
   ⟨0x60010, [], 0x0, 0x0, 0x0, 0x0, 0x0, 0x0⟩,
   ⟨0x60014, [], 0x0, 0x0, 0x0, 0x0, 0x0, 0x0⟩,
   ⟨0x60018, [], 0x0, 0x0, 0x0, 0x0, 0x0, 0x0⟩,
   ⟨0x6001c, [], 0x0, 0x0, 0x0, 0x0, 0x0, 0x0⟩,
   ⟨0x60020, [], 0x0, 0x0, 0x0, 0x0, 0x0, 0x0⟩,
   ⟨0x60024, [], 0x0, 0x0, 0x0, 0x0, 0x0, 0x0⟩,
   ⟨0x60040, [], 0x0, 0x0, 0x0, 0x0, 0xffffffff, 0x0⟩,
   ⟨0x60044, [], 0x0, 0x0, 0x0, 0x0, 0xffffffff, 0x0⟩,
   ⟨0x60048, [], 0x0, 0x0, 0x0, 0x0, 0xffffffff, 0x0⟩,
   ⟨0x6004c, [], 0x0, 0x0, 0x0, 0x0, 0xffffffff, 0x0⟩,
   ⟨0x60050, [], 0x0, 0x0, 0x0, 0x0, 0xffffffff, 0x0⟩]

/-! Block Clm: offsets. -/
namespace R
def CLM_STAT : Nat := 0x70000
def CLM_MASK : Nat := 0x70004
def CLM_CFG : Nat := 0x70008
def CLM_CMD : Nat := 0x7000c
def CLM_MSI_LO : Nat := 0x70010
def CLM_MSI_HI : Nat := 0x70014
def CLM_STATE : Nat := 0x70018
def CLM_WON : Nat := 0x7001c
def CLM_PEER : Nat := 0x70020
def CLM_SKEW : Nat := 0x70024
def CLM_RESULT : Nat := 0x70028
def CLM_TKO_CNT : Nat := 0x70040
def CLM_ERR_A_CNT : Nat := 0x70044
def CLM_ERR_B_CNT : Nat := 0x70048
def CLM_SPLIT_CNT : Nat := 0x7004c
end R

/-! Block Clm: fields. -/
namespace F
def CLM_STAT_REFUSED : Fld := ⟨R.CLM_STAT, 8, 8⟩
def CLM_STAT_DEMOTED : Fld := ⟨R.CLM_STAT, 7, 7⟩
def CLM_STAT_TKO_STALE : Fld := ⟨R.CLM_STAT, 6, 6⟩
def CLM_STAT_TAKEOVER : Fld := ⟨R.CLM_STAT, 5, 5⟩
def CLM_STAT_EPOCH_SAT : Fld := ⟨R.CLM_STAT, 4, 4⟩
def CLM_STAT_SKEW : Fld := ⟨R.CLM_STAT, 3, 3⟩
def CLM_STAT_NO_LINE : Fld := ⟨R.CLM_STAT, 2, 2⟩
def CLM_STAT_SPLIT : Fld := ⟨R.CLM_STAT, 1, 1⟩
def CLM_STAT_LINE_FAULT : Fld := ⟨R.CLM_STAT, 0, 0⟩
def CLM_MASK_REFUSED : Fld := ⟨R.CLM_MASK, 8, 8⟩
def CLM_MASK_DEMOTED : Fld := ⟨R.CLM_MASK, 7, 7⟩
def CLM_MASK_TKO_STALE : Fld := ⟨R.CLM_MASK, 6, 6⟩
def CLM_MASK_TAKEOVER : Fld := ⟨R.CLM_MASK, 5, 5⟩
def CLM_MASK_EPOCH_SAT : Fld := ⟨R.CLM_MASK, 4, 4⟩
def CLM_MASK_SKEW : Fld := ⟨R.CLM_MASK, 3, 3⟩
def CLM_MASK_NO_LINE : Fld := ⟨R.CLM_MASK, 2, 2⟩
def CLM_MASK_SPLIT : Fld := ⟨R.CLM_MASK, 1, 1⟩
def CLM_MASK_LINE_FAULT : Fld := ⟨R.CLM_MASK, 0, 0⟩
def CLM_CFG_EN : Fld := ⟨R.CLM_CFG, 31, 31⟩
def CLM_CFG_RANK : Fld := ⟨R.CLM_CFG, 27, 24⟩
def CLM_CFG_TKO_N : Fld := ⟨R.CLM_CFG, 17, 16⟩
def CLM_CFG_DRILL_INT : Fld := ⟨R.CLM_CFG, 15, 8⟩
def CLM_CMD_CMD : Fld := ⟨R.CLM_CMD, 3, 0⟩
def CLM_STATE_ROLE : Fld := ⟨R.CLM_STATE, 31, 29⟩
def CLM_STATE_HOLDER : Fld := ⟨R.CLM_STATE, 28, 28⟩
def CLM_STATE_LINE_A : Fld := ⟨R.CLM_STATE, 27, 26⟩
def CLM_STATE_LINE_B : Fld := ⟨R.CLM_STATE, 25, 24⟩
def CLM_STATE_WORD : Fld := ⟨R.CLM_STATE, 15, 0⟩
def CLM_WON_WON_B : Fld := ⟨R.CLM_WON, 31, 16⟩
def CLM_WON_WON_A : Fld := ⟨R.CLM_WON, 15, 0⟩
def CLM_PEER_VALID : Fld := ⟨R.CLM_PEER, 16, 16⟩
def CLM_PEER_WORD : Fld := ⟨R.CLM_PEER, 15, 0⟩
def CLM_RESULT_CMD : Fld := ⟨R.CLM_RESULT, 11, 8⟩
def CLM_RESULT_REASON : Fld := ⟨R.CLM_RESULT, 7, 0⟩
end F

/-- Rows of block Clm: base, instances, reset value, then the RW, RWL, W1C, RCL and WO masks. -/
def rowsClm : List RegRow :=
  [⟨0x70000, [], 0x0, 0x0, 0x0, 0x1ff, 0x0, 0x0⟩,
   ⟨0x70004, [], 0x0, 0x1ff, 0x0, 0x0, 0x0, 0x0⟩,
   ⟨0x70008, [], 0x10000, 0x3ff00, 0x8f000000, 0x0, 0x0, 0x0⟩,
   ⟨0x7000c, [], 0x0, 0x0, 0x0, 0x0, 0x0, 0xf⟩,
   ⟨0x70010, [], 0x0, 0xffffffff, 0x0, 0x0, 0x0, 0x0⟩,
   ⟨0x70014, [], 0x0, 0xffffffff, 0x0, 0x0, 0x0, 0x0⟩,
   ⟨0x70018, [], 0x0, 0x0, 0x0, 0x0, 0x0, 0x0⟩,
   ⟨0x7001c, [], 0x0, 0x0, 0x0, 0x0, 0x0, 0x0⟩,
   ⟨0x70020, [], 0x0, 0x0, 0x0, 0x0, 0x0, 0x0⟩,
   ⟨0x70024, [], 0x0, 0x0, 0x0, 0x0, 0x0, 0x0⟩,
   ⟨0x70028, [], 0x0, 0x0, 0x0, 0x0, 0x0, 0x0⟩,
   ⟨0x70040, [], 0x0, 0x0, 0x0, 0x0, 0xffffffff, 0x0⟩,
   ⟨0x70044, [], 0x0, 0x0, 0x0, 0x0, 0xffffffff, 0x0⟩,
   ⟨0x70048, [], 0x0, 0x0, 0x0, 0x0, 0xffffffff, 0x0⟩,
   ⟨0x7004c, [], 0x0, 0x0, 0x0, 0x0, 0xffffffff, 0x0⟩]

/-! Block Flk: offsets. -/
namespace R
def FLK_STAT : Nat := 0x70100
def FLK_MASK : Nat := 0x70104
def FLK_CFG : Nat := 0x70108
def FLK_CMD : Nat := 0x7010c
def FLK_STATE : Nat := 0x70110
def FLK_JOIN_LO : Nat := 0x70114
def FLK_JOIN_HI : Nat := 0x70118
def FLK_DIGSEAT : Nat := 0x7011c
def FLK_HB_MISS_CNT : Nat := 0x70140
def FLK_CRC_CNT : Nat := 0x70144
def FLK_MIR_CNT : Nat := 0x70148
def FLK_LATE_CNT : Nat := 0x7014c
def FLK_DIG_CNT : Nat := 0x70150
def FLK_RESYNC_CNT : Nat := 0x70154
def FLK_UNPROT_CNT : Nat := 0x70158
end R

/-! Block Flk: fields. -/
namespace F
def FLK_STAT_REFUSED : Fld := ⟨R.FLK_STAT, 7, 7⟩
def FLK_STAT_PAIR_ERR : Fld := ⟨R.FLK_STAT, 6, 6⟩
def FLK_STAT_UNPROT : Fld := ⟨R.FLK_STAT, 5, 5⟩
def FLK_STAT_READY : Fld := ⟨R.FLK_STAT, 4, 4⟩
def FLK_STAT_RESYNC_FAIL : Fld := ⟨R.FLK_STAT, 3, 3⟩
def FLK_STAT_DIG_MIS : Fld := ⟨R.FLK_STAT, 2, 2⟩
def FLK_STAT_LANE_DOWN : Fld := ⟨R.FLK_STAT, 1, 1⟩
def FLK_STAT_STALE : Fld := ⟨R.FLK_STAT, 0, 0⟩
def FLK_MASK_REFUSED : Fld := ⟨R.FLK_MASK, 7, 7⟩
def FLK_MASK_PAIR_ERR : Fld := ⟨R.FLK_MASK, 6, 6⟩
def FLK_MASK_UNPROT : Fld := ⟨R.FLK_MASK, 5, 5⟩
def FLK_MASK_READY : Fld := ⟨R.FLK_MASK, 4, 4⟩
def FLK_MASK_RESYNC_FAIL : Fld := ⟨R.FLK_MASK, 3, 3⟩
def FLK_MASK_DIG_MIS : Fld := ⟨R.FLK_MASK, 2, 2⟩
def FLK_MASK_LANE_DOWN : Fld := ⟨R.FLK_MASK, 1, 1⟩
def FLK_MASK_STALE : Fld := ⟨R.FLK_MASK, 0, 0⟩
def FLK_CFG_PROTECT : Fld := ⟨R.FLK_CFG, 31, 31⟩
def FLK_CFG_CONV_TMO : Fld := ⟨R.FLK_CFG, 27, 16⟩
def FLK_CFG_DIG_LIM : Fld := ⟨R.FLK_CFG, 7, 0⟩
def FLK_CMD_CMD : Fld := ⟨R.FLK_CMD, 3, 0⟩
def FLK_STATE_LINK : Fld := ⟨R.FLK_STATE, 31, 30⟩
def FLK_STATE_LANE1 : Fld := ⟨R.FLK_STATE, 29, 29⟩
def FLK_STATE_LANE0 : Fld := ⟨R.FLK_STATE, 28, 28⟩
def FLK_STATE_SYNC : Fld := ⟨R.FLK_STATE, 27, 24⟩
def FLK_STATE_FAIL : Fld := ⟨R.FLK_STATE, 7, 0⟩
def FLK_DIGSEAT_SEATS : Fld := ⟨R.FLK_DIGSEAT, 15, 0⟩
end F

/-- Rows of block Flk: base, instances, reset value, then the RW, RWL, W1C, RCL and WO masks. -/
def rowsFlk : List RegRow :=
  [⟨0x70100, [], 0x0, 0x0, 0x0, 0xff, 0x0, 0x0⟩,
   ⟨0x70104, [], 0x0, 0xff, 0x0, 0x0, 0x0, 0x0⟩,
   ⟨0x70108, [], 0xa0008, 0x8fff00ff, 0x0, 0x0, 0x0, 0x0⟩,
   ⟨0x7010c, [], 0x0, 0x0, 0x0, 0x0, 0x0, 0xf⟩,
   ⟨0x70110, [], 0x0, 0x0, 0x0, 0x0, 0x0, 0x0⟩,
   ⟨0x70114, [], 0x0, 0x0, 0x0, 0x0, 0x0, 0x0⟩,
   ⟨0x70118, [], 0x0, 0x0, 0x0, 0x0, 0x0, 0x0⟩,
   ⟨0x7011c, [], 0x0, 0x0, 0x0, 0x0, 0x0, 0x0⟩,
   ⟨0x70140, [], 0x0, 0x0, 0x0, 0x0, 0xffffffff, 0x0⟩,
   ⟨0x70144, [], 0x0, 0x0, 0x0, 0x0, 0xffffffff, 0x0⟩,
   ⟨0x70148, [], 0x0, 0x0, 0x0, 0x0, 0xffffffff, 0x0⟩,
   ⟨0x7014c, [], 0x0, 0x0, 0x0, 0x0, 0xffffffff, 0x0⟩,
   ⟨0x70150, [], 0x0, 0x0, 0x0, 0x0, 0xffffffff, 0x0⟩,
   ⟨0x70154, [], 0x0, 0x0, 0x0, 0x0, 0xffffffff, 0x0⟩,
   ⟨0x70158, [], 0x0, 0x0, 0x0, 0x0, 0xffffffff, 0x0⟩]

/-! Block Hier: offsets. -/
namespace R
def HIER_STAT : Nat := 0x80000
def HIER_MASK : Nat := 0x80004
def HIER_CFG : Nat := 0x80008
def HIER_WMASK : Nat := 0x8000c
def HIER_LADDR : Nat := 0x80010
def HIER_AADDR : Nat := 0x80014
def HIER_STATE : Nat := 0x80018
def HIER_SYNC_CFG : Nat := 0x8001c
def HIER_SYNC_OFS : Nat := 0x80020
def HIER_LITEM : Nat := 0x80024
def HIER_WSTATE (i : Nat) : Nat := 0x80040 + 4 * i
def HIER_FWD_CNT : Nat := 0x80080
def HIER_RESEND_CNT : Nat := 0x80084
def HIER_REFUSE_CNT : Nat := 0x80088
def HIER_LOST_CNT : Nat := 0x8008c
def HIER_JOIN_CNT : Nat := 0x80090
def HIER_LATE_DEC_CNT : Nat := 0x80094
def HIER_BAD_CNT : Nat := 0x80098
end R

/-! Block Hier: fields. -/
namespace F
def HIER_STAT_SYNC : Fld := ⟨R.HIER_STAT, 7, 7⟩
def HIER_STAT_UNDECIDED : Fld := ⟨R.HIER_STAT, 6, 6⟩
def HIER_STAT_LATE_DEC : Fld := ⟨R.HIER_STAT, 5, 5⟩
def HIER_STAT_COLL_REFUSED : Fld := ⟨R.HIER_STAT, 4, 4⟩
def HIER_STAT_JOIN_FAIL : Fld := ⟨R.HIER_STAT, 3, 3⟩
def HIER_STAT_JOINED : Fld := ⟨R.HIER_STAT, 2, 2⟩
def HIER_STAT_MANAGER_LOST : Fld := ⟨R.HIER_STAT, 1, 1⟩
def HIER_STAT_WORKER_LOST : Fld := ⟨R.HIER_STAT, 0, 0⟩
def HIER_MASK_SYNC : Fld := ⟨R.HIER_MASK, 7, 7⟩
def HIER_MASK_UNDECIDED : Fld := ⟨R.HIER_MASK, 6, 6⟩
def HIER_MASK_LATE_DEC : Fld := ⟨R.HIER_MASK, 5, 5⟩
def HIER_MASK_COLL_REFUSED : Fld := ⟨R.HIER_MASK, 4, 4⟩
def HIER_MASK_JOIN_FAIL : Fld := ⟨R.HIER_MASK, 3, 3⟩
def HIER_MASK_JOINED : Fld := ⟨R.HIER_MASK, 2, 2⟩
def HIER_MASK_MANAGER_LOST : Fld := ⟨R.HIER_MASK, 1, 1⟩
def HIER_MASK_WORKER_LOST : Fld := ⟨R.HIER_MASK, 0, 0⟩
def HIER_CFG_ROLE : Fld := ⟨R.HIER_CFG, 31, 30⟩
def HIER_CFG_PORT : Fld := ⟨R.HIER_CFG, 29, 28⟩
def HIER_CFG_UNIT : Fld := ⟨R.HIER_CFG, 27, 24⟩
def HIER_CFG_SYNC_EN : Fld := ⟨R.HIER_CFG, 23, 23⟩
def HIER_CFG_SYNC_SEAT : Fld := ⟨R.HIER_CFG, 22, 22⟩
def HIER_CFG_TC : Fld := ⟨R.HIER_CFG, 18, 16⟩
def HIER_CFG_HB_TO : Fld := ⟨R.HIER_CFG, 7, 0⟩
def HIER_WMASK_WORKERS : Fld := ⟨R.HIER_WMASK, 15, 1⟩
def HIER_STATE_STATE : Fld := ⟨R.HIER_STATE, 31, 30⟩
def HIER_STATE_MEMBERS : Fld := ⟨R.HIER_STATE, 15, 1⟩
def HIER_SYNC_CFG_LIM : Fld := ⟨R.HIER_SYNC_CFG, 31, 16⟩
def HIER_SYNC_CFG_DLY : Fld := ⟨R.HIER_SYNC_CFG, 15, 0⟩
def HIER_WSTATE_STATE (i : Nat) : Fld := ⟨R.HIER_WSTATE i, 31, 30⟩
def HIER_WSTATE_REASON (i : Nat) : Fld := ⟨R.HIER_WSTATE i, 23, 16⟩
def HIER_WSTATE_MISSED (i : Nat) : Fld := ⟨R.HIER_WSTATE i, 15, 0⟩
end F

/-- Rows of block Hier: base, instances, reset value, then the RW, RWL, W1C, RCL and WO masks. -/
def rowsHier : List RegRow :=
  [⟨0x80000, [], 0x0, 0x0, 0x0, 0xff, 0x0, 0x0⟩,
   ⟨0x80004, [], 0x0, 0xff, 0x0, 0x0, 0x0, 0x0⟩,
   ⟨0x80008, [], 0x70003, 0x8700ff, 0xff400000, 0x0, 0x0, 0x0⟩,
   ⟨0x8000c, [], 0x0, 0xfffe, 0x0, 0x0, 0x0, 0x0⟩,
   ⟨0x80010, [], 0x0, 0x0, 0xffffffff, 0x0, 0x0, 0x0⟩,
   ⟨0x80014, [], 0x0, 0x0, 0xffffffff, 0x0, 0x0, 0x0⟩,
   ⟨0x80018, [], 0x0, 0x0, 0x0, 0x0, 0x0, 0x0⟩,
   ⟨0x8001c, [], 0x3e80000, 0xffffffff, 0x0, 0x0, 0x0, 0x0⟩,
   ⟨0x80020, [], 0x0, 0x0, 0x0, 0x0, 0x0, 0x0⟩,
   ⟨0x80024, [], 0x0, 0x0, 0x0, 0x0, 0x0, 0x0⟩,
   ⟨0x80044, [(4, 15)], 0x0, 0x0, 0x0, 0x0, 0x0, 0x0⟩,
   ⟨0x80080, [], 0x0, 0x0, 0x0, 0x0, 0xffffffff, 0x0⟩,
   ⟨0x80084, [], 0x0, 0x0, 0x0, 0x0, 0xffffffff, 0x0⟩,
   ⟨0x80088, [], 0x0, 0x0, 0x0, 0x0, 0xffffffff, 0x0⟩,
   ⟨0x8008c, [], 0x0, 0x0, 0x0, 0x0, 0xffffffff, 0x0⟩,
   ⟨0x80090, [], 0x0, 0x0, 0x0, 0x0, 0xffffffff, 0x0⟩,
   ⟨0x80094, [], 0x0, 0x0, 0x0, 0x0, 0xffffffff, 0x0⟩,
   ⟨0x80098, [], 0x0, 0x0, 0x0, 0x0, 0xffffffff, 0x0⟩]

/-! Block Obj: offsets. -/
namespace R
def OBJ_STAT : Nat := 0x100000
def OBJ_MASK : Nat := 0x100004
def OBJ_CFG : Nat := 0x100008
def OBJ_SENDER_LO : Nat := 0x10000c
def OBJ_SENDER_HI : Nat := 0x100010
def OBJ_HQ_BASE : Nat := 0x100014
def OBJ_HQ_TAIL : Nat := 0x100018
def OBJ_HQ_HEAD : Nat := 0x10001c
def OBJ_HQ_DONE : Nat := 0x100020
def OBJ_CMD : Nat := 0x100024
def OBJ_SEL : Nat := 0x100028
def OBJ_OSTAT : Nat := 0x10002c
def OBJ_OHIGH : Nat := 0x100030
def OBJ_OEFF_LO : Nat := 0x100034
def OBJ_OEFF_HI : Nat := 0x100038
def OBJ_OSEQ : Nat := 0x10003c
def OBJ_ACC_CNT : Nat := 0x100040
def OBJ_DUP_CNT : Nat := 0x100044
def OBJ_REJ_CNT : Nat := 0x100048
def OBJ_GAP_CNT : Nat := 0x10004c
def OBJ_FLUSH_CNT : Nat := 0x100050
def OBJ_FRM_BAD_CNT : Nat := 0x100054
def OBJ_FRM_IGN_CNT : Nat := 0x100058
def OBJ_CLAMP_CNT : Nat := 0x10005c
def OBJ_FRM_LAST : Nat := 0x100060
def OBJ_REJ_LAST : Nat := 0x100064
end R

/-! Block Obj: fields. -/
namespace F
def OBJ_STAT_CLAMPED : Fld := ⟨R.OBJ_STAT, 7, 7⟩
def OBJ_STAT_FLUSHED : Fld := ⟨R.OBJ_STAT, 6, 6⟩
def OBJ_STAT_QFULL : Fld := ⟨R.OBJ_STAT, 5, 5⟩
def OBJ_STAT_HQ_OVF : Fld := ⟨R.OBJ_STAT, 4, 4⟩
def OBJ_STAT_FRM_BAD : Fld := ⟨R.OBJ_STAT, 3, 3⟩
def OBJ_STAT_REJECT : Fld := ⟨R.OBJ_STAT, 2, 2⟩
def OBJ_STAT_UNPROT : Fld := ⟨R.OBJ_STAT, 1, 1⟩
def OBJ_STAT_HQ_DONE : Fld := ⟨R.OBJ_STAT, 0, 0⟩
def OBJ_MASK_CLAMPED : Fld := ⟨R.OBJ_MASK, 7, 7⟩
def OBJ_MASK_FLUSHED : Fld := ⟨R.OBJ_MASK, 6, 6⟩
def OBJ_MASK_QFULL : Fld := ⟨R.OBJ_MASK, 5, 5⟩
def OBJ_MASK_HQ_OVF : Fld := ⟨R.OBJ_MASK, 4, 4⟩
def OBJ_MASK_FRM_BAD : Fld := ⟨R.OBJ_MASK, 3, 3⟩
def OBJ_MASK_REJECT : Fld := ⟨R.OBJ_MASK, 2, 2⟩
def OBJ_MASK_UNPROT : Fld := ⟨R.OBJ_MASK, 1, 1⟩
def OBJ_MASK_HQ_DONE : Fld := ⟨R.OBJ_MASK, 0, 0⟩
def OBJ_CFG_ACK_EN : Fld := ⟨R.OBJ_CFG, 24, 24⟩
def OBJ_CFG_ACK_TC : Fld := ⟨R.OBJ_CFG, 18, 16⟩
def OBJ_CFG_UDP_PORT : Fld := ⟨R.OBJ_CFG, 15, 0⟩
def OBJ_HQ_BASE_BASE : Fld := ⟨R.OBJ_HQ_BASE, 28, 0⟩
def OBJ_HQ_TAIL_INDEX : Fld := ⟨R.OBJ_HQ_TAIL, 14, 0⟩
def OBJ_HQ_HEAD_INDEX : Fld := ⟨R.OBJ_HQ_HEAD, 14, 0⟩
def OBJ_HQ_DONE_INDEX : Fld := ⟨R.OBJ_HQ_DONE, 14, 0⟩
def OBJ_CMD_OP : Fld := ⟨R.OBJ_CMD, 31, 28⟩
def OBJ_CMD_OBJ_ID : Fld := ⟨R.OBJ_CMD, 10, 0⟩
def OBJ_SEL_OBJ : Fld := ⟨R.OBJ_SEL, 10, 0⟩
def OBJ_OSTAT_STATE : Fld := ⟨R.OBJ_OSTAT, 31, 30⟩
def OBJ_OSTAT_SEQ_VALID : Fld := ⟨R.OBJ_OSTAT, 29, 29⟩
def OBJ_OSTAT_UNPROT : Fld := ⟨R.OBJ_OSTAT, 28, 28⟩
def OBJ_OSTAT_QDEPTH : Fld := ⟨R.OBJ_OSTAT, 27, 24⟩
def OBJ_OSTAT_PRIO : Fld := ⟨R.OBJ_OSTAT, 22, 20⟩
def OBJ_OSTAT_PEND : Fld := ⟨R.OBJ_OSTAT, 19, 16⟩
def OBJ_OSTAT_SEG : Fld := ⟨R.OBJ_OSTAT, 1, 0⟩
def OBJ_FRM_LAST_REASON : Fld := ⟨R.OBJ_FRM_LAST, 23, 16⟩
def OBJ_FRM_LAST_PORT : Fld := ⟨R.OBJ_FRM_LAST, 1, 0⟩
def OBJ_REJ_LAST_REASON : Fld := ⟨R.OBJ_REJ_LAST, 31, 24⟩
def OBJ_REJ_LAST_SRC : Fld := ⟨R.OBJ_REJ_LAST, 23, 21⟩
def OBJ_REJ_LAST_OBJ_ID : Fld := ⟨R.OBJ_REJ_LAST, 10, 0⟩
end F

/-- Rows of block Obj: base, instances, reset value, then the RW, RWL, W1C, RCL and WO masks. -/
def rowsObj : List RegRow :=
  [⟨0x100000, [], 0x0, 0x0, 0x0, 0xff, 0x0, 0x0⟩,
   ⟨0x100004, [], 0x0, 0xff, 0x0, 0x0, 0x0, 0x0⟩,
   ⟨0x100008, [], 0x106b7f4, 0x107ffff, 0x0, 0x0, 0x0, 0x0⟩,
   ⟨0x10000c, [], 0x0, 0xffffffff, 0x0, 0x0, 0x0, 0x0⟩,
   ⟨0x100010, [], 0x0, 0xffffffff, 0x0, 0x0, 0x0, 0x0⟩,
   ⟨0x100014, [], 0x0, 0x0, 0x1fffffff, 0x0, 0x0, 0x0⟩,
   ⟨0x100018, [], 0x0, 0x7fff, 0x0, 0x0, 0x0, 0x0⟩,
   ⟨0x10001c, [], 0x0, 0x0, 0x0, 0x0, 0x0, 0x0⟩,
   ⟨0x100020, [], 0x0, 0x0, 0x0, 0x0, 0x0, 0x0⟩,
   ⟨0x100024, [], 0x0, 0x0, 0x0, 0x0, 0x0, 0xf00007ff⟩,
   ⟨0x100028, [], 0x0, 0x7ff, 0x0, 0x0, 0x0, 0x0⟩,
   ⟨0x10002c, [], 0x0, 0x0, 0x0, 0x0, 0x0, 0x0⟩,
   ⟨0x100030, [], 0x0, 0x0, 0x0, 0x0, 0x0, 0x0⟩,
   ⟨0x100034, [], 0x0, 0x0, 0x0, 0x0, 0x0, 0x0⟩,
   ⟨0x100038, [], 0x0, 0x0, 0x0, 0x0, 0x0, 0x0⟩,
   ⟨0x10003c, [], 0x0, 0x0, 0x0, 0x0, 0x0, 0x0⟩,
   ⟨0x100040, [], 0x0, 0x0, 0x0, 0x0, 0xffffffff, 0x0⟩,
   ⟨0x100044, [], 0x0, 0x0, 0x0, 0x0, 0xffffffff, 0x0⟩,
   ⟨0x100048, [], 0x0, 0x0, 0x0, 0x0, 0xffffffff, 0x0⟩,
   ⟨0x10004c, [], 0x0, 0x0, 0x0, 0x0, 0xffffffff, 0x0⟩,
   ⟨0x100050, [], 0x0, 0x0, 0x0, 0x0, 0xffffffff, 0x0⟩,
   ⟨0x100054, [], 0x0, 0x0, 0x0, 0x0, 0xffffffff, 0x0⟩,
   ⟨0x100058, [], 0x0, 0x0, 0x0, 0x0, 0xffffffff, 0x0⟩,
   ⟨0x10005c, [], 0x0, 0x0, 0x0, 0x0, 0xffffffff, 0x0⟩] ++
  [⟨0x100060, [], 0x0, 0x0, 0x0, 0x0, 0x0, 0x0⟩,
   ⟨0x100064, [], 0x0, 0x0, 0x0, 0x0, 0x0, 0x0⟩]

/-! Block Geo: offsets. -/
namespace R
def GEO_STAT : Nat := 0x200000
def GEO_MASK : Nat := 0x200004
def GEO_CFG : Nat := 0x200008
def GEO_SOS : Nat := 0x20000c
def GEO_DCOMP : Nat := 0x200010
def GEO_DIST : Nat := 0x200014
def GEO_RREF : Nat := 0x200018
def GEO_GUARD : Nat := 0x20001c
def GEO_AIR : Nat := 0x200020
def GEO_BUSDIST_LO : Nat := 0x200024
def GEO_BUSDIST_HI : Nat := 0x200028
def GEO_LCFG (i : Nat) : Nat := 0x200030 + 4 * i
def GEO_UNITS : Nat := 0x200060
def GEO_SEL : Nat := 0x200070
def GEO_ODIST : Nat := 0x200074
def GEO_ODLY : Nat := 0x200078
def GEO_OTRI : Nat := 0x20007c
def GEO_OVR_CNT : Nat := 0x200080
def GEO_SLEW_CNT : Nat := 0x200084
def GEO_NOCOV_CNT : Nat := 0x200088
def GEO_TSHORT_CNT : Nat := 0x20008c
def GEO_OCLIP_CNT : Nat := 0x200090
end R

/-! Block Geo: fields. -/
namespace F
def GEO_STAT_G_CHG : Fld := ⟨R.GEO_STAT, 6, 6⟩
def GEO_STAT_UNIT_FAIL : Fld := ⟨R.GEO_STAT, 5, 5⟩
def GEO_STAT_OCLIP : Fld := ⟨R.GEO_STAT, 4, 4⟩
def GEO_STAT_TSHORT : Fld := ⟨R.GEO_STAT, 3, 3⟩
def GEO_STAT_NOCOV : Fld := ⟨R.GEO_STAT, 2, 2⟩
def GEO_STAT_SLEW : Fld := ⟨R.GEO_STAT, 1, 1⟩
def GEO_STAT_OVR : Fld := ⟨R.GEO_STAT, 0, 0⟩
def GEO_MASK_G_CHG : Fld := ⟨R.GEO_MASK, 6, 6⟩
def GEO_MASK_UNIT_FAIL : Fld := ⟨R.GEO_MASK, 5, 5⟩
def GEO_MASK_OCLIP : Fld := ⟨R.GEO_MASK, 4, 4⟩
def GEO_MASK_TSHORT : Fld := ⟨R.GEO_MASK, 3, 3⟩
def GEO_MASK_NOCOV : Fld := ⟨R.GEO_MASK, 2, 2⟩
def GEO_MASK_SLEW : Fld := ⟨R.GEO_MASK, 1, 1⟩
def GEO_MASK_OVR : Fld := ⟨R.GEO_MASK, 0, 0⟩
def GEO_CFG_DLY_EN : Fld := ⟨R.GEO_CFG, 31, 31⟩
def GEO_CFG_OVR_LIMIT : Fld := ⟨R.GEO_CFG, 1, 0⟩
def GEO_DIST_LAW : Fld := ⟨R.GEO_DIST, 1, 0⟩
def GEO_AIR_EN : Fld := ⟨R.GEO_AIR, 31, 31⟩
def GEO_AIR_FMAX : Fld := ⟨R.GEO_AIR, 25, 16⟩
def GEO_AIR_K : Fld := ⟨R.GEO_AIR, 15, 0⟩
def GEO_LCFG_DIST (i : Nat) : Fld := ⟨R.GEO_LCFG i, 1, 1⟩
def GEO_LCFG_NORM (i : Nat) : Fld := ⟨R.GEO_LCFG i, 0, 0⟩
def GEO_UNITS_SPARE_PRESENT : Fld := ⟨R.GEO_UNITS, 31, 31⟩
def GEO_UNITS_G_EFF : Fld := ⟨R.GEO_UNITS, 20, 16⟩
def GEO_UNITS_SPARE : Fld := ⟨R.GEO_UNITS, 9, 8⟩
def GEO_UNITS_WB : Fld := ⟨R.GEO_UNITS, 5, 4⟩
def GEO_UNITS_WA : Fld := ⟨R.GEO_UNITS, 1, 0⟩
def GEO_SEL_OBJ : Fld := ⟨R.GEO_SEL, 10, 0⟩
def GEO_OTRI_NOCOV : Fld := ⟨R.GEO_OTRI, 31, 31⟩
def GEO_OTRI_TRI : Fld := ⟨R.GEO_OTRI, 10, 0⟩
end F

/-- Rows of block Geo: base, instances, reset value, then the RW, RWL, W1C, RCL and WO masks. -/
def rowsGeo : List RegRow :=
  [⟨0x200000, [], 0x0, 0x0, 0x0, 0x7f, 0x0, 0x0⟩,
   ⟨0x200004, [], 0x0, 0x7f, 0x0, 0x0, 0x0, 0x0⟩,
   ⟨0x200008, [], 0x80000002, 0x80000003, 0x0, 0x0, 0x0, 0x0⟩,
   ⟨0x20000c, [], 0xab800000, 0xffffffff, 0x0, 0x0, 0x0, 0x0⟩,
   ⟨0x200010, [], 0x0, 0xffffffff, 0x0, 0x0, 0x0, 0x0⟩,
   ⟨0x200014, [], 0x2, 0x3, 0x0, 0x0, 0x0, 0x0⟩,
   ⟨0x200018, [], 0x100000, 0xffffffff, 0x0, 0x0, 0x0, 0x0⟩,
   ⟨0x20001c, [], 0x100000, 0xffffffff, 0x0, 0x0, 0x0, 0x0⟩,
   ⟨0x200020, [], 0x19007d0, 0x83ffffff, 0x0, 0x0, 0x0, 0x0⟩,
   ⟨0x200024, [], 0x0, 0xffffffff, 0x0, 0x0, 0x0, 0x0⟩,
   ⟨0x200028, [], 0x0, 0xffffffff, 0x0, 0x0, 0x0, 0x0⟩,
   ⟨0x200030, [(4, 9)], 0x2, 0x3, 0x0, 0x0, 0x0, 0x0⟩,
   ⟨0x200060, [], 0x0, 0x0, 0x0, 0x0, 0x0, 0x0⟩,
   ⟨0x200070, [], 0x0, 0x7ff, 0x0, 0x0, 0x0, 0x0⟩,
   ⟨0x200074, [], 0x0, 0x0, 0x0, 0x0, 0x0, 0x0⟩,
   ⟨0x200078, [], 0x0, 0x0, 0x0, 0x0, 0x0, 0x0⟩,
   ⟨0x20007c, [], 0x0, 0x0, 0x0, 0x0, 0x0, 0x0⟩,
   ⟨0x200080, [], 0x0, 0x0, 0x0, 0x0, 0xffffffff, 0x0⟩,
   ⟨0x200084, [], 0x0, 0x0, 0x0, 0x0, 0xffffffff, 0x0⟩,
   ⟨0x200088, [], 0x0, 0x0, 0x0, 0x0, 0xffffffff, 0x0⟩,
   ⟨0x20008c, [], 0x0, 0x0, 0x0, 0x0, 0xffffffff, 0x0⟩,
   ⟨0x200090, [], 0x0, 0x0, 0x0, 0x0, 0xffffffff, 0x0⟩]

/-! Block Rnd: offsets. -/
namespace R
def RND_STAT : Nat := 0x300000
def RND_MASK : Nat := 0x300004
def RND_CFG : Nat := 0x300008
def RND_SEL : Nat := 0x30000c
def RND_OSTAT : Nat := 0x300010
def RND_OFADE : Nat := 0x300014
def RND_OLS_LO : Nat := 0x300018
def RND_OLS_HI : Nat := 0x30001c
def RND_ODLY : Nat := 0x300020
def RND_TDESC : Nat := 0x300024
def RND_TGAIN : Nat := 0x300028
def RND_TDLY : Nat := 0x30002c
def RND_TWIN : Nat := 0x300030
def RND_ACCSAT_CNT : Nat := 0x300040
def RND_SAT_CNT : Nat := 0x300044
def RND_DOPCLIP_CNT : Nat := 0x300048
end R

/-! Block Rnd: fields. -/
namespace F
def RND_STAT_DOP_CLIP : Fld := ⟨R.RND_STAT, 2, 2⟩
def RND_STAT_SAMPLE_SAT : Fld := ⟨R.RND_STAT, 1, 1⟩
def RND_STAT_ACC_SAT : Fld := ⟨R.RND_STAT, 0, 0⟩
def RND_MASK_DOP_CLIP : Fld := ⟨R.RND_MASK, 2, 2⟩
def RND_MASK_SAMPLE_SAT : Fld := ⟨R.RND_MASK, 1, 1⟩
def RND_MASK_ACC_SAT : Fld := ⟨R.RND_MASK, 0, 0⟩
def RND_CFG_DECOR_EN : Fld := ⟨R.RND_CFG, 31, 31⟩
def RND_CFG_DECOR_G : Fld := ⟨R.RND_CFG, 15, 0⟩
def RND_SEL_SLOT : Fld := ⟨R.RND_SEL, 20, 16⟩
def RND_SEL_OBJ : Fld := ⟨R.RND_SEL, 10, 0⟩
def RND_OSTAT_CARRIER_OK : Fld := ⟨R.RND_OSTAT, 21, 21⟩
def RND_OSTAT_CARRIER : Fld := ⟨R.RND_OSTAT, 20, 16⟩
def RND_OSTAT_SEFF : Fld := ⟨R.RND_OSTAT, 15, 0⟩
def RND_OFADE_STATE : Fld := ⟨R.RND_OFADE, 31, 30⟩
def RND_OFADE_FRAMES : Fld := ⟨R.RND_OFADE, 10, 0⟩
def RND_TDESC_ASSIGNED : Fld := ⟨R.RND_TDESC, 31, 31⟩
def RND_TDESC_WENT : Fld := ⟨R.RND_TDESC, 28, 16⟩
def RND_TDESC_OUT : Fld := ⟨R.RND_TDESC, 10, 0⟩
def RND_TWIN_W : Fld := ⟨R.RND_TWIN, 14, 0⟩
end F

/-- Rows of block Rnd: base, instances, reset value, then the RW, RWL, W1C, RCL and WO masks. -/
def rowsRnd : List RegRow :=
  [⟨0x300000, [], 0x0, 0x0, 0x0, 0x7, 0x0, 0x0⟩,
   ⟨0x300004, [], 0x0, 0x7, 0x0, 0x0, 0x0, 0x0⟩,
   ⟨0x300008, [], 0x80008000, 0x8000ffff, 0x0, 0x0, 0x0, 0x0⟩,
   ⟨0x30000c, [], 0x0, 0x1f07ff, 0x0, 0x0, 0x0, 0x0⟩,
   ⟨0x300010, [], 0x0, 0x0, 0x0, 0x0, 0x0, 0x0⟩,
   ⟨0x300014, [], 0x0, 0x0, 0x0, 0x0, 0x0, 0x0⟩,
   ⟨0x300018, [], 0x0, 0x0, 0x0, 0x0, 0x0, 0x0⟩,
   ⟨0x30001c, [], 0x0, 0x0, 0x0, 0x0, 0x0, 0x0⟩,
   ⟨0x300020, [], 0x0, 0x0, 0x0, 0x0, 0x0, 0x0⟩,
   ⟨0x300024, [], 0x0, 0x0, 0x0, 0x0, 0x0, 0x0⟩,
   ⟨0x300028, [], 0x0, 0x0, 0x0, 0x0, 0x0, 0x0⟩,
   ⟨0x30002c, [], 0x0, 0x0, 0x0, 0x0, 0x0, 0x0⟩,
   ⟨0x300030, [], 0x0, 0x0, 0x0, 0x0, 0x0, 0x0⟩,
   ⟨0x300040, [], 0x0, 0x0, 0x0, 0x0, 0xffffffff, 0x0⟩,
   ⟨0x300044, [], 0x0, 0x0, 0x0, 0x0, 0xffffffff, 0x0⟩,
   ⟨0x300048, [], 0x0, 0x0, 0x0, 0x0, 0xffffffff, 0x0⟩]

/-! Block Spk: offsets. -/
namespace R
def SPK_STAT : Nat := 0x400000
def SPK_MASK : Nat := 0x400004
def SPK_CFG : Nat := 0x400008
def SPK_ASC : Nat := 0x40000c
def SPK_OSIL_CFG : Nat := 0x400010
def SPK_SEL : Nat := 0x400014
def SPK_CCFG : Nat := 0x400018
def SPK_CALIGN : Nat := 0x40001c
def SPK_CLIM : Nat := 0x400020
def SPK_CSIL : Nat := 0x400024
def SPK_CSTAT : Nat := 0x400028
def SPK_CGRMIN : Nat := 0x40002c
def SPK_LIM_CNT : Nat := 0x400040
def SPK_CLIP_CNT : Nat := 0x400044
def SPK_SAT_CNT : Nat := 0x400048
def SPK_CVT_CNT : Nat := 0x40004c
def SPK_ASC_CNT : Nat := 0x400050
def SPK_GPIO (i : Nat) : Nat := 0x400080 + 4 * i
def SPK_OSIL (i : Nat) : Nat := 0x400100 + 4 * i
def SPK_SSIL (i : Nat) : Nat := 0x400200 + 4 * i
end R

/-! Block Spk: fields. -/
namespace F
def SPK_STAT_XF_DONE : Fld := ⟨R.SPK_STAT, 8, 8⟩
def SPK_STAT_SCALE_END : Fld := ⟨R.SPK_STAT, 7, 7⟩
def SPK_STAT_SCALE_ON : Fld := ⟨R.SPK_STAT, 6, 6⟩
def SPK_STAT_CVT_SAT : Fld := ⟨R.SPK_STAT, 5, 5⟩
def SPK_STAT_CLIP : Fld := ⟨R.SPK_STAT, 4, 4⟩
def SPK_STAT_LIM_ACT : Fld := ⟨R.SPK_STAT, 3, 3⟩
def SPK_STAT_BASS_SAT : Fld := ⟨R.SPK_STAT, 2, 2⟩
def SPK_STAT_RC_SAT : Fld := ⟨R.SPK_STAT, 1, 1⟩
def SPK_STAT_IN_SAT : Fld := ⟨R.SPK_STAT, 0, 0⟩
def SPK_MASK_XF_DONE : Fld := ⟨R.SPK_MASK, 8, 8⟩
def SPK_MASK_SCALE_END : Fld := ⟨R.SPK_MASK, 7, 7⟩
def SPK_MASK_SCALE_ON : Fld := ⟨R.SPK_MASK, 6, 6⟩
def SPK_MASK_CVT_SAT : Fld := ⟨R.SPK_MASK, 5, 5⟩
def SPK_MASK_CLIP : Fld := ⟨R.SPK_MASK, 4, 4⟩
def SPK_MASK_LIM_ACT : Fld := ⟨R.SPK_MASK, 3, 3⟩
def SPK_MASK_BASS_SAT : Fld := ⟨R.SPK_MASK, 2, 2⟩
def SPK_MASK_RC_SAT : Fld := ⟨R.SPK_MASK, 1, 1⟩
def SPK_MASK_IN_SAT : Fld := ⟨R.SPK_MASK, 0, 0⟩
def SPK_CFG_TRG_FB : Fld := ⟨R.SPK_CFG, 4, 4⟩
def SPK_CFG_TRG_HO : Fld := ⟨R.SPK_CFG, 3, 3⟩
def SPK_CFG_TRG_CLK : Fld := ⟨R.SPK_CFG, 2, 2⟩
def SPK_CFG_TRG_TKO : Fld := ⟨R.SPK_CFG, 1, 1⟩
def SPK_CFG_TEST_EN : Fld := ⟨R.SPK_CFG, 0, 0⟩
def SPK_ASC_STATE : Fld := ⟨R.SPK_ASC, 31, 30⟩
def SPK_ASC_CAUSE : Fld := ⟨R.SPK_ASC, 29, 26⟩
def SPK_ASC_REMAIN : Fld := ⟨R.SPK_ASC, 25, 16⟩
def SPK_ASC_BETA : Fld := ⟨R.SPK_ASC, 15, 0⟩
def SPK_OSIL_CFG_EN : Fld := ⟨R.SPK_OSIL_CFG, 31, 31⟩
def SPK_OSIL_CFG_THR : Fld := ⟨R.SPK_OSIL_CFG, 23, 16⟩
def SPK_OSIL_CFG_HOLD : Fld := ⟨R.SPK_OSIL_CFG, 11, 0⟩
def SPK_SEL_CH : Fld := ⟨R.SPK_SEL, 10, 0⟩
def SPK_CCFG_LIM_EN : Fld := ⟨R.SPK_CCFG, 31, 31⟩
def SPK_CCFG_DITHER : Fld := ⟨R.SPK_CCFG, 30, 30⟩
def SPK_CCFG_SIL_EN : Fld := ⟨R.SPK_CCFG, 29, 29⟩
def SPK_CCFG_BM : Fld := ⟨R.SPK_CCFG, 28, 28⟩
def SPK_CCFG_BM_BUS : Fld := ⟨R.SPK_CCFG, 21, 16⟩
def SPK_CALIGN_ALIGN : Fld := ⟨R.SPK_CALIGN, 12, 0⟩
def SPK_CLIM_THR : Fld := ⟨R.SPK_CLIM, 23, 16⟩
def SPK_CLIM_REL : Fld := ⟨R.SPK_CLIM, 9, 0⟩
def SPK_CSIL_THR : Fld := ⟨R.SPK_CSIL, 23, 16⟩
def SPK_CSIL_HOLD : Fld := ⟨R.SPK_CSIL, 11, 0⟩
def SPK_CSTAT_SILENT : Fld := ⟨R.SPK_CSTAT, 31, 31⟩
def SPK_CSTAT_XF : Fld := ⟨R.SPK_CSTAT, 30, 30⟩
def SPK_CSTAT_SET : Fld := ⟨R.SPK_CSTAT, 29, 29⟩
def SPK_CSTAT_LADDER : Fld := ⟨R.SPK_CSTAT, 28, 24⟩
def SPK_CSTAT_ACTIVE : Fld := ⟨R.SPK_CSTAT, 15, 0⟩
def SPK_GPIO_EN (i : Nat) : Fld := ⟨R.SPK_GPIO i, 31, 31⟩
def SPK_GPIO_CH (i : Nat) : Fld := ⟨R.SPK_GPIO i, 9, 0⟩
end F

/-- Rows of block Spk: base, instances, reset value, then the RW, RWL, W1C, RCL and WO masks. -/
def rowsSpk : List RegRow :=
  [⟨0x400000, [], 0x0, 0x0, 0x0, 0x1ff, 0x0, 0x0⟩,
   ⟨0x400004, [], 0x0, 0x1ff, 0x0, 0x0, 0x0, 0x0⟩,
   ⟨0x400008, [], 0x1f, 0x1f, 0x0, 0x0, 0x0, 0x0⟩,
   ⟨0x40000c, [], 0x0, 0x0, 0x0, 0x0, 0x0, 0x0⟩,
   ⟨0x400010, [], 0x78000a, 0x80ff0fff, 0x0, 0x0, 0x0, 0x0⟩,
   ⟨0x400014, [], 0x0, 0x7ff, 0x0, 0x0, 0x0, 0x0⟩,
   ⟨0x400018, [], 0x80000000, 0xe03f0000, 0x0, 0x0, 0x0, 0x0⟩,
   ⟨0x40001c, [], 0x0, 0x1fff, 0x0, 0x0, 0x0, 0x0⟩,
   ⟨0x400020, [], 0x10032, 0xff03ff, 0x0, 0x0, 0x0, 0x0⟩,
   ⟨0x400024, [], 0x78000a, 0xff0fff, 0x0, 0x0, 0x0, 0x0⟩,
   ⟨0x400028, [], 0x0, 0x0, 0x0, 0x0, 0x0, 0x0⟩,
   ⟨0x40002c, [], 0x40000000, 0x0, 0x0, 0x0, 0xffffffff, 0x0⟩,
   ⟨0x400040, [], 0x0, 0x0, 0x0, 0x0, 0xffffffff, 0x0⟩,
   ⟨0x400044, [], 0x0, 0x0, 0x0, 0x0, 0xffffffff, 0x0⟩,
   ⟨0x400048, [], 0x0, 0x0, 0x0, 0x0, 0xffffffff, 0x0⟩,
   ⟨0x40004c, [], 0x0, 0x0, 0x0, 0x0, 0xffffffff, 0x0⟩,
   ⟨0x400050, [], 0x0, 0x0, 0x0, 0x0, 0xffffffff, 0x0⟩,
   ⟨0x400080, [(4, 32)], 0x0, 0x800003ff, 0x0, 0x0, 0x0, 0x0⟩,
   ⟨0x400100, [(4, 64)], 0x0, 0x0, 0x0, 0x0, 0x0, 0x0⟩,
   ⟨0x400200, [(4, 32)], 0x0, 0x0, 0x0, 0x0, 0x0, 0x0⟩]

/-! Block Rte: offsets. -/
namespace R
def RTE_STAT : Nat := 0x500000
def RTE_MASK : Nat := 0x500004
def RTE_CFG : Nat := 0x500008
def RTE_CMD : Nat := 0x50000c
def RTE_MSI_LO : Nat := 0x500010
def RTE_MSI_HI : Nat := 0x500014
def RTE_SHD_BASE : Nat := 0x500018
def RTE_SHD_COUNT : Nat := 0x50001c
def RTE_LIVE_COUNT : Nat := 0x500020
def RTE_STATE : Nat := 0x500024
def RTE_RESULT : Nat := 0x500028
def RTE_RENT : Nat := 0x50002c
def RTE_APPLY_LO : Nat := 0x500030
def RTE_APPLY_HI : Nat := 0x500034
def RTE_COMMIT_CNT : Nat := 0x500040
def RTE_REFUSE_CNT : Nat := 0x500044
def RTE_SAT_CNT : Nat := 0x500048
end R

/-! Block Rte: fields. -/
namespace F
def RTE_STAT_ASRC_FULL : Fld := ⟨R.RTE_STAT, 6, 6⟩
def RTE_STAT_SUM_SAT : Fld := ⟨R.RTE_STAT, 5, 5⟩
def RTE_STAT_FROZEN : Fld := ⟨R.RTE_STAT, 4, 4⟩
def RTE_STAT_XF_DONE : Fld := ⟨R.RTE_STAT, 3, 3⟩
def RTE_STAT_SUPERSEDED : Fld := ⟨R.RTE_STAT, 2, 2⟩
def RTE_STAT_REFUSED : Fld := ⟨R.RTE_STAT, 1, 1⟩
def RTE_STAT_ACCEPTED : Fld := ⟨R.RTE_STAT, 0, 0⟩
def RTE_MASK_ASRC_FULL : Fld := ⟨R.RTE_MASK, 6, 6⟩
def RTE_MASK_SUM_SAT : Fld := ⟨R.RTE_MASK, 5, 5⟩
def RTE_MASK_FROZEN : Fld := ⟨R.RTE_MASK, 4, 4⟩
def RTE_MASK_XF_DONE : Fld := ⟨R.RTE_MASK, 3, 3⟩
def RTE_MASK_SUPERSEDED : Fld := ⟨R.RTE_MASK, 2, 2⟩
def RTE_MASK_REFUSED : Fld := ⟨R.RTE_MASK, 1, 1⟩
def RTE_MASK_ACCEPTED : Fld := ⟨R.RTE_MASK, 0, 0⟩
def RTE_CFG_LAW : Fld := ⟨R.RTE_CFG, 8, 8⟩
def RTE_CFG_XF : Fld := ⟨R.RTE_CFG, 5, 0⟩
def RTE_CMD_CMD : Fld := ⟨R.RTE_CMD, 3, 0⟩
def RTE_SHD_BASE_BASE : Fld := ⟨R.RTE_SHD_BASE, 21, 0⟩
def RTE_SHD_COUNT_COUNT : Fld := ⟨R.RTE_SHD_COUNT, 17, 0⟩
def RTE_LIVE_COUNT_COUNT : Fld := ⟨R.RTE_LIVE_COUNT, 17, 0⟩
def RTE_STATE_CMT : Fld := ⟨R.RTE_STATE, 31, 30⟩
def RTE_STATE_XF : Fld := ⟨R.RTE_STATE, 29, 29⟩
def RTE_STATE_REMAIN : Fld := ⟨R.RTE_STATE, 10, 0⟩
def RTE_RESULT_CMD : Fld := ⟨R.RTE_RESULT, 11, 8⟩
def RTE_RESULT_REASON : Fld := ⟨R.RTE_RESULT, 7, 0⟩
def RTE_RENT_ENTRY : Fld := ⟨R.RTE_RENT, 17, 0⟩
end F

/-- Rows of block Rte: base, instances, reset value, then the RW, RWL, W1C, RCL and WO masks. -/
def rowsRte : List RegRow :=
  [⟨0x500000, [], 0x0, 0x0, 0x0, 0x7f, 0x0, 0x0⟩,
   ⟨0x500004, [], 0x0, 0x7f, 0x0, 0x0, 0x0, 0x0⟩,
   ⟨0x500008, [], 0x8, 0x13f, 0x0, 0x0, 0x0, 0x0⟩,
   ⟨0x50000c, [], 0x0, 0x0, 0x0, 0x0, 0x0, 0xf⟩,
   ⟨0x500010, [], 0x0, 0xffffffff, 0x0, 0x0, 0x0, 0x0⟩,
   ⟨0x500014, [], 0x0, 0xffffffff, 0x0, 0x0, 0x0, 0x0⟩,
   ⟨0x500018, [], 0x240000, 0x0, 0x0, 0x0, 0x0, 0x0⟩,
   ⟨0x50001c, [], 0x0, 0x3ffff, 0x0, 0x0, 0x0, 0x0⟩,
   ⟨0x500020, [], 0x0, 0x0, 0x0, 0x0, 0x0, 0x0⟩,
   ⟨0x500024, [], 0x0, 0x0, 0x0, 0x0, 0x0, 0x0⟩,
   ⟨0x500028, [], 0x0, 0x0, 0x0, 0x0, 0x0, 0x0⟩,
   ⟨0x50002c, [], 0x0, 0x0, 0x0, 0x0, 0x0, 0x0⟩,
   ⟨0x500030, [], 0x0, 0x0, 0x0, 0x0, 0x0, 0x0⟩,
   ⟨0x500034, [], 0x0, 0x0, 0x0, 0x0, 0x0, 0x0⟩,
   ⟨0x500040, [], 0x0, 0x0, 0x0, 0x0, 0xffffffff, 0x0⟩,
   ⟨0x500044, [], 0x0, 0x0, 0x0, 0x0, 0xffffffff, 0x0⟩,
   ⟨0x500048, [], 0x0, 0x0, 0x0, 0x0, 0xffffffff, 0x0⟩]

/-! Block Net: offsets. -/
namespace R
def NET_STAT (i : Nat) : Nat := 0x600000 + 262144 * i
def NET_MASK (i : Nat) : Nat := 0x600004 + 262144 * i
def NET_CFG (i : Nat) : Nat := 0x600008 + 262144 * i
def NET_LINK (i : Nat) : Nat := 0x60000c + 262144 * i
def NET_MAC_LO (i : Nat) : Nat := 0x600010 + 262144 * i
def NET_MAC_HI (i : Nat) : Nat := 0x600014 + 262144 * i
def NET_MAXFRM (i : Nat) : Nat := 0x600018 + 262144 * i
def NET_MGMT (i : Nat) : Nat := 0x60001c + 262144 * i
def NET_EEE (i : Nat) : Nat := 0x600020 + 262144 * i
def NET_GCL_CTL (i : Nat) : Nat := 0x600030 + 262144 * i
def NET_GCL_CYCLE (i : Nat) : Nat := 0x600034 + 262144 * i
def NET_GCL_CMD (i : Nat) : Nat := 0x600038 + 262144 * i
def NET_GCL_MSI_LO (i : Nat) : Nat := 0x60003c + 262144 * i
def NET_GCL_MSI_HI (i : Nat) : Nat := 0x600040 + 262144 * i
def NET_GCL_STATE (i : Nat) : Nat := 0x600044 + 262144 * i
def NET_RR_BASE (i j : Nat) : Nat := 0x600100 + 262144 * i + 32 * j
def NET_RR_CFG (i j : Nat) : Nat := 0x600104 + 262144 * i + 32 * j
def NET_RR_TAIL (i j : Nat) : Nat := 0x600108 + 262144 * i + 32 * j
def NET_RR_HEAD (i j : Nat) : Nat := 0x60010c + 262144 * i + 32 * j
def NET_RR_STATE (i j : Nat) : Nat := 0x600110 + 262144 * i + 32 * j
def NET_TR_BASE (i j : Nat) : Nat := 0x600200 + 262144 * i + 32 * j
def NET_TR_CFG (i j : Nat) : Nat := 0x600204 + 262144 * i + 32 * j
def NET_TR_TAIL (i j : Nat) : Nat := 0x600208 + 262144 * i + 32 * j
def NET_TR_HEAD (i j : Nat) : Nat := 0x60020c + 262144 * i + 32 * j
def NET_RX_FRAMES (i : Nat) : Nat := 0x600300 + 262144 * i
def NET_TX_FRAMES (i : Nat) : Nat := 0x600304 + 262144 * i
def NET_RX_RUNT (i : Nat) : Nat := 0x600308 + 262144 * i
def NET_RX_GIANT (i : Nat) : Nat := 0x60030c + 262144 * i
def NET_RX_FCS (i : Nat) : Nat := 0x600310 + 262144 * i
def NET_RX_IPERR (i : Nat) : Nat := 0x600314 + 262144 * i
def NET_RX_ADDR (i : Nat) : Nat := 0x600318 + 262144 * i
def NET_RX_DROP (i : Nat) : Nat := 0x60031c + 262144 * i
def NET_RX_PAUSE (i : Nat) : Nat := 0x600320 + 262144 * i
def NET_RX_FIFO (i : Nat) : Nat := 0x600324 + 262144 * i
def NET_RX_TRUNC (i : Nat) : Nat := 0x600328 + 262144 * i
def NET_RX_NOBUF (i : Nat) : Nat := 0x60032c + 262144 * i
def NET_TX_OVERSIZE (i : Nat) : Nat := 0x600330 + 262144 * i
def NET_TX_NOFIT (i : Nat) : Nat := 0x600334 + 262144 * i
def NET_TX_STBY (i : Nat) : Nat := 0x600338 + 262144 * i
def NET_TX_LINK (i : Nat) : Nat := 0x60033c + 262144 * i
def NET_LINKDN_CNT (i : Nat) : Nat := 0x600340 + 262144 * i
def NET_LPI_CNT (i : Nat) : Nat := 0x600344 + 262144 * i
def NET_TX_BADDESC (i : Nat) : Nat := 0x600348 + 262144 * i
def NET_MCFILT_LO (i j : Nat) : Nat := 0x600400 + 262144 * i + 8 * j
def NET_MCFILT_HI (i j : Nat) : Nat := 0x600404 + 262144 * i + 8 * j
def NET_GCL_SHD (i j : Nat) : Nat := 0x600800 + 262144 * i + 4 * j
def NET_GCL_OPER (i j : Nat) : Nat := 0x600c00 + 262144 * i + 4 * j
end R

/-! Block Net: fields. -/
namespace F
def NET_STAT_GCL_REFUSED (i : Nat) : Fld := ⟨R.NET_STAT i, 8, 8⟩
def NET_STAT_GCL_APPLIED (i : Nat) : Fld := ⟨R.NET_STAT i, 7, 7⟩
def NET_STAT_TX_REJECT (i : Nat) : Fld := ⟨R.NET_STAT i, 6, 6⟩
def NET_STAT_FIFO (i : Nat) : Fld := ⟨R.NET_STAT i, 5, 5⟩
def NET_STAT_RING_OVF (i : Nat) : Fld := ⟨R.NET_STAT i, 4, 4⟩
def NET_STAT_RX_NOBUF (i : Nat) : Fld := ⟨R.NET_STAT i, 3, 3⟩
def NET_STAT_RX_TRUNC (i : Nat) : Fld := ⟨R.NET_STAT i, 2, 2⟩
def NET_STAT_LINK_DN (i : Nat) : Fld := ⟨R.NET_STAT i, 1, 1⟩
def NET_STAT_LINK_UP (i : Nat) : Fld := ⟨R.NET_STAT i, 0, 0⟩
def NET_MASK_GCL_REFUSED (i : Nat) : Fld := ⟨R.NET_MASK i, 8, 8⟩
def NET_MASK_GCL_APPLIED (i : Nat) : Fld := ⟨R.NET_MASK i, 7, 7⟩
def NET_MASK_TX_REJECT (i : Nat) : Fld := ⟨R.NET_MASK i, 6, 6⟩
def NET_MASK_FIFO (i : Nat) : Fld := ⟨R.NET_MASK i, 5, 5⟩
def NET_MASK_RING_OVF (i : Nat) : Fld := ⟨R.NET_MASK i, 4, 4⟩
def NET_MASK_RX_NOBUF (i : Nat) : Fld := ⟨R.NET_MASK i, 3, 3⟩
def NET_MASK_RX_TRUNC (i : Nat) : Fld := ⟨R.NET_MASK i, 2, 2⟩
def NET_MASK_LINK_DN (i : Nat) : Fld := ⟨R.NET_MASK i, 1, 1⟩
def NET_MASK_LINK_UP (i : Nat) : Fld := ⟨R.NET_MASK i, 0, 0⟩
def NET_CFG_PROMISC (i : Nat) : Fld := ⟨R.NET_CFG i, 31, 31⟩
def NET_CFG_OTHER_EN (i : Nat) : Fld := ⟨R.NET_CFG i, 30, 30⟩
def NET_CFG_AN_EN (i : Nat) : Fld := ⟨R.NET_CFG i, 29, 29⟩
def NET_CFG_LPI_EN (i : Nat) : Fld := ⟨R.NET_CFG i, 28, 28⟩
def NET_CFG_MODE (i : Nat) : Fld := ⟨R.NET_CFG i, 2, 0⟩
def NET_LINK_STATE (i : Nat) : Fld := ⟨R.NET_LINK i, 31, 30⟩
def NET_LINK_SPD_ERR (i : Nat) : Fld := ⟨R.NET_LINK i, 29, 29⟩
def NET_LINK_AN_DONE (i : Nat) : Fld := ⟨R.NET_LINK i, 28, 28⟩
def NET_LINK_FEC (i : Nat) : Fld := ⟨R.NET_LINK i, 27, 27⟩
def NET_LINK_TX_LPI (i : Nat) : Fld := ⟨R.NET_LINK i, 26, 26⟩
def NET_LINK_RX_LPI (i : Nat) : Fld := ⟨R.NET_LINK i, 25, 25⟩
def NET_MAC_HI_ADDR (i : Nat) : Fld := ⟨R.NET_MAC_HI i, 15, 0⟩
def NET_MAXFRM_MAXFRM (i : Nat) : Fld := ⟨R.NET_MAXFRM i, 11, 0⟩
def NET_MGMT_UDP_PORT (i : Nat) : Fld := ⟨R.NET_MGMT i, 15, 0⟩
def NET_EEE_WAKE_TCS (i : Nat) : Fld := ⟨R.NET_EEE i, 31, 24⟩
def NET_EEE_MIN_LPI (i : Nat) : Fld := ⟨R.NET_EEE i, 23, 16⟩
def NET_EEE_TW_TX (i : Nat) : Fld := ⟨R.NET_EEE i, 11, 0⟩
def NET_GCL_CTL_EN (i : Nat) : Fld := ⟨R.NET_GCL_CTL i, 31, 31⟩
def NET_GCL_CTL_LEN (i : Nat) : Fld := ⟨R.NET_GCL_CTL i, 8, 0⟩
def NET_GCL_CYCLE_CYCLE (i : Nat) : Fld := ⟨R.NET_GCL_CYCLE i, 29, 0⟩
def NET_GCL_CMD_CMD (i : Nat) : Fld := ⟨R.NET_GCL_CMD i, 3, 0⟩
def NET_GCL_STATE_OPER_EN (i : Nat) : Fld := ⟨R.NET_GCL_STATE i, 31, 31⟩
def NET_GCL_STATE_PEND (i : Nat) : Fld := ⟨R.NET_GCL_STATE i, 30, 30⟩
def NET_GCL_STATE_ENTRY (i : Nat) : Fld := ⟨R.NET_GCL_STATE i, 23, 16⟩
def NET_GCL_STATE_CMD (i : Nat) : Fld := ⟨R.NET_GCL_STATE i, 15, 12⟩
def NET_GCL_STATE_REASON (i : Nat) : Fld := ⟨R.NET_GCL_STATE i, 7, 0⟩
def NET_RR_BASE_BASE (i j : Nat) : Fld := ⟨R.NET_RR_BASE i j, 28, 0⟩
def NET_RR_CFG_BUFSZ (i j : Nat) : Fld := ⟨R.NET_RR_CFG i j, 18, 16⟩
def NET_RR_CFG_SIZE (i j : Nat) : Fld := ⟨R.NET_RR_CFG i j, 12, 0⟩
def NET_RR_TAIL_INDEX (i j : Nat) : Fld := ⟨R.NET_RR_TAIL i j, 12, 0⟩
def NET_RR_HEAD_INDEX (i j : Nat) : Fld := ⟨R.NET_RR_HEAD i j, 12, 0⟩
def NET_RR_STATE_NOBUF (i j : Nat) : Fld := ⟨R.NET_RR_STATE i j, 31, 31⟩
def NET_RR_STATE_FREE (i j : Nat) : Fld := ⟨R.NET_RR_STATE i j, 12, 0⟩
def NET_TR_BASE_BASE (i j : Nat) : Fld := ⟨R.NET_TR_BASE i j, 28, 0⟩
def NET_TR_CFG_TC (i j : Nat) : Fld := ⟨R.NET_TR_CFG i j, 18, 16⟩
def NET_TR_CFG_SIZE (i j : Nat) : Fld := ⟨R.NET_TR_CFG i j, 12, 0⟩
def NET_TR_TAIL_INDEX (i j : Nat) : Fld := ⟨R.NET_TR_TAIL i j, 12, 0⟩
def NET_TR_HEAD_INDEX (i j : Nat) : Fld := ⟨R.NET_TR_HEAD i j, 12, 0⟩
def NET_MCFILT_HI_EN (i j : Nat) : Fld := ⟨R.NET_MCFILT_HI i j, 31, 31⟩
def NET_MCFILT_HI_ADDR (i j : Nat) : Fld := ⟨R.NET_MCFILT_HI i j, 15, 0⟩
def NET_GCL_SHD_GATES (i j : Nat) : Fld := ⟨R.NET_GCL_SHD i j, 31, 24⟩
def NET_GCL_SHD_INTERVAL (i j : Nat) : Fld := ⟨R.NET_GCL_SHD i j, 23, 0⟩
def NET_GCL_OPER_GATES (i j : Nat) : Fld := ⟨R.NET_GCL_OPER i j, 31, 24⟩
def NET_GCL_OPER_INTERVAL (i j : Nat) : Fld := ⟨R.NET_GCL_OPER i j, 23, 0⟩
end F

/-- Rows of block Net: base, instances, reset value, then the RW, RWL, W1C, RCL and WO masks. -/
def rowsNet : List RegRow :=
  [⟨0x600000, [(262144, 4)], 0x0, 0x0, 0x0, 0x1ff, 0x0, 0x0⟩,
   ⟨0x600004, [(262144, 4)], 0x0, 0x1ff, 0x0, 0x0, 0x0, 0x0⟩,
   ⟨0x600008, [(262144, 4)], 0x60000000, 0xd0000000, 0x20000007, 0x0, 0x0, 0x0⟩,
   ⟨0x60000c, [(262144, 4)], 0x0, 0x0, 0x0, 0x0, 0x0, 0x0⟩,
   ⟨0x600010, [(262144, 4)], 0x0, 0xffffffff, 0x0, 0x0, 0x0, 0x0⟩,
   ⟨0x600014, [(262144, 4)], 0x0, 0xffff, 0x0, 0x0, 0x0, 0x0⟩,
   ⟨0x600018, [(262144, 4)], 0x5f2, 0xfff, 0x0, 0x0, 0x0, 0x0⟩,
   ⟨0x60001c, [(262144, 4)], 0xb7f5, 0xffff, 0x0, 0x0, 0x0, 0x0⟩,
   ⟨0x600020, [(262144, 4)], 0xe00a00a5, 0xffff0fff, 0x0, 0x0, 0x0, 0x0⟩,
   ⟨0x600030, [(262144, 4)], 0x1, 0x800001ff, 0x0, 0x0, 0x0, 0x0⟩,
   ⟨0x600034, [(262144, 4)], 0x1e848, 0x3fffffff, 0x0, 0x0, 0x0, 0x0⟩,
   ⟨0x600038, [(262144, 4)], 0x0, 0x0, 0x0, 0x0, 0x0, 0xf⟩,
   ⟨0x60003c, [(262144, 4)], 0x0, 0xffffffff, 0x0, 0x0, 0x0, 0x0⟩,
   ⟨0x600040, [(262144, 4)], 0x0, 0xffffffff, 0x0, 0x0, 0x0, 0x0⟩,
   ⟨0x600044, [(262144, 4)], 0x0, 0x0, 0x0, 0x0, 0x0, 0x0⟩,
   ⟨0x600100, [(262144, 4), (32, 4)], 0x0, 0x0, 0x1fffffff, 0x0, 0x0, 0x0⟩,
   ⟨0x600104, [(262144, 4), (32, 4)], 0x30000, 0x0, 0x71fff, 0x0, 0x0, 0x0⟩,
   ⟨0x600108, [(262144, 4), (32, 4)], 0x0, 0x1fff, 0x0, 0x0, 0x0, 0x0⟩,
   ⟨0x60010c, [(262144, 4), (32, 4)], 0x0, 0x0, 0x0, 0x0, 0x0, 0x0⟩,
   ⟨0x600110, [(262144, 4), (32, 4)], 0x0, 0x0, 0x0, 0x0, 0x0, 0x0⟩,
   ⟨0x600200, [(262144, 4), (32, 4)], 0x0, 0x0, 0x1fffffff, 0x0, 0x0, 0x0⟩,
   ⟨0x600204, [(262144, 4), (32, 4)], 0x0, 0x70000, 0x1fff, 0x0, 0x0, 0x0⟩,
   ⟨0x600208, [(262144, 4), (32, 4)], 0x0, 0x1fff, 0x0, 0x0, 0x0, 0x0⟩,
   ⟨0x60020c, [(262144, 4), (32, 4)], 0x0, 0x0, 0x0, 0x0, 0x0, 0x0⟩] ++
  [⟨0x600300, [(262144, 4)], 0x0, 0x0, 0x0, 0x0, 0xffffffff, 0x0⟩,
   ⟨0x600304, [(262144, 4)], 0x0, 0x0, 0x0, 0x0, 0xffffffff, 0x0⟩,
   ⟨0x600308, [(262144, 4)], 0x0, 0x0, 0x0, 0x0, 0xffffffff, 0x0⟩,
   ⟨0x60030c, [(262144, 4)], 0x0, 0x0, 0x0, 0x0, 0xffffffff, 0x0⟩,
   ⟨0x600310, [(262144, 4)], 0x0, 0x0, 0x0, 0x0, 0xffffffff, 0x0⟩,
   ⟨0x600314, [(262144, 4)], 0x0, 0x0, 0x0, 0x0, 0xffffffff, 0x0⟩,
   ⟨0x600318, [(262144, 4)], 0x0, 0x0, 0x0, 0x0, 0xffffffff, 0x0⟩,
   ⟨0x60031c, [(262144, 4)], 0x0, 0x0, 0x0, 0x0, 0xffffffff, 0x0⟩,
   ⟨0x600320, [(262144, 4)], 0x0, 0x0, 0x0, 0x0, 0xffffffff, 0x0⟩,
   ⟨0x600324, [(262144, 4)], 0x0, 0x0, 0x0, 0x0, 0xffffffff, 0x0⟩,
   ⟨0x600328, [(262144, 4)], 0x0, 0x0, 0x0, 0x0, 0xffffffff, 0x0⟩,
   ⟨0x60032c, [(262144, 4)], 0x0, 0x0, 0x0, 0x0, 0xffffffff, 0x0⟩,
   ⟨0x600330, [(262144, 4)], 0x0, 0x0, 0x0, 0x0, 0xffffffff, 0x0⟩,
   ⟨0x600334, [(262144, 4)], 0x0, 0x0, 0x0, 0x0, 0xffffffff, 0x0⟩,
   ⟨0x600338, [(262144, 4)], 0x0, 0x0, 0x0, 0x0, 0xffffffff, 0x0⟩,
   ⟨0x60033c, [(262144, 4)], 0x0, 0x0, 0x0, 0x0, 0xffffffff, 0x0⟩,
   ⟨0x600340, [(262144, 4)], 0x0, 0x0, 0x0, 0x0, 0xffffffff, 0x0⟩,
   ⟨0x600344, [(262144, 4)], 0x0, 0x0, 0x0, 0x0, 0xffffffff, 0x0⟩,
   ⟨0x600348, [(262144, 4)], 0x0, 0x0, 0x0, 0x0, 0xffffffff, 0x0⟩,
   ⟨0x600400, [(262144, 4), (8, 64)], 0x0, 0xffffffff, 0x0, 0x0, 0x0, 0x0⟩,
   ⟨0x600404, [(262144, 4), (8, 64)], 0x0, 0x8000ffff, 0x0, 0x0, 0x0, 0x0⟩,
   ⟨0x600800, [(262144, 4), (4, 256)], 0xff01e848, 0xffffffff, 0x0, 0x0, 0x0, 0x0⟩,
   ⟨0x600c00, [(262144, 4), (4, 256)], 0xff01e848, 0x0, 0x0, 0x0, 0x0, 0x0⟩]

/-! Block Str: offsets. -/
namespace R
def STR_STAT : Nat := 0x700000
def STR_MASK : Nat := 0x700004
def STR_IP (i j : Nat) : Nat := 0x700010 + 16 * i + 4 * j
def STR_RX_CTL (i : Nat) : Nat := 0x710000 + 256 * i
def STR_RX_CFG (i : Nat) : Nat := 0x710004 + 256 * i
def STR_RX_LINK (i : Nat) : Nat := 0x710008 + 256 * i
def STR_RX_HDR (i : Nat) : Nat := 0x71000c + 256 * i
def STR_RX_UDP (i : Nat) : Nat := 0x710010 + 256 * i
def STR_RX_DSTA (i j : Nat) : Nat := 0x710020 + 256 * i + 4 * j
def STR_RX_DSTB (i j : Nat) : Nat := 0x710030 + 256 * i + 4 * j
def STR_RX_SRCA (i j : Nat) : Nat := 0x710040 + 256 * i + 4 * j
def STR_RX_SRCB (i j : Nat) : Nat := 0x710050 + 256 * i + 4 * j
def STR_RX_RTP_OFS (i : Nat) : Nat := 0x710060 + 256 * i
def STR_RX_TS_ADJ (i : Nat) : Nat := 0x710064 + 256 * i
def STR_RX_STATE (i : Nat) : Nat := 0x710070 + 256 * i
def STR_RX_SIL_LO (i : Nat) : Nat := 0x710078 + 256 * i
def STR_RX_SIL_HI (i : Nat) : Nat := 0x71007c + 256 * i
def STR_RX_PKT (i : Nat) : Nat := 0x710080 + 256 * i
def STR_RX_LATE (i : Nat) : Nat := 0x710084 + 256 * i
def STR_RX_EARLY (i : Nat) : Nat := 0x710088 + 256 * i
def STR_RX_DUP (i : Nat) : Nat := 0x71008c + 256 * i
def STR_RX_LOSS_A (i : Nat) : Nat := 0x710090 + 256 * i
def STR_RX_LOSS_B (i : Nat) : Nat := 0x710094 + 256 * i
def STR_RX_MISS (i : Nat) : Nat := 0x710098 + 256 * i
def STR_RX_CLAIM_LOW (i : Nat) : Nat := 0x71009c + 256 * i
def STR_RX_BAD (i : Nat) : Nat := 0x7100a0 + 256 * i
def STR_RX_SW (i : Nat) : Nat := 0x7100a4 + 256 * i
def STR_TX_CTL (i : Nat) : Nat := 0x720000 + 256 * i
def STR_TX_CFG (i : Nat) : Nat := 0x720004 + 256 * i
def STR_TX_HDR (i : Nat) : Nat := 0x720008 + 256 * i
def STR_TX_UDP (i : Nat) : Nat := 0x72000c + 256 * i
def STR_TX_DMACA_LO (i : Nat) : Nat := 0x720010 + 256 * i
def STR_TX_DMACA_HI (i : Nat) : Nat := 0x720014 + 256 * i
def STR_TX_DMACB_LO (i : Nat) : Nat := 0x720018 + 256 * i
def STR_TX_DMACB_HI (i : Nat) : Nat := 0x72001c + 256 * i
def STR_TX_DSTA (i j : Nat) : Nat := 0x720020 + 256 * i + 4 * j
def STR_TX_DSTB (i j : Nat) : Nat := 0x720030 + 256 * i + 4 * j
def STR_TX_ID_LO (i : Nat) : Nat := 0x720040 + 256 * i
def STR_TX_ID_HI (i : Nat) : Nat := 0x720044 + 256 * i
def STR_TX_RTP_OFS (i : Nat) : Nat := 0x720048 + 256 * i
def STR_TX_PT_OFS (i : Nat) : Nat := 0x72004c + 256 * i
def STR_TX_SEQ (i : Nat) : Nat := 0x720050 + 256 * i
def STR_TX_STATE (i : Nat) : Nat := 0x720054 + 256 * i
def STR_TX_PKT (i : Nat) : Nat := 0x720060 + 256 * i
def STR_TX_HELD (i : Nat) : Nat := 0x720064 + 256 * i
def STR_TX_DROP (i : Nat) : Nat := 0x720068 + 256 * i
def STR_TX_LINK (i : Nat) : Nat := 0x72006c + 256 * i
def STR_TX_MAP (i j : Nat) : Nat := 0x720080 + 256 * i + 4 * j
end R

/-! Block Str: fields. -/
namespace F
def STR_STAT_TX_DROP : Fld := ⟨R.STR_STAT, 7, 7⟩
def STR_STAT_EN_REFUSED : Fld := ⟨R.STR_STAT, 6, 6⟩
def STR_STAT_CLAIM_LOW : Fld := ⟨R.STR_STAT, 5, 5⟩
def STR_STAT_MODE_SW : Fld := ⟨R.STR_STAT, 4, 4⟩
def STR_STAT_CONCEAL : Fld := ⟨R.STR_STAT, 3, 3⟩
def STR_STAT_RX_EARLY : Fld := ⟨R.STR_STAT, 2, 2⟩
def STR_STAT_RX_LATE : Fld := ⟨R.STR_STAT, 1, 1⟩
def STR_STAT_RX_LOST : Fld := ⟨R.STR_STAT, 0, 0⟩
def STR_MASK_TX_DROP : Fld := ⟨R.STR_MASK, 7, 7⟩
def STR_MASK_EN_REFUSED : Fld := ⟨R.STR_MASK, 6, 6⟩
def STR_MASK_CLAIM_LOW : Fld := ⟨R.STR_MASK, 5, 5⟩
def STR_MASK_MODE_SW : Fld := ⟨R.STR_MASK, 4, 4⟩
def STR_MASK_CONCEAL : Fld := ⟨R.STR_MASK, 3, 3⟩
def STR_MASK_RX_EARLY : Fld := ⟨R.STR_MASK, 2, 2⟩
def STR_MASK_RX_LATE : Fld := ⟨R.STR_MASK, 1, 1⟩
def STR_MASK_RX_LOST : Fld := ⟨R.STR_MASK, 0, 0⟩
def STR_RX_CTL_EN (i : Nat) : Fld := ⟨R.STR_RX_CTL i, 31, 31⟩
def STR_RX_CFG_FMT (i : Nat) : Fld := ⟨R.STR_RX_CFG i, 31, 29⟩
def STR_RX_CFG_IPV6 (i : Nat) : Fld := ⟨R.STR_RX_CFG i, 28, 28⟩
def STR_RX_CFG_DUAL (i : Nat) : Fld := ⟨R.STR_RX_CFG i, 27, 27⟩
def STR_RX_CFG_SSM (i : Nat) : Fld := ⟨R.STR_RX_CFG i, 26, 26⟩
def STR_RX_CFG_CLAIM_EN (i : Nat) : Fld := ⟨R.STR_RX_CFG i, 25, 25⟩
def STR_RX_CFG_MODE (i : Nat) : Fld := ⟨R.STR_RX_CFG i, 24, 24⟩
def STR_RX_CFG_TB (i : Nat) : Fld := ⟨R.STR_RX_CFG i, 23, 22⟩
def STR_RX_CFG_PORT (i : Nat) : Fld := ⟨R.STR_RX_CFG i, 21, 20⟩
def STR_RX_CFG_RATE (i : Nat) : Fld := ⟨R.STR_RX_CFG i, 19, 19⟩
def STR_RX_CFG_PTIME (i : Nat) : Fld := ⟨R.STR_RX_CFG i, 18, 17⟩
def STR_RX_CFG_CH (i : Nat) : Fld := ⟨R.STR_RX_CFG i, 5, 0⟩
def STR_RX_LINK_TMO (i : Nat) : Fld := ⟨R.STR_RX_LINK i, 23, 16⟩
def STR_RX_LINK_L (i : Nat) : Fld := ⟨R.STR_RX_LINK i, 6, 0⟩
def STR_RX_HDR_PCP (i : Nat) : Fld := ⟨R.STR_RX_HDR i, 31, 29⟩
def STR_RX_HDR_VID (i : Nat) : Fld := ⟨R.STR_RX_HDR i, 27, 16⟩
def STR_RX_HDR_EXT_ID (i : Nat) : Fld := ⟨R.STR_RX_HDR i, 11, 8⟩
def STR_RX_HDR_PT (i : Nat) : Fld := ⟨R.STR_RX_HDR i, 6, 0⟩
def STR_RX_UDP_PORT_B (i : Nat) : Fld := ⟨R.STR_RX_UDP i, 31, 16⟩
def STR_RX_UDP_PORT_A (i : Nat) : Fld := ⟨R.STR_RX_UDP i, 15, 0⟩
def STR_RX_STATE_STATE (i : Nat) : Fld := ⟨R.STR_RX_STATE i, 31, 30⟩
def STR_RX_STATE_ASRC (i : Nat) : Fld := ⟨R.STR_RX_STATE i, 29, 29⟩
def STR_RX_STATE_LEG_A (i : Nat) : Fld := ⟨R.STR_RX_STATE i, 28, 28⟩
def STR_RX_STATE_LEG_B (i : Nat) : Fld := ⟨R.STR_RX_STATE i, 27, 27⟩
def STR_RX_STATE_REASON (i : Nat) : Fld := ⟨R.STR_RX_STATE i, 23, 16⟩
def STR_RX_STATE_HELD (i : Nat) : Fld := ⟨R.STR_RX_STATE i, 15, 0⟩
def STR_TX_CTL_EN (i : Nat) : Fld := ⟨R.STR_TX_CTL i, 31, 31⟩
def STR_TX_CFG_FMT (i : Nat) : Fld := ⟨R.STR_TX_CFG i, 31, 29⟩
def STR_TX_CFG_IPV6 (i : Nat) : Fld := ⟨R.STR_TX_CFG i, 28, 28⟩
def STR_TX_CFG_DUAL (i : Nat) : Fld := ⟨R.STR_TX_CFG i, 27, 27⟩
def STR_TX_CFG_CLAIM_EN (i : Nat) : Fld := ⟨R.STR_TX_CFG i, 26, 26⟩
def STR_TX_CFG_VLAN_EN (i : Nat) : Fld := ⟨R.STR_TX_CFG i, 25, 25⟩
def STR_TX_CFG_TC (i : Nat) : Fld := ⟨R.STR_TX_CFG i, 24, 22⟩
def STR_TX_CFG_PORT (i : Nat) : Fld := ⟨R.STR_TX_CFG i, 21, 20⟩
def STR_TX_CFG_PTIME (i : Nat) : Fld := ⟨R.STR_TX_CFG i, 19, 18⟩
def STR_TX_CFG_DSCP (i : Nat) : Fld := ⟨R.STR_TX_CFG i, 17, 12⟩
def STR_TX_CFG_CH (i : Nat) : Fld := ⟨R.STR_TX_CFG i, 5, 0⟩
def STR_TX_HDR_PCP (i : Nat) : Fld := ⟨R.STR_TX_HDR i, 31, 29⟩
def STR_TX_HDR_VID (i : Nat) : Fld := ⟨R.STR_TX_HDR i, 27, 16⟩
def STR_TX_HDR_EXT_ID (i : Nat) : Fld := ⟨R.STR_TX_HDR i, 11, 8⟩
def STR_TX_HDR_PT (i : Nat) : Fld := ⟨R.STR_TX_HDR i, 6, 0⟩
def STR_TX_UDP_PORT_B (i : Nat) : Fld := ⟨R.STR_TX_UDP i, 31, 16⟩
def STR_TX_UDP_PORT_A (i : Nat) : Fld := ⟨R.STR_TX_UDP i, 15, 0⟩
def STR_TX_DMACA_HI_ADDR (i : Nat) : Fld := ⟨R.STR_TX_DMACA_HI i, 15, 0⟩
def STR_TX_DMACB_HI_ADDR (i : Nat) : Fld := ⟨R.STR_TX_DMACB_HI i, 15, 0⟩
def STR_TX_SEQ_SEQ (i : Nat) : Fld := ⟨R.STR_TX_SEQ i, 15, 0⟩
def STR_TX_STATE_STATE (i : Nat) : Fld := ⟨R.STR_TX_STATE i, 31, 30⟩
def STR_TX_STATE_HELD (i : Nat) : Fld := ⟨R.STR_TX_STATE i, 29, 29⟩
def STR_TX_STATE_REASON (i : Nat) : Fld := ⟨R.STR_TX_STATE i, 23, 16⟩
def STR_TX_MAP_ODD (i j : Nat) : Fld := ⟨R.STR_TX_MAP i j, 31, 16⟩
def STR_TX_MAP_EVEN (i j : Nat) : Fld := ⟨R.STR_TX_MAP i j, 15, 0⟩
end F

/-- Rows of block Str: base, instances, reset value, then the RW, RWL, W1C, RCL and WO masks. -/
def rowsStr : List RegRow :=
  [⟨0x700000, [], 0x0, 0x0, 0x0, 0xff, 0x0, 0x0⟩,
   ⟨0x700004, [], 0x0, 0xff, 0x0, 0x0, 0x0, 0x0⟩,
   ⟨0x700010, [(16, 4), (4, 4)], 0x0, 0xffffffff, 0x0, 0x0, 0x0, 0x0⟩,
   ⟨0x710000, [(256, 256)], 0x0, 0x80000000, 0x0, 0x0, 0x0, 0x0⟩,
   ⟨0x710004, [(256, 256)], 0x20080007, 0xfffe003f, 0x0, 0x0, 0x0, 0x0⟩,
   ⟨0x710008, [(256, 256)], 0xa0002, 0xff007f, 0x0, 0x0, 0x0, 0x0⟩,
   ⟨0x71000c, [(256, 256)], 0x161, 0xefff0f7f, 0x0, 0x0, 0x0, 0x0⟩,
   ⟨0x710010, [(256, 256)], 0x13881388, 0xffffffff, 0x0, 0x0, 0x0, 0x0⟩,
   ⟨0x710020, [(256, 256), (4, 4)], 0x0, 0xffffffff, 0x0, 0x0, 0x0, 0x0⟩,
   ⟨0x710030, [(256, 256), (4, 4)], 0x0, 0xffffffff, 0x0, 0x0, 0x0, 0x0⟩,
   ⟨0x710040, [(256, 256), (4, 4)], 0x0, 0xffffffff, 0x0, 0x0, 0x0, 0x0⟩,
   ⟨0x710050, [(256, 256), (4, 4)], 0x0, 0xffffffff, 0x0, 0x0, 0x0, 0x0⟩,
   ⟨0x710060, [(256, 256)], 0x0, 0xffffffff, 0x0, 0x0, 0x0, 0x0⟩,
   ⟨0x710064, [(256, 256)], 0x0, 0xffffffff, 0x0, 0x0, 0x0, 0x0⟩,
   ⟨0x710070, [(256, 256)], 0x0, 0x0, 0x0, 0x0, 0x0, 0x0⟩,
   ⟨0x710078, [(256, 256)], 0x0, 0x0, 0x0, 0x0, 0x0, 0x0⟩,
   ⟨0x71007c, [(256, 256)], 0x0, 0x0, 0x0, 0x0, 0x0, 0x0⟩,
   ⟨0x710080, [(256, 256)], 0x0, 0x0, 0x0, 0x0, 0xffffffff, 0x0⟩,
   ⟨0x710084, [(256, 256)], 0x0, 0x0, 0x0, 0x0, 0xffffffff, 0x0⟩,
   ⟨0x710088, [(256, 256)], 0x0, 0x0, 0x0, 0x0, 0xffffffff, 0x0⟩,
   ⟨0x71008c, [(256, 256)], 0x0, 0x0, 0x0, 0x0, 0xffffffff, 0x0⟩,
   ⟨0x710090, [(256, 256)], 0x0, 0x0, 0x0, 0x0, 0xffffffff, 0x0⟩,
   ⟨0x710094, [(256, 256)], 0x0, 0x0, 0x0, 0x0, 0xffffffff, 0x0⟩,
   ⟨0x710098, [(256, 256)], 0x0, 0x0, 0x0, 0x0, 0xffffffff, 0x0⟩] ++
  [⟨0x71009c, [(256, 256)], 0x0, 0x0, 0x0, 0x0, 0xffffffff, 0x0⟩,
   ⟨0x7100a0, [(256, 256)], 0x0, 0x0, 0x0, 0x0, 0xffffffff, 0x0⟩,
   ⟨0x7100a4, [(256, 256)], 0x0, 0x0, 0x0, 0x0, 0xffffffff, 0x0⟩,
   ⟨0x720000, [(256, 256)], 0x0, 0x80000000, 0x0, 0x0, 0x0, 0x0⟩,
   ⟨0x720004, [(256, 256)], 0x21822007, 0xfffff03f, 0x0, 0x0, 0x0, 0x0⟩,
   ⟨0x720008, [(256, 256)], 0x161, 0xefff0f7f, 0x0, 0x0, 0x0, 0x0⟩,
   ⟨0x72000c, [(256, 256)], 0x13881388, 0xffffffff, 0x0, 0x0, 0x0, 0x0⟩,
   ⟨0x720010, [(256, 256)], 0x0, 0xffffffff, 0x0, 0x0, 0x0, 0x0⟩,
   ⟨0x720014, [(256, 256)], 0x0, 0xffff, 0x0, 0x0, 0x0, 0x0⟩,
   ⟨0x720018, [(256, 256)], 0x0, 0xffffffff, 0x0, 0x0, 0x0, 0x0⟩,
   ⟨0x72001c, [(256, 256)], 0x0, 0xffff, 0x0, 0x0, 0x0, 0x0⟩,
   ⟨0x720020, [(256, 256), (4, 4)], 0x0, 0xffffffff, 0x0, 0x0, 0x0, 0x0⟩,
   ⟨0x720030, [(256, 256), (4, 4)], 0x0, 0xffffffff, 0x0, 0x0, 0x0, 0x0⟩,
   ⟨0x720040, [(256, 256)], 0x0, 0xffffffff, 0x0, 0x0, 0x0, 0x0⟩,
   ⟨0x720044, [(256, 256)], 0x0, 0xffffffff, 0x0, 0x0, 0x0, 0x0⟩,
   ⟨0x720048, [(256, 256)], 0x0, 0xffffffff, 0x0, 0x0, 0x0, 0x0⟩,
   ⟨0x72004c, [(256, 256)], 0x0, 0xffffffff, 0x0, 0x0, 0x0, 0x0⟩,
   ⟨0x720050, [(256, 256)], 0x0, 0x0, 0x0, 0x0, 0x0, 0x0⟩,
   ⟨0x720054, [(256, 256)], 0x0, 0x0, 0x0, 0x0, 0x0, 0x0⟩,
   ⟨0x720060, [(256, 256)], 0x0, 0x0, 0x0, 0x0, 0xffffffff, 0x0⟩,
   ⟨0x720064, [(256, 256)], 0x0, 0x0, 0x0, 0x0, 0xffffffff, 0x0⟩,
   ⟨0x720068, [(256, 256)], 0x0, 0x0, 0x0, 0x0, 0xffffffff, 0x0⟩,
   ⟨0x72006c, [(256, 256)], 0x0, 0x0, 0x0, 0x0, 0xffffffff, 0x0⟩,
   ⟨0x720080, [(256, 256), (4, 32)], 0xffffffff, 0xffffffff, 0x0, 0x0, 0x0, 0x0⟩]

/-! Block Apd: offsets. -/
namespace R
def APD_STAT : Nat := 0x800000
def APD_MASK : Nat := 0x800004
def APD_GCTL (i : Nat) : Nat := 0x801000 + 64 * i
def APD_GCFG (i : Nat) : Nat := 0x801004 + 64 * i
def APD_GDIV (i : Nat) : Nat := 0x801008 + 64 * i
def APD_GSTATE (i : Nat) : Nat := 0x80100c + 64 * i
def APD_GRATE (i : Nat) : Nat := 0x801010 + 64 * i
def APD_RISER (i : Nat) : Nat := 0x801014 + 64 * i
def APD_LOOP (i : Nat) : Nat := 0x801018 + 64 * i
def APD_LOOPK (i : Nat) : Nat := 0x80101c + 64 * i
def APD_LOOPOUT (i : Nat) : Nat := 0x801020 + 64 * i
def APD_GGLITCH (i : Nat) : Nat := 0x801024 + 64 * i
def APD_GLOSS (i : Nat) : Nat := 0x801028 + 64 * i
def APD_GSLIP_REP (i : Nat) : Nat := 0x80102c + 64 * i
def APD_GSLIP_DROP (i : Nat) : Nat := 0x801030 + 64 * i
def APD_GBCLK_ERR (i : Nat) : Nat := 0x801034 + 64 * i
def APD_LCFG (i : Nat) : Nat := 0x804000 + 256 * i
def APD_LMASK (i : Nat) : Nat := 0x804004 + 256 * i
def APD_LMASK_LIVE (i : Nat) : Nat := 0x804008 + 256 * i
def APD_LSTATE (i : Nat) : Nat := 0x80400c + 256 * i
def APD_LPARITY (i : Nat) : Nat := 0x804010 + 256 * i
def APD_LBP_LOSS (i : Nat) : Nat := 0x804014 + 256 * i
def APD_LCS_CRC (i : Nat) : Nat := 0x804018 + 256 * i
def APD_LMAP (i j : Nat) : Nat := 0x804040 + 256 * i + 4 * j
def APD_CSTX (i j : Nat) : Nat := 0x808000 + 256 * i + 4 * j
def APD_CSRX (i j : Nat) : Nat := 0x808080 + 256 * i + 4 * j
end R

/-! Block Apd: fields. -/
namespace F
def APD_STAT_MASK_PEND : Fld := ⟨R.APD_STAT, 31, 31⟩
def APD_STAT_LOOP_LIMIT : Fld := ⟨R.APD_STAT, 10, 10⟩
def APD_STAT_CS_NEW : Fld := ⟨R.APD_STAT, 9, 9⟩
def APD_STAT_PARITY : Fld := ⟨R.APD_STAT, 8, 8⟩
def APD_STAT_BP_LOSS : Fld := ⟨R.APD_STAT, 7, 7⟩
def APD_STAT_EN_REFUSED : Fld := ⟨R.APD_STAT, 6, 6⟩
def APD_STAT_MASK_DONE : Fld := ⟨R.APD_STAT, 5, 5⟩
def APD_STAT_SLIP : Fld := ⟨R.APD_STAT, 4, 4⟩
def APD_STAT_REINSTATED : Fld := ⟨R.APD_STAT, 3, 3⟩
def APD_STAT_RATE_CHG : Fld := ⟨R.APD_STAT, 2, 2⟩
def APD_STAT_CLK_LOSS : Fld := ⟨R.APD_STAT, 1, 1⟩
def APD_STAT_GLITCH : Fld := ⟨R.APD_STAT, 0, 0⟩
def APD_MASK_LOOP_LIMIT : Fld := ⟨R.APD_MASK, 10, 10⟩
def APD_MASK_CS_NEW : Fld := ⟨R.APD_MASK, 9, 9⟩
def APD_MASK_PARITY : Fld := ⟨R.APD_MASK, 8, 8⟩
def APD_MASK_BP_LOSS : Fld := ⟨R.APD_MASK, 7, 7⟩
def APD_MASK_EN_REFUSED : Fld := ⟨R.APD_MASK, 6, 6⟩
def APD_MASK_MASK_DONE : Fld := ⟨R.APD_MASK, 5, 5⟩
def APD_MASK_SLIP : Fld := ⟨R.APD_MASK, 4, 4⟩
def APD_MASK_REINSTATED : Fld := ⟨R.APD_MASK, 3, 3⟩
def APD_MASK_RATE_CHG : Fld := ⟨R.APD_MASK, 2, 2⟩
def APD_MASK_CLK_LOSS : Fld := ⟨R.APD_MASK, 1, 1⟩
def APD_MASK_GLITCH : Fld := ⟨R.APD_MASK, 0, 0⟩
def APD_GCTL_EN (i : Nat) : Fld := ⟨R.APD_GCTL i, 31, 31⟩
def APD_GCFG_MASTER (i : Nat) : Fld := ⟨R.APD_GCFG i, 31, 31⟩
def APD_GCFG_RATE (i : Nat) : Fld := ⟨R.APD_GCFG i, 30, 30⟩
def APD_GCFG_LOOP (i : Nat) : Fld := ⟨R.APD_GCFG i, 29, 29⟩
def APD_GCFG_BCLK_INV (i : Nat) : Fld := ⟨R.APD_GCFG i, 28, 28⟩
def APD_GCFG_FS_INV (i : Nat) : Fld := ⟨R.APD_GCFG i, 27, 27⟩
def APD_GCFG_FMT (i : Nat) : Fld := ⟨R.APD_GCFG i, 26, 24⟩
def APD_GCFG_SLOTS (i : Nat) : Fld := ⟨R.APD_GCFG i, 23, 21⟩
def APD_GCFG_SW (i : Nat) : Fld := ⟨R.APD_GCFG i, 20, 19⟩
def APD_GCFG_FS_DLY (i : Nat) : Fld := ⟨R.APD_GCFG i, 18, 18⟩
def APD_GCFG_FS_WIDTH (i : Nat) : Fld := ⟨R.APD_GCFG i, 17, 16⟩
def APD_GDIV_N (i : Nat) : Fld := ⟨R.APD_GDIV i, 31, 24⟩
def APD_GDIV_F (i : Nat) : Fld := ⟨R.APD_GDIV i, 23, 0⟩
def APD_GSTATE_STATE (i : Nat) : Fld := ⟨R.APD_GSTATE i, 31, 29⟩
def APD_GSTATE_REASON (i : Nat) : Fld := ⟨R.APD_GSTATE i, 23, 16⟩
def APD_GSTATE_LANE (i : Nat) : Fld := ⟨R.APD_GSTATE i, 5, 0⟩
def APD_RISER_RUN (i : Nat) : Fld := ⟨R.APD_RISER i, 31, 31⟩
def APD_RISER_FILL (i : Nat) : Fld := ⟨R.APD_RISER i, 6, 0⟩
def APD_LOOP_OUT (i : Nat) : Fld := ⟨R.APD_LOOP i, 31, 31⟩
def APD_LOOP_INV (i : Nat) : Fld := ⟨R.APD_LOOP i, 30, 30⟩
def APD_LOOP_DAC (i : Nat) : Fld := ⟨R.APD_LOOP i, 28, 24⟩
def APD_LOOP_GPIO (i : Nat) : Fld := ⟨R.APD_LOOP i, 20, 16⟩
def APD_LOOP_CENTRE (i : Nat) : Fld := ⟨R.APD_LOOP i, 15, 0⟩
def APD_LOOPK_KP (i : Nat) : Fld := ⟨R.APD_LOOPK i, 15, 8⟩
def APD_LOOPK_KI (i : Nat) : Fld := ⟨R.APD_LOOPK i, 7, 0⟩
def APD_LOOPOUT_LIMIT (i : Nat) : Fld := ⟨R.APD_LOOPOUT i, 31, 31⟩
def APD_LOOPOUT_LOCKED (i : Nat) : Fld := ⟨R.APD_LOOPOUT i, 30, 30⟩
def APD_LOOPOUT_U (i : Nat) : Fld := ⟨R.APD_LOOPOUT i, 15, 0⟩
def APD_LCFG_DIR (i : Nat) : Fld := ⟨R.APD_LCFG i, 31, 31⟩
def APD_LCFG_BIPHASE (i : Nat) : Fld := ⟨R.APD_LCFG i, 30, 30⟩
def APD_LCFG_IDLE (i : Nat) : Fld := ⟨R.APD_LCFG i, 29, 29⟩
def APD_LCFG_W (i : Nat) : Fld := ⟨R.APD_LCFG i, 28, 27⟩
def APD_LCFG_VHOLD (i : Nat) : Fld := ⟨R.APD_LCFG i, 26, 26⟩
def APD_LCFG_CRCC (i : Nat) : Fld := ⟨R.APD_LCFG i, 25, 25⟩
def APD_LCFG_CS_COMMIT (i : Nat) : Fld := ⟨R.APD_LCFG i, 24, 24⟩
def APD_LSTATE_PEND (i : Nat) : Fld := ⟨R.APD_LSTATE i, 31, 31⟩
def APD_LSTATE_BP_LOCK (i : Nat) : Fld := ⟨R.APD_LSTATE i, 30, 30⟩
def APD_LSTATE_BP_RATE (i : Nat) : Fld := ⟨R.APD_LSTATE i, 29, 27⟩
def APD_LSTATE_V (i : Nat) : Fld := ⟨R.APD_LSTATE i, 1, 0⟩
def APD_LMAP_ODD (i j : Nat) : Fld := ⟨R.APD_LMAP i j, 31, 16⟩
def APD_LMAP_EVEN (i j : Nat) : Fld := ⟨R.APD_LMAP i j, 15, 0⟩
end F

/-- Rows of block Apd: base, instances, reset value, then the RW, RWL, W1C, RCL and WO masks. -/
def rowsApd : List RegRow :=
  [⟨0x800000, [], 0x0, 0x0, 0x0, 0x7ff, 0x0, 0x0⟩,
   ⟨0x800004, [], 0x0, 0x7ff, 0x0, 0x0, 0x0, 0x0⟩,
   ⟨0x801000, [(64, 16)], 0x0, 0x80000000, 0x0, 0x0, 0x0, 0x0⟩,
   ⟨0x801004, [(64, 16)], 0xc0100000, 0xffff0000, 0x0, 0x0, 0x0, 0x0⟩,
   ⟨0x801008, [(64, 16)], 0x4000000, 0xffffffff, 0x0, 0x0, 0x0, 0x0⟩,
   ⟨0x80100c, [(64, 16)], 0x0, 0x0, 0x0, 0x0, 0x0, 0x0⟩,
   ⟨0x801010, [(64, 16)], 0x0, 0x0, 0x0, 0x0, 0x0, 0x0⟩,
   ⟨0x801014, [(64, 16)], 0x0, 0x0, 0x0, 0x0, 0x0, 0x0⟩,
   ⟨0x801018, [(64, 16)], 0x8000, 0xdf1fffff, 0x0, 0x0, 0x0, 0x0⟩,
   ⟨0x80101c, [(64, 16)], 0x4010, 0xffff, 0x0, 0x0, 0x0, 0x0⟩,
   ⟨0x801020, [(64, 16)], 0x0, 0x0, 0x0, 0x0, 0x0, 0x0⟩,
   ⟨0x801024, [(64, 16)], 0x0, 0x0, 0x0, 0x0, 0xffffffff, 0x0⟩,
   ⟨0x801028, [(64, 16)], 0x0, 0x0, 0x0, 0x0, 0xffffffff, 0x0⟩,
   ⟨0x80102c, [(64, 16)], 0x0, 0x0, 0x0, 0x0, 0xffffffff, 0x0⟩,
   ⟨0x801030, [(64, 16)], 0x0, 0x0, 0x0, 0x0, 0xffffffff, 0x0⟩,
   ⟨0x801034, [(64, 16)], 0x0, 0x0, 0x0, 0x0, 0xffffffff, 0x0⟩,
   ⟨0x804000, [(256, 64)], 0xa000000, 0xfe000000, 0x0, 0x0, 0x0, 0x1000000⟩,
   ⟨0x804004, [(256, 64)], 0x0, 0xffffffff, 0x0, 0x0, 0x0, 0x0⟩,
   ⟨0x804008, [(256, 64)], 0x0, 0x0, 0x0, 0x0, 0x0, 0x0⟩,
   ⟨0x80400c, [(256, 64)], 0x0, 0x0, 0x0, 0x0, 0x0, 0x0⟩,
   ⟨0x804010, [(256, 64)], 0x0, 0x0, 0x0, 0x0, 0xffffffff, 0x0⟩,
   ⟨0x804014, [(256, 64)], 0x0, 0x0, 0x0, 0x0, 0xffffffff, 0x0⟩,
   ⟨0x804018, [(256, 64)], 0x0, 0x0, 0x0, 0x0, 0xffffffff, 0x0⟩,
   ⟨0x804040, [(256, 64), (4, 16)], 0xffffffff, 0xffffffff, 0x0, 0x0, 0x0, 0x0⟩] ++
  [⟨0x808000, [(256, 64), (4, 24)], 0x0, 0xffffffff, 0x0, 0x0, 0x0, 0x0⟩,
   ⟨0x808080, [(256, 64), (4, 24)], 0x0, 0x0, 0x0, 0x0, 0x0, 0x0⟩]

/-! Block Pdm: offsets. -/
namespace R
def PDM_STAT : Nat := 0x900000
def PDM_MASK : Nat := 0x900004
def PDM_CFG : Nat := 0x900008
def PDM_CMD : Nat := 0x90000c
def PDM_CLKCFG (i : Nat) : Nat := 0x900010 + 4 * i
def PDM_MIC (i : Nat) : Nat := 0x900040 + 4 * i
def PDM_IDLE : Nat := 0x9000c0
def PDM_SYNC_LO : Nat := 0x9000c4
def PDM_SYNC_HI : Nat := 0x9000c8
def PDM_SAT_CNT : Nat := 0x9000d0
def PDM_SYNC_REJ_CNT : Nat := 0x9000d4
end R

/-! Block Pdm: fields. -/
namespace F
def PDM_STAT_SAT : Fld := ⟨R.PDM_STAT, 2, 2⟩
def PDM_STAT_IDLE : Fld := ⟨R.PDM_STAT, 1, 1⟩
def PDM_STAT_SYNC_DONE : Fld := ⟨R.PDM_STAT, 0, 0⟩
def PDM_MASK_SAT : Fld := ⟨R.PDM_MASK, 2, 2⟩
def PDM_MASK_IDLE : Fld := ⟨R.PDM_MASK, 1, 1⟩
def PDM_MASK_SYNC_DONE : Fld := ⟨R.PDM_MASK, 0, 0⟩
def PDM_CFG_CLKRATE : Fld := ⟨R.PDM_CFG, 31, 31⟩
def PDM_CFG_SYNC_DIR : Fld := ⟨R.PDM_CFG, 30, 30⟩
def PDM_CFG_SYNC_IN_EN : Fld := ⟨R.PDM_CFG, 29, 29⟩
def PDM_CMD_SYNC : Fld := ⟨R.PDM_CMD, 0, 0⟩
def PDM_CLKCFG_EN (i : Nat) : Fld := ⟨R.PDM_CLKCFG i, 31, 31⟩
def PDM_CLKCFG_CLAIM (i : Nat) : Fld := ⟨R.PDM_CLKCFG i, 30, 30⟩
def PDM_CLKCFG_PRESET (i : Nat) : Fld := ⟨R.PDM_CLKCFG i, 1, 0⟩
def PDM_MIC_EN (i : Nat) : Fld := ⟨R.PDM_MIC i, 31, 31⟩
def PDM_MIC_INV (i : Nat) : Fld := ⟨R.PDM_MIC i, 30, 30⟩
def PDM_MIC_GAIN (i : Nat) : Fld := ⟨R.PDM_MIC i, 15, 0⟩
end F

/-- Rows of block Pdm: base, instances, reset value, then the RW, RWL, W1C, RCL and WO masks. -/
def rowsPdm : List RegRow :=
  [⟨0x900000, [], 0x0, 0x0, 0x0, 0x7, 0x0, 0x0⟩,
   ⟨0x900004, [], 0x0, 0x7, 0x0, 0x0, 0x0, 0x0⟩,
   ⟨0x900008, [], 0x0, 0x0, 0xe0000000, 0x0, 0x0, 0x0⟩,
   ⟨0x90000c, [], 0x0, 0x0, 0x0, 0x0, 0x0, 0x1⟩,
   ⟨0x900010, [(4, 4)], 0x1, 0x0, 0xc0000003, 0x0, 0x0, 0x0⟩,
   ⟨0x900040, [(4, 32)], 0x1000, 0xc000ffff, 0x0, 0x0, 0x0, 0x0⟩,
   ⟨0x9000c0, [], 0x0, 0x0, 0x0, 0x0, 0x0, 0x0⟩,
   ⟨0x9000c4, [], 0x0, 0x0, 0x0, 0x0, 0x0, 0x0⟩,
   ⟨0x9000c8, [], 0x0, 0x0, 0x0, 0x0, 0x0, 0x0⟩,
   ⟨0x9000d0, [], 0x0, 0x0, 0x0, 0x0, 0xffffffff, 0x0⟩,
   ⟨0x9000d4, [], 0x0, 0x0, 0x0, 0x0, 0xffffffff, 0x0⟩]

/-! Block Cap: offsets. -/
namespace R
def CAP_STAT : Nat := 0x908000
def CAP_MASK : Nat := 0x908004
def CAP_CFG : Nat := 0x908008
def CAP_BASE : Nat := 0x90800c
def CAP_LEN : Nat := 0x908010
def CAP_MSI_LO : Nat := 0x908014
def CAP_MSI_HI : Nat := 0x908018
def CAP_CMD : Nat := 0x90801c
def CAP_STATE : Nat := 0x908020
def CAP_POS : Nat := 0x908024
def CAP_STIM : Nat := 0x908028
def CAP_SWEEP_F1 : Nat := 0x90802c
def CAP_SWEEP_F2 : Nat := 0x908030
def CAP_SWEEP_T : Nat := 0x908034
end R

/-! Block Cap: fields. -/
namespace F
def CAP_STAT_SYNC_IN_CAP : Fld := ⟨R.CAP_STAT, 4, 4⟩
def CAP_STAT_CUT : Fld := ⟨R.CAP_STAT, 3, 3⟩
def CAP_STAT_REFUSED : Fld := ⟨R.CAP_STAT, 2, 2⟩
def CAP_STAT_DONE : Fld := ⟨R.CAP_STAT, 1, 1⟩
def CAP_STAT_STARTED : Fld := ⟨R.CAP_STAT, 0, 0⟩
def CAP_MASK_SYNC_IN_CAP : Fld := ⟨R.CAP_MASK, 4, 4⟩
def CAP_MASK_CUT : Fld := ⟨R.CAP_MASK, 3, 3⟩
def CAP_MASK_REFUSED : Fld := ⟨R.CAP_MASK, 2, 2⟩
def CAP_MASK_DONE : Fld := ⟨R.CAP_MASK, 1, 1⟩
def CAP_MASK_STARTED : Fld := ⟨R.CAP_MASK, 0, 0⟩
def CAP_CFG_MEAS : Fld := ⟨R.CAP_CFG, 31, 31⟩
def CAP_CFG_CH : Fld := ⟨R.CAP_CFG, 5, 0⟩
def CAP_CMD_CMD : Fld := ⟨R.CAP_CMD, 3, 0⟩
def CAP_STATE_STATE : Fld := ⟨R.CAP_STATE, 31, 30⟩
def CAP_STATE_CMD : Fld := ⟨R.CAP_STATE, 11, 8⟩
def CAP_STATE_REASON : Fld := ⟨R.CAP_STATE, 7, 0⟩
def CAP_STIM_TYPE : Fld := ⟨R.CAP_STIM, 31, 30⟩
def CAP_STIM_LVL : Fld := ⟨R.CAP_STIM, 29, 24⟩
def CAP_STIM_ORDER : Fld := ⟨R.CAP_STIM, 20, 16⟩
def CAP_STIM_REP : Fld := ⟨R.CAP_STIM, 15, 0⟩
end F

/-- Rows of block Cap: base, instances, reset value, then the RW, RWL, W1C, RCL and WO masks. -/
def rowsCap : List RegRow :=
  [⟨0x908000, [], 0x0, 0x0, 0x0, 0x1f, 0x0, 0x0⟩,
   ⟨0x908004, [], 0x0, 0x1f, 0x0, 0x0, 0x0, 0x0⟩,
   ⟨0x908008, [], 0x80000000, 0x8000003f, 0x0, 0x0, 0x0, 0x0⟩,
   ⟨0x90800c, [], 0x0, 0xffffffff, 0x0, 0x0, 0x0, 0x0⟩,
   ⟨0x908010, [], 0x0, 0xffffffff, 0x0, 0x0, 0x0, 0x0⟩,
   ⟨0x908014, [], 0x0, 0xffffffff, 0x0, 0x0, 0x0, 0x0⟩,
   ⟨0x908018, [], 0x0, 0xffffffff, 0x0, 0x0, 0x0, 0x0⟩,
   ⟨0x90801c, [], 0x0, 0x0, 0x0, 0x0, 0x0, 0xf⟩,
   ⟨0x908020, [], 0x0, 0x0, 0x0, 0x0, 0x0, 0x0⟩,
   ⟨0x908024, [], 0x0, 0x0, 0x0, 0x0, 0x0, 0x0⟩,
   ⟨0x908028, [], 0x14100001, 0xff1fffff, 0x0, 0x0, 0x0, 0x0⟩,
   ⟨0x90802c, [], 0x14, 0xffffffff, 0x0, 0x0, 0x0, 0x0⟩,
   ⟨0x908030, [], 0x4e20, 0xffffffff, 0x0, 0x0, 0x0, 0x0⟩,
   ⟨0x908034, [], 0x8ca00, 0xffffffff, 0x0, 0x0, 0x0, 0x0⟩]

/-! Block Dac: offsets. -/
namespace R
def DAC_STAT : Nat := 0x980000
def DAC_MASK : Nat := 0x980004
def DAC_CMD : Nat := 0x980008
def DAC_CFG (i : Nat) : Nat := 0x980100 + 32 * i
def DAC_MAP (i : Nat) : Nat := 0x980104 + 32 * i
def DAC_CSTATE (i : Nat) : Nat := 0x980108 + 32 * i
def DAC_SAFE_01 (i : Nat) : Nat := 0x98010c + 32 * i
def DAC_SAFE_23 (i : Nat) : Nat := 0x980110 + 32 * i
def DAC_FAULT (i : Nat) : Nat := 0x980114 + 32 * i
def DAC_DC (i : Nat) : Nat := 0x980118 + 32 * i
def DAC_UR_CNT (i : Nat) : Nat := 0x98011c + 32 * i
def DAC_DISC_CNT (i : Nat) : Nat := 0x980500 + 4 * i
end R

/-! Block Dac: fields. -/
namespace F
def DAC_STAT_DISCARD : Fld := ⟨R.DAC_STAT, 3, 3⟩
def DAC_STAT_NVM_BAD : Fld := ⟨R.DAC_STAT, 2, 2⟩
def DAC_STAT_FAULT_CODE : Fld := ⟨R.DAC_STAT, 1, 1⟩
def DAC_STAT_UNDERRUN : Fld := ⟨R.DAC_STAT, 0, 0⟩
def DAC_MASK_DISCARD : Fld := ⟨R.DAC_MASK, 3, 3⟩
def DAC_MASK_NVM_BAD : Fld := ⟨R.DAC_MASK, 2, 2⟩
def DAC_MASK_FAULT_CODE : Fld := ⟨R.DAC_MASK, 1, 1⟩
def DAC_MASK_UNDERRUN : Fld := ⟨R.DAC_MASK, 0, 0⟩
def DAC_CMD_OP : Fld := ⟨R.DAC_CMD, 7, 5⟩
def DAC_CMD_CH : Fld := ⟨R.DAC_CMD, 4, 0⟩
def DAC_CFG_LPZ_EN (i : Nat) : Fld := ⟨R.DAC_CFG i, 3, 3⟩
def DAC_CFG_MODE (i : Nat) : Fld := ⟨R.DAC_CFG i, 2, 2⟩
def DAC_CFG_SPAN (i : Nat) : Fld := ⟨R.DAC_CFG i, 1, 0⟩
def DAC_MAP_CH (i : Nat) : Fld := ⟨R.DAC_MAP i, 15, 0⟩
def DAC_CSTATE_STATE (i : Nat) : Fld := ⟨R.DAC_CSTATE i, 31, 29⟩
def DAC_CSTATE_LPZ (i : Nat) : Fld := ⟨R.DAC_CSTATE i, 28, 28⟩
def DAC_CSTATE_FILL (i : Nat) : Fld := ⟨R.DAC_CSTATE i, 6, 0⟩
def DAC_SAFE_01_SAFE_HI (i : Nat) : Fld := ⟨R.DAC_SAFE_01 i, 31, 16⟩
def DAC_SAFE_01_SAFE_LO (i : Nat) : Fld := ⟨R.DAC_SAFE_01 i, 15, 0⟩
def DAC_SAFE_23_SAFE_HI (i : Nat) : Fld := ⟨R.DAC_SAFE_23 i, 31, 16⟩
def DAC_SAFE_23_SAFE_LO (i : Nat) : Fld := ⟨R.DAC_SAFE_23 i, 15, 0⟩
def DAC_FAULT_UR_LIM (i : Nat) : Fld := ⟨R.DAC_FAULT i, 23, 16⟩
def DAC_FAULT_CODE (i : Nat) : Fld := ⟨R.DAC_FAULT i, 15, 0⟩
def DAC_DC_CODE (i : Nat) : Fld := ⟨R.DAC_DC i, 15, 0⟩
end F

/-- Rows of block Dac: base, instances, reset value, then the RW, RWL, W1C, RCL and WO masks. -/
def rowsDac : List RegRow :=
  [⟨0x980000, [], 0x0, 0x0, 0x0, 0xf, 0x0, 0x0⟩,
   ⟨0x980004, [], 0x0, 0xf, 0x0, 0x0, 0x0, 0x0⟩,
   ⟨0x980008, [], 0x0, 0x0, 0x0, 0x0, 0x0, 0xff⟩,
   ⟨0x980100, [(32, 32)], 0x2, 0xf, 0x0, 0x0, 0x0, 0x0⟩,
   ⟨0x980104, [(32, 32)], 0xffff, 0xffff, 0x0, 0x0, 0x0, 0x0⟩,
   ⟨0x980108, [(32, 32)], 0x0, 0x0, 0x0, 0x0, 0x0, 0x0⟩,
   ⟨0x98010c, [(32, 32)], 0x0, 0xffffffff, 0x0, 0x0, 0x0, 0x0⟩,
   ⟨0x980110, [(32, 32)], 0x80008000, 0xffffffff, 0x0, 0x0, 0x0, 0x0⟩,
   ⟨0x980114, [(32, 32)], 0x108000, 0xffffff, 0x0, 0x0, 0x0, 0x0⟩,
   ⟨0x980118, [(32, 32)], 0x0, 0xffff, 0x0, 0x0, 0x0, 0x0⟩,
   ⟨0x98011c, [(32, 32)], 0x0, 0x0, 0x0, 0x0, 0xffffffff, 0x0⟩,
   ⟨0x980500, [(4, 32)], 0x0, 0x0, 0x0, 0x0, 0xffffffff, 0x0⟩]

/-! Block Nvm: offsets. -/
namespace R
def NVM_STAT : Nat := 0xa00000
def NVM_MASK : Nat := 0xa00004
def NVM_CMD : Nat := 0xa00008
def NVM_SRC : Nat := 0xa0000c
def NVM_LEN : Nat := 0xa00010
def NVM_STATE : Nat := 0xa00014
def NVM_BOOT : Nat := 0xa00018
end R

/-! Block Nvm: fields. -/
namespace F
def NVM_STAT_BOOT_NONE : Fld := ⟨R.NVM_STAT, 3, 3⟩
def NVM_STAT_BOOT_ALT : Fld := ⟨R.NVM_STAT, 2, 2⟩
def NVM_STAT_PROG_FAIL : Fld := ⟨R.NVM_STAT, 1, 1⟩
def NVM_STAT_DONE : Fld := ⟨R.NVM_STAT, 0, 0⟩
def NVM_MASK_BOOT_NONE : Fld := ⟨R.NVM_MASK, 3, 3⟩
def NVM_MASK_BOOT_ALT : Fld := ⟨R.NVM_MASK, 2, 2⟩
def NVM_MASK_PROG_FAIL : Fld := ⟨R.NVM_MASK, 1, 1⟩
def NVM_MASK_DONE : Fld := ⟨R.NVM_MASK, 0, 0⟩
def NVM_CMD_AREA : Fld := ⟨R.NVM_CMD, 9, 8⟩
def NVM_CMD_CMD : Fld := ⟨R.NVM_CMD, 3, 0⟩
def NVM_STATE_BUSY : Fld := ⟨R.NVM_STATE, 31, 31⟩
def NVM_STATE_REASON : Fld := ⟨R.NVM_STATE, 7, 0⟩
def NVM_BOOT_COPY : Fld := ⟨R.NVM_BOOT, 31, 31⟩
def NVM_BOOT_GEN : Fld := ⟨R.NVM_BOOT, 30, 0⟩
end F

/-- Rows of block Nvm: base, instances, reset value, then the RW, RWL, W1C, RCL and WO masks. -/
def rowsNvm : List RegRow :=
  [⟨0xa00000, [], 0x0, 0x0, 0x0, 0xf, 0x0, 0x0⟩,
   ⟨0xa00004, [], 0x0, 0xf, 0x0, 0x0, 0x0, 0x0⟩,
   ⟨0xa00008, [], 0x0, 0x0, 0x0, 0x0, 0x0, 0x30f⟩,
   ⟨0xa0000c, [], 0x0, 0xffffffff, 0x0, 0x0, 0x0, 0x0⟩,
   ⟨0xa00010, [], 0x0, 0xffffffff, 0x0, 0x0, 0x0, 0x0⟩,
   ⟨0xa00014, [], 0x0, 0x0, 0x0, 0x0, 0x0, 0x0⟩,
   ⟨0xa00018, [], 0x0, 0x0, 0x0, 0x0, 0x0, 0x0⟩]

/-! Block Cc: offsets. -/
namespace R
def CC_STAT : Nat := 0xb00000
def CC_MASK : Nat := 0xb00004
def CC_RUN : Nat := 0xb00008
def CC_WDT : Nat := 0xb0000c
def CC_SRC (i : Nat) : Nat := 0xb00010 + 4 * i
def CC_KICK (i : Nat) : Nat := 0xb00020 + 4 * i
def CC_MBREQ (i j : Nat) : Nat := 0xb01000 + 1024 * i + 4 * j
def CC_MBRSP (i j : Nat) : Nat := 0xb01100 + 1024 * i + 4 * j
def CC_DB (i : Nat) : Nat := 0xb01200 + 1024 * i
def CC_DONE (i : Nat) : Nat := 0xb01204 + 1024 * i
def CC_MBSTAT (i : Nat) : Nat := 0xb01208 + 1024 * i
end R

/-! Block Cc: fields. -/
namespace F
def CC_STAT_EXC : Fld := ⟨R.CC_STAT, 11, 8⟩
def CC_STAT_WDOG : Fld := ⟨R.CC_STAT, 7, 4⟩
def CC_STAT_DONE : Fld := ⟨R.CC_STAT, 3, 0⟩
def CC_MASK_EXC : Fld := ⟨R.CC_MASK, 11, 8⟩
def CC_MASK_WDOG : Fld := ⟨R.CC_MASK, 7, 4⟩
def CC_MASK_DONE : Fld := ⟨R.CC_MASK, 3, 0⟩
def CC_RUN_RUN : Fld := ⟨R.CC_RUN, 3, 0⟩
def CC_WDT_MS : Fld := ⟨R.CC_WDT, 15, 0⟩
def CC_SRC_SRC (i : Nat) : Fld := ⟨R.CC_SRC i, 3, 0⟩
def CC_KICK_KICK (i : Nat) : Fld := ⟨R.CC_KICK i, 0, 0⟩
def CC_DB_SEQ (i : Nat) : Fld := ⟨R.CC_DB i, 15, 0⟩
def CC_DONE_SEQ (i : Nat) : Fld := ⟨R.CC_DONE i, 15, 0⟩
def CC_MBSTAT_STATE (i : Nat) : Fld := ⟨R.CC_MBSTAT i, 31, 30⟩
def CC_MBSTAT_ORIGIN (i : Nat) : Fld := ⟨R.CC_MBSTAT i, 27, 24⟩
end F

/-- Rows of block Cc: base, instances, reset value, then the RW, RWL, W1C, RCL and WO masks. -/
def rowsCc : List RegRow :=
  [⟨0xb00000, [], 0x0, 0x0, 0x0, 0xfff, 0x0, 0x0⟩,
   ⟨0xb00004, [], 0x0, 0xfff, 0x0, 0x0, 0x0, 0x0⟩,
   ⟨0xb00008, [], 0x1, 0xf, 0x0, 0x0, 0x0, 0x0⟩,
   ⟨0xb0000c, [], 0x0, 0xffff, 0x0, 0x0, 0x0, 0x0⟩,
   ⟨0xb00010, [(4, 4)], 0x5, 0xf, 0x0, 0x0, 0x0, 0x0⟩,
   ⟨0xb00020, [(4, 4)], 0x0, 0x0, 0x0, 0x0, 0x0, 0x1⟩,
   ⟨0xb01000, [(1024, 4), (4, 64)], 0x0, 0xffffffff, 0x0, 0x0, 0x0, 0x0⟩,
   ⟨0xb01100, [(1024, 4), (4, 64)], 0x0, 0xffffffff, 0x0, 0x0, 0x0, 0x0⟩,
   ⟨0xb01200, [(1024, 4)], 0x0, 0xffff, 0x0, 0x0, 0x0, 0x0⟩,
   ⟨0xb01204, [(1024, 4)], 0x0, 0xffff, 0x0, 0x0, 0x0, 0x0⟩,
   ⟨0xb01208, [(1024, 4)], 0x0, 0x0, 0x0, 0x0, 0x0, 0x0⟩]

/-! Block VSpk: offsets. -/
namespace R
def VSPK_CCFG (i : Nat) : Nat := 0x1000000 + 32 * i
def VSPK_CALIGN (i : Nat) : Nat := 0x1000004 + 32 * i
def VSPK_CLIM (i : Nat) : Nat := 0x1000008 + 32 * i
def VSPK_CSIL (i : Nat) : Nat := 0x100000c + 32 * i
def VSPK_CSTAT (i : Nat) : Nat := 0x1000010 + 32 * i
def VSPK_CGRMIN (i : Nat) : Nat := 0x1000014 + 32 * i
end R

/-! Block VSpk: fields. -/
namespace F
def VSPK_CCFG_LIM_EN (i : Nat) : Fld := ⟨R.VSPK_CCFG i, 31, 31⟩
def VSPK_CCFG_DITHER (i : Nat) : Fld := ⟨R.VSPK_CCFG i, 30, 30⟩
def VSPK_CCFG_SIL_EN (i : Nat) : Fld := ⟨R.VSPK_CCFG i, 29, 29⟩
def VSPK_CCFG_BM (i : Nat) : Fld := ⟨R.VSPK_CCFG i, 28, 28⟩
def VSPK_CCFG_BM_BUS (i : Nat) : Fld := ⟨R.VSPK_CCFG i, 21, 16⟩
def VSPK_CALIGN_ALIGN (i : Nat) : Fld := ⟨R.VSPK_CALIGN i, 12, 0⟩
def VSPK_CLIM_THR (i : Nat) : Fld := ⟨R.VSPK_CLIM i, 23, 16⟩
def VSPK_CLIM_REL (i : Nat) : Fld := ⟨R.VSPK_CLIM i, 9, 0⟩
def VSPK_CSIL_THR (i : Nat) : Fld := ⟨R.VSPK_CSIL i, 23, 16⟩
def VSPK_CSIL_HOLD (i : Nat) : Fld := ⟨R.VSPK_CSIL i, 11, 0⟩
def VSPK_CSTAT_SILENT (i : Nat) : Fld := ⟨R.VSPK_CSTAT i, 31, 31⟩
def VSPK_CSTAT_XF (i : Nat) : Fld := ⟨R.VSPK_CSTAT i, 30, 30⟩
def VSPK_CSTAT_SET (i : Nat) : Fld := ⟨R.VSPK_CSTAT i, 29, 29⟩
def VSPK_CSTAT_LADDER (i : Nat) : Fld := ⟨R.VSPK_CSTAT i, 28, 24⟩
def VSPK_CSTAT_ACTIVE (i : Nat) : Fld := ⟨R.VSPK_CSTAT i, 15, 0⟩
end F

/-- Rows of block VSpk: base, instances, reset value, then the RW, RWL, W1C, RCL and WO masks. -/
def rowsVSpk : List RegRow :=
  [⟨0x1000000, [(32, 1344)], 0x80000000, 0xe03f0000, 0x0, 0x0, 0x0, 0x0⟩,
   ⟨0x1000004, [(32, 1344)], 0x0, 0x1fff, 0x0, 0x0, 0x0, 0x0⟩,
   ⟨0x1000008, [(32, 1344)], 0x10032, 0xff03ff, 0x0, 0x0, 0x0, 0x0⟩,
   ⟨0x100000c, [(32, 1344)], 0x78000a, 0xff0fff, 0x0, 0x0, 0x0, 0x0⟩,
   ⟨0x1000010, [(32, 1344)], 0x0, 0x0, 0x0, 0x0, 0x0, 0x0⟩,
   ⟨0x1000014, [(32, 1344)], 0x40000000, 0x0, 0x0, 0x0, 0xffffffff, 0x0⟩]


/-- The rows to search for an offset, by its block (R21). -/
def regRowsOf (off : Nat) : List RegRow :=
  if off < 0x10000 then rowsSys
  else if off < 0x10800 then rowsErr
  else if off < 0x20000 then rowsJnl
  else if off < 0x30000 then rowsPat
  else if off < 0x40000 then rowsSeq
  else if off < 0x50000 then rowsTsu
  else if off < 0x60000 then rowsMtx
  else if off < 0x70000 then rowsBst
  else if off < 0x70100 then rowsClm
  else if off < 0x80000 then rowsFlk
  else if off < 0x100000 then rowsHier
  else if off < 0x200000 then rowsObj
  else if off < 0x300000 then rowsGeo
  else if off < 0x400000 then rowsRnd
  else if off < 0x500000 then rowsSpk
  else if off < 0x600000 then rowsRte
  else if off < 0x700000 then rowsNet
  else if off < 0x800000 then rowsStr
  else if off < 0x900000 then rowsApd
  else if off < 0x908000 then rowsPdm
  else if off < 0x980000 then rowsCap
  else if off < 0xa00000 then rowsDac
  else if off < 0xb00000 then rowsNvm
  else if off < 0x1000000 then rowsCc
  else rowsVSpk

/-- Does a displacement from a register's base name one of its instances?  Dimensions come outermost first. -/
def dimsHit : List (Nat × Nat) → Nat → Bool
  | [], d => d == 0
  | (stride, count) :: ds, d => d / stride < count && dimsHit ds (d % stride)

/-- Does the row hold the register at this offset (R499)? -/
def RegRow.hit (r : RegRow) (off : Nat) : Bool :=
  r.base ≤ off && dimsHit r.dims (off - r.base)

/-- The row of an offset; none where no register is listed (R498). -/
def regRow (off : Nat) : Option RegRow := (regRowsOf off).find? (fun r => r.hit off)

/-- The reset value of the register at an offset; an unlisted offset reads zero (R498).  HIER_WSTATE 0 is not listed. -/
def regReset (off : Nat) : Word :=
  match regRow off with
  | some r => BitVec.ofNat 32 r.rst
  | none => 0

end Sys2Proof
end

