-- ==== Sys2Proof/Machine/Errors.lean ====
section
/-! DEFINITION. The errors of the device: their codes, severities and the status bits they are tied to (spec/18_faults_and_journal.md
R404 to R406, R505, and the code tables of the block chapters). -/

namespace Sys2Proof.Machine

/-- The four severities, in rising order (R22). -/
inductive Sev where
  | notice
  | degrade
  | fault
  | fatal
deriving DecidableEq, Repr

/-- The severity's rank, as ERR_CFG codes it. -/
def sevNum : Sev → Nat
  | .notice => 0
  | .degrade => 1
  | .fault => 2
  | .fatal => 3

/-- Every error the device raises, named by its block and its name in the block's table. MAP_BAD has two entries, since
R505 ties it to one of two status bits. -/
inductive Err where
  | sysThermWarn
  | sysThermCrit
  | sysThermTrip
  | sysClkFail
  | sysSupply
  | errRwlWrite
  | errWriteIgnored
  | errEccRate
  | errEccData
  | errEccRunner
  | errEccHost
  | errEccControl
  | errOvf
  | patVerr
  | patRefused
  | patFallback
  | patShed
  | patSuperseded
  | seqOverrun
  | seqSlotMiss
  | seqAtMiss
  | seqHoAbort
  | seqMargin
  | seqDrift
  | seqTileFail
  | tsuRefLoss
  | tsuGlitch
  | tsuRateChg
  | tsuReinstated
  | tsuTbStep
  | tsuMphExc
  | tsuMlClamp
  | tsuConflict
  | mtxLiveWr
  | mtxAbort
  | mtxErrResp
  | mtxPartial
  | mtxDecode
  | bstRegionFail
  | bstTransient
  | bstNoSpare
  | bstMapBad
  | bstMapBadSig
  | bstGeoNone
  | bstSliceAbort
  | clmLineFault
  | clmClaimSplit
  | clmTakeover
  | clmEpochSat
  | clmNoLine
  | clmLinkStale
  | clmLaneDown
  | clmDigestMis
  | clmResyncFail
  | clmSkew
  | clmPairErr
  | clmDemoted
  | hierWorkerLost
  | hierManagerLost
  | hierJoinFail
  | hierCollRefused
  | hierLateDecision
  | hierUndecided
  | hierSync
  | objFrmBad
  | objReject
  | objHqOvf
  | objQfull
  | objClamped
  | objUnprot
  | geoOverrun
  | geoSlew
  | geoNocov
  | geoTshort
  | geoOclip
  | geoUnitFail
  | rndAccSat
  | rndSampleSat
  | rndDopClip
  | spkInSat
  | spkRcSat
  | spkBassSat
  | spkClip
  | spkCvtSat
  | spkScaleOn
  | rteSumSat
  | rteRefused
  | rteAsrcFull
  | netLinkDown
  | netRxTrunc
  | netRxNobuf
  | netRxFifo
  | netTxReject
  | netGclRefused
  | netRingOvf
  | strRxLost
  | strConceal
  | strModeSw
  | strClaimLow
  | strEnRefused
  | strTxDrop
  | apdGlitch
  | apdClkLoss
  | apdRateChg
  | apdReinstated
  | apdSlip
  | apdEnRefused
  | apdBpLoss
  | apdParity
  | apdLoopLimit
  | pdmMicIdle
  | pdmSat
  | pdmCapRefused
  | pdmCapCut
  | dacUnderrun
  | dacFaultCode
  | dacNvmBad
  | dacDiscard
  | nvmProgFail
  | nvmBootAlt
  | nvmBootNone
  | nvmRefused
  | ccWdog
  | ccCoreExc
  | ccMbAbandon
deriving DecidableEq, Repr

/-- The 16-bit error code: class in [15:8], the class's code in [7:0] (R22, R404). -/
def errCode : Err → Nat
  | .sysThermWarn => 0x0001
  | .sysThermCrit => 0x0002
  | .sysThermTrip => 0x0003
  | .sysClkFail => 0x0004
  | .sysSupply => 0x0005
  | .errRwlWrite => 0x0101
  | .errWriteIgnored => 0x0102
  | .errEccRate => 0x0103
  | .errEccData => 0x0104
  | .errEccRunner => 0x0105
  | .errEccHost => 0x0106
  | .errEccControl => 0x0107
  | .errOvf => 0x0108
  | .patVerr => 0x0201
  | .patRefused => 0x0202
  | .patFallback => 0x0203
  | .patShed => 0x0204
  | .patSuperseded => 0x0205
  | .seqOverrun => 0x0301
  | .seqSlotMiss => 0x0302
  | .seqAtMiss => 0x0303
  | .seqHoAbort => 0x0304
  | .seqMargin => 0x0305
  | .seqDrift => 0x0306
  | .seqTileFail => 0x0307
  | .tsuRefLoss => 0x0401
  | .tsuGlitch => 0x0402
  | .tsuRateChg => 0x0403
  | .tsuReinstated => 0x0404
  | .tsuTbStep => 0x0405
  | .tsuMphExc => 0x0406
  | .tsuMlClamp => 0x0407
  | .tsuConflict => 0x0408
  | .mtxLiveWr => 0x0501
  | .mtxAbort => 0x0502
  | .mtxErrResp => 0x0503
  | .mtxPartial => 0x0504
  | .mtxDecode => 0x0505
  | .bstRegionFail => 0x0601
  | .bstTransient => 0x0602
  | .bstNoSpare => 0x0603
  | .bstMapBad => 0x0604
  | .bstMapBadSig => 0x0604
  | .bstGeoNone => 0x0605
  | .bstSliceAbort => 0x0606
  | .clmLineFault => 0x0701
  | .clmClaimSplit => 0x0702
  | .clmTakeover => 0x0703
  | .clmEpochSat => 0x0704
  | .clmNoLine => 0x0705
  | .clmLinkStale => 0x0706
  | .clmLaneDown => 0x0707
  | .clmDigestMis => 0x0708
  | .clmResyncFail => 0x0709
  | .clmSkew => 0x070a
  | .clmPairErr => 0x070b
  | .clmDemoted => 0x070c
  | .hierWorkerLost => 0x0801
  | .hierManagerLost => 0x0802
  | .hierJoinFail => 0x0803
  | .hierCollRefused => 0x0804
  | .hierLateDecision => 0x0805
  | .hierUndecided => 0x0806
  | .hierSync => 0x0807
  | .objFrmBad => 0x1001
  | .objReject => 0x1002
  | .objHqOvf => 0x1003
  | .objQfull => 0x1004
  | .objClamped => 0x1005
  | .objUnprot => 0x1006
  | .geoOverrun => 0x2001
  | .geoSlew => 0x2002
  | .geoNocov => 0x2003
  | .geoTshort => 0x2004
  | .geoOclip => 0x2005
  | .geoUnitFail => 0x2006
  | .rndAccSat => 0x3001
  | .rndSampleSat => 0x3002
  | .rndDopClip => 0x3003
  | .spkInSat => 0x4001
  | .spkRcSat => 0x4002
  | .spkBassSat => 0x4003
  | .spkClip => 0x4004
  | .spkCvtSat => 0x4005
  | .spkScaleOn => 0x4006
  | .rteSumSat => 0x5001
  | .rteRefused => 0x5002
  | .rteAsrcFull => 0x5003
  | .netLinkDown => 0x6001
  | .netRxTrunc => 0x6002
  | .netRxNobuf => 0x6003
  | .netRxFifo => 0x6004
  | .netTxReject => 0x6005
  | .netGclRefused => 0x6006
  | .netRingOvf => 0x6007
  | .strRxLost => 0x7001
  | .strConceal => 0x7002
  | .strModeSw => 0x7003
  | .strClaimLow => 0x7004
  | .strEnRefused => 0x7005
  | .strTxDrop => 0x7006
  | .apdGlitch => 0x8001
  | .apdClkLoss => 0x8002
  | .apdRateChg => 0x8003
  | .apdReinstated => 0x8004
  | .apdSlip => 0x8005
  | .apdEnRefused => 0x8006
  | .apdBpLoss => 0x8007
  | .apdParity => 0x8008
  | .apdLoopLimit => 0x8009
  | .pdmMicIdle => 0x9001
  | .pdmSat => 0x9002
  | .pdmCapRefused => 0x9003
  | .pdmCapCut => 0x9004
  | .dacUnderrun => 0x9801
  | .dacFaultCode => 0x9802
  | .dacNvmBad => 0x9803
  | .dacDiscard => 0x9804
  | .nvmProgFail => 0xa001
  | .nvmBootAlt => 0xa002
  | .nvmBootNone => 0xa003
  | .nvmRefused => 0xa004
  | .ccWdog => 0xb001
  | .ccCoreExc => 0xb002
  | .ccMbAbandon => 0xb003

/-- The severity the block's table gives the code. -/
def errSev : Err → Sev
  | .sysThermWarn => .degrade
  | .sysThermCrit => .fault
  | .sysThermTrip => .fatal
  | .sysClkFail => .fatal
  | .sysSupply => .fatal
  | .errRwlWrite => .notice
  | .errWriteIgnored => .notice
  | .errEccRate => .degrade
  | .errEccData => .fault
  | .errEccRunner => .fault
  | .errEccHost => .notice
  | .errEccControl => .fatal
  | .errOvf => .degrade
  | .patVerr => .notice
  | .patRefused => .notice
  | .patFallback => .degrade
  | .patShed => .fault
  | .patSuperseded => .notice
  | .seqOverrun => .fault
  | .seqSlotMiss => .fault
  | .seqAtMiss => .fault
  | .seqHoAbort => .degrade
  | .seqMargin => .notice
  | .seqDrift => .fault
  | .seqTileFail => .fault
  | .tsuRefLoss => .degrade
  | .tsuGlitch => .notice
  | .tsuRateChg => .degrade
  | .tsuReinstated => .notice
  | .tsuTbStep => .notice
  | .tsuMphExc => .degrade
  | .tsuMlClamp => .notice
  | .tsuConflict => .notice
  | .mtxLiveWr => .notice
  | .mtxAbort => .notice
  | .mtxErrResp => .notice
  | .mtxPartial => .notice
  | .mtxDecode => .notice
  | .bstRegionFail => .fault
  | .bstTransient => .notice
  | .bstNoSpare => .degrade
  | .bstMapBad => .degrade
  | .bstMapBadSig => .degrade
  | .bstGeoNone => .fatal
  | .bstSliceAbort => .notice
  | .clmLineFault => .degrade
  | .clmClaimSplit => .degrade
  | .clmTakeover => .notice
  | .clmEpochSat => .degrade
  | .clmNoLine => .fault
  | .clmLinkStale => .degrade
  | .clmLaneDown => .degrade
  | .clmDigestMis => .degrade
  | .clmResyncFail => .degrade
  | .clmSkew => .degrade
  | .clmPairErr => .fault
  | .clmDemoted => .notice
  | .hierWorkerLost => .degrade
  | .hierManagerLost => .degrade
  | .hierJoinFail => .notice
  | .hierCollRefused => .notice
  | .hierLateDecision => .notice
  | .hierUndecided => .degrade
  | .hierSync => .degrade
  | .objFrmBad => .notice
  | .objReject => .notice
  | .objHqOvf => .notice
  | .objQfull => .notice
  | .objClamped => .notice
  | .objUnprot => .degrade
  | .geoOverrun => .fault
  | .geoSlew => .notice
  | .geoNocov => .notice
  | .geoTshort => .notice
  | .geoOclip => .notice
  | .geoUnitFail => .fault
  | .rndAccSat => .notice
  | .rndSampleSat => .notice
  | .rndDopClip => .notice
  | .spkInSat => .notice
  | .spkRcSat => .notice
  | .spkBassSat => .notice
  | .spkClip => .notice
  | .spkCvtSat => .notice
  | .spkScaleOn => .notice
  | .rteSumSat => .notice
  | .rteRefused => .notice
  | .rteAsrcFull => .degrade
  | .netLinkDown => .degrade
  | .netRxTrunc => .notice
  | .netRxNobuf => .notice
  | .netRxFifo => .degrade
  | .netTxReject => .notice
  | .netGclRefused => .notice
  | .netRingOvf => .notice
  | .strRxLost => .degrade
  | .strConceal => .notice
  | .strModeSw => .notice
  | .strClaimLow => .notice
  | .strEnRefused => .notice
  | .strTxDrop => .degrade
  | .apdGlitch => .notice
  | .apdClkLoss => .degrade
  | .apdRateChg => .degrade
  | .apdReinstated => .notice
  | .apdSlip => .notice
  | .apdEnRefused => .notice
  | .apdBpLoss => .degrade
  | .apdParity => .notice
  | .apdLoopLimit => .notice
  | .pdmMicIdle => .notice
  | .pdmSat => .notice
  | .pdmCapRefused => .notice
  | .pdmCapCut => .notice
  | .dacUnderrun => .degrade
  | .dacFaultCode => .degrade
  | .dacNvmBad => .fault
  | .dacDiscard => .notice
  | .nvmProgFail => .fault
  | .nvmBootAlt => .degrade
  | .nvmBootNone => .fault
  | .nvmRefused => .notice
  | .ccWdog => .fault
  | .ccCoreExc => .fault
  | .ccMbAbandon => .notice

/-- The status field a code is tied to (R505), for the port in the source index where the block is a NET port.  A field
wider than one bit has one bit per source.  None for the codes R505 lists as having no status bit. -/
def errTie (e : Err) (src : Nat) : Option Fld :=
  match e with
  | .sysThermWarn => some F.SYS_STAT_THERM_WARN
  | .sysThermCrit => some F.SYS_STAT_THERM_CRIT
  | .sysThermTrip => some F.SYS_STAT_THERM_TRIP
  | .sysClkFail => some F.SYS_STAT_CLK_FAIL
  | .sysSupply => some F.SYS_STAT_SUPPLY
  | .errRwlWrite => none
  | .errWriteIgnored => none
  | .errEccRate => some F.ERR_STAT_ECC_RATE
  | .errEccData => some F.ERR_STAT_ECC_UNC
  | .errEccRunner => some F.ERR_STAT_ECC_UNC
  | .errEccHost => some F.ERR_STAT_ECC_UNC
  | .errEccControl => some F.ERR_STAT_ECC_UNC
  | .errOvf => some F.ERR_STAT_OVF
  | .patVerr => some F.PAT_STAT_VERR
  | .patRefused => some F.PAT_STAT_REFUSED
  | .patFallback => some F.PAT_STAT_FALLBACK
  | .patShed => some F.PAT_STAT_SHED
  | .patSuperseded => none
  | .seqOverrun => some F.SEQ_STAT_OVR
  | .seqSlotMiss => some F.SEQ_STAT_SLOT_MISS
  | .seqAtMiss => some F.SEQ_STAT_AT_MISS
  | .seqHoAbort => some F.SEQ_STAT_HO_ABORT
  | .seqMargin => some F.SEQ_STAT_MARGIN
  | .seqDrift => some F.SEQ_STAT_DRIFT
  | .seqTileFail => some F.SEQ_STAT_TILE_FAIL
  | .tsuRefLoss => some F.TSU_STAT_REF_LOSS
  | .tsuGlitch => some F.TSU_STAT_GLITCH
  | .tsuRateChg => some F.TSU_STAT_RATE_CHG
  | .tsuReinstated => some F.TSU_STAT_REINSTATED
  | .tsuTbStep => some F.TSU_STAT_TB_STEP
  | .tsuMphExc => some F.TSU_STAT_MPH_EXC
  | .tsuMlClamp => some F.TSU_STAT_ML_CLAMP
  | .tsuConflict => some F.TSU_STAT_CONFLICT
  | .mtxLiveWr => some F.MTX_STAT_LIVE_WR
  | .mtxAbort => some F.MTX_STAT_ABORT
  | .mtxErrResp => some F.MTX_STAT_ERR_RESP
  | .mtxPartial => some F.MTX_STAT_PARTIAL
  | .mtxDecode => some F.MTX_STAT_DECODE
  | .bstRegionFail => some F.BST_STAT_MARKED
  | .bstTransient => some F.BST_STAT_TRANSIENT
  | .bstNoSpare => some F.BST_STAT_NO_SPARE
  | .bstMapBad => some F.BST_STAT_MAP_BAD
  | .bstMapBadSig => some F.BST_STAT_SIG_BAD
  | .bstGeoNone => none
  | .bstSliceAbort => some F.BST_STAT_ABORT
  | .clmLineFault => some F.CLM_STAT_LINE_FAULT
  | .clmClaimSplit => some F.CLM_STAT_SPLIT
  | .clmTakeover => some F.CLM_STAT_TAKEOVER
  | .clmEpochSat => some F.CLM_STAT_EPOCH_SAT
  | .clmNoLine => some F.CLM_STAT_NO_LINE
  | .clmLinkStale => some F.FLK_STAT_STALE
  | .clmLaneDown => some F.FLK_STAT_LANE_DOWN
  | .clmDigestMis => some F.FLK_STAT_DIG_MIS
  | .clmResyncFail => some F.FLK_STAT_RESYNC_FAIL
  | .clmSkew => some F.CLM_STAT_SKEW
  | .clmPairErr => some F.FLK_STAT_PAIR_ERR
  | .clmDemoted => some F.CLM_STAT_DEMOTED
  | .hierWorkerLost => some F.HIER_STAT_WORKER_LOST
  | .hierManagerLost => some F.HIER_STAT_MANAGER_LOST
  | .hierJoinFail => some F.HIER_STAT_JOIN_FAIL
  | .hierCollRefused => some F.HIER_STAT_COLL_REFUSED
  | .hierLateDecision => some F.HIER_STAT_LATE_DEC
  | .hierUndecided => some F.HIER_STAT_UNDECIDED
  | .hierSync => some F.HIER_STAT_SYNC
  | .objFrmBad => some F.OBJ_STAT_FRM_BAD
  | .objReject => some F.OBJ_STAT_REJECT
  | .objHqOvf => some F.OBJ_STAT_HQ_OVF
  | .objQfull => some F.OBJ_STAT_QFULL
  | .objClamped => some F.OBJ_STAT_CLAMPED
  | .objUnprot => some F.OBJ_STAT_UNPROT
  | .geoOverrun => some F.GEO_STAT_OVR
  | .geoSlew => some F.GEO_STAT_SLEW
  | .geoNocov => some F.GEO_STAT_NOCOV
  | .geoTshort => some F.GEO_STAT_TSHORT
  | .geoOclip => some F.GEO_STAT_OCLIP
  | .geoUnitFail => some F.GEO_STAT_UNIT_FAIL
  | .rndAccSat => some F.RND_STAT_ACC_SAT
  | .rndSampleSat => some F.RND_STAT_SAMPLE_SAT
  | .rndDopClip => some F.RND_STAT_DOP_CLIP
  | .spkInSat => some F.SPK_STAT_IN_SAT
  | .spkRcSat => some F.SPK_STAT_RC_SAT
  | .spkBassSat => some F.SPK_STAT_BASS_SAT
  | .spkClip => some F.SPK_STAT_CLIP
  | .spkCvtSat => some F.SPK_STAT_CVT_SAT
  | .spkScaleOn => some F.SPK_STAT_SCALE_ON
  | .rteSumSat => some F.RTE_STAT_SUM_SAT
  | .rteRefused => some F.RTE_STAT_REFUSED
  | .rteAsrcFull => some F.RTE_STAT_ASRC_FULL
  | .netLinkDown => some (F.NET_STAT_LINK_DN src)
  | .netRxTrunc => some (F.NET_STAT_RX_TRUNC src)
  | .netRxNobuf => some (F.NET_STAT_RX_NOBUF src)
  | .netRxFifo => some (F.NET_STAT_FIFO src)
  | .netTxReject => some (F.NET_STAT_TX_REJECT src)
  | .netGclRefused => some (F.NET_STAT_GCL_REFUSED src)
  | .netRingOvf => some (F.NET_STAT_RING_OVF src)
  | .strRxLost => some F.STR_STAT_RX_LOST
  | .strConceal => some F.STR_STAT_CONCEAL
  | .strModeSw => some F.STR_STAT_MODE_SW
  | .strClaimLow => some F.STR_STAT_CLAIM_LOW
  | .strEnRefused => some F.STR_STAT_EN_REFUSED
  | .strTxDrop => some F.STR_STAT_TX_DROP
  | .apdGlitch => some F.APD_STAT_GLITCH
  | .apdClkLoss => some F.APD_STAT_CLK_LOSS
  | .apdRateChg => some F.APD_STAT_RATE_CHG
  | .apdReinstated => some F.APD_STAT_REINSTATED
  | .apdSlip => some F.APD_STAT_SLIP
  | .apdEnRefused => some F.APD_STAT_EN_REFUSED
  | .apdBpLoss => some F.APD_STAT_BP_LOSS
  | .apdParity => some F.APD_STAT_PARITY
  | .apdLoopLimit => some F.APD_STAT_LOOP_LIMIT
  | .pdmMicIdle => some F.PDM_STAT_IDLE
  | .pdmSat => some F.PDM_STAT_SAT
  | .pdmCapRefused => some F.CAP_STAT_REFUSED
  | .pdmCapCut => some F.CAP_STAT_CUT
  | .dacUnderrun => some F.DAC_STAT_UNDERRUN
  | .dacFaultCode => some F.DAC_STAT_FAULT_CODE
  | .dacNvmBad => some F.DAC_STAT_NVM_BAD
  | .dacDiscard => some F.DAC_STAT_DISCARD
  | .nvmProgFail => some F.NVM_STAT_PROG_FAIL
  | .nvmBootAlt => some F.NVM_STAT_BOOT_ALT
  | .nvmBootNone => some F.NVM_STAT_BOOT_NONE
  | .nvmRefused => none
  | .ccWdog => some F.CC_STAT_WDOG
  | .ccCoreExc => some F.CC_STAT_EXC
  | .ccMbAbandon => none

end Sys2Proof.Machine
end

