-- ==== Sys2Proof/Machine/State.lean ====
section
/-! DEFINITION. The state of the block, as plain data: the register file by BAR0 offset, the memories, and for each
subsystem what the spec gives it beside its registers; and the state right after a power-on reset. -/

namespace Sys2Proof.Machine

/-- Why the machine stops with a fault.  No command of this block stops the machine: the spec gives each an effect. -/
inductive Fault where
  /-- A memory cell outside the memories of R436 was named by the model itself; no command raises it.  Safe. -/
  | badCell
deriving DecidableEq, Repr

/-- Why the machine refuses a command. -/
inductive Refusal where
  /-- Raised by the dispatch of a row that has no meaning yet.  Safe. -/
  | notModelled (mnemonic : String)
deriving DecidableEq, Repr

/-! ### The error engine and the change journal (spec/18_faults_and_journal.md) -/

/-- An entry of the error engine (R407). -/
structure ErrEntry where
  err : Err
  src : Nat
  msi : Nat
  count : Nat
  superseded : Bool
deriving DecidableEq, Repr

/-- The engine: current entry, pre-emption stack (top first), FIFO (oldest first), and what holds FAULT_N low (R410). -/
structure ErrState where
  current : Option ErrEntry
  resumed : Bool
  stack : List ErrEntry
  fifo : List ErrEntry
  /-- A FATAL was presented: the safe state of R411 until a reset. -/
  fatal : Bool
  /-- FAULT_N held low from reset to the end of the start-up self-test. -/
  startupHold : Bool
  /-- Correctable errors counted in the running second, and the frames of it that have passed (R412). -/
  eccCount : Nat
  eccFrames : Nat
deriving DecidableEq, Repr

/-- A journal entry (R416). -/
structure JEntry where
  serial : Nat
  msi : Nat
  src : Nat
  kind : Nat
  addr : Nat
  value : Nat
deriving DecidableEq, Repr

/-- Why the journal is frozen (R417). -/
inductive Freeze where
  | byWrite
  | byError
  | byFatal
deriving DecidableEq, Repr

/-- The journal: the last 4,096 entries, newest first. -/
structure Journal where
  entries : List JEntry
  next : Nat
  frozen : Option Freeze
  /-- Entries still to record before an error's freeze (JNL_CFG.POST). -/
  post : Option Nat
  /-- The counted MSI at which the freeze began. -/
  since : Nat
deriving DecidableEq, Repr

/-! ### Time bases and the media loop (spec/10_network_time.md, spec/02_media_time_and_latency.md) -/

/-- One time base (R241 to R251). -/
structure TimeBase where
  /-- Time since zero, in 2^-48 ns. -/
  time : Int
  /-- The servo's integral term. -/
  integ : Frac
  /-- Steps commanded by the host and by the servo that await the next strobe, in 2^-48 ns. -/
  hostStep : Option Int
  servoStep : Option Int
  /-- Consecutive measurements inside the lock window. -/
  inWindow : Nat
  /-- Consecutive offsets beyond STEP_THR while LOCKED. -/
  beyond : Nat
  /-- What the FADJ values before the present one have added since the strobe, and for how many 2^-5 REFCLK cycles. -/
  gain : Int
  part : Nat
  /-- Stamp of the last accepted edge, in 2^-5 REFCLK cycles. -/
  lastAccepted : Option Nat
  /-- Consecutive rejected edges. -/
  rejects : Nat
  /-- The gap in the reference that lasts has been counted as a loss; its next edge or offset ends it. -/
  lost : Bool
  /-- The qualifying run: stamp or time of its start, edges or offsets in it, first offset of it. -/
  goodStart : Option Nat
  goodCount : Nat
  goodFirst : Int
  /-- FADJ from each accepted measurement of the last second, newest first: stamp and value. -/
  fadjHist : List (Nat × Int)
  /-- REFCLK cycles spent in HOLDOVER. -/
  holdCycles : Nat
  /-- Time elapsed in PTP measurements, in ns, and the stamp of the last one, in 2^-5 REFCLK cycles. -/
  ptpClock : Nat
  measAt : Nat
deriving DecidableEq, Repr

/-- The initial time base. -/
def TimeBase.init : TimeBase :=
  { time := 0, integ := ⟨0, 1⟩, hostStep := none, servoStep := none, inWindow := 0, beyond := 0, gain := 0,
    part := 0, lastAccepted := none, rejects := 0, lost := false, goodStart := none, goodCount := 0, goodFirst := 0,
    fadjHist := [], holdCycles := 0, ptpClock := 0, measAt := 0 }

/-- A reference pin: the stamp of its last edge, and its last intervals, newest first, at most 256 (R246, R247). -/
structure RefPinSt where
  lastEdge : Option Nat
  intervals : List Nat
deriving DecidableEq, Repr

/-- A pin that has had no edge. -/
def RefPinSt.init : RefPinSt := { lastEdge := none, intervals := [] }

/-- The time subsystem. -/
structure TimeState where
  tb : Tbl TimeBase
  /-- WCLK_IN (2) and PPS_IN (3), by the SRC code that names the pin. -/
  pins : Tbl RefPinSt
  /-- REFCLK time of the last strobe since power-on, in 2^-5 cycles. -/
  ref : Nat
  /-- Media frames since the last strobe. -/
  since : Nat
  /-- REFCLK cycles for which the loop has met the criterion of R254 to leave REQUAL. -/
  mlGood : Nat
  /-- The media phase is beyond TSU_MPH_LIM (R48). -/
  excess : Bool
  /-- PPS_OUT is high until this stamp (REFCLK time in 2^-5 cycles). -/
  ppsHigh : Option Nat
  /-- Media-clock frames since reset; WCLK_OUT is derived from the counted MSI. -/
  frames : Nat
  /-- The epoch offset E of the last seating; TSU_MEPOCH is taken at the next (R47). -/
  e : Int
deriving DecidableEq, Repr

/-! ### The Pattern (spec/03_pattern.md, spec/04_runner_table.md) -/

/-- An OBJECTS record. -/
structure ObjRec where
  id : Nat
  seat : Nat
  taps : Nat
  poolBase : Nat
  mask : Nat
  mode : Nat
  fseat : Nat
deriving DecidableEq, Repr

/-- An OUTPUTS record. -/
structure OutRec where
  id : Nat
  seat : Nat
  fseat : Nat
  ladder : Nat
  flags : Nat
deriving DecidableEq, Repr

/-- A claim of a schedule proof (R110). -/
structure Claim where
  row : Nat
  off : Nat
  cnt : Nat
  write : Bool
  step : Nat
deriving DecidableEq, Repr

/-- A runner table with the head and claims of its proof. -/
structure RunnerTab where
  steps : List Nat
  stepCount : Nat
  endCycle : Nat
  deadline : Nat
  persistBase : Nat
  persistLen : Nat
  macElem : Nat
  intpOut : Nat
  fftCyc : Nat
  poolWords : Nat
  dramWords : Nat
  claims : List Claim
deriving DecidableEq, Repr

/-- A table without steps, for an index a Pattern under parsing has not filled. -/
def RunnerTab.empty : RunnerTab :=
  { steps := [], stepCount := 0, endCycle := 0, deadline := 0, persistBase := 0, persistLen := 0, macElem := 0,
    intpOut := 0, fftCyc := 0, poolWords := 0, dramWords := 0, claims := [] }

/-- The content of a Pattern, or of an amendment container (which fills only the amendable parts). -/
structure Pattern where
  rate : Nat
  patId : Nat
  totalLen : Nat
  totalCrc : Nat
  g : Nat
  mtb : Nat
  objCount : Nat
  outCount : Nat
  tapTotal : Nat
  layoutsMask : Nat
  busCount : Nat
  rteXf : Nat
  sos : Nat
  regset : List (Nat × Nat)
  layouts : List (Nat × Layout)
  objects : List ObjRec
  outputs : List OutRec
  routes : Option (List RouteEnt)
  gains : List GainRec
  peq : List PeqRec
  coefs : Option (List CoefRec)
  shedYield : Bool
  shedList : List Nat
  runners : List (Nat × RunnerTab)
deriving DecidableEq, Repr

/-- The content before any section. -/
def Pattern.empty : Pattern :=
  { rate := 0, patId := 0, totalLen := 0, totalCrc := 0, g := 1, mtb := 0, objCount := 0, outCount := 0,
    tapTotal := 0, layoutsMask := 0, busCount := 0, rteXf := 8, sos := 0, regset := [], layouts := [], objects := [],
    outputs := [], routes := none, gains := [], peq := [], coefs := none, shedYield := false, shedList := [],
    runners := [] }

/-- The loader command in progress while PAT_STATE.BUSY is 1 (R77). -/
inductive LoaderOp where
  | load (src len : Nat)
  | loadSlot (slot : Nat)
  | arm
  | store (slot : Nat)
deriving DecidableEq, Repr

/-- A pour that has been judged and awaits its strobe (R78, R508). -/
structure PourPend where
  /-- The block named, at the rate of the poured Pattern. -/
  block : Nat
  /-- The block of the running count at whose strobe the cut falls. -/
  cut : Nat
  /-- The interface that wrote the command. -/
  via : Src
  /-- The item has been decided (always, on a lone unit). -/
  decided : Bool
deriving DecidableEq, Repr

/-- A STOP awaiting its block. -/
structure StopPend where
  block : Nat
  via : Src
  decided : Bool
  /-- STOP_STROBE of the block has passed. -/
  begun : Bool
deriving DecidableEq, Repr

/-- An amendment whose sets are staged (R86). -/
structure AmendPend where
  block : Nat
  amdId : Nat
  xf : Nat
  via : Src
  decided : Bool
  body : Pattern
  /-- The strobe of k - 1 found staging complete. -/
  staged : Bool
deriving DecidableEq, Repr

/-- Coefficient conversion in progress (R75). -/
structure ConvJob where
  /-- Outputs whose sets are requested, ascending. -/
  outs : List Nat
  /-- Block in which loading ended. -/
  loaded : Nat
  /-- The spare tile's FFT converts (otherwise the seats' loops do). -/
  bySpare : Bool
  /-- The block by whose end the conversion is complete. -/
  endBlock : Nat
deriving DecidableEq, Repr

/-- The loader and the live Pattern. -/
structure PatState where
  busy : Option LoaderOp
  /-- The interface that wrote the loader command in progress. -/
  via : Src
  staged : Option Pattern
  /-- The staged Pattern's byte stream, which STORE copies. -/
  stagedBytes : List Byte
  /-- The live Pattern, or while stopped the one that stopped. -/
  live : Option Pattern
  pour : Option PourPend
  stop : Option StopPend
  amend : Option AmendPend
  conv : Option ConvJob
  /-- Block of the last pour strobe. -/
  pouredAt : Option Nat
  /-- The effective block of each layout amended, and the block by which its crossfade ends (R86). -/
  layoutBusy : Tbl (Nat × Nat)
  /-- Output blocks that carry zero after a cut: from, and first that does not (R80). -/
  zeroFrom : Nat
  zeroTo : Nat
  /-- Output block that fades in over its 16 frames after a late DISCARD (R79). -/
  fadeIn : Option Nat
  /-- The live Pattern's registers and regions have been armed while stopped: the loop follows the armed MTB (R253). -/
  armedMtb : Option Nat
  /-- The staged Pattern's REGSET records are written (R77). -/
  regsetDone : Bool
  /-- Automatic pour: the block in which it first found the media clock locked, and whether it is over (R90). -/
  autoAt : Option Nat
  autoDone : Bool
deriving DecidableEq, Repr

/-! ### Tile sequencing (spec/04_runner_table.md) -/

/-- What the block's run of a tile came to. -/
structure TileRun where
  /-- Consecutive blocks with an overrun or a drift, and with a slot miss. -/
  bad : Nat
  missed : Nat
  /-- END of the last block: executed, and not at the right cycle counts as drift. -/
  overrun : Bool
  /-- Lost: its loss was found and it awaits its successor. -/
  lost : Bool
  /-- An uncorrectable error struck a runner bank, so it stopped at once (R428). -/
  stopped : Bool
deriving DecidableEq, Repr

/-- The initial run record of a tile. -/
def TileRun.init : TileRun :=
  { bad := 0, missed := 0, overrun := false, lost := false, stopped := false }

/-- A handover of a seat to the spare (R108). -/
structure Handover where
  seat : Nat
  src : Nat
  dst : Nat
  /-- Block of the switch. -/
  at_ : Nat
  /-- Block of the command. -/
  cmd : Nat
  /-- Started by self-test, which then tests the outgoing tile. -/
  test : Bool
  /-- Started because the outgoing tile was lost (R428). -/
  loss : Bool
  swept : Bool
  /-- A FAULT or uncorrectable error struck a tile of it during the sweep. -/
  struck : Bool
deriving DecidableEq, Repr

/-- What a tile runs in a block: the RUNNER index, SEQ_TEXP, the block, its rate (96 kHz or not), and the table with the steps
of the tile's live bank. -/
structure RanTab where
  ix : Nat
  texp : Nat
  block : Nat
  r96 : Bool
  tab : RunnerTab
deriving DecidableEq, Repr

/-- A switch made for the strobe that comes, as long as that strobe can still find the sweep struck (R109): the handover, the
registers and run records before the switch, and the slice that self-test had. -/
structure HoUndo where
  h : Handover
  regs : List (Nat × Word)
  tiles : Tbl TileRun
  slice : Option (Nat × Nat)
deriving DecidableEq, Repr

/-- The sequencer. -/
structure SeqState where
  tiles : Tbl TileRun
  ho : Option Handover
  hoUndo : Option HoUndo
  /-- A move to the fallback tables is scheduled for this block (R430). -/
  fallbackAt : Option Nat
  /-- Seats whose loss is to be shed at the next boundary (R92). -/
  shedSeats : List Nat
  /-- By tile: what it runs in this block, against which the next strobe judges it (R103, R104). -/
  ran : Tbl RanTab
deriving DecidableEq, Repr

/-- Self-test (spec/19_self_test_and_sparing.md). -/
structure BstState where
  /-- Regions by the time their last test ended: region and block. -/
  lastTest : Tbl Nat
  /-- Block at which the previous slice ended. -/
  lastEnd : Nat
  /-- The slice runs for this region, since this block. -/
  slice : Option (Nat × Nat)
  /-- The region's first run has failed. -/
  retest : Bool
  /-- Masters whose requests M10 holds. -/
  held : List Nat
  /-- The map that waits to be written to NVM. -/
  mapWrite : Option Nat
  /-- GEN of the fault-map copy in force, and whether that copy is B. -/
  mapGen : Nat
  mapB : Bool
deriving DecidableEq, Repr

/-! ### Automatic scaling (spec/08_speaker_processing.md R211 to R213) -/

/-- Phase of automatic scaling, as SPK_ASC.STATE codes it: 0 NORMAL, 1 PERIOD, 2 CROSSFADE, 3 RISING. -/
structure Asc where
  phase : Nat
  cause : Nat
  /-- First input block of the phase. -/
  start : Nat
  /-- First input block after the period. -/
  stop : Nat
  /-- Measurement mode holds the period open. -/
  hold : Bool
  /-- The weight from which a rise begins, in 64ths, and the first input block of the crossfade that the rise ends (R213). -/
  beta0 : Nat
  xfFrom : Nat
deriving DecidableEq, Repr

/-! ### Geometry (spec/06_geometry.md) -/

/-- What the device keeps with a layout (R138): vertex directions in s1.30, distances in 2^-23 m, and for each triangle
M = L^-1 in s12.23 by rows and its edge neighbours (opposite its first, second and third vertex); the search index by
cell; and for each phantom vertex its speaker neighbours. -/
structure MeshData where
  layout : Layout
  dirs : List V3
  dists : List Nat
  mats : List (V3 × V3 × V3)
  nbrs : List (Option Nat × Option Nat × Option Nat)
  index : List Nat
  phantoms : List (Nat × List Nat)
deriving DecidableEq, Repr

/-- The data of an empty mesh. -/
def MeshData.empty : MeshData := { layout := ⟨[], []⟩, dirs := [], dists := [], mats := [], nbrs := [], index := [], phantoms := [] }

/-- A physical tap slot of an object (R149): its speaker, and the gain (s1.34) and pair offset (u16.16) reached by the end
of the previous ramp and aimed at by the present one. -/
structure TapSlot where
  out : Option Nat
  gPrev : Int
  g : Int
  oPrev : Nat
  o : Nat
  /-- The slot was assigned at this instant (R168, R180). -/
  new : Bool
deriving DecidableEq, Repr

/-- A free slot. -/
def TapSlot.free : TapSlot := { out := none, gPrev := 0, g := 0, oPrev := 0, o := 0, new := false }

/-- The render targets of one instant of an object, with the values from which their ramps start (R149 to R156, R166). -/
structure GeoTgt where
  /-- First input block of the ramp, and its length G in blocks. -/
  first : Nat
  len : Nat
  slots : List TapSlot
  /-- Virtual gains at 32 x n + channel for layout L(n): where the ramp starts, and the target. -/
  vPrev : Tbl Int
  v : Tbl Int
  /-- Bus gains by bus. -/
  bPrev : Tbl Int
  b : Tbl Int
  /-- Object delay D in u16.16. -/
  dPrev : Nat
  d : Nat
  /-- Spread weights c_d and c_w (u1.34). -/
  cdPrev : Int
  cd : Int
  cwPrev : Int
  cw : Int
  /-- Air coefficient in u0.34 and effective spread in u0.16. -/
  air : Nat
  seff : Nat
  /-- The effective spread of the instant before. -/
  seffPrev : Nat
deriving DecidableEq, Repr

/-- No targets: zero gains. -/
def GeoTgt.zero : GeoTgt :=
  { first := 0, len := 1, slots := [], vPrev := [], v := [], bPrev := [], b := [], dPrev := 0, d := 0, cdPrev := 0,
    cd := 0, cwPrev := 0, cw := 0, air := 0, seff := 0, seffPrev := 0 }

/-- An object slot's targets (R140), by the slot's home ID. -/
structure GeoObj where
  live : GeoTgt
  /-- The targets evaluated in this block, which become live at the next strobe. -/
  next : Option GeoTgt
  /-- An instant has been evaluated since the pour or the rebinding. -/
  seen : Bool
  /-- Distance r in 2^-23 m at the last instant. -/
  r : Nat
  /-- Triangle hints by 9 x layout + source (R146). -/
  hints : Tbl Nat
  /-- The triangle last found for source 0 on the physical layout, and whether it was uncovered (GEO_OTRI). -/
  tri : Nat
  nocov : Bool
deriving DecidableEq, Repr

/-- A slot without targets. -/
def GeoObj.init : GeoObj :=
  { live := GeoTgt.zero, next := none, seen := false, r := 0, hints := [], tri := 0, nocov := false }

/-- The geometry units. -/
structure GeoState where
  objs : Tbl GeoObj
  /-- Slots that another object takes with the next input block: its geometry, evaluated at that block's instant (R92). -/
  fresh : Tbl GeoObj
  /-- The live layouts with their mesh data, by index; and those that an amendment brings, with their effective block. -/
  mesh : Tbl MeshData
  relaid : List (Nat × Nat × MeshData)
  /-- The period in effect, the one before it, the block at which it took effect, and the change that awaits its block:
  new period and block (R143). -/
  gEff : Nat
  gPrev : Nat
  gSince : Nat
  gNext : Option (Nat × Nat)
  /-- Consecutive blocks with a miss, by unit, and the units that have missed in this block. -/
  misses : Tbl Nat
  missNow : List Nat
deriving DecidableEq, Repr

/-! ### Objects and metadata (spec/05_objects.md) -/

/-- Who waits for a record's verdict: a place of an ACK frame under way, or a host-queue entry. -/
inductive AckRef where
  | moaby (job pos : Nat)
  | hq (index : Nat)
deriving DecidableEq, Repr

/-- A QUEUE entry (R112): an accepted segment that is not current, or a record that awaits its decision. -/
structure QEnt where
  seg : Seg
  pending : Bool
  /-- Removed by a later record while pending: it still receives its verdict (R127). -/
  removed : Bool
  /-- Awaits the standby's COMMIT of this item. -/
  item : Option Nat
  /-- The COMMIT has come; the CONFIRM goes out with the acceptance. -/
  committed : Bool
  /-- Its LITEM, 0 for none, and the workers whose answer is awaited (R391). -/
  litem : Nat
  needed : List Nat
  /-- Source: 0 to 3 NET0 to NET3, 4 host queue, 5 Flask, 6 ladle. -/
  src : Nat
  acks : List AckRef
deriving DecidableEq, Repr

/-- The state of an object (R112); st as OBJ_OSTAT.STATE codes it. -/
structure ObjSt where
  st : Nat
  seqValid : Bool
  high : Nat
  history : List (Nat × Nat)
  refused : List Nat
  queue : List QEnt
  cur : Option Seg
  /-- CLAMPED has been raised for the current segment. -/
  clamped : Bool
  /-- An OBJ_CMD that waits: operation and the block at whose boundary it acts. -/
  cmd : Option (Nat × Nat)
deriving DecidableEq, Repr

/-- The initial state of an unallocated object. -/
def ObjSt.init : ObjSt :=
  { st := 0, seqValid := false, high := 0, history := [], refused := [], queue := [], cur := none, clamped := false,
    cmd := none }

/-- A verdict: 1 ACCEPTED, 2 DUPLICATE, 3 REJECTED, with its reason code and effective block (R125, R130). -/
structure Verdict3 where
  code : Nat
  reason : Nat
  e : Nat
deriving DecidableEq, Repr

/-- An ACK frame under way (R130, R131): port, addresses and UDP port of the sender, FMT, FRAME_SEQ, whether one is asked
for, and per record OBJ_ID and SEQ as received with the verdict once final. -/
structure AckJob where
  id : Nat
  port : Nat
  v6 : Bool
  mac : Nat
  src : Nat
  dst : Nat
  udp : Nat
  fmt : Nat
  frameSeq : Nat
  asked : Bool
  entries : List (Nat × Nat × Option Verdict3)
deriving DecidableEq, Repr

/-- A METADATA frame whose records are being judged: its descriptors, FMT, ACK job and records left. -/
structure CurFrame where
  descs : Nat
  fmt : Nat
  job : Nat
  pos : Nat
  left : List (List Byte)
deriving DecidableEq, Repr

/-- The intake engine (R32). -/
structure IntakeState where
  objs : Tbl ObjSt
  /-- By port, the frame being judged. -/
  cur : Tbl (Option CurFrame)
  jobs : List AckJob
  nextJob : Nat
  /-- The source served last: 0 to 3 NET, 4 host queue. -/
  turn : Nat
  /-- Records taken in the present block. -/
  used : Nat
  /-- Host-queue entries whose result word is written but which OBJ_HQ_DONE has not passed. -/
  hqFinal : List Nat
  /-- Ladle frames that passed R116 and await their handling (R390): port, descriptors that they hold until then (R271), IPv4
  source and bytes. -/
  ladleIn : List (Nat × Nat × Nat × List Byte)
  /-- What OBJ_SEL shows: the object states as they stood at the last block boundary. -/
  shown : Tbl ObjSt
deriving DecidableEq, Repr

/-! ### The redundant pair (spec/16_redundant_pair.md) -/

/-- An item the active unit has not decided (R371). -/
structure MirItem where
  id : Nat
  item : Item
  deadline : Option Nat
deriving DecidableEq, Repr

/-- An item a standby holds: confirmed or provisional; for an untimed one its block of application once confirmed. -/
structure ProvItem where
  id : Nat
  item : Item
  final : Bool
  applyAt : Option Nat
deriving DecidableEq, Repr

/-- A Flask frame sent (R366 to R368): the lanes that were up, of which a heartbeat or HELLO takes every one and another frame
the one that is free; TYPE, LSEQ, BLOCK and payload. -/
structure FlkSent where
  lanes : List Nat
  copies : Bool
  type : Nat
  lseq : Nat
  block : Nat
  payload : FlkPayload
deriving DecidableEq, Repr

/-- An item confirmed at a standby while a snapshot is under way (R377): its number, the block in which the active unit decided
it, its block of application if it is untimed, and the item. -/
structure Replayed where
  id : Nat
  decided : Nat
  block : Nat
  item : Item
deriving DecidableEq, Repr

/-- Silence counters at a strobe: its block, objects by slot, outputs (R378). -/
structure SilNote where
  block : Nat
  objs : List (Nat × Nat)
  outs : List (Nat × Nat)
deriving DecidableEq, Repr

/-- The Flask link. -/
structure FlkState where
  /-- Frames sent since the last strobe, oldest first. -/
  sent : List FlkSent
  nextItem : Nat
  txLseq : Nat
  rxLseq : Nat
  /-- Frames received ahead of their turn, and frames in order that await their handling. -/
  ahead : List FlkFrame
  inbox : List FlkFrame
  undecided : List MirItem
  held : List ProvItem
  /-- Items decided since the last heartbeat, which the next one repeats. -/
  lastConfirm : List (Nat × Nat)
  lastDiscard : List Nat
  highItem : Nat
  /-- Blocks in a row with a heartbeat, and blocks in a row without. -/
  hbRun : Nat
  hbMiss : Nat
  hbNow : Bool
  /-- What HELLO and heartbeats said of the peer. -/
  peerRank : Option Nat
  peerPat : Nat
  peerCrc : Nat
  peerRole : Nat
  peerReady : Nat
  /-- Block in which the present SYNC state was entered. -/
  syncSince : Nat
  /-- Blocks in a row with all digests equal, and with a mismatch. -/
  equalRun : Nat
  missRun : Nat
  /-- Own digests, by input block, newest first. -/
  digests : List (Nat × List Nat)
  /-- Snapshot under way: parts received, or installed at a boundary; items decided since. -/
  snap : List SnapPart
  snapAt : Option Nat
  replay : List Replayed
  /-- Join block (R377). -/
  join : Option Nat
  /-- The active unit: a standby has been sent a snapshot at this boundary. -/
  snapFor : Option Nat
  /-- A snapshot was asked for and is to be recorded at the next boundary. -/
  snapAsked : Bool
  /-- The silence correction of R378 awaits the SILENCE frame of this block. -/
  silenceFor : Option Nat
  /-- Own silence counters at the last strobes, newest first. -/
  silOwn : List SilNote
deriving DecidableEq, Repr

/-- One claim line (R359). -/
structure ClaimLine where
  errRun : Nat
  cleanRun : Nat
deriving DecidableEq, Repr

/-- The claim bus. -/
structure ClaimState where
  epoch : Nat
  lineA : ClaimLine
  lineB : ClaimLine
  /-- A frame is on the lines: what the unit sends, none while it only reads. -/
  sending : Option Nat
  frameOn : Bool
  /-- The word sent in the last frame that ended. -/
  sentWord : Option Nat
  /-- Consecutive blocks won. -/
  wins : Nat
  /-- Block in which LISTEN was entered, and the highest epoch read in it. -/
  listenAt : Nat
  listenMax : Nat
  /-- An active word has been read since LISTEN ended, and the block of the last one read. -/
  activeSeen : Bool
  lastActive : Option Nat
  /-- FORCE_ACTIVE and YIELD wait for a decision point after this block. -/
  force : Option Nat
  yieldAt : Option Nat
  /-- Block of entry to YIELDED, and whether a FATAL brought it. -/
  yielded : Option (Nat × Bool)
  drill : Option Nat
  drillFinal : Bool
  /-- Block d of the drill that executes, from block d - 1 to block d (R381). -/
  drillRun : Option Nat
  renorm : Option Nat
  renormFinal : Bool
  /-- Block of the last automatic drill or of entry to ACTIVE. -/
  drillBase : Nat
  /-- Egress armed the gate for the present block. -/
  armed : Bool
  /-- A takeover happened at the decision point of this block. -/
  takeover : Option Nat
deriving DecidableEq, Repr

/-! ### Manager and workers (spec/17_manager_and_workers.md) -/

/-- What the manager keeps of a worker beside HIER_WSTATE: heartbeat seen in this block, PATTERN_ID and RATE last reported,
its snapshot's boundary, and a JOIN_REQ to answer at the next boundary. -/
structure WorkerSt where
  hb : Bool
  patId : Option Nat
  rate : Nat
  joinFrom : Option Nat
  asked : Bool
  installed : Bool
deriving DecidableEq, Repr

/-- A worker of which nothing is known. -/
def WorkerSt.init : WorkerSt :=
  { hb := false, patId := none, rate := 0, joinFrom := none, asked := false, installed := false }

/-- The ladle and the worker's side of it. -/
structure HierState where
  workers : Tbl WorkerSt
  /-- Frames sent since the last strobe, as UDP payloads. -/
  frameSeq : Nat
  /-- DECIDE entries to repeat at the next strobe: LITEM, verdict, reason. -/
  redecide : List (Nat × Nat × Nat)
  /-- Entries that wait to share a frame, by TYPE, in order; none while each entry goes out at once (R388). -/
  outbox : Option (List (Nat × List Byte))
  /-- Standby manager: HELD and IGNORED answers it has heard, by LITEM and worker, newest first (R398). -/
  heard : List (Nat × Nat)
  /-- Worker: answers by LITEM (status, reason), newest first, and those to repeat at the next strobe. -/
  answers : List (Nat × Nat × Nat)
  again : List Nat
  /-- Worker: address of the manager it follows, heartbeat seen in this block, misses in a row. -/
  manager : Option Nat
  hb : Bool
  missed : Nat
  /-- Worker: MEMBER since its last pour. -/
  beenMember : Bool
  /-- Worker: counted MSI of the last JOIN_REQ, its snapshot parts, the FRAME_SEQ expected, and forwarded records. -/
  reqAt : Option Nat
  /-- Worker: counted MSI of the first JOIN_REQ of this attempt. -/
  joinSince : Option Nat
  join : List ObjSnap
  joinSeq : Option Nat
  joinEnd : Option Nat
  forwarded : List (Nat × Seg)
  /-- Worker: decisions of forwarded records that came before the snapshot (LITEM, verdict), and the snapshot is installed. -/
  fwdDecided : List (Nat × Nat)
  installed : Bool
  /-- Worker: earliest MSI for the next request. -/
  holdoff : Nat
deriving DecidableEq, Repr

/-! ### Routing (spec/09_routing.md) -/

/-- A live route table with the crossfade that brought it (R233): its first input block, its length in blocks (0 for a table
that a pour brought), its law, the entries and gains before it, and the table itself. -/
structure RouteEpoch where
  first : Nat
  len : Nat
  law : Nat
  old : List RouteEnt
  table : List RouteEnt
deriving DecidableEq, Repr

/-- A pending COMMIT (R231): the interface that wrote it, its effective block, the block in which validation ends, and
whether validation has passed and whether it is accepted. -/
structure RouteCmt where
  via : Src
  k : Nat
  endBlock : Nat
  validated : Bool
  accepted : Bool
deriving DecidableEq, Repr

/-- The sprue's tables: newest first; the frames of an input block use the newest epoch that began at or before it. -/
structure RouteState where
  epochs : List RouteEpoch
  cmt : Option RouteCmt
  /-- At a standby: the validated table of a mirrored commit that is pending. -/
  mirrored : Option (Nat × List RouteEnt)
  /-- Blocks at whose strobes crossfades that were not frozen have their XF_DONE (R234). -/
  doneAt : List Nat
  /-- Non-locked sources that hold an ASRC channel, and those that found none (R221). -/
  asrc : List Nat
  asrcWait : List Nat
deriving DecidableEq, Repr

/-! ### Filters and gains (spec/07_render_datapath.md R175, R176; spec/08_speaker_processing.md) -/

/-- A PEQ or crossover: the bands before and after the last change, and that change's first input block and length. -/
structure PeqSet where
  old : List Biquad
  new : List Biquad
  move : Option (Nat × Nat)
deriving DecidableEq, Repr

/-- An output's coefficient sets (R203): taps (s2.33) and partition spectra (R200, as words of the memory layout) of the
live and of the staging set, which of the two is live, and the crossfade towards the staging set: its first input block
and length. -/
structure CoefSet where
  taps : List Int
  specs : List (List Nat)
  staging : List Int
  stagingSpecs : List (List Nat)
  live : Nat
  xf : Option (Nat × Nat)
deriving DecidableEq, Repr

/-- A gain: the value from which its ramp starts, the target (s1.34), first input block and length. -/
structure GainRamp where
  start : Frac
  target : Int
  first : Nat
  len : Nat
deriving DecidableEq, Repr

/-- A gain of 1.0. -/
def GainRamp.unity : GainRamp := { start := ⟨2 ^ 34, 1⟩, target := 2 ^ 34, first := 0, len := 0 }

/-- The sets, by key: PEQ kind x 65,536 + ID, output, GAIN kind x 65,536 + ID.  A gain
keeps its latest ramp first and before it the earlier ones that input blocks still in the pipeline need. -/
structure FilterState where
  peq : Tbl PeqSet
  coef : Tbl CoefSet
  gain : Tbl (List GainRamp)
deriving DecidableEq, Repr

/-! ### The render datapath and the speaker stages -/

/-- Direct-form-I memory of one band: x[n-1], x[n-2], y[n-1], y[n-2]. -/
structure BandSt where
  x1 : Int
  x2 : Int
  y1 : Int
  y2 : Int
deriving DecidableEq, Repr

/-- A band at rest. -/
def BandSt.zero : BandSt := ⟨0, 0, 0, 0⟩

/-- The renderer's state of an object slot, named by its home ID (R163). -/
structure SlotRender where
  /-- The object bound to the slot, none once shed without a successor (R92). -/
  obj : Option Nat
  /-- A binding that takes effect at an input block: the object, none once shed without a successor (R92). -/
  rebind : Option (Option Nat × Nat)
  /-- Object PEQ memory, and the staged result of the last input block. -/
  peq : List BandSt
  staged : List Int
  /-- Silence counter of the object, and its flag for the staged block. -/
  silCount : Nat
  silent : Bool
  air : Int
  /-- Histories of w of the four all-pass sections, newest first. -/
  allPass : List (List Int)
  /-- Fade state (0 none, 1 fade-out, 2 fade-in) and frames elapsed. -/
  fade : Nat
  fadeN : Nat
  /-- Line start (R165). -/
  ls : Nat
  /-- Carrier of the Doppler read in the last block, and whether one contained it. -/
  carrier : Nat
  carrierOk : Bool
  /-- Window start words of the 32 tap slots in the last block (R171). -/
  wins : List Nat
  /-- The input block from which the object has been bound to the slot. -/
  since : Nat
deriving DecidableEq, Repr

/-- A slot at rest. -/
def SlotRender.init : SlotRender :=
  { obj := none, rebind := none, peq := [], staged := [], silCount := 0, silent := false, air := 0, allPass := [[], [], [], []],
    fade := 0, fadeN := 0, ls := 0, carrier := 0, carrierOk := false, wins := [], since := 0 }

/-- A block of a channel's output: samples (s4.31), dither values in 2^-32 of the 16-bit LSB, the silence flag, and whether egress
fades it (R79, R80, R84, R105). -/
structure OutBlk where
  xs : List Int
  dither : List Int
  silent : Bool
  fading : Bool
deriving DecidableEq, Repr

/-- A block of zeros. -/
def OutBlk.zero : OutBlk := { xs := List.replicate 16 0, dither := List.replicate 16 0, silent := false, fading := false }

/-- The renderer's state of a channel. -/
structure ChanRender where
  /-- Memory of the crossover's four bands and of the sixteen PEQ bands. -/
  xover : List BandSt
  peq : List BandSt
  /-- PEQ output, newest first, as far back as the ladder reaches. -/
  hist : List Int
  /-- The ladder's spectral history and the results of its inverse transforms (s16.55), by 2 x pair + parity of the output
  segment (R199, R200). -/
  spectra : Tbl (List Nat)
  parts : Tbl (List Int)
  /-- The alignment line, newest first: 8,192 samples. -/
  line : List Int
  /-- The samples that stage B takes in the next block. -/
  ready : List Int
  /-- Scale reached by the end of the previous block (u1.34), and a_c of the last one. -/
  scale : Nat
  active : Nat
  /-- Limiter gain (u1.34). -/
  g : Nat
  lfsr : Nat
  silCount : Nat
  /-- Silence flag of the block stage A processed last. -/
  silA : Bool
  /-- Alignment delay in use, and whether the next stage B block fades in (R205). -/
  align : Nat
  fadeIn : Bool
  /-- Stage B's result as egress received it last, before any fade: what a channel return carries (R222). -/
  ret : OutBlk
  /-- Stage B's result of this block, the block in egress, and the output block that sounds. -/
  out : OutBlk
  egress : OutBlk
  play : OutBlk
deriving DecidableEq, Repr

/-- A channel at rest. -/
def ChanRender.init : ChanRender :=
  { xover := [], peq := [], hist := [], spectra := [], parts := [], line := [], ready := [], scale := 2 ^ 34, active := 0, g := 2 ^ 34, lfsr := 0,
    silCount := 0, silA := false, align := 0, fadeIn := false, ret := OutBlk.zero,
    out := OutBlk.zero, egress := OutBlk.zero,
    play := OutBlk.zero }

/-- The renderer. -/
structure RenderState where
  slots : Tbl SlotRender
  chans : Tbl ChanRender
  /-- Stream samples of the block in ingest, and source samples of the sprue's last input block, by source index (R220). -/
  ingest : Tbl (List Int)
  src : Tbl (List Int)
  /-- Seats whose outputs carry zero in this block because their tile was lost. -/
  zeroSeats : List Nat
  /-- Seats that fade in, with the strobe at which their first clean block enters egress (R105, R428, R430). -/
  fadeWait : List (Nat × Nat)
  /-- Slots and channels as they stood at the strobe, which an abandoned block leaves where its steps did not get to them
  (R105, R187, R217). -/
  prevSlots : Tbl SlotRender
  prevChans : Tbl ChanRender
  /-- The slots' geometry as it stood at the strobe, for the inspection registers (R189). -/
  prevGeo : Tbl GeoObj
  /-- The words of each slot's line that the block's write replaced, which a dropped write leaves (R103). -/
  lineWas : Tbl (List Nat)
  /-- Each seat's partial sums and counts of the last block without its beds, which an overrun leaves (R238). -/
  bedless : Tbl (Tbl (List Int) × Tbl Nat)
  /-- Outputs of a vacated seat that fade to zero in this block, after which they stay silent (R92). -/
  fadeOutSeats : List Nat
  deadSeats : List Nat
deriving DecidableEq, Repr

/-! ### Ethernet ports (spec/11_ethernet_ports.md) -/

/-- A frame of a hardware source that waits for its gate: traffic class, stream context (256 for none) and bytes without
the FCS. -/
structure TxItem where
  tc : Nat
  ctx : Nat
  bytes : List Byte
deriving DecidableEq, Repr

/-- One port. -/
structure NetPort where
  /-- Queued frames of the stream contexts, of the ACK source and of the ladle (R273), oldest first. -/
  streams : List TxItem
  acks : List TxItem
  ladle : List TxItem
  /-- By traffic class: the source served last (0 streams, 1 ACK, 2 ladle, 3 to 6 TR0 to TR3). -/
  turn : Tbl Nat
  /-- Effective block of a pending gate commit (R278). -/
  gclPend : Option Nat
  /-- Operational list: entries and cycle; the entry in force is NETn_GCL_STATE.ENTRY. -/
  operLen : Nat
  operCycle : Nat
  /-- Cycle time at which the entry in force began, in ns. -/
  entryAt : Nat
  /-- Stamp at which that entry took effect (R279). -/
  entrySince : Nat
  /-- Stamp at which the transmitter began to wake, until it sends (R279). -/
  waking : Option Nat
  /-- By transmit ring: the index at which the frame begins that TAIL was left inside, and the counted MSI of that. -/
  inside : Tbl (Nat × Nat)
  /-- By transmit ring: the index at which a frame begins that TAIL was left inside for more than one block (R274). -/
  overdue : Tbl Nat
  /-- The frame last put on the line, with its FCS; and while it is on the line, its ring (4 for a hardware source), its
  descriptors and the stamp of its end (R275). -/
  line : List Byte
  sending : Option (Nat × Nat × Nat)
  /-- A link loss may have cut a frame in reception: the next frame seen is that one (R280). -/
  cut : Bool
deriving DecidableEq, Repr

/-- A port after reset. -/
def NetPort.init : NetPort :=
  { streams := [], acks := [], ladle := [], turn := [], gclPend := none, operLen := 1, operCycle := 125000, entryAt := 0,
    entrySince := 0, waking := none, inside := [], overdue := [], line := [], sending := none, cut := false }

/-- A stream packet that the classifier handed to a receive context (R266): leg (false A, true B) and the frame without
its FCS. -/
structure StrArrival where
  leg : Bool
  bytes : List Byte
deriving DecidableEq, Repr

/-- The four ports, and what the classifier has handed to receive contexts. -/
structure NetState where
  ports : Tbl NetPort
  arrivals : Tbl (List StrArrival)
deriving DecidableEq, Repr

/-! ### Stream contexts (spec/12_streams.md) -/

/-- A receive context. -/
structure RxCtx where
  /-- Written frames, one sample per channel, by the input MSI of the ASRC path; that of the locked path is 32 less (R50). -/
  frames : Tbl (List Int)
  /-- Last sample delivered from an admitted frame, frames concealed in the present gap, frames faded in after one. -/
  lastX : List Int
  gap : Nat
  fadeN : Nat
  /-- Expected sequence numbers of the two legs. -/
  seqA : Option Nat
  seqB : Option Nat
  /-- Counted MSI of the last admission: of any packet, by leg, and of one that bears HELD. -/
  last : Option Nat
  lastA : Option Nat
  lastB : Option Nat
  lastHeld : Option Nat
  /-- Boundary at which the context starts, or stops. -/
  startAt : Option Nat
  stopAt : Option Nat
  /-- Channels pass through the ASRC bank, and the ASRC bank had a channel for them. -/
  asrc : Bool
deriving DecidableEq, Repr

/-- A context that is off. -/
def RxCtx.init : RxCtx :=
  { frames := [], lastX := [], gap := 16, fadeN := 16, seqA := none, seqB := none, last := none, lastA := none,
    lastB := none, lastHeld := none, startAt := none, stopAt := none, asrc := false }

/-- A packet built and not yet passed to its port queues (R362): block of the strobe at which it was built, MSI of its first
frame, sequence number, SILENT mask and samples. -/
structure TxPkt where
  built : Nat
  m0 : Nat
  seq : Nat
  silent : Nat
  payload : List Byte
deriving DecidableEq, Repr

/-- A transmit context: the output frames gathered (bytes of the sample words and the silent channels), the MSI of the
first of them, held packets, and the boundaries at which it starts or stops. -/
structure TxCtx where
  gathered : List (List Byte × Nat)
  m0 : Nat
  held : List TxPkt
  startAt : Option Nat
  stopAt : Option Nat
deriving DecidableEq, Repr

/-- A transmit context that is off. -/
def TxCtx.init : TxCtx := { gathered := [], m0 := 0, held := [], startAt := none, stopAt := none }

/-- The stream contexts. -/
structure StrState where
  rx : Tbl RxCtx
  tx : Tbl TxCtx
deriving DecidableEq, Repr

/-! ### Digital audio port lanes (spec/13_audio_ports.md) -/

/-- A clock group. -/
structure ApdGroup where
  startAt : Option Nat
  stopAt : Option Nat
  /-- Frame-starting edges of a slave group: last stamp, rejects in a row, last intervals newest first, start and count of
  the qualifying second. -/
  lastEdge : Option Nat
  rejects : Nat
  intervals : List Nat
  /-- The last accepted intervals, newest first; the frequency estimate in 2^-24 Hz that drives the group's ASRC channels and
  Riser, and whether it still slews from the value it held in HOLD or RATE (R310). -/
  accepted : List Nat
  estimate : Nat
  slewing : Bool
  /-- A loss has been counted in the present gap, which the next edge ends. -/
  lost : Bool
  goodStart : Option Nat
  goodCount : Nat
  /-- The Riser: frames, oldest first, as samples (s4.31) with their dither by 32 x lane + slot; the last frame read; frames
  written since RUN. -/
  riser : List (Tbl (Int × Int))
  lastRead : Tbl (Int × Int)
  written : Nat
  /-- Fades of outputs and inputs, in frames: 16 is full level; rising or falling. -/
  outLevel : Nat
  outUp : Bool
  inLevel : Nat
  inUp : Bool
  /-- Input MSI of the frame whose edge came last: its time-stamped MSI + 32 (R50). -/
  inMsi : Option Nat
  /-- Oliantino loop: accumulator, and blocks for which the fill was within one frame of 32. -/
  acc : Int
  held : Nat
deriving DecidableEq, Repr

/-- A group that is off. -/
def ApdGroup.init : ApdGroup :=
  { startAt := none, stopAt := none, lastEdge := none, rejects := 0, intervals := [], accepted := [], estimate := 0, slewing := false, lost := false, goodStart := none,
    goodCount := 0, riser := [], lastRead := [], written := 0, outLevel := 0, outUp := true, inLevel := 0, inUp := true, inMsi := none, acc := 0,
    held := 0 }

/-- A lane. -/
structure ApdLane where
  /-- The live map: channel index by slot. -/
  map : Tbl Nat
  /-- A commit of the channel-status shadows waits: the MSI from which a Z preamble qualifies. -/
  csPend : Option Nat
  /-- The transmit block in use: 24 words as the shadow's. -/
  csLive : List Nat
  /-- Biphase input: good frames and bad frames in a row, its level of 16, rising or falling, whether lock has been lost
  since the enable, the input MSI of the last frame (R50), and the last good sample of each channel. -/
  good : Nat
  bad : Nat
  level : Nat
  up : Bool
  lost : Bool
  inMsi : Option Nat
  lastA : Int
  lastB : Int
  /-- Frames of the block being received: channel status A and B, user A and B bits, newest first; none before a Z. -/
  cs : Option (List (Bool × Bool × Bool × Bool))
  /-- What the pin carries in the present frame, by slot: none is high impedance. -/
  pins : List (Option Int)
  /-- Input lane: level and live mask in each of the last 48 media frames, newest first. -/
  hist : List (Nat × Nat)
deriving DecidableEq, Repr

/-- A lane after reset. -/
def ApdLane.init : ApdLane :=
  { map := [], csPend := none, csLive := List.replicate 24 0, good := 0, bad := 0, level := 0, up := false, lost := false,
    inMsi := none, lastA := 0, lastB := 0,
    cs := none, pins := [], hist := [] }

/-- The audio ports; the level of the fade-in at a takeover (R320) and of the fade-out of a drill (R381), 16 once complete,
rising or falling; and whether the pins are driven. -/
structure ApdState where
  groups : Tbl ApdGroup
  lanes : Tbl ApdLane
  claimLevel : Nat
  claimUp : Bool
  driven : Bool
deriving DecidableEq, Repr

/-! ### PDM microphones and capture (spec/14_pdm_and_capture.md) -/

/-- A microphone's decimation chain (R327): the CIC's N integrators and N combs, and the CIC's outputs in units of 2^-40 of the
frames that the filters behind it reach, oldest first. -/
structure MicChain where
  integ : List Int
  comb : List Int
  hist : List Int
deriving DecidableEq, Repr

/-- Decimators: blocks of scheduled resets of all microphones, microphones to reset at the next strobe, the frames (as
`TimeState.frames` counts them) of each microphone's last two resets, newest first, the frames of each microphone's last idle
period, from one and up to another, the blocks for which MICSYNC is driven high, the chains, and the source values of the block
before the last strobe. -/
structure PdmState where
  resets : List Nat
  mics : List Nat
  since : Tbl (List Nat)
  idle : Tbl (Nat × Option Nat)
  syncHigh : List Nat
  chains : Tbl MicChain
  out : Tbl (List Int)
deriving DecidableEq, Repr

/-- The decimators after reset. -/
def PdmState.reset : PdmState :=
  { resets := [], mics := [], since := [], idle := [], syncHigh := [], chains := [], out := [] }

/-- A capture under way: what START used, the end block if a STOP or a pour named one, and the MLS register. -/
structure CapRun where
  k : Nat
  vals : CapVals
  stop : Option Nat
  cut : Bool
  /-- A pour comes before the capture's last block is written: the gains of its entries in that block (R335). -/
  tail : Option (List (RouteEnt × List Int))
  lfsr : Nat
  /-- The item has been decided (always, on a lone unit). -/
  decided : Bool
  via : Src
deriving DecidableEq, Repr

/-! ### Analogue output channels (spec/15_dac.md) -/

/-- Why a converter channel settles for 20 us (R346, R348, R349, R350, R381). -/
inductive Settle where
  | powerUp
  | span
  | clear
  | claim
  | drill
deriving DecidableEq, Repr

/-- The step of R348 that a channel takes at the coming block boundary. -/
inductive SpanAct where
  | none
  | start
  | switch
deriving DecidableEq, Repr

/-- A converter channel. -/
structure DacCh where
  /-- The queue, oldest code first, and the eight frames of group delay, oldest first; an entry none is an underrun. -/
  queue : List Int
  pipe : List (Option Int)
  /-- The code at the balls. -/
  code : Int
  /-- A ramp: start and end code and frames done, of 64. -/
  ramp : Option (Int × Int × Nat)
  /-- A crossfade from a held code: that code and frames done. -/
  xf : Option (Int × Nat)
  /-- The outgoing unit of a drill fades to zero: frames done. -/
  fadeOut : Option Nat
  /-- The output switch ties the ball to AGND or is open; the current sources are on. -/
  clamped : Bool
  sources : Bool
  /-- Twenty microseconds of settling are under way. -/
  settling : Option Settle
  /-- The span change under way: the block at whose boundary it began, span and mode to come. -/
  span : Option (Nat × Nat × Nat)
  /-- A write of SPAN and MODE that waits: span, mode, and the boundary at which it acts, none while it is held. -/
  want : Option (Nat × Nat × Option Nat)
  act : SpanAct
  /-- Underrun: the last code is held until a boundary; the block in which one was last counted, blocks in a row. -/
  held : Bool
  urBlock : Option Nat
  urRun : Nat
  /-- FORCE, or an underrun of UR_LIM blocks, and CLEAR take effect at these boundaries. -/
  forceAt : Option Nat
  clearAt : Option Nat
  /-- Silence flag of the output block last loaded, and whether its channel index is a physical output. -/
  silNext : Bool
  /-- SPAN and MODE in force. -/
  spanNow : Nat
  modeNow : Nat
  /-- The DC code in force. -/
  dc : Int
deriving DecidableEq, Repr

/-- A channel before its records are read. -/
def DacCh.init : DacCh :=
  { queue := [], pipe := List.replicate 8 none, code := 0, ramp := none, xf := none, fadeOut := none, clamped := true,
    sources := false, settling := none, span := none, want := none, act := .none, held := false, urBlock := none, urRun := 0,
    forceAt := none, clearAt := none, silNext := false, spanNow := 2, modeNow := 0, dc := 0 }


/-! ### Supplies, clocks and resets (spec/21_reset_clocks_power.md) -/

/-- What the reset and supply logic holds beside its registers. -/
structure PwrState where
  /-- PWRGOOD is high; the core PLL is locked; TEST_EN is high; the thermal comparator holds the device in reset. -/
  good : Bool
  /-- Each audio port bank's supply as sensed when PWRGOOD last rose: bit b set for 3.3 V, clear for 1.8 V (R486). -/
  banks : BitVec 4
  pll : Bool
  testEn : Bool
  hot : Bool
  /-- The converter die has not yet read its records since PWRGOOD rose or a FULL reset. -/
  dacAwait : Bool
  /-- REFCLK or the core PLL has failed: no clock until a reset (R470). -/
  clkFail : Bool
  /-- Thermal thresholds that are in force: WARN, 105 and 110 degrees (R474). -/
  warn : Bool
  crit : Bool
  trip : Bool
deriving DecidableEq, Repr


/-! ### Control cores, bus matrix and host interfaces (spec/20_control_fabric.md) -/

/-- What the fabric holds beside its registers. -/
structure FabState where
  /-- By core: the counted MSI of its last kick, release or restart (R445). -/
  kickAt : Tbl Nat
  /-- Cores that an exception stopped. -/
  stopped : List Nat
  /-- Boot: 0 not begun, 1 loading, 2 ended with an image, 3 ended with none (R455). -/
  boot : Nat
  /-- The copy that BOOT_LOAD chose: B rather than A, with its GEN and body length. -/
  bootCopy : Bool × Nat × Nat
  /-- PROGRAM in progress: area, DRAM word and length (R456). -/
  nvm : Option (Nat × Nat × Nat)
  /-- MSI-X vectors signalled since the last block strobe (R449). -/
  vectors : List Nat
  /-- The last bus matrix transaction or DMA descriptor: bytes read, and whether it had the error response. -/
  busData : List Byte
  busErr : Bool
  /-- STATUS and index of the DMA descriptor that completed last. -/
  dmaLast : Option (Nat × Nat)
  /-- What the last SPI frame sent, and the answer to the last management frame. -/
  spiOut : List Byte
  mgmtOut : List Byte
deriving DecidableEq, Repr

/-! ### The whole state -/

/-- The state of the block. -/
structure State where
  /-- Registers as the host reads and writes them, by BAR0 offset; an unlisted one holds its reset value. -/
  regs : Tbl Word
  /-- The live copy of the registers that the block-timed work reads (R35). -/
  live : Tbl Word
  /-- Memory bytes by control-core address (R436); an unlisted byte reads `memDefault`. -/
  mem : List Host.Cell
  /-- The counted MSI (R47). -/
  msi : Nat
  time : TimeState
  err : ErrState
  jnl : Journal
  pat : PatState
  seq : SeqState
  bst : BstState
  asc : Asc
  geo : GeoState
  rte : RouteState
  flt : FilterState
  rnd : RenderState
  str : StrState
  apd : ApdState
  pdm : PdmState
  cap : Option CapRun
  dac : Tbl DacCh
  pwr : PwrState
  fab : FabState
  net : NetState
  intake : IntakeState
  flk : FlkState
  clm : ClaimState
  hier : HierState
  /-- What the last register read returned. -/
  rdata : Word
  /-- The model's own: how many free values have been drawn. -/
  freeCtr : Nat
  /-- Commands waiting, first in, first out. -/
  pending : List Instr
deriving DecidableEq, Repr

/-! ### Reset (spec/21_reset_clocks_power.md R464)

Each part at the value the spec states for reset; what it states no value for is empty or zero, as the assumption log says. -/

/-- Time bases and media loop after reset. -/
def TimeState.reset : TimeState :=
  { tb := [], pins := [], ref := 0, since := 0, mlGood := 0, excess := false, ppsHigh := none, frames := 0, e := 0 }

/-- The error engine after reset: empty, and FAULT_N held low until the start-up test ends (R410). -/
def ErrState.reset : ErrState :=
  { current := none, resumed := false, stack := [], fifo := [], fatal := false, startupHold := true, eccCount := 0,
    eccFrames := 0 }

/-- The journal after reset: its contents are lost (R38). -/
def Journal.reset : Journal := { entries := [], next := 0, frozen := none, post := none, since := 0 }

/-- The loader after reset: no Pattern. -/
def PatState.reset : PatState :=
  { busy := none, via := .device, staged := none, stagedBytes := [], live := none, pour := none, stop := none,
    amend := none, conv := none, pouredAt := none, layoutBusy := [], zeroFrom := 0, zeroTo := 0, fadeIn := none,
    armedMtb := none, regsetDone := false, autoAt := none, autoDone := false }

/-- The sequencer after reset. -/
def SeqState.reset : SeqState := { tiles := [], ho := none, hoUndo := none, fallbackAt := none, shedSeats := [], ran := [] }

/-- Self-test after reset. -/
def BstState.reset : BstState :=
  { lastTest := [], lastEnd := 0, slice := none, retest := false, held := [], mapWrite := none, mapGen := 0, mapB := false }

/-- Automatic scaling after reset: NORMAL. -/
def Asc.reset : Asc := { phase := 0, cause := 0, start := 0, stop := 0, hold := false, beta0 := 0, xfFrom := 0 }

/-- Geometry after reset. -/
def GeoState.reset : GeoState :=
  { objs := [], fresh := [], mesh := [], relaid := [], gEff := 1, gPrev := 0, gSince := 0, gNext := none, misses := [], missNow := [] }

/-- Routing after reset: the empty table. -/
def RouteState.reset : RouteState := { epochs := [], cmt := none, mirrored := none, doneAt := [], asrc := [], asrcWait := [] }

/-- The renderer after reset. -/
def RenderState.reset : RenderState :=
  { slots := [], chans := [], ingest := [], src := [], zeroSeats := [], fadeWait := [], prevSlots := [], prevChans := [], prevGeo := [], lineWas := [],
    bedless := [], fadeOutSeats := [], deadSeats := [] }

/-- The audio ports after reset. -/
def ApdState.reset : ApdState := { groups := [], lanes := [], claimLevel := 16, claimUp := true, driven := false }

/-- Supplies and clocks right after a power-on reset: the core PLL is not locked, and the converter die has not read its
records. -/
def PwrState.reset : PwrState :=
  { good := true, banks := 0, pll := false, testEn := false, hot := false, dacAwait := true, clkFail := false, warn := false,
    crit := false, trip := false }

/-- The fabric after reset. -/
def FabState.reset : FabState :=
  { kickAt := [], stopped := [], boot := 0, bootCopy := (false, 0, 0), nvm := none, vectors := [], busData := [],
    busErr := false, dmaLast := none, spiOut := [], mgmtOut := [] }

/-- The intake engine after reset. -/
def IntakeState.reset : IntakeState :=
  { objs := [], cur := [], jobs := [], nextJob := 0, turn := 4, used := 0, hqFinal := [], ladleIn := [], shown := [] }

/-- The Flask link after reset: item numbers start at 1, since 0 means the snapshot. -/
def FlkState.reset : FlkState :=
  { sent := [], nextItem := 1, txLseq := 0, rxLseq := 0, ahead := [], inbox := [], undecided := [], held := [],
    lastConfirm := [], lastDiscard := [], highItem := 0, hbRun := 0, hbMiss := 0, hbNow := false, peerRank := none,
    peerPat := 0, peerCrc := 0, peerRole := 0, peerReady := 0, syncSince := 0, equalRun := 0, missRun := 0, digests := [],
    snap := [], snapAt := none, replay := [], join := none, snapFor := none, snapAsked := false, silenceFor := none,
    silOwn := [] }

/-- The claim bus after reset: a lone unit. -/
def ClaimState.reset : ClaimState :=
  { epoch := 0, lineA := ⟨0, 0⟩, lineB := ⟨0, 0⟩, sending := none, frameOn := false, sentWord := none, wins := 0, listenAt := 0, listenMax := 0,
    activeSeen := false, lastActive := none, force := none, yieldAt := none, yielded := none, drill := none,
    drillFinal := false, drillRun := none, renorm := none, renormFinal := false, drillBase := 0, armed := false,
    takeover := none }

/-- The hierarchy after reset. -/
def HierState.reset : HierState :=
  { workers := [], frameSeq := 0, redecide := [], outbox := none, heard := [], answers := [], again := [], manager := none, hb := false, missed := 0,
    beenMember := false, reqAt := none, joinSince := none, join := [], joinSeq := none, joinEnd := none, forwarded := [],
    fwdDecided := [], installed := false, holdoff := 0 }

/-- The machine right after a power-on reset, with the NVM as shipped. -/
def State.reset : State :=
  { regs := [], live := [], mem := [], msi := 0, time := TimeState.reset, err := ErrState.reset, jnl := Journal.reset,
    pat := PatState.reset, seq := SeqState.reset, bst := BstState.reset, asc := Asc.reset, geo := GeoState.reset,
    rte := RouteState.reset, flt := { peq := [], coef := [], gain := [] }, rnd := RenderState.reset,
    str := { rx := [], tx := [] }, apd := ApdState.reset, pdm := PdmState.reset,
    cap := none, dac := [], pwr := PwrState.reset, fab := FabState.reset, net := { ports := [], arrivals := [] },
    intake := IntakeState.reset, flk := FlkState.reset, clm := ClaimState.reset, hier := HierState.reset, rdata := 0,
    freeCtr := 0, pending := [] }

end Sys2Proof.Machine
end

