-- ==== Sys2Proof/Machine/Ops.lean ====
section
/-! DEFINITION. The named operations over registers, memory, counters, status bits and free values that every meaning
uses (spec/00_scope.md R17 to R20, spec/01_architecture.md R35, R38, spec/20_control_fabric.md R436). -/

namespace Sys2Proof.Machine

/-- What a step answers. -/
abbrev Out := Host.Outcome State Fault Refusal

/-! ### Registers -/

/-- The register at an offset, as the host reads it. -/
def rd (s : State) (off : Nat) : Word := aGet regReset s.regs off

/-- Write the register at an offset, without side effects. -/
def wr (s : State) (off : Nat) (v : Word) : State := { s with regs := aSet regReset s.regs off v }

/-- A register as a number. -/
def rdN (s : State) (off : Nat) : Nat := (rd s off).toNat

/-- Write a register from a number (its low 32 bits). -/
def wrN (s : State) (off : Nat) (v : Nat) : State := wr s off (BitVec.ofNat 32 v)

/-- A field of a register. -/
def getF (s : State) (f : Fld) : Nat := fget (rd s f.off) f.hi f.lo

/-- Set a field of a register. -/
def setF (s : State) (f : Fld) (v : Nat) : State := wr s f.off (fput (rd s f.off) f.hi f.lo v)

/-- The live copy of a register (R35). -/
def rdLive (s : State) (off : Nat) : Word := aGet regReset s.live off

/-- A field of the live copy of a register. -/
def getL (s : State) (f : Fld) : Nat := fget (rdLive s f.off) f.hi f.lo

/-- The live copy of a register as a number. -/
def liveN (s : State) (off : Nat) : Nat := (rdLive s off).toNat

/-- The 64-bit number in a pair of registers. -/
def rd64 (s : State) (lo hi : Nat) : Nat := rdN s lo + 2 ^ 32 * rdN s hi

/-- Write a 64-bit number to a pair of registers. -/
def wr64 (s : State) (lo hi : Nat) (v : Nat) : State := wrN (wrN s lo v) hi (v / 2 ^ 32)

/-- Read a pair of registers as a signed 64-bit number. -/
def rdS64 (s : State) (lo hi : Nat) : Int := sx 64 (rd64 s lo hi)

/-- Count events in a counter, which saturates at 0xFFFF_FFFF (R19). -/
def cntAdd (s : State) (off n : Nat) : State := wrN s off (min (rdN s off + n) 0xFFFFFFFF)

/-- Count one event. -/
def cnt (s : State) (off : Nat) : State := cntAdd s off 1

/-- Set one bit of a status field: the field's lowest bit plus an index. -/
def setBit (s : State) (f : Fld) (i : Nat := 0) : State :=
  setF s ⟨f.off, f.lo + i, f.lo + i⟩ 1

/-- The reading of a register pair that a read of the low word latches. -/
def latch (s : State) (off : Nat) (v : Nat) : State := wrN s off v

/-! ### Free values -/

/-- Draw the next free value, as w bits. -/
def freeNat (s : State) (w : Nat) : Nat × State :=
  ((Config.freeValue s.freeCtr).toNat % 2 ^ w, { s with freeCtr := s.freeCtr + 1 })

/-! ### Memory: bytes by control-core address (R436) -/

/-- DRAM, word 0 (R436). -/
def dramBase : Nat := 0x1000000000

/-- Pool SRAM, word 0 (R185). -/
def poolBase : Nat := 0xA0000000

/-- Working SRAM, byte 0 (R436). -/
def sramBase : Nat := 0x10000000

/-- Boot memory, byte 0 (R436). -/
def romBase : Nat := 0x20000000

/-- The NVM read window, byte 0 (R436). -/
def nvmBase : Nat := 0xC0000000

/-- The DAC records as shipped (R346): per channel SPAN 2, audio mode, safe codes 0, 0, 0x8000, 0x8000, fault code 0x8000
and UR_LIM 16; then their CRC-32C. -/
def shippedDac (i : Nat) : Byte :=
  if i < 512 then
    match i % 16 with
    | 0 => 2
    | 7 => 0x80
    | 9 => 0x80
    | 11 => 0x80
    | 12 => 16
    | _ => 0
  else match i with
    | 512 => 0x29
    | 513 => 0x73
    | 514 => 0x47
    | 515 => 0x95
    | _ => 0

/-- What a byte that nothing has written reads as: the boot ROM, the NVM as shipped, and 0 elsewhere. -/
def memDefault : Nat → Byte := fun a =>
  if romBase ≤ a ∧ a < romBase + 0x20000 then Config.bootRom (a - romBase)
  else if nvmBase ≤ a ∧ a < nvmBase + 0x4000 then Config.mfgByte (a - nvmBase)
  else if nvmBase + 0x6000 ≤ a ∧ a < nvmBase + 0x7000 then shippedDac (a - (nvmBase + 0x6000))
  else 0

/-- One byte of memory. -/
def rdByte (s : State) (a : Nat) : Byte := aGet memDefault s.mem a

/-- Write one byte of memory. -/
def wrByte (s : State) (a : Nat) (v : Byte) : State := { s with mem := aSet memDefault s.mem a v }

/-- n bytes from an address. -/
def rdBytes (s : State) (a : Nat) : Nat → List Byte
  | 0 => []
  | n + 1 => rdByte s a :: rdBytes s (a + 1) n

/-- Write bytes from an address on. -/
def wrBytes (s : State) (a : Nat) : List Byte → State
  | [] => s
  | b :: bs => wrBytes (wrByte s a b) (a + 1) bs

/-- A 72-bit word at a word index of a window: bytes 0 to 8 of its 16-byte stride (R14). -/
def rdWord72 (s : State) (base i : Nat) : Nat := leNat (rdBytes s (base + 16 * i) 9)

/-- Write a 72-bit word. -/
def wrWord72 (s : State) (base i w : Nat) : State := wrBytes s (base + 16 * i) (leBytes 9 w)

/-- len bytes packed nine to a word from a word index on (R64), starting at byte k of the stream. -/
def rdPackedFrom (s : State) (base w0 : Nat) : Nat → Nat → List Byte
  | _, 0 => []
  | k, n + 1 => rdByte s (base + 16 * (w0 + k / 9) + k % 9) :: rdPackedFrom s base w0 (k + 1) n

/-- len bytes packed nine to a word from a word index on (R64). -/
def rdPacked (s : State) (base w0 len : Nat) : List Byte := rdPackedFrom s base w0 0 len

/-- Write bytes packed nine to a word, from byte k of the stream on. -/
def wrPackedFrom (s : State) (base w0 : Nat) : Nat → List Byte → State
  | _, [] => s
  | k, b :: bs => wrPackedFrom (wrByte s (base + 16 * (w0 + k / 9) + k % 9) b) base w0 (k + 1) bs

/-- Write bytes packed nine to a word (R64). -/
def wrPacked (s : State) (base w0 : Nat) (bs : List Byte) : State := wrPackedFrom s base w0 0 bs

/-- Tile memory of a tile, word 0 (R185). -/
def tileBase (t : Nat) : Nat := 0x80000000 + t * 0x800000

/-- A runner bank of a tile (R185). -/
def bankBase (t b : Nat) : Nat := 0xB0000000 + t * 0x100000 + b * 0x80000

/-- A memory holds its canonical form. -/
def Memory.wf (m : List Host.Cell) : Bool := aWf memDefault m

/-! ### The block and its rate -/

/-- The current block: the one whose strobe came last (R10, R57). -/
def blk (s : State) : Nat := s.msi / 16

/-- The block whose boundary steps are due: those of the current strobe and of the next. -/
def dueBlk (s : State) : Nat := blk s + 1

/-- Is a boundary step named for block k due at this strobe or the next? -/
def due (s : State) (k : Nat) : Bool := k ≤ dueBlk s

/-- Counting rate: 96 kHz rather than 48 kHz (TSU_MEDIA_CFG.RATE). -/
def rate96 (s : State) : Bool := getF s F.TSU_MEDIA_CFG_RATE == 1

/-- Fs_int in frames per second. -/
def fsInt (s : State) : Nat := if rate96 s then 96000 else 48000

/-- Frames in a number of milliseconds. -/
def msFrames (s : State) (ms : Nat) : Nat := ms * (fsInt s / 1000)

/-- A Pattern runs: PAT_STATE.LIVE is not STOPPED. -/
def running (s : State) : Bool := getF s F.PAT_STATE_LIVE != 0

/-- The unit is part of a redundant pair (R354). -/
def isPair (s : State) : Bool := getF s F.CLM_CFG_EN == 1

/-- The unit is the active unit of a pair (CLM_STATE.ROLE 3). -/
def isActive (s : State) : Bool := isPair s && getF s F.CLM_STATE_ROLE == 3

/-- The unit is a standby (role 2). -/
def isStandby (s : State) : Bool := isPair s && getF s F.CLM_STATE_ROLE == 2

/-- The unit drives its outputs: a lone unit, or the active unit of a pair. -/
def isLoneOrActive (s : State) : Bool := !isPair s || isActive s

/-- The unit is the manager of a hierarchy (R386). -/
def isManager (s : State) : Bool := getF s F.HIER_CFG_ROLE == 1

/-- The unit is a worker. -/
def isWorker (s : State) : Bool := getF s F.HIER_CFG_ROLE == 2

/-- The minimum lead of a metadata record (R57). -/
def lead (s : State) : Nat := (if isManager s then 4 else 0) + (if isActive s then 1 else 0)

/-- The minimum lead of a timed register command (R56). -/
def leadCmd (s : State) : Nat := if isPair s then 2 else 1

/-- A timed command named for an MSI is late (R56). -/
def isLate (s : State) (m : Nat) : Bool := ceil16 m < blk s + leadCmd s

/-- The media clock is locked: SEATED, and the loop is not in ACQUIRE (R254). -/
def mediaLocked (s : State) : Bool := getF s F.TSU_ML_STATE_SEATED == 1 && getF s F.TSU_ML_STATE_STATE != 0

/-- The unit of a pair cannot take render-state writes or mirrored commands: LISTEN or STANDBY (R503). -/
def isPassive (s : State) : Bool :=
  isPair s && (getF s F.CLM_STATE_ROLE == 1 || getF s F.CLM_STATE_ROLE == 2)

/-- The claim gate is open: always on a lone unit (R361). -/
def gateOpen (s : State) : Bool := !isPair s || getF s F.CLM_STATE_HOLDER == 1

/-- A timed command or change that names block k can still be withdrawn: c plus its lead does not pass k (R79, R278). -/
def inTime (s : State) (k : Nat) : Bool := blk s + leadCmd s ≤ k

/-- Run a step for each number below n, in rising order. -/
def forNat (n : Nat) (f : Nat → State → State) (s : State) : State :=
  (List.range n).foldl (fun s i => f i s) s

/-- Run a step for each member of a list, in order. -/
def forEach {α : Type} (l : List α) (f : α → State → State) (s : State) : State := l.foldl (fun s a => f a s) s

/-- Run a step if a condition holds. -/
def when (c : Bool) (f : State → State) (s : State) : State := if c then f s else s

end Sys2Proof.Machine
end

