-- ==== Sys2Proof/Machine/Flags.lean ====
section
/-! DEFINITION. Status bits, masks, the error engine, FAULT_N and the interrupt, and the change journal
(spec/18_faults_and_journal.md R406 to R411, R416, R417, R505; spec/00_scope.md R20). -/

namespace Sys2Proof.Machine

/-! ### The journal -/

/-- Journal source codes of JNL_E2.SRC. -/
def srcCode : Src → Nat
  | .pcie => 0
  | .spi => 1
  | .moaby => 2
  | .ring => 3
  | .flask => 4
  | .device => 5

/-- Freeze the journal. -/
def jnlFreezeNow (why : Freeze) (s : State) : State :=
  { s with jnl := { s.jnl with frozen := some why, post := none, since := s.msi } }

/-- Append one entry (R417): serial numbers rise by one, the last 4,096 entries stay, and an overwrite is counted. -/
def jnlAppend (e : JEntry) (s : State) : State :=
  let s := if 4096 ≤ s.jnl.entries.length then cnt s R.JNL_WRAP_CNT else s
  let s := { s with jnl := { s.jnl with entries := ({ e with serial := s.jnl.next } :: s.jnl.entries).take 4096,
                                        next := (s.jnl.next + 1) % 2 ^ 32 } }
  match s.jnl.post with
  | none => s
  | some n => if n ≤ 1 then jnlFreezeNow .byError s else { s with jnl := { s.jnl with post := some (n - 1) } }

/-- Record a change: while the journal is frozen it only counts in JNL_MISSED (R416, R417). -/
def journal (src : Src) (kind addr value msi : Nat) (s : State) : State :=
  match s.jnl.frozen with
  | some _ => cnt s R.JNL_MISSED
  | none => jnlAppend { serial := 0, msi := msi, src := srcCode src, kind := kind, addr := addr % 2 ^ 24,
                        value := value % 2 ^ 32 } s

/-- Record a register write (KIND 0). -/
def journalReg (via : Src) (off : Nat) (v : Word) (s : State) : State := journal via 0 off v.toNat s.msi s

/-! ### The error engine -/

/-- Severity of an entry as a number. -/
def entSev (e : ErrEntry) : Nat := sevNum (errSev e.err)

/-- The safe state a FATAL brings (R411): a unit of a pair is YIELDED and sends no further claim frame, a change of role that the
frozen journal only counts (R416, R417), and every DAC channel that is not OFF shows FAULT at once, out of LPZ (R347, R350).  The
rest of R411 follows from the engine's fatal flag, which the units concerned test. -/
def enterSafeState (s : State) : State :=
  let s := if getF s F.CLM_STATE_ROLE = 0 then s
    else journal .device 5 4 0 (16 * blk s) (setF (setF s F.CLM_STATE_ROLE 4) F.CLM_STATE_WORD 0)
  forNat 32 (fun n s =>
    if getF s (F.DAC_CSTATE_STATE n) = 0 then s
    else setBit (setF (setF s (F.DAC_CSTATE_STATE n) 6) (F.DAC_CSTATE_LPZ n) 0) F.DAC_STAT_FAULT_CODE) s

/-- What presenting an entry does beside making it current (R408, R411, R417). -/
def onPresent (e : ErrEntry) (s : State) : State :=
  if errSev e.err = .fatal then
    let s := setBit s F.ERR_STAT_FATAL
    let s := if getF s F.ERR_FATAL_CODE = 0 then setF s F.ERR_FATAL_CODE (errCode e.err) else s
    let s := { s with err := { s.err with fatal := true, stack := s.err.stack.map (fun x => { x with superseded := true }) } }
    enterSafeState (jnlFreezeNow .byFatal s)
  else if getF s F.JNL_CFG_FRZ_SEV ≤ entSev e && s.jnl.frozen.isNone && s.jnl.post.isNone then
    let n := getF s F.JNL_CFG_POST
    if n = 0 then jnlFreezeNow .byError s else { s with jnl := { s.jnl with post := some n } }
  else s

/-- Make an entry current by presentation. -/
def present (e : ErrEntry) (s : State) : State :=
  onPresent e { s with err := { s.err with current := some e, resumed := false } }

/-- Append an entry to the FIFO, which accepts it only while fewer than 32 are queued (R409). -/
def fifoAppend (e : ErrEntry) (s : State) : State :=
  if s.err.fifo.length < 32 then { s with err := { s.err with fifo := s.err.fifo ++ [e] } }
  else cnt (setBit s F.ERR_STAT_OVF) R.ERR_LOST

/-- An arrival, handled by the first row of R408 that applies.  The flag says whether the FIFO dropped it. -/
def arrive (e : ErrEntry) (s : State) : State × Bool :=
  match s.err.current with
  | none => (present e s, false)
  | some c =>
    if errCode c.err = errCode e.err then
      ({ s with err := { s.err with current := some { c with count := min (c.count + 1) 65535 } } }, false)
    else if errSev e.err = .fatal && errSev c.err = .fatal then
      (if getF s F.ERR_FATAL2_CODE = 0 then setF s F.ERR_FATAL2_CODE (errCode e.err) else s, false)
    else if entSev c < entSev e then
      (present e { s with err := { s.err with stack := c :: s.err.stack } }, false)
    else (fifoAppend e s, decide (32 ≤ s.err.fifo.length))

/-- An arrival and, where the FIFO dropped it, the arrival of ERR_OVF, whose own drop raises no further one (R409).
A masked ERR_OVF sets its bit and is not presented. -/
def arriveOvf (e : ErrEntry) (s : State) : State :=
  match arrive e s with
  | (s, false) => s
  | (s, true) =>
    if getF s F.ERR_MASK_OVF = 1 then s
    else (arrive { err := .errOvf, src := 0, msi := s.msi, count := 1, superseded := false } s).1

/-- The mask bit in the position of a status bit: the *_MASK register lies four bytes after its *_STAT (R505). -/
def maskOf (f : Fld) : Fld := { f with off := f.off + 4 }

/-- Raise an error with a source index (R406, R505): its tied bit is set; unless that bit is masked, or the error is
FATAL, it is then presented or queued. -/
def raise (e : Err) (src : Nat) (s : State) : State :=
  let ent : ErrEntry := { err := e, src := src % 2 ^ 16, msi := s.msi, count := 1, superseded := false }
  match errTie e src with
  | none => arriveOvf ent s
  | some f =>
    let i := if f.hi = f.lo then 0 else src
    let s := setBit s f i
    let m := maskOf f
    if getF s ⟨m.off, f.lo + i, f.lo + i⟩ = 1 && errSev e != .fatal then s else arriveOvf ent s

/-- The NOTICE of an ignored write (R405). -/
def writeIgnored (s : State) : State := raise .errWriteIgnored 0 s

/-- The oldest entry of the highest severity, and the list without it. -/
def bestOf : List ErrEntry → Option (ErrEntry × List ErrEntry)
  | [] => none
  | e :: t =>
    match bestOf t with
    | none => some (e, t)
    | some (b, t') => if entSev e < entSev b then some (b, e :: t') else some (e, t)

/-- Choose the next entry once the current one is acknowledged (R409), by recursion on the stack. -/
def chooseNext : List ErrEntry → State → State
  | [], s =>
    match bestOf s.err.fifo with
    | none => { s with err := { s.err with current := none, resumed := false, stack := [] } }
    | some (b, t) => present b { s with err := { s.err with fifo := t, stack := [] } }
  | top :: rest, s =>
    let resume := fun (s : State) =>
      if top.superseded then chooseNext rest (cnt s R.ERR_SUPER_CNT)
      else { s with err := { s.err with current := some top, resumed := true, stack := rest } }
    match bestOf s.err.fifo with
    | none => resume s
    | some (b, t) =>
      if entSev top < entSev b then present b { s with err := { s.err with fifo := t, stack := top :: rest } }
      else resume s

/-- Acknowledge the current entry; a FATAL entry is never acknowledged (R407). -/
def acknowledge (s : State) : State :=
  match s.err.current with
  | none => s
  | some c => if errSev c.err = .fatal then s else chooseNext s.err.stack s

/-- The device acknowledges an entry covered by AUTO_SEV at the first strobe after it became current (R407). -/
def autoAck (s : State) : State :=
  match s.err.current with
  | none => s
  | some c => if entSev c < getF s F.ERR_CFG_AUTO_SEV then acknowledge s else s

/-- Does an entry report one of the status bits that a W1C write to a register clears? -/
def tiedTo (off : Nat) (cleared : Word) (e : ErrEntry) : Bool :=
  match errTie e.err e.src with
  | none => false
  | some f =>
    let i := if f.hi = f.lo then f.lo else f.lo + e.src
    f.off == off && bit cleared.toNat i

/-- A W1C write (R20, R409): the written ones clear their bits, and stacked entries that report them are superseded.
ERR_STAT.FATAL stays until reset. -/
def w1cClear (off : Nat) (v : Word) (s : State) : State :=
  match regRow off with
  | none => s
  | some r =>
    let v := v &&& BitVec.ofNat 32 r.w1c
    let v := if off = R.ERR_STAT then v &&& 0xFFFFFFF7#32 else v
    let s := wr s off (rd s off &&& ~~~ v)
    { s with err := { s.err with stack := s.err.stack.map (fun e =>
        if tiedTo off v e then { e with superseded := true } else e) } }

/-- The severity above which an entry drives FAULT_N or the interrupt. -/
def entAtLeast (n : Nat) : Option ErrEntry → Bool
  | none => false
  | some e => n ≤ entSev e

/-- FAULT_N is driven low (R410). -/
def faultNLow (s : State) : Bool :=
  entAtLeast (getF s F.ERR_CFG_PIN_SEV) s.err.current ||
  s.err.stack.any (fun e => !e.superseded && getF s F.ERR_CFG_PIN_SEV ≤ entSev e) ||
  s.err.fatal || s.err.startupHold

/-- One summary bit: the block's STAT has a bit set that its MASK does not mask (R20). -/
def sumBit (s : State) (stat : Nat) : Nat :=
  if rd s stat &&& ~~~ rd s (stat + 4) = 0 then 0 else 1

/-- The *_STAT registers in the order of ERR_SUM's bits. -/
def sumStats : List Nat :=
  [R.SYS_STAT, R.ERR_STAT, R.PAT_STAT, R.SEQ_STAT, R.TSU_STAT, R.MTX_STAT, R.BST_STAT, R.CLM_STAT, R.FLK_STAT,
   R.HIER_STAT, R.OBJ_STAT, R.GEO_STAT, R.RND_STAT, R.SPK_STAT, R.RTE_STAT, R.NET_STAT 0, R.NET_STAT 1,
   R.NET_STAT 2, R.NET_STAT 3, R.STR_STAT, R.APD_STAT, R.PDM_STAT, R.CAP_STAT, R.DAC_STAT, R.NVM_STAT, R.CC_STAT]

/-- ERR_SUM: bit i for the i-th block; a set FATAL bit cannot be masked. -/
def errSum (s : State) : Nat :=
  let b := (sumStats.foldr (fun o a => 2 * a + sumBit s o) 0)
  if getF s F.ERR_STAT_FATAL = 1 && !bit b 1 then b + 2 else b

/-- The error interrupt is asserted (R410). -/
def errIrq (s : State) : Bool :=
  errSum s != 0 || entAtLeast (getF s F.ERR_CFG_IRQ_SEV) s.err.current

/-- ERR_CUR as read. -/
def errCurWord (s : State) : Nat :=
  match s.err.current with
  | none => s.err.fifo.length * 2 ^ 22 + s.err.stack.length * 2 ^ 20
  | some e => 2 ^ 31 + b2n s.err.resumed * 2 ^ 30 + entSev e * 2 ^ 28 + s.err.fifo.length * 2 ^ 22 +
      s.err.stack.length * 2 ^ 20 + errCode e.err

/-- ERR_CUR_SRC as read. -/
def errCurSrcWord (s : State) : Nat :=
  match s.err.current with
  | none => 0
  | some e => e.count * 2 ^ 16 + e.src

/-- The counted MSI at detection of the current entry; 0 with none. -/
def errCurMsi (s : State) : Nat :=
  match s.err.current with
  | none => 0
  | some e => e.msi

/-- Latch the entry of a serial number into JNL_E0 to JNL_E3; SRC 15 where it is overwritten or not yet written (R417). -/
def jnlSelect (serial : Nat) (s : State) : State :=
  match s.jnl.entries.find? (fun e => e.serial == serial) with
  | some e => wrN (wrN (wr64 s R.JNL_E0 R.JNL_E1 e.msi) R.JNL_E2 (e.src * 2 ^ 28 + e.kind * 2 ^ 24 + e.addr)) R.JNL_E3 e.value
  | none => wrN (wrN (wr64 s R.JNL_E0 R.JNL_E1 0) R.JNL_E2 0xF0000000) R.JNL_E3 0

/-- The meaning of a write to ERR_ACK (R407). -/
def execErrAckWrite (code : BitVec 32) (s : State) : Out :=
  .next (match s.err.current with
    | none => writeIgnored s
    | some c =>
      if errCode c.err = code.toNat % 2 ^ 16 && errSev c.err != .fatal then acknowledge s else writeIgnored s)

/-- A read of ERR_CUR_MSI_LO returns the low word and latches the high word (R407). -/
def execErrMsiLoRead (s : State) : Out :=
  .next { latch s R.ERR_CUR_MSI_HI (errCurMsi s / 2 ^ 32) with rdata := BitVec.ofNat 32 (errCurMsi s) }

/-- Journal frozen by a write (R417): the entry that records the write is the last. -/
def execJnlFreeze (via : Src) (s : State) : Out :=
  let s := journalReg via R.JNL_CTL 1 s
  .next (match s.jnl.frozen with
    | some .byFatal => s
    | _ => jnlFreezeNow .byWrite s)

/-- A write of FREEZE = 0 ends any freeze but a FATAL one, and is the first entry after it (R417); one that an error has yet to
bring still comes. -/
def execJnlResume (via : Src) (s : State) : Out :=
  .next (match s.jnl.frozen with
    | some .byFatal => journalReg via R.JNL_CTL 0 s
    | _ => journalReg via R.JNL_CTL 0
        { s with jnl := { s.jnl with frozen := none } })

/-- A write of JNL_SEL latches the named entry (R417). -/
def execJnlSelWrite (via : Src) (serial : BitVec 32) (s : State) : Out :=
  .next (jnlSelect serial.toNat (wr (journalReg via R.JNL_SEL serial s) R.JNL_SEL serial))

/-- A freeze other than a FATAL freeze ends by itself after FRZ_MAX seconds (R417). -/
def execJnlFreezeTimeout (s : State) : Out :=
  .next (match s.jnl.frozen with
    | none => s
    | some .byFatal => s
    | some _ =>
      if s.jnl.since + getF s F.JNL_CFG_FRZ_MAX * fsInt s ≤ s.msi + 16 then
        { s with jnl := { s.jnl with frozen := none } }
      else s)

/-- A W1C write of a status register (R20). -/
def execStatW1cWrite (off : BitVec 24) (v : Word) (s : State) : Out := .next (w1cClear off.toNat v s)

/-- Count correctable errors and watch the rate of one second (R37, R412). -/
def eccCorrectable (n : Nat) (s : State) : State :=
  let s := cntAdd s R.ERR_ECC_CORR_CNT n
  let was := s.err.eccCount
  let s := { s with err := { s.err with eccCount := was + n } }
  if was ≤ getF s F.ERR_CFG_ECC_LIM && getF s F.ERR_CFG_ECC_LIM < was + n then raise .errEccRate 0 s else s

/-- Move the one-second window of correctable errors by a number of frames. -/
def eccWindow (frames : Nat) (s : State) : State :=
  let t := s.err.eccFrames + frames
  if fsInt s ≤ t then { s with err := { s.err with eccCount := 0, eccFrames := t - fsInt s } }
  else { s with err := { s.err with eccFrames := t } }

/-- Record the address of an uncorrectable word and count it (R412). -/
def eccRecord (addr : Nat) (s : State) : State :=
  cnt (wrN (wrN s R.ERR_ECC_ADDR_LO addr) R.ERR_ECC_ADDR_HI (addr / 2 ^ 32 % 256)) R.ERR_ECC_UNC_CNT

/-- A mailbox whose core is reset or stops while BUSY is ABANDONED (R445, R452). -/
def mbAbandon (n : Nat) (s : State) : State :=
  if getF s (F.CC_MBSTAT_STATE n) = 1 then raise .ccMbAbandon n (setF s (F.CC_MBSTAT_STATE n) 2) else s

/-- A bus master is reset (R442): its queue is dropped and its burst completes masked; both lie outside the state, since a
transaction is one step.  M0 to M3 are the control cores. -/
def masterReset (m : Nat) (s : State) : State :=
  let s := raise .mtxAbort m (cnt s R.MTX_ABORT_CNT)
  if m < 4 then mbAbandon m s else s

/-- The tile of a seat, primary or fallback. -/
def seatTileOf (s : State) (fb : Bool) (q : Nat) : Option Nat :=
  if fb then (if getF s (F.SEQ_FSEAT_VALID q) = 1 then some (getF s (F.SEQ_FSEAT_TILE q)) else none)
  else (if getF s (F.SEQ_SEAT_VALID q) = 1 then some (getF s (F.SEQ_SEAT_TILE q)) else none)

end Sys2Proof.Machine
end

