-- ==== Sys2Proof/Machine/Mirror.lean ====
section
/-! DEFINITION. Sending over the Flask link and the active unit's side of mirroring (spec/16_redundant_pair.md R370, R371,
R373). -/

namespace Sys2Proof.Machine

/-- TYPE of a payload (R368). -/
def flkType : FlkPayload → Nat
  | .hello .. => 0x01
  | .heartbeat _ => 0x02
  | .silence _ _ => 0x03
  | .mirror _ => 0x10
  | .commit _ _ => 0x11
  | .confirm _ => 0x12
  | .discard _ => 0x13
  | .snapReq => 0x20
  | .snapData _ => 0x21
  | .snapEnd _ => 0x22
  | .snapAbort => 0x23

/-- MAGIC of every Flask frame, the bytes "FK" (R367). -/
def flkMagic : Nat := 0x4B46

/-- A received frame passes the receiver's checks: MAGIC, a known TYPE, zeros in its reserved bytes, its CRC (R367). -/
def frameOk (f : FlkFrame) : Bool :=
  f.magic == flkMagic && f.type == flkType f.payload && f.reserved == 0 && f.crcOk

/-- The lanes that are up (R366). -/
def lanesUp (s : State) : List Nat :=
  (if getF s F.FLK_STATE_LANE0 = 1 then [0] else []) ++ (if getF s F.FLK_STATE_LANE1 = 1 then [1] else [])

/-- A heartbeat and a HELLO go on both lanes (R366). -/
def bothLanes : FlkPayload → Bool
  | .hello .. => true
  | .heartbeat _ => true
  | _ => false

/-- Send a Flask frame on a lane that is up, with the next LSEQ; with both lanes down nothing is sent (R366, R367).  Which of
two free lanes a frame takes is finer than the model's clock (log 270). -/
def flkSend (x : FlkPayload) (s : State) : State :=
  if (lanesUp s).isEmpty then s
  else
    let n := (s.flk.txLseq + 1) % 2 ^ 32
    { s with flk := { s.flk with txLseq := n, sent := s.flk.sent ++ [⟨lanesUp s, bothLanes x, flkType x, n, blk s, x⟩] } }

/-- FLK_STATE.LINK is UP. -/
def flkUp (s : State) : Bool := getF s F.FLK_STATE_LINK == 1

/-- Count work that a link not UP leaves unprotected (R373). -/
def countUnprot (s : State) : State := cnt s R.FLK_UNPROT_CNT

/-- The next ITEM_ID. -/
def takeItemId (s : State) : Nat × State := (s.flk.nextItem, { s with flk := { s.flk with nextItem := s.flk.nextItem + 1 } })

/-- Give an item an ITEM_ID and send it (R371): it awaits its decision. -/
def mirrorSend (it : Item) (deadline : Option Nat) (s : State) : Nat × State :=
  let (id, s) := takeItemId s
  let s := { s with flk := { s.flk with undecided := s.flk.undecided ++ [⟨id, it, deadline⟩] } }
  (id, if flkUp s then flkSend (.mirror [(id, it)]) (cnt s R.FLK_MIR_CNT) else s)

/-- Mirror a command with a deadline.  True: it awaits its decision; under STRICT with a link that is not UP that is its
refusal at the deadline.  False: it acts at this unit alone (a lone unit, or RELAXED with a link that is not UP). -/
def mirrorCommand (it : Item) (deadline : Nat) (s : State) : Bool × State :=
  if !isActive s then (false, s)
  else if flkUp s ∨ getF s F.FLK_CFG_PROTECT = 0 then (true, (mirrorSend it (some deadline) s).2)
  else (false, setBit (countUnprot s) F.FLK_STAT_UNPROT)

/-- Mirror an untimed item.  True: it applies at the block that CONFIRM names.  False: it applies here, at the next
boundary. -/
def mirrorUntimed (it : Item) (s : State) : Bool × State :=
  if !isActive s then (false, s)
  else if flkUp s then (true, (mirrorSend it none s).2)
  else (false, countUnprot s)

/-- Send every undecided item again, once per block (R371). -/
def mirrorResend (s : State) : State :=
  if flkUp s && !s.flk.undecided.isEmpty && isActive s then
    flkSend (.mirror (s.flk.undecided.map (fun i => (i.id, i.item)))) s
  else s

/-- Remove an undecided item. -/
def dropItem (id : Nat) (s : State) : State :=
  { s with flk := { s.flk with undecided := s.flk.undecided.filter (fun i => i.id != id),
                               highItem := max s.flk.highItem id } }

/-- Tell the standby that an item is accepted; an untimed one with its block of application, else 0. -/
def flkConfirm (id block : Nat) (s : State) : State :=
  flkSend (.confirm [(id, block)]) { s with flk := { s.flk with lastConfirm := s.flk.lastConfirm ++ [(id, block)] } }

/-- Tell the standby that an item is refused after its commit. -/
def flkDiscard (id : Nat) (s : State) : State :=
  flkSend (.discard [id]) { s with flk := { s.flk with lastDiscard := s.flk.lastDiscard ++ [id] } }

/-- The enable of a transmit context is preceded by its sequence counter, which takes effect as the enable does (R302, R370); the
counter of a context that has yet to stop counts on at both units. -/
def seqAhead (it : Item) (s : State) : State :=
  match it with
  | .regWrite off v =>
    if 0x720000 ≤ off ∧ off < 0x730000 ∧ (off - 0x720000) % 256 = 0 ∧ bit v 31 then
      let t := (off - 0x720000) / 256
      (mirrorSend (.strSeq t (getF s (F.STR_TX_SEQ_SEQ t)) (getF s (F.STR_TX_STATE_STATE t) == 1)) none s).2
    else s
  | _ => s

/-- Mirror a register write (R371, R373, R504).  True: it waits for the block that CONFIRM names, or, with a link that is not
UP, for the next boundary.  False: it applies at once, at a unit that is not the active unit of a pair. -/
def mirrorWrite (it : Item) (s : State) : Bool × State :=
  if !isActive s then (false, s)
  else if flkUp s then (true, (mirrorSend it none (seqAhead it s)).2)
  else
    let (id, s) := takeItemId (countUnprot s)
    (true, { s with flk := { s.flk with held := s.flk.held ++ [⟨id, it, true, some (blk s + 1)⟩] } })

/-- The value a write of a register still on its way will leave there: the last one that awaits its decision or its block. -/
def pendingWrite (s : State) (off : Nat) : Option Nat :=
  ((s.flk.held.map (fun p => p.item)) ++ (s.flk.undecided.map (fun i => i.item))).foldl (fun a it => match it with
    | .regWrite o v => if o = off then some v else a
    | _ => a) none

/-- The write changes a field of its register (R504), as the writes before it will leave it. -/
def writeChanges (off : Nat) (v : Word) (s : State) : Bool :=
  match regRow off with
  | none => false
  | some r => (BitVec.ofNat 32 ((pendingWrite s off).getD (rdN s off)) ^^^ v) &&& BitVec.ofNat 32 (r.rw ||| r.rwl) != 0

/-- A write of a render-state register (R503, R504): recorded, ignored at a unit that cannot take it, mirrored by an active
unit, and otherwise applied.  One that changes no field is no render-state write. -/
def renderWrite (apply : State → State) (via : Src) (off : Nat) (v : Word) (s : State) : State :=
  let s := journalReg via off v s
  if !writeChanges off v s then apply s
  else if isPassive s then writeIgnored s
  else
    let (wait, s) := mirrorWrite (.regWrite off v.toNat) s
    if wait then s else apply s

end Sys2Proof.Machine
end

