-- ==== Sys2Proof/Machine/Numeric.lean ====
section
/-! DEFINITION. Exact arithmetic behind the manual's roots, trigonometric and exponential values: integer square roots and
series in units of 2^-120, rounded once at the end ("correctly rounded", spec/06_geometry.md and
spec/08_speaker_processing.md).  Each is a structural recursion on its number of terms or bits. -/

namespace Sys2Proof

/-- The integer square root's bits from 2^k down, on top of a root r already found. -/
def isqrtFrom (n : Nat) : Nat → Nat → Nat
  | 0, r => if (r + 1) * (r + 1) ≤ n then r + 1 else r
  | k + 1, r =>
    let r' := r + 2 ^ (k + 1)
    isqrtFrom n k (if r' * r' ≤ n then r' else r)

/-- The largest r with r^2 ≤ n. -/
def isqrt (n : Nat) : Nat := isqrtFrom n (Nat.log2 n / 2) 0

/-- RN of the root of num/den: nearest, halves away from zero. -/
def rnSqrt (num den : Nat) : Nat := (isqrt (4 * num / den) + 1) / 2

/-- The unit of the series: 2^120. -/
def fixOne : Int := 2 ^ 120

/-- pi in units of 2^-120. -/
def piFix : Int := 4175892906503776358826876457663557747

/-- ln 2 in units of 2^-120. -/
def ln2Fix : Int := 921350637599661305226344307672478455

/-- ln 10 in units of 2^-120. -/
def ln10Fix : Int := 3060660568284699479708353448060341289

/-- Product of two values in units of 2^-120. -/
def fixMul (a b : Int) : Int := a * b / fixOne

/-- Sum of the terms t, -t x2/((k+1)(k+2)), ... of an alternating series, with n terms left. -/
def altSeries (x2 : Int) : Nat → Nat → Int → Int
  | 0, _, _ => 0
  | n + 1, k, t => t + altSeries x2 n (k + 2) (-(fixMul t x2) / ((k + 1) * (k + 2)))

/-- cos x, x in units of 2^-120 and at most 2 pi in magnitude. -/
def cosFix (x : Int) : Int := altSeries (fixMul x x) 48 0 fixOne

/-- sin x. -/
def sinFix (x : Int) : Int := altSeries (fixMul x x) 48 1 x

/-- Sum of the terms t, t x/(k+1), ... of the exponential series, with n terms left. -/
def expSeries (x : Int) : Nat → Nat → Int → Int
  | 0, _, _ => 0
  | n + 1, k, t => t + expSeries x n (k + 1) (fixMul t x / (k + 1))

/-- exp x for |x| at most about 16, x in units of 2^-120: the series at x/16, then four squarings. -/
def expFix (x : Int) : Int :=
  let e := expSeries (x / 16) 40 0 fixOne
  let e2 := fixMul e e
  let e4 := fixMul e2 e2
  let e8 := fixMul e4 e4
  fixMul e8 e8

/-- Sum of the terms y^k/k, y^(k+2)/(k+2), ... of the inverse hyperbolic tangent's series, with n terms left and p = y^k. -/
def atanhSeries (y2 : Int) : Nat → Nat → Int → Int
  | 0, _, _ => 0
  | n + 1, k, p => p / (k : Int) + atanhSeries y2 n (k + 2) (fixMul p y2)

/-- ln (a/b) for a at least b, both positive: the power of two apart, then twice the series of (m - 1)/(m + 1). -/
def lnFix (a b : Nat) : Int :=
  let k := Nat.log2 (a / b)
  let y : Int := fixOne * ((a : Int) - b * 2 ^ k) / ((a : Int) + b * 2 ^ k)
  k * ln2Fix + 2 * atanhSeries (fixMul y y) 44 1 y

/-- An angle of num/den of pi. -/
def piFrac (num den : Nat) : Int := piFix * num / den

/-- RN of a value in units of 2^-120 to units of 2^-k. -/
def fixTo (k : Nat) (x : Int) : Int := rn x (2 ^ (120 - k))

end Sys2Proof
end

