-- ==== Sys2Proof/Machine/Runner.lean ====
section
/-! DEFINITION. Runner tables: the encoding of a step, its cost, the expansion of loops, the DRAM calendar, and the checks
of a schedule proof (spec/04_runner_table.md R95 to R103, R110, R111; spec/07_render_datapath.md R161, R170, R171). -/

namespace Sys2Proof.Machine

/-! ### Steps -/

/-- A step of the general layout, or a DRAM access (R95, R98). -/
inductive RStep where
  | op (opc cnt mode a b c d : Nat) (sg : Bool)
  | dram (write ixr ixd : Bool) (cnt row daddr loc off : Nat)
deriving DecidableEq, Repr

/-- Is a compute operand in tile memory: space 0 or 2, word address below 524,288 (R96)? -/
def tileAddr (a : Nat) : Bool := (bits a 23 22 == 0 || bits a 23 22 == 2) && bits a 21 0 < 524288

/-- Is an operand in pool SRAM: space 1 or 3? -/
def poolAddr (a : Nat) : Bool := bits a 23 22 == 1 || bits a 23 22 == 3

/-- Are the fields of a step of the general layout within the ranges R97 gives its opcode?  D of a MAC or RAMP step without SG
is zero (log 268). -/
def opFieldsOk (opc cnt mode a b c d : Nat) (sg : Bool) : Bool :=
  let z := fun (x : Nat) => x == 0
  let t := tileAddr
  match opc with
  | 0x00 => 1 ≤ cnt && z mode && z a && z b && z c && z d && !sg
  | 0x01 => z cnt && z mode && z a && z b && z c && z d && !sg
  | 0x02 => 1 ≤ cnt && mode ≤ 1 && a < 32768 && b < 2 ^ 22 && d < 32768 && !sg
  | 0x03 => z cnt && z mode && a < 2 ^ 20 && z b && z c && z d && !sg
  | 0x08 => 1 ≤ cnt && mode < 16 && bits mode 3 2 ≤ 2 && t a && t b && t c && (if sg then d < 3072 else z d)
  | 0x09 => 1 ≤ cnt && cnt ≤ 16 && z mode && t a && t b && t c && t d && !sg
  | 0x0A => 1 ≤ cnt && cnt ≤ 32 && z mode && t a && t b && t c && (if sg then d < 3072 else z d)
  | 0x0B => 1 ≤ cnt && mode ≤ 1 && t a && t b && t c && z d && !sg
  | 0x0C => 1 ≤ cnt && mode < 32 && 5 ≤ bits mode 3 0 && bits mode 3 0 ≤ 13 && t a && z b && z c && d < 2 ^ 22 &&
      d + cnt ≤ 2 ^ (bits mode 3 0 - 1) * bits mode 3 0 && !sg
  | 0x0D => 1 ≤ cnt && z mode && t a && t b && t c && z d && !sg
  | 0x0E => 1 ≤ cnt && z mode && t a && t b && t c && t d && !sg
  | 0x0F => 1 ≤ cnt && z mode && t a && t b && t c && z d && !sg
  | 0x12 => 1 ≤ cnt && z mode && poolAddr a && z b && t c && z d && !sg
  | 0x13 => 1 ≤ cnt && z mode && t a && z b && poolAddr c && z d && !sg
  | _ => false

/-- Decode one 128-bit step; none where its encoding is invalid (R95, R98). -/
def decodeStep (rows w : Nat) : Option RStep :=
  let opc := bits w 127 122
  if opc = 0x10 ∨ opc = 0x11 then
    let cnt := bits w 119 104
    let off := bits w 7 0
    let row := bits w 95 81
    if bits w 121 120 = 0 ∧ bits w 103 98 = 0 ∧ bits w 51 48 = 0 ∧ bits w 23 8 = 0 ∧ 1 ≤ cnt ∧ off + cnt ≤ 256 ∧
        row < rows ∧ tileAddr (bits w 47 24) then
      some (.dram (opc == 0x11) (bit w 97) (bit w 96) cnt row (bits w 80 52) (bits w 47 24) off)
    else none
  else if bit w 121 then none
  else
    let cnt := bits w 119 104
    let mode := bits w 103 96
    let a := bits w 95 72
    let b := bits w 71 48
    let c := bits w 47 24
    let d := bits w 23 0
    let sg := bit w 120
    if opFieldsOk opc cnt mode a b c d sg then some (.op opc cnt mode a b c d sg) else none

/-- Calendar rows in a block (R101). -/
def calRows (rate96 : Bool) : Nat := if rate96 then 12500 else 25000

/-- The steps that a runner bank holds, up to and with END: none from a word on that is no step. -/
def bankFrom (s : State) (rows base : Nat) : Nat → Nat → List Nat
  | 0, _ => []
  | n + 1, i =>
    let w := leNat (rdBytes s (base + 16 * i) 16)
    match decodeStep rows w with
    | none => []
    | some (.op 0x01 ..) => [w]
    | some _ => w :: bankFrom s rows base n (i + 1)

/-- The steps of a tile's runner bank (R93). -/
def bankSteps (s : State) (t b : Nat) : List Nat := bankFrom s (calRows (rate96 s)) (bankBase t b) 32768 0

/-! ### Loops -/

/-- An enclosing loop level: the index and the strides it gives (R96, R100). -/
structure Level where
  idx : Nat
  stride : Nat
  dstride : Nat
  rstride : Nat
deriving DecidableEq, Repr

/-- The displacement of an indexed tile or pool operand. -/
def idxDisp (ls : List Level) : Nat := ls.foldl (fun a l => a + l.idx * l.stride) 0

/-- An operand address after indexing: its space code without the index bit, and its word. -/
def indexed (ls : List Level) (a : Nat) : Nat × Nat :=
  let sp := bits a 23 22
  if sp = 0 then (0, bits a 21 0)
  else if sp = 1 then (1, bits a 21 0)
  else (sp - 2, bits a 21 0 + idxDisp ls)

/-! ### Calendar and costs -/

/-- The deadline of R28 in tile cycles. -/
def deadlineOf (rate96 : Bool) : Nat := if rate96 then 266613 else 533226

/-- Tile cycle at which a row begins (R101). -/
def rowCycle (r : Nat) : Nat := 2 * (85 * r / 8)

/-- The cycle by which an access of a row is issued (R103); negative for the first rows. -/
def issueLimit (r : Nat) : Int := (rowCycle r : Int) - 64

/-- The cycle at which a read of a row is in tile memory (R103). -/
def readyCycle (r : Nat) : Nat := rowCycle r + 192

/-- A quotient rounded up. -/
def ceilDiv (a b : Nat) : Nat := (a + b - 1) / b

/-- Cycles from the start of a step to the start of the next (R97, R99), for a step that starts at cycle s on seat q within
loop levels: the pool address of the first word moved is the indexed one. -/
def stepCost (q s : Nat) (ls : List Level) : RStep → Nat
  | .dram false .. => 1
  | .dram true _ _ cnt .. => ceilDiv cnt 16 + 1
  | .op opc cnt _ a _ c _ _ =>
    let wait := fun (base : Nat) => ((((indexed ls base).2 : Int) - s - q) % 16).toNat
    match opc with
    | 0x00 => cnt
    | 0x03 => max (s + 1) (bits a 19 0) - s
    | 0x08 => ceilDiv cnt 16 + 6
    | 0x09 => 80 * cnt + 10
    | 0x0A => cnt + 6
    | 0x0B => ceilDiv cnt 4 + 6
    | 0x0C => ceilDiv cnt 2 + 12
    | 0x0D => cnt + 8
    | 0x0E => 40 * ceilDiv cnt 16 + 8
    | 0x0F => ceilDiv cnt 16 + 4
    | 0x12 => cnt + 8 + wait a
    | 0x13 => cnt + 8 + wait c
    | _ => 1

/-! ### Expansion -/

/-- A step with its position and the loop levels that enclose it. -/
structure ExecStep where
  pos : Nat
  step : RStep
  levels : List Level
deriving DecidableEq, Repr

/-- The steps from position lo to before lo + n, expanded with loops nested at most `depth` deep, for a block index
(R100): an ordinary loop runs CNT times, a phase loop once with its phase as index; with no block given, once for every
phase. -/
def expand (steps : List RStep) (block : Option Nat) : Nat → Nat → Nat → List Level → List ExecStep
  | 0, _, _, _ => []
  | d + 1, lo, n, ls =>
    ((List.range n).foldl (fun (acc : List (List ExecStep) × Nat) i =>
      if 0 < acc.2 then (acc.1, acc.2 - 1)
      else match steps[lo + i]? with
        | none => acc
        | some st =>
          let me : ExecStep := ⟨lo + i, st, ls⟩
          match st with
          | .op 0x02 cnt mode a b c dd _ =>
            let body := fun (k : Nat) => expand steps block d (lo + i + 1) a (⟨k, b, c, dd⟩ :: ls)
            let runs := match mode, block with
              | 1, some b => body (b % cnt)
              | _, _ => ((List.range cnt).map body).flatten
            (runs :: [me] :: acc.1, a)
          | _ => ([me] :: acc.1, 0)) ([], 0)).1.reverse.flatten

/-- A timed step. -/
structure Timed where
  ex : ExecStep
  start : Nat
deriving DecidableEq, Repr

/-- Give each expanded step its start cycle on a seat. -/
def timeSteps (q : Nat) : Nat → List ExecStep → List Timed
  | _, [] => []
  | s, e :: es => ⟨e, s⟩ :: timeSteps q (s + stepCost q s e.levels e.step) es

/-- The block run of a table on a seat: every executed step with its start cycle (R94). -/
def runTable (steps : List RStep) (q block : Nat) : List Timed :=
  timeSteps q 0 (expand steps (some block) 5 0 steps.length [])

/-- The cycle at which END starts in a run; none where no END is reached. -/
def endOf (run : List Timed) : Option Nat :=
  (run.find? (fun t => match t.ex.step with
    | .op 0x01 .. => true
    | _ => false)).map (fun t => t.start)

/-! ### Static rules -/

/-- The body length of a LOOP step; none for another step. -/
def loopBody : RStep → Option Nat
  | .op 0x02 _ _ a _ _ _ _ => some a
  | _ => none

/-- END or AT. -/
def isEndOrAt : RStep → Bool
  | .op opc .. => opc == 0x01 || opc == 0x03
  | _ => false

/-- How many loops enclose a position. -/
def loopDepth (steps : List RStep) (i : Nat) : Nat :=
  ((List.range i).filter (fun j => match (steps[j]?).bind loopBody with
    | some n => i ≤ j + n
    | none => false)).length

/-- The loop rules of R100 for a step. -/
def loopOk (steps : List RStep) (i : Nat) : Bool :=
  match (steps[i]?).bind loopBody with
  | none => true
  | some n =>
    i + n < steps.length && loopDepth steps i < 4 &&
    (List.range n).all (fun k =>
      let j := i + 1 + k
      match steps[j]? with
      | none => false
      | some st => !isEndOrAt st && (match loopBody st with
        | some m => j + m ≤ i + n
        | none => true))

/-- A step breaks the loop rules, or the rule that exactly one END stands, as the last step (R100, R104). -/
def stepOut (steps : List RStep) (i : Nat) : Bool :=
  let n := steps.length
  !loopOk steps i ||
    (match steps[i]? with
     | some (.op 0x01 ..) => i + 1 != n
     | _ => i + 1 == n)

/-! ### The walk's checks -/

/-- What a step reads or writes: space (0 tile, 1 pool), first word, words, and whether it writes. -/
structure Touch where
  space : Nat
  lo : Nat
  len : Nat
  write : Bool
deriving DecidableEq, Repr

/-- Words of a number of 36-bit values, two to a word (R16). -/
def halfWords (n : Nat) : Nat := (n + 1) / 2

/-- Words of a MAC step's result: one for DOT, else one per element in s16.55 and one for two in a 36-bit format. -/
def macWords (cnt mode : Nat) : Nat :=
  if bits mode 1 0 = 0 then 1 else if bits mode 3 2 = 0 then cnt else halfWords cnt

/-- The operands a step touches after indexing, over its whole element count (R96): samples, gains and other 36-bit values
two to a word, spectra one bin to a word, a RAMP tap eight words of samples and a record of three (R180, R181), a windowed
read 13 words (R171). -/
def touches (e : ExecStep) : List Touch :=
  let t := fun (a len : Nat) (w : Bool) => let p := indexed e.levels a; (⟨p.1, p.2, len, w⟩ : Touch)
  match e.step with
  | .dram w _ _ cnt _ _ loc _ => [t loc cnt (!w)]
  | .op opc cnt mode a b c d _ =>
    match opc with
    | 0x08 => [t a (halfWords cnt) false, t b (if bits mode 1 0 = 3 then 1 else halfWords cnt) false, t c (macWords cnt mode) true]
    | 0x09 => [t a 128 false, t b (48 * cnt) false, t c 128 true, t d (32 * cnt) true]
    | 0x0A => [t a (8 * cnt) false, t b (3 * cnt) false, t c (16 * 1344) true]
    | 0x0B => [t a cnt false, t b cnt false, t c cnt true]
    | 0x0C => [t a (2 ^ bits mode 3 0) true]
    | 0x0D => [t a 13 false, t b (halfWords cnt) false, t c (halfWords cnt) true]
    | 0x0E => [t a (8 * cnt) false, t b cnt false, t c (8 * cnt) true, t d (halfWords cnt) true]
    | 0x0F => [t a (halfWords cnt) false, t b 1 false, t c (halfWords cnt) true]
    | 0x12 => [t a cnt false, t c cnt true]
    | 0x13 => [t a cnt false, t c cnt true]
    | _ => []

/-- Words of a space. -/
def spaceWords (sp : Nat) : Nat := if sp = 0 then 524288 else 4194304

/-- A touched range lies inside its space, and a tile write outside the window table of R171. -/
def touchOk (t : Touch) : Bool :=
  t.lo + t.len ≤ spaceWords t.space && !(t.space == 0 && t.write && 0x7E000 < t.lo + t.len)

/-- Every step of a table in every phase: what the schedule can touch in any block. -/
def everyStep (steps : List RStep) : List ExecStep := expand steps none 5 0 steps.length []

/-- Two ranges of one space meet. -/
def rangesMeet (a b : Touch) : Bool := a.space == b.space && a.lo < b.lo + b.len && b.lo < a.lo + a.len

/-- A DRAM access as walked: issue cycle, row, first word and count in the row, DRAM address, direction, position. -/
structure Access where
  start : Nat
  row : Nat
  off : Nat
  cnt : Nat
  daddr : Nat
  write : Bool
  pos : Nat
  loc : Nat
deriving DecidableEq, Repr

/-- The DRAM accesses of a run, in order. -/
def accesses (run : List Timed) : List Access :=
  run.filterMap (fun t => match t.ex.step with
    | .dram w ixr ixd cnt row daddr loc off =>
      let r := if ixr then row + t.ex.levels.foldl (fun a l => a + l.idx * l.rstride) 0 else row
      let dd := if ixd then daddr + t.ex.levels.foldl (fun a l => a + l.idx * l.dstride) 0 else daddr
      some ⟨t.start, r, off, cnt, dd, w, t.ex.pos, (indexed t.ex.levels loc).2⟩
    | _ => none)

/-- The access as a claim (R110). -/
def claimOf (a : Access) : Claim := ⟨a.row, a.off, a.cnt, a.write, a.pos⟩

/-- Order of claims: ascending ROW, then OFF. -/
def claimLe (a b : Claim) : Bool := a.row < b.row || (a.row == b.row && a.off ≤ b.off)

/-- Claims in order. -/
def claimsSorted : List Claim → Bool
  | a :: b :: t => claimLe a b && claimsSorted (b :: t)
  | _ => true

/-- Two lists of claims hold the same claims the same number of times. -/
def sameClaims (a b : List Claim) : Bool :=
  a.length == b.length && a.all (fun c => a.count c == b.count c)

/-- A windowed read: a DRD whose address lies in the delay-line region, 2,048 lines of 32,768 words (R171). -/
def windowed (a : Access) : Bool := !a.write && a.daddr < 2 ^ 26

/-- R161 and R171 for one run: a line's write lies in an earlier row than its windowed reads; a windowed read has 13 words
and an entry below 8,192. -/
def linesOk (acc : List Access) : Bool :=
  acc.all (fun r => !windowed r || (r.cnt == 13 && r.daddr % 2 ^ 15 < 8192 &&
    acc.all (fun w => !(w.write && w.daddr < 2 ^ 26 && w.daddr / 2 ^ 15 == r.daddr / 2 ^ 15) || w.row < r.row)))

/-- A DRAM access lies inside the 29-bit address space (R93, R96). -/
def dramOk (a : Access) : Bool := windowed a || a.daddr + a.cnt ≤ 2 ^ 29

/-- R204 for one run: the aligned read of a line, nine words, lies in a later row than stage A's write to the same 4,096
words. -/
def alignOk (acc : List Access) : Bool :=
  acc.all (fun r => r.write || windowed r || r.cnt != 9 || acc.all (fun w =>
    !(w.write && w.cnt == 8 && 2 ^ 26 ≤ w.daddr && w.daddr / 4096 == r.daddr / 4096) || w.row < r.row))

/-- The pool words of a PRD step. -/
def poolRead (e : ExecStep) : Option Nat :=
  match e.step with
  | .op 0x12 _ _ a .. => some (indexed e.levels a).2
  | _ => none

/-- A step that only stage A has: it reads the partial sums or the counts (R183, R192, R212), transforms or multiplies spectra of the
room correction, or writes to DRAM outside the delay lines, which is the spectral history or the alignment line (R193, R199,
R204).  MAC and BIQ steps serve the object stages too. -/
def stageAStep (e : ExecStep) : Bool :=
  match e.step, poolRead e with
  | _, some w => (0x300000 ≤ w && w < 0x3A8000) || (0x3B0000 ≤ w && w < 0x3B0000 + 43008)
  | .op opc .., none => opc == 0x0B || opc == 0x0C
  | .dram w _ _ _ _ daddr .., none => w && 2 ^ 26 ≤ daddr

/-- A step of stage B: it reads the bass sends (R196), limits or converts. -/
def stageBStep (e : ExecStep) : Bool :=
  match e.step, poolRead e with
  | _, some w => 0x3A8000 ≤ w && w < 0x3B0000
  | .op opc .., none => opc == 0x0E || opc == 0x0F
  | _, none => false

/-- R191 for one run: no stage B step precedes a stage A step. -/
def stagesOk (run : List Timed) : Bool :=
  run.all (fun b => !stageBStep b.ex || run.all (fun a => !stageAStep a.ex || a.start ≤ b.start))

/-- R170 for one run: no windowed read is due, and no INTP or RAMP starts, before cycle 4,608. -/
def rampReady (run : List Timed) (acc : List Access) : Bool :=
  acc.all (fun a => !windowed a || 4608 ≤ issueLimit a.row) &&
  run.all (fun t => match t.ex.step with
    | .op opc .. => !(opc == 0x0D || opc == 0x0A) || 4608 ≤ t.start
    | _ => true)

/-- No step touches a read's destination between its issue and its ready time (R111). -/
def readsSafe (run : List Timed) (acc : List Access) : Bool :=
  acc.all (fun a => a.write || run.all (fun t =>
    !(a.start < t.start && t.start < readyCycle a.row) ||
      (touches t.ex).all (fun x => !rangesMeet x ⟨0, a.loc, a.cnt, true⟩)))

/-- The write queue never holds more than 4,096 words (R99, R111). -/
def queueOk (acc : List Access) : Bool :=
  acc.all (fun a => !a.write || (acc.filter (fun b => b.write && b.start ≤ a.start && a.start < rowCycle b.row)).foldl
    (fun n b => n + b.cnt) 0 ≤ 4096)

/-- MAC lane products of a step: one per element of MAC, 1,280 per band of BIQ, 16 per tap of RAMP, four per bin of CMUL.
The manual states no count for LIM and CVT: Config.macProducts. -/
def macProducts : RStep → Nat
  | .op 0x08 cnt .. => cnt
  | .op 0x09 cnt .. => 1280 * cnt
  | .op 0x0A cnt .. => 16 * cnt
  | .op 0x0B cnt .. => 4 * cnt
  | .op 0x0E cnt .. => Config.macProducts 0x0E cnt
  | .op 0x0F cnt .. => Config.macProducts 0x0F cnt
  | _ => 0

/-- Totals of a run: MAC products, interpolated samples, FFT cycles, pool words, DRAM words. -/
structure Totals where
  mac : Nat
  intp : Nat
  fft : Nat
  pool : Nat
  dram : Nat
deriving DecidableEq, Repr

/-- The sum of two totals. -/
def Totals.add (a b : Totals) : Totals :=
  ⟨a.mac + b.mac, a.intp + b.intp, a.fft + b.fft, a.pool + b.pool, a.dram + b.dram⟩

/-- The totals of a run. -/
def totalsOf (run : List Timed) : Totals :=
  run.foldl (fun a t => match t.ex.step with
    | .dram _ _ _ cnt .. => { a with dram := a.dram + cnt }
    | st@(.op opc cnt ..) =>
      let a := { a with mac := a.mac + macProducts st }
      if opc = 0x0D then { a with intp := a.intp + cnt }
      else if opc = 0x0C then { a with fft := a.fft + ceilDiv cnt 2 }
      else if opc = 0x12 ∨ opc = 0x13 then { a with pool := a.pool + cnt }
      else a) ⟨0, 0, 0, 0, 0⟩

/-- The head totals of a proof. -/
def headTotals (t : RunnerTab) : Totals := ⟨t.macElem, t.intpOut, t.fftCyc, t.poolWords, t.dramWords⟩

/-- The least common multiple of the periods of a table's phase loops. -/
def phasePeriod (steps : List RStep) : Nat :=
  steps.foldl (fun a st => match st with
    | .op 0x02 cnt 1 .. => Nat.lcm a cnt
    | _ => a) 1

/-- The steps of a table, decoded; an invalid one reads as END. -/
def decodeAll (rows : Nat) (t : RunnerTab) : List RStep :=
  t.steps.map (fun w => (decodeStep rows w).getD (.op 0x01 0 0 0 0 0 0 false))

/-- The checks of R111 that concern one table alone, for one phase: none, or the reason's name (true = CAPACITY, false =
REC_RANGE), in the order of R111's table. -/
def walkCheck (rate96 : Bool) (t : RunnerTab) (q block : Nat) : Option Bool :=
  let steps := decodeAll (calRows rate96) t
  let run := runTable steps q block
  let acc := accesses run
  if !(run.all (fun x => (touches x.ex).all touchOk) && acc.all dramOk) then some false
  else if endOf run != some t.endCycle || deadlineOf rate96 < t.endCycle then some true
  else if !(sameClaims (acc.map claimOf) t.claims && claimsSorted t.claims && acc.all (fun a => a.row < calRows rate96))
    then some false
  else if !(acc.all (fun a => (a.start : Int) ≤ issueLimit a.row)) then some true
  else if !(readsSafe run acc) then some false
  else if !(queueOk acc) then some true
  else if totalsOf run != headTotals t then some false
  else if !(linesOk acc && alignOk acc && stagesOk run) then some false
  else if !(rampReady run acc) then some true
  else none

/-- The seat number of a table index: S0 to S15, then F0 to F14. -/
def seatOfIndex (i : Nat) : Nat := if i < 16 then i else i - 16

/-- A table's own checks over every phase. -/
def tableCheck (rate96 : Bool) (i : Nat) (t : RunnerTab) : Option Bool :=
  let p := phasePeriod (decodeAll (calRows rate96) t)
  (List.range p).findSome? (walkCheck rate96 t (seatOfIndex i))

/-- Two claims of different seats overlap in a row. -/
def claimsMeet (a b : Claim) : Bool := a.row == b.row && a.off < b.off + b.cnt && b.off < a.off + a.cnt

/-- Pairs of different members of a list. -/
def pairsAny {α : Type} (p : α → α → Bool) : List α → Bool
  | [] => false
  | a :: t => t.any (p a) || pairsAny p t

/-- The pool words a table touches in a block. -/
def poolTouches (rate96 : Bool) (i block : Nat) (t : RunnerTab) : List Touch :=
  ((runTable (decodeAll (calRows rate96) t) (seatOfIndex i) block).map (fun x => touches x.ex)).flatten.filter
    (fun x => x.space == 1)

/-- Claims overlap between seats, or fall on a refresh row (R102, R111). -/
def setOverlap (ts : List (Nat × RunnerTab)) : Bool :=
  pairsAny (fun (a b : Nat × RunnerTab) => a.2.claims.any (fun c => b.2.claims.any (claimsMeet c))) ts ||
  ts.any (fun t => t.2.claims.any (fun c => c.row % 20 == 19))

/-- Distinct rows claimed by a set of tables. -/
def renderRows (ts : List (Nat × RunnerTab)) : Nat :=
  ((ts.map (fun t => t.2.claims.map (fun c => c.row))).flatten.eraseDups).length

/-- Two seats access the same pool word in a block with at least one write. -/
def poolClash (rate96 : Bool) (ts : List (Nat × RunnerTab)) : Bool :=
  let p := ts.foldl (fun a t => Nat.lcm a (phasePeriod (decodeAll (calRows rate96) t.2))) 1
  (List.range p).any (fun b =>
    pairsAny (fun (x y : Nat × RunnerTab) =>
      (poolTouches rate96 x.1 b x.2).any (fun u => (poolTouches rate96 y.1 b y.2).any (fun v =>
        (u.write || v.write) && rangesMeet u v))) ts)

/-- The totals of a set of n tables exceed the capacities of R40. -/
def overCapacity (rate96 : Bool) (ts : List (Nat × RunnerTab)) : Bool :=
  let d := deadlineOf rate96
  let n := ts.length
  let t := ts.foldl (fun a x => Totals.add a (headTotals x.2)) ⟨0, 0, 0, 0, 0⟩
  n * 16 * d < t.mac || n * d < t.intp || n * d < t.fft || 16 * d < t.pool ||
    (if rate96 then 2720000 else 5440000) < t.dram

/-- The cross-seat checks of R111 for one set (primary or fallback): none, or true for OVERLAP and false for CAPACITY. -/
def setCheck (rate96 : Bool) (ts : List (Nat × RunnerTab)) : Option Bool :=
  if setOverlap ts then some true
  else if (if rate96 then 10625 else 21250) < renderRows ts then some false
  else if poolClash rate96 ts then some true
  else if overCapacity rate96 ts then some false
  else none

end Sys2Proof.Machine
end

