-- ==== Sys2Proof/Machine/Scale.lean ====
section
/-! DEFINITION. Automatic scaling: its periods, triggers and the weight beta (spec/08_speaker_processing.md R211 to R213). -/

namespace Sys2Proof.Machine

/-- Input block in speaker stage A during the current block (R29). -/
def stageABlock (s : State) : Nat := blk s - 3

/-- The weight beta in 1,024ths at frame k of input block b of the crossfade that begins with input block `from_` (R212). -/
def xfBeta (from_ b k : Nat) : Nat := if b < from_ then 1024 else 1024 - min 1024 (16 * (b - from_) + k + 1)

/-- The weight beta in 1,024ths at frame k of input block b (R212, R213).  A rise takes the first input block of the new
period; before it the crossfade goes on. -/
def ascBeta (a : Asc) (b k : Nat) : Nat :=
  match a.phase with
  | 0 => 0
  | 1 => if b < a.start then 0 else 1024
  | 2 => xfBeta a.start b k
  | _ =>
    if b < a.start then xfBeta a.xfFrom b k
    else if b = a.start then 16 * a.beta0 + (k + 1) * (64 - a.beta0) else 1024

/-- Enter a period: it counts and sets SCALE_ON (R213). -/
def ascEnter (a : Asc) (s : State) : State :=
  raise .spkScaleOn 0 (cnt { s with asc := a } R.SPK_ASC_CNT)

/-- A trigger for a period that covers input blocks from `first` to before `stop` (R211, R213). -/
def ascTrigger (cause first stop : Nat) (hold : Bool) (s : State) : State :=
  let a := s.asc
  match a.phase with
  | 0 => ascEnter { phase := 1, cause := cause, start := first, stop := stop, hold := hold, beta0 := 0,
                    xfFrom := 0 } s
  | 1 => { s with asc := { a with stop := max a.stop stop, hold := a.hold || hold } }
  | 2 => ascEnter { phase := 3, cause := cause, start := first, stop := stop, hold := hold,
                    beta0 := 64 - min 64 (first - a.start), xfFrom := a.start } s
  | _ => { s with asc := { a with stop := max a.stop stop, hold := a.hold || hold } }

/-- The recovery events of R211, reported in block t, by their SPK_CFG enables. -/
def recoveryEvent (cause t : Nat) (enable : Fld) (s : State) : State :=
  if getL s enable = 1 then ascTrigger cause (t - 2) (t + 510) false s else s

/-- A takeover (TRG_TKO). -/
def recoverTakeover (t : Nat) (s : State) : State := recoveryEvent 3 t F.SPK_CFG_TRG_TKO s
/-- Reinstatement of the media-clock reference (TRG_CLK, R256). -/
def recoverClock (t : Nat) (s : State) : State := recoveryEvent 4 t F.SPK_CFG_TRG_CLK s
/-- An aborted handover (TRG_HO). -/
def recoverHandover (t : Nat) (s : State) : State := recoveryEvent 5 t F.SPK_CFG_TRG_HO s
/-- A move to the fallback tables (TRG_FB). -/
def recoverFallback (t : Nat) (s : State) : State := recoveryEvent 6 t F.SPK_CFG_TRG_FB s

/-- The start-up period of a pour at block p replaces whatever runs (R83, R213). -/
def ascPour (p : Nat) (s : State) : State :=
  ascEnter { phase := 1, cause := 1, start := p, stop := p + 512, hold := false, beta0 := 64, xfFrom := 0 } s

/-- SPK_ASC as read: a rise shows as RISING until stage A has had the first input block of its period (R213). -/
def ascWord (s : State) : Nat :=
  let b := stageABlock s
  let remain := match s.asc.phase with
    | 0 => 0
    | 2 => s.asc.start + 64 - b
    | _ => s.asc.stop - b
  let shown := if s.asc.phase = 3 ∧ s.asc.start < b then 1 else s.asc.phase
  shown * 2 ^ 30 + s.asc.cause * 2 ^ 26 + min remain 1023 * 2 ^ 16 + ascBeta s.asc b 15 * 32

/-- The period ends and the 64-block crossfade begins, once stage A has processed its last input block (R211). -/
def execScalePeriodEnd (s : State) : Out :=
  .next (if (s.asc.phase = 1 ∨ s.asc.phase = 3) ∧ !s.asc.hold ∧ s.asc.stop + 3 ≤ dueBlk s then
      { s with asc := { s.asc with phase := 2, start := s.asc.stop } }
    else s)

/-- The crossfade ends and SCALE_END is set (R213). -/
def execScaleXfadeEnd (s : State) : Out :=
  .next (if s.asc.phase = 2 ∧ s.asc.start + 64 + 3 ≤ dueBlk s then
      setBit { s with asc := { phase := 0, cause := 0, start := 0, stop := 0, hold := false, beta0 := 0, xfFrom := 0 } }
        F.SPK_STAT_SCALE_END
    else s)

end Sys2Proof.Machine
end

