-- ==== Sys2Proof/Machine/Capture.lean ====
section
/-! DEFINITION. Measurement capture and the stimulus generator (spec/14_pdm_and_capture.md R334 to R339). -/

namespace Sys2Proof.Machine

/-- Report a capture command: CMD and REASON. -/
def capResult (cmd reason : Nat) (s : State) : State :=
  setF (setF s F.CAP_STATE_CMD cmd) F.CAP_STATE_REASON reason

/-- Refuse a capture command. -/
def capRefuse (cmd reason : Nat) (s : State) : State := raise .pdmCapRefused 0 (capResult cmd reason s)

/-- The named MSI's block. -/
def capBlock (s : State) : Nat := ceil16 (rd64 s R.CAP_MSI_LO R.CAP_MSI_HI)

/-- The sweep's fields are valid (R337). -/
def sweepOk (s : State) : Bool :=
  let f1 := rdN s R.CAP_SWEEP_F1
  let f2 := rdN s R.CAP_SWEEP_F2
  let t := rdN s R.CAP_SWEEP_T
  10 ≤ f1 && f1 < f2 && decide (20 * f2 ≤ 9 * fsInt s) && 1 ≤ t && t ≤ rdN s R.CAP_LEN

/-- The stimulus fields are valid (R337). -/
def stimOk (s : State) : Bool :=
  getF s F.CAP_STIM_LVL ≤ 60 &&
  (match getF s F.CAP_STIM_TYPE with
   | 0 => true
   | 1 => sweepOk s
   | 2 => 10 ≤ getF s F.CAP_STIM_ORDER && getF s F.CAP_STIM_ORDER ≤ 20 && 1 ≤ getF s F.CAP_STIM_REP
   | _ => false)

/-- DRAM words that a runner table accesses, in any phase, meet a range. -/
def tableMeets (r96 : Bool) (t : RunnerTab) (lo len : Nat) : Bool :=
  (accesses ((everyStep (decodeAll (calRows r96) t)).map (fun e => ⟨e, 0⟩))).any
    (fun x => lo < x.daddr + x.cnt && x.daddr < lo + len)

/-- DRAM words from lo on that the live Pattern's runner tables access, primary or fallback, in any phase (R39). -/
def placedMeets (s : State) (lo len : Nat) : Bool :=
  ((s.pat.live.getD Pattern.empty).runners).any (fun r => tableMeets (rate96 s) r.2 lo len)

/-- The buffer and the stimulus are in range: it fits in DRAM and keeps clear of the delay lines and of what the running
Pattern places there (R39, R163, R334). -/
def capRangeOk (s : State) : Bool :=
  let len := rdN s R.CAP_LEN
  let ch := getF s F.CAP_CFG_CH
  let base := rdN s R.CAP_BASE
  let words := ch * (len / 2)
  len % 16 == 0 && 16 ≤ len && len ≤ 60 * fsInt s && ch ≤ 32 && base + words ≤ 2 ^ 29 &&
  (words == 0 || (0x4000000 ≤ base && !(running s && placedMeets s base words))) && stimOk s

/-- The register values that START uses. -/
def capVals (s : State) : CapVals :=
  { base := rdN s R.CAP_BASE, len := rdN s R.CAP_LEN, ch := getF s F.CAP_CFG_CH, meas := getF s F.CAP_CFG_MEAS == 1,
    stim := rdN s R.CAP_STIM, f1 := rdN s R.CAP_SWEEP_F1, f2 := rdN s R.CAP_SWEEP_F2, t := rdN s R.CAP_SWEEP_T }

/-- A capture of block k with the values of its START, which its commit carries to the twin (R338). -/
def capOpen (via : Src) (k : Nat) (decided : Bool) (v : CapVals) : CapRun :=
  { k := k, vals := v, stop := none, cut := false, tail := none, lfsr := 2 ^ bits v.stim 20 16 - 1, decided := decided,
    via := via }

/-- A START is accepted (R335). -/
def capStartAccept (s : State) : State :=
  match s.cap with
  | none => s
  | some c => { capResult 1 0 (setF (wrN s R.CAP_POS 0) F.CAP_STATE_STATE 1) with cap := some { c with decided := true } }

/-- The meaning of the START command. -/
def execCapStart (via : Src) (s : State) : Out :=
  let s := journalReg via R.CAP_CMD 1#32 s
  let k := capBlock s
  let st := getF s F.CAP_STATE_STATE
  .next (if isPassive s then writeIgnored s
    else if st == 1 || st == 2 || (match s.cap with
      | none => false
      | some c => !c.decided) then capRefuse 1 1 s
    else if isLate s (16 * k) then capRefuse 1 2 s
    else if !capRangeOk s then capRefuse 1 3 s
    else
      let v := capVals s
      let s := { s with cap := some (capOpen via k false v) }
      let (wait, s) := mirrorCommand (.capStart k v) (k - 1) s
      if wait then s else capStartAccept s)

/-- A STOP is accepted: the capture ends after input block k2 - 1. -/
def capStopAccept (k2 : Nat) (s : State) : State :=
  capResult 2 0 { s with cap := s.cap.map (fun c => { c with stop := some (min (c.stop.getD k2) k2) }) }

/-- The meaning of the STOP command. -/
def execCapStop (via : Src) (s : State) : Out :=
  let s := journalReg via R.CAP_CMD 2#32 s
  let k := capBlock s
  .next (if isPassive s then writeIgnored s
    else if isLate s (16 * k) then capRefuse 2 2 s
    else
      let (wait, s) := mirrorCommand (.capStop k) (k - 1) s
      if wait then s else capStopAccept k s)

/-- A CANCEL is accepted: IDLE. -/
def capCancelAccept (s : State) : State :=
  { capResult 3 0 (setF s F.CAP_STATE_STATE 0) with cap := none }

/-- The meaning of the CANCEL command. -/
def execCapCancel (via : Src) (s : State) : Out :=
  let s := journalReg via R.CAP_CMD 3#32 s
  .next (if isPassive s then writeIgnored s
    else match s.cap with
    | none => capRefuse 3 4 s
    | some c =>
      if getF s F.CAP_STATE_STATE ≠ 1 ∨ !inTime s c.k then capRefuse 3 4 s
      else
        let (wait, s) := mirrorCommand (.capCancel c.k) (c.k - 1) s
        if wait then s else capCancelAccept s)

/-- Does measurement mode bring the test period of automatic scaling (R211, R336)? -/
def capScales (s : State) (c : CapRun) : Bool := c.vals.meas && getL s F.SPK_CFG_TEST_EN == 1

/-- The input block that the capture writes next. -/
def capNext (s : State) (c : CapRun) : Nat := c.k + rdN s R.CAP_POS / 16

/-- No further block is to be written. -/
def capOver (s : State) (c : CapRun) : Bool :=
  decide (c.vals.len ≤ rdN s R.CAP_POS) || decide (c.stop.getD (capNext s c + 1) ≤ capNext s c)

/-- CAP_RUN_START: at the strobe of block k + 1. -/
def execCapRunStart (s : State) : Out :=
  .next (match s.cap with
    | none => s
    | some c =>
      if getF s F.CAP_STATE_STATE = 1 ∧ c.decided ∧ due s (c.k + 1) then
        let s := setBit (setF s F.CAP_STATE_STATE 2) F.CAP_STAT_STARTED
        if capScales s c then ascTrigger 2 c.k (c.k + 1) true s else s
      else s)

/-- End a capture: DONE, and the test period ends after the last block written. -/
def capFinish (c : CapRun) (s : State) : State :=
  let s := setBit (setF s F.CAP_STATE_STATE 3) F.CAP_STAT_DONE
  let s := if c.cut then raise .pdmCapCut 0 s else s
  let s := if s.asc.hold then { s with asc := { s.asc with hold := false, stop := max s.asc.stop (capNext s c) } } else s
  { s with cap := none }

/-- CAP_END: LEN frames written, the STOP block reached, or a pour (R335). -/
def execCapEnd (s : State) : Out :=
  .next (match s.cap with
    | none => s
    | some c => if getF s F.CAP_STATE_STATE = 2 ∧ capOver s c then capFinish c s else s)

/-- A pour at block p meets the capture (R335, R339): it ends after input block p - 1, which the sprue writes at the pour's own
strobe under the table it leaves; `gains` are the gains of the capture's entries for that block. -/
def capPour (p : Nat) (gains : List (RouteEnt × List Int)) (s : State) : State :=
  match s.cap with
  | none => s
  | some c =>
    if getF s F.CAP_STATE_STATE = 2 then
      let q := c.stop.getD (p + 1)
      { s with cap := some { c with stop := some (min q p), cut := decide (p ≤ q),
                                    tail := if capOver s c || capNext s c + 1 != p then none else some gains } }
    else raise .pdmCapRefused 0 { capResult 1 5 (setF s F.CAP_STATE_STATE 0) with cap := none }

/-- Write an input block's frames, by capture channel (R229, R334). -/
def capWrite (n : Nat) (xs : List (Nat × List Int)) (s : State) : State :=
  match s.cap with
  | none => s
  | some c =>
    if getF s F.CAP_STATE_STATE ≠ 2 ∨ n ≠ capNext s c ∨ capOver s c then s
    else
      let pos := rdN s R.CAP_POS
      let s := forNat c.vals.ch (fun q s =>
        let v := ((xs.find? (fun x => x.1 == q)).map (fun x => x.2)).getD []
        forNat 8 (fun i s => wrWord72 s dramBase (c.vals.base + q * (c.vals.len / 2) + pos / 2 + i)
          (packPair ((v[2 * i]?).getD 0) ((v[2 * i + 1]?).getD 0))) s) s
      wrN s R.CAP_POS (pos + 16)

/-! ### The stimulus (R337) -/

/-- The level L in s4.31, rounded down. -/
def stimLevel (lvl : Nat) : Int := expFix (-(ln10Fix * lvl) / 20) / 2 ^ 89

/-- Frame i of a logarithmic sweep: the phase in turns, then the sine of its fraction. -/
def sweepFrame (fs : Nat) (level : Int) (f1 f2 t i : Nat) : Int :=
  let r := lnFix f2 f1
  let x := (expFix (r * i / t) - fixOne) * fixOne / r * f1 * t / fs % fixOne
  rn (level * sinFix (2 * fixMul piFix x)) (2 ^ 120)

/-- Exponents of the feedback polynomial of order n, without the constant. -/
def mlsTaps (n : Nat) : List Nat :=
  match n with
  | 10 => [10, 7]
  | 11 => [11, 9]
  | 12 => [12, 11, 10, 4]
  | 13 => [13, 12, 11, 8]
  | 14 => [14, 13, 12, 2]
  | 15 => [15, 14]
  | 16 => [16, 15, 13, 4]
  | 17 => [17, 14]
  | 18 => [18, 11]
  | 19 => [19, 18, 17, 14]
  | _ => [20, 17]

/-- One step of a Fibonacci register that shifts left. -/
def lfsrStep (n : Nat) (taps : List Nat) (x : Nat) : Nat :=
  let b := (taps.map (fun t => b2n (bit x (t - 1)))).foldl (· ^^^ ·) 0
  (2 * x) % 2 ^ n + b

/-- The stimulus frames of one block from frame i on, and the register after them: the output bit is the register's top bit
before the step. -/
def stimFrames (fs : Nat) (c : CapRun) : Nat → Nat → Nat → List Int × Nat
  | 0, _, x => ([], x)
  | m + 1, i, x =>
    let ty := bits c.vals.stim 31 30
    let n := bits c.vals.stim 20 16
    let level := stimLevel (bits c.vals.stim 29 24)
    let v := if c.vals.len ≤ i then 0
      else match ty with
      | 1 => if i < c.vals.t then sweepFrame fs level c.vals.f1 c.vals.f2 c.vals.t i else 0
      | 2 => if i < bits c.vals.stim 15 0 * (2 ^ n - 1) then (if bit x (n - 1) then level else -level) else 0
      | _ => 0
    let (r, y) := stimFrames fs c m (i + 1) (if ty = 2 then lfsrStep n (mlsTaps n) x else x)
    (v :: r, y)

/-- The stimulus source's samples of input block n: zero outside RUN. -/
def stimSamples (n : Nat) (s : State) : List Int × State :=
  match s.cap with
  | none => (List.replicate 16 0, s)
  | some c =>
    if getF s F.CAP_STATE_STATE ≠ 2 ∨ n < c.k ∨ c.stop.getD (n + 1) ≤ n then (List.replicate 16 0, s)
    else
      let (xs, y) := stimFrames (fsInt s) c 16 (16 * (n - c.k)) c.lfsr
      (xs, { s with cap := some { c with lfsr := y } })

end Sys2Proof.Machine
end

