-- ==== Sys2Proof/Machine/Mesh.lean ====
section
/-! DEFINITION. Meshes: vertex directions, inverse matrices, neighbours, the search index and the search itself
(spec/06_geometry.md R138, R146). -/

namespace Sys2Proof.Machine

/-- Dot product. -/
def dot (a b : V3) : Int := a.x * b.x + a.y * b.y + a.z * b.z

/-- Cross product. -/
def cross (a b : V3) : V3 :=
  ⟨a.y * b.z - a.z * b.y, a.z * b.x - a.x * b.z, a.x * b.y - a.y * b.x⟩

/-- Round each component of a vector from one unit to 2^k times coarser, RN. -/
def rnV (k : Nat) (a : V3) : V3 := ⟨rn a.x (2 ^ k), rn a.y (2 ^ k), rn a.z (2 ^ k)⟩

/-- One component of v / |v| in s1.30, rounded once from the exact quotient. -/
def unitComp (c : Int) (n2 : Nat) : Int :=
  let m := (rnSqrt (c.natAbs * c.natAbs * 2 ^ 60) n2 : Int)
  if c < 0 then -m else m

/-- v / |v| in s1.30; zero for the zero vector. -/
def unitV (a : V3) : V3 :=
  let n2 := (dot a a).toNat
  if n2 = 0 then ⟨0, 0, 0⟩ else ⟨unitComp a.x n2, unitComp a.y n2, unitComp a.z n2⟩

/-- |v| in the unit of v, saturated at u12.23. -/
def normV (a : V3) : Nat := min (rnSqrt (dot a a).toNat 1) (2 ^ 35 - 1)

/-- The position of a vertex. -/
def vertPos (v : Vertex) : V3 := ⟨v.x, v.y, v.z⟩

/-- A vertex takes part in the mesh: a speaker or a phantom (not off-mesh). -/
def onMesh (v : Vertex) : Bool := v.kind != 2

/-- An element of a list, or a default. -/
def nth {α : Type} (l : List α) (i : Nat) (d : α) : α := (l[i]?).getD d

/-- A vector of a list; zero out of range. -/
def nthV (l : List V3) (i : Nat) : V3 := nth l i ⟨0, 0, 0⟩

/-- The determinant of L, whose columns are three directions (2^-90). -/
def detL (a b c : V3) : Int := dot a (cross b c)

/-- M = L^-1 by rows, each entry RN to s12.23 (R138). -/
def matM (a b c : V3) : V3 × V3 × V3 :=
  let d := detL a b c
  let q := fun (n : Int) => if d < 0 then rn (-(n * 2 ^ 53)) d.natAbs else rn (n * 2 ^ 53) d.natAbs
  let row := fun (v : V3) => (⟨q v.x, q v.y, q v.z⟩ : V3)
  (row (cross b c), row (cross c a), row (cross a b))

/-- Every entry of M is at most 2,048 in magnitude. -/
def matOk (m : V3 × V3 × V3) : Bool :=
  let ok := fun (v : V3) => v.x.natAbs ≤ 2 ^ 34 && v.y.natAbs ≤ 2 ^ 34 && v.z.natAbs ≤ 2 ^ 34
  ok m.1 && ok m.2.1 && ok m.2.2

/-- Does a triangle hold both vertices of an edge? -/
def hasEdge (t : Nat × Nat × Nat) (a b : Nat) : Bool :=
  let h := fun (v : Nat) => t.1 == v || t.2.1 == v || t.2.2 == v
  h a && h b

/-- The triangle, other than i, that shares an edge. -/
def acrossEdge (tris : List (Nat × Nat × Nat)) (i a b : Nat) : Option Nat :=
  (List.range tris.length).find? (fun j => j != i && hasEdge (nth tris j (0, 0, 0)) a b)

/-- Edge neighbours of triangle i: across the edge opposite its first, second and third vertex. -/
def triNbrs (tris : List (Nat × Nat × Nat)) (i : Nat) : Option Nat × Option Nat × Option Nat :=
  let t := nth tris i (0, 0, 0)
  (acrossEdge tris i t.2.1 t.2.2, acrossEdge tris i t.1 t.2.2, acrossEdge tris i t.1 t.2.1)

/-- g = M v, each component RN to s12.23 (R146). -/
def mulMv (m : V3 × V3 × V3) (v : V3) : V3 := ⟨rn (dot m.1 v) (2 ^ 30), rn (dot m.2.1 v) (2 ^ 30), rn (dot m.2.2 v) (2 ^ 30)⟩

/-- Does a triangle with components g contain the direction?  Every component is at least -2^-20. -/
def contains (g : V3) : Bool := -8 ≤ g.x && -8 ≤ g.y && -8 ≤ g.z

/-- The least component. -/
def minComp (g : V3) : Int := min g.x (min g.y g.z)

/-- The neighbour across the edge opposite the most negative component (the first among equals). -/
def nextTri (n : Option Nat × Option Nat × Option Nat) (g : V3) : Option Nat :=
  if g.x ≤ g.y ∧ g.x ≤ g.z then n.1 else if g.y ≤ g.z then n.2.1 else n.2.2

/-- A triangle found: its number, the components there, and whether it contains the direction. -/
structure Found where
  tri : Nat
  g : V3
  covered : Bool
deriving DecidableEq, Repr

/-- The components of a direction in a triangle of a mesh. -/
def compsIn (m : MeshData) (tri : Nat) (v : V3) : V3 :=
  mulMv (nth m.mats tri (⟨0, 0, 0⟩, ⟨0, 0, 0⟩, ⟨0, 0, 0⟩)) v

/-- The better of two visited triangles: the larger least component, the earlier among equals. -/
def betterFound (a b : Found) : Found := if minComp a.g < minComp b.g then b else a

/-- The search of R146 from a triangle with a number of moves left, and the best triangle visited before: a step computes g in
one triangle, so four steps make three moves. -/
def searchFrom (m : MeshData) (v : V3) : Nat → Nat → Option Found → Found
  | steps, tri, best =>
    let g := compsIn m tri v
    let here : Found := ⟨tri, g, contains g⟩
    let b := match best with
      | none => here
      | some x => betterFound x here
    match steps with
    | 0 => if here.covered then here else b
    | k + 1 =>
      if here.covered then here
      else match nextTri (nth m.nbrs tri (none, none, none)) g with
        | none => b
        | some t => searchFrom m v k t (some b)

/-- The best triangle over a whole mesh for a direction: one that contains it, or the largest least component. -/
def bestTri (m : MeshData) (v : V3) : Nat :=
  let all := (List.range m.mats.length).map (fun i => let g := compsIn m i v; (⟨i, g, contains g⟩ : Found))
  match all.find? (fun f => f.covered) with
  | some f => f.tri
  | none => match all with
    | [] => 0
    | f :: fs => (fs.foldl betterFound f).tri

/-- A direction in s1.30 from an azimuth and an elevation in 64ths of a half turn (multiples of 2.8125 degrees): azimuth
from +x towards +y, elevation from -90 degrees up. -/
def cellDir (az el : Nat) : V3 :=
  let a := piFrac az 64
  let e := piFrac el 64
  let c := sinFix e
  ⟨fixTo 30 (fixMul (cosFix a) c), fixTo 30 (fixMul (sinFix a) c), fixTo 30 (-(cosFix e))⟩

/-- Centre direction of a cell (azimuth cell 0 to 63, elevation cell 0 to 31). -/
def cellCentre (a e : Nat) : V3 := cellDir (2 * a + 1) (2 * e + 1)

/-- The four corner directions of a cell. -/
def cellCorners (a e : Nat) : List V3 :=
  [cellDir (2 * a) (2 * e), cellDir (2 * a + 2) (2 * e), cellDir (2 * a) (2 * e + 2), cellDir (2 * a + 2) (2 * e + 2)]

/-- Cross product in the plane. -/
def crossXy (a b : V3) : Int := a.x * b.y - a.y * b.x

/-- The azimuth cell of a direction. -/
def azCell (v : V3) : Nat :=
  let edge := fun (i : Nat) => cellDir (2 * i) 32
  ((List.range 64).find? (fun i => 0 ≤ crossXy (edge i) v && crossXy (edge (i + 1)) v < 0)).getD 0

/-- The elevation cell of a direction. -/
def elCell (v : V3) : Nat :=
  31 - ((List.range 32).find? (fun k => (cellDir 0 (2 * (31 - k))).z ≤ v.z)).getD 31

/-- The cell number of a direction: 64 x elevation cell + azimuth cell. -/
def cellOf (v : V3) : Nat := 64 * elCell v + azCell v

/-- The mesh data of a layout without its search index (R138). -/
def meshBase (l : Layout) : MeshData :=
  let dirs := l.verts.map (fun v => unitV (vertPos v))
  { layout := l
    dirs := dirs
    dists := l.verts.map (fun v => normV (vertPos v))
    mats := l.tris.map (fun t => matM (nthV dirs t.1) (nthV dirs t.2.1) (nthV dirs t.2.2))
    nbrs := (List.range l.tris.length).map (triNbrs l.tris)
    index := []
    phantoms := (List.range l.verts.length).filterMap (fun i =>
      if (nth l.verts i ⟨0, 0, 0, 0, 0⟩).kind = 1 then
        some (i, (List.range l.verts.length).filter (fun j =>
          (nth l.verts j ⟨0, 0, 0, 0, 0⟩).kind == 0 && l.tris.any (fun t => hasEdge t i j)))
      else none) }

/-- The mesh data of a layout with its search index (R138, R146). -/
def meshOf (l : Layout) : MeshData :=
  let m := meshBase l
  if l.tris.isEmpty then m
  else { m with index := (List.range 2048).map (fun c => bestTri m (cellCentre (c % 64) (c / 64))) }

/-- A direction is reached from its cell's index triangle: within four steps the search visits a triangle that contains
it, or, where none does, the one with the largest least component. -/
def reached (m : MeshData) (cell : Nat) (v : V3) : Bool :=
  let f := searchFrom m v 3 (nth m.index cell 0) none
  f.covered || f.tri == bestTri m v || minComp f.g == minComp (compsIn m (bestTri m v) v)

/-- The first cell whose centre or corners are not reached (R138). -/
def badCell (m : MeshData) : Option Nat :=
  if m.index.isEmpty then none
  else (List.range 2048).find? (fun c =>
    (cellCentre (c % 64) (c / 64) :: cellCorners (c % 64) (c / 64)).any (fun v => !reached m c v))

end Sys2Proof.Machine
end

