-- ==== Sys2Proof/Machine/Ladder.lean ====
section
/-! DEFINITION. The frequency-domain part of the room-correction ladder: block floating-point transforms, spectra in their
memory layout, spectral products and the crossfade of spectra (spec/08_speaker_processing.md R198 to R203). -/

namespace Sys2Proof.Machine

/-! ### Partitions (R198) -/

/-- Taps of the partitions of pair i. -/
def pairTaps (i : Nat) : Nat := 16 * 2 ^ i

/-- How many partitions a LADDER value selects: the first n - 1. -/
def partCount (ladder : Nat) : Nat := ladder - 1

/-- Pairs of equal size that a LADDER value touches. -/
def pairCount (ladder : Nat) : Nat := (partCount ladder + 1) / 2

/-- Offset of partition j, counted from 0: 2P for the first of a pair, 3P for the second. -/
def partOffset (j : Nat) : Nat := (2 + j % 2) * pairTaps (j / 2)

/-! ### Complex mantissas (R200, R201) -/

/-- A complex mantissa: real and imaginary part in 2^-34. -/
abbrev Cx := Int × Int

/-- The exact product of two mantissas, in 2^-68. -/
def cxMul (a b : Cx) : Cx := (a.1 * b.1 - a.2 * b.2, a.1 * b.2 + a.2 * b.1)

/-- The sum. -/
def cxAdd (a b : Cx) : Cx := (a.1 + b.1, a.2 + b.2)

/-- A multiple by an integer. -/
def cxScale (k : Int) (a : Cx) : Cx := (k * a.1, k * a.2)

/-- The conjugate. -/
def cxConj (a : Cx) : Cx := (a.1, -a.2)

/-- i times a number. -/
def cxI (a : Cx) : Cx := (-a.2, a.1)

/-- The twiddle factor exp(-2 pi i num/den), or its conjugate, correctly rounded to s1.34. -/
def twiddle (inv : Bool) (num den : Nat) : Cx :=
  let th := piFrac (2 * num) den
  (fixTo 34 (cosFix th), if inv then fixTo 34 (sinFix th) else -fixTo 34 (sinFix th))

/-- Block floating point: mantissas with one exponent (R200). -/
structure Bfp where
  vals : List Cx
  e : Int
deriving DecidableEq, Repr

/-- A value of a list of complex mantissas. -/
def cxAt (l : List Cx) (i : Nat) : Cx := nth l i (0, 0)

/-- Some real or imaginary part has magnitude of at least 0.5 (R201). -/
def anyHalf (l : List Cx) : Bool := l.any (fun z => 2 ^ 33 ≤ z.1.natAbs || 2 ^ 33 ≤ z.2.natAbs)

/-- The low k bits of a number in reverse order. -/
def bitRev : Nat → Nat → Nat
  | 0, _ => 0
  | k + 1, x => x % 2 * 2 ^ k + bitRev k (x / 2)

/-- The two outputs of a butterfly: a + w b and a - w b, RH to the mantissa's format; halved where k is 1 (R201). -/
def butterfly (k : Nat) (w a b : Cx) : Cx × Cx :=
  let p := cxMul w b
  let r := fun (x : Int) => satS 36 (rhShift x (34 + k))
  ((r (a.1 * 2 ^ 34 + p.1), r (a.2 * 2 ^ 34 + p.2)), (r (a.1 * 2 ^ 34 - p.1), r (a.2 * 2 ^ 34 - p.2)))

/-- The places of butterfly j of the stage whose butterflies span `half`, and its twiddle's numerator over 2 x half. -/
def butterflyAt (half j : Nat) : Nat × Nat × Nat :=
  let lo := j / half * (2 * half) + j % half
  (lo, lo + half, j % half)

/-- One stage of a transform of N points: halved with the exponent raised where a mantissa is large (R201). -/
def fftStage (inv : Bool) (half : Nat) (b : Bfp) : Bfp :=
  let k := b2n (anyHalf b.vals)
  { vals := (List.range b.vals.length).map (fun i =>
      let j := i / (2 * half) * half + i % half
      let (lo, hi, t) := butterflyAt half j
      let r := butterfly k (twiddle inv t (2 * half)) (cxAt b.vals lo) (cxAt b.vals hi)
      if i / half % 2 = 0 then r.1 else r.2),
    e := b.e + k }

/-- The stages of a transform of 2^n points, from a buffer in bit-reversed order (R201; the order of the butterflies is the
model's reading). -/
def fftStages (inv : Bool) : Nat → Nat → Bfp → Bfp
  | 0, _, b => b
  | n + 1, half, b => fftStages inv n (2 * half) (fftStage inv half b)

/-- The transform of a list of 2^n mantissas. -/
def fft (inv : Bool) (n : Nat) (b : Bfp) : Bfp :=
  fftStages inv n 1 { b with vals := (List.range (2 ^ n)).map (fun i => cxAt b.vals (bitRev n i)) }

/-- RH of a value over 2^sh; a negative sh multiplies. -/
def rhScale (x : Int) (sh : Int) : Int := if 0 ≤ sh then rhShift x sh.toNat else x * 2 ^ (-sh).toNat

/-- Exact complex values in 2^-(34 + k) at exponent e0, rounded RH to mantissas of the smallest exponent at which every
mantissa stays below 0.5 (R201). -/
def normalise (vals : List Cx) (k : Nat) (e0 : Int) : Bfp :=
  let m := vals.foldl (fun a z => max a (max z.1.natAbs z.2.natAbs)) 0
  if m = 0 then ⟨vals.map (fun _ => (0, 0)), -128⟩
  else
    let e1 : Int := max (-128) (e0 - k + Nat.log2 m - 32)
    let at_ := fun (e : Int) => vals.map (fun z => (rhScale z.1 (k + e - e0), rhScale z.2 (k + e - e0)))
    if anyHalf (at_ e1) then ⟨at_ (e1 + 1), e1 + 1⟩ else ⟨at_ e1, e1⟩

/-! ### Spectra in memory (R200) -/

/-- A spectrum of P + 1 bins as words: bins 0 and P, which are real, in word 0, the others in order, the exponent last. -/
def specWords (b : Bfp) : List Nat :=
  let p := b.vals.length - 1
  packPair (cxAt b.vals 0).1 (cxAt b.vals p).1 ::
    ((List.range (p - 1)).map (fun i => packPair (cxAt b.vals (i + 1)).1 (cxAt b.vals (i + 1)).2) ++ [code 8 b.e])

/-- The spectrum of P + 1 bins that words hold; no words are zeros. -/
def specOf (p : Nat) (ws : List Nat) : Bfp :=
  if ws.isEmpty then ⟨List.replicate (p + 1) (0, 0), -128⟩
  else
    let ends := unpackPair (nth ws 0 0)
    ⟨(ends.1, 0) :: ((List.range (p - 1)).map (fun i => unpackPair (nth ws (i + 1) 0)) ++ [(ends.2, 0)]), sx 8 (nth ws p 0)⟩

/-! ### Forward and inverse transform of real points (R200, R201) -/

/-- The split pass: the spectrum of 2P real points from the transform of their P packed pairs. -/
def splitPass (p : Nat) (z : Bfp) : Bfp :=
  -- twice the bin, in 2^-68
  let bin := fun (k : Nat) =>
    let a := cxAt z.vals (k % p)
    let b := cxConj (cxAt z.vals ((p - k) % p))
    let d := cxAdd a (cxScale (-1) b)
    cxAdd (cxScale (2 ^ 34) (cxAdd a b)) (cxScale (-1) (cxI (cxMul (twiddle false k (2 * p)) d)))
  normalise ((List.range (p + 1)).map bin) 35 z.e

/-- The reverse: P packed pairs from the spectrum of 2P real points. -/
def joinPass (p : Nat) (x : Bfp) : Bfp :=
  let bin := fun (k : Nat) =>
    let a := cxAt x.vals k
    let b := cxConj (cxAt x.vals (p - k))
    let d := cxAdd a (cxScale (-1) b)
    cxAdd (cxScale (2 ^ 34) (cxAdd a b)) (cxI (cxMul (twiddle true k (2 * p)) d))
  normalise ((List.range p).map bin) 35 x.e

/-- The spectrum of 2P real points given as mantissas at an exponent. -/
def forward (i : Nat) (e : Int) (xs : List Int) : List Nat :=
  let p := pairTaps i
  if i = 0 then
    let z := fft false 5 ⟨(List.range 32).map (fun k => (nth xs k 0, 0)), e⟩
    specWords { z with vals := z.vals.take 17 }
  else
    specWords (splitPass p (fft false (4 + i) ⟨(List.range p).map (fun k => (nth xs (2 * k) 0, nth xs (2 * k + 1) 0)), e⟩))

/-- The points P to 2P - 1 of the inverse transform of a spectrum, RH to s16.55 with the exponent and the factor 1/N. -/
def inverse (i : Nat) (x : Bfp) : List Int :=
  let p := pairTaps i
  let out := fun (v e : Int) (n : Nat) => satS 72 (rhScale (v * 2 ^ 21) (n - e))
  if i = 0 then
    let full := (List.range 32).map (fun k => if k ≤ 16 then cxAt x.vals k else cxConj (cxAt x.vals (32 - k)))
    let z := fft true 5 ⟨full, x.e⟩
    (List.range 16).map (fun k => out (cxAt z.vals (16 + k)).1 z.e 5)
  else
    let z := fft true (4 + i) (joinPass p x)
    (List.range p).map (fun k =>
      let v := cxAt z.vals ((p + k) / 2)
      out (if (p + k) % 2 = 0 then v.1 else v.2) z.e (4 + i))

/-! ### Coefficient spectra and products (R199, R203) -/

/-- The spectra of a set's partitions: s2.33 taps are mantissas at exponent 1. -/
def coefSpectra (ladder : Nat) (taps : List Int) : List (List Nat) :=
  (List.range (partCount ladder)).map (fun j =>
    forward (j / 2) 1 ((List.range (pairTaps (j / 2))).map (fun k => nth taps (partOffset j + k) 0)))

/-- c_old + w (c_new - c_old) for a spectrum, RH to the mantissa at the larger exponent; w is num/den (R203). -/
def mixSpec (num den : Nat) (o n : Bfp) : Bfp :=
  let e := max o.e n.e
  let so := (e - o.e).toNat
  let sn := (e - n.e).toNat
  let mix := fun (a b : Int) =>
    satS 36 (rh (a * 2 ^ sn * ((den : Int) - num) + b * 2 ^ so * num) (den * 2 ^ (so + sn)))
  ⟨(o.vals.zip n.vals).map (fun z => (mix z.1.1 z.2.1, mix z.1.2 z.2.2)), e⟩

/-- The products of a pair, summed exactly and normalised (R201). -/
def pairProducts (ps : List (Bfp × Bfp)) (p : Nat) : Bfp :=
  let es := ps.map (fun x => x.1.e + x.2.e)
  let lo := es.foldl min (es.headD 0)
  let vals := (List.range (p + 1)).map (fun k => ps.foldl (fun a x =>
    let v := cxMul (cxAt x.1.vals k) (cxAt x.2.vals k)
    cxAdd a (cxScale (2 ^ (x.1.e + x.2.e - lo).toNat) v)) (0, 0))
  normalise vals 34 lo

end Sys2Proof.Machine
end

