-- ==== Sys2Proof/Machine/PatternParse.lean ====
section
/-! DEFINITION. The byte stream of a Pattern and of an amendment container, and its validation (spec/03_pattern.md R64 to
R76, R85, R506, R507; spec/09_routing.md R223 to R225; spec/04_runner_table.md R110, R111; spec/06_geometry.md R138). -/

namespace Sys2Proof.Machine

/-- Validation reasons (R76). -/
inductive Reason where
  | hdrMagic | hdrVersion | hdrCrc | length | sectCrc | sectType | sectOrder | sectCount | recRange | recDup
  | overlap | mesh | capacity | rev | totalCrc | reg
  | busy | notArmed | late | lateStage | wrongPattern | notAmendable | peerMismatch | tooBig | slotInvalid
  | notRunning | superseded | tooLate | mediaUnlocked | notValid
deriving DecidableEq, Repr

/-- The reason's code (R76). -/
def reasonCode : Reason → Nat
  | .hdrMagic => 0x01 | .hdrVersion => 0x02 | .hdrCrc => 0x03 | .length => 0x04 | .sectCrc => 0x05 | .sectType => 0x06
  | .sectOrder => 0x07 | .sectCount => 0x08 | .recRange => 0x09 | .recDup => 0x0A | .overlap => 0x0B | .mesh => 0x0C
  | .capacity => 0x0D | .rev => 0x0E | .totalCrc => 0x0F | .reg => 0x10 | .busy => 0x20 | .notArmed => 0x21
  | .late => 0x22 | .lateStage => 0x23 | .wrongPattern => 0x24 | .notAmendable => 0x25 | .peerMismatch => 0x26
  | .tooBig => 0x27 | .slotInvalid => 0x28 | .notRunning => 0x29 | .superseded => 0x2A | .tooLate => 0x2B
  | .mediaUnlocked => 0x2C | .notValid => 0x2D

/-- A validation failure: reason, section ordinal, record ordinal (R76). -/
structure VErr where
  reason : Reason
  sect : Nat
  recOrd : Nat
deriving DecidableEq, Repr

/-- The section ordinal of the cross-section checks. -/
def crossSect : Nat := 0x1FFF

/-! ### Fields -/

/-- A signed 36-bit slot of 8 bytes; none where bits [63:36] do not match the extension (R66). -/
def slotS (bs : List Byte) (off : Nat) : Option Int :=
  let w := leAt bs off 8
  if sx 36 w = sx 64 w then some (sx 36 w) else none

/-- All bytes of a range are zero. -/
def zeros (bs : List Byte) (off len : Nat) : Bool := (slice bs off len).all (fun b => b == 0)

/-- Cut a string into records of n bytes, at most k of them. -/
def records (n : Nat) : Nat → List Byte → List (List Byte)
  | 0, _ => []
  | k + 1, bs => if bs.isEmpty then [] else bs.take n :: records n k (bs.drop n)

/-- The first failure of a check over numbered records. -/
def firstBad {α : Type} (l : List α) (bad : Nat → α → Option Reason) : Option (Reason × Nat) :=
  (List.range l.length).findSome? (fun i => (l[i]?).bind (fun a => (bad i a).map (fun r => (r, i))))

/-! ### Section records -/

/-- Parse and check the GLOBAL body against the header's RATE. -/
def parseGlobal (rate : Nat) (b : List Byte) (p : Pattern) : Except Reason Pattern :=
  let u := fun (o n : Nat) => leAt b o n
  if u 0 1 = rate ∧ 1 ≤ u 1 1 ∧ u 1 1 ≤ 8 ∧ u 2 1 ≤ 3 ∧ u 3 1 = 0 ∧ u 4 2 ≤ 2048 ∧ u 6 2 ≤ 1024 ∧ u 8 4 ≤ 65536 ∧
      u 13 1 ≤ 64 ∧ 1 ≤ u 14 2 ∧ u 14 2 ≤ 64 ∧ 250 * 2 ^ 23 ≤ u 16 4 ∧ u 16 4 ≤ 450 * 2 ^ 23 ∧ zeros b 20 44 then
    .ok { p with g := u 1 1, mtb := u 2 1, objCount := u 4 2, outCount := u 6 2, tapTotal := u 8 4,
                 layoutsMask := u 12 1, busCount := u 13 1, rteXf := u 14 2, sos := u 16 4 }
  else .error .recRange

/-- TAIL of a port's ring 1, which is RO (R271). -/
def rr1Tail (off : Nat) : Bool := (List.range 4).any (fun p => off == R.NET_RR_TAIL p 1)

/-- May a REGSET record of a section INDEX write a value at an offset (R71)?  Bits that no writable field holds are reserved. -/
def regsetOk (index off val : Nat) : Bool :=
  (index == 0x04 || index == 0x07 || index == 0x08 || (0x60 ≤ index && index ≤ 0x6F) ||
    index == 0x70 || index == 0x71 || index == 0x72 || index == 0x80 || index == 0x90 || index == 0x98) &&
  bits off 23 16 == index && off < 2 ^ 24 &&
  (match regRow off with
   | none => false
   | some r => (r.rw ||| r.rwl) != 0 && !rr1Tail off && val &&& (2 ^ 32 - 1 - (r.rw ||| r.rwl ||| r.wo)) == 0)

/-- A LAYOUT record. -/
def parseVertex (index : Nat) (b : List Byte) : Option Vertex :=
  match slotS b 8, slotS b 16, slotS b 24 with
  | some x, some y, some z =>
    let t := leAt b 0 2
    let k := leAt b 2 1
    let lim := 1024 * 2 ^ 23
    if k ≤ 2 ∧ zeros b 3 5 ∧ x.natAbs ≤ lim ∧ y.natAbs ≤ lim ∧ z.natAbs ≤ lim ∧
        (if k = 1 then t = 0xFFFF else if index = 0 then t < 1024 else t < 32) then
      some ⟨t, k, x, y, z⟩
    else none
  | _, _, _ => none

/-- Check the vertices of a layout: count and repeated TARGETs (R72). -/
def parseLayout (index : Nat) (recs : List (List Byte)) : Except (Reason × Nat) (List Vertex) :=
  let vs := recs.map (parseVertex index)
  match firstBad vs (fun i v => match v with
    | none => some .recRange
    | some x =>
      if 1024 ≤ i then some .recRange
      else if x.kind != 1 && (vs.take i).any (fun y => match y with
        | some z => z.kind != 1 && z.target == x.target
        | none => false) then some .recRange else none) with
  | some e => .error e
  | none => .ok (vs.filterMap id)

/-- Collinear vertices: the cross product of two sides vanishes. -/
def collinear (a b c : V3) : Bool :=
  let d := fun (p q : V3) => (⟨q.x - p.x, q.y - p.y, q.z - p.z⟩ : V3)
  cross (d a b) (d a c) == ⟨0, 0, 0⟩

/-- The triangle rules of R72 for one triangle. -/
def triOk (vs : List Vertex) (t : Nat × Nat × Nat) : Bool :=
  let n := vs.length
  let v := fun (i : Nat) => nth vs i ⟨0, 0, 0, 0, 0⟩
  t.1 < n && t.2.1 < n && t.2.2 < n && t.1 != t.2.1 && t.1 != t.2.2 && t.2.1 != t.2.2 &&
  onMesh (v t.1) && onMesh (v t.2.1) && onMesh (v t.2.2) &&
  !collinear (vertPos (v t.1)) (vertPos (v t.2.1)) (vertPos (v t.2.2))

/-- Check a mesh against its layout: R72, then R138, each failure with its own record ordinal. -/
def parseMesh (vs : List Vertex) (recs : List (List Byte)) : Except (Reason × Nat) Layout :=
  let tris := recs.map (fun b => (leAt b 0 2, leAt b 2 2, leAt b 4 2))
  let l : Layout := ⟨vs, tris⟩
  match firstBad recs (fun i b =>
    if 2048 ≤ i then some .mesh
    else if !zeros b 6 2 then some .recRange
    else if triOk vs (nth tris i (0, 0, 0)) then none else some .mesh) with
  | some e => .error e
  | none =>
    match firstBad vs (fun i v =>
      if onMesh v && !tris.any (fun t => t.1 == i || t.2.1 == i || t.2.2 == i) then some .mesh else none) with
    | some e => .error e
    | none =>
      let m := meshBase l
      match firstBad vs (fun i v =>
        if onMesh v && dot (vertPos v) (vertPos v) < 2 ^ 26 then some .mesh
        else if v.kind == 1 && !m.phantoms.any (fun p => p.1 == i && !p.2.isEmpty) then some .mesh else none) with
      | some e => .error e
      | none =>
        match firstBad tris (fun i t =>
          if (detL (nthV m.dirs t.1) (nthV m.dirs t.2.1) (nthV m.dirs t.2.2)).natAbs < 2 ^ 78 then some .mesh
          else if matOk (nth m.mats i (⟨0, 0, 0⟩, ⟨0, 0, 0⟩, ⟨0, 0, 0⟩)) then none else some .mesh) with
        | some e => .error e
        | none => match badCell (meshOf l) with
          | some c => .error (.mesh, c)
          | none => .ok l

/-- An OBJECTS record (fields in range), judged against the records before it and the layouts present. -/
def parseObject (layouts : List (Nat × Layout)) (b : List Byte) : Option ObjRec :=
  let o : ObjRec := ⟨leAt b 0 2, leAt b 2 1, leAt b 3 1, leAt b 4 4, leAt b 8 2, leAt b 10 1, leAt b 11 1⟩
  if o.id < 2048 ∧ o.seat ≤ 15 ∧ 1 ≤ o.taps ∧ o.taps ≤ 32 ∧ o.poolBase + o.taps ≤ 65536 ∧ o.mask < 512 ∧
      (List.range 9).all (fun i => !bit o.mask i || layouts.any (fun l => l.1 == i)) ∧ o.mode ≤ 1 ∧ o.fseat ≤ 14 ∧
      zeros b 12 4 then some o
  else none

/-- An OUTPUTS record. -/
def parseOutput (rate : Nat) (b : List Byte) : Option OutRec :=
  let o : OutRec := ⟨leAt b 0 2, leAt b 2 1, leAt b 3 1, leAt b 4 1, leAt b 5 1⟩
  if o.id < 1024 ∧ o.seat ≤ 15 ∧ o.fseat ≤ 14 ∧ o.ladder ≤ (if rate = 1 then 19 else 21) ∧ o.flags ≤ 1 ∧ zeros b 6 2
  then some o else none

/-- Records parsed one by one, each unlike the earlier ones in its key. -/
def parseUnique {α : Type} (parse : List Byte → Option α) (key : α → Nat) (recs : List (List Byte)) :
    Except (Reason × Nat) (List α) :=
  let xs := recs.map parse
  match firstBad xs (fun i x => match x with
    | none => some .recRange
    | some a => if (xs.take i).any (fun y => match y with
        | some b => key b == key a
        | none => false) then some .recDup else none) with
  | some e => .error e
  | none => .ok (xs.filterMap id)

/-- A route entry's bytes (R223). -/
def parseRoute (b : List Byte) : Option RouteEnt :=
  match slotS b 8 with
  | some g => if zeros b 5 3 then some ⟨leAt b 4 1, leAt b 0 2, leAt b 2 2, g⟩ else none
  | none => none

/-- The key of an entry (R223). -/
def routeKey (r : RouteEnt) : Nat := (r.kind * 65536 + r.source) * 65536 + r.dst

/-- Is a source index valid (R220)? -/
def sourceOk (n : Nat) : Bool := n ≤ 0x4820 || (0x5000 ≤ n && n ≤ 0x553F)

/-- Is a channel present (R190): an output of OUTPUTS, a channel of a present layout, a bus below BUS_COUNT? -/
def channelPresent (p : Pattern) (c : Nat) : Bool :=
  if c < 1024 then p.outputs.any (fun o => o.id == c)
  else if c < 1280 then bit p.layoutsMask ((c - 1024) / 32)
  else c < 1280 + p.busCount

/-- Is an object allocated? -/
def allocated (p : Pattern) (o : Nat) : Bool := p.objects.any (fun r => r.id == o)

/-- Is an entry valid by itself (R224)? -/
def routeOk (p : Pattern) (r : RouteEnt) : Bool :=
  match r.kind with
  | 0 => sourceOk r.source && allocated p r.dst
  | 1 => sourceOk r.source && channelPresent p r.dst
  | 2 => allocated p r.source && r.dst < p.busCount
  | 3 => sourceOk r.source && r.dst < 32
  | _ => false

/-- The primary or fallback seat of a channel (R190). -/
def seatOfChannel (p : Pattern) (fb : Bool) (c : Nat) : Nat :=
  if c < 1024 then
    match p.outputs.find? (fun o => o.id == c) with
    | some o => if fb then o.fseat else o.seat
    | none => 0
  else
    let v := if c < 1280 then c - 1024 else c - 1280
    if fb then v % 15 else v % 16

/-- Does a table breach a limit of R224? -/
def routeLimits (p : Pattern) (rs : List RouteEnt) : Bool :=
  let k := fun (n : Nat) => rs.filter (fun r => r.kind == n)
  143392 < rs.length || 8192 < (k 0).length || 4096 < (k 1).length ||
  (k 0).any (fun r => 4 < ((k 0).filter (fun x => x.dst == r.dst)).length) ||
  (List.range 16).any (fun q => 256 < ((k 1).filter (fun r => seatOfChannel p false r.dst == q)).length) ||
  (List.range 15).any (fun q => 274 < ((k 1).filter (fun r => seatOfChannel p true r.dst == q)).length) ||
  (k 3).any (fun r => 1 < ((k 3).filter (fun x => x.dst == r.dst)).length)

/-- A FILTER_PEQ record. -/
def parsePeq (p : Pattern) (b : List Byte) : Option PeqRec :=
  match slotS b 8, slotS b 16, slotS b 24, slotS b 32, slotS b 40 with
  | some b0, some b1, some b2, some a1, some a2 =>
    let r : PeqRec := ⟨leAt b 0 1, leAt b 1 1, leAt b 2 2, ⟨b0, b1, b2, a1, a2⟩⟩
    if zeros b 4 4 ∧ ((r.kind = 0 ∧ r.band ≤ 7 ∧ allocated p r.id) ∨
        (r.kind = 1 ∧ r.band ≤ 15 ∧ channelPresent p r.id ∧ r.id < 1024) ∨
        (r.kind = 2 ∧ r.band ≤ 3 ∧ channelPresent p r.id ∧ r.id < 1024)) then some r else none
  | _, _, _, _, _ => none

/-- A GAIN record. -/
def parseGain (p : Pattern) (b : List Byte) : Option GainRec :=
  match slotS b 8 with
  | some g =>
    let r : GainRec := ⟨leAt b 0 1, leAt b 2 2, g⟩
    if zeros b 1 1 ∧ zeros b 4 4 ∧ ((r.kind = 0 ∧ r.id < 1024 ∧ channelPresent p r.id) ∨
        (r.kind = 1 ∧ r.id < 256 ∧ channelPresent p (1024 + r.id)) ∨
        (r.kind = 2 ∧ r.id < p.busCount) ∨
        (r.kind = 3 ∧ (r.id = 0 ∨ (r.id ≤ 8 ∧ bit p.layoutsMask (r.id - 1))))) then some r else none
  | none => none

/-- Taps covered by a LADDER value (R75, R198). -/
def ladderTaps (l : Nat) : Nat :=
  match l with
  | 0 => 0
  | 1 => 32
  | n => if n % 2 = 0 then 16 * 2 ^ (n / 2 - 1) * 3 else 16 * 2 ^ ((n - 1) / 2) * 2

/-- Bytes of a FILTER_COEF record of a tap count, padded to a multiple of 8 (R70). -/
def coefBytes (taps : Nat) : Nat := (8 + 9 * ((taps + 1) / 2) + 7) / 8 * 8

/-- n packed 36-bit taps (R16). -/
def parseTaps (bs : List Byte) : Nat → List Int
  | 0 => []
  | 1 => [sx 36 (leAt bs 0 9)]
  | n + 2 => sx 36 (leAt bs 0 9) :: sx 36 (leAt bs 0 9 / 2 ^ 36) :: parseTaps (bs.drop 9) n

/-- Does a FILTER_COEF body hold n records from ordinal i?  The ordinal of the first that does not fit, 0 where bytes are left
over (R70). -/
def coefMisfit : Nat → Nat → List Byte → Option Nat
  | _, 0, bs => if bs.isEmpty then none else some 0
  | i, n + 1, bs =>
    let len := coefBytes (leAt bs 4 4)
    if bs.length < 8 ∨ bs.length < len then some i else coefMisfit (i + 1) n (bs.drop len)

/-- The records of a FILTER_COEF body whose length is right, n of them from ordinal i, after those of the outputs `had`; padding that is not zero breaks the
range (log 230). -/
def parseCoefs (p : Pattern) : List Nat → Nat → Nat → List Byte → Except (Reason × Nat) (List CoefRec)
  | _, _, 0, _ => .ok []
  | had, i, n + 1, bs =>
    let out := leAt bs 0 2
    let taps := leAt bs 4 4
    match p.outputs.find? (fun o => o.id == out) with
    | none => .error (.recRange, i)
    | some o =>
      if o.ladder = 0 ∨ taps = 0 ∨ ladderTaps o.ladder < taps ∨ !zeros bs 2 2 ∨
          !zeros bs (8 + 9 * ((taps + 1) / 2)) (coefBytes taps - (8 + 9 * ((taps + 1) / 2))) then .error (.recRange, i)
      else if had.contains out then .error (.recDup, i)
      else
        match parseCoefs p (out :: had) (i + 1) n (bs.drop (coefBytes taps)) with
        | .error e => .error e
        | .ok rest => .ok (⟨out, parseTaps (bs.drop 8) taps⟩ :: rest)

/-- A claim record (R110). -/
def parseClaim (b : List Byte) : Option Claim :=
  if leAt b 4 1 ≤ 1 ∧ leAt b 5 1 = 0 then some ⟨leAt b 0 2, leAt b 2 1, leAt b 3 1 + 1, leAt b 4 1 == 1, leAt b 6 2⟩
  else none

/-- Check a PROOF body against its RUNNER, head first, then claims, then the walk of R111. -/
def parseProof (rate index : Nat) (steps : List Nat) (body : List Byte) : Except (Reason × Nat) RunnerTab :=
  let u := fun (o : Nat) => leAt body o 4
  let cl := (records 8 (body.length / 8) (body.drop 64)).map parseClaim
  let r96 := rate == 1
  if u 0 ≠ steps.length then .error (.length, 0)
  else if deadlineOf r96 < u 4 then .error (.capacity, 0)
  else if u 8 ≠ deadlineOf r96 ∨ 131072 < u 16 ∨ 524288 < u 12 + u 16 ∨ !zeros body 40 24 then .error (.recRange, 0)
  else
    match firstBad cl (fun _ c => if c.isNone then some .recRange else none) with
    | some e => .error e
    | none =>
      let t : RunnerTab := { steps := steps, stepCount := u 0, endCycle := u 4, deadline := u 8, persistBase := u 12,
                             persistLen := u 16, macElem := u 20, intpOut := u 24, fftCyc := u 28, poolWords := u 32,
                             dramWords := u 36, claims := cl.filterMap id }
      match tableCheck r96 index t with
      | some true => .error (.capacity, 0)
      | some false => .error (.recRange, 0)
      | none => .ok t

/-! ### Sections -/

/-- The section types of R69 and their INDEX ranges. -/
def typeIndexOk (ty ix : Nat) : Bool :=
  match ty with
  | 0x0002 => ix ≤ 0xFF
  | 0x0003 | 0x0004 => ix ≤ 8
  | 0x000C | 0x000D => ix ≤ 30
  | 0x0001 | 0x0005 | 0x0006 | 0x0007 | 0x0008 | 0x0009 | 0x000A | 0x000B | 0xFFFF => ix == 0
  | _ => false

/-- The types R69 allows in amendments. -/
def amendable (ty : Nat) : Bool :=
  ty == 3 || ty == 4 || ty == 7 || ty == 8 || ty == 9 || ty == 10 || ty == 0xFFFF

/-- Record bytes of the fixed-size types. -/
def recBytes (ty : Nat) : Option Nat :=
  match ty with
  | 0x0001 => some 64 | 0x0002 => some 8 | 0x0003 => some 32 | 0x0004 => some 8 | 0x0005 => some 16
  | 0x0006 => some 8 | 0x0007 => some 16 | 0x0008 => some 16 | 0x0009 => some 48 | 0x000C => some 16
  | _ => none

/-- The (TYPE, INDEX) pairs a stream requires, given those seen (R69): a layout requires its mesh. -/
def requiredPairs (amend : Bool) (seen : List (Nat × Nat)) : List (Nat × Nat) :=
  let meshes := (seen.filter (fun p => p.1 == 3)).map (fun p => (4, p.2))
  if amend then meshes
  else [(1, 0), (3, 0)] ++ (if seen.contains (3, 0) then [] else [(4, 0)]) ++ meshes ++ [(5, 0), (6, 0), (11, 0)] ++
    (List.range 31).map (fun i => (12, i)) ++ (List.range 31).map (fun i => (13, i))

/-- Order of sections. -/
def pairLt (a b : Nat × Nat) : Bool := a.1 < b.1 || (a.1 == b.1 && a.2 < b.2)

/-- A parse in progress. -/
structure Parse where
  amend : Bool
  rate : Nat
  sectCount : Nat
  pat : Pattern
  /-- The live Pattern against which an amendment's records are judged. -/
  ctx : Pattern
  seen : List (Nat × Nat)
  /-- Vertices of layouts whose mesh has not come, and steps of tables whose proof has not come. -/
  verts : List (Nat × List Vertex)
  steps : List (Nat × List Nat)
deriving DecidableEq, Repr

/-- The Pattern whose objects, outputs and layouts records are judged against. -/
def Parse.base (q : Parse) : Pattern := if q.amend then q.ctx else q.pat

/-- Look a key up in a list of pairs. -/
def assoc {α : Type} (l : List (Nat × α)) (k : Nat) : Option α := (l.find? (fun p => p.1 == k)).map (fun p => p.2)

/-- Section-level checks after the CRC (R507). -/
def sectionCheck (q : Parse) (n ty ix : Nat) : Option Reason :=
  if q.amend ∧ !amendable ty then some .notAmendable
  else if !typeIndexOk ty ix then some .sectType
  else if (match q.seen.getLast? with
      | none => false
      | some p => !pairLt p (ty, ix)) then some .sectOrder
  else if (requiredPairs q.amend q.seen).any (fun r => pairLt r (ty, ix) && !q.seen.contains r) then some .sectCount
  else if ty = 4 ∧ !q.seen.contains (3, ix) then some .sectCount
  else if !q.amend ∧ ((ty = 0xFFFF ∧ n < q.sectCount) ∨ (n = q.sectCount ∧ ty ≠ 0xFFFF)) then some .sectCount
  else none

/-- Length of a section against its record count (R70): the record ordinal of a disagreement.  Only FILTER_COEF has records of
several sizes, and names the one that does not fit; for every other type a disagreement is one of the count, with ordinal 0
(log 267). -/
def lengthBad (ty len count : Nat) (body : List Byte) : Option Nat :=
  let want := fun (c : Bool) => if c then none else some 0
  if len % 8 ≠ 0 then some 0
  else match recBytes ty with
    | some k => want (len == count * k && (ty != 1 || count == 1))
    | none =>
      if ty = 0x000A then coefMisfit 0 count body
      else if ty = 0x000B then want (len == (8 + 2 * count + 7) / 8 * 8 && leAt body 4 4 == count)
      else if ty = 0x000D then want (len == 64 + 8 * count)
      else want (len == 0 && count == 0)

/-- Take up a section's body: every record in turn, with the reason and ordinal of the first failure. -/
def sectionBody (q : Parse) (ty ix count : Nat) (body : List Byte) : Except (Reason × Nat) Parse :=
  let recs := fun (n : Nat) => records n count body
  let seen := q.seen ++ [(ty, ix)]
  match ty with
  | 0x0001 => match parseGlobal q.rate body q.pat with
    | .error r => .error (r, 0)
    | .ok p => .ok { q with pat := p, seen := seen }
  | 0x0002 => match firstBad (recs 8) (fun _ b => if regsetOk ix (leAt b 0 4) (leAt b 4 4) then none else some .reg) with
    | some e => .error e
    | none => .ok { q with pat := { q.pat with regset := q.pat.regset ++ (recs 8).map (fun b => (leAt b 0 4, leAt b 4 4)) },
                           seen := seen }
  | 0x0003 => match parseLayout ix (recs 32) with
    | .error e => .error e
    | .ok vs => .ok { q with verts := q.verts ++ [(ix, vs)], seen := seen }
  | 0x0004 => match parseMesh ((assoc q.verts ix).getD []) (recs 8) with
    | .error e => .error e
    | .ok l => .ok { q with pat := { q.pat with layouts := q.pat.layouts ++ [(ix, l)] }, seen := seen }
  | 0x0005 => match parseUnique (parseObject q.pat.layouts) (fun o => o.id) (recs 16) with
    | .error e => .error e
    | .ok os => .ok { q with pat := { q.pat with objects := os }, seen := seen }
  | 0x0006 => match parseUnique (parseOutput q.rate) (fun o => o.id) (recs 8) with
    | .error e => .error e
    | .ok os => .ok { q with pat := { q.pat with outputs := os }, seen := seen }
  | 0x0007 => match parseUnique (fun b => (parseRoute b).bind (fun r => if routeOk q.base r then some r else none))
      routeKey (recs 16) with
    | .error e => .error e
    | .ok rs => if routeLimits q.base rs then .error (.capacity, 0)
      else .ok { q with pat := { q.pat with routes := some rs }, seen := seen }
  | 0x0008 => match parseUnique (parseGain q.base) (fun g => g.kind * 65536 + g.id) (recs 16) with
    | .error e => .error e
    | .ok gs => .ok { q with pat := { q.pat with gains := gs }, seen := seen }
  | 0x0009 => match parseUnique (parsePeq q.base) (fun r => (r.kind * 256 + r.band) * 65536 + r.id) (recs 48) with
    | .error e => .error e
    | .ok ps => .ok { q with pat := { q.pat with peq := ps }, seen := seen }
  | 0x000A => match parseCoefs q.base [] 0 count body with
    | .error e => .error e
    | .ok cs => .ok { q with pat := { q.pat with coefs := some cs }, seen := seen }
  | 0x000B =>
    let ids := (records 2 count (body.drop 8)).map leNat
    if 1 < leAt body 0 1 ∨ !zeros body 1 3 ∨ 2048 < count ∨ !zeros body (8 + 2 * count) (body.length - (8 + 2 * count)) then .error (.recRange, 0)
    else match firstBad ids (fun i x => if !allocated q.pat x then some .recRange
        else if (ids.take i).contains x then some .recDup else none) with
    | some e => .error e
    | none => .ok { q with pat := { q.pat with shedYield := leAt body 0 1 == 1, shedList := ids }, seen := seen }
  | 0x000C =>
    let ws := (recs 16).map leNat
    let rows := calRows (q.rate == 1)
    if count < 1 ∨ 32768 < count then .error (.recRange, 0)
    else
      let steps := ws.map (fun w => (decodeStep rows w).getD (.op 0x00 1 0 0 0 0 0 false))
      match firstBad ws (fun i w => if (decodeStep rows w).isNone || stepOut steps i then some .recRange else none) with
      | some e => .error e
      | none => .ok { q with steps := q.steps ++ [(ix, ws)], seen := seen }
  | 0x000D => match parseProof q.rate ix ((assoc q.steps ix).getD []) body with
    | .error e => .error e
    | .ok t => .ok { q with pat := { q.pat with runners := q.pat.runners ++ [(ix, t)] }, seen := seen }
  | _ => .ok { q with seen := seen }

/-- Two pool ranges overlap. -/
def poolMeet (a b : ObjRec) : Bool := a.poolBase < b.poolBase + b.taps && b.poolBase < a.poolBase + a.taps

/-- Geometry cycles of a Pattern per period, nine sources to a layout (R42). -/
def geoCycles (p : Pattern) : Nat :=
  p.objects.foldl (fun a o => a + ((List.range 9).filter (fun i => bit o.mask i)).length * 36 + 2 * o.taps + 32) 0

/-- The cross-section checks of a Pattern (R72, R73, R76, R111, R42), in order. -/
def crossCheck (p : Pattern) (rate96 : Bool) : Option (Reason × Nat) :=
  let seatOver := fun (f : ObjRec → Nat) (g : OutRec → Nat) (n no nu : Nat) =>
    (List.range n).any (fun q => no < (p.objects.filter (fun o => f o == q)).length ||
      nu < (p.outputs.filter (fun o => g o == q)).length)
  if p.objCount ≠ p.objects.length ∨ p.outCount ≠ p.outputs.length ∨
      p.tapTotal ≠ p.objects.foldl (fun a o => a + o.taps) 0 ∨
      p.layoutsMask ≠ ((List.range 8).foldl (fun a i => a + if p.layouts.any (fun l => l.1 == i + 1) then 2 ^ i else 0) 0)
    then some (.recRange, 0)
  else match firstBad ((assoc p.layouts 0).getD ⟨[], []⟩).verts (fun _ v =>
      if v.kind != 1 && !channelPresent p v.target then some .recRange else none) with
    | some e => some e
    | none =>
      if pairsAny poolMeet p.objects then some (.overlap, 0)
      else if seatOver (fun o => o.seat) (fun o => o.seat) 16 128 64 || seatOver (fun o => o.fseat) (fun o => o.fseat) 15 137 69
        then some (.capacity, 0)
      else match setCheck rate96 (p.runners.filter (fun t => t.1 < 16)) with
        | some true => some (.overlap, 0)
        | some false => some (.capacity, 0)
        | none => match setCheck rate96 (p.runners.filter (fun t => 16 ≤ t.1)) with
          | some true => some (.overlap, 0)
          | some false => some (.capacity, 0)
          | none => if 2 * deadlineOf rate96 * p.g < geoCycles p then some (.capacity, 0) else none

/-- The checks of an amendment against the live Pattern after END: vertices of the physical layout name outputs present
in the live OUTPUTS, and a virtual layout is one the live Pattern has (R72, R88). -/
def crossAmend (p ctx : Pattern) : Option (Reason × Nat) :=
  if p.layouts.any (fun l => !ctx.layouts.any (fun m => m.1 == l.1)) then some (.recRange, 0)
  else firstBad ((assoc p.layouts 0).getD ⟨[], []⟩).verts (fun _ v =>
    if v.kind != 1 && !channelPresent ctx v.target then some .recRange else none)

/-- The sections from ordinal n on; `done` bytes of the stream lie before them. -/
def parseSections (all : List Byte) : Nat → Parse → Nat → Nat → Except VErr Pattern
  | 0, _, n, _ => .error ⟨.sectCount, n, 0⟩
  | fuel + 1, q, n, done =>
    let rest := all.drop done
    let ty := leAt rest 0 2
    let ix := leAt rest 2 2
    let len := leAt rest 4 4
    let count := leAt rest 8 4
    let body := slice rest 16 len
    if rest.length < 16 ∨ rest.length < 16 + len then .error ⟨.length, n, 0⟩
    else if ty ≠ 0xFFFF ∧ crc32c (rest.take 12 ++ body) ≠ leAt rest 12 4 then .error ⟨.sectCrc, n, 0⟩
    else if ty = 0xFFFF ∧ crc32c (all.take (done + 12)) ≠ leAt rest 12 4 then .error ⟨.totalCrc, n, 0⟩
    else match sectionCheck q n ty ix with
      | some r => .error ⟨r, n, 0⟩
      | none =>
        match lengthBad ty len count body with
        | some i => .error ⟨.length, n, i⟩
        | none => match sectionBody q ty ix count body with
          | .error e => .error ⟨e.1, n, e.2⟩
          | .ok q' =>
            if ty ≠ 0xFFFF then parseSections all fuel q' (n + 1) (done + 16 + len)
            else if all.length ≠ done + 16 then .error ⟨.length, n, 0⟩
            else
              let p := { q'.pat with totalCrc := leAt rest 12 4 }
              match (if q.amend then crossAmend p q.ctx else crossCheck p (q.rate == 1)) with
              | some e => .error ⟨e.1, crossSect, e.2⟩
              | none => .ok p

/-- Validate a Pattern's byte stream against the length the loader was given (R76, R506). -/
def validatePattern (bs : List Byte) (len sysRev : Nat) : Except VErr Pattern :=
  let u := fun (o n : Nat) => leAt bs o n
  if u 0 4 ≠ 0x54504D46 then .error ⟨.hdrMagic, 0, 0⟩
  else if crc32c (bs.take 60) ≠ u 60 4 then .error ⟨.hdrCrc, 0, 0⟩
  else if u 4 1 ≠ 1 ∨ u 6 2 ≠ 64 then .error ⟨.hdrVersion, 0, 0⟩
  else if u 8 4 < 128 ∨ 0xFFFFFFF0 < u 8 4 ∨ len ≠ u 8 4 then .error ⟨.length, 0, 0⟩
  else if u 12 2 < 69 ∨ 4096 < u 12 2 then .error ⟨.sectCount, 0, 0⟩
  else if 1 < u 14 1 ∨ u 16 8 = 0 ∨ u 15 1 ≠ 0 ∨ u 26 2 ≠ 0 ∨ !zeros bs 48 12 then .error ⟨.recRange, 0, 0⟩
  else if sysRev < u 24 2 then .error ⟨.rev, 0, 0⟩
  else
    parseSections bs 4097
      { amend := false, rate := u 14 1, sectCount := u 12 2,
        pat := { Pattern.empty with rate := u 14 1, patId := u 16 8, totalLen := u 8 4 },
        ctx := Pattern.empty, seen := [], verts := [], steps := [] } 1 64

/-- Validate an amendment container against the live Pattern (R85, R86, R506). -/
def validateAmend (bs : List Byte) (len : Nat) (live : Pattern) : Except VErr Pattern :=
  let u := fun (o n : Nat) => leAt bs o n
  if u 0 4 ≠ 0x4D414D46 then .error ⟨.hdrMagic, 0, 0⟩
  else if crc32c (bs.take 28) ≠ u 28 4 then .error ⟨.hdrCrc, 0, 0⟩
  else if u 4 1 ≠ 1 ∨ u 6 2 ≠ 32 then .error ⟨.hdrVersion, 0, 0⟩
  else if u 8 4 < 48 ∨ 0xFFFFFFF0 < u 8 4 ∨ len ≠ u 8 4 then .error ⟨.length, 0, 0⟩
  else if u 5 1 < 1 ∨ 64 < u 5 1 ∨ !zeros bs 24 4 then .error ⟨.recRange, 0, 0⟩
  else if u 16 8 ≠ live.patId then .error ⟨.wrongPattern, 0, 0⟩
  else
    parseSections bs 4097
      { amend := true, rate := live.rate, sectCount := 0,
        pat := { Pattern.empty with rate := live.rate, patId := live.patId, totalLen := u 8 4 },
        ctx := live, seen := [], verts := [], steps := [] } 1 32

/-- AMD_ID of a container, 0 where its header fails before AMD_ID could be read (R86). -/
def amdIdOf (bs : List Byte) : Nat :=
  if leAt bs 0 4 = 0x4D414D46 ∧ crc32c (bs.take 28) = leAt bs 28 4 then leAt bs 12 4 else 0

/-- XF of a container. -/
def amdXf (bs : List Byte) : Nat := leAt bs 5 1

end Sys2Proof.Machine
end

