-- ==== Sys2Proof/Machine/Filters.lean ====
section
/-! DEFINITION. Filter sets and gains with their staging, crossfades and ramps (spec/03_pattern.md R74, R75, R86, R87,
spec/07_render_datapath.md R175, R176, spec/08_speaker_processing.md R203). -/

namespace Sys2Proof.Machine

/-! ### PEQ and crossover sets -/

/-- The bypassed band of R74. -/
def Biquad.bypass : Biquad := ⟨2 ^ 33, 0, 0, 0, 0⟩

/-- A set without bands. -/
def PeqSet.init : PeqSet := { old := [], new := [], move := none }

/-- Key of a PEQ: KIND (0 object, 1 speaker, 2 crossover) and ID. -/
def peqKey (kind id : Nat) : Nat := kind * 65536 + id

/-- A PEQ's set. -/
def peqOf (s : State) (key : Nat) : PeqSet := aGet (fun _ => PeqSet.init) s.flt.peq key

/-- Change a PEQ's set. -/
def peqMod (key : Nat) (f : PeqSet → PeqSet) (s : State) : State :=
  { s with flt := { s.flt with peq := aMod (fun _ => PeqSet.init) s.flt.peq key f } }

/-- Number of bands of a KIND. -/
def peqBands (kind : Nat) : Nat :=
  match kind with
  | 0 => 8
  | 1 => 16
  | _ => 4

/-- The bands of one PEQ from the records that name it; a band with no record is bypassed (R74). -/
def bandsOf (rs : List PeqRec) (kind id : Nat) : List Biquad :=
  (List.range (peqBands kind)).map (fun b =>
    match rs.find? (fun r => r.kind == kind && r.id == id && r.band == b) with
    | some r => r.bq
    | none => Biquad.bypass)

/-- The PEQs that a list of records names. -/
def peqNames (rs : List PeqRec) : List (Nat × Nat) := (rs.map (fun r => (r.kind, r.id))).eraseDups

/-- One coefficient on its move: old + RH((new - old) i / XF), RH saturating at s2.33 (R162, R176). -/
def movedCoef (o n : Int) (i len : Nat) : Int := o + satS 36 (rh ((n - o) * i) len)

/-- A band on its move at step i of XF. -/
def movedBand (i len : Nat) (o n : Biquad) : Biquad :=
  ⟨movedCoef o.b0 n.b0 i len, movedCoef o.b1 n.b1 i len, movedCoef o.b2 n.b2 i len, movedCoef o.a1 n.a1 i len,
   movedCoef o.a2 n.a2 i len⟩

/-- The band's coefficients for an input block (R176). -/
def bandAt (p : PeqSet) (n i : Nat) : Biquad :=
  let new := (p.new[i]?).getD Biquad.bypass
  match p.move with
  | none => new
  | some (first, len) =>
    let old := (p.old[i]?).getD Biquad.bypass
    if n < first then old else if first + len ≤ n + 1 then new else movedBand (n + 1 - first) len old new

/-- A PEQ begins a move to new bands at input block k over XF blocks. -/
def peqMove (kind id : Nat) (bands : List Biquad) (k xf : Nat) (s : State) : State :=
  peqMod (peqKey kind id) (fun p => { old := p.new, new := bands, move := some (k, xf) }) s

/-- The block at whose strobe a PEQ's move has ended: an object PEQ works one block after ingest, stage A three. -/
def peqFree (kind : Nat) (p : PeqSet) : Nat :=
  match p.move with
  | none => 0
  | some (first, len) => first + len + (if kind = 0 then 1 else 3)

/-! ### Gains -/

/-- Key of a gain: KIND (0 trim, 1 virtual trim, 2 bus return, 3 layout master) and ID. -/
def gainKey (kind id : Nat) : Nat := kind * 65536 + id

/-- A gain's ramp for input block n: the latest that had begun by then. -/
def gainFor (gs : List GainRamp) (n : Nat) : GainRamp :=
  (gs.find? (fun g => g.first ≤ n)).getD (gs.getLast?.getD GainRamp.unity)

/-- A gain at frame k of an input block, exactly, in units of 2^-34 (R87). -/
def gainAt (g : GainRamp) (n k : Nat) : Frac :=
  if n < g.first then g.start
  else
    let i := 16 * (n - g.first) + k
    let len := 16 * g.len
    if len ≤ i + 1 then ⟨g.target, 1⟩
    else
      let d := fracAdd ⟨g.target, 1⟩ ⟨-g.start.num, g.start.den⟩
      fracAdd g.start (fracMulI ⟨d.num, d.den * len⟩ (i + 1))

/-- The exact fraction's numerator and denominator of a gain named by its key. -/
def gainVal (s : State) (key n k : Nat) : Frac := gainAt (gainFor (aGet (fun _ => []) s.flt.gain key) n) n k

/-- A gain begins a ramp at input block k over XF blocks, from the value it has then (R87).  Stage A processes input block
k - 3 in block k, so the ramp of an earlier container still counts for the blocks before k. -/
def gainMove (kind id : Nat) (target : Int) (k xf : Nat) (s : State) : State :=
  let f : List GainRamp → List GainRamp := fun gs =>
    { start := gainAt (gainFor gs (k - 1)) (k - 1) 15, target := target, first := k, len := xf } :: gs.take 4
  { s with flt := { s.flt with gain := aMod (fun _ => []) s.flt.gain (gainKey kind id) f } }

/-! ### Coefficient sets -/

/-- The starting taps of an output with LADDER at least 1: a unit coefficient at tap 0 (R75). -/
def unitTaps : List Int := [2 ^ 33]

/-- An output's sets before any Pattern. -/
def CoefSet.init : CoefSet :=
  { taps := unitTaps, specs := [], staging := unitTaps, stagingSpecs := [], live := 0, xf := none }

/-- An output's coefficient sets. -/
def coefOf (s : State) (j : Nat) : CoefSet := aGet (fun _ => CoefSet.init) s.flt.coef j

/-- The sets of an output that starts with taps, converted to spectra for its ladder (R75, R198). -/
def CoefSet.start (ladder : Nat) (taps : List Int) : CoefSet :=
  { CoefSet.init with taps := taps, specs := coefSpectra ladder taps, stagingSpecs := coefSpectra ladder unitTaps }

/-- Change an output's coefficient sets. -/
def coefMod (j : Nat) (f : CoefSet → CoefSet) (s : State) : State :=
  { s with flt := { s.flt with coef := aMod (fun _ => CoefSet.init) s.flt.coef j f } }

/-- Taps of the largest partition that a LADDER value selects; 0 for the direct section alone (R198). -/
def largestPart (ladder : Nat) : Nat := if ladder ≤ 1 then 0 else 16 * 2 ^ (ladder / 2 - 1)

/-- The LADDER of an output in the live Pattern. -/
def ladderOf (s : State) (j : Nat) : Nat :=
  match s.pat.live.bind (fun p => p.outputs.find? (fun o => o.id == j)) with
  | some o => o.ladder
  | none => 0

/-- The boundary at which a crossfade of coefficient sets has ended (R203). -/
def coefEnd (s : State) (j first len : Nat) : Nat := first + 3 + max len (largestPart (ladderOf s j) / 16)

/-- RC_XFADE_END: at the boundary after the crossfade the sets swap roles (R203). -/
def execRcXfadeEnd (j : Fin 1024) (s : State) : Out :=
  .next (match (coefOf s j.val).xf with
    | some (first, len) =>
      if due s (coefEnd s j.val first len) then
        setBit (coefMod j.val (fun c => { taps := c.staging, specs := c.stagingSpecs, staging := c.taps,
                                             stagingSpecs := c.specs, live := 1 - c.live, xf := none }) s)
          F.SPK_STAT_XF_DONE
      else s
    | none => s)

/-- The sets that a Pattern's own records give. -/
def fltOfPattern (p : Pattern) : FilterState :=
  { peq := (peqNames p.peq).foldl (fun t n =>
      aSet (fun _ => PeqSet.init) t (peqKey n.1 n.2) { old := [], new := bandsOf p.peq n.1 n.2, move := none }) [],
    coef := p.outputs.foldl (fun t o =>
      let r := (p.coefs.getD []).find? (fun r => r.out == o.id)
      if o.ladder = 0 then t
      else aSet (fun _ => CoefSet.init) t o.id (CoefSet.start o.ladder (r.elim unitTaps (fun r => r.taps)))) [],
    gain := p.gains.foldl (fun t g =>
      aSet (fun _ => []) t (gainKey g.kind g.id) [{ start := ⟨g.gain, 1⟩, target := g.gain, first := 0, len := 0 }]) [] }

end Sys2Proof.Machine
end

