-- ==== Sys2Proof/Machine/Time.lean ====
section
/-! DEFINITION. Media time, the time bases, their references and the media loop (spec/02_media_time_and_latency.md R45 to
R49, R56 to R59, spec/10_network_time.md R241 to R260). -/

namespace Sys2Proof.Machine

/-! ### The time bases -/

/-- One nanosecond in the units of a time base, 2^-48 ns. -/
def nsUnit : Int := 2 ^ 48

/-- One second in the units of a time base. -/
def secUnit : Int := 1000000000 * nsUnit

/-- Stamp units (2^-5 of a REFCLK cycle) in a second. -/
def stampsPerSec : Nat := 6400000000

/-- A time base's state. -/
def tbOf (s : State) (n : Nat) : TimeBase := aGet (fun _ => TimeBase.init) s.time.tb n

/-- Change a time base's state. -/
def tbMod (n : Nat) (f : TimeBase → TimeBase) (s : State) : State :=
  { s with time := { s.time with tb := aMod (fun _ => TimeBase.init) s.time.tb n f } }

/-- FADJ of a time base, signed, in 2^-40. -/
def fadjOf (s : State) (n : Nat) : Int := sx 32 (rdN s (R.TSU_TB_FADJ n))

/-- The limit of FADJ: 1,000 ppm in 2^-40. -/
def fadjLim : Int := 1099511627

/-- What a time base gains in a number of stamp units (32 to a REFCLK cycle): 5 ns x (1 + FADJ 2^-40) a cycle (R241). -/
def tbGain (fadj : Int) (stamps : Int) : Int := stamps * (5 * 2 ^ 48 + 5 * fadj * 2 ^ 8) / 32

/-- The time of a time base at a stamp: its time at the strobe, and what each FADJ since has added. -/
def tbAt (s : State) (n stamp : Nat) : Int :=
  (tbOf s n).time + (tbOf s n).gain + tbGain (fadjOf s n) ((stamp : Int) - s.time.ref - (tbOf s n).part)

/-- The present instant as a stamp: the nominal length of the media frames since the strobe, after it (log 225). -/
def nowStamp (s : State) : Nat := s.time.ref + s.time.since * stampsPerSec / fsInt s

/-- The time of a time base now. -/
def tbNow (s : State) (n : Nat) : Int := tbAt s n (nowStamp s)

/-- A new FADJ acts from a stamp: the time base keeps what the old one gave up to it (R241). -/
def fadjSet (n stamp : Nat) (v : Word) (s : State) : State :=
  let g := tbAt s n stamp - (tbOf s n).time
  wr (tbMod n (fun t => { t with gain := g, part := stamp - s.time.ref }) s) (R.TSU_TB_FADJ n) v

/-- A reference pin, by its SRC code. -/
def pinOf (s : State) (src : Nat) : RefPinSt := aGet (fun _ => RefPinSt.init) s.time.pins src

/-- The registers that show a time in the view of R242: NS, FRAC, SLO, SHI. -/
def viewTime (compact : Bool) (t : Int) : Nat × Nat × Nat × Nat :=
  let ns := (t / nsUnit).toNat
  let frac := ((t % nsUnit) / 2 ^ 32).toNat
  if compact then (ns % 2 ^ 32, frac, 0, 0)
  else (ns % 1000000000, frac, ns / 1000000000 % 2 ^ 32, ns / 1000000000 / 2 ^ 32 % 2 ^ 32)

/-- A read of TSU_TBn_NS latches FRAC, SLO and SHI (R242). -/
def tbNsRead (n : Nat) (s : State) : State :=
  let v := viewTime (getF s (F.TSU_TB_CFG_FMT n) == 1) (tbNow s n)
  let s := latch (latch (latch s (R.TSU_TB_FRAC n) v.2.1) (R.TSU_TB_SLO n) v.2.2.1) (R.TSU_TB_SHI n) v.2.2.2
  { s with rdata := BitVec.ofNat 32 v.1 }

/-! ### The media count -/

/-- The epoch offset E in force (R46): the one of the last seating. -/
def epoch (s : State) : Int := s.time.e

/-- TSU_MEPOCH comes into force, at a seating (R47). -/
def epochLoad (s : State) : State := { s with time := { s.time with e := rdS64 s R.TSU_MEPOCH_LO R.TSU_MEPOCH_HI } }

/-- The derived MSI of a time at a rate: T as a count of 2^-16 ns, times Fs, over 10^9 x 2^16, plus E (R46). -/
def derivedAt (fs : Nat) (e t : Int) : Int := (t / 2 ^ 32) * fs / (1000000000 * 2 ^ 16) + e

/-- The first frame at or after a time: ceil(T x Fs) + E (R58). -/
def derivedCeil (fs : Nat) (e t : Int) : Int := -((-(t / 2 ^ 32) * fs) / (1000000000 * 2 ^ 16)) + e

/-- The time base the media loop follows (R253): the running Pattern's; else TB0 until a Pattern completes arming, and from
then on that of the last one armed (log 279). -/
def followTb (s : State) : Nat :=
  if running s then getF s F.TSU_MEDIA_CFG_MTB
  else match s.pat.armedMtb with
    | some n => n
    | none => 0

/-- The derived MSI now. -/
def derivedMsi (s : State) : Int := derivedAt (fsInt s) (epoch s) (tbNow s (followTb s))

/-- Counted minus derived MSI in 2^-16 samples, unsaturated (R48). -/
def mediaPhase (s : State) : Int :=
  ((s.msi : Int) - epoch s) * 2 ^ 16 - (tbNow s (followTb s) / 2 ^ 32) * fsInt s / 1000000000

/-- Judge the media phase against its limit: an entry into the excess raises MPH_EXC once (R48). -/
def judgePhase (s : State) : State :=
  let beyond : Bool := getF s F.TSU_MPH_LIM_LIM * 2 ^ 16 < (mediaPhase s).natAbs
  let s' := { s with time := { s.time with excess := beyond } }
  if beyond && !s.time.excess then raise .tsuMphExc 0 s' else s'

/-- Show the media phase in TSU_MPHASE, saturated. -/
def showPhase (s : State) : State := wrN s R.TSU_MPHASE (code 32 (satS 32 (mediaPhase s)))

/-- Seat the counter on a derived MSI (R47): the excess ends.  A derived MSI below zero, which only a negative E gives, is
held modulo 2^64 (DESIGN CHOICE, log 226). -/
def seatAt (d : Int) (s : State) : State :=
  showPhase { s with msi := code 64 d, time := { s.time with excess := false } }

/-! ### Changes of state -/

/-- TSU_TBn_STATE codes: 0 FREE, 1 ACQUIRE, 2 LOCKED, 3 HOLDOVER, 4 REQUAL. -/
def tbState (s : State) (n : Nat) : Nat := getF s (F.TSU_TB_STATE_STATE n)

/-- Put a time base in a state; the media loop follows the entries of R254, except from ACQUIRE. -/
def tbEnter (n st : Nat) (s : State) : State :=
  let s := setF s (F.TSU_TB_STATE_STATE n) st
  let s := if st = 3 then setF s (F.TSU_TB_STATE_HOLD n) 0 else s
  let s := if st ≠ 0 ∧ st ≠ 2 ∧ n = getF s F.TSU_CFG_PPS_TB then { s with time := { s.time with ppsHigh := none } } else s
  let s := tbMod n (fun t => { t with inWindow := 0, beyond := 0,
                                      holdCycles := if st = 3 then 0 else t.holdCycles }) s
  if n = followTb s ∧ getF s F.TSU_ML_STATE_STATE ≠ 0 then
    if st = 3 then setF s F.TSU_ML_STATE_STATE 2
    else if st = 4 then setF { s with time := { s.time with mlGood := 0 } } F.TSU_ML_STATE_STATE 3
    else s
  else s

/-- The mean of a list of FADJ values held from their stamps to an end, over the last second (R245). -/
def fadjMeanFrom (stop from_ : Nat) : Nat → List (Nat × Int) → Int × Nat
  | _, [] => (0, 0)
  | until_, (t, v) :: rest =>
    let lo := max t from_
    let w := until_ - lo
    let r := if t ≤ from_ then (0, 0) else fadjMeanFrom stop from_ t rest
    (r.1 + v * w, r.2 + w)

/-- Mean FADJ over the second that ends at the last accepted measurement, or since LOCKED if shorter (R245). -/
def fadjMean (t : TimeBase) (present : Int) : Int :=
  match t.fadjHist with
  | [] => present
  | (stop, _) :: _ =>
    let r := fadjMeanFrom stop (stop - stampsPerSec) stop t.fadjHist
    if r.2 = 0 then present else rn r.1 r.2

/-- A qualifying run restarts at a rejection or a loss (R248). -/
def restartGood (n : Nat) (s : State) : State := tbMod n (fun t => { t with goodStart := none, goodCount := 0 }) s

/-- A reference is lost (R245, R247, R251): counted once in a gap, which the next edge or offset ends; a loss restarts the
qualifying second and the lock window. -/
def refLoss (n : Nat) (s : State) : State :=
  let s := restartGood n s
  if (tbOf s n).lost then s
  else
    let s := raise .tsuRefLoss n (cnt s (R.TSU_TB_LOSS_CNT n))
    let s := tbMod n (fun t => { t with lost := true }) s
    match tbState s n with
    | 1 => tbEnter n 1 s
    | 2 => tbEnter n 3 (fadjSet n (nowStamp s) (BitVec.ofInt 32 (fadjMean (tbOf s n) (fadjOf s n))) s)
    | 4 => tbEnter n 3 s
    | _ => s

/-- A lost reference qualifies: REQUAL, REINSTATED, and a recovery event where it is the media time base (R248, R256). -/
def refQualified (n : Nat) (s : State) : State :=
  let s := tbMod n (fun t => { t with lost := false, goodStart := none, goodCount := 0 }) s
  let s := setF s (F.TSU_TB_STATE_RATE_CHG n) 0
  let s := tbEnter n 4 s
  let s := raise .tsuReinstated n s
  if running s && n == getF s F.TSU_MEDIA_CFG_MTB then recoverClock (blk s) s else s

/-! ### The servo -/

/-- round(f x 2^40), clamped to 1,000 ppm, of the servo's f for an offset e in 2^-8 ns and an interval T in ns (R250). -/
def servoFadj (integ : Frac) (e : Int) (kp t : Nat) : Int :=
  let p : Frac := ⟨e, 2 ^ 8 * 2 ^ kp * t⟩
  let f := fracAdd p integ
  clampI (-fadjLim) fadjLim (rh (-(f.num * 2 ^ 40)) f.den)

/-- Feed one offset (in 2^-8 ns) with its interval (ns) to the servo, at a stamp: OFS, the integral and FADJ (R250). -/
def servo (n stamp : Nat) (e : Int) (tNs : Nat) (s : State) : State :=
  let ki := getF s (F.TSU_TB_SERVO_KI_SH n)
  let kp := getF s (F.TSU_TB_SERVO_KP_SH n)
  let t := max tNs 1
  let integ := fracAdd (tbOf s n).integ ⟨e, 2 ^ 8 * 2 ^ ki * t⟩
  let fadj := servoFadj integ e kp t
  let s := tbMod n (fun tb => { tb with integ := integ }) s
  fadjSet n stamp (BitVec.ofInt 32 fadj) (wrN s (R.TSU_TB_OFS n) (code 32 e))

/-- Count a measurement against the lock window; the 16th in a row locks from ACQUIRE or REQUAL (R245), and the FADJ of that
measurement is the first of the time since LOCKED. -/
def lockWindow (n : Nat) (inside : Bool) (s : State) : State :=
  let s := tbMod n (fun t => { t with inWindow := if inside then t.inWindow + 1 else 0 }) s
  if 16 ≤ (tbOf s n).inWindow ∧ (tbState s n = 1 ∨ tbState s n = 4) then
    tbEnter n 2 (setF (tbMod n (fun t => { t with fadjHist := t.fadjHist.take 1 }) s) (F.TSU_TB_STATE_RATE_CHG n) 0)
  else s

/-- A history, newest first, cut after the first entry that is as old as a stamp. -/
def trimHist (from_ : Nat) : List (Nat × Int) → List (Nat × Int)
  | [] => []
  | (t, v) :: rest => if t ≤ from_ then [(t, v)] else (t, v) :: trimHist from_ rest

/-- Note an accepted measurement at a stamp, with the FADJ in effect from it (for the mean of R245). -/
def noteMeasure (n stamp : Nat) (s : State) : State :=
  tbMod n (fun t => { t with fadjHist := trimHist (stamp - stampsPerSec) ((stamp, fadjOf s n) :: t.fadjHist) }) s

/-- STEP_THR in 2^-8 ns. -/
def stepThr (s : State) (n : Nat) : Nat := getF s (F.TSU_TB_SERVO_STEP_THR n) * 1000 * 256

/-- The servo steps the time base by -e at the next strobe and clears its integral (R250), also where the third rejected offset in LOCKED
makes the step (log 281). -/
def servoStep (n : Nat) (e : Int) (s : State) : State :=
  tbMod n (fun t => { t with servoStep := some (-e * 2 ^ 40), integ := ⟨0, 1⟩, beyond := 0, inWindow := 0 }) s

/-- A measurement outside HOLDOVER (R250): the servo takes it, unless it lies beyond STEP_THR in ACQUIRE, where the time base
steps, or in LOCKED, where it is a glitch and the third in a row steps. -/
def measure (n stamp : Nat) (e : Int) (tNs : Nat) (inside : Bool) (s : State) : State :=
  let far : Bool := stepThr s n < e.natAbs
  if far && tbState s n == 1 then servoStep n e s
  else if far && tbState s n == 2 then
    let s := raise .tsuGlitch n (cnt s (R.TSU_TB_GLITCH_CNT n))
    let s := tbMod n (fun t => { t with beyond := t.beyond + 1, inWindow := 0 }) s
    if 3 ≤ (tbOf s n).beyond then servoStep n e s else s
  else
    let s := servo n stamp e tNs (tbMod n (fun t => { t with beyond := 0 }) s)
    lockWindow n inside (noteMeasure n stamp s)

/-! ### Edge references -/

/-- Nominal edge rate of a time base's reference, in Hz (R246). -/
def nominalRate (s : State) (n : Nat) : Nat :=
  if getF s (F.TSU_TB_CFG_SRC n) = 3 then 1
  else if getF s (F.TSU_TB_CFG_WRATE n) = 1 then 96000 else 48000

/-- Is an interval within a number of ppm of nominal? -/
def withinPpm (interval rate ppm : Nat) : Bool :=
  ((interval * rate : Nat) - (stampsPerSec : Int)).natAbs * 1000000 ≤ stampsPerSec * ppm

/-- Phase of an edge, in 2^-8 ns: against the nearest whole second, or the nearest multiple of the word-clock period
counted from the start of the current second (R244). -/
def edgePhase (s : State) (n stamp : Nat) : Int :=
  let t := tbAt s n stamp % secUnit
  let r := nominalRate s n
  let x := t * r % secUnit
  let y := if 2 * x < secUnit then x else x - secUnit
  rh y (r * 2 ^ 40)

/-- 256 consecutive intervals, each within 0.1 % of their mean, with the mean outside 12.5 % of nominal (R247). -/
def rateChanged (intervals : List Nat) (rate : Nat) : Bool :=
  let l := intervals.take 256
  let sum : Nat := l.foldl (· + ·) 0
  l.length == 256 &&
  l.all (fun i => ((256 * i : Nat) - (sum : Int)).natAbs * 1000 ≤ sum) &&
  !(((sum * rate : Nat) - (256 * stampsPerSec : Nat) : Int).natAbs * 8 ≤ 256 * stampsPerSec)

/-- An accepted edge: its measurement goes to the servo; in HOLDOVER it counts to the qualifying second (R247, R248). -/
def edgeAccepted (n stamp interval : Nat) (s : State) : State :=
  let e := edgePhase s n stamp
  let tNs := match (tbOf s n).lastAccepted with
    | some l => (stamp - l) * 5 / 32
    | none => interval * 5 / 32
  let s := tbMod n (fun t => { t with rejects := 0, lastAccepted := some stamp }) s
  if tbState s n = 3 then
    match (tbOf s n).goodStart with
    | none => tbMod n (fun t => { t with goodStart := some stamp, goodCount := 0 }) s
    | some t0 =>
      let k := (tbOf s n).goodCount + 1
      let s := tbMod n (fun t => { t with goodCount := k }) s
      if stampsPerSec ≤ stamp - t0 then
        -- k periods of the reference took stamp - t0 units: within 100 ppm of nominal?
        if ((k * stampsPerSec : Nat) - ((stamp - t0) * nominalRate s n : Nat) : Int).natAbs * 10000 ≤
            (stamp - t0) * nominalRate s n then refQualified n s
        else tbMod n (fun t => { t with goodStart := some stamp, goodCount := 0 }) s
      else s
  else
    let r := nominalRate s n
    measure n stamp e tNs (if r = 1 then e.natAbs ≤ 1000 * 256 else e.natAbs * r * 16 ≤ 1000000000 * 256) s

/-- A rejected edge; the eighth in a row is a loss, and the count of eight starts anew (R247). -/
def edgeRejected (n : Nat) (s : State) : State :=
  let s := raise .tsuGlitch n (cnt s (R.TSU_TB_GLITCH_CNT n))
  let s := restartGood n (tbMod n (fun t => { t with rejects := t.rejects + 1 }) s)
  if 8 ≤ (tbOf s n).rejects then refLoss n (tbMod n (fun t => { t with rejects := 0 }) s) else s

/-- Judge one edge, of the pin as it was before, for one time base that follows it (R246, R247). -/
def edgeFor (n stamp : Nat) (pin : RefPinSt) (s : State) : State :=
  let s := tbMod n (fun t => { t with lost := false }) s
  match pin.lastEdge with
  | none => s
  | some prev =>
    let interval := stamp - prev
    let intervals := (interval :: pin.intervals).take 256
    let rate := nominalRate s n
    let s := if withinPpm interval rate 125000 then edgeAccepted n stamp interval s else edgeRejected n s
    if rateChanged intervals rate ∧ getF s (F.TSU_TB_STATE_RATE_CHG n) = 0 then
      let sum := intervals.foldl (· + ·) 0
      let s := wrN s (R.TSU_TB_RATE n) (256 * 256 * stampsPerSec / sum)
      raise .tsuRateChg n (setF s (F.TSU_TB_STATE_RATE_CHG n) 1)
    else s

/-- Time-stamp an accepted PPS_IN edge into TSU_PPSI_* (R258). -/
def ppsiStamp (stamp : Nat) (s : State) : State :=
  let n := getF s F.TSU_CFG_PPSI_TB
  let v := viewTime (getF s (F.TSU_TB_CFG_FMT n) == 1) (tbAt s n stamp)
  setBit (wrN (wrN (wrN (wrN s R.TSU_PPSI_NS v.1) R.TSU_PPSI_FRAC v.2.1) R.TSU_PPSI_SLO v.2.2.1) R.TSU_PPSI_SHI
    v.2.2.2) F.TSU_STAT_PPS_IN

/-- The SRC code of a reference pin (R244). -/
def pinSrc : RefPin → Nat
  | .wclkIn => 2
  | .ppsIn => 3

/-- A rising edge at WCLK_IN or PPS_IN is stamped, its interval measured, and judged for every time base that follows the pin
(R244, R246); a PPS_IN edge whose interval is in range is stamped into TSU_PPSI_* (R258). -/
def execRefEdge (pin : RefPin) (stamp : BitVec 64) (s : State) : Out :=
  let src := pinSrc pin
  let st := stamp.toNat
  let x := pinOf s src
  let now : RefPinSt := { lastEdge := some st, intervals := match x.lastEdge with
    | none => x.intervals
    | some p => ((st - p) :: x.intervals).take 256 }
  let s := { s with time := { s.time with pins := aSet (fun _ => RefPinSt.init) s.time.pins src now } }
  let s := forNat 4 (fun n s => if getF s (F.TSU_TB_CFG_SRC n) = src then edgeFor n st x s else s) s
  .next (match pin, x.lastEdge with
    | .ppsIn, some p => if withinPpm (st - p) 1 125000 then ppsiStamp st s else s
    | _, _ => s)

/-- No edge for more than 1.5 nominal periods counts as a loss (R247). -/
def execRefEdgeTimeout (n : Fin 4) (s : State) : Out :=
  let src := getF s (F.TSU_TB_CFG_SRC n.val)
  .next (if src = 2 ∨ src = 3 then refLoss n.val s else s)

/-! ### PTP -/

/-- An offset in HOLDOVER counts to the qualifying second: 1 s of offsets with a frequency difference within 100 ppm of
REFCLK nominal (R251). -/
def ptpQualify (n : Nat) (e : Int) (tNs : Nat) (s : State) : State :=
  let s := tbMod n (fun t => { t with ptpClock := t.ptpClock + tNs }) s
  match (tbOf s n).goodStart with
  | none => tbMod n (fun t => { t with goodStart := some t.ptpClock, goodFirst := e }) s
  | some t0 =>
    let dt := (tbOf s n).ptpClock - t0
    if dt < 1000000000 then s
    else
      -- the master's frequency against REFCLK nominal: FADJ - de/dt
      let num : Int := fadjOf s n * 256 * dt - (e - (tbOf s n).goodFirst) * 2 ^ 40
      if num.natAbs * 10000 ≤ 256 * dt * 2 ^ 40 then refQualified n s
      else tbMod n (fun t => { t with goodStart := some t.ptpClock, goodFirst := e }) s

/-- The Sync intervals a profile accepts, in ns: logSyncInterval -4 to +1, -7 to -1, -7 to 0 (R249). -/
def syncIntervals (prof : Nat) : Nat × Nat :=
  match prof with
  | 0 => (62500000, 2000000000)
  | 1 => (7812500, 500000000)
  | _ => (7812500, 1000000000)

/-- Is a Sync of this interval accepted by the time base's profile? -/
def syncAccepted (s : State) (n tNs : Nat) : Bool :=
  let w := syncIntervals (getF s (F.TSU_TB_CFG_PROF n))
  w.1 ≤ tNs && tNs ≤ w.2

/-- What a time base in the master role advertises in its Announce messages (R249). -/
structure PtpAdvert where
  domain : Nat
  priority1 : Nat
  priority2 : Nat
  clockClass : Nat
  clockAccuracy : Nat
deriving DecidableEq, Repr

/-- The advertisement of a time base: the master's alone. -/
def ptpAdvert (s : State) (n : Nat) : Option PtpAdvert :=
  if getF s (F.TSU_TB_STATE_ROLE n) = 2 then
    some ⟨if getF s (F.TSU_TB_CFG_PROF n) = 2 then 0 else getF s (F.TSU_TB_CFG_DOMAIN n),
          getF s (F.TSU_TB_PRIO_PRIORITY1 n), getF s (F.TSU_TB_PRIO_PRIORITY2 n), 248, 0xFE⟩
  else none

/-- Firmware delivers an offset from master (R250): the time base is a slave of the master it comes from.  An offset whose Sync
interval the profile does not accept is that of a discarded message (R249). -/
def ptpMeas (n : Nat) (e : Int) (tNs : Nat) (s : State) : State :=
  if getF s (F.TSU_TB_CFG_SRC n) ≠ 1 ∨ getF s (F.TSU_TB_STATE_CONFLICT n) = 1 ∨ syncAccepted s n tNs = false then s
  else
    let now := nowStamp s
    let s := setF (tbMod n (fun t => { t with lost := false, measAt := now }) s) (F.TSU_TB_STATE_ROLE n) 1
    if tbState s n = 3 then ptpQualify n e tNs s
    else measure n now e tNs (e.natAbs ≤ 1000 * 256) (tbMod n (fun t => { t with ptpClock := t.ptpClock + tNs }) s)

/-- A write of TSU_TBn_MEAS; the Sync interval in ns comes with it. -/
def execPtpMeasWrite (n : Fin 4) (offset intervalNs : BitVec 32) (s : State) : Out :=
  .next (ptpMeas n.val offset.toInt intervalNs.toNat s)

/-- No Sync accepted for SYNC_TO intervals (R251). -/
def execPtpSyncTimeout (n : Fin 4) (s : State) : Out :=
  .next (if getF s (F.TSU_TB_CFG_SRC n.val) = 1 then refLoss n.val s else s)

/-- The selected master's announce receipt timeout expires (R251): the reference is lost, and the clock becomes master where
its profile and SLAVE_ONLY let it, else it listens (R249; PRESUMED of IEEE 1588, log 227). -/
def execPtpAnnounceTimeout (n : Fin 4) (s : State) : Out :=
  let master : Bool := getF s (F.TSU_TB_CFG_SLAVE_ONLY n.val) == 0 && getF s (F.TSU_TB_CFG_PROF n.val) != 2 &&
    getF s (F.TSU_TB_STATE_CONFLICT n.val) == 0
  .next (if getF s (F.TSU_TB_CFG_SRC n.val) = 1 then
      refLoss n.val (setF s (F.TSU_TB_STATE_ROLE n.val) (if master then 2 else 0))
    else s)

/-! ### Configuration and steps -/

/-- Is the port of a PTP time base already used by another one (R249)? -/
def ptpConflict (s : State) (n : Nat) : Bool :=
  getF s (F.TSU_TB_CFG_SRC n) == 1 &&
  (List.range 4).any (fun m => m != n && getF s (F.TSU_TB_CFG_SRC m) == 1 &&
    getF s (F.TSU_TB_CFG_PORT m) == getF s (F.TSU_TB_CFG_PORT n) && getF s (F.TSU_TB_STATE_CONFLICT m) == 0)

/-- Re-judge conflicts: a time base written second on a port conflicts, and a conflict ends when the port is free. -/
def judgeConflicts (written : Nat) (s : State) : State :=
  let s := setF s (F.TSU_TB_STATE_CONFLICT written) 0
  let s := forNat 4 (fun n s =>
    if n ≠ written ∧ getF s (F.TSU_TB_STATE_CONFLICT n) = 1 ∧ !ptpConflict s n then
      setF s (F.TSU_TB_STATE_CONFLICT n) 0 else s) s
  if ptpConflict s written then raise .tsuConflict written (setF s (F.TSU_TB_STATE_CONFLICT written) 1) else s

/-- The effect of a write of TSU_TBn_CFG once it is permitted: a change of SRC, PORT or WRATE puts the time base in
ACQUIRE, or in FREE where SRC is 0 (R244, R245). -/
def tbCfgApply (n : Nat) (v : Word) (s : State) : State :=
  let key := fun (s : State) => (getF s (F.TSU_TB_CFG_SRC n), getF s (F.TSU_TB_CFG_PORT n), getF s (F.TSU_TB_CFG_WRATE n))
  let old := key s
  let s := wr s (R.TSU_TB_CFG n) (v &&& 0xFFC07F00#32)
  if key s = old then s
  else
    let s := tbMod n (fun t => { t with lastAccepted := none, rejects := 0, lost := false, goodStart := none, fadjHist := [],
                                        integ := ⟨0, 1⟩ }) s
    let s := judgeConflicts n (setF s (F.TSU_TB_STATE_ROLE n) 0)
    tbEnter n (if getF s (F.TSU_TB_CFG_SRC n) = 0 then 0 else 1) s

/-- Fields of TSU_TBn_CFG out of range: SRC above 3, PROF 3. -/
def tbCfgOk (v : Word) : Bool := fget v 31 29 ≤ 3 && fget v 27 26 != 3

/-- A write of TSU_TBn_CFG by an interface: RWL, then the range rules, then its effect. -/
def tbCfgWrite (via : Src) (n : Nat) (v : Word) (s : State) : State :=
  let s := journalReg via (R.TSU_TB_CFG n) v s
  if running s then raise .errRwlWrite 0 s
  else if tbCfgOk v then tbCfgApply n v s else writeIgnored s

/-- TB_CFG_WRITE (R244). -/
def execTbCfgWrite (via : Src) (n : Fin 4) (v : Word) (s : State) : Out := .next (tbCfgWrite via n.val v s)

/-- The signed offset of the STEP registers, in 2^-48 ns (R243). -/
def stepOffset (s : State) (n : Nat) : Int :=
  (sx 32 (rdN s (R.TSU_TB_STEP_SEC n)) * 1000000000 + sx 32 (rdN s (R.TSU_TB_STEP_NS n))) * nsUnit

/-- The STEP command requests a step at the next strobe (R243). -/
def tbStepCmd (via : Src) (n : Nat) (s : State) : State :=
  let s := journalReg via (R.TSU_TB_CMD n) 1 s
  tbMod n (fun t => { t with hostStep := some (t.hostStep.getD 0 + stepOffset s n) }) s

/-- TB_STEP. -/
def execTbStep (via : Src) (n : Fin 4) (s : State) : Out := .next (tbStepCmd via n.val s)

/-- Apply one step and report it (R243). -/
def applyStep (n : Nat) (d : Int) (s : State) : State :=
  raise .tsuTbStep n (tbMod n (fun t => { t with time := t.time + d }) s)

/-- Pending steps apply at the strobe, the host's first (R243, R260). -/
def tbStepApply (n : Nat) (s : State) : State :=
  let t := tbOf s n
  let s := tbMod n (fun t => { t with hostStep := none, servoStep := none }) s
  let s := match t.hostStep with
    | some d => applyStep n d s
    | none => s
  let s := match t.servoStep with
    | some d => applyStep n d s
    | none => s
  showPhase s

/-- TB_STEP_APPLY. -/
def execTbStepApply (n : Fin 4) (s : State) : Out := .next (tbStepApply n.val s)

/-! ### The media loop -/

/-- The followed time base can seat the counter: LOCKED or FREE. -/
def tbUsable (s : State) (n : Nat) : Bool := tbState s n == 2 || tbState s n == 0

/-- The loop takes its seat from SYNC_IN (R399). -/
def syncSeats (s : State) : Bool := getF s F.HIER_CFG_SYNC_EN == 1 && getF s F.HIER_CFG_SYNC_SEAT == 1

/-- Seating is complete (R254): SEATED, LOCK, the state that the followed time base gives, and a frequency within the limit of
R255 from here on. -/
def loopSeated (s : State) : State :=
  let f := followTb s
  let s := setF s F.TSU_ML_STATE_STATE (match tbState s f with
    | 3 => 2
    | 4 => 3
    | _ => 1)
  let s := wrN s R.TSU_ML_FREQ (code 32 (clampI (-100 * 65536) (100 * 65536) (sx 32 (rdN s R.TSU_ML_FREQ))))
  setBit (setF (setF s F.TSU_ML_STATE_SEATED 1) F.TSU_ML_STATE_FOLLOW f) F.TSU_STAT_LOCK

/-- The loop aligns the frame phase and seats the counter, in ACQUIRE while no Pattern runs (R254). -/
def execMediaSeat (s : State) : Out :=
  .next (if !running s ∧ !syncSeats s ∧ getF s F.TSU_ML_STATE_STATE = 0 ∧ tbUsable s (followTb s) then
      let s := epochLoad s
      loopSeated (seatAt (derivedMsi s) s)
    else s)

/-- The media-clock frequency, in 2^-16 ppm. -/
def mlFreq (s : State) : Int := sx 32 (rdN s R.TSU_ML_FREQ)

/-- A time base's FADJ as 2^-16 ppm: FADJ 2^-40 x 10^6 x 2^16. -/
def fadjPpm (fadj : Int) : Int := fadj * 1000000 / 2 ^ 24

/-- After 1 s within 2^-4 sample and 0.05 ppm the loop enters LOCKED from REQUAL (R254). -/
def execMlRequalLock (s : State) : Out :=
  .next (if getF s F.TSU_ML_STATE_STATE = 3 ∧ 200000000 ≤ s.time.mlGood then setF s F.TSU_ML_STATE_STATE 1 else s)

/-- The loop's frequency for the next block: the value its control law asks for is free (the manual gives only its
bandwidth); HOLDOVER follows the time base's fixed FADJ where no phase is left to remove (R48); R254 and R255 limit it, those of
R255 in every state while a Pattern runs, and CLAMP shows a limit of R255. -/
def loopStep (refCycles : Nat) (s : State) : State :=
  let st := getF s F.TSU_ML_STATE_STATE
  let f := followTb s
  let (w, s) := freeNat s 32
  let want : Int := if st = 2 ∧ mediaPhase s = 0 then fadjPpm (fadjOf s f) else sx 32 w
  let slew : Int := 10 * 65536 * refCycles / 200000000
  let free : Bool := st == 0 && !running s
  let lim : Int := if free then 1000 * 65536 else 100 * 65536
  let near := if free then want else clampI (mlFreq s - slew) (mlFreq s + slew) want
  let got := clampI (-lim) lim near
  let s := wrN s R.TSU_ML_FREQ (code 32 got)
  let clamped : Bool := !free && got != want
  let was : Bool := getF s F.TSU_ML_STATE_CLAMP == 1
  let s := setF s F.TSU_ML_STATE_CLAMP (b2n clamped)
  let s := if clamped && !was then raise .tsuMlClamp 0 s else s
  let good : Bool := (mediaPhase s).natAbs ≤ 4096 && (got - fadjPpm (fadjOf s f)).natAbs ≤ 3276
  { s with time := { s.time with mlGood := if good then s.time.mlGood + refCycles else 0 } }

/-- Follow the time base of R253; a change while no Pattern runs, or excess phase then, places the loop in ACQUIRE. -/
def loopFollow (s : State) : State :=
  let f := followTb s
  let changed : Bool := f != getF s F.TSU_ML_STATE_FOLLOW
  let s := setF s F.TSU_ML_STATE_FOLLOW f
  if !running s && (changed || s.time.excess) then setF s F.TSU_ML_STATE_STATE 0 else s

/-- Whole seconds in HOLDOVER, saturating (R245). -/
def holdSeconds (n refCycles : Nat) (s : State) : State :=
  if tbState s n = 3 then
    let c := (tbOf s n).holdCycles + refCycles
    setF (tbMod n (fun t => { t with holdCycles := c }) s) (F.TSU_TB_STATE_HOLD n) (min (c / 200000000) 65535)
  else s

/-- The strobe's work of the time subsystem: the counted MSI moves to the next multiple of 16, the time bases move by the
REFCLK cycles that passed, and the loop and the phase are judged (R27, R47, R48, R241, R254). -/
def strobeTime (refCycles : Nat) (s : State) : State :=
  let next := (s.msi / 16 + 1) * 16
  let s := eccWindow (next - s.msi) s
  let s := { s with msi := next, time := { s.time with frames := s.time.frames + (next - s.msi) } }
  let s := forNat 4 (fun n s =>
    let now := tbAt s n (s.time.ref + 32 * refCycles)
    holdSeconds n refCycles (tbMod n (fun t => { t with time := now, gain := 0, part := 0 }) s)) s
  let s := { s with time := { s.time with ref := s.time.ref + 32 * refCycles, since := 0 } }
  let s := loopStep refCycles s
  let s := judgePhase (showPhase s)
  let s := loopFollow s
  match s.time.ppsHigh with
  | some t =>
    if t ≤ s.time.ref then { s with time := { s.time with ppsHigh := none } } else s
  | none => s

/-- Stamp units in a millisecond. -/
def stampsPerMs : Nat := 6400000

/-- PPS_OUT rises at a whole second of its time base, and stays high for PPS_WIDTH ms, which REFCLK counts (log 269); it stays
low while the time base is neither LOCKED nor FREE (R247, R258). -/
def execPpsOutSecond (s : State) : Out :=
  let n := getF s F.TSU_CFG_PPS_TB
  .next (if getF s F.TSU_CFG_PPS_OUT_EN = 1 ∧ tbUsable s n then
      { s with time := { s.time with ppsHigh := some (nowStamp s + getF s F.TSU_CFG_PPS_WIDTH * stampsPerMs) } }
    else s)

/-- The level of PPS_OUT: high in a pulse that began, until its end. -/
def ppsOut (s : State) : Bool :=
  match s.time.ppsHigh with
  | none => false
  | some stop => nowStamp s < stop

/-- WCLK_OUT rises at the start of the present frame: each frame, each even-numbered frame, or never (R259). -/
def wclkOutRises (s : State) : Bool :=
  match getF s F.TSU_CFG_WCLK_DIV with
  | 1 => true
  | 2 => s.msi % 2 == 0
  | _ => false

/-- A read of TSU_MSI_LO returns the low word of the counted MSI and latches the high word (R47). -/
def execMsiLoRead (s : State) : Out :=
  .next { latch s R.TSU_MSI_HI (s.msi / 2 ^ 32) with rdata := BitVec.ofNat 32 s.msi }

/-- A read of TSU_TBn_NS (R242). -/
def execTbNsRead (n : Fin 4) (s : State) : Out := .next (tbNsRead n.val s)

/-! ### Judging an apply time (R58, R59) -/

/-- The verdict of `judge`. -/
inductive Verdict where
  | late
  | early
  | inWindow (e : Nat)
  | grace (e : Nat)
deriving DecidableEq, Repr

/-- R59's judge: apply MSI a, current block c, lead, and the fields of TSU_APPLY_WIN. -/
def judgeApply (a : Int) (c lead lateGrace earlyWin : Nat) : Verdict :=
  let k : Int := (a + 15) / 16
  if a < 0 ∨ k < (c : Int) + lead - lateGrace then .late
  else if (c : Int) + earlyWin < k then .early
  else if (c : Int) + lead ≤ k then .inWindow k.toNat
  else .grace (c + lead)

/-- The apply MSI of an apply-time field (R58): compact, by the signed difference from 16c; wide, the first frame at or
after the time. -/
def applyMsi (s : State) (compact : Bool) (ns sec frac : Nat) : Int :=
  if compact then (16 * blk s : Nat) + cmpDiff ns (16 * blk s % 2 ^ 32)
  else derivedCeil (fsInt s) (epoch s) (((sec : Int) * 1000000000 + ns) * nsUnit + (frac : Int) * 2 ^ 32)

end Sys2Proof.Machine
end

