-- ==== Sys2Proof/Machine/Net.lean ====
section
/-! DEFINITION. Ethernet ports: reception, classification, descriptor rings, transmission, gates and low-power idle
(spec/11_ethernet_ports.md R262 to R280; the receive filter of spec/12_streams.md R288; stamps of
spec/10_network_time.md R252). -/

namespace Sys2Proof.Machine

/-! ### Frames -/

/-- Big-endian number of n bytes at an offset. -/
def beAt (bs : List Byte) (off n : Nat) : Nat := beNat (slice bs off n)

/-- A frame as the classifier parses it (R266): its EtherType after at most one tag, the tag's VID and PCP, the payload
after the EtherType; the IP version (0 where not parsed), addresses and checksum; and the UDP ports and payload. -/
structure Parsed where
  etype : Nat
  vid : Option Nat
  pcp : Nat
  body : List Byte
  ipv : Nat
  ipSum : Bool
  src : Nat
  dst : Nat
  udp : Option (Nat × Nat × List Byte)
deriving DecidableEq, Repr

/-- The one's-complement sum of the 16-bit words of a header. -/
def sum16 : List Byte → Nat
  | a :: b :: t => a.toNat * 256 + b.toNat + sum16 t
  | [a] => a.toNat * 256
  | [] => 0

/-- The folded one's-complement sum. -/
def fold16 (x : Nat) : Nat :=
  let y := x / 65536 + x % 65536
  y / 65536 + y % 65536

/-- A UDP datagram: source port, destination port and payload. -/
def parseUdp (bs : List Byte) : Option (Nat × Nat × List Byte) :=
  if bs.length < 8 then none
  else some (beAt bs 0 2, beAt bs 2 2, slice bs 8 (beAt bs 4 2 - 8))

/-- Parse a frame without its FCS (R266). -/
def parseFrame (bs : List Byte) : Parsed :=
  let e0 := beAt bs 12 2
  let tagged : Bool := e0 == 0x8100
  let e := if tagged then beAt bs 16 2 else e0
  let body := bs.drop (if tagged then 18 else 14)
  let p : Parsed := { etype := e, vid := if tagged then some (beAt bs 14 2 % 4096) else none,
                      pcp := if tagged then beAt bs 14 2 / 8192 else 0, body := body, ipv := 0, ipSum := true,
                      src := 0, dst := 0, udp := none }
  if e = 0x0800 then
    let ihl := bits (beAt body 0 1) 3 0 * 4
    let frag : Bool := beAt body 6 2 % 0x4000 != 0
    { p with ipv := 4, ipSum := fold16 (sum16 (body.take ihl)) == 0xFFFF, src := beAt body 12 4, dst := beAt body 16 4,
             udp := if !frag ∧ beAt body 9 1 = 17 then parseUdp (body.drop ihl) else none }
  else if e = 0x86DD then
    { p with ipv := 6, src := beAt body 8 16, dst := beAt body 24 16,
             udp := if beAt body 6 1 = 17 then parseUdp (body.drop 40) else none }
  else p

/-- CRC-32 of IEEE 802.3. -/
def crc32 (bs : List Byte) : Nat := crcRun 0xEDB88320 0xFFFFFFFF bs ^^^ 0xFFFFFFFF

/-- The FCS in the last four bytes of a frame checks. -/
def fcsOk (bs : List Byte) : Bool := crc32 (bs.take (bs.length - 4)) == leAt bs (bs.length - 4) 4

/-! ### Ports -/

/-- A port's state. -/
def portOf (s : State) (p : Nat) : NetPort := aGet (fun _ => NetPort.init) s.net.ports p

/-- Change a port's state. -/
def portMod (p : Nat) (f : NetPort → NetPort) (s : State) : State :=
  { s with net := { s.net with ports := aMod (fun _ => NetPort.init) s.net.ports p f } }

/-- The link of a port is UP. -/
def linkUp (s : State) (p : Nat) : Bool := getF s (F.NET_LINK_STATE p) == 2

/-- Line rate in Mb/s of a port's mode. -/
def lineMbps (s : State) (p : Nat) : Nat :=
  match getF s (F.NET_CFG_MODE p) with
  | 1 | 2 => 25000
  | 3 => 10000
  | _ => 1000

/-! ### Time-stamps -/

/-- The time base that stamps a port's frames (R252). -/
def stampTb (s : State) (p : Nat) : Nat :=
  match (List.range 4).find? (fun n => getF s (F.TSU_TB_CFG_SRC n) == 1 && getF s (F.TSU_TB_CFG_PORT n) == p &&
      getF s (F.TSU_TB_STATE_CONFLICT n) == 0) with
  | some n => n
  | none => followTb s

/-- A port's correction, in 2^-4 ns, by its present speed (R252). -/
def stampCorr (s : State) (p : Nat) (tx : Bool) : Int :=
  let w := match lineMbps s p with
    | 25000 => rdN s (R.TSU_PCOR25 p)
    | 10000 => rdN s (R.TSU_PCOR10 p)
    | _ => rdN s (R.TSU_PCOR1 p)
  if tx then sx 16 (w / 65536) else sx 16 w

/-- Word 1 of a descriptor: the corrected stamp in the view of its time base (R252, R269). -/
def stampWord (s : State) (p stamp : Nat) (tx : Bool) : Nat :=
  let n := stampTb s p
  let c := stampCorr s p tx * 2 ^ 44
  let t := if tx then tbAt s n stamp + c else tbAt s n stamp - c
  let v := viewTime (getF s (F.TSU_TB_CFG_FMT n) == 1) t
  v.1 + v.2.1 * 2 ^ 32 + v.2.2.1 % 2 ^ 24 * 2 ^ 48

/-! ### Receive filters -/

/-- Four address registers as one number, IPv4 in the first (R288). -/
def addrOf (s : State) (reg : Nat → Nat) (v6 : Bool) : Nat :=
  if v6 then ((rdN s (reg 0) * 2 ^ 32 + rdN s (reg 1)) * 2 ^ 32 + rdN s (reg 2)) * 2 ^ 32 + rdN s (reg 3)
  else rdN s (reg 0)

/-- A receive context is enabled; one whose EN was written 0 stays so until the next boundary (R297). -/
def rxEnabled (s : State) (c : Nat) : Bool := getF s (F.STR_RX_CTL_EN c) == 1 || getF s (F.STR_RX_STATE_STATE c) != 0

/-- The port of a context's leg. -/
def legPort (port : Nat) (legB : Bool) : Nat := if legB then port ^^^ 1 else port

/-- The tag condition of R288. -/
def vidOk (vid : Nat) (f : Parsed) : Bool := vid == 0 || f.vid == some vid

/-- Does a frame on a port match a context's leg (R288)? -/
def legMatches (s : State) (c p : Nat) (legB : Bool) (f : Parsed) : Bool :=
  (!legB || getF s (F.STR_RX_CFG_DUAL c) == 1) && legPort (getF s (F.STR_RX_CFG_PORT c)) legB == p &&
  vidOk (getF s (F.STR_RX_HDR_VID c)) f &&
  (let dstReg := fun (j : Nat) => if legB then R.STR_RX_DSTB c j else R.STR_RX_DSTA c j
   let srcReg := fun (j : Nat) => if legB then R.STR_RX_SRCB c j else R.STR_RX_SRCA c j
   if getF s (F.STR_RX_CFG_FMT c) ≤ 1 then
     let v6 : Bool := getF s (F.STR_RX_CFG_IPV6 c) == 1
     f.ipv == (if v6 then 6 else 4) && f.dst == addrOf s dstReg v6 &&
     (getF s (F.STR_RX_CFG_SSM c) == 0 || f.src == addrOf s srcReg v6) &&
     (match f.udp with
      | none => false
      | some u => u.2.1 == bits (rdN s (R.STR_RX_UDP c)) (if legB then 31 else 15) (if legB then 16 else 0))
   else f.etype == 0x22F0 && beAt f.body 0 1 == 2 && beAt f.body 4 8 == rdN s (dstReg 0) * 2 ^ 32 + rdN s (dstReg 1))

/-- The context and leg a frame belongs to. -/
def rxContext (s : State) (p : Nat) (f : Parsed) : Option (Nat × Bool) :=
  (List.range 256).findSome? (fun c =>
    if !rxEnabled s c then none
    else if legMatches s c p false f then some (c, false)
    else if legMatches s c p true f then some (c, true)
    else none)

/-- The Ethernet address, as a 48-bit number, of a multicast IP address (RFC 1112, RFC 2464). -/
def mcastMac (v6 : Bool) (a : Nat) : Nat :=
  if v6 then 0x333300000000 + a % 2 ^ 32 else 0x01005E000000 + a % 2 ^ 23

/-- Is an IP address multicast? -/
def isMcast (v6 : Bool) (a : Nat) : Bool := if v6 then a / 2 ^ 120 == 255 else a / 2 ^ 28 == 14

/-- The 48-bit address, first byte highest, of a LO and HI register pair (bytes 0 to 3 in LO, first in [7:0]). -/
def macOf (lo hi : Nat) : Nat := beNat (leBytes 4 lo ++ leBytes 2 hi)

/-- The PTP groups of the profile in use on a port (R249). -/
def ptpGroups (s : State) (p : Nat) : List Nat :=
  ((List.range 4).filter (fun n => getF s (F.TSU_TB_CFG_SRC n) == 1 && getF s (F.TSU_TB_CFG_PORT n) == p)).flatMap
    (fun n => if getF s (F.TSU_TB_CFG_PROF n) = 2 then [0x0180C200000E]
      else [0x01005E000181, 0x01005E00006B, 0x333300000181, 0x33330000006B])

/-- The multicast address of an enabled receive context on a port. -/
def ctxGroup (s : State) (p mac c : Nat) : Bool :=
  rxEnabled s c && getF s (F.STR_RX_CFG_FMT c) ≤ 1 &&
  (let v6 : Bool := getF s (F.STR_RX_CFG_IPV6 c) == 1
   let leg := fun (b : Bool) (a : Nat) =>
     legPort (getF s (F.STR_RX_CFG_PORT c)) b == p && isMcast v6 a && mcastMac v6 a == mac
   leg false (addrOf s (R.STR_RX_DSTA c) v6) ||
     (getF s (F.STR_RX_CFG_DUAL c) == 1 && leg true (addrOf s (R.STR_RX_DSTB c) v6)))

/-- The address filter (R265). -/
def addressOk (s : State) (p mac : Nat) : Bool :=
  mac == 2 ^ 48 - 1 || mac == 0x0180C200000E || getF s (F.NET_CFG_PROMISC p) == 1 ||
  mac == macOf (rdN s (R.NET_MAC_LO p)) (rdN s (R.NET_MAC_HI p)) ||
  (List.range 64).any (fun i => getF s (F.NET_MCFILT_HI_EN p i) == 1 &&
    mac == macOf (rdN s (R.NET_MCFILT_LO p i)) (rdN s (R.NET_MCFILT_HI p i))) ||
  (ptpGroups s p).contains mac || (List.range 256).any (ctxGroup s p mac)

/-- Where the classifier sends a frame (R266). -/
inductive Dest where
  | pause
  | ipErr
  | ctx (c : Nat) (legB : Bool)
  | ring (r : Nat)
  | drop
deriving DecidableEq, Repr

/-- The classifier (R266). -/
def classify (s : State) (p : Nat) (f : Parsed) : Dest :=
  let dport := match f.udp with
    | none => 0
    | some u => u.2.1
  if f.etype = 0x8808 then .pause
  else if f.ipv = 4 ∧ !f.ipSum then .ipErr
  else match rxContext s p f with
    | some (c, b) => .ctx c b
    | none =>
      if f.etype = 0x88F7 ∨ (f.udp.isSome ∧ (dport = 319 ∨ dport = 320)) then .ring 0
      else if f.udp.isSome ∧ dport = getF s F.OBJ_CFG_UDP_PORT then .ring 1
      else if f.etype = 0x88CC ∨ (f.udp.isSome ∧ getF s (F.NET_MGMT_UDP_PORT p) ≠ 0 ∧
          dport = getF s (F.NET_MGMT_UDP_PORT p)) then .ring 2
      else if getF s (F.NET_CFG_OTHER_EN p) = 1 then .ring 3
      else .drop

/-! ### Receive rings -/

/-- Window of a receive ring's words: ring 1 in pool SRAM, the others in DRAM (R268). -/
def rrBase (r : Nat) : Nat := if r = 1 then poolBase else dramBase

/-- Bytes of a buffer. -/
def bufBytes (s : State) (p r : Nat) : Nat := 256 * 2 ^ getF s (F.NET_RR_CFG_BUFSZ p r)

/-- Free descriptors of a receive ring (R270). -/
def rrFree (s : State) (p r : Nat) : Nat :=
  (getF s (F.NET_RR_TAIL_INDEX p r) + 8192 - getF s (F.NET_RR_HEAD_INDEX p r)) % 8192

/-- Show the free count. -/
def rrShow (p r : Nat) (s : State) : State := setF s (F.NET_RR_STATE_FREE p r) (rrFree s p r)

/-- Word index of descriptor word k of an index. -/
def rrDesc (s : State) (p r idx k : Nat) : Nat :=
  getF s (F.NET_RR_BASE_BASE p r) + 2 * (idx % max 1 (getF s (F.NET_RR_CFG_SIZE p r))) + k

/-- Write the i-th of n descriptors of a frame and its buffer (R269, R270): word 1 first, then word 0 with DONE. -/
def rrWriteOne (p r n : Nat) (trunc : Bool) (f : Parsed) (stamp : Nat) (bytes : List Byte) (i : Nat) (s : State) : State :=
  let idx := getF s (F.NET_RR_HEAD_INDEX p r) + i
  let sz := bufBytes s p r
  let w := rdWord72 s (rrBase r) (rrDesc s p r idx 0)
  let buf := bits w 28 0
  let part := slice bytes (sz * i) sz
  let sop : Bool := i == 0
  let eop : Bool := i + 1 == n
  let s := wrPacked s (rrBase r) buf part
  let s := wrWord72 s (rrBase r) (rrDesc s p r idx 1) (if sop then stampWord s p stamp false else 0)
  wrWord72 s (rrBase r) (rrDesc s p r idx 0)
    (buf + part.length * 2 ^ 32 + 2 ^ 44 + b2n sop * 2 ^ 45 + b2n eop * 2 ^ 46 + b2n (eop && trunc) * 2 ^ 47 +
     b2n (eop && trunc) * 2 ^ 48 + b2n sop * 2 ^ 49 + b2n (sop && f.vid.isSome) * 2 ^ 50 +
     (if sop then f.pcp * 2 ^ 51 + stampTb s p * 2 ^ 54 else 0))

/-- A frame dropped because its ring is in NOBUF (R272). -/
def rrNobuf (p r : Nat) (s : State) : State :=
  raise .netRxNobuf p (cnt (setF s (F.NET_RR_STATE_NOBUF p r) 1) (R.NET_RX_NOBUF p))

/-- Place a frame in a receive ring (R269 to R272). -/
def rrPlace (p r : Nat) (f : Parsed) (stamp : Nat) (bytes : List Byte) (s : State) : State :=
  let sz := bufBytes s p r
  let free := rrFree s p r
  let resume := (getF s (F.NET_MAXFRM_MAXFRM p) - 4 + sz - 1) / sz
  let stay : Bool := getF s (F.NET_RR_STATE_NOBUF p r) == 1 && free < resume
  if stay ∨ free = 0 then rrNobuf p r s
  else
    let s := setF s (F.NET_RR_STATE_NOBUF p r) 0
    let want := (bytes.length + sz - 1) / sz
    let n := min want free
    let trunc : Bool := n < want
    let s := forNat n (rrWriteOne p r n trunc f stamp bytes) s
    let s := setF s (F.NET_RR_HEAD_INDEX p r) (getF s (F.NET_RR_HEAD_INDEX p r) + n)
    let s := if trunc then raise .netRxTrunc p (cnt (setF s (F.NET_RR_STATE_NOBUF p r) 1) (R.NET_RX_TRUNC p)) else s
    rrShow p r s

/-- Hand an accepted frame to its destination (R266, R267); a port whose DMA is marked drops it (R432). -/
def rxDeliver (p : Nat) (inp : RxIn) (bytes : List Byte) (s : State) : State :=
  let f := parseFrame bytes
  if bit (getF s F.BST_MAP_MAP) (21 + p) then cnt s (R.NET_RX_FIFO p) else match classify s p f with
  | .pause => cnt s (R.NET_RX_PAUSE p)
  | .ipErr => cnt s (R.NET_RX_IPERR p)
  | .ctx c b =>
    if 32768 < inp.fifoStream + bytes.length then raise .netRxFifo p (cnt s (R.NET_RX_FIFO p))
    else { s with net := { s.net with arrivals := aMod (fun _ => []) s.net.arrivals c (fun l => l ++ [⟨b, bytes⟩]) } }
  | .ring r =>
    if getF s (F.NET_RR_CFG_SIZE p r) = 0 then cnt s (R.NET_RX_DROP p)
    else if 65536 < inp.fifoRing + bytes.length then cnt s (R.NET_RX_FIFO p)
    else rrPlace p r f inp.stamp bytes s
  | .drop => cnt s (R.NET_RX_DROP p)

/-- A frame received at a port: size, FCS, address, then the classifier (R264 to R272).  A frame that a link loss cut counts
as one with a wrong FCS, whatever its size (R280). -/
def execRxFrame (p : Fin 4) (inp : RxIn) (s : State) : Out :=
  let n := inp.bytes.length
  .next (if getF s (F.NET_CFG_MODE p) = 0 then s
    else if !linkUp s p then
      (if (portOf s p).cut then portMod p (fun q => { q with cut := false }) (cnt s (R.NET_RX_FCS p)) else s)
    else if n ≤ 63 then cnt s (R.NET_RX_RUNT p)
    else if getF s (F.NET_MAXFRM_MAXFRM p) < n then cnt s (R.NET_RX_GIANT p)
    else if !fcsOk inp.bytes then cnt s (R.NET_RX_FCS p)
    else if !addressOk s p (beAt inp.bytes 0 6) then cnt s (R.NET_RX_ADDR p)
    else rxDeliver p inp (inp.bytes.take (n - 4)) (cnt s (R.NET_RX_FRAMES p)))

/-- A receive ring's TAIL is written (R270, R271). -/
def rrTailApply (p r : Nat) (v : Word) (s : State) : State :=
  let tail := v.toNat % 8192
  if r = 1 then s
  else if getF s (F.NET_RR_CFG_SIZE p r) < (tail + 8192 - getF s (F.NET_RR_HEAD_INDEX p r)) % 8192 then raise .netRingOvf p s
  else rrShow p r (setF s (F.NET_RR_TAIL_INDEX p r) tail)

/-- A write of a receive ring's TAIL (R270, R271). -/
def execRxRingTailWrite (p r : Fin 4) (v : Word) (s : State) : Out := .next (rrTailApply p r v s)

/-- Frames taken from a ring hold none of its descriptors any more. -/
def moabyForget (p : Nat) (s : State) : State :=
  { s with intake := { s.intake with
      cur := s.intake.cur.map (fun x => if x.1 = p then (x.1, x.2.map (fun (f : CurFrame) => { f with descs := 0 })) else x),
      ladleIn := s.intake.ladleIn.map (fun f => if f.1 = p then (f.1, 0, f.2.2) else f) } }

/-- Lay out ring 1: its descriptors with their buffers behind them, every descriptor free (R271). -/
def layRing1 (p : Nat) (s : State) : State :=
  let s := moabyForget p s
  let size := getF s (F.NET_RR_CFG_SIZE p 1)
  let base := getF s (F.NET_RR_BASE_BASE p 1)
  let words := (bufBytes s p 1 + 8) / 9
  let s := forNat size (fun i s =>
    wrWord72 (wrWord72 s poolBase (base + 2 * i) (base + 2 * size + i * words)) poolBase (base + 2 * i + 1) 0) s
  setF (setF s (F.NET_RR_HEAD_INDEX p 1) 0) (F.NET_RR_TAIL_INDEX p 1) size

/-- SIZE is 0 or a power of two from 16 to 4,096 (R268). -/
def ringSizeOk (n : Nat) : Bool := n == 0 || (List.range 9).any (fun k => n == 16 * 2 ^ k)

/-- A write of a ring's BASE or CFG (R268, R270, R271): it returns HEAD and TAIL to 0, and for ring 1 a write of CFG lays
the ring out.  NOBUF is left only under R272. -/
def ringCfgApply (p r : Nat) (tx isBase : Bool) (v : Word) (s : State) : State :=
  let s := match tx, isBase with
    | false, true => wr s (R.NET_RR_BASE p r) (v &&& 0x1FFFFFFE#32)
    | false, false => wr s (R.NET_RR_CFG p r) (v &&& 0x00071FFF#32)
    | true, true => wr s (R.NET_TR_BASE p r) (v &&& 0x1FFFFFFE#32)
    | true, false => wr s (R.NET_TR_CFG p r) (v &&& 0x00071FFF#32)
  if tx then
    portMod p (fun n => { n with
        inside := aErase n.inside r, overdue := aErase n.overdue r,
        sending := n.sending.map (fun x => if x.1 = r then (4, 0, x.2.2) else x) })
      (setF (setF s (F.NET_TR_HEAD_INDEX p r) 0) (F.NET_TR_TAIL_INDEX p r) 0)
  else
    let s := setF (setF s (F.NET_RR_HEAD_INDEX p r) 0) (F.NET_RR_TAIL_INDEX p r) 0
    rrShow p r (if r = 1 ∧ !isBase then layRing1 p s else s)

/-- Offset of a ring's BASE or CFG. -/
def ringCfgOff (p r : Nat) (tx isBase : Bool) : Nat :=
  match tx, isBase with
  | false, true => R.NET_RR_BASE p r
  | false, false => R.NET_RR_CFG p r
  | true, true => R.NET_TR_BASE p r
  | true, false => R.NET_TR_CFG p r

/-- A write of a ring's BASE or CFG by an interface. -/
def ringCfgWrite (via : Src) (p r : Nat) (tx isBase : Bool) (v : Word) (s : State) : State :=
  let off := ringCfgOff p r tx isBase
  let s := journalReg via off v s
  let onlyTc : Bool := tx && !isBase && fget v 12 0 == fget (rd s off) 12 0
  if running s ∧ !onlyTc then raise .errRwlWrite 0 s
  else if !isBase ∧ !(ringSizeOk (fget v 12 0) && (tx || fget v 18 16 ≤ 3)) then writeIgnored s
  else ringCfgApply p r tx isBase v s

/-- RING_CFG_WRITE. -/
def execRingCfgWrite (via : Src) (p r : Fin 4) (tx isBase : Bool) (v : Word) (s : State) : Out :=
  .next (ringCfgWrite via p r tx isBase v s)

/-! ### Transmit rings -/

/-- Word index of descriptor word k of a transmit ring. -/
def trDesc (s : State) (p r idx k : Nat) : Nat :=
  getF s (F.NET_TR_BASE_BASE p r) + 2 * (idx % max 1 (getF s (F.NET_TR_CFG_SIZE p r))) + k

/-- Published descriptors of a transmit ring. -/
def trAvail (s : State) (p r : Nat) : Nat :=
  (getF s (F.NET_TR_TAIL_INDEX p r) + 8192 - getF s (F.NET_TR_HEAD_INDEX p r)) % 8192

/-- Word 0 of the i-th published descriptor. -/
def trWord (s : State) (p r i : Nat) : Nat :=
  rdWord72 s dramBase (trDesc s p r (getF s (F.NET_TR_HEAD_INDEX p r) + i) 0)

/-- Descriptors of the frame at a ring's head: up to its EOP; none where TAIL lies inside it. -/
def trCount (s : State) (p r : Nat) : Option Nat :=
  ((List.range (trAvail s p r)).find? (fun i => bit (trWord s p r i) 46)).map (· + 1)

/-- The bytes of the first n descriptors. -/
def trBytes (s : State) (p r n : Nat) : List Byte :=
  ((List.range n).map (fun i => let w := trWord s p r i; rdPacked s dramBase (bits w 28 0) (bits w 43 32))).flatten

/-- REASON codes of R274. -/
inductive TxReason where
  | oversize | nofit | standby | link | baddesc
deriving DecidableEq, Repr

/-- The code of a reason and its counter. -/
def txReason (p : Nat) : TxReason → Nat × Nat
  | .oversize => (1, R.NET_TX_OVERSIZE p)
  | .nofit => (2, R.NET_TX_NOFIT p)
  | .standby => (3, R.NET_TX_STBY p)
  | .link => (4, R.NET_TX_LINK p)
  | .baddesc => (5, R.NET_TX_BADDESC p)

/-- Index at which the frame begins that a ring's TAIL lies inside; none where the last published descriptor is an EOP. -/
def trInside (s : State) (p r : Nat) : Option Nat :=
  let n := trAvail s p r
  let done := ((List.range n).filter (fun i => bit (trWord s p r i) 46)).foldl (fun m i => max m (i + 1)) 0
  if done < n then some ((getF s (F.NET_TR_HEAD_INDEX p r) + done) % 8192) else none

/-- Complete the first n descriptors of a ring, with a reason where the frame is refused, and advance HEAD (R273, R274). -/
def trComplete (p r n : Nat) (reason : Nat) (s : State) : State :=
  let h := getF s (F.NET_TR_HEAD_INDEX p r)
  let past := fun (i : Nat) => decide ((i + 8192 - h) % 8192 < n)
  let s := forNat n (fun i s =>
    let k := trDesc s p r (getF s (F.NET_TR_HEAD_INDEX p r) + i) 0
    let w := putBits (putBits (rdWord72 s dramBase k) 44 44 1) 53 50 reason
    wrWord72 s dramBase k (if reason = 0 then w else putBits w 47 47 1)) s
  portMod p (fun q => { q with
      inside := q.inside.filter (fun x => !(x.1 == r && past x.2.1)), overdue := q.overdue.filter (fun x => !(x.1 == r && past x.2)) })
    (setF s (F.NET_TR_HEAD_INDEX p r) (h + n))

/-- Refuse the frame at a ring's head (R274). -/
def trRefuse (p r n : Nat) (why : TxReason) (s : State) : State :=
  raise .netTxReject p (trComplete p r n (txReason p why).1 (cnt s (txReason p why).2))

/-- A transmit ring's TAIL is written (R270, R273). -/
def trTailApply (p r : Nat) (v : Word) (s : State) : State :=
  let tail := v.toNat % 8192
  if getF s (F.NET_TR_CFG_SIZE p r) < (tail + 8192 - getF s (F.NET_TR_HEAD_INDEX p r)) % 8192 then raise .netRingOvf p s
  else
    let s := setF s (F.NET_TR_TAIL_INDEX p r) tail
    let was := ((portOf s p).inside.find? (fun x => x.1 == r)).map (fun x => x.2)
    portMod p (fun q => { q with inside := match trInside s p r, was with
      | none, _ => aErase q.inside r
      | some i, some (j, at_) => aInsert q.inside r (i, if i = j then at_ else s.msi)
      | some i, none => aInsert q.inside r (i, s.msi) }) s

/-- A write of a transmit ring's TAIL (R270, R273). -/
def execTxRingTailWrite (p r : Fin 4) (v : Word) (s : State) : Out := .next (trTailApply p r v s)

/-- A TAIL left inside a frame for more than one block refuses the frame with BADDESC (R274): at once at its ring's head, and
behind other frames once it comes to the head. -/
def execTxTailTimeout (p r : Fin 4) (s : State) : Out :=
  .next (match (portOf s p).inside.find? (fun x => x.1 == r.val) with
    | none => s
    | some (_, i, at_) =>
      if at_ + 16 < s.msi ∧ trInside s p r = some i then
        (if trCount s p r = none then trRefuse p r (trAvail s p r) .baddesc s
         else portMod p (fun q => { q with overdue := aInsert q.overdue r i }) s)
      else s)

/-! ### Gates -/

/-- The operational list as (start, gates) with its cycle: entry i starts where the intervals before it end, and what starts
at or after the cycle's end is cut (R276). -/
def gateStarts (s : State) (p n : Nat) : List (Nat × Nat) :=
  ((List.range n).foldl (fun (acc : List (Nat × Nat) × Nat) i =>
    (acc.1 ++ [(acc.2, getF s (F.NET_GCL_OPER_GATES p i))], acc.2 + getF s (F.NET_GCL_OPER_INTERVAL p i))) ([], 0)).1

/-- The list as (length, gates) segments that fill one cycle. -/
def gateSegs (s : State) (p : Nat) : List (Nat × Nat) :=
  let q := portOf s p
  let st := (gateStarts s p q.operLen).filter (fun x => x.1 < q.operCycle)
  (List.range st.length).map (fun i =>
    match st[i]?, st[i + 1]? with
    | some a, some b => (b.1 - a.1, a.2)
    | some a, none => (q.operCycle - a.1, a.2)
    | none, _ => (0, 0))

/-- Length of the open run of a class at the start of a segment list. -/
def openRun (t : Nat) : List (Nat × Nat) → Nat
  | [] => 0
  | (len, g) :: rest => if bit g t then len + openRun t rest else 0

/-- Drop a time from the front of a segment list. -/
def dropTime : Nat → List (Nat × Nat) → List (Nat × Nat)
  | _, [] => []
  | ns, (len, g) :: rest => if ns < len then (len - ns, g) :: rest else dropTime (ns - len) rest

/-- How long the gate of class t stays open from a cycle time on; none for ever (R276, R277). -/
def openFor (s : State) (p t ns : Nat) : Option Nat :=
  if getF s (F.NET_GCL_STATE_OPER_EN p) = 0 then none
  else
    let g := gateSegs s p
    if g.all (fun x => bit x.2 t) then none
    else some (openRun t (dropTime (ns % max 1 (portOf s p).operCycle) (g ++ g)))

/-- The longest continuous open window of a class; none for ever. -/
def longestOpen (s : State) (p t : Nat) : Option Nat :=
  if getF s (F.NET_GCL_STATE_OPER_EN p) = 0 then none
  else
    let g := gateSegs s p
    if g.all (fun x => bit x.2 t) then none
    else some ((List.range g.length).foldl (fun m i => max m (openRun t ((g ++ g).drop i))) 0)

/-- Does a frame of n bytes without FCS fit a window (R277)? -/
def fitsWindow (s : State) (p n : Nat) : Option Nat → Bool
  | none => true
  | some w => (max n 60 + 4 + 20) * 8 * 1000 ≤ w * lineMbps s p

/-- Why the frame at a ring's head is refused, if it is (R274, R277). -/
def trVerdict (s : State) (p r n : Nat) : Option TxReason :=
  let len := (List.range n).foldl (fun a i => a + bits (trWord s p r i) 43 32) 0
  let overdue : Bool := (portOf s p).overdue.any (fun x => x.1 == r && x.2 == getF s (F.NET_TR_HEAD_INDEX p r))
  if overdue ∨ 8 < n ∨ !bit (trWord s p r 0) 45 ∨ (List.range n).any (fun i => bits (trWord s p r i) 43 32 == 0) then some .baddesc
  else if getF s (F.NET_MAXFRM_MAXFRM p) < max len 60 + 4 then some .oversize
  else if !linkUp s p then some .link
  else if isPair s ∧ !isActive s then some .standby
  else if !fitsWindow s p len (longestOpen s p (getF s (F.NET_TR_CFG_TC p r))) then some .nofit
  else none

/-- The frame a source has at its head, by source number: its class and bytes. -/
def headFrame (s : State) (p src : Nat) : Option (Nat × List Byte) :=
  let q := portOf s p
  let first := fun (l : List TxItem) => l.head?.map (fun (x : TxItem) => (x.tc, x.bytes))
  match src with
  | 0 => first q.streams
  | 1 => first q.acks
  | 2 => first q.ladle
  | n =>
    match trCount s p (n - 3) with
    | none => none
    | some k => some (getF s (F.NET_TR_CFG_TC p (n - 3)), trBytes s p (n - 3) k)

/-- The first stream frame of a class. -/
def streamHead (s : State) (p tc : Nat) : Option TxItem := (portOf s p).streams.find? (fun x => x.tc == tc)

/-- The head frame of a source in a class, if it has one there. -/
def headIn (s : State) (p tc src : Nat) : Option (List Byte) :=
  if src = 0 then (streamHead s p tc).map (fun x => x.bytes)
  else match headFrame s p src with
    | some (t, b) => if t = tc then some b else none
    | none => none

/-- The sources in the order of their turns in a class (R273). -/
def turnOrder (s : State) (p tc : Nat) : List Nat :=
  let last := aGet (fun _ => 6) (portOf s p).turn tc
  (List.range 7).map (fun i => (last + 1 + i) % 7)

/-- The next frame to start at a cycle time: class, source and bytes (R273, R276, R277). -/
def nextFrame (s : State) (p ns : Nat) : Option (Nat × Nat × List Byte) :=
  (List.range 8).findSome? (fun i =>
    let tc := 7 - i
    (turnOrder s p tc).findSome? (fun src =>
      match headIn s p tc src with
      | none => none
      | some b => if fitsWindow s p b.length (openFor s p tc ns) then some (tc, src, b) else none))

/-- Pad a frame to 60 bytes (R274). -/
def padFrame (b : List Byte) : List Byte := b ++ List.replicate (60 - b.length) 0

/-- Take one frame from a hardware source's queue; a ring's frame stays until it is sent (R273). -/
def takeHead (p tc src : Nat) (s : State) : State :=
  match src with
  | 0 => match streamHead s p tc with
    | none => s
    | some x => portMod p (fun q => { q with streams := q.streams.erase x }) (cnt s (R.STR_TX_PKT x.ctx))
  | 1 => portMod p (fun q => { q with acks := q.acks.drop 1 }) s
  | 2 => portMod p (fun q => { q with ladle := q.ladle.drop 1 }) s
  | _ => s

/-- Write the transmit stamp of a ring frame that asks for it (R274). -/
def txStamp (p src stamp : Nat) (s : State) : State :=
  if src < 3 then s
  else
    let r := src - 3
    let h := getF s (F.NET_TR_HEAD_INDEX p r)
    let w := trWord s p r 0
    if bit w 48 then
      let s := wrWord72 s dramBase (trDesc s p r h 1) (stampWord s p stamp true)
      wrWord72 s dramBase (trDesc s p r h 0) (putBits (putBits w 49 49 1) 55 54 (stampTb s p))
    else s

/-- The time on the line, in stamps, of a frame of n bytes without FCS: with preamble, delimiter, FCS and gap (R277). -/
def lineStamps (s : State) (p n : Nat) : Nat := ((max n 60 + 4 + 20) * 8 * stampsPerSec) / (lineMbps s p * 1000000)

/-- Start a frame on the line, with its FCS (R274). -/
def txStart (p tc src stamp : Nat) (b : List Byte) (s : State) : State :=
  let sent := (if src < 3 then 4 else src - 3, if src < 3 then 0 else (trCount s p (src - 3)).getD 0, stamp + lineStamps s p b.length)
  let s := takeHead p tc src (txStamp p src stamp (cnt s (R.NET_TX_FRAMES p)))
  let f := padFrame b
  portMod p (fun q => { q with line := f ++ leBytes 4 (crc32 f), sending := some sent, waking := none,
                               turn := aInsert q.turn tc src }) s

/-- The frame on the line has left: the descriptors of a ring frame are completed (R273, R274).  Without `now` only a frame
whose time on the line is over. -/
def txSettle (p : Nat) (now : Bool) (s : State) : State :=
  match (portOf s p).sending with
  | none => s
  | some (r, n, end_) =>
    if now ∨ end_ ≤ nowStamp s then
      let s := portMod p (fun q => { q with sending := none }) s
      if r < 4 then trComplete p r n 0 s else s
    else s

/-- The first ring whose head frame is refused, with its descriptors and reason; a frame that TAIL was left inside for too long
is refused with what is published of it (R274). -/
def refusedRing (s : State) (p : Nat) : Option (Nat × Nat × TxReason) :=
  (List.range 4).findSome? (fun r =>
    match trCount s p r with
    | none =>
      if 0 < trAvail s p r && (portOf s p).overdue.any (fun x => x.1 == r && x.2 == getF s (F.NET_TR_HEAD_INDEX p r)) then
        some (r, trAvail s p r, .baddesc)
      else none
    | some n => (trVerdict s p r n).map (fun w => (r, n, w)))

/-- Discard queued stream frames, each with its context's counter and, unless the link is down, TX_DROP (R300). -/
def dropStreams (p : Nat) (bad : TxItem → Bool) (counter : Nat → Nat) (err : Bool) (s : State) : State :=
  let gone := (portOf s p).streams.filter bad
  let s := portMod p (fun q => { q with streams := q.streams.filter (fun x => !bad x) }) s
  forEach gone (fun x s => let s := cnt s (counter x.ctx); if err then raise .strTxDrop x.ctx s else s) s

/-- Frames of hardware sources that no window of their class can hold are discarded and counted in TX_NOFIT (R277); stream
frames above a MAXFRM lowered since they were queued are discarded (R303). -/
def dropNofit (p : Nat) (s : State) : State :=
  let s := dropStreams p (fun x => decide (getF s (F.NET_MAXFRM_MAXFRM p) < max 64 (x.bytes.length + 4))) R.STR_TX_DROP true s
  let bad := fun (x : TxItem) => !fitsWindow s p x.bytes.length (longestOpen s p x.tc)
  let q := portOf s p
  let n := ((q.streams ++ q.acks ++ q.ladle).filter bad).length
  let s := dropStreams p bad R.STR_TX_DROP true (cntAdd s (R.NET_TX_NOFIT p) n)
  portMod p (fun q => { q with acks := q.acks.filter (fun x => !bad x), ladle := q.ladle.filter (fun x => !bad x) }) s

/-- A woken transmitter has not yet had TW_TX since it began to wake (R279). -/
def wakingAt (s : State) (p stamp : Nat) : Bool :=
  match (portOf s p).waking with
  | none => false
  | some w => decide (stamp < w + getF s (F.NET_EEE_TW_TX p) * (stampsPerSec / 10000000))

/-- The line is free: the next frame a port may start at a cycle time of its gate list starts; a ring frame that R274 refuses
at its ring's head is refused instead (R273 to R277).  A frame waits for the wake time (R279). -/
def txFrame (p cycleNs stamp : Nat) (s : State) : State :=
  let s := dropNofit p (txSettle p true s)
  match refusedRing s p with
    | some (r, n, why) => trRefuse p r n why s
    | none =>
      if !linkUp s p ∨ !gateOpen s ∨ getF s (F.NET_LINK_TX_LPI p) = 1 ∨ wakingAt s p stamp then s
      else match nextFrame s p cycleNs with
        | none => s
        | some (tc, src, b) => txStart p tc src stamp b s

/-- TX_FRAME; in the safe state, and at a port whose DMA is marked, every source is held (R411, R432). -/
def execTxFrame (p : Fin 4) (cycleNs stamp : BitVec 64) (s : State) : Out :=
  .next (if s.err.fatal || bit (getF s F.BST_MAP_MAP) (21 + p.val) then s else txFrame p cycleNs.toNat stamp.toNat s)

/-- Queue a frame of the ACK or ladle source; the port's link must be UP (R273). -/
def queueAck (p tc : Nat) (b : List Byte) (s : State) : State :=
  if linkUp s p then portMod p (fun q => { q with acks := q.acks ++ [⟨tc, 256, b⟩] }) s
  else cnt s (R.NET_TX_LINK p)

/-- Queue a ladle frame. -/
def queueLadle (p tc : Nat) (b : List Byte) (s : State) : State :=
  if linkUp s p then portMod p (fun q => { q with ladle := q.ladle ++ [⟨tc, 256, b⟩] }) s
  else cnt s (R.NET_TX_LINK p)

/-! ### Link -/

/-- A link loss cuts the frame on the line: a ring frame is completed under LINK, any other is lost (R275). -/
def txCut (p : Nat) (s : State) : State :=
  let s := txSettle p false s
  match (portOf s p).sending with
  | none => s
  | some (r, n, _) =>
    let s := portMod p (fun q => { q with sending := none }) s
    if r < 4 then trRefuse p r n .link s else s

/-- A port's link is lost (R263, R275, R280): queued frames of hardware sources are discarded as for a link that is not UP. -/
def portLost (p : Nat) (s : State) : State :=
  let s := txCut p s
  let s := setF (setF (setF s (F.NET_LINK_STATE p) (if getF s (F.NET_CFG_MODE p) = 0 then 0 else 1))
    (F.NET_LINK_TX_LPI p) 0) (F.NET_LINK_AN_DONE p) 0
  let s := setF (setF s (F.NET_LINK_FEC p) 0) (F.NET_LINK_RX_LPI p) 0
  let s := dropStreams p (fun _ => true) R.STR_TX_LINK false s
  let q := portOf s p
  let s := cntAdd s (R.NET_TX_LINK p) (q.acks.length + q.ladle.length)
  let s := portMod p (fun q => { q with acks := [], ladle := [], waking := none, cut := true }) s
  raise .netLinkDown p (cnt s (R.NET_LINKDN_CNT p))

/-- LINK_DOWN. -/
def execLinkDown (p : Fin 4) (s : State) : Out := .next (if linkUp s p then portLost p s else s)

/-- A write of NETn_CFG: a port that changes its line mode loses its link, and is DISABLED in MODE 0 and else DOWN (R262, R263). -/
def modeApply (p : Nat) (was : Nat) (s : State) : State :=
  let mode := getF s (F.NET_CFG_MODE p)
  if mode = was then s
  else if linkUp s p then portLost p s
  else setF s (F.NET_LINK_STATE p) (if mode = 0 then 0 else 1)

/-- A port's link comes UP (R262, R263): in MODE 4 with AN_EN once auto-negotiation is complete; an SGMII word with an
unsupported speed or duplex keeps it DOWN, or takes it there. -/
def execLinkUp (p : Fin 4) (badSpeed anDone : Bool) (s : State) : Out :=
  let mode := getF s (F.NET_CFG_MODE p)
  .next (if mode = 0 then s
    else if mode = 5 ∧ badSpeed then
      setF (if linkUp s p then portLost p s else s) (F.NET_LINK_SPD_ERR p) 1
    else if (mode = 4 ∧ getF s (F.NET_CFG_AN_EN p) = 1 ∧ !anDone) ∨ linkUp s p then s
    else
      let s := portMod p (fun q => { q with cut := false }) s
      let s := setF (setF s (F.NET_LINK_STATE p) 2) (F.NET_LINK_SPD_ERR p) 0
      let s := setF (setF s (F.NET_LINK_AN_DONE p) (b2n anDone)) (F.NET_LINK_FEC p) (b2n (mode == 2))
      setBit s (F.NET_STAT_LINK_UP p))

/-! ### The gate list -/

/-- Report a gate command. -/
def gclResult (p cmd reason : Nat) (s : State) : State :=
  let s := setF (setF s (F.NET_GCL_STATE_CMD p) cmd) (F.NET_GCL_STATE_REASON p) reason
  if reason = 0 then s else raise .netGclRefused p s

/-- The shadow list is within its ranges (R278). -/
def gclRangeOk (s : State) (p : Nat) : Bool :=
  let len := getF s (F.NET_GCL_CTL_LEN p)
  let cyc := getF s (F.NET_GCL_CYCLE_CYCLE p)
  1 ≤ len && len ≤ 256 && 1000 ≤ cyc && cyc ≤ 1000000000 &&
  (List.range len).all (fun i => 1 ≤ getF s (F.NET_GCL_SHD_INTERVAL p i))

/-- COMMIT (R278). -/
def gclCommit (via : Src) (p : Nat) (s : State) : State :=
  let s := journalReg via (R.NET_GCL_CMD p) 1 s
  let m := rd64 s (R.NET_GCL_MSI_LO p) (R.NET_GCL_MSI_HI p)
  if isLate s m then gclResult p 1 2 s
  else if (portOf s p).gclPend.isSome then gclResult p 1 1 s
  else if !gclRangeOk s p then gclResult p 1 3 s
  else gclResult p 1 0 (setF (portMod p (fun q => { q with gclPend := some (ceil16 m) }) s) (F.NET_GCL_STATE_PEND p) 1)

/-- GCL_COMMIT. -/
def execGclCommit (via : Src) (p : Fin 4) (s : State) : Out := .next (gclCommit via p s)

/-- CANCEL (R278). -/
def gclCancel (via : Src) (p : Nat) (s : State) : State :=
  let s := journalReg via (R.NET_GCL_CMD p) 2 s
  match (portOf s p).gclPend with
  | none => gclResult p 2 5 s
  | some k =>
    if inTime s k then
      gclResult p 2 0 (setF (portMod p (fun q => { q with gclPend := none }) s) (F.NET_GCL_STATE_PEND p) 0)
    else gclResult p 2 4 s

/-- GCL_CANCEL. -/
def execGclCancel (via : Src) (p : Fin 4) (s : State) : Out := .next (gclCancel via p s)

/-- The shadow list becomes operational, and its first cycle begins (R278). -/
def gclApply (p : Nat) (s : State) : State :=
  let len := getF s (F.NET_GCL_CTL_LEN p)
  let s := forNat len (fun i s => wr s (R.NET_GCL_OPER p i) (rd s (R.NET_GCL_SHD p i))) s
  let s := setF (setF (setF s (F.NET_GCL_STATE_OPER_EN p) (getF s (F.NET_GCL_CTL_EN p))) (F.NET_GCL_STATE_PEND p) 0)
    (F.NET_GCL_STATE_ENTRY p) 0
  let s := portMod p (fun q => { q with gclPend := none, operLen := len,
                                        operCycle := getF s (F.NET_GCL_CYCLE_CYCLE p), entryAt := 0,
                                        entrySince := nowStamp s }) s
  setBit s (F.NET_STAT_GCL_APPLIED p)

/-- GCL_APPLY: at the strobe of its block. -/
def execGclApply (p : Fin 4) (s : State) : Out :=
  .next (match (portOf s p).gclPend with
    | some k => if due s k then gclApply p s else s
    | none => s)

/-- The entry in force ends, at its interval or at the end of the cycle, and the next takes effect (R276). -/
def execGclEntryAdvance (p : Fin 4) (s : State) : Out :=
  let q := portOf s p
  let i := getF s (F.NET_GCL_STATE_ENTRY p)
  let at_ := q.entryAt + getF s (F.NET_GCL_OPER_INTERVAL p i)
  .next (if getF s (F.NET_GCL_STATE_OPER_EN p) = 0 then s
    else if q.operLen ≤ i + 1 ∨ q.operCycle ≤ at_ then
      setF (portMod p (fun q => { q with entryAt := 0, entrySince := nowStamp s }) s) (F.NET_GCL_STATE_ENTRY p) 0
    else setF (portMod p (fun q => { q with entryAt := at_, entrySince := nowStamp s }) s) (F.NET_GCL_STATE_ENTRY p) (i + 1))

/-! ### Low-power idle -/

/-- Every transmit queue and hardware source of a port is empty. -/
def txEmpty (s : State) (p : Nat) : Bool :=
  let q := portOf s p
  q.sending.isNone && q.streams.isEmpty && q.acks.isEmpty && q.ladle.isEmpty && (List.range 4).all (fun r => trAvail s p r == 0)

/-- Time in ns until a gate of one of the classes opens, in a segment list; none within it. -/
def untilOpen (classes : Nat) : List (Nat × Nat) → Option Nat
  | [] => none
  | (len, g) :: rest =>
    if g &&& classes ≠ 0 then some 0 else (untilOpen classes rest).map (· + len)

/-- No honoured gate opens within TW_TX + MIN_LPI of a cycle time (R279). -/
def lpiClear (s : State) (p ns : Nat) : Bool :=
  getF s (F.NET_GCL_STATE_OPER_EN p) == 0 ||
  (let g := gateSegs s p
   match untilOpen (getF s (F.NET_EEE_WAKE_TCS p)) (dropTime (ns % max 1 (portOf s p).operCycle) (g ++ g)) with
   | none => true
   | some t => getF s (F.NET_EEE_TW_TX p) * 100 + getF s (F.NET_EEE_MIN_LPI p) * 1000 ≤ t)

/-- The transmitter enters low-power idle at a cycle time, where R279's conditions hold. -/
def execLpiEnter (p : Fin 4) (cycleNs : BitVec 64) (s : State) : Out :=
  let mode := getF s (F.NET_CFG_MODE p)
  let s := txSettle p true s
  .next (if 3 ≤ mode ∧ mode ≤ 5 ∧ getF s (F.NET_CFG_LPI_EN p) = 1 ∧ linkUp s p ∧ getF s (F.NET_LINK_TX_LPI p) = 0 ∧
      txEmpty s p ∧ lpiClear s p cycleNs.toNat then
      cnt (setF s (F.NET_LINK_TX_LPI p) 1) (R.NET_LPI_CNT p)
    else s)

/-- The classes that have a frame at a source's head, as a mask. -/
def queuedClasses (s : State) (p : Nat) : Nat :=
  (List.range 8).foldl (fun m tc => if (List.range 7).any (fun src => (headIn s p tc src).isSome) then m + 2 ^ tc else m) 0

/-- The present cycle time of a port's gate list, to a media frame (log 241). -/
def cycleNow (s : State) (p : Nat) : Nat :=
  (portOf s p).entryAt + (nowStamp s - (portOf s p).entrySince) * 1000 / (stampsPerSec / 1000000)

/-- Some gate of a set of classes opens within TW_TX, give or take the media frame in which the instant falls, or is open. -/
def opensSoon (s : State) (p classes : Nat) : Bool :=
  let g := gateSegs s p
  match untilOpen classes (dropTime (cycleNow s p % max 1 (portOf s p).operCycle) (g ++ g)) with
  | none => false
  | some t => decide (t ≤ getF s (F.NET_EEE_TW_TX p) * 100 + 1000000000 / fsInt s)

/-- The transmitter starts waking where R279 has it wake: on a queued frame, whose gate opens within TW_TX with gating on; or
TW_TX before a gate of WAKE_TCS opens.  Its first frame follows TW_TX later. -/
def execLpiWake (p : Fin 4) (s : State) : Out :=
  let gating : Bool := getF s (F.NET_GCL_STATE_OPER_EN p) == 1
  let queued := queuedClasses s p
  .next (if getF s (F.NET_LINK_TX_LPI p) = 1 ∧
      (if gating then opensSoon s p (queued ||| getF s (F.NET_EEE_WAKE_TCS p)) else queued != 0) then
      portMod p (fun q => { q with waking := some (nowStamp s) }) (setF s (F.NET_LINK_TX_LPI p) 0)
    else s)

end Sys2Proof.Machine
end

