-- ==== Sys2Proof/Machine/Ladle.lean ====
section
/-! DEFINITION. Frames the device builds itself: UDP over IPv4 and IPv6, Moaby frames, records (spec/05_objects.md R115,
R118, R130; spec/12_streams.md R298 for the IP header fields; spec/17_manager_and_workers.md R388, R389). -/

namespace Sys2Proof.Machine

/-- Big-endian bytes of a number. -/
def be (n w : Nat) : List Byte := beBytes n w

/-- A port's Ethernet address. -/
def portMac (s : State) (p : Nat) : Nat := macOf (rdN s (R.NET_MAC_LO p)) (rdN s (R.NET_MAC_HI p))

/-- A port's IP address (STR_IPp). -/
def portIp (s : State) (p : Nat) (v6 : Bool) : Nat := addrOf s (R.STR_IP p) v6

/-- The IPv4 header checksum of a header whose checksum bytes are zero. -/
def ipSumOf (h : List Byte) : Nat := 0xFFFF - fold16 (sum16 h)

/-- UDP over IPv4: TTL 64, DF, identification 0, UDP checksum 0 (R298). -/
def ipv4Packet (dscp src dst sport dport : Nat) (body : List Byte) : List Byte :=
  let h := fun (sum : Nat) => be 1 0x45 ++ be 1 (dscp * 4) ++ be 2 (28 + body.length) ++ be 2 0 ++ be 2 0x4000 ++ be 1 64 ++
    be 1 17 ++ be 2 sum ++ be 4 src ++ be 4 dst
  h (ipSumOf (h 0)) ++ be 2 sport ++ be 2 dport ++ be 2 (8 + body.length) ++ be 2 0 ++ body

/-- UDP over IPv6: hop limit 64 and a computed checksum (R298). -/
def ipv6Packet (dscp src dst sport dport : Nat) (body : List Byte) : List Byte :=
  let len := 8 + body.length
  let udp := fun (sum : Nat) => be 2 sport ++ be 2 dport ++ be 2 len ++ be 2 sum ++ body
  let pseudo := be 16 src ++ be 16 dst ++ be 4 len ++ be 4 17
  let c := 0xFFFF - fold16 (fold16 (sum16 (pseudo ++ udp 0)))
  be 4 (6 * 2 ^ 28 + dscp * 2 ^ 22) ++ be 2 len ++ be 1 17 ++ be 1 64 ++ be 16 src ++ be 16 dst ++ udp (if c = 0 then 0xFFFF else c)

/-- An Ethernet frame with an optional tag (PCP and VID). -/
def etherFrame (dst src : Nat) (tag : Option (Nat × Nat)) (etype : Nat) (body : List Byte) : List Byte :=
  be 6 dst ++ be 6 src ++ (match tag with
    | none => []
    | some (pcp, vid) => be 2 0x8100 ++ be 2 (pcp * 8192 + vid)) ++ be 2 etype ++ body

/-- A UDP frame from a port. -/
def udpFrame (s : State) (p : Nat) (v6 : Bool) (mac dst sport dport : Nat) (body : List Byte) : List Byte :=
  if v6 then etherFrame mac (portMac s p) none 0x86DD (ipv6Packet 0 (portIp s p true) dst sport dport body)
  else etherFrame mac (portMac s p) none 0x0800 (ipv4Packet 0 (portIp s p false) dst sport dport body)

/-- A Moaby frame: header, entries and CRC-32C trailer (R115). -/
def moabyFrame (s : State) (ty count fmt flags seq : Nat) (entries : List Byte) : List Byte :=
  let h := leBytes 2 0x424D ++ leBytes 1 1 ++ leBytes 1 ty ++ leBytes 2 count ++ leBytes 1 fmt ++ leBytes 1 flags ++
    leBytes 8 (rd64 s R.OBJ_SENDER_LO R.OBJ_SENDER_HI) ++ leBytes 4 seq ++ leBytes 4 0 ++ entries
  h ++ leBytes 4 (crc32c h)

/-! ### Records -/

/-- A signed 36-bit field in its 8-byte slot (R66). -/
def slotBytes (x : Int) : List Byte := leBytes 8 (code 64 x)

/-- The three slots of a vector. -/
def v3Bytes (v : V3) : List Byte := slotBytes v.x ++ slotBytes v.y ++ slotBytes v.z

/-- The 112 bytes of a record (R118). -/
def recBytes112 (r : Rec) : List Byte :=
  leBytes 2 r.obj ++ leBytes 1 r.seg ++ leBytes 1 r.prio ++ leBytes 2 r.flags ++ leBytes 2 r.spread ++ leBytes 4 r.seq ++
  leBytes 4 r.ns ++ leBytes 8 r.sec ++ leBytes 2 r.frac ++ leBytes 2 r.dur ++ leBytes 4 0 ++ slotBytes r.gain ++
  v3Bytes r.p ++ v3Bytes r.v ++ v3Bytes r.a

/-- The signed 36-bit field of a slot, whatever its extension bits. -/
def slot36 (bs : List Byte) (off : Nat) : Int := sx 36 (leAt bs off 8)

/-- A vector of three slots. -/
def slotV3 (bs : List Byte) (off : Nat) : V3 := ⟨slot36 bs off, slot36 bs (off + 8), slot36 bs (off + 16)⟩

/-- Read a record (R118). -/
def recOf (b : List Byte) : Rec :=
  { obj := leAt b 0 2, seg := leAt b 2 1, prio := leAt b 3 1, flags := leAt b 4 2, spread := leAt b 6 2, seq := leAt b 8 4,
    ns := leAt b 12 4, sec := leAt b 16 8, frac := leAt b 24 2, dur := leAt b 26 2, gain := slot36 b 32,
    p := slotV3 b 40, v := slotV3 b 64, a := slotV3 b 88 }

/-! ### Ladle frames -/

/-- A ladle frame to the group in HIER_LADDR or HIER_AADDR (R388); a closed claim gate lets none out (R398). -/
def ladleSend (group ty count : Nat) (entries : List Byte) (s : State) : State :=
  let p := getF s F.HIER_CFG_PORT
  let seq := s.hier.frameSeq
  let s := { s with hier := { s.hier with frameSeq := (seq + 1) % 2 ^ 32 } }
  let up := getF s F.OBJ_CFG_UDP_PORT
  let body := moabyFrame s ty count (getF s F.TSU_MEDIA_CFG_CMP) 0 seq entries
  if gateOpen s then queueLadle p (getF s F.HIER_CFG_TC) (udpFrame s p false (mcastMac false group) group up up body) s else s

/-- Cut a list into pieces of at most n. -/
def chunks {α : Type} (n : Nat) : Nat → List α → List (List α)
  | 0, _ => []
  | f + 1, l => if l.isEmpty then [] else l.take n :: chunks n f (l.drop n)

/-- Send entries of one type in as few frames as NETn_MAXFRM allows (R388). -/
def ladleSendAll (group ty size most : Nat) (entries : List (List Byte)) (s : State) : State :=
  let fit := min most ((getF s (F.NET_MAXFRM_MAXFRM (getF s F.HIER_CFG_PORT)) - 74) / size)
  forEach (chunks (max 1 fit) entries.length entries) (fun c s => ladleSend group ty c.length c.flatten s) s

/-- The manager's group and the workers' group. -/
def ladleGroup (s : State) : Nat := rdN s R.HIER_LADDR
def answerGroup (s : State) : Nat := rdN s R.HIER_AADDR

/-- A LADLE_REC entry (R389). -/
def ladleRecEntry (g : Seg) (litem : Nat) : List Byte :=
  recBytes112 g.rcd ++ leBytes 8 g.e ++ leBytes 4 litem ++ leBytes 4 0

/-- A LADLE_ACK entry. -/
def ladleAckEntry (s : State) (litem status reason : Nat) : List Byte :=
  leBytes 4 litem ++ leBytes 1 (getF s F.HIER_CFG_UNIT) ++ leBytes 1 status ++ leBytes 1 reason ++ leBytes 1 0

/-- A LADLE_DECIDE entry. -/
def ladleDecideEntry (d : Nat × Nat × Nat) : List Byte :=
  leBytes 4 d.1 ++ leBytes 1 d.2.1 ++ leBytes 1 d.2.2 ++ leBytes 2 0

/-- Send some entries of a TYPE to the group that takes it, in as few frames as they fit (R388). -/
def ladleOut (ty : Nat) (entries : List (List Byte)) (s : State) : State :=
  match ty with
  | 0x10 => ladleSendAll (ladleGroup s) 0x10 128 15 entries s
  | 0x11 => ladleSendAll (answerGroup s) 0x11 8 128 entries s
  | _ => ladleSendAll (ladleGroup s) ty 8 128 entries s

/-- Send an entry: with those that it shares a frame with, or at once. -/
def ladlePut (ty : Nat) (entry : List Byte) (s : State) : State :=
  match s.hier.outbox with
  | none => ladleOut ty [entry] s
  | some q => { s with hier := { s.hier with outbox := some (q ++ [(ty, entry)]) } }

/-- From here on entries wait for each other. -/
def ladleOpen (s : State) : State := { s with hier := { s.hier with outbox := some (s.hier.outbox.getD []) } }

/-- Send the entries that have waited. -/
def ladleFlush (s : State) : State :=
  match s.hier.outbox with
  | none => s
  | some q =>
    forEach [0x10, 0x11, 0x12] (fun ty s => ladleOut ty ((q.filter (fun e => e.1 == ty)).map (fun e => e.2)) s)
      { s with hier := { s.hier with outbox := none } }

/-- Do something whose entries of one TYPE share frames, and where entries wait already, theirs. -/
def ladleBatch (f : State → State) (s : State) : State :=
  if s.hier.outbox.isSome then f s else ladleFlush (f (ladleOpen s))

/-- Send DECIDE for a record, now and once more at the next strobe (R393). -/
def ladleDecide (litem verdict reason : Nat) (s : State) : State :=
  let d := (litem, verdict, reason)
  ladlePut 0x12 (ladleDecideEntry d) { s with hier := { s.hier with redecide := s.hier.redecide ++ [d] } }

/-- The workers that are MEMBER. -/
def members (s : State) : List Nat := (List.range 16).filter (fun w => 1 ≤ w && getF s (F.HIER_WSTATE_STATE w) == 2)

end Sys2Proof.Machine
end

