-- ==== Sys2Proof/Machine/Objects.lean ====
section
/-! DEFINITION. Objects: the intake engine, judgement, acceptance, acknowledgement, trajectories and commands
(spec/05_objects.md R112 to R135; spec/01_architecture.md R32; spec/02_media_time_and_latency.md R57 to R61). -/

namespace Sys2Proof.Machine

/-! ### Records -/

/-- Record reasons (R125). -/
inductive RecReason where
  | none | objUnalloc | objRange | segType | fieldRange | fieldUnused | reserved | applyFmt | late | early | stale | order
  | queueFull | unprotected | notRunning | shed | notActive
deriving DecidableEq, Repr

/-- The code of a reason. -/
def recReason : RecReason → Nat
  | .none => 0x00 | .objUnalloc => 0x01 | .objRange => 0x02 | .segType => 0x03 | .fieldRange => 0x04
  | .fieldUnused => 0x05 | .reserved => 0x06 | .applyFmt => 0x07 | .late => 0x08 | .early => 0x09 | .stale => 0x0A
  | .order => 0x0B | .queueFull => 0x0C | .unprotected => 0x0D | .notRunning => 0x0E | .shed => 0x0F | .notActive => 0x10

/-- IMMEDIATE, FLUSH and MUTE of a record. -/
def recImmediate (r : Rec) : Bool := bit r.flags 0
def recFlush (r : Rec) : Bool := bit r.flags 1
def recMute (r : Rec) : Bool := bit r.flags 2

/-- Bytes of the 8-byte slots a segment type does not use: hold none of V and A, linear none of A (R119). -/
def unusedZero (b : List Byte) (seg : Nat) : Bool :=
  (seg != 0 || (slice b 64 48).all (· == 0)) && (seg != 1 || (slice b 88 24).all (· == 0))

/-- A slot obeys the extension rule of R66. -/
def slotOk (b : List Byte) (off : Nat) : Bool := sx 36 (leAt b off 8) == sx 64 (leAt b off 8)

/-- Every component's magnitude is at most a limit. -/
def within (v : V3) (lim : Nat) : Bool := v.x.natAbs ≤ lim && v.y.natAbs ≤ lim && v.z.natAbs ≤ lim

/-- Check 1 of R124 on a record's bytes (R119, R120): the first failure. -/
def checkRecord (b : List Byte) (compact : Bool) : RecReason :=
  let r := recOf b
  if 2048 ≤ r.obj then .objRange
  else if r.seg % 4 = 3 then .segType
  else if 4 ≤ r.seg ∨ 8 ≤ r.prio ∨ 8 ≤ r.flags ∨ leAt b 28 4 ≠ 0 then .reserved
  else if !unusedZero b r.seg then .fieldUnused
  else if !((List.range 10).all (fun i => slotOk b (32 + 8 * i)) && within r.p (2 ^ 34) && within r.v (2 ^ 33) &&
      within r.a (2 ^ 34)) then .fieldRange
  else if recImmediate r then (if r.ns = 0 ∧ r.sec = 0 ∧ r.frac = 0 then .none else .applyFmt)
  else if compact then (if r.sec = 0 ∧ r.frac = 0 then .none else .applyFmt)
  else if 999999999 < r.ns then .applyFmt else .none

/-! ### Trajectories -/

/-- A component at n frames after the origin, exact and rounded once: p in 2^-23, v in 2^-25, a in 2^-27 (R133). -/
def trajComp (fs n : Nat) (p v a : Int) : Int :=
  rn (p * (32 * fs * fs) + v * (8 * n * fs) + a * (n * n)) (32 * fs * fs)

/-- Saturation of a position component at 2,048 m. -/
def satPos (x : Int) : Int := clampI (-(2 ^ 34)) (2 ^ 34) x

/-- The position of a segment at an MSI, and how many components saturated (R133). -/
def trajectory (fs : Nat) (g : Seg) (m : Nat) : V3 × Nat :=
  let n0 := ((m : Int) - g.origin).toNat
  let n := if g.rcd.dur = 0 then n0 else min n0 (g.rcd.dur * (fs / 1000))
  let c := fun (p v a : Int) => trajComp fs n p (if g.rcd.seg = 0 then 0 else v) (if g.rcd.seg = 2 then a else 0)
  let p := g.rcd.p
  let v := g.rcd.v
  let a := g.rcd.a
  let q : V3 := ⟨c p.x v.x a.x, c p.y v.y a.y, c p.z v.z a.z⟩
  let t : V3 := ⟨satPos q.x, satPos q.y, satPos q.z⟩
  (t, b2n (t.x != q.x) + b2n (t.y != q.y) + b2n (t.z != q.z))

/-! ### Object state -/

/-- An object's state. -/
def objOf (s : State) (o : Nat) : ObjSt := aGet (fun _ => ObjSt.init) s.intake.objs o

/-- Change an object's state. -/
def objMod (o : Nat) (f : ObjSt → ObjSt) (s : State) : State :=
  { s with intake := { s.intake with objs := aMod (fun _ => ObjSt.init) s.intake.objs o f } }

/-- QUEUE entries in use (R112). -/
def inUse (o : ObjSt) : List QEnt := o.queue.filter (fun q => !q.removed)

/-- The largest effective block among accepted and pending records (R127). -/
def eLast (o : ObjSt) : Option Nat :=
  ((inUse o).map (fun q => q.seg.e) ++ (match o.cur with
    | some g => [g.e]
    | none => [])).foldl (fun m e => match m with
      | none => some e
      | some x => some (max x e)) none

/-- A pending record of the object by sequence number. -/
def pendingOf (o : ObjSt) (seq : Nat) : Option QEnt := o.queue.find? (fun q => q.pending && q.seg.rcd.seq == seq)

/-- The object has a pending record. -/
def anyPending (o : ObjSt) : Bool := o.queue.any (fun q => q.pending)

/-! ### Verdicts -/

/-- Move OBJ_HQ_DONE over the entries whose results are written, in index order (R122). -/
def hqAdvance : Nat → State → State
  | 0, s => s
  | n + 1, s =>
    let d := getF s F.OBJ_HQ_DONE_INDEX
    if s.intake.hqFinal.contains d then
      hqAdvance n { setF s F.OBJ_HQ_DONE_INDEX ((d + 1) % 32768) with
        intake := { s.intake with hqFinal := s.intake.hqFinal.filter (· != d) } }
    else s

/-- Write a host-queue entry's result word (R123). -/
def hqResult (i : Nat) (v : Verdict3) (s : State) : State :=
  let w := v.code + v.reason * 2 ^ 8 + v.e % 2 ^ 48 * 2 ^ 16
  let s := wrWord72 s dramBase (getF s F.OBJ_HQ_BASE_BASE + 16 * (i % 16384) + 15) w
  let s := setBit s F.OBJ_STAT_HQ_DONE
  let s := { s with intake := { s.intake with hqFinal := i :: s.intake.hqFinal } }
  hqAdvance s.intake.hqFinal.length s

/-- Note a verdict in an ACK job. -/
def jobVerdict (job pos : Nat) (v : Verdict3) (s : State) : State :=
  { s with intake := { s.intake with jobs := s.intake.jobs.map (fun j =>
      if j.id = job then
        { j with entries := (List.range j.entries.length).map (fun i =>
            match j.entries[i]? with
            | some e => if i = pos then (e.1, e.2.1, some v) else e
            | none => (0, 0, none)) }
      else j) } }

/-- Give a verdict to who waits for it. -/
def giveVerdict (v : Verdict3) (r : AckRef) (s : State) : State :=
  match r with
  | .moaby job pos => jobVerdict job pos v s
  | .hq i => hqResult i v s

/-- Count and record a rejection (R124). -/
def recordReject (reason : RecReason) (src obj : Nat) (s : State) : State :=
  let s := cnt s R.OBJ_REJ_CNT
  let s := setF (setF (setF s F.OBJ_REJ_LAST_REASON (recReason reason)) F.OBJ_REJ_LAST_SRC src) F.OBJ_REJ_LAST_OBJ_ID
    (obj % 2048)
  raise .objReject 0 s

/-- Reject at judgement. -/
def rejectNow (reason : RecReason) (src obj : Nat) (r : AckRef) (s : State) : State :=
  giveVerdict ⟨3, recReason reason, 0⟩ r (recordReject reason src obj s)

/-! ### Acceptance and refusal -/

/-- The journal's source of a record (R417). -/
def recSrc (src : Nat) : Src :=
  if src < 4 then .moaby else if src = 4 then .pcie else if src = 5 then .flask else .moaby

/-- Earlier records an acceptance removes: with FLUSH those at or after e, else those at e (R127). -/
def hitBy (g : Seg) (q : QEnt) : Bool :=
  !q.removed && (if recFlush g.rcd then g.e ≤ q.seg.e else q.seg.e == g.e)

/-- The queue after an acceptance: the entries before it that it removes, then the accepted one itself. -/
def queueAccept (seq : Nat) (unprot : Bool) (queue : List QEnt) : List QEnt :=
  let me := fun (q : QEnt) => q.pending && q.seg.rcd.seq == seq
  match queue.find? me with
  | none => queue
  | some x =>
    let before := queue.takeWhile (fun q => !me q)
    let after := (queue.dropWhile (fun q => !me q)).drop 1
    let kept := before.filterMap (fun q =>
      if hitBy x.seg q then (if q.pending then some { q with removed := true } else none) else some q)
    kept ++ (if x.removed then [] else [{ x with pending := false, item := none, needed := [], acks := [],
                                                 seg := { x.seg with unprot := unprot } }]) ++ after

/-- Segments an acceptance removes. -/
def queueHits (seq : Nat) (queue : List QEnt) : Nat :=
  let me := fun (q : QEnt) => q.pending && q.seg.rcd.seq == seq
  match queue.find? me with
  | none => 0
  | some x => ((queue.takeWhile (fun q => !me q)).filter (hitBy x.seg)).length

/-- Accept an object's pending record (R127, R129); a segment of the current one's block supersedes it.  A FLUSH
record of the same block as the current one removes no segment by that, so it counts nothing for it (log 274). -/
def acceptRec (obj seq : Nat) (unprot : Bool) (s : State) : State :=
  let o := objOf s obj
  match pendingOf o seq with
  | none => s
  | some q =>
    let onCur : Bool := !recFlush q.seg.rcd && !q.removed && (match o.cur with
      | some g => g.e == q.seg.e
      | none => false)
    let hits := queueHits seq o.queue + b2n onCur
    let s := objMod obj (fun o => { o with queue := queueAccept seq unprot o.queue,
                                           history := ((seq, q.seg.e) :: o.history).take 8 }) s
    let s := cnt s R.OBJ_ACC_CNT
    let s := if hits = 0 then s else setBit (cntAdd s R.OBJ_FLUSH_CNT hits) F.OBJ_STAT_FLUSHED
    let s := journal (recSrc q.src) 1 obj seq (16 * q.seg.e) s
    let s := if unprot then raise .objUnprot 0 (setBit (countUnprot s) F.FLK_STAT_UNPROT) else s
    forEach q.acks (giveVerdict ⟨1, if unprot then recReason .unprotected else 0, q.seg.e⟩) s

/-- Drop an object's pending record and note its number in REFUSED (R126). -/
def dropRefused (obj seq : Nat) (s : State) : State :=
  objMod obj (fun o => { o with
    queue := o.queue.filter (fun q => !(q.pending && q.seg.rcd.seq == seq)),
    refused := (seq :: o.refused.filter (· != seq)).take 8 }) s

/-- Refuse an object's pending record (R60, R126, R129). -/
def refuseRec (obj seq reason : Nat) (s : State) : State :=
  match pendingOf (objOf s obj) seq with
  | none => s
  | some q =>
    let s := dropRefused obj seq s
    let s := if q.src < 5 then
        let s := cnt s R.OBJ_REJ_CNT
        let s := setF (setF (setF s F.OBJ_REJ_LAST_REASON reason) F.OBJ_REJ_LAST_SRC q.src) F.OBJ_REJ_LAST_OBJ_ID obj
        raise .objReject 0 s
      else s
    forEach q.acks (giveVerdict ⟨3, reason, 0⟩) s

/-- Refuse a record here and wherever it was sent: the ladle discards it, and the standby is told (R371, R393). -/
def refuseEverywhere (obj seq reason : Nat) (tellStandby : Bool) (s : State) : State :=
  match pendingOf (objOf s obj) seq with
  | none => s
  | some q =>
    let s := match q.item with
      | some id => if tellStandby then flkDiscard id (dropItem id s) else dropItem id s
      | none => s
    let s := if q.litem = 0 ∨ q.src = 6 then s
      else raise .hierCollRefused 0 (ladleDecide q.litem 2 reason (cnt s R.HIER_REFUSE_CNT))
    refuseRec obj seq reason s

/-- Accept a record once neither the standby nor a worker is awaited (R129, R393). -/
def tryAccept (obj seq : Nat) (s : State) : State :=
  match pendingOf (objOf s obj) seq with
  | none => s
  | some q =>
    if (q.item.isSome && !q.committed) || !q.needed.isEmpty || s.err.fatal then s
    else
      let s := match q.item with
        | some id => flkConfirm id 0 s
        | none => s
      let s := if q.litem = 0 ∨ q.src = 6 then s else ladleDecide q.litem 1 0 s
      acceptRec obj seq q.seg.unprot s

/-! ### Judgement -/

/-- The fate of a sequence number (R126). -/
inductive SeqFate where
  | new (gap again : Bool)
  | dupPending
  | dupAccepted (e : Nat)
  | stale
deriving DecidableEq, Repr

/-- Serial-number arithmetic on a sequence number (R126).  The rows are tested from the top: with no valid HIGH a sequence number
that was refused is new (log 273). -/
def seqFate (o : ObjSt) (seq : Nat) : SeqFate :=
  let d := cmpDiff seq o.high
  if !o.seqValid then .new false false
  else if 0 < d then .new (1 < d) false
  else if (pendingOf o seq).isSome then .dupPending
  else match o.history.find? (fun h => h.1 == seq) with
    | some h => .dupAccepted h.2
    | none => if o.refused.contains seq then .new false true else .stale

/-- The effective block and time origin of a record, or its rejection (R57 to R59, R128). -/
def recordTime (s : State) (r : Rec) (compact : Bool) : Except RecReason (Nat × Int × Bool) :=
  if recImmediate r then .ok (blk s + lead s, 16 * (blk s + lead s), false)
  else
    let a := applyMsi s compact r.ns r.sec r.frac
    match judgeApply a (blk s) (lead s) (getL s F.TSU_APPLY_WIN_LATE_GRACE) (getL s F.TSU_APPLY_WIN_EARLY_WIN) with
    | .late => .error .late
    | .early => .error .early
    | .inWindow e => .ok (e, a, false)
    | .grace e => .ok (e, a, true)

/-- Take a QUEUE entry for a record that passed every check, and see to its decision (R124, R129, R391). -/
def enqueue (g : Seg) (again : Bool) (src : Nat) (ack : AckRef) (unprot : Bool) (s : State) : State :=
  let r := g.rcd
  let s := objMod r.obj (fun o => { o with
    refused := if again then o.refused.filter (· != r.seq) else o.refused,
    high := if again then o.high else r.seq, seqValid := true }) s
  let (litem, needed, s) := if isManager s then
      let n := (rdN s R.HIER_LITEM + 1) % 2 ^ 32
      let s := cnt (wrN s R.HIER_LITEM n) R.HIER_FWD_CNT
      (n, members s, ladlePut 0x10 (ladleRecEntry g n) s)
    else (0, [], s)
  let (item, s) := if isActive s && !unprot then
      let (id, s) := mirrorSend (.record g litem needed) (some g.e) s
      (some id, s)
    else (none, s)
  let q : QEnt := { seg := g, pending := true, removed := false, item := item, committed := false, litem := litem, needed := needed, src := src,
                    acks := [ack] }
  let s := objMod r.obj (fun o => { o with queue := o.queue ++ [q] }) s
  if unprot ∧ needed.isEmpty then
    acceptRec r.obj r.seq true (if litem = 0 then s else ladleDecide litem 1 0 s)
  else tryAccept r.obj r.seq s

/-- Checks 5 to 8 of R124, and the QUEUE entry. -/
def judgeNew (r : Rec) (compact again : Bool) (src : Nat) (ack : AckRef) (s : State) : State :=
  match recordTime s r compact with
  | .error why => rejectNow why src r.obj ack (cnt s (if why = .late then R.TSU_APL_LATE else R.TSU_APL_EARLY))
  | .ok (e, origin, grace) =>
    let s := if grace then cnt s R.TSU_APL_GRACE else s
    let o := objOf s r.obj
    let tooEarly : Bool := match eLast o with
      | none => false
      | some x => e < x
    if !(recFlush r) ∧ tooEarly then rejectNow .order src r.obj ack s
    else if 8 ≤ (inUse o).length then rejectNow .queueFull src r.obj ack (raise .objQfull 0 s)
    else
      let weak : Bool := isActive s && !flkUp s
      if weak ∧ getF s F.FLK_CFG_PROTECT = 0 then rejectNow .unprotected src r.obj ack s
      else
        enqueue ⟨r, e, origin, weak⟩ again src ack weak s

/-- Judge one record (R124). -/
def judge (b : List Byte) (compact : Bool) (src : Nat) (ack : AckRef) (s : State) : State :=
  let r := recOf b
  match checkRecord b compact with
  | .none =>
    let o := objOf s r.obj
    if !running s then rejectNow .notRunning src r.obj ack s
    else if o.st = 0 then rejectNow .objUnalloc src r.obj ack s
    else if o.st = 3 then rejectNow .shed src r.obj ack s
    else if src = 4 ∧ ((isPair s ∧ !isActive s) ∨ isWorker s) then rejectNow .notActive src r.obj ack s
    else match seqFate o r.seq with
      | .stale => rejectNow .stale src r.obj ack s
      | .dupAccepted e => giveVerdict ⟨2, 0, e⟩ ack (cnt s R.OBJ_DUP_CNT)
      | .dupPending =>
        objMod r.obj (fun o => { o with queue := o.queue.map (fun q =>
          if q.pending && q.seg.rcd.seq == r.seq then { q with acks := q.acks ++ [ack] } else q) })
          (cnt s R.OBJ_DUP_CNT)
      | .new gap again => judgeNew r compact again src ack (if gap then cnt s R.OBJ_GAP_CNT else s)
  | why => rejectNow why src r.obj ack s

/-! ### Moaby frames -/

/-- This unit judges records of its own (R132). -/
def judgesOwn (s : State) : Bool := !(isPair s && !isActive s) && !isWorker s && !s.err.fatal

/-- Entry bytes and COUNT limit of a frame type (R116, R388). -/
def frameShape (ty : Nat) : Option (Nat × Nat) :=
  match ty with
  | 0x01 => some (112, 17) | 0x02 => some (16, 17) | 0x10 => some (128, 15) | 0x11 => some (8, 128)
  | 0x12 => some (8, 128) | 0x13 => some (64, 1) | 0x14 => some (8, 1) | 0x15 => some (128, 15) | 0x16 => some (16, 1)
  | _ => none

/-- The first failing check of R116: 0 for none. -/
def frameCheck (b : List Byte) (cmp : Nat) : Nat :=
  let ty := leAt b 3 1
  let count := leAt b 4 2
  if leAt b 0 2 ≠ 0x424D then 1
  else if leAt b 2 1 ≠ 1 then 2
  else if (match frameShape ty with
      | some x => b.length != 28 + x.1 * count
      | none => false) then 3
  else if crc32c (b.take (b.length - 4)) ≠ leAt b (b.length - 4) 4 then 4
  else if (match frameShape ty with
      | some x => count < 1 || x.2 < count
      | none => false) then 5
  else if !(ty == 0x01 || (0x10 ≤ ty && ty ≤ 0x16)) then 6
  else if leAt b 6 1 ≠ cmp then 7
  else if leAt b 7 1 / 2 ≠ 0 ∨ leAt b 20 4 ≠ 0 then 8
  else 0

/-- Index of the oldest descriptor of ring 1 whose frame the engine has not taken: past those it has returned and those that
waiting ladle frames hold (R271). -/
def moabyFirst (s : State) (p : Nat) : Nat :=
  let held := ((s.intake.ladleIn.filter (fun f => f.1 == p)).map (fun f => f.2.1)).foldl (· + ·) 0
  (getF s (F.NET_RR_TAIL_INDEX p 1) + 8192 - getF s (F.NET_RR_CFG_SIZE p 1) + held) % 8192

/-- Word 0 of the i-th unreturned descriptor of ring 1. -/
def moabyWord (s : State) (p i : Nat) : Nat := rdWord72 s poolBase (rrDesc s p 1 (moabyFirst s p + i) 0)

/-- Descriptors of the oldest frame in ring 1. -/
def moabyCount (s : State) (p : Nat) : Option Nat :=
  ((List.range ((getF s (F.NET_RR_HEAD_INDEX p 1) + 8192 - moabyFirst s p) % 8192)).find? (fun i =>
    bit (moabyWord s p i) 46)).map (· + 1)

/-- The bytes of a frame of n descriptors. -/
def moabyBytes (s : State) (p n : Nat) : List Byte :=
  ((List.range n).map (fun i => let w := moabyWord s p i; rdPacked s poolBase (bits w 28 0) (bits w 43 32))).flatten

/-- Return n descriptors of ring 1 to the device (R271). -/
def moabyReturn (p n : Nat) (s : State) : State :=
  rrShow p 1 (setF s (F.NET_RR_TAIL_INDEX p 1) (getF s (F.NET_RR_TAIL_INDEX p 1) + n))

/-- Drop a METADATA frame (R116). -/
def frameBad (p code : Nat) (s : State) : State :=
  let s := cnt s R.OBJ_FRM_BAD_CNT
  raise .objFrmBad 0 (setF (setF s F.OBJ_FRM_LAST_REASON code) F.OBJ_FRM_LAST_PORT p)

/-- Take up a checked METADATA frame: its ACK job and its records. -/
def frameTake (p n : Nat) (f : Parsed) (mac : Nat) (b : List Byte) (s : State) : State :=
  let recs := chunks 112 17 (slice b 24 (112 * leAt b 4 2))
  let job : AckJob := { id := s.intake.nextJob, port := p, v6 := f.ipv == 6, mac := mac, src := f.src, dst := f.dst,
                        udp := (f.udp.getD (0, 0, [])).1, fmt := leAt b 6 1, frameSeq := leAt b 16 4,
                        asked := bit (leAt b 7 1) 0, entries := recs.map (fun r => (leAt r 0 2, leAt r 8 4, none)) }
  { s with intake := { s.intake with
      jobs := s.intake.jobs ++ [job], nextJob := s.intake.nextJob + 1,
      cur := aSet (fun _ => none) s.intake.cur p
        (some { descs := n, fmt := leAt b 6 1, job := job.id, pos := 0, left := recs }) } }

/-- A frame whose records a unit that judges none has begun: what is left of it is discarded, and it is not acknowledged
(R132). -/
def frameAbandon (p : Nat) (s : State) : State :=
  match aGet (fun _ => none) s.intake.cur p with
  | none => s
  | some f =>
    moabyReturn p f.descs (cnt { s with intake := { s.intake with
      jobs := s.intake.jobs.filter (fun j => j.id != f.job), cur := aSet (fun _ => none) s.intake.cur p none } }
      R.OBJ_FRM_IGN_CNT)

/-- The intake engine checks the oldest frame of a port's Moaby ring (R116, R132, R271, R390). -/
def execMetadataFrameCheck (p : Fin 4) (s : State) : Out :=
  .next (if (aGet (fun _ => none) s.intake.cur p).isSome then (if judgesOwn s then s else frameAbandon p s)
    else match moabyCount s p with
      | none => s
      | some n =>
        let b := moabyBytes s p n
        let f := parseFrame b
        let u := (f.udp.getD (0, 0, [])).2.2
        let ty := leAt u 3 1
        let ladle : Bool := 0x10 ≤ ty && ty ≤ 0x1F
        if !judgesOwn s ∧ !ladle then moabyReturn p n (cnt s R.OBJ_FRM_IGN_CNT)
        else if bit (moabyWord s p (n - 1)) 47 then moabyReturn p n s
        else
          let code := frameCheck u (getF s F.TSU_MEDIA_CFG_CMP)
          if code ≠ 0 then moabyReturn p n (frameBad p code s)
          else if ladle then
            { s with intake := { s.intake with ladleIn := s.intake.ladleIn ++ [(p.val, n, f.src, u)] } }
          else frameTake p n f (beAt b 6 6) u s)

/-! ### The engine's turn -/

/-- A source has a record to take: a port's checked frame, or the host queue. -/
def hasRecord (s : State) (src : Nat) : Bool :=
  if src < 4 then match aGet (fun _ => none) s.intake.cur src with
    | some f => !f.left.isEmpty
    | none => false
  else getF s F.OBJ_HQ_HEAD_INDEX != getF s F.OBJ_HQ_TAIL_INDEX

/-- The source served next (R32). -/
def nextSource (s : State) : Option Nat :=
  ((List.range 5).map (fun i => (s.intake.turn + 1 + i) % 5)).find? (hasRecord s)

/-- Take the next record of a port's frame; after its last, the descriptors return (R271). -/
def judgePort (p : Nat) (s : State) : State :=
  match aGet (fun _ => none) s.intake.cur p with
  | none => s
  | some f =>
    match f.left with
    | [] => s
    | b :: rest =>
      let next := if rest.isEmpty then none else some { f with pos := f.pos + 1, left := rest }
      let s := { s with intake := { s.intake with cur := aSet (fun _ => none) s.intake.cur p next } }
      let s := judge b (f.fmt == 1) p (.moaby f.job f.pos) s
      if rest.isEmpty then moabyReturn p f.descs s else s

/-- Take the next host-queue entry (R121, R122). -/
def judgeHq (s : State) : State :=
  let i := getF s F.OBJ_HQ_HEAD_INDEX
  let b := rdPacked s dramBase (getF s F.OBJ_HQ_BASE_BASE + 16 * (i % 16384)) 112
  let s := setF s F.OBJ_HQ_HEAD_INDEX ((i + 1) % 32768)
  judge b (getF s F.TSU_MEDIA_CFG_CMP == 1) 4 (.hq i) s

/-- The source whose record the engine takes now: none once it has taken 2,048 in this block (R32), and in the safe state
(R411). -/
def judgeSource (s : State) : Option Nat := if 2048 ≤ s.intake.used ∨ s.err.fatal then none else nextSource s

/-- The engine takes one record of a source. -/
def judgeOne (src : Nat) (s : State) : State :=
  let s := { s with intake := { s.intake with turn := src, used := s.intake.used + 1 } }
  if src = 4 then judgeHq s else if judgesOwn s then judgePort src s else frameAbandon src s

/-- The engine takes one record in its turn.  A manager forwards it with those that follow at once: the ladle's frame waits while
the engine has a further record to take, to the end of the block at the latest (R388, R391). -/
def execRecordJudge (s : State) : Out :=
  .next (match judgeSource s with
    | none => s
    | some src =>
      if !isManager s then judgeOne src s
      else
        let s := judgeOne src (ladleOpen s)
        if (judgeSource s).isSome then s else ladleFlush s)

/-- At the strobe of its effective block, a record not yet accepted is refused LATE (R60, R129). -/
def execRecordLateRefuse (obj : Fin 2048) (s : State) : Out :=
  .next (ladleBatch (forEach ((objOf s obj).queue.filter (fun q =>
    q.pending && (q.src < 5 || (q.src == 5 && q.item.isNone)) && due s q.seg.e))
    (fun q s => refuseEverywhere obj q.seg.rcd.seq (recReason .late) true
      (if s.flk.undecided.any (fun i => q.item == some i.id) then cnt s R.FLK_LATE_CNT else s))) s)

/-! ### Acknowledgement -/

/-- Every record of a job has its verdict. -/
def jobDone (j : AckJob) : Bool := j.entries.all (fun e => e.2.2.isSome)

/-- An ACK entry (R130). -/
def ackEntry (e : Nat × Nat × Option Verdict3) : List Byte :=
  let v := e.2.2.getD ⟨0, 0, 0⟩
  leBytes 2 e.1 ++ leBytes 1 v.code ++ leBytes 1 v.reason ++ leBytes 4 e.2.1 ++ leBytes 8 v.e

/-- The ACK frame of a job (R130, R131). -/
def ackFrame (s : State) (j : AckJob) : List Byte :=
  udpFrame s j.port j.v6 j.mac j.src (getF s F.OBJ_CFG_UDP_PORT) j.udp
    (moabyFrame s 0x02 j.entries.length j.fmt 0 j.frameSeq (j.entries.map ackEntry).flatten)

/-- The ACK of the oldest frame whose last record is decided is queued, where one is asked for and enabled (R131); in the
safe state no acknowledgement is sent (R411). -/
def execAckFrameSend (s : State) : Out :=
  .next (match s.intake.jobs.find? jobDone with
    | none => s
    | some j =>
      let s := { s with intake := { s.intake with jobs := s.intake.jobs.filter (fun x => x.id != j.id) } }
      if j.asked ∧ getF s F.OBJ_CFG_ACK_EN = 1 ∧ !s.err.fatal then
        queueAck j.port (getF s F.OBJ_CFG_ACK_TC) (ackFrame s j) s
      else s)

/-! ### The host queue -/

/-- A write of OBJ_HQ_TAIL (R122). -/
def hqTailWrite (v : Nat) (s : State) : State :=
  let t := v % 32768
  if 16384 < (t + 32768 - getF s F.OBJ_HQ_DONE_INDEX) % 32768 then raise .objHqOvf 0 s
  else setF s F.OBJ_HQ_TAIL_INDEX t

/-- HQ_TAIL_WRITE. -/
def execHqTailWrite (v : Word) (s : State) : Out := .next (hqTailWrite v.toNat s)

/-- The effect of a permitted write of OBJ_HQ_BASE. -/
def hqBaseApply (v : Word) (s : State) : State :=
  let s := wr s R.OBJ_HQ_BASE (v &&& 0x1FFFFFF0#32)
  let s := setF (setF (setF s F.OBJ_HQ_TAIL_INDEX 0) F.OBJ_HQ_HEAD_INDEX 0) F.OBJ_HQ_DONE_INDEX 0
  { s with intake := { s.intake with hqFinal := [] } }

/-- A write of OBJ_HQ_BASE by an interface: RWL. -/
def hqBaseWrite (via : Src) (v : Word) (s : State) : State :=
  let s := journalReg via R.OBJ_HQ_BASE v s
  if running s then raise .errRwlWrite 0 s else hqBaseApply v s

/-- HQ_BASE_WRITE. -/
def execHqBaseWrite (via : Src) (v : Word) (s : State) : Out := .next (hqBaseWrite via v s)

/-! ### Commands -/

/-- Place an object command at a block; it replaces one that has not acted (R134). -/
def objCmdPlace (obj op k : Nat) (s : State) : State := objMod obj (fun o => { o with cmd := some (op, k) }) s

/-- OBJ_CMD: RESEQ 1 or FLUSH 2 (R134, R503). -/
def objCmd (via : Src) (obj op : Nat) (s : State) : State :=
  let s := journalReg via R.OBJ_CMD (BitVec.ofNat 32 (op * 2 ^ 28 + obj)) s
  if isPassive s then writeIgnored s
  else
    let (wait, s) := mirrorUntimed (.objCmd obj op) s
    if wait then s else objCmdPlace obj op (blk s + 1) s

/-- OBJ_CMD_RESEQ. -/
def execObjCmdReseq (via : Src) (obj : Fin 2048) (s : State) : Out := .next (objCmd via obj 1 s)

/-- OBJ_CMD_FLUSH. -/
def execObjCmdFlush (via : Src) (obj : Fin 2048) (s : State) : Out := .next (objCmd via obj 2 s)

/-- What an object command does (R134). -/
def objCmdEffect (obj op : Nat) (s : State) : State :=
  if op = 1 then objMod obj (fun o => { o with seqValid := false, history := [] }) s
  else
    let n := ((objOf s obj).queue.filter (fun q => !q.pending)).length
    let s := objMod obj (fun o => { o with queue := o.queue.filter (fun q => q.pending) }) s
    if n = 0 then s else setBit (cntAdd s R.OBJ_FLUSH_CNT n) F.OBJ_STAT_FLUSHED

/-- A pending object command acts at its boundary once no record of the object is pending (R134). -/
def execObjCmdAct (obj : Fin 2048) (s : State) : Out :=
  .next (match (objOf s obj).cmd with
    | none => s
    | some (op, k) =>
      if due s k ∧ !anyPending (objOf s obj) then
        objCmdEffect obj op (objMod obj (fun o => { o with cmd := none }) s)
      else s)

/-! ### Segments at a boundary -/

/-- The accepted segment with the largest effective block at or before b; of equals the later one. -/
def bestSeg (b : Nat) (queue : List QEnt) : Option Seg :=
  queue.foldl (fun m q =>
    if q.pending || q.removed || b < q.seg.e then m
    else match m with
      | none => some q.seg
      | some g => if g.e ≤ q.seg.e then some q.seg else m) none

/-- An object's segments at the boundary of block b (R113, R114). -/
def segAdvance (b : Nat) (o : ObjSt) : ObjSt :=
  match bestSeg b o.queue with
  | none => o
  | some g => { o with queue := o.queue.filter (fun q => q.pending || b < q.seg.e), cur := some g, clamped := false,
                       st := if o.st = 1 then 2 else o.st }

/-- Every object's segments at the boundary of a block (R114). -/
def segmentsAt (b : Nat) (s : State) : State :=
  { s with intake := { s.intake with objs := s.intake.objs.map (fun x => (x.1, segAdvance b x.2)) } }

/-- Every object's segments at the boundary of the present block, and what OBJ_SEL shows from it on. -/
def segmentsCurrent (s : State) : State :=
  let s := segmentsAt (blk s) s
  { s with intake := { s.intake with shown := s.intake.objs, used := 0 } }

/-- OBJ_OSTAT, OBJ_OHIGH, OBJ_OEFF and OBJ_OSEQ as read. -/
def shownObj (s : State) : ObjSt := aGet (fun _ => ObjSt.init) s.intake.shown (getF s F.OBJ_SEL_OBJ)

/-- OBJ_OSTAT. -/
def ostatWord (s : State) : Nat :=
  let o := shownObj s
  let c := match o.cur with
    | none => 0
    | some g => b2n g.unprot * 2 ^ 28 + g.rcd.prio * 2 ^ 20 + g.rcd.seg
  o.st * 2 ^ 30 + b2n o.seqValid * 2 ^ 29 + (inUse o).length * 2 ^ 24 +
    (o.queue.filter (fun q => q.pending)).length * 2 ^ 16 + c

end Sys2Proof.Machine
end

