-- ==== Sys2Proof/Machine/Streams.lean ====
section
/-! DEFINITION. Network audio streams: receive and transmit contexts (spec/12_streams.md R282 to R303;
spec/16_redundant_pair.md R362). -/

namespace Sys2Proof.Machine

/-- A receive context's state. -/
def rxOf (s : State) (c : Nat) : RxCtx := aGet (fun _ => RxCtx.init) s.str.rx c

/-- Change a receive context. -/
def rxMod (c : Nat) (f : RxCtx → RxCtx) (s : State) : State :=
  { s with str := { s.str with rx := aMod (fun _ => RxCtx.init) s.str.rx c f } }

/-- A transmit context's state. -/
def txOf (s : State) (t : Nat) : TxCtx := aGet (fun _ => TxCtx.init) s.str.tx t

/-- Change a transmit context. -/
def txMod (t : Nat) (f : TxCtx → TxCtx) (s : State) : State :=
  { s with str := { s.str with tx := aMod (fun _ => TxCtx.init) s.str.tx t f } }

/-! ### Formats -/

/-- Bytes of a sample word (R282). -/
def fmtBytes (fmt : Nat) : Nat := if fmt = 0 then 2 else if fmt = 3 then 4 else 3

/-- Frames in a packet at the stream's own rate (R282). -/
def pktFrames (rate96 : Bool) (ptime : Nat) : Nat :=
  (match ptime with
   | 0 => 6
   | 1 => 12
   | 2 => 16
   | _ => 48) * (if rate96 then 2 else 1)

/-- Size of a context's frame with the FCS (R284). -/
def frameSize (fmt : Nat) (v6 claim tagged : Bool) (channels p : Nat) : Nat :=
  (if fmt ≤ 1 then (if v6 then 66 else 46) + 12 + (if claim then 16 else 0) else 42) + (if tagged then 4 else 0) +
    channels * fmtBytes fmt * p

/-- Frames in a packet of a receive context, at the stream's own rate (R282). -/
def rxP (s : State) (c : Nat) : Nat := pktFrames (getF s (F.STR_RX_CFG_RATE c) == 1) (getF s (F.STR_RX_CFG_PTIME c))

/-- The packet time of a receive context in media frames: P of R50 and R291. -/
def rxSpan (s : State) (c : Nat) : Nat := pktFrames (rate96 s) (getF s (F.STR_RX_CFG_PTIME c))

/-- Frames per packet of a transmit context, which runs at Fs_int. -/
def txP (s : State) (t : Nat) : Nat := pktFrames (rate96 s) (getF s (F.STR_TX_CFG_PTIME t))

/-- The ports a context uses. -/
def ctxPorts (port dual : Nat) : List Nat := if dual = 1 then [port, port ^^^ 1] else [port]

/-- Some port a context uses cannot take its frame (R284). -/
def sizeBad (s : State) (ports : List Nat) (size : Nat) : Bool := ports.any (fun p => getF s (F.NET_MAXFRM_MAXFRM p) < size)

/-! ### Enabling (R284, R285, R288, R291, R297) -/

/-- The filter of one leg, to compare two contexts on one port (R288). -/
def legFilter (s : State) (c : Nat) (legB : Bool) : List Nat :=
  let dst := fun (j : Nat) => rdN s (if legB then R.STR_RX_DSTB c j else R.STR_RX_DSTA c j)
  let src := fun (j : Nat) => rdN s (if legB then R.STR_RX_SRCB c j else R.STR_RX_SRCA c j)
  let vid := getF s (F.STR_RX_HDR_VID c)
  if getF s (F.STR_RX_CFG_FMT c) ≤ 1 then
    let n := if getF s (F.STR_RX_CFG_IPV6 c) = 1 then 4 else 1
    let ssm := getF s (F.STR_RX_CFG_SSM c)
    [0, vid, n, ssm, bits (rdN s (R.STR_RX_UDP c)) (if legB then 31 else 15) (if legB then 16 else 0)] ++
      (List.range n).map dst ++ (if ssm = 1 then (List.range n).map src else [])
  else [1, vid, dst 0, dst 1]

/-- The legs of a context: port and filter. -/
def legsOf (s : State) (c : Nat) : List (Nat × List Nat) :=
  let p := getF s (F.STR_RX_CFG_PORT c)
  (p, legFilter s c false) :: (if getF s (F.STR_RX_CFG_DUAL c) = 1 then [(p ^^^ 1, legFilter s c true)] else [])

/-- Another enabled context has an identical filter on a port of this one. -/
def dupFilter (s : State) (c : Nat) : Bool :=
  (List.range 256).any (fun d => d != c && rxEnabled s d && (legsOf s d).any (fun l => (legsOf s c).contains l))

/-- Buffer depth in frames: 16 ms (R291). -/
def bufFrames (s : State) : Nat := msFrames s 16

/-- Why a receive context may not be enabled, as REASON codes it. -/
def rxRefusal (s : State) (c : Nat) : Option Nat :=
  let fmt := getF s (F.STR_RX_CFG_FMT c)
  let l := getF s (F.STR_RX_LINK_L c)
  let claim : Bool := getF s (F.STR_RX_CFG_CLAIM_EN c) == 1
  let ext := getF s (F.STR_RX_HDR_EXT_ID c)
  let ports := ctxPorts (getF s (F.STR_RX_CFG_PORT c)) (getF s (F.STR_RX_CFG_DUAL c))
  let size := frameSize fmt (getF s (F.STR_RX_CFG_IPV6 c) == 1) claim (getF s (F.STR_RX_HDR_VID c) != 0)
    (getF s (F.STR_RX_CFG_CH c) + 1) (rxP s c)
  if 3 < fmt ∨ getF s (F.STR_RX_LINK_TMO c) = 0 ∨ l < 2 ∨ (if rate96 s then 89 else 44) < l ∨
      (claim ∧ (ext = 0 ∨ ext = 15)) then some 5
  else if 2 ≤ fmt ∧ claim then some 3
  else if sizeBad s ports size then some 1
  else if bufFrames s < 16 * l + rxSpan s c + 16 then some 2
  else if dupFilter s c then some 4
  else none

/-- Is a map entry a channel index or the code for zero (R299)? -/
def mapOk (e : Nat) : Bool := e ≤ 0x53F || e == 0xFFFF

/-- Channel i of a transmit context: the channel index it carries. -/
def txMap (s : State) (t i : Nat) : Nat :=
  if i % 2 = 0 then getF s (F.STR_TX_MAP_EVEN t (i / 2)) else getF s (F.STR_TX_MAP_ODD t (i / 2))

/-- Why a transmit context may not be enabled. -/
def txRefusal (s : State) (t : Nat) : Option Nat :=
  let fmt := getF s (F.STR_TX_CFG_FMT t)
  let claim : Bool := getF s (F.STR_TX_CFG_CLAIM_EN t) == 1
  let ext := getF s (F.STR_TX_HDR_EXT_ID t)
  let ports := ctxPorts (getF s (F.STR_TX_CFG_PORT t)) (getF s (F.STR_TX_CFG_DUAL t))
  let size := frameSize fmt (getF s (F.STR_TX_CFG_IPV6 t) == 1) claim (getF s (F.STR_TX_CFG_VLAN_EN t) == 1)
    (getF s (F.STR_TX_CFG_CH t) + 1) (txP s t)
  if 3 < fmt ∨ (claim ∧ (ext = 0 ∨ ext = 15)) ∨ (List.range 64).any (fun i => !mapOk (txMap s t i)) then some 5
  else if 2 ≤ fmt ∧ claim then some 3
  else if sizeBad s ports size then some 1
  else none

/-- EN of a receive context takes a value (R296, R297). -/
def rxCtlApply (c : Nat) (v : Word) (s : State) : State :=
  let on := getF s (F.STR_RX_CTL_EN c)
  if fget v 31 31 = 1 then
    if on = 1 ∨ getF s (F.STR_RX_STATE_STATE c) ≠ 0 then if on = 1 then s else writeIgnored s
    else match rxRefusal s c with
      | some r => raise .strEnRefused c (setF s (F.STR_RX_STATE_REASON c) r)
      | none => rxMod c (fun x => { x with startAt := some (blk s + 1), stopAt := none })
          (setF (setF s (F.STR_RX_STATE_REASON c) 0) (F.STR_RX_CTL_EN c) 1)
  else if on = 0 then s
  else rxMod c (fun x => { x with startAt := none, stopAt := some (blk s + 1) }) (setF s (F.STR_RX_CTL_EN c) 0)

/-- EN of a transmit context takes a value (R297). -/
def txCtlApply (t : Nat) (v : Word) (s : State) : State :=
  let on := getF s (F.STR_TX_CTL_EN t)
  if fget v 31 31 = 1 then
    if on = 1 ∨ getF s (F.STR_TX_STATE_STATE t) ≠ 0 then if on = 1 then s else writeIgnored s
    else match txRefusal s t with
      | some r => raise .strEnRefused (256 + t) (setF s (F.STR_TX_STATE_REASON t) r)
      | none =>
        txMod t (fun x => { x with startAt := some (blk s + 1), stopAt := none })
          (setF (setF s (F.STR_TX_STATE_REASON t) 0) (F.STR_TX_CTL_EN t) 1)
  else if on = 0 then s
  else txMod t (fun x => { x with startAt := none, stopAt := some (blk s + 1) }) (setF s (F.STR_TX_CTL_EN t) 0)

/-- The context a configuration register of the STR block belongs to: receive or transmit, and its number. -/
def strCtxOf (off : Nat) : Option (Bool × Nat) :=
  if 0x710000 ≤ off ∧ off < 0x720000 then some (true, (off - 0x710000) / 256)
  else if 0x720000 ≤ off ∧ off < 0x730000 then some (false, (off - 0x720000) / 256)
  else none

/-- A context is not at rest, so writes to its configuration are ignored (R297). -/
def ctxBusy (s : State) (off : Nat) : Bool :=
  match strCtxOf off with
  | none => false
  | some (true, c) => getF s (F.STR_RX_CTL_EN c) == 1 || getF s (F.STR_RX_STATE_STATE c) != 0
  | some (false, t) => getF s (F.STR_TX_CTL_EN t) == 1 || getF s (F.STR_TX_STATE_STATE t) != 0

/-- The meaning of writing EN = 1 to a receive context. -/
def execStrRxEnable (via : Src) (c : Fin 256) (s : State) : Out :=
  .next (renderWrite (rxCtlApply c.val 0x80000000#32) via (R.STR_RX_CTL c.val) 0x80000000#32 s)

/-- The meaning of writing EN = 0 to a receive context. -/
def execStrRxDisable (via : Src) (c : Fin 256) (s : State) : Out :=
  .next (renderWrite (rxCtlApply c.val 0#32) via (R.STR_RX_CTL c.val) 0#32 s)

/-- The meaning of writing EN = 1 to a transmit context. -/
def execStrTxEnable (via : Src) (t : Fin 256) (s : State) : Out :=
  .next (renderWrite (txCtlApply t.val 0x80000000#32) via (R.STR_TX_CTL t.val) 0x80000000#32 s)

/-- The meaning of writing EN = 0 to a transmit context. -/
def execStrTxDisable (via : Src) (t : Fin 256) (s : State) : Out :=
  .next (renderWrite (txCtlApply t.val 0#32) via (R.STR_TX_CTL t.val) 0#32 s)

/-! ### Received packets -/

/-- A stream packet's fields (R285, R287, R289): sequence number, time-stamp, claim word, SILENT mask and payload. -/
structure StrPkt where
  seq : Nat
  ts : Nat
  claim : Nat
  silent : Nat
  payload : List Byte
deriving DecidableEq, Repr

/-- The element of an ID in a one-byte extension, if it has 10 bytes (R287). -/
def extElement (id : Nat) : Nat → List Byte → Option (List Byte)
  | 0, _ => none
  | _, [] => none
  | fuel + 1, b :: t =>
    let n := b.toNat % 16 + 1
    if b = 0 then extElement id fuel t
    else if b.toNat / 16 = 15 then none
    else if b.toNat / 16 = id ∧ n = 10 then some (t.take 10)
    else extElement id fuel (t.drop n)

/-- Bytes of samples a packet of the context carries. -/
def rxPayload (s : State) (c : Nat) : Nat :=
  (getF s (F.STR_RX_CFG_CH c) + 1) * fmtBytes (getF s (F.STR_RX_CFG_FMT c)) * rxP s c

/-- An RTP packet that passes the checks of R289. -/
def parseRtp (s : State) (c : Nat) (b : List Byte) : Option StrPkt :=
  let x : Bool := bit (beAt b 0 1) 4
  let extLen := if x then 4 + 4 * beAt b 14 2 else 0
  let body := b.drop (12 + extLen)
  let el := if x && beAt b 12 2 == 0xBEDE && getF s (F.STR_RX_CFG_CLAIM_EN c) == 1
    then extElement (getF s (F.STR_RX_HDR_EXT_ID c)) extLen (slice b 16 (extLen - 4)) else none
  if bits (beAt b 0 1) 7 5 = 4 ∧ bits (beAt b 1 1) 6 0 = getF s (F.STR_RX_HDR_PT c) ∧ 12 + extLen ≤ b.length ∧
      body.length = rxPayload s c then
    some { seq := beAt b 2 2, ts := beAt b 4 4, payload := body,
           claim := match el with
             | none => 0
             | some e => beAt e 0 2,
           silent := match el with
             | none => 0
             | some e => beAt e 2 8 }
  else none

/-- An AAF packet that passes the checks of R289. -/
def parseAaf (s : State) (c : Nat) (b : List Byte) : Option StrPkt :=
  let fmt := getF s (F.STR_RX_CFG_FMT c)
  if bits (beAt b 1 1) 7 4 = 8 ∧ bit (beAt b 1 1) 0 ∧ beAt b 16 1 = (if fmt = 2 then 3 else 2) ∧
      beAt b 17 1 / 16 = (if getF s (F.STR_RX_CFG_RATE c) = 1 then 7 else 5) ∧
      beAt b 17 2 % 1024 = getF s (F.STR_RX_CFG_CH c) + 1 ∧ beAt b 19 1 = 8 * fmtBytes fmt ∧
      beAt b 20 2 = rxPayload s c ∧ !bit (beAt b 22 1) 4 ∧ 24 + rxPayload s c ≤ b.length then
    some { seq := beAt b 2 1, ts := beAt b 12 4, claim := 0, silent := 0, payload := slice b 24 (rxPayload s c) }
  else none

/-- A packet of a context from its frame. -/
def parsePkt (s : State) (c : Nat) (f : Parsed) : Option StrPkt :=
  if getF s (F.STR_RX_CFG_FMT c) ≤ 1 then f.udp.bind (fun u => parseRtp s c u.2.2) else parseAaf s c f.body

/-- The value nearest to a reference that equals w modulo 2^32. -/
def nearest32 (ref : Int) (w : Nat) : Int := ref + sx 32 (code 32 ((w : Int) - ref))

/-- The source time u of a packet: its stamp unwrapped at the time base's present time, moved by the difference of the time bases
at the last strobe (R290). -/
def sourceTime (s : State) (c ts : Nat) : Int :=
  let tb := getF s (F.STR_RX_CFG_TB c)
  let m := followTb s
  let rate : Int := if getF s (F.STR_RX_CFG_RATE c) = 1 then 96000 else 48000
  let fs : Int := fsInt s
  let ofs := rdN s (R.STR_RX_RTP_OFS c)
  let adj := sx 32 (rdN s (R.STR_RX_TS_ADJ c))
  let now := tbNow s tb
  let delta := (tbOf s m).time - (tbOf s tb).time
  if getF s (F.STR_RX_CFG_FMT c) ≤ 1 then
    if rate = fs ∧ tb = m then
      let c16 := 16 * blk s
      c16 + cmpDiff (code 32 ((ts : Int) - ofs)) (c16 % 2 ^ 32) + adj
    else
      let r := nearest32 (now * rate / secUnit) ts
      rh ((r - ofs) * fs * secUnit + delta * fs * rate) (rate * secUnit).toNat + epoch s + adj
  else
    let t := nearest32 (now / nsUnit) ts
    rh ((t * nsUnit + delta) * fs) secUnit.toNat + epoch s + adj

/-- The sample of a big-endian word in s4.31 (R283). -/
def wordSample (b : List Byte) : Int := sx (8 * b.length) (beNat b) * 2 ^ (32 - 8 * b.length)

/-- The frames of a packet's payload, one sample per channel. -/
def payloadFrames (channels w : Nat) (payload : List Byte) (i : Nat) : List Int :=
  (List.range channels).map (fun ch => wordSample (slice payload ((i * channels + ch) * w) w))

/-- Sequence tracking of a leg (R293): a gap counts the packets skipped. -/
def legSeq (c : Nat) (legB : Bool) (seq modulus : Nat) (s : State) : State :=
  let x := rxOf s c
  let next := some ((seq + 1) % modulus)
  let upd := fun (s : State) => rxMod c (fun x => if legB then { x with seqB := next } else { x with seqA := next }) s
  match (if legB then x.seqB else x.seqA) with
  | none => upd s
  | some e =>
    let skip := (seq + modulus - e) % modulus
    if skip < modulus / 2 then upd (cntAdd s (if legB then R.STR_RX_LOSS_B c else R.STR_RX_LOSS_A c) skip) else s

/-- Does a context pass through the ASRC bank (R292)? -/
def ctxNonLocked (s : State) (c : Nat) : Bool :=
  let tb := getF s (F.STR_RX_CFG_TB c)
  !((getF s (F.STR_RX_CFG_RATE c) == 1) == rate96 s && tb == followTb s && (tbState s tb == 2 || tbState s tb == 0) &&
    getF s (F.STR_RX_CFG_MODE c) == 0)

/-- A packet was admitted: its frames are in, and the context runs (R287, R296). -/
def rxAdmitted (c : Nat) (legB : Bool) (p : StrPkt) (s : State) : State :=
  let now := some s.msi
  let s := wrN (wrN (cnt s (R.STR_RX_PKT c)) (R.STR_RX_SIL_LO c) p.silent) (R.STR_RX_SIL_HI c) (p.silent / 2 ^ 32)
  let s := setF s (if legB then F.STR_RX_STATE_LEG_B c else F.STR_RX_STATE_LEG_A c) 1
  let held : Bool := p.claim == getF s (F.STR_RX_STATE_HELD c)
  rxMod c (fun x => { x with last := now, lastA := if legB then x.lastA else now, lastB := if legB then now else x.lastB,
                             lastHeld := if held then now else x.lastHeld })
    (setF s (F.STR_RX_STATE_STATE c) 2)

/-- Place a packet's frames (R291, R293, R294).  A packet covers its packet time in media frames from u on, each carried by
the stream frame of its time (log 239); `first` is the input MSI of the ASRC path, 32 above that of the locked one (R50). -/
def rxPlace (c : Nat) (legB beyond : Bool) (p : StrPkt) (s : State) : State :=
  let x := rxOf s c
  let n := rxSpan s c
  let channels := getF s (F.STR_RX_CFG_CH c) + 1
  let w := fmtBytes (getF s (F.STR_RX_CFG_FMT c))
  let first := sourceTime s c p.ts + n + 16 * getF s (F.STR_RX_LINK_L c) + 32
  let less : Int := if ctxNonLocked s c then 0 else 32
  if (s.msi : Int) + bufFrames s ≤ first - less + n - 1 then raiseEarly (cnt s (R.STR_RX_EARLY c))
  else
    let keys : List (Nat × Int) := (List.range n).map (fun (i : Nat) => (i * rxP s c / n, first + (i : Int)))
    let written := fun (m : Int) => x.frames.any (fun f => (f.1 : Int) == m)
    let inTime := fun (m : Int) => decide ((16 * (blk s + 1) : Int) ≤ m - less)
    let put := keys.filter (fun k => inTime k.2 && (beyond || !written k.2))
    let late := keys.any (fun k => !inTime k.2 && !written k.2)
    let s := rxMod c (fun x => { x with frames := put.foldl (fun t k =>
      aInsert t k.2.toNat (payloadFrames channels w p.payload k.1)) x.frames }) s
    let s := if put.isEmpty then s else rxAdmitted c legB p s
    if late then setBit (cnt s (R.STR_RX_LATE c)) F.STR_STAT_RX_LATE
    else if put.isEmpty then cnt s (R.STR_RX_DUP c) else s
where
  raiseEarly (s : State) : State := setBit s F.STR_STAT_RX_EARLY

/-- One packet of a context (R289 to R294). -/
def rxPacket (c : Nat) (a : StrArrival) (s : State) : State :=
  match parsePkt s c (parseFrame a.bytes) with
  | none => cnt s (R.STR_RX_BAD c)
  | some p =>
    let s := legSeq c a.leg p.seq (if getF s (F.STR_RX_CFG_FMT c) ≤ 1 then 65536 else 256) s
    let held := getF s (F.STR_RX_STATE_HELD c)
    if getF s (F.STR_RX_CFG_CLAIM_EN c) = 1 ∧ p.claim < held then
      raise .strClaimLow c (cnt s (R.STR_RX_CLAIM_LOW c))
    else
      let beyond : Bool := getF s (F.STR_RX_CFG_CLAIM_EN c) == 1 && held < p.claim
      rxPlace c a.leg beyond p (if beyond then setF s (F.STR_RX_STATE_HELD c) p.claim else s)

/-- STREAM_PACKET_RX: the oldest packet the classifier handed to the context; one that is off takes none. -/
def execStreamPacketRx (c : Fin 256) (s : State) : Out :=
  .next (match aGet (fun _ => []) s.net.arrivals c.val with
    | [] => s
    | a :: t =>
      let s := { s with net := { s.net with arrivals := aSet (fun _ => []) s.net.arrivals c.val t } }
      if getF s (F.STR_RX_STATE_STATE c.val) = 0 then s else rxPacket c.val a s)

/-- A time of TMO ms since a counted MSI has run out a number of frames from now. -/
def tmoIn (ahead : Nat) (s : State) (c : Nat) (since : Option Nat) : Bool :=
  match since with
  | none => true
  | some m => m + msFrames s (getF s (F.STR_RX_LINK_TMO c)) ≤ s.msi + ahead

/-- It runs out in the present block, and is due. -/
def tmoOver (s : State) (c : Nat) (since : Option Nat) : Bool := tmoIn 16 s c since

/-- It has run out. -/
def tmoPassed (s : State) (c : Nat) (since : Option Nat) : Bool := tmoIn 0 s c since

/-- STR_RXc_STATE as read: a leg's bit lasts for TMO after its last admitted packet (R296). -/
def rxStateWord (s : State) (c : Nat) : Nat :=
  let x := rxOf s c
  let s := if tmoPassed s c x.lastA then setF s (F.STR_RX_STATE_LEG_A c) 0 else s
  rdN (if tmoPassed s c x.lastB then setF s (F.STR_RX_STATE_LEG_B c) 0 else s) (R.STR_RX_STATE c)

/-- STR_RX_TIMEOUT: no frame admitted for TMO ms takes a running context to LOST (R296). -/
def execStrRxTimeout (c : Fin 256) (s : State) : Out :=
  .next (if getF s (F.STR_RX_STATE_STATE c.val) = 2 ∧ tmoOver s c.val (rxOf s c.val).last then
      raise .strRxLost c.val (setF s (F.STR_RX_STATE_STATE c.val) 3)
    else s)

/-- CLAIM_HOLD_TIMEOUT: HELD returns to 0 (R294). -/
def execClaimHoldTimeout (c : Fin 256) (s : State) : Out :=
  .next (if tmoOver s c.val (rxOf s c.val).lastHeld then setF s (F.STR_RX_STATE_HELD c.val) 0 else s)

/-! ### Ingest at a strobe -/

/-- The samples a context delivers for the buffered frame m, with R295: one per channel, and whether the frame was concealed.  Before the
first admitted frame there is no sample to conceal from and no gap: the channels deliver zero. -/
def rxFrame (x : RxCtx) (m : Nat) : List Int × Bool × RxCtx :=
  match (x.frames.find? (fun f => f.1 == m)).map (fun f => f.2) with
  | some v =>
    let y := { x with lastX := v, gap := 0, fadeN := min 16 (x.fadeN + 1) }
    (if x.fadeN < 16 then v.map (fun a => fade a (x.fadeN + 1) 16) else v, false, y)
  | none =>
    if x.lastX.isEmpty then ([], false, x) else
    let y := { x with gap := min 16 (x.gap + 1), fadeN := 0 }
    (if x.gap < 16 then x.lastX.map (fun a => fade a (15 - x.gap) 16) else x.lastX.map (fun _ => 0), true, y)

/-- The frames of one block, in order. -/
def rxBlock (x : RxCtx) (m : Nat) : Nat → List (List Int) × Nat × RxCtx
  | 0 => ([], 0, x)
  | n + 1 =>
    let (v, c, y) := rxFrame x m
    let (rest, k, z) := rxBlock y (m + 1) n
    (v :: rest, k + b2n c, z)

/-- Free samples: what the ASRC bank delivers is not stated. -/
def freeSamples : Nat → State → List Int × State
  | 0, s => ([], s)
  | n + 1, s =>
    let (v, s) := freeNat s 36
    let (r, s) := freeSamples n s
    (sx 36 v :: r, s)

/-- Store a source's samples of the block in ingest. -/
def putIngest (src : Nat) (xs : List Int) (s : State) : State :=
  { s with rnd := { s.rnd with ingest := aInsert s.rnd.ingest src xs } }

/-- A non-locked context waits for the ASRC bank: its channels found none there (R221, R303). -/
def asrcWaits (s : State) (c : Nat) : Bool :=
  let mine := fun (n : Nat) => 0x0800 + 64 * c ≤ n && n < 0x0840 + 64 * c
  s.rte.asrcWait.any mine && !s.rte.asrc.any mine

/-- A sample of a block. -/
def nthI (xs : List Int) (k : Nat) : Int := (xs[k]?).getD 0

/-- One channel's samples of a block: the frames of the locked copy, or what the ASRC bank makes of them, whose values the spec
does not state; a context that has gone silent delivers zero (R296).  At a switch the block crosses from the one to the other
(R292, R509). -/
def rxSamples (asrc sw : Bool) (locked : List Int) (silent : Bool) (s : State) : List Int × State :=
  if !asrc && !sw then (locked, s)
  else if silent then (List.replicate 16 0, s)
  else
    let (free, s) := freeSamples 16 s
    if !sw then (free, s)
    else
      let (gone, come) := if asrc then (locked, free) else (free, locked)
      ((List.range 16).map (fun (k : Nat) => satS 36 (rh (nthI gone k * (15 - (k : Nat) : Nat) + nthI come k * (k + 1 : Nat)) 16)), s)

/-- One context delivers its frames of the block whose strobe this is (R291, R292, R295, R296).  The locked copy reads its
frames 32 before the ASRC path does (R50). -/
def rxIngest (c : Nat) (s : State) : State :=
  let st := getF s (F.STR_RX_STATE_STATE c)
  let x := rxOf s c
  let base := 0x0800 + 64 * c
  if st = 1 ∨ (st = 0 ∧ 16 ≤ x.gap) then
    rxMod c (fun x => { x with asrc := st = 1 && ctxNonLocked s c }) (setF s (F.STR_RX_STATE_ASRC c) 0)
  else
    let t := blk s
    let waits := st != 0 && !x.asrc && ctxNonLocked s c && asrcWaits s c
    let asrc := if st = 0 ∨ waits then x.asrc else ctxNonLocked s c
    let (locked, _, _) := rxBlock x (16 * t + 32) 16
    let (fr, miss, y) := rxBlock x (16 * t + (if asrc then 0 else 32)) 16
    let s := rxMod c (fun _ => { y with asrc := asrc }) s
    let s := if miss = 0 then s else raise .strConceal c (cntAdd s (R.STR_RX_MISS c) miss)
    let s := setF s (F.STR_RX_STATE_ASRC c) (b2n asrc)
    let sw : Bool := asrc != x.asrc && x.last.isSome
    let s := if sw then raise .strModeSw c (cnt s (R.STR_RX_SW c)) else s
    let silent : Bool := fr.all (fun v => v.all (· == 0)) && miss == 16 && x.gap == 16
    forNat (getF s (F.STR_RX_CFG_CH c) + 1) (fun ch s =>
      if waits || (asrc && !s.rte.asrc.contains (base + ch)) then putIngest (base + ch) (List.replicate 16 0) s
      else
        let (xs, s) := rxSamples asrc sw (locked.map (fun v => (v[ch]?).getD 0)) silent s
        putIngest (base + ch) xs s) s

/-- A receive context stops: its buffer is concealed from here on (R297). -/
def rxStop (c : Nat) (s : State) : State :=
  rxMod c (fun y => { RxCtx.init with lastX := y.lastX, gap := y.gap, fadeN := y.fadeN, asrc := y.asrc })
    (setF (setF (setF (setF s (F.STR_RX_STATE_STATE c) 0) (F.STR_RX_STATE_HELD c) 0) (F.STR_RX_STATE_LEG_A c) 0)
      (F.STR_RX_STATE_LEG_B c) 0)

/-- Contexts start and stop at a boundary, and the leg flags age (R296, R297). -/
def rxBoundary (c : Nat) (s : State) : State :=
  let x := rxOf s c
  let at_ := fun (b : Option Nat) => match b with
    | none => false
    | some k => decide (k ≤ blk s)
  let s := if at_ x.stopAt then rxStop c s else s
  let s := if at_ x.startAt then rxMod c (fun _ => { RxCtx.init with asrc := ctxNonLocked s c }) (setF s (F.STR_RX_STATE_STATE c) 1) else s
  let s := if tmoPassed s c x.lastA then setF s (F.STR_RX_STATE_LEG_A c) 0 else s
  if tmoPassed s c x.lastB then setF s (F.STR_RX_STATE_LEG_B c) 0 else s

/-- Receive contexts at a strobe. -/
def rxStrobe (s : State) : State :=
  let s := forEach (s.str.rx.map (fun p => p.1)) rxBoundary s
  forEach (s.str.rx.map (fun p => p.1)) rxIngest { s with rnd := { s.rnd with ingest := [] } }

/-! ### Transmit -/

/-- A channel's renderer state. -/
def chanOf (s : State) (c : Nat) : ChanRender := aGet (fun _ => ChanRender.init) s.rnd.chans c

/-- Change a channel's renderer state. -/
def chanMod (c : Nat) (f : ChanRender → ChanRender) (s : State) : State :=
  { s with rnd := { s.rnd with chans := aMod (fun _ => ChanRender.init) s.rnd.chans c f } }

/-- The converted value of a sample for a sink word of W bits, with a dither in 2^-32 of the 16-bit LSB, and whether it
saturated (R210). -/
def convert (w : Nat) (y dither : Int) : Int × Bool :=
  let v := if w = 16 then rhShift (y * 2 ^ 16 + dither) 32 else rhShift (y * 2 ^ (w - 1)) 31
  (satS w v, satS w v != v)

/-- A channel's converted samples of the output block that sounds, and how many saturated. -/
def chanWords (s : State) (ch w : Nat) : List Int × Nat :=
  let c := chanOf s ch
  let vs := (List.range 16).map (fun j =>
    convert w ((c.play.xs[j]?).getD 0) (if w = 16 then (c.play.dither[j]?).getD 0 else 0))
  (vs.map (fun v => v.1), (vs.filter (fun v => v.2)).length)

/-- Count saturations of a sink conversion (R210). -/
def cvtSat (n : Nat) (ch : Nat) (s : State) : State := if n = 0 then s else raise .spkCvtSat ch (cntAdd s R.SPK_CVT_CNT n)

/-- The claim word on the lines of this unit (R359, R375). -/
def claimWord (s : State) : Nat := getF s F.CLM_STATE_WORD

/-- A packet's UDP payload or AAF body (R285, R298). -/
def pktBody (s : State) (t : Nat) (p : TxPkt) : List Byte :=
  let fmt := getF s (F.STR_TX_CFG_FMT t)
  let n := getF s (F.STR_TX_CFG_CH t) + 1
  if fmt ≤ 1 then
    let ext : Bool := getF s (F.STR_TX_CFG_CLAIM_EN t) == 1
    be 1 (0x80 + b2n ext * 16) ++ be 1 (getF s (F.STR_TX_HDR_PT t)) ++ be 2 p.seq ++
      be 4 ((p.m0 + rdN s (R.STR_TX_RTP_OFS t)) % 2 ^ 32) ++ be 4 (rdN s (R.STR_TX_ID_LO t)) ++
      (if ext then be 2 0xBEDE ++ be 2 3 ++ be 1 (getF s (F.STR_TX_HDR_EXT_ID t) * 16 + 9) ++ be 2 (claimWord s) ++
        be 8 p.silent ++ be 1 0 else []) ++ p.payload
  else
    let ns := -(-(((p.m0 : Int) - epoch s) * 1000000000) / (fsInt s : Int)) + sx 32 (rdN s (R.STR_TX_PT_OFS t))
    be 1 2 ++ be 1 0x81 ++ be 1 p.seq ++ be 1 0 ++ be 4 (rdN s (R.STR_TX_ID_LO t)) ++ be 4 (rdN s (R.STR_TX_ID_HI t)) ++
      be 4 (code 32 ns) ++ be 1 (if fmt = 2 then 3 else 2) ++ be 2 ((if rate96 s then 7 else 5) * 4096 + n) ++
      be 1 (8 * fmtBytes fmt) ++ be 2 p.payload.length ++ be 2 0 ++ p.payload

/-- A packet's frame for one leg (R298). -/
def pktFrame (s : State) (t : Nat) (legB : Bool) (p : TxPkt) : List Byte :=
  let port := legPort (getF s (F.STR_TX_CFG_PORT t)) legB
  let v6 : Bool := getF s (F.STR_TX_CFG_IPV6 t) == 1
  let dst := addrOf s (fun j => if legB then R.STR_TX_DSTB t j else R.STR_TX_DSTA t j) v6
  let own := if legB then macOf (rdN s (R.STR_TX_DMACB_LO t)) (rdN s (R.STR_TX_DMACB_HI t))
    else macOf (rdN s (R.STR_TX_DMACA_LO t)) (rdN s (R.STR_TX_DMACA_HI t))
  let rtp : Bool := getF s (F.STR_TX_CFG_FMT t) ≤ 1
  let mac := if own = 0 ∧ rtp ∧ isMcast v6 dst then mcastMac v6 dst else own
  let tag := if getF s (F.STR_TX_CFG_VLAN_EN t) = 1 then some (getF s (F.STR_TX_HDR_PCP t), getF s (F.STR_TX_HDR_VID t)) else none
  let dscp := getF s (F.STR_TX_CFG_DSCP t)
  let sport := getF s (F.STR_TX_UDP_PORT_B t)
  let dport := getF s (F.STR_TX_UDP_PORT_A t)
  let body := pktBody s t p
  if !rtp then etherFrame mac (portMac s port) tag 0x22F0 body
  else if v6 then etherFrame mac (portMac s port) tag 0x86DD (ipv6Packet dscp (portIp s port true) dst sport dport body)
  else etherFrame mac (portMac s port) tag 0x0800 (ipv4Packet dscp (portIp s port false) dst sport dport body)

/-- A packet discarded with TX_DROP (R300). -/
def txDrop (t : Nat) (s : State) : State := raise .strTxDrop t (cnt s (R.STR_TX_DROP t))

/-- Queue a packet on one port: discarded on a link that is not UP, and where the port no longer takes its frame (R303); at
most four wait, and a fifth discards the oldest (R300). -/
def queuePort (t : Nat) (legB : Bool) (p : TxPkt) (s : State) : State :=
  let port := legPort (getF s (F.STR_TX_CFG_PORT t)) legB
  let item : TxItem := ⟨getF s (F.STR_TX_CFG_TC t), t, pktFrame s t legB p⟩
  if !linkUp s port then cnt s (R.STR_TX_LINK t)
  else if getF s (F.NET_MAXFRM_MAXFRM port) < max 64 (item.bytes.length + 4) then txDrop t s
  else
    let mine := (portOf s port).streams.filter (fun x => x.ctx == t)
    let s := match (if 4 ≤ mine.length then mine.head? else none) with
      | none => s
      | some old => txDrop t (portMod port (fun q => { q with streams := q.streams.erase old }) s)
    portMod port (fun q => { q with streams := q.streams ++ [item] }) s

/-- Queue a packet on every leg. -/
def queuePkt (t : Nat) (p : TxPkt) (s : State) : State :=
  let s := queuePort t false p s
  if getF s (F.STR_TX_CFG_DUAL t) = 1 then queuePort t true p s else s

/-- A complete packet is numbered, and queued or, behind a closed claim gate, held (R300, R301, R362). -/
def emitPkt (t : Nat) (frames : List (List Byte × Nat)) (s : State) : State :=
  let x := txOf s t
  let seq := getF s (F.STR_TX_SEQ_SEQ t)
  let wide := getF s (F.STR_TX_CFG_FMT t) ≤ 1
  let p : TxPkt := { built := blk s, m0 := x.m0, seq := if wide then seq else seq % 256,
                     silent := frames.foldl (fun a f => a &&& f.2) (2 ^ 64 - 1),
                     payload := frames.flatMap (fun f => f.1) }
  let s := setF s (F.STR_TX_SEQ_SEQ t) ((seq + 1) % (if wide then 65536 else 256))
  let s := txMod t (fun x => { x with gathered := x.gathered.drop (txP s t), m0 := x.m0 + txP s t }) s
  if gateOpen s then queuePkt t p s else txMod t (fun x => { x with held := x.held ++ [p] }) s

/-- Emit every packet that is complete. -/
def emitAll (t : Nat) : Nat → State → State
  | 0, s => s
  | n + 1, s =>
    let g := (txOf s t).gathered
    if g.length < txP s t then s else emitAll t n (emitPkt t (g.take (txP s t)) s)

/-- A transmit context takes the output block whose strobe this is, which egress processed in the block before (R286, R298
to R300). -/
def txGather (t : Nat) (s : State) : State :=
  let n := getF s (F.STR_TX_CFG_CH t) + 1
  let w := 8 * fmtBytes (getF s (F.STR_TX_CFG_FMT t))
  let chs := (List.range n).map (fun i => txMap s t i)
  let cols := chs.map (fun ch => if ch = 0xFFFF then ([], 0) else chanWords s ch w)
  let s := forEach (chs.zip cols) (fun c s => cvtSat c.2.2 c.1 s) s
  let silent := (List.range n).foldl (fun a i =>
    let ch := (chs[i]?).getD 0xFFFF
    if ch = 0xFFFF ∨ (ch < 1024 ∧ (chanOf s ch).play.silent) then a + 2 ^ i else a) 0
  let frames := (List.range 16).map (fun j =>
    (cols.flatMap (fun c => beBytes (w / 8) (code w ((c.1[j]?).getD 0))), silent))
  let skip := (txOf s t).m0 - (16 * blk s)
  let s := txMod t (fun x => { x with gathered := x.gathered ++ frames.drop skip }) s
  emitAll t 16 s

/-- A transmit context stops; the packets it holds stay. -/
def txStop (t : Nat) (s : State) : State :=
  txMod t (fun y => { TxCtx.init with held := y.held }) (setF s (F.STR_TX_STATE_STATE t) 0)

/-- The first frame of the first packet that begins at or after a block. -/
def txFirst (s : State) (t b : Nat) : Nat := (16 * b + txP s t - 1) / txP s t * txP s t

/-- Transmit contexts start and stop at a boundary: the first packet begins at the next multiple of P. -/
def txBoundary (t : Nat) (s : State) : State :=
  let x := txOf s t
  let at_ := fun (b : Option Nat) => match b with
    | none => false
    | some k => decide (k ≤ blk s)
  let s := if at_ x.stopAt then txStop t s else s
  if at_ x.startAt then
    txMod t (fun y => { TxCtx.init with held := y.held, m0 := txFirst s t (blk s) }) (setF s (F.STR_TX_STATE_STATE t) 1)
  else s

/-- Transmit contexts at a strobe, in ascending number; a stopped device sends nothing (R84). -/
def txStrobe (s : State) : State :=
  let ts := s.str.tx.map (fun p => p.1)
  let s := forEach ts txBoundary s
  if !running s then forEach ts (fun t s => txMod t (fun x =>
      { x with gathered := [], m0 := txFirst s t (blk s + 1) }) s) s
  else forEach ts (fun t s => if getF s (F.STR_TX_STATE_STATE t) = 1 then txGather t s else s) s

/-- The gate passes the held packets built at or after a block, in context order (R362, R374). -/
def releaseHeld (since : Nat) (s : State) : State :=
  forEach (s.str.tx.map (fun p => p.1)) (fun t s =>
    let ps := (txOf s t).held.filter (fun p => since ≤ p.built)
    let s := setF (txMod t (fun x => { x with held := [] }) s) (F.STR_TX_STATE_HELD t) 0
    forEach ps (queuePkt t) s) s

/-- HELD_PACKET_EXPIRE: held packets whose second strobe has come are discarded (R362). -/
def execHeldPacketExpire (t : Fin 256) (s : State) : Out :=
  let old := (txOf s t.val).held.filter (fun p => p.built + 2 ≤ dueBlk s)
  .next (if old.isEmpty then s
    else setF (cntAdd (txMod t.val (fun x => { x with held := x.held.filter (fun p => dueBlk s < p.built + 2) }) s)
      (R.STR_TX_HELD t.val) old.length) (F.STR_TX_STATE_HELD t.val) 1)

end Sys2Proof.Machine
end

