-- ==== Sys2Proof/Machine/Geometry.lean ====
section
/-! DEFINITION. The geometry units: instants, panning, spread, tap slots, gains, delays and air absorption
(spec/06_geometry.md R137 to R159). -/

namespace Sys2Proof.Machine

/-! ### Formats -/

/-- RN of a non-negative quotient to a u0.34 or u0.16 value of n fraction bits, saturated below 1 (R147). -/
def rnU (n : Nat) (num : Int) (den : Nat) : Nat := (clampI 0 (2 ^ n - 1) (rn (num * 2 ^ n) den)).toNat

/-- RN of a root of a quotient to u0.34. -/
def rnRootU (num den : Nat) : Nat := min (rnSqrt (num * 2 ^ 68) den) (2 ^ 34 - 1)

/-- RN of an exact value in units of 2^-(34 + k) to s1.34. -/
def rnGain (k : Nat) (x : Int) : Int := satS 36 (rn x (2 ^ k))

/-! ### Spread (R144, R145) -/

/-- The direction u = RN(p / r), by the rounded r, in s1.30; (0, 1, 0) at the reference point (R144). -/
def dirOf (p : V3) (r : Nat) : V3 :=
  let c := fun (x : Int) => satS 32 (rn (x * 2 ^ 30) r)
  if r = 0 then ⟨0, 2 ^ 30, 0⟩ else ⟨c p.x, c p.y, c p.z⟩

/-- s_eff: the spread, or 1 - r / R_g if larger (R144). -/
def seffOf (spread r guard : Nat) : Nat :=
  if guard = 0 then spread else max spread (rnU 16 ((guard : Int) - r) guard)

/-- The nine sources of a spread object (R145). -/
def spreadDirs (u : V3) (seff : Nat) : List V3 :=
  let e1 : V3 := if u.z.natAbs * 10000 ≤ 9999 * 2 ^ 30 then unitV (cross ⟨0, 0, 2 ^ 30⟩ u) else ⟨2 ^ 30, 0, 0⟩
  let e2 := rnV 30 (cross u e1)
  let th := piFrac (2 * seff) (3 * 65536)
  let ct := fixTo 30 (cosFix th)
  let st := fixTo 30 (sinFix th)
  u :: (List.range 8).map (fun k =>
    let ph := piFrac k 4
    let cp := fixTo 30 (cosFix ph)
    let sp := fixTo 30 (sinFix ph)
    let c := fun (a b d : Int) => rn (ct * a * 2 ^ 30 + st * (cp * b + sp * d)) (2 ^ 60)
    (⟨c u.x e1.x e2.x, c u.y e1.y e2.y, c u.z e1.z e2.z⟩ : V3))

/-- Source weights under a normalisation; 2^34 stands for the weight 1 of a single source. -/
def spreadWeights (seff : Nat) (amp : Bool) : List Nat :=
  if seff = 0 then [2 ^ 34]
  else
    let n : Nat := 9 * 65536
    let w0 := if amp then rnU 34 ((n : Int) - 8 * seff) n else rnRootU (n - 8 * seff) n
    let w := if amp then rnU 34 seff n else rnRootU seff n
    w0 :: List.replicate 8 w

/-! ### Panning (R146 to R148) -/

/-- The vertex gains of the triangle's three components (R147 steps 1 to 3). -/
def vertexGains (m : MeshData) (tri : Nat) (g v : V3) (amp : Bool) : List (Nat × Nat) :=
  let t := nth m.layout.tris tri (0, 0, 0)
  let a := (max 0 g.x).toNat
  let b := (max 0 g.y).toNat
  let c := (max 0 g.z).toNat
  if a = 0 ∧ b = 0 ∧ c = 0 then
    let d := fun (i : Nat) => dot (nthV m.dirs i) v
    let best := if d t.2.1 ≤ d t.1 ∧ d t.2.2 ≤ d t.1 then t.1 else if d t.2.2 ≤ d t.2.1 then t.2.1 else t.2.2
    [(best, 2 ^ 34 - 1)]
  else
    let n := if amp then a + b + c else a * a + b * b + c * c
    let f := fun (x : Nat) => if amp then rnU 34 x n else rnRootU (x * x) n
    [(t.1, f a), (t.2.1, f b), (t.2.2, f c)]

/-- Add to an entry of a table of gains. -/
def addGain (t : Tbl Nat) (k x : Nat) : Tbl Nat := aInsert t k (min (aGet (fun _ => 0) t k + x) (2 ^ 34 - 1))

/-- A source's gains by target: a phantom's gain passes to its speaker neighbours (R147 step 4). -/
def sourceGains (m : MeshData) (amp : Bool) (vs : List (Nat × Nat)) : Tbl Nat :=
  vs.foldl (fun t x =>
    let vert := fun (i : Nat) => nth m.layout.verts i ⟨0, 0, 0, 0, 0⟩
    match m.phantoms.find? (fun p => p.1 == x.1) with
    | some p =>
      let n := p.2.length
      let share := if amp then rnU 34 x.2 (n * 2 ^ 34) else min (rnSqrt (x.2 * x.2) n) (2 ^ 34 - 1)
      p.2.foldl (fun t j => addGain t (vert j).target share) t
    | none => addGain t (vert x.1).target x.2) []

/-- The combined gains of one layout by target (R148), from weights and source gains. -/
def combine (amp : Bool) (ws : List Nat) (gs : List (Tbl Nat)) : Tbl Nat :=
  let names := ((gs.flatMap (fun t => t.map (fun p => p.1))).eraseDups)
  let wg := ws.zip gs
  names.foldl (fun t j =>
    let p := wg.map (fun x => x.1 * aGet (fun _ => 0) x.2 j)
    let v := if amp then rn (p.foldl (· + ·) 0 : Nat) (2 ^ 34)
      else (rnSqrt (p.foldl (fun a x => a + x * x) 0) (2 ^ 68) : Int)
    aSet (fun _ => 0) t j (min v.toNat (2 ^ 34 - 1))) []

/-- What panning on one layout found: gains by target, hints by source, uncovered sources, the triangle of source 0. -/
structure Panned where
  gains : Tbl Nat
  hints : List Nat
  uncovered : Nat
  tri : Nat
  nocov : Bool
deriving DecidableEq, Repr

/-- Pan the sources on one layout (R146 to R148); a layout without triangles gives no gains. -/
def panOn (m : MeshData) (amp : Bool) (dirs : List V3) (ws : List Nat) (hint : Nat → Option Nat) : Panned :=
  if m.mats.isEmpty then ⟨[], [], 0, 0, false⟩
  else
    let found := (List.range dirs.length).map (fun k =>
      let v := nthV dirs k
      searchFrom m v 3 ((hint k).getD (nth m.index (cellOf v) 0)) none)
    let gs := (found.zip dirs).map (fun x => sourceGains m amp (vertexGains m x.1.tri x.1.g x.2 amp))
    ⟨combine amp ws gs, found.map (fun f => f.tri), (found.filter (fun f => !f.covered)).length,
     (found.head?.map (fun f => f.tri)).getD 0, !((found.head?.map (fun f => f.covered)).getD true)⟩

/-- Order of speakers: decreasing gain, then output ID (R148, R149). -/
def byGain (a b : Nat × Nat) : Bool := b.2 < a.2 || (a.2 == b.2 && a.1 ≤ b.1)

/-- Keep the TAPS largest gains and renormalise (R148); whether any were dropped. -/
def keepTaps (amp : Bool) (taps : Nat) (gains : Tbl Nat) : List (Nat × Nat) × Bool :=
  let l := gains.filter (fun g => g.2 != 0)
  if l.length ≤ taps then (l.mergeSort byGain, false)
  else
    let k := (l.mergeSort byGain).take taps
    let n := if amp then k.foldl (fun a g => a + g.2) 0 else k.foldl (fun a g => a + g.2 * g.2) 0
    (k.map (fun g => (g.1, if amp then rnU 34 g.2 n else rnRootU (g.2 * g.2) n)), true)

/-! ### Gains (R150, R151) -/

/-- g_d in s1.34 (R150); lengths in 2^-23 m. -/
def distGain (law rref r guard : Nat) : Int :=
  let x := max r guard
  let v : Int := match law with
    | 0 => 2 ^ 34
    | 1 => rnSqrt (rref * 2 ^ 68) x
    | 2 => rn (rref * 2 ^ 34 : Nat) x
    | _ => rn (rref * rref * 2 ^ 34 : Nat) (x * x)
  min v (2 ^ 35 - 1)

/-! ### Tap slots (R149) -/

/-- A slot at an instant before its delay is known: the speaker, the gain target, and whether it is newly assigned or has
lost its speaker. -/
structure SlotPlan where
  out : Option Nat
  g : Int
  fresh : Bool
  left : Bool
deriving DecidableEq, Repr

/-- Slots that keep their speaker or run out (R149 rules 1 to 3). -/
def keepSlot (kept : List (Nat × Int)) (x : TapSlot) : SlotPlan :=
  match x.out with
  | none => ⟨none, 0, false, false⟩
  | some j =>
    match kept.find? (fun p => p.1 == j) with
    | some p => ⟨some j, p.2, false, false⟩
    | none => if x.g = 0 then ⟨none, 0, false, false⟩ else ⟨some j, 0, false, true⟩

/-- Put one speaker into the first free slot. -/
def placeSpeaker (p : Nat × Int) : List SlotPlan → Option (List SlotPlan)
  | [] => none
  | x :: xs =>
    if x.out.isNone then some (⟨some p.1, p.2, true, false⟩ :: xs)
    else (placeSpeaker p xs).map (fun ys => x :: ys)

/-- Speakers without a slot take free ones in order; the count is of those left over (R149 rules 4 and 5). -/
def placeAll : List (Nat × Int) → List SlotPlan → List SlotPlan × Nat
  | [], xs => (xs, 0)
  | p :: ps, xs =>
    if xs.any (fun x => x.out == some p.1) then placeAll ps xs
    else match placeSpeaker p xs with
      | some ys => placeAll ps ys
      | none => let r := placeAll ps xs; (r.1, r.2 + 1)

/-! ### Delays (R153, R154) -/

/-- The largest offset: 4,095 + 65,535/65,536 samples. -/
def offMax : Int := 2 ^ 28 - 1

/-- Saturation of u16.16. -/
def satU32 (x : Int) : Int := clampI 0 (2 ^ 32 - 1) x

/-- d x Fs / c - A in 2^-16 samples, rounded (R153): d in 2^-23 m, c in 2^-23 m/s, A in samples. -/
def pairDelay (fs sos d align : Nat) : Int := rn ((d * fs * 65536 : Nat) - (align * 65536 * sos : Nat) : Int) sos

/-- The targets' delays: D and the offset of each kept speaker, and how many offsets were limited (R153).  D leaves room for
the largest offset, that of a tap whose speaker left (oLeft) among them; where no speaker is kept D takes a free value. -/
def delayTargets (mode : Nat) (dcomp : Nat) (ts : List (Nat × Int)) (rDelay free oLeft : Int) : Int × List (Nat × Int) × Nat :=
  if mode = 1 then (min (satU32 (rDelay - dcomp)) (65472 * 65536 - oLeft), ts.map (fun t => (t.1, 0)), 0)
  else match ts with
    | [] => (min free (65472 * 65536 - oLeft), [], 0)
    | t0 :: rest =>
      let tMin := rest.foldl (fun a t => min a t.2) t0.2
      let os := ts.map (fun t => (t.1, min (t.2 - tMin) offMax))
      let oMax := os.foldl (fun a o => max a o.2) oLeft
      (min (max 0 (tMin - dcomp)) (65472 * 65536 - oMax), os, (ts.filter (fun t => offMax < t.2 - tMin)).length)

/-- Clamp to within lim of a previous value. -/
def slew (lim prev x : Int) : Int := clampI (prev - lim) (prev + lim) x

/-- A slot's targets from its plan (R149, R154), and whether a limit applied. -/
def slotDelay (lim dT dNew dPrev : Int) (seen : Bool) (oT : Nat → Int) (old : TapSlot) (p : SlotPlan) : TapSlot × Bool :=
  match p.out with
  | none => (TapSlot.free, false)
  | some j =>
    if p.left then ({ old with gPrev := old.g, g := p.g, oPrev := old.o, new := false }, false)
    else
      let want := dT + oT j
      let start := p.fresh || !seen
      let total := if start then want else slew lim (dPrev + old.o) want
      let o := clampI 0 offMax (total - dNew)
      ({ out := some j, gPrev := if p.fresh then 0 else old.g, g := p.g, oPrev := if start then o.toNat else old.o,
         o := o.toNat, new := p.fresh }, decide (total != want) || decide (o != total - dNew))

/-! ### Air (R156) -/

/-- The air coefficient in u0.34: K and FMAX in units of 100 Hz, r in 2^-23 m. -/
def airCoef (fs k fmax r : Nat) : Nat :=
  let x := max r 1
  if min (fmax * 2000) (9 * fs) * x ≤ k * 2000 * 2 ^ 23 then 0
  else rnU 34 (expFix (-(2 * piFix * (k * 100 * 2 ^ 23 : Nat)) / (x * fs : Nat))) (2 ^ 120)

/-! ### Instants (R140, R143) -/

/-- Phase of an object under a period. -/
def geoPhase (o g : Nat) : Nat := o * g / 2048

/-- Is block b an instant of object o, and of which period (R140, R143)? -/
def instantOf (gs : GeoState) (o b : Nat) : Option Nat :=
  let hit := fun (g : Nat) => g != 0 && b % g == geoPhase o g
  if b < gs.gSince then (if hit gs.gPrev && b + gs.gPrev ≤ gs.gSince then some gs.gPrev else none)
  else match gs.gNext with
    | some (_, q) => if hit gs.gEff && (b + gs.gEff ≤ q) then some gs.gEff else none
    | none => if hit gs.gEff then some gs.gEff else none

/-- A slot's geometry. -/
def geoOf (s : State) (h : Nat) : GeoObj := aGet (fun _ => GeoObj.init) s.geo.objs h

/-- Change a slot's geometry. -/
def geoMod (h : Nat) (f : GeoObj → GeoObj) (s : State) : State :=
  { s with geo := { s.geo with objs := aMod (fun _ => GeoObj.init) s.geo.objs h f } }

/-- A live layout's mesh data. -/
def meshAt (s : State) (ix : Nat) : MeshData := aGet (fun _ => MeshData.empty) s.geo.mesh ix

/-- An amended layout that has become live: its mesh replaces the old one and its hints are void (R146, R157). -/
def meshPromote (b : Nat) (s : State) : State :=
  let now := s.geo.relaid.filter (fun x => x.1 ≤ b)
  forEach now (fun x s =>
    { s with geo := { s.geo with
        mesh := aInsert s.geo.mesh x.2.1 x.2.2,
        objs := s.geo.objs.map (fun o => (o.1, { o.2 with hints := o.2.hints.filter (fun h => h.1 / 9 != x.2.1) })) } })
    { s with geo := { s.geo with relaid := s.geo.relaid.filter (fun x => b < x.1) } }

/-- An object's OBJECTS record in the live Pattern. -/
def objRec (s : State) (o : Nat) : Option ObjRec :=
  (s.pat.live.getD Pattern.empty).objects.find? (fun r => r.id == o)

/-- The layouts of a mask: physical first. -/
def layoutsOf (mask : Nat) : List Nat := (List.range 9).filter (fun i => bit mask i)

/-- What the evaluation of an instant gives: the slot's geometry, and what it reports. -/
structure GeoRes where
  geo : GeoObj
  nocov : Bool
  short : Bool
  slewed : Bool
  oclip : Nat
deriving DecidableEq, Repr

/-- Targets with the previous ones as where their ramps start (R144 to R156). -/
def geoTargets (s : State) (r : ObjRec) (g : Seg) (p : V3) (b per : Nat) (geo : GeoObj) (free : Nat) : GeoRes :=
  let fs := fsInt s
  let dist := normV p
  let u := dirOf p dist
  let guard := 8 * liveN s R.GEO_GUARD
  let seff := seffOf g.rcd.spread dist guard
  let dirs := if seff = 0 then [u] else spreadDirs u seff
  let amp := fun (ix : Nat) => getL s (F.GEO_LCFG_NORM ix) == 1
  let pans := (layoutsOf r.mask).map (fun ix =>
    (ix, panOn (meshAt s ix) (amp ix) dirs (spreadWeights seff (amp ix))
      (fun k => (geo.hints.find? (fun h => h.1 == 9 * ix + k)).map (fun h => h.2))))
  let gd := distGain (getL s F.GEO_DIST_LAW) (8 * liveN s R.GEO_RREF) dist guard
  let mute : Bool := recMute g.rcd
  let gain := if mute then 0 else g.rcd.gain
  let go := fun (ix : Nat) => if getL s (F.GEO_LCFG_DIST ix) = 1 then rnGain 34 (gain * gd) else gain
  let phys := ((pans.find? (fun x => x.1 == 0)).map (fun x => x.2)).getD ⟨[], [], 0, 0, false⟩
  let (kept, short) := keepTaps (amp 0) r.taps phys.gains
  let keptG := kept.map (fun k => (k.1, rnGain 34 (go 0 * (k.2 : Int))))
  -- slots
  let slots := (List.range r.taps).map (fun i => nth geo.live.slots i TapSlot.free)
  let (plan, beyond) := placeAll keptG (slots.map (keepSlot keptG))
  -- delays
  let sos := liveN s R.GEO_SOS
  let on : Bool := getL s F.GEO_CFG_DLY_EN == 1
  let vertOf := fun (j : Nat) => ((meshAt s 0).layout.verts.find? (fun v => v.kind != 1 && v.target == j)).getD ⟨0, 0, 0, 0, 0⟩
  let ts := kept.map (fun k =>
    let q := vertPos (vertOf k.1)
    (k.1, satU32 <| pairDelay fs sos (normV ⟨p.x - q.x, p.y - q.y, p.z - q.z⟩) (getL s (F.VSPK_CALIGN_ALIGN k.1))))
  let oLeft : Int := (slots.zip plan).foldl (fun a x => if x.2.left then max a x.1.o else a) 0
  let (dT, os, oclip) := if on then delayTargets r.mode (liveN s R.GEO_DCOMP) ts (pairDelay fs sos dist 0) free oLeft
    else (0, ts.map (fun t => (t.1, 0)), 0)
  let lim : Int := 4 * per * 65536
  let dPrev : Int := geo.live.d
  let dNew := if geo.seen then slew lim dPrev dT else dT
  let oT := fun (j : Nat) => ((os.find? (fun o => o.1 == j)).map (fun o => o.2)).getD 0
  let res := (slots.zip plan).map (fun x => slotDelay lim dT dNew dPrev geo.seen oT x.1 x.2)
  let slewed := decide (dNew != dT) || res.any (fun x => x.2)
  -- virtual channels and buses
  let virt : Tbl Int := (pans.filter (fun x => x.1 != 0)).foldl (fun t x =>
    x.2.gains.foldl (fun t e => aSet (fun _ => (0 : Int)) t (32 * (x.1 - 1) + e.1) (rnGain 34 (go x.1 * (e.2 : Int)))) t) []
  let busG := fun (m : Nat) =>
    let f := if m < 32 then liveN s R.GEO_BUSDIST_LO else liveN s R.GEO_BUSDIST_HI
    if bit f (m % 32) then rnGain 34 (gain * gd) else gain
  let bus : Tbl Int := (List.range 64).foldl (fun t m => aSet (fun _ => (0 : Int)) t m (busG m)) []
  let cd : Int := rnSqrt ((65536 - seff) * 2 ^ 68) 65536
  let cw : Int := rnSqrt (seff * 2 ^ 68) 65536
  let t : GeoTgt :=
    { first := b, len := per, slots := res.map (fun x => x.1), vPrev := geo.live.v, v := virt, bPrev := geo.live.b, b := bus,
      dPrev := if geo.seen then geo.live.d else dNew.toNat, d := dNew.toNat, cdPrev := geo.live.cd, cd := cd,
      cwPrev := geo.live.cw, cw := cw,
      air := if getL s F.GEO_AIR_EN = 1 then airCoef fs (getL s F.GEO_AIR_K) (getL s F.GEO_AIR_FMAX) dist else 0,
      seff := seff, seffPrev := geo.live.seff }
  let hints := pans.foldl (fun h x => (List.range x.2.hints.length).foldl (fun h k =>
    aInsert h (9 * x.1 + k) (nth x.2.hints k 0)) h) geo.hints
  { geo := { geo with next := some t, seen := true, r := dist, hints := hints, tri := phys.tri, nocov := phys.nocov },
    nocov := pans.any (fun x => 0 < x.2.uncovered), short := short || beyond != 0, slewed := slewed, oclip := oclip }

/-- The object whose targets slot h takes from an instant b, the geometry it has so far, the input block from which it holds
the slot, and whether it is still to take it (R92). -/
def geoFor (s : State) (b h : Nat) : Option Nat × GeoObj × Nat × Bool :=
  let sl := aGet (fun _ => SlotRender.init) s.rnd.slots h
  match sl.rebind with
  | some (o, k) => if k ≤ b then (o, GeoObj.init, k, true) else (sl.obj, geoOf s h, sl.since, false)
  | none => (sl.obj, geoOf s h, sl.since, false)

/-- Keep what an instant gave. -/
def geoKeep (h : Nat) (fresh : Bool) (g : GeoObj) (s : State) : State :=
  if fresh then { s with geo := { s.geo with fresh := aInsert s.geo.fresh h g } } else geoMod h (fun _ => g) s

/-- An evaluation saturated n components: the flag, the count of each, and the NOTICE once per segment (R133). -/
def clampReport (o n : Nat) (s : State) : State :=
  let s := cntAdd (setBit s F.OBJ_STAT_CLAMPED) R.OBJ_CLAMP_CNT n
  if (objOf s o).clamped then s else raise .objClamped 0 (objMod o (fun x => { x with clamped := true }) s)

/-- Evaluate one slot at an instant (R140, R133): the targets wait for the next strobe. -/
def geoEvalSlot (b h : Nat) (s : State) : State :=
  let (obj, geo, since, fresh) := geoFor s b h
  match obj with
  | none => s
  | some o =>
    -- a worker that has not been MEMBER since its last pour renders every object as IDLE (R396)
    let cur := if isWorker s && !s.hier.beenMember then none else (objOf s o).cur
    match instantOf s.geo o b, objRec s o, cur with
    | some per, some r, some g =>
      if b < since then s
      else
        let (p, clamps) := trajectory (fsInt s) g (16 * b)
        let s := if clamps = 0 then s else clampReport o clamps s
        let (free, s) := if r.mode = 0 then freeNat s 32 else (0, s)
        let x := geoTargets s r g p b per geo free
        let s := geoKeep h fresh x.geo s
        let s := if x.nocov then raise .geoNocov 0 (cnt s R.GEO_NOCOV_CNT) else s
        let s := if x.short then raise .geoTshort 0 (cnt s R.GEO_TSHORT_CNT) else s
        let s := if x.oclip = 0 then s else raise .geoOclip 0 (cntAdd s R.GEO_OCLIP_CNT x.oclip)
        if x.slewed then raise .geoSlew 0 (cnt s R.GEO_SLEW_CNT) else s
    | _, _, _ => s

/-- The geometry units' work of the block that begins: targets of the instant two blocks back become live, and the instant
one block back is evaluated with the registers of its boundary, before those of this one, and with the segment current at its
boundary among all that were accepted before this evaluation (R35, R60, R114, R140). -/
def geoStrobe (s : State) : State :=
  let t := blk s
  let miss := fun (u : Nat) => if s.geo.missNow.contains u then aGet (fun _ => 0) s.geo.misses u + 1 else 0
  let s := { s with geo := { s.geo with
      objs := s.geo.objs.map (fun x => match x.2.next with
        | some n => (x.1, { x.2 with live := n, next := none })
        | none => x),
      misses := (List.range 3).foldl (fun m u => aSet (fun _ => 0) m u (miss u)) [], missNow := [] } }
  let s := segmentsAt (t - 1) s
  if running s then forEach (s.rnd.slots.map (fun x => x.1)) (geoEvalSlot (t - 1)) (meshPromote (t - 1) s) else s

/-- The unit that serves an object (R141). -/
def geoUnit (s : State) (o : Nat) : Nat := if o % 2 = 0 then getF s F.GEO_UNITS_WA else getF s F.GEO_UNITS_WB

/-- GEO_OVERRUN: an object's targets are not written in time, so the tiles hold their values (R142). -/
def execGeoOverrun (h : Fin 2048) (s : State) : Out :=
  .next (match (geoOf s h.val).next with
    | none => s
    | some _ =>
      let o := ((aGet (fun _ => SlotRender.init) s.rnd.slots h.val).obj).getD h.val
      let s := geoMod h.val (fun g => { g with next := none }) s
      let s := { s with geo := { s.geo with missNow := geoUnit s o :: s.geo.missNow } }
      raise .geoOverrun 0 (cnt s R.GEO_OVR_CNT))

/-- G_CHANGE: the new period takes effect at its block (R143). -/
def execGChange (s : State) : Out :=
  .next (match s.geo.gNext with
    | none => s
    | some (g, q) =>
      if due s q then
        let busy := s.pat.layoutBusy.map (fun x =>
          (x.1, (x.2.1, if q < x.2.2 then max x.2.2 (x.2.1 + 2 * g + 1) else x.2.2)))
        let s := { s with pat := { s.pat with layoutBusy := busy } }
        setBit (setF { s with geo := { s.geo with gPrev := s.geo.gEff, gEff := g, gSince := q, gNext := none } }
          F.GEO_UNITS_G_EFF g) F.GEO_STAT_G_CHG
      else s)

/-- GEO_ODIST, GEO_ODLY and GEO_OTRI of the selected object, as of its last instant, from the slot it is bound to. -/
def geoShown (s : State) : GeoObj :=
  let o := getF s F.GEO_SEL_OBJ
  match s.rnd.slots.find? (fun x => x.2.obj == some o) with
  | some x => geoOf s x.1
  | none => GeoObj.init

/-- The targets of the selected object's last instant: those that wait for the next strobe, else the live ones. -/
def geoLatest (s : State) : GeoTgt := (geoShown s).next.getD (geoShown s).live

/-- GEO_OTRI as read. -/
def geoTriWord (s : State) : Nat := b2n (geoShown s).nocov * 2 ^ 31 + (geoShown s).tri

end Sys2Proof.Machine
end

