-- ==== Sys2Proof/Machine/AudioPorts.lean ====
section
/-! DEFINITION. Digital audio port lanes: clock groups, slot masks and maps, the Riser, the Oliantino loop and biphase lanes
(spec/13_audio_ports.md R305 to R321). -/

namespace Sys2Proof.Machine

/-- A clock group's state. -/
def grpOf (s : State) (g : Nat) : ApdGroup := aGet (fun _ => ApdGroup.init) s.apd.groups g

/-- Change a clock group. -/
def grpMod (g : Nat) (f : ApdGroup → ApdGroup) (s : State) : State :=
  { s with apd := { s.apd with groups := aMod (fun _ => ApdGroup.init) s.apd.groups g f } }

/-- A lane's state. -/
def laneOf (s : State) (l : Nat) : ApdLane := aGet (fun _ => ApdLane.init) s.apd.lanes l

/-- Change a lane. -/
def laneMod (l : Nat) (f : ApdLane → ApdLane) (s : State) : State :=
  { s with apd := { s.apd with lanes := aMod (fun _ => ApdLane.init) s.apd.lanes l f } }

/-! ### Geometry of frames (R305, R306) -/

/-- Slots in a frame. -/
def grpSlots (s : State) (g : Nat) : Nat :=
  if getF s (F.APD_GCFG_FMT g) ≤ 1 then 2 else 2 ^ (getF s (F.APD_GCFG_SLOTS g) + 1)

/-- Bits of a width code: 16, 24 or 32. -/
def widthBits (code : Nat) : Nat := 16 + 8 * code

/-- Bit clocks in a frame. -/
def grpBits (s : State) (g : Nat) : Nat := grpSlots s g * widthBits (getF s (F.APD_GCFG_SW g))

/-- The group is a master. -/
def isMaster (s : State) (g : Nat) : Bool := getF s (F.APD_GCFG_MASTER g) == 1

/-- Frame rate of a group in hertz. -/
def grpRate (s : State) (g : Nat) : Nat :=
  if isMaster s g then fsInt s else if getF s (F.APD_GCFG_RATE g) = 1 then 96000 else 48000

/-- The lanes of a group. -/
def grpLanes (g : Nat) : List Nat := [4 * g, 4 * g + 1, 4 * g + 2, 4 * g + 3]

/-- The lane is an output. -/
def laneOut (s : State) (l : Nat) : Bool := getF s (F.APD_LCFG_DIR l) == 1

/-- The lane is biphase. -/
def laneBi (s : State) (l : Nat) : Bool := getF s (F.APD_LCFG_BIPHASE l) == 1

/-- Sample word width of a lane in bits. -/
def laneW (s : State) (l : Nat) : Nat := widthBits (getF s (F.APD_LCFG_W l))

/-- The group is enabled and its enable has taken effect. -/
def grpOn (s : State) (g : Nat) : Bool :=
  (getF s (F.APD_GCTL_EN g) == 1 && (grpOf s g).startAt.isNone) || (grpOf s g).stopAt.isSome

/-! ### Clock pins (R306 to R309, R320) -/

/-- What a group's BCLK and FS pins do. -/
inductive ClockPins where
  /-- A slave group's pins are inputs. -/
  | inputs
  | highZ
  | low
  /-- The group clocks: FS by fsLevel, BCLK by bclkEdge. -/
  | clocking
deriving DecidableEq, Repr

/-- The clock pins of a group: the claim gate holds a master's at high impedance until they are driven from a boundary, and they
are low while the media loop is not SEATED, with the group off, and in the safe state (R309, R319, R320, R411). -/
def clockPins (s : State) (g : Nat) : ClockPins :=
  if !isMaster s g then .inputs
  else if !s.apd.driven then .highZ
  else if s.err.fatal || !grpOn s g || getF s (F.APD_GSTATE_STATE g) != 2 then .low
  else .clocking

/-- Bit clocks for which a master's FS stands at the level that starts the frame: half the frame in I2S and left-justified, and
in TDM as FS_WIDTH selects (R306, R307). -/
def fsWidth (s : State) (g : Nat) : Nat :=
  let half := grpBits s g / 2
  if getF s (F.APD_GCFG_FMT g) ≤ 1 then half
  else match getF s (F.APD_GCFG_FS_WIDTH g) with
    | 0 => 1
    | 1 => widthBits (getF s (F.APD_GCFG_SW g))
    | _ => half

/-- The level of FS in bit clock b of a frame, counted from the frame-starting edge: low first in I2S, high first otherwise, and
inverted by FS_INV (R306). -/
def fsLevel (s : State) (g b : Nat) : Bool :=
  let first : Bool := decide (b < fsWidth s g)
  let high := if getF s (F.APD_GCFG_FMT g) = 0 then !first else first
  if getF s (F.APD_GCFG_FS_INV g) = 1 then !high else high

/-- Bit clocks from the frame-starting edge to the first data bit (R306). -/
def firstBit (s : State) (g : Nat) : Nat :=
  match getF s (F.APD_GCFG_FMT g) with
  | 0 => 1
  | 1 => 0
  | _ => getF s (F.APD_GCFG_FS_DLY g)

/-- The driving edge of BCLK is the rising one; the other edge samples (R307). -/
def drivesRising (s : State) (g : Nat) : Bool := getF s (F.APD_GCFG_BCLK_INV g) == 1

/-- The driving edge that starts bit clock b of a master's frame, in 1/64 of the media-clock period from the frame-starting edge:
the phase accumulator restarts at each of those (R308). -/
def bclkEdge (s : State) (g b : Nat) : Nat :=
  b * (getF s (F.APD_GDIV_N g) * 2 ^ 24 + getF s (F.APD_GDIV_F g)) * 64 / 2 ^ 24

/-! ### Enable (R308, R311, R315, R316, R319) -/

/-- The shadow map of a lane: channel index of a slot. -/
def shadowMap (s : State) (l slot : Nat) : Nat :=
  if slot % 2 = 0 then getF s (F.APD_LMAP_EVEN l (slot / 2)) else getF s (F.APD_LMAP_ODD l (slot / 2))

/-- The bit-clock ratio is off by more than 2^-8 of the media clocks in a frame (R308). -/
def divBad (s : State) (g : Nat) : Bool :=
  let n := getF s (F.APD_GDIV_N g) * 2 ^ 24 + getF s (F.APD_GDIV_F g)
  let m := if rate96 s then 256 else 512
  2 ^ 16 < ((n * grpBits s g : Nat) - (m * 2 ^ 24 : Nat) : Int).natAbs

/-- Why a group may not be enabled: REASON and LANE. -/
def apdRefusal (s : State) (g : Nat) : Option (Nat × Nat) :=
  let lanes := grpLanes g
  let badLane := lanes.find? (fun l => getF s (F.APD_LCFG_W l) == 3 ||
    (laneOut s l && (List.range 32).any (fun i => !mapOk (shadowMap s l i))))
  let wide := lanes.find? (fun l =>
    if laneBi s l then laneOut s l && laneW s l == 32 else widthBits (getF s (F.APD_GCFG_SW g)) < laneW s l)
  let loop : Bool := getF s (F.APD_GCFG_LOOP g) == 1
  if 2 < getF s (F.APD_GCFG_FMT g) ∨ (getF s (F.APD_GCFG_FMT g) = 2 ∧ 4 < getF s (F.APD_GCFG_SLOTS g)) ∨ getF s (F.APD_GCFG_SW g) = 3 ∨
      (isMaster s g ∧ getF s (F.APD_GDIV_N g) = 0) then some (7, 0)
  else match badLane with
  | some l => some (7, l)
  | none =>
    if isMaster s g && divBad s g then some (1, 0)
    else if !isMaster s g && lanes.any (laneOut s) && grpRate s g != fsInt s then some (2, 0)
    else if 24576000 < grpBits s g * grpRate s g then some (3, 0)
    else match wide with
    | some l => some (4, l)
    | none =>
      if loop && (isMaster s g || !lanes.any (laneOut s)) then some (5, 0)
      else if loop && getF s (F.APD_LOOP_OUT g) == 0 &&
          (aGet (fun _ => DacCh.init) s.dac (getF s (F.APD_LOOP_DAC g))).modeNow != 1 then some (6, 0)
      else none

/-- EN of a group takes a value (R319): an enable withdrawn before its boundary leaves nothing, and one that follows a disable in
the same block stops and starts the group at that boundary. -/
def grpCtlApply (g : Nat) (v : Word) (s : State) : State :=
  let on := getF s (F.APD_GCTL_EN g)
  if fget v 31 31 = 1 then
    if on = 1 then s
    else match apdRefusal s g with
      | some (r, l) => raise .apdEnRefused g (setF (setF s (F.APD_GSTATE_REASON g) r) (F.APD_GSTATE_LANE g) l)
      | none => grpMod g (fun x => { x with startAt := some (blk s + 1) })
          (setF (setF (setF s (F.APD_GSTATE_REASON g) 0) (F.APD_GSTATE_LANE g) 0) (F.APD_GCTL_EN g) 1)
  else if on = 0 then s
  else grpMod g (fun x => { x with startAt := none, stopAt := if x.startAt.isSome then x.stopAt else some (blk s + 1) })
    (setF s (F.APD_GCTL_EN g) 0)

/-- The meaning of writing EN = 1 to a group. -/
def execApdGroupEnable (via : Src) (g : Fin 16) (s : State) : Out :=
  .next (grpCtlApply g.val 0x80000000#32 (journalReg via (R.APD_GCTL g.val) 0x80000000#32 s))

/-- The meaning of writing EN = 0 to a group. -/
def execApdGroupDisable (via : Src) (g : Fin 16) (s : State) : Out :=
  .next (grpCtlApply g.val 0#32 (journalReg via (R.APD_GCTL g.val) 0#32 s))

/-! ### Masks and maps (R312, R313) -/

/-- APD_STAT.MASK_PEND: some lane's transfer is pending. -/
def showPend (s : State) : State :=
  setF s F.APD_STAT_MASK_PEND (b2n ((List.range 64).any (fun l => getF s (F.APD_LSTATE_PEND l) == 1)))

/-- The shadow mask and map of a lane become live together. -/
def maskTransfer (l : Nat) (s : State) : State :=
  let map : Tbl Nat := (List.range 32).foldl (fun t i => aSet (fun _ => 0xFFFF) t i (shadowMap s l i)) []
  let s := laneMod l (fun x => { x with map := map }) (wr s (R.APD_LMASK_LIVE l) (rd s (R.APD_LMASK l)))
  raiseDone (showPend (setF s (F.APD_LSTATE_PEND l) 0))
where
  raiseDone (s : State) : State := setBit s F.APD_STAT_MASK_DONE

/-- A shadow mask is written: its transfer is pending, or with the group disabled takes place at once. -/
def laneMaskApply (l : Nat) (v : Word) (s : State) : State :=
  let s := showPend (setF (wr s (R.APD_LMASK l) v) (F.APD_LSTATE_PEND l) 1)
  if grpOn s (l / 4) then s else maskTransfer l s

/-- The meaning of a write to APD_LMASKl. -/
def execLaneMaskWrite (via : Src) (l : Fin 64) (v : Word) (s : State) : Out :=
  .next (laneMaskApply l.val v (journalReg via (R.APD_LMASK l.val) v s))

/-- A frame-starting edge of the group counts for a transfer: after a loss only an accepted one (R312, R321). -/
def grpEdges (s : State) (g : Nat) : Bool :=
  match getF s (F.APD_GSTATE_STATE g) with
  | 0 => false
  | 3 => !(grpOf s g).lost && (grpOf s g).rejects == 0
  | _ => true

/-- LANE_MASK_TRANSFER: the first edge at least 4 bit clocks after the write has come; without edges it waits. -/
def execLaneMaskTransfer (l : Fin 64) (s : State) : Out :=
  .next (if getF s (F.APD_LSTATE_PEND l.val) = 1 ∧ grpOn s (l.val / 4) ∧ grpEdges s (l.val / 4) then maskTransfer l.val s else s)

/-- Channel that a slot of a lane carries under the live map. -/
def liveMap (s : State) (l slot : Nat) : Nat := aGet (fun _ => 0xFFFF) (laneOf s l).map slot

/-- The slot is enabled by the live mask. -/
def slotOn (s : State) (l slot : Nat) : Bool := bit (rdN s (R.APD_LMASK_LIVE l)) slot

/-! ### Output frames and the Riser (R307, R313, R314, R316) -/

/-- A channel's sample (s4.31) and its dither in frame j of the output block that sounds. -/
def chanSample (s : State) (ch j : Nat) : Int × Int :=
  if ch = 0xFFFF then (0, 0)
  else
    let c := chanOf s ch
    ((c.play.xs[j]?).getD 0, (c.play.dither[j]?).getD 0)

/-- A channel's sample and dither as a sink word of W bits under a fade of the sample, and whether it saturated (R210,
R509). -/
def laneWord (w level : Nat) (x : Int × Int) : Int × Bool :=
  convert w (fade x.1 level 16) (if w = 16 then x.2 else 0)

/-- The framed output lanes of a group. -/
def framedOut (s : State) (g : Nat) : List Nat := (grpLanes g).filter (fun l => laneOut s l && !laneBi s l)

/-- One frame of a group's Riser from egress: every mapped slot of every framed output lane, under the group's fade. -/
def riserFrame (s : State) (g level : Nat) : Tbl (Int × Int) :=
  (framedOut s g).foldl (fun t l => (List.range (grpSlots s g)).foldl (fun t i =>
    let x := chanSample s (liveMap s l i) (s.msi % 16)
    aSet (fun _ => (0, 0)) t (32 * l + i) (fade x.1 level 16, x.2)) t) []

/-- Show the Riser's fill. -/
def showFill (g : Nat) (s : State) : State := setF s (F.APD_RISER_FILL g) (grpOf s g).riser.length

/-- Write one frame into a Riser; a full one drops its oldest, and reading begins after 32 frames. -/
def riserWrite (g : Nat) (f : Tbl (Int × Int)) (s : State) : State :=
  let full : Bool := decide (64 ≤ (grpOf s g).riser.length)
  let s := if full then raise .apdSlip g (cnt s (R.APD_GSLIP_DROP g)) else s
  let s := grpMod g (fun x => { x with riser := (if full then x.riser.drop 1 else x.riser) ++ [f], written := x.written + 1 }) s
  showFill g (if 32 ≤ (grpOf s g).written then setF s (F.APD_RISER_RUN g) 1 else s)

/-- The word of a slot of the frame last read, and whether its conversion saturated. -/
def slotWord (s : State) (l i : Nat) : Int × Bool :=
  laneWord (laneW s l) s.apd.claimLevel (aGet (fun _ => (0, 0)) (grpOf s (l / 4)).lastRead (32 * l + i))

/-- The conversions of a frame that a group has read: one for each mapped slot of each framed output lane (R210). -/
def slotSats (g : Nat) (s : State) : State :=
  forEach (framedOut s g) (fun l s => forNat (grpSlots s g) (fun i s =>
    if liveMap s l i = 0xFFFF then s else cvtSat (b2n (slotWord s l i).2) (liveMap s l i) s) s) s

/-- The pins of a framed output lane take a frame that was read; a lane whose group is off, of either kind, is idle. -/
def lanePins (l : Nat) (s : State) : State :=
  let g := l / 4
  let idle : Option Int := if getF s (F.APD_LCFG_IDLE l) = 1 then none else some 0
  let driven : Bool := s.apd.driven
  laneMod l (fun x => { x with pins := (List.range (if laneBi s l then 2 else grpSlots s g)).map (fun i =>
    if !driven then none
    else if s.err.fatal || !running s || !slotOn s l i || getF s (F.APD_GSTATE_STATE g) ≤ 1 then idle
    else some (slotWord s l i).1) }) s

/-- The bits that a framed output lane drives in a frame, from its first data bit on (R307): each slot's word MSB first in its
first W bits, and zeros after it; none is high impedance. -/
def laneBits (s : State) (l : Nat) : List (Option Bool) :=
  let sw := widthBits (getF s (F.APD_GCFG_SW (l / 4)))
  let w := laneW s l
  (laneOf s l).pins.flatMap (fun p => (List.range sw).map (fun i =>
    p.map (fun v => decide (i < w) && bit (code w v) (w - 1 - i))))

/-- A group reads one frame at a frame-starting FS edge; an empty Riser repeats the previous one (R314). -/
def riserRead (g : Nat) (s : State) : State :=
  let s := if getF s (F.APD_RISER_RUN g) = 0 then s
    else match (grpOf s g).riser with
      | [] => raise .apdSlip g (cnt s (R.APD_GSLIP_REP g))
      | f :: t => slotSats g (showFill g (grpMod g (fun x => { x with riser := t, lastRead := f }) s))
  forEach (framedOut s g) lanePins s

/-- A master group's frame-sync edge lies at the MSI of its frame (R51, R309): the frame that egress writes is read at once. -/
def masterFrame (g : Nat) (s : State) : State :=
  let f := riserFrame s g (grpOf s g).outLevel
  let s := slotSats g (grpMod g (fun x => { x with lastRead := f }) (setF s (F.APD_RISER_RUN g) 1))
  forEach (framedOut s g) lanePins s

/-- Bit b of the 192 of a channel-status or user block of six words. -/
def blockBit (ws : List Nat) (base b : Nat) : Bool := bit ((ws[base + b / 32]?).getD 0) (b % 32)

/-- One subframe on a biphase output: audio in [23:0], V, U, C and even parity in bits 24 to 27 (R316). -/
def subframe (audio w : Nat) (v u c : Bool) : Int :=
  let x := audio * 2 ^ (24 - w) % 2 ^ 24 + b2n v * 2 ^ 24 + b2n u * 2 ^ 25 + b2n c * 2 ^ 26
  let ones := ((List.range 27).filter (fun i => bit x i)).length
  (x + ones % 2 * 2 ^ 27 : Nat)

/-- The word of a biphase slot in the present frame, and whether its conversion saturated. -/
def biphaseWord (s : State) (l i : Nat) : Int × Bool :=
  laneWord (min 24 (laneW s l)) s.apd.claimLevel (chanSample s (liveMap s l i) (s.msi % 16))

/-- A biphase slot is not valid: it is disabled, the lane is muted, or it fades or carries the zero of R80 (R313, R316). -/
def biphaseMute (s : State) (l i : Nat) : Bool :=
  let b := s.msi / 16
  s.apd.claimLevel < 16 || s.err.fatal || !running s || (s.pat.zeroFrom ≤ b && b < s.pat.zeroTo) || !slotOn s l i ||
    (liveMap s l i != 0xFFFF && (chanOf s (liveMap s l i)).play.fading)

/-- A biphase output's two subframes of the present frame (R313, R316); with the Pattern stopped, and in the safe state, the
whole lane follows IDLE (R320). -/
def biphasePins (l : Nat) (s : State) : State :=
  let b := s.msi % 192
  let w := min 24 (laneW s l)
  let live : Bool := running s && !s.err.fatal
  let ws := (laneOf s l).csLive
  let sub := fun (i : Nat) =>
    let v := if slotOn s l i && live then (biphaseWord s l i).1 else 0
    subframe (code w v) w (biphaseMute s l i) (blockBit ws (12 + 6 * i) b) (blockBit ws (6 * i) b)
  let off : Bool := !s.apd.driven || (!live && getF s (F.APD_LCFG_IDLE l) == 1)
  laneMod l (fun x => { x with pins := if off then [none, none] else [some (sub 0), some (sub 1)] }) s

/-- A biphase output's frame: its conversions, then its pins. -/
def biphaseOut (l : Nat) (s : State) : State :=
  biphasePins l (forNat 2 (fun i s =>
    if liveMap s l i = 0xFFFF then s else cvtSat (b2n (biphaseWord s l i).2) (liveMap s l i) s) s)

/-- The preambles of a biphase frame (R316). -/
inductive Preamble where
  | x
  | y
  | z
deriving DecidableEq, Repr

/-- The preamble of subframe A or B in the frame of output MSI m: Z where m mod 192 = 0. -/
def preamble (m : Nat) (b : Bool) : Preamble := if b then .y else if m % 192 = 0 then .z else .x

/-- Move a fade by one frame. -/
def stepLevel (up : Bool) (level : Nat) : Nat := if up then min 16 (level + 1) else level - 1

/-- An input lane's level and live mask in the frame that ends enter its history of 48 frames (R50, R313). -/
def laneNote (l : Nat) (s : State) : State :=
  let g := l / 4
  let bi := stepLevel (laneOf s l).up (laneOf s l).level
  let level := if laneBi s l then bi else if 2 ≤ getF s (F.APD_GSTATE_STATE g) then (grpOf s g).inLevel else 0
  laneMod l (fun x => { x with level := bi, hist := ((level, rdN s (R.APD_LMASK_LIVE l)) :: x.hist).take 48 }) s

/-- One media frame of a group: its fades, the history of its input lanes, its Riser's write, a master's frame, and its
biphase outputs.  In the safe state the output slots are idle and no master clock runs (R411). -/
def grpFrame (g : Nat) (s : State) : State :=
  if !grpOn s g then s
  else
    let st := getF s (F.APD_GSTATE_STATE g)
    let s := grpMod g (fun x => { x with outLevel := stepLevel x.outUp x.outLevel, inLevel := stepLevel x.inUp x.inLevel }) s
    let s := forEach ((grpLanes g).filter (fun l => !laneOut s l)) laneNote s
    let s := if s.err.fatal then forEach (framedOut s g) lanePins s
      else if isMaster s g then (if st = 2 then masterFrame g s else s)
      else if 2 ≤ st then riserWrite g (riserFrame s g (grpOf s g).outLevel) s else s
    forEach ((grpLanes g).filter (fun l => laneOut s l && laneBi s l)) biphaseOut s

/-- One media frame of the audio ports; the fade of a takeover or a drill moves on (R320, R381). -/
def apdFrame (s : State) : State :=
  forNat 16 grpFrame { s with apd := { s.apd with claimLevel := stepLevel s.apd.claimUp s.apd.claimLevel } }

/-! ### Slave groups (R310) -/

/-- Enter RUN: the Riser starts anew. -/
def grpRun (g : Nat) (fadeIn : Bool) (s : State) : State :=
  let l := if fadeIn then 0 else 16
  let s := setF (setF (setF s (F.APD_GSTATE_STATE g) 2) (F.APD_RISER_RUN g) 0) (F.APD_RISER_FILL g) 0
  grpMod g (fun x => { x with riser := [], written := 0, acc := 0, held := 0, outLevel := l, outUp := true,
                              inLevel := l, inUp := true, goodStart := none, goodCount := 0, slewing := fadeIn }) s

/-- A slave group's clock is lost: HOLD (R247, R310).  A gap counts once; a clock of another rate, whose edges are all
rejected, keeps RATE until it stops. -/
def grpLoss (g : Nat) (gap : Bool) (s : State) : State :=
  let s := grpMod g (fun x => { x with goodStart := none, goodCount := 0, rejects := 0, accepted := [] }) s
  if (grpOf s g).lost && !(gap && getF s (F.APD_GSTATE_STATE g) == 4) then s
  else
    let s := raise .apdClkLoss g (cnt s (R.APD_GLOSS g))
    let s := grpMod g (fun x => { x with lost := true }) s
    if getF s (F.APD_GSTATE_STATE g) = 4 ∧ !gap then s
    else grpMod g (fun x => { x with outUp := false, inUp := false }) (setF s (F.APD_GSTATE_STATE g) 3)

/-- An accepted edge counts to the qualifying second outside RUN (R248). -/
def grpAccept (g stamp interval : Nat) (s : State) : State :=
  let s := grpMod g (fun x => { x with rejects := 0, accepted := (interval :: x.accepted).take 256 }) s
  let st := getF s (F.APD_GSTATE_STATE g)
  if st = 2 then s
  else match (grpOf s g).goodStart with
    | none => grpMod g (fun x => { x with goodStart := some stamp, goodCount := 0 }) s
    | some t0 =>
      let k := (grpOf s g).goodCount + 1
      let s := grpMod g (fun x => { x with goodCount := k }) s
      if stampsPerSec ≤ stamp - t0 then
        let r := grpRate s g
        if ((k * stampsPerSec : Nat) - ((stamp - t0) * r : Nat) : Int).natAbs * 10000 ≤ (stamp - t0) * r then
          if st = 1 then grpRun g false s else raise .apdReinstated g (grpRun g true s)
        else grpMod g (fun x => { x with goodStart := some stamp, goodCount := 0 }) s
      else s

/-- A rejected edge or frame; eight in a row are a loss. -/
def grpReject (g : Nat) (bclk : Bool) (s : State) : State :=
  let s := raise .apdGlitch g (cnt s (if bclk then R.APD_GBCLK_ERR g else R.APD_GGLITCH g))
  let s := grpMod g (fun x => { x with rejects := x.rejects + 1, goodStart := none, goodCount := 0 }) s
  if 8 ≤ (grpOf s g).rejects then grpLoss g false s else s

/-- The rate of some intervals in units of 1/k Hz; none without an interval. -/
def meanRate (k : Nat) (l : List Nat) : Option Nat :=
  let sum := l.foldl (· + ·) 0
  if sum = 0 then none else some (l.length * k * stampsPerSec / sum)

/-- The measured rate of a group, u24.8 Hz: that of its accepted intervals, and in RATE that of the intervals which showed the
change (R247, R310). -/
def showRate (g : Nat) (s : State) : State :=
  let x := grpOf s g
  match meanRate 256 (if getF s (F.APD_GSTATE_STATE g) = 4 then x.intervals else x.accepted) with
  | none => s
  | some r => wrN s (R.APD_GRATE g) r

/-- The frequency estimate at a strobe: it follows the accepted intervals in RUN, after HOLD or RATE by at most 10 ppm/s until it
has reached them, and holds in any other state (R310). -/
def estimateStep (g : Nat) (s : State) : State :=
  if getF s (F.APD_GSTATE_STATE g) ≠ 2 then s
  else match meanRate (2 ^ 24) (grpOf s g).accepted with
    | none => s
    | some r => grpMod g (fun x =>
        let most : Int := (x.estimate * 16 / (100000 * fsInt s) : Nat)
        let step := clampI (-most) most ((r : Int) - x.estimate)
        let next : Nat := if x.slewing then ((x.estimate : Int) + step).toNat else r
        { x with estimate := next, slewing := x.slewing && next != r }) s

/-- Judge one frame-starting edge of a slave group (R246, R247, R310); its frame's input MSI is the stamped one + 32 (R50). -/
def grpEdge (g stamp bclks : Nat) (s : State) : State :=
  let s := grpMod g (fun x => { x with lost := false, inMsi := some (s.msi + 32) }) s
  match (grpOf s g).lastEdge with
  | none => grpMod g (fun x => { x with lastEdge := some stamp }) s
  | some prev =>
    let interval := stamp - prev
    let s := grpMod g (fun x => { x with lastEdge := some stamp, intervals := (interval :: x.intervals).take 256 }) s
    let rate := grpRate s g
    let s := if !withinPpm interval rate 125000 then grpReject g false s
      else if bclks != grpBits s g then grpReject g true s
      else grpAccept g stamp interval s
    showRate g (if rateChanged (grpOf s g).intervals rate ∧ getF s (F.APD_GSTATE_STATE g) ≠ 4 then
      grpMod g (fun x => { x with outUp := false, inUp := true })
        (raise .apdRateChg g (setF s (F.APD_GSTATE_STATE g) 4))
    else s)

/-- A frame-starting FS edge of a slave group: judged, and the group reads its Riser (R310, R314). -/
def execSlaveFsEdge (g : Fin 16) (stamp : BitVec 64) (bclks : BitVec 16) (s : State) : Out :=
  .next (if grpOn s g.val ∧ !isMaster s g.val then riserRead g.val (grpEdge g.val stamp.toNat bclks.toNat s) else s)

/-- No FS edge for more than 1.5 nominal periods (R247, R310). -/
def execSlaveFsTimeout (g : Fin 16) (s : State) : Out :=
  .next (if grpOn s g.val ∧ !isMaster s g.val then
      grpLoss g.val true s else s)

/-! ### The Oliantino loop (R315) -/

/-- The fill of a Riser in 2^-8 frames above 32, with the read side's fraction since the last FS edge. -/
def loopError (s : State) (g : Nat) : Int :=
  let x := grpOf s g
  let frac : Int := match x.lastEdge with
    | none => 0
    | some t => min 256 (rh (256 * ((s.time.ref - t) * grpRate s g : Nat)) stampsPerSec)
  256 * ((x.riser.length : Int) - 32) - frac

/-- The loop's control word at a strobe. -/
def loopUpdate (g : Nat) (s : State) : State :=
  let e := loopError s g
  let inv : Bool := getF s (F.APD_LOOP_INV g) == 1
  let u0 := if inv then 65535 - getF s (F.APD_LOOPOUT_U g) else getF s (F.APD_LOOPOUT_U g)
  let atLimit : Bool := (u0 == 65535 && 0 < e) || (u0 == 0 && e < 0)
  let ki : Int := getF s (F.APD_LOOPK_KI g)
  let kp : Int := getF s (F.APD_LOOPK_KP g)
  let acc := if atLimit then (grpOf s g).acc else (grpOf s g).acc + ki * e
  let raw := ((getF s (F.APD_LOOP_CENTRE g) : Int) * 65536 + kp * e * 256 + acc) / 65536
  let u := clampI 0 65535 raw
  let held := if e.natAbs < 256 then (grpOf s g).held + 1 else 0
  let s := grpMod g (fun x => { x with acc := acc, held := held }) s
  let lim : Bool := u != raw
  let was : Bool := getF s (F.APD_LOOPOUT_LIMIT g) == 1
  let s := setF (setF s (F.APD_LOOPOUT_LIMIT g) (b2n lim)) (F.APD_LOOPOUT_LOCKED g) (b2n (fsInt s ≤ 16 * held))
  let s := if lim && !was then raise .apdLoopLimit g s else s
  setF s (F.APD_LOOPOUT_U g) (if inv then 65535 - u else u).toNat

/-- The PWM level of a group's GPIO in the present frame's media-clock cycle (R315). -/
def loopPwm (s : State) (g cycle : Nat) : Bool := decide (cycle % 4096 < getF s (F.APD_LOOPOUT_U g) / 16)

/-! ### Strobes -/

/-- A lane whose group starts or stops: an input has no lock and no history (R305, R317). -/
def laneRest (l : Nat) (s : State) : State :=
  let s := setF (setF s (F.APD_LSTATE_BP_LOCK l) 0) (F.APD_LSTATE_BP_RATE l) 0
  laneMod l (fun x => { x with good := 0, bad := 0, level := 0, up := false, lost := false, inMsi := none, lastA := 0, lastB := 0,
                               cs := none, hist := [] }) s

/-- Groups start and stop at a boundary, and master groups follow the seating of the media loop (R309, R319). -/
def grpBoundary (g : Nat) (s : State) : State :=
  let x := grpOf s g
  let at_ := fun (b : Option Nat) => match b with
    | none => false
    | some k => decide (k ≤ blk s)
  let s := if at_ x.stopAt then
      forEach (grpLanes g) (fun l s => if laneOut s l then lanePins l s else laneRest l s)
        (setF (setF (setF (grpMod g (fun _ => ApdGroup.init) s) (F.APD_GSTATE_STATE g) 0) (F.APD_RISER_RUN g) 0)
          (F.APD_RISER_FILL g) 0)
    else s
  let s := if at_ x.startAt then
      setF (grpMod g (fun _ => ApdGroup.init) s) (F.APD_GSTATE_STATE g) (if isMaster s g then 0 else 1)
    else s
  if grpOn s g && isMaster s g then
    let seated : Bool := getF s F.TSU_ML_STATE_SEATED == 1
    if seated && getF s (F.APD_GSTATE_STATE g) == 0 then grpRun g false s
    else if !seated then setF s (F.APD_GSTATE_STATE g) 0 else s
  else s

/-- The claim gate has closed: every output lane is at high impedance, and so are the clock pins (R320, R361). -/
def apdRelease (s : State) : State :=
  { s with apd := { s.apd with driven := false,
                               lanes := s.apd.lanes.map (fun p => (p.1, { p.2 with pins := p.2.pins.map (fun _ => none) })) } }

/-- The audio ports at a strobe; the pins follow the claim gate from a block boundary (R320).  The loop's word is computed where
the group's Riser is in use, in RUN, HOLD and RATE (R315). -/
def apdStrobe (s : State) : State :=
  let open_ := gateOpen s
  let drives : Bool := open_ && !s.apd.driven
  let s := if open_ then s else apdRelease s
  let s := { s with apd := { s.apd with
    driven := open_, claimLevel := if open_ && !s.apd.driven && isPair s then 0 else s.apd.claimLevel,
    claimUp := if open_ && !s.apd.driven then true else s.apd.claimUp } }
  let s := if drives then forEach ((List.range 64).filter (laneOut s)) lanePins s else s
  forNat 16 (fun g s =>
    let s := estimateStep g s
    if getF s (F.APD_GCFG_LOOP g) = 1 ∧ 2 ≤ getF s (F.APD_GSTATE_STATE g) then loopUpdate g s else s) (forNat 16 grpBoundary s)

/-- A takeover restarts the accumulators of the loops (R321). -/
def apdTakeover (s : State) : State := forNat 16 (fun g s => grpMod g (fun x => { x with acc := 0 }) s) s

/-- A pour that changes Fs_int takes slave groups with outputs and another rate to RATE (R321). -/
def apdPour (s : State) : State :=
  forNat 16 (fun g s =>
    if grpOn s g ∧ !isMaster s g ∧ (grpLanes g).any (laneOut s) ∧ grpRate s g ≠ fsInt s ∧
        getF s (F.APD_GSTATE_STATE g) ≠ 4 then
      grpMod g (fun x => { x with outUp := false }) (raise .apdRateChg g (setF s (F.APD_GSTATE_STATE g) 4))
    else s) s

/-- A source of a lane slot passes through the ASRC bank: a slave group's, or a biphase input's (R310, R317). -/
def laneNonLocked (s : State) (l : Nat) : Bool := laneBi s l || !isMaster s (l / 4)

/-- The slot exists on an input lane of an enabled group (R220, R221). -/
def laneLive (s : State) (l slot : Nat) : Bool :=
  grpOn s (l / 4) && !laneOut s l && decide (slot < if laneBi s l then 2 else grpSlots s (l / 4))

/-- A lane slot's samples of the input block that ended, from the words it received in it: exact from a master group; free
where the ASRC bank converts, which takes the frames stamped 32 media frames earlier (R50).  Each frame has the level and the
mask of its own time (R310, R313, R317, R509). -/
def laneSamples (l slot : Nat) (words : List Int) (s : State) : List Int × State :=
  let late := if laneNonLocked s l then 32 else 0
  let at_ := fun (j : Nat) => ((laneOf s l).hist[late + 15 - j]?).getD (0, 0)
  let level := fun (j : Nat) => if bit (at_ j).2 slot then (at_ j).1 else 0
  if !laneLive s l slot || (List.range 16).all (fun j => level j == 0) then (List.replicate 16 0, s)
  else
    let exact := (List.range 16).map (fun j => sx (laneW s l) (code (laneW s l) ((words[j]?).getD 0)) * 2 ^ (32 - laneW s l))
    let (xs, s) := if laneNonLocked s l then freeSamples 16 s else (exact, s)
    (xs.zipIdx.map (fun p => fade p.1 (level p.2) 16), s)

/-! ### Biphase inputs and channel status (R317, R318) -/

/-- One step of the AES3 CRCC over a bit, least significant register bit last (x^8 + x^4 + x^3 + x^2 + 1). -/
def crccBit (c : Nat) (b : Bool) : Nat :=
  let t := (c / 128 + b2n b) % 2
  (c * 2 % 256) ^^^ (if t = 1 then 0x1D else 0)

/-- The AES3 CRCC of the first 184 bits of a block of six words from a base, as the eight bits of byte 23. -/
def crcc (ws : List Nat) (base : Nat) : Nat :=
  let c := (List.range 184).foldl (fun c i => crccBit c (blockBit ws base i)) 0xFF
  (List.range 8).foldl (fun a i => a + b2n (bit c (7 - i)) * 2 ^ i) 0

/-- Put the CRCC into byte 23 of a professional block. -/
def putCrcc (base : Nat) (ws : List Nat) : List Nat :=
  if bit ((ws[base]?).getD 0) 0 then
    ws.set (base + 5) (putBits ((ws[base + 5]?).getD 0) 31 24 (crcc ws base))
  else ws

/-- The transmit shadows of a lane transfer together. -/
def csTransfer (l : Nat) (s : State) : State :=
  let ws := (List.range 24).map (fun j => rdN s (R.APD_CSTX l j))
  let ws := if getF s (F.APD_LCFG_CRCC l) = 1 then putCrcc 6 (putCrcc 0 ws) else ws
  laneMod l (fun x => { x with csLive := ws, csPend := none }) s

/-- CS_COMMIT asks for the first Z preamble at least one frame later. -/
def csCommit (l : Nat) (s : State) : State := laneMod l (fun x => { x with csPend := some (s.msi + 2) }) s

/-- The meaning of writing CS_COMMIT. -/
def execCsCommit (via : Src) (l : Fin 64) (s : State) : Out :=
  .next (csCommit l.val (journalReg via (R.APD_LCFG l.val) (BitVec.ofNat 32 (rdN s (R.APD_LCFG l.val) + 2 ^ 24)) s))

/-- CS_TRANSFER: a frame with a Z preamble begins, and carries the new blocks from its first bit on (R316, R318). -/
def execCsTransfer (l : Fin 64) (s : State) : Out :=
  .next (match (laneOf s l.val).csPend with
    | none => s
    | some q =>
      if q ≤ s.msi ∧ s.msi % 192 = 0 ∧ grpOn s (l.val / 4) ∧ laneOut s l.val ∧ laneBi s l.val then biphasePins l.val (csTransfer l.val s) else s)

/-- Six words of 192 bits, the first bit lowest. -/
def packBits (bs : List Bool) : List Nat :=
  (List.range 6).map (fun w => (List.range 32).foldl (fun a i => a + b2n ((bs[32 * w + i]?).getD false) * 2 ^ i) 0)

/-- A received block is complete: latched, or discarded when its CRCC fails (R318). -/
def csReceived (l : Nat) (fs : List (Bool × Bool × Bool × Bool)) (s : State) : State :=
  let ws := packBits (fs.map (fun f => f.1)) ++ packBits (fs.map (fun f => f.2.1)) ++
    packBits (fs.map (fun f => f.2.2.1)) ++ packBits (fs.map (fun f => f.2.2.2))
  let bad := fun (base : Nat) => bit ((ws[base]?).getD 0) 0 && crcc ws base != bits ((ws[base + 5]?).getD 0) 31 24
  if bad 0 || bad 6 then cnt s (R.APD_LCS_CRC l)
  else setBit (forNat 24 (fun j s => wrN s (R.APD_CSRX l j) ((ws[j]?).getD 0)) s) F.APD_STAT_CS_NEW

/-- A subframe is held: parity error, or V with VHOLD (R317). -/
def subHeld (s : State) (l : Nat) (x : SubFrame) : Bool := !x.parityOk || (x.v && getF s (F.APD_LCFG_VHOLD l) == 1)

/-- A received frame with valid preambles; its input MSI is the stamped one + 32 (R50).  A lane that locks again after a loss
fades in (R317). -/
def biphaseGood (l : Nat) (f : BpFrame) (s : State) : State :=
  let s := laneMod l (fun x => { x with good := x.good + 1, bad := 0, inMsi := some (s.msi + 32) }) s
  let s := if 64 ≤ (laneOf s l).good ∧ getF s (F.APD_LSTATE_BP_LOCK l) = 0 then
      laneMod l (fun x => { x with up := true, level := if x.lost then x.level else 16 })
        (setF (setF s (F.APD_LSTATE_BP_LOCK l) 1) (F.APD_LSTATE_BP_RATE l) f.rate) else s
  if getF s (F.APD_LSTATE_BP_LOCK l) = 0 then s
  else
    let s := setF s (F.APD_LSTATE_V l) (b2n f.a.v + 2 * b2n f.b.v)
    let n := b2n (subHeld s l f.a) + b2n (subHeld s l f.b)
    let s := if n = 0 then s else raise .apdParity l (cntAdd s (R.APD_LPARITY l) n)
    let s := laneMod l (fun x => { x with
      lastA := if subHeld s l f.a then x.lastA else f.a.audio,
      lastB := if subHeld s l f.b then x.lastB else f.b.audio }) s
    let e := (f.a.c, f.b.c, f.a.u, f.b.u)
    let cs := if f.z then some [e] else (laneOf s l).cs.map (fun r => e :: r)
    match cs with
    | none => s
    | some r =>
      if r.length = 192 then csReceived l r.reverse (laneMod l (fun x => { x with cs := none }) s)
      else laneMod l (fun x => { x with cs := some r }) s

/-- BIPHASE_FRAME_RX: one frame of a biphase input (R317, R318). -/
def execBiphaseFrameRx (l : Fin 64) (f : BpFrame) (s : State) : Out :=
  .next (if !(grpOn s (l.val / 4) && laneBi s l.val && !laneOut s l.val) then s
    else if f.valid then biphaseGood l.val f s
    else laneMod l.val (fun x => { x with good := 0, bad := x.bad + 1, cs := none }) s)

/-- BIPHASE_LOCK_LOSS: four frames without a valid preamble (R317). -/
def execBiphaseLockLoss (l : Fin 64) (s : State) : Out :=
  .next (if getF s (F.APD_LSTATE_BP_LOCK l.val) = 1 ∧ 4 ≤ (laneOf s l.val).bad then
      let s := raise .apdBpLoss l.val (cnt s (R.APD_LBP_LOSS l.val))
      laneMod l.val (fun x => { x with up := false, lost := true, cs := none })
        (setF (setF s (F.APD_LSTATE_BP_LOCK l.val) 0) (F.APD_LSTATE_BP_RATE l.val) 0)
    else s)

end Sys2Proof.Machine
end

