-- ==== Sys2Proof/Machine/Dac.lean ====
section
/-! DEFINITION. The analogue output channels: codes, queues, group delay, states, span changes, silence, claim and faults
(spec/15_dac.md R341 to R351). -/

namespace Sys2Proof.Machine

/-- A converter channel. -/
def dacOf (s : State) (n : Nat) : DacCh := aGet (fun _ => DacCh.init) s.dac n

/-- Change a converter channel. -/
def dacMod (n : Nat) (f : DacCh → DacCh) (s : State) : State :=
  { s with dac := aMod (fun _ => DacCh.init) s.dac n f }

/-- DAC_CSTATEn.STATE: 0 OFF, 1 SAFE, 2 RUN, 3 LPZ, 4 SPAN, 5 HIZ, 6 FAULT (R345). -/
def dacSt (s : State) (n : Nat) : Nat := getF s (F.DAC_CSTATE_STATE n)

/-- Put a channel in a state; the LPZ bit shows LPZ. -/
def dacEnter (n st : Nat) (s : State) : State :=
  setF (setF s (F.DAC_CSTATE_STATE n) st) (F.DAC_CSTATE_LPZ n) (b2n (st == 3))

/-- Show the fill of a queue. -/
def dacShow (n : Nat) (s : State) : State := setF s (F.DAC_CSTATE_FILL n) (dacOf s n).queue.length

/-! ### Codes (R341, R342) -/

/-- The code of an output sample y (s4.31): clamped to full scale, then RH to 24 bits. -/
def dacCode (y : Int) : Int := satS 24 (rhShift (clampI (-(2 ^ 31)) (2 ^ 31) y) 8)

/-- The code of a 16-bit value. -/
def code16 (v : Nat) : Int := ((v : Int) - 32768) * 256

/-- The safe code of a span, from the values in force. -/
def safeCode (s : State) (n span : Nat) : Int :=
  code16 (match span with
    | 0 => getL s (F.DAC_SAFE_01_SAFE_LO n)
    | 1 => getL s (F.DAC_SAFE_01_SAFE_HI n)
    | 2 => getL s (F.DAC_SAFE_23_SAFE_LO n)
    | _ => getL s (F.DAC_SAFE_23_SAFE_HI n))

/-- The fault code in force. -/
def faultCode (s : State) (n : Nat) : Int := code16 (getL s (F.DAC_FAULT_CODE n))

/-- Current that DACn_P sources for the code it holds, in units of 5 mA / 2^23 (R341); none with the sources off. -/
def dacCurrent (x : DacCh) : Int :=
  if !x.sources || x.clamped then 0
  else match x.spanNow with
    | 0 => x.code + 2 ^ 23
    | 1 => 2 * (x.code + 2 ^ 23)
    | 2 => x.code
    | _ => 2 * x.code

/-- The complementary current of DACn_N (R493): what is left of the full scale, or in the bipolar spans the negative. -/
def dacCurrentN (x : DacCh) : Int :=
  if !x.sources || x.clamped then 0
  else match x.spanNow with
    | 0 => 2 ^ 24 - dacCurrent x
    | 1 => 2 ^ 25 - dacCurrent x
    | _ => -dacCurrent x

/-- DC mode: unit elements of the 10-bit array that are on in a media-clock cycle, for a 16-bit value: its upper 10 bits, and one
element more where the pattern of its lower 6 bits has it on (R342). -/
def dcElements (u cycle : Nat) : Nat := u / 64 % 1024 + b2n (Config.dcPattern (u % 64) (cycle % 64))

/-- The channel is in audio mode with a bipolar span. -/
def dacBipolar (x : DacCh) : Bool := x.modeNow == 0 && 2 ≤ x.spanNow

/-- The claim gate is closed, and no drill brings the channel up ahead of it (R349, R381). -/
def dacNoDrive (s : State) (x : DacCh) : Bool :=
  !gateOpen s && !(dacBipolar x && (match s.clm.drillRun with
    | some d => decide (blk s ≤ d)
    | none => false))

/-! ### One media frame (R343 to R345) -/

/-- The converter takes one code: the queue's oldest, from frame 8 of a block on while codes come. -/
def dacRead (m : Nat) (x : DacCh) : DacCh :=
  let flowing : Bool := m % 16 == 8 || (x.pipe.getLast?.getD none).isSome
  match x.queue with
  | [] => { x with pipe := x.pipe.drop 1 ++ [none] }
  | c :: t =>
    if flowing then { x with pipe := x.pipe.drop 1 ++ [some c], queue := t }
    else { x with pipe := x.pipe.drop 1 ++ [none] }

/-- One frame of a ramp of 64 frames. -/
def dacRamp (x : DacCh) : DacCh :=
  match x.ramp with
  | none => x
  | some (a, b, k) => { x with code := rh (a * (63 - k) + b * (k + 1)) 64, ramp := if k = 63 then none else some (a, b, k + 1) }

/-- One frame of a channel in RUN, in audio mode: the code that emerges, with the crossfade or a drill's fade. -/
def dacPlay (head : Option Int) (x : DacCh) : DacCh :=
  match head with
  | none => { x with held := true }
  | some c =>
    if x.held then x
    else
      let x := match x.xf with
        | none => { x with code := c }
        | some (h, k) => { x with code := rh (16 * h + (k + 1) * (c - h)) 16, xf := if k = 15 then none else some (h, k + 1) }
      match x.fadeOut with
      | none => x
      | some k => { x with code := rh (x.code * (15 - k)) 16, fadeOut := some (min 15 (k + 1)) }

/-- The sequence of R348 has come to its last step: the safe code is loaded, and the next boundary ends it. -/
def dacSpanDone (x : DacCh) : Bool := x.span.isNone && x.settling.isNone

/-- One media frame of a channel. -/
def dacChanFrame (n : Nat) (s : State) : State :=
  let st := dacSt s n
  if st = 0 then s
  else
    let head := ((dacOf s n).pipe.head?).getD none
    let s := if st = 4 && !dacSpanDone (dacOf s n) then s else dacShow n (dacMod n (dacRead s.msi) s)
    let x := dacOf s n
    let safe := safeCode s n x.spanNow
    let fc := faultCode s n
    let fatal := s.err.fatal
    dacMod n (fun x =>
      match st with
      | 1 => { x with code := if x.clamped then 0 else safe }
      | 2 => if x.modeNow = 1 then { x with code := x.dc } else dacPlay head x
      | 4 => if x.settling.isSome then { x with code := 0 } else if x.span.isNone then { x with code := safe } else dacRamp x
      | 6 => if fatal || x.ramp.isNone then { x with code := fc, ramp := none } else dacRamp x
      | _ => { x with code := 0 }) s

/-- The channel index that feeds a converter channel. -/
def dacMap (s : State) (n : Nat) : Nat := getF s (F.DAC_MAP_CH n)

/-- Codes are discarded and counted (R344, R348). -/
def dacDiscard (n k : Nat) (s : State) : State :=
  if k = 0 then s else raise .dacDiscard n (cntAdd s (R.DAC_DISC_CNT n) k)

/-- DAC_QUEUE_LOAD: at frame 6 egress loads the 16 codes of the next output block (R343, R347). -/
def dacLoad (n : Nat) (s : State) : State :=
  if dacSt s n = 0 then s
  else
    let ch := dacMap s n
    let blk : OutBlk := if ch = 0xFFFF then OutBlk.zero else (chanOf s ch).egress
    let codes := (List.range 16).map (fun j => dacCode ((blk.xs[j]?).getD 0))
    if 48 < (dacOf s n).queue.length then dacDiscard n 16 s
    else
      let phys : Bool := ch < 1024
      dacShow n (dacMod n (fun x =>
        let x := { x with queue := x.queue ++ codes, silNext := blk.silent && phys }
        if st3 s && !x.silNext then { x with sources := true } else x) s)
where
  /-- The channel is in LPZ. -/
  st3 (s : State) : Bool := dacSt s n == 3

/-- One media frame of all channels: the load at frame 6 comes before the read. -/
def dacFrame (s : State) : State :=
  let s := if s.msi % 16 = 6 && running s then forNat 32 dacLoad s else s
  forNat 32 dacChanFrame s

/-! ### The block strobe (R342, R345, R347, R349 to R351) -/

/-- The loop word of an enabled group that names the channel (R315, R342). -/
def dacLoopWord (s : State) (n : Nat) : Option Nat :=
  ((List.range 16).find? (fun g => getF s (F.APD_GCFG_LOOP g) == 1 && grpOn s g && getF s (F.APD_LOOP_OUT g) == 0 &&
    getF s (F.APD_LOOP_DAC g) == n)).map (fun g => getF s (F.APD_LOOPOUT_U g))

/-- Take the DC code in force from this strobe; a channel holds it across the zero-signal blocks of a pour (R80). -/
def dacDc (n : Nat) (s : State) : State :=
  if s.pat.zeroFrom ≤ blk s && blk s < s.pat.zeroTo then s
  else
    let u := (dacLoopWord s n).getD (getF s (F.DAC_DC_CODE n))
    dacMod n (fun x => { x with dc := code16 u }) s

/-- Enter FAULT with the ramp of R344. -/
def dacFault (n : Nat) (s : State) : State :=
  let fc := faultCode s n
  let s := dacMod n (fun x => { x with ramp := some (x.code, fc, 0), xf := none, fadeOut := none, held := false, urRun := 0,
                                       span := none, act := .none, settling := none, clamped := false, sources := true }) s
  raise .dacFaultCode n (dacEnter n 6 s)

/-- A channel leaves FAULT by CLEAR; a write of SPAN or MODE that was held is carried out without the ramp (R348, R350). -/
def dacClear (n : Nat) (s : State) : State :=
  let s := dacEnter n 1 s
  dacMod n (fun x =>
    let x := { x with ramp := none, clearAt := none, held := false, urRun := 0 }
    match x.want with
    | none => x
    | some (sp, md, _) => { x with want := none, spanNow := sp, modeNow := md, clamped := true, sources := true,
                                   settling := some .clear }) s

/-- The unit has ceased to win the claim: HIZ at once; a span change under way or asked for applies (R349, R351). -/
def dacHiz (n : Nat) (s : State) : State :=
  let s := dacMod n (fun x =>
    let y : Option (Nat × Nat) := match x.want, x.span with
      | some (sp, md, _), _ => some (sp, md)
      | none, some (_, sp, md) => some (sp, md)
      | none, none => none
    let x := match y with
      | some (sp, md) => { x with spanNow := sp, modeNow := md }
      | none => x
    { x with want := none, act := .none, span := none, settling := none, ramp := none, xf := none, fadeOut := none, held := false,
             clamped := true, sources := false, forceAt := none, clearAt := none }) s
  dacEnter n 5 s

/-- The silence rule at the first frame of an output block (R347). -/
def dacSilence (n : Nat) (s : State) : State :=
  let x := dacOf s n
  let lpz : Bool := x.silNext && getF s (F.DAC_CFG_LPZ_EN n) == 1 && dacBipolar x
  match dacSt s n with
  | 2 => if lpz then dacEnter n 3 (dacMod n (fun x => { x with clamped := true, sources := false, xf := none }) s) else s
  | 3 => if lpz then s else dacEnter n 2 (dacMod n (fun x => { x with clamped := false, sources := true }) s)
  | _ => s

/-- A block boundary with code c in force passes a boundary that a command names. -/
def atBlock (b : Option Nat) (c : Nat) : Bool :=
  match b with
  | none => false
  | some k => decide (k ≤ c)

/-- A span change may begin: the channel is in SAFE or RUN, or has come to the end of a change. -/
def spanMayStart (s : State) (n : Nat) : Bool :=
  (dacSt s n == 1 || dacSt s n == 2 || dacSt s n == 4 && dacSpanDone (dacOf s n)) && (dacOf s n).settling.isNone

/-- At the boundary that follows the write the output starts to ramp to the old span's safe code; the codes of the block that
begins are discarded (R348). -/
def dacSpanStart (n sp md : Nat) (s : State) : State :=
  let x := dacOf s n
  let s := dacDiscard n (x.queue.length + (x.pipe.filter Option.isSome).length) s
  let safe := safeCode s n x.spanNow
  let s := dacMod n (fun x => { x with queue := [], pipe := List.replicate 8 none, ramp := some (x.code, safe, 0), xf := none,
                                       held := false, want := none, span := some (blk s, sp, md) }) s
  dacShow n (dacEnter n 4 s)

/-- The step of R348 that the channel takes at this boundary: the start, or the switch to the new span and mode. -/
def dacSpanAct (n : Nat) (s : State) : State :=
  let x := dacOf s n
  let s := dacMod n (fun x => { x with act := .none }) s
  match x.act, x.want, x.span with
  | .start, some (sp, md, _), _ => if spanMayStart s n then dacSpanStart n sp md s else s
  | .switch, _, some (_, sp, md) =>
    if dacSt s n = 4 then
      dacMod n (fun x => { x with clamped := true, sources := true, spanNow := sp, modeNow := md, ramp := none,
                                  settling := some .span }) s
    else s
  | _, _, _ => s

/-- A channel at a strobe, before frame 0 of the block. -/
def dacStrobeCh (n : Nat) (s : State) : State :=
  let c := blk s
  let s := dacDc n s
  if dacSt s n = 0 ∨ s.err.fatal then dacMod n (fun x => { x with forceAt := none, clearAt := none }) s
  else
    let s := if dacNoDrive s (dacOf s n) && dacSt s n != 5 then dacHiz n s else s
    -- a unit that begins to win turns its sources on (R349)
    let s := if dacSt s n = 5 && gateOpen s && (dacOf s n).settling.isNone then
        dacMod n (fun x => { x with sources := true, settling := some .claim }) s else s
    let s := if atBlock (dacOf s n).clearAt c then
        (if dacSt s n = 6 then dacClear n s else dacMod n (fun x => { x with clearAt := none }) s) else s
    let s := if atBlock (dacOf s n).forceAt c then
        dacMod n (fun x => { x with forceAt := none }) (if dacSt s n = 5 then s else dacFault n s) else s
    let s := dacSpanAct n s
    -- codes of output blocks that a span change covers are discarded (R348)
    let s := match (dacOf s n).span with
      | some (t, _, _) =>
        if t < c && c ≤ t + 4 then
          dacShow n (dacMod n (fun x => { x with queue := x.queue.drop 16 }) (dacDiscard n (min 16 (dacOf s n).queue.length) s))
        else s
      | none => s
    let s := if dacSt s n = 4 && dacSpanDone (dacOf s n) then dacEnter n 1 s else s
    let head : Bool := (((dacOf s n).pipe.head?).getD none).isSome
    let s := if dacSt s n = 1 && running s && head && (dacOf s n).settling.isNone && !(dacOf s n).clamped then
        dacEnter n 2 (dacMod n (fun x => { x with xf := some (x.code, 0), held := false, urRun := 0 }) s)
      else if dacSt s n = 2 && (dacOf s n).held && head then
        dacMod n (fun x => { x with xf := some (x.code, 0), held := false, urRun := 0 }) s
      else s
    if head then dacSilence n s else s

/-- The claim gate has closed: every channel that it keeps from driving is at high impedance at once (R349, R361). -/
def dacGateClosed (s : State) : State :=
  forNat 32 (fun n s => if dacSt s n ≠ 0 ∧ dacSt s n ≠ 5 ∧ !s.err.fatal ∧ dacNoDrive s (dacOf s n) then dacHiz n s else s) s

/-- All channels at a strobe. -/
def dacStrobe (s : State) : State := forNat 32 dacStrobeCh s

/-- The Pattern has stopped: RUN and LPZ go to SAFE, with the queue empty; FAULT holds (R84, R345, R351). -/
def dacStopped (s : State) : State :=
  forNat 32 (fun n s =>
    let s := dacShow n (dacMod n (fun x => { x with queue := [], pipe := List.replicate 8 none, silNext := false }) s)
    if dacSt s n = 2 ∨ dacSt s n = 3 then
      dacEnter n 1 (dacMod n (fun x => { x with clamped := false, sources := true, xf := none, fadeOut := none, held := false }) s)
    else s) s

/-! ### Commands -/

/-- DAC_UNDERRUN: the queue is empty at a read instant in RUN; counted once per block.  The output holds once the codes under
way in the converter have come out (R343, R344; `dacPlay`). -/
def execDacUnderrun (n : Fin 32) (s : State) : Out :=
  let x := dacOf s n.val
  .next (if dacSt s n.val = 2 ∧ x.queue = [] ∧ x.urBlock ≠ some (blk s) then
      let run := if x.urBlock.getD 0 + 1 = blk s then x.urRun + 1 else 1
      let s := dacMod n.val (fun x => { x with urBlock := some (blk s), urRun := run }) s
      raise .dacUnderrun n.val (cnt s (R.DAC_UR_CNT n.val))
    else s)

/-- FORCE is taken for the next boundary (R350). -/
def dacForce (n : Nat) (s : State) : State := dacMod n (fun x => { x with forceAt := some (blk s + 1) }) s

/-- DAC_UR_FAULT: the underrun has lasted UR_LIM blocks, and the channel enters FAULT at the first frame of the next one
(R344). -/
def execDacUrFault (n : Fin 32) (s : State) : Out :=
  .next (if dacSt s n.val = 2 ∧ getL s (F.DAC_FAULT_UR_LIM n.val) ≤ (dacOf s n.val).urRun ∧ 0 < (dacOf s n.val).urRun
    then dacForce n.val s else s)

/-- CLEAR is taken for the next boundary (R350). -/
def dacClearCmd (n : Nat) (s : State) : State := dacMod n (fun x => { x with clearAt := some (blk s + 1) }) s

/-- DAC_FORCE. -/
def execDacForce (via : Src) (n : Fin 32) (s : State) : Out :=
  .next (dacForce n.val (journalReg via R.DAC_CMD (BitVec.ofNat 32 (0x20 + n.val)) s))

/-- DAC_CLEAR. -/
def execDacClear (via : Src) (n : Fin 32) (s : State) : Out :=
  .next (dacClearCmd n.val (journalReg via R.DAC_CMD (BitVec.ofNat 32 (0x40 + n.val)) s))

/-- The DAC records read from NVM (R346). -/
def dacRecs (s : State) : List Byte := rdBytes s (nvmBase + 0x6000) 516

/-- A record breaks R342. -/
def dacRecBad (bs : List Byte) (n : Nat) : Bool :=
  let b0 := leAt bs (16 * n) 1
  bit b0 2 && bit b0 1

/-- The records hold. -/
def dacRecsOk (bs : List Byte) : Bool :=
  crc32c (bs.take 512) == leAt bs 512 4 && (List.range 32).all (fun n => !dacRecBad bs n)

/-- A channel takes its record: registers and values in force, sources on, settling at the safe code. -/
def dacTakeRec (bs : List Byte) (n : Nat) (s : State) : State :=
  let at16 := fun (o : Nat) => leAt bs (16 * n + o) 2
  let b0 := leAt bs (16 * n) 1
  let set := fun (off v : Nat) (s : State) =>
    { wrN s off v with live := aSet regReset s.live off (BitVec.ofNat 32 v) }
  let s := set (R.DAC_SAFE_01 n) (at16 4 * 65536 + at16 2) (set (R.DAC_SAFE_23 n) (at16 8 * 65536 + at16 6)
    (set (R.DAC_FAULT n) (leAt bs (16 * n + 12) 1 * 65536 + at16 10) s))
  let s := setF (setF s (F.DAC_CFG_SPAN n) (bits b0 1 0)) (F.DAC_CFG_MODE n) (bits b0 2 2)
  dacMod n (fun _ => { DacCh.init with spanNow := bits b0 1 0, modeNow := bits b0 2 2, sources := true,
                                       settling := some .powerUp }) s

/-- DAC_POWER_UP_LOAD: the converter die reads its records (R346). -/
def execDacPowerUpLoad (s : State) : Out :=
  .next (if s.pwr.dacAwait ∧ s.pwr.good ∧ !s.pwr.hot ∧ !s.pwr.testEn then
      let s := { s with pwr := { s.pwr with dacAwait := false } }
      let bs := dacRecs s
      if dacRecsOk bs then forNat 32 (dacTakeRec bs) s else raise .dacNvmBad 0 s
    else s)

/-- A write of DAC_CFGn (R342, R348). -/
def dacCfgApply (n : Nat) (v : Word) (s : State) : State :=
  let sp := fget v 1 0
  let md := fget v 2 2
  if md = 1 ∧ 2 ≤ sp then writeIgnored s
  else
    let s := wr s (R.DAC_CFG n) (v &&& 0xF#32)
    let x := dacOf s n
    let st := dacSt s n
    if st = 0 ∨ st = 5 ∨ st = 3 then dacMod n (fun x => { x with spanNow := sp, modeNow := md, want := none }) s
    else if st = 6 ∨ (st = 4 ∧ !dacSpanDone x) then dacMod n (fun x => { x with want := some (sp, md, none) }) s
    else if sp = x.spanNow ∧ md = x.modeNow then dacMod n (fun x => { x with want := none }) s
    else dacMod n (fun x => { x with want := some (sp, md, some (blk s + 1)) }) s

/-- DAC_CFG_WRITE. -/
def execDacCfgWrite (via : Src) (n : Fin 32) (v : Word) (s : State) : Out :=
  .next (dacCfgApply n.val v (journalReg via (R.DAC_CFG n.val) v s))

/-- DAC_SPAN_START: the change begins at the coming boundary (R348). -/
def execDacSpanStart (n : Fin 32) (s : State) : Out :=
  .next (match (dacOf s n.val).want with
    | some (_, _, some k) => if due s k && spanMayStart s n.val then dacMod n.val (fun x => { x with act := .start }) s else s
    | _ => s)

/-- DAC_SPAN_SWITCH: the channel clamps and switches at the coming boundary, MSI 16t + 64 (R348). -/
def execDacSpanSwitch (n : Fin 32) (s : State) : Out :=
  .next (match (dacOf s n.val).span with
    | some (t, _, _) =>
      if due s (t + 4) && dacSt s n.val == 4 && (dacOf s n.val).settling.isNone then
        dacMod n.val (fun x => { x with act := .switch }) s
      else s
    | none => s)

/-- A write that waited for the end of a sequence starts at the next boundary. -/
def dacWantNext (c : Nat) (x : DacCh) : DacCh :=
  match x.want with
  | some (sp, md, none) =>
    if sp = x.spanNow ∧ md = x.modeNow then { x with want := none } else { x with want := some (sp, md, some (c + 1)) }
  | _ => x

/-- A channel whose switch is released after it has begun to win: the queued codes from the zero-signal code, or with none to take
SAFE at the safe code (R345, R349). -/
def dacClaimed (n : Nat) (s : State) : State :=
  let x := dacOf s n
  let codes : Bool := !x.queue.isEmpty || x.pipe.any (fun c => c.isSome)
  if running s && codes then dacEnter n 2 (dacMod n (fun x => { x with code := 0, xf := some (0, 0), held := false, urRun := 0 }) s)
  else dacEnter n 1 (dacMod n (fun x => { x with code := safeCode s n x.spanNow }) s)

/-- The clamp is released at the end of settling. -/
def dacRelease (n : Nat) (why : Settle) (s : State) : State :=
  let s := dacMod n (fun x => { x with settling := none, clamped := false }) s
  match why with
  | .powerUp => if gateOpen s then dacMod n (fun x => { x with code := safeCode s n x.spanNow }) (dacEnter n 1 s) else dacHiz n s
  | .clear => dacMod n (fun x => { x with code := safeCode s n x.spanNow }) s
  | .span => dacMod n (fun x => dacWantNext (blk s) { x with code := safeCode s n x.spanNow, span := none }) s
  | .claim => dacClaimed n s
  | .drill => dacEnter n 2 (dacMod n (fun x => { x with code := 0, held := true, urRun := 0 }) s)

/-- DAC_SETTLE_DONE: 20 us of settling have passed (R346, R348, R349, R381). -/
def execDacSettleDone (n : Fin 32) (s : State) : Out :=
  .next (match (dacOf s n.val).settling with
    | some why => dacRelease n.val why s
    | none => s)

/-- A FATAL brings every channel that is not OFF to its fault code at once (R350, R470). -/
def dacFatal (s : State) : State :=
  forNat 32 (fun n s => if dacSt s n = 6 then
      let fc := faultCode s n
      dacMod n (fun x => { x with code := fc, ramp := none, span := none, act := .none, settling := none, want := none, clamped := false,
                                  sources := true }) s
    else s) s

/-- A reset that keeps the converter die: each channel in SAFE at its present span's safe code (R346, R464). -/
def dacCoreReset (n : Nat) (x : DacCh) (st : Nat) (safe : Int) : DacCh × Nat :=
  let off : Bool := st == 0 && n < 32
  ({ DacCh.init with code := if off then 0 else safe, clamped := off, sources := !off || x.sources, spanNow := x.spanNow,
                     modeNow := x.modeNow, settling := if off then x.settling else none },
    if off then 0 else 1)

end Sys2Proof.Machine
end

