-- ==== Sys2Proof/Machine/Pdm.lean ====
section
/-! DEFINITION. PDM microphones: source values, decimator resets and idle pins (spec/14_pdm_and_capture.md R325 to R333). -/

namespace Sys2Proof.Machine

/-- Is the microphone's decimator enabled: its own EN and its clock group's (R326). -/
def micOn (s : State) (m : Nat) : Bool := getF s (F.PDM_MIC_EN m) == 1 && getF s (F.PDM_CLKCFG_EN (m / 8)) == 1

/-- The microphone is idle (R332). -/
def micIdle (s : State) (m : Nat) : Bool := bit (rdN s R.PDM_IDLE) m

/-- The clock pin of a group is driven, under CLAIM only while the gate is open, and after a takeover from the next block
boundary (R326, R333); without power, and after REFCLK or the core PLL has failed, it is released (R462, R470). -/
def pdmClkDriven (s : State) (k : Nat) : Bool :=
  s.pwr.good && !s.pwr.clkFail && (getF s (F.PDM_CLKCFG_CLAIM k) == 0 || (gateOpen s && s.apd.driven))

/-- A clock pin that is driven stays low: its EN is 0, or in the safe state (R326, R411). -/
def pdmClkLow (s : State) (k : Nat) : Bool := s.err.fatal || getF s (F.PDM_CLKCFG_EN k) == 0

/-- PDM clock periods in a sample frame: the media clock by 8 or by 4 over Fs_int (R325). -/
def pdmRatio (s : State) : Nat := (if rate96 s then 32 else 64) * (getF s F.PDM_CFG_CLKRATE + 1)

/-- The data pin that carries a microphone (R325). -/
def micPin (m : Nat) : Nat := m / 2

/-- A microphone is sampled on the falling edge of its clock (R325). -/
def micFalling (m : Nat) : Bool := m % 2 == 1

/-- A preset's CIC order N and decimation delay D in frames (R328). -/
def pdmPreset (p : Nat) : Nat × Nat :=
  match p with
  | 0 => (3, 10)
  | 1 => (4, 18)
  | _ => (5, 34)

/-- Ask for a reset of all decimators at a strobe; a pending reset takes it in (R330). -/
def pdmAsk (k : Nat) (s : State) : State :=
  if s.pdm.resets.isEmpty then { s with pdm := { s.pdm with resets := [k] } } else s

/-- The meaning of writing PDM_CMD.SYNC. -/
def execPdmSync (via : Src) (s : State) : Out := .next (pdmAsk (blk s + 2) (journalReg via R.PDM_CMD 1#32 s))

/-- A rising edge at MICSYNC with the media-clock cycles for which it stays high (R330, R331). -/
def execMicsyncEdge (highCycles : BitVec 32) (s : State) : Out :=
  .next (if getF s F.PDM_CFG_SYNC_DIR = 1 ∨ getF s F.PDM_CFG_SYNC_IN_EN = 0 then s
    else if highCycles.toNat < 4 then cnt s R.PDM_SYNC_REJ_CNT
    else pdmAsk (blk s + 2) s)

/-- The settling of some microphones begins at a frame (R331). -/
def micReset (mics : List Nat) (frame : Nat) (s : State) : State :=
  { s with pdm := { s.pdm with
      since := mics.foldl (fun t m => aInsert t m ((frame :: aGet (fun _ => []) t m).take 2)) s.pdm.since } }

/-- The frame, as `TimeState.frames` counts, that begins a block to come. -/
def frameOfBlock (s : State) (k : Nat) : Nat := s.time.frames + (16 * k - s.msi)

/-- Reset decimators at the strobe of block k, which comes: its MSI is recorded, the microphones settle from it, and MICSYNC as
an output goes high for that block (R330, R331); the chains are cleared where that frame begins (micFrame). -/
def decimReset (mics : List Nat) (k : Nat) (s : State) : State :=
  let s := micReset mics (frameOfBlock s k) s
  let s := setBit (wr64 s R.PDM_SYNC_LO R.PDM_SYNC_HI (16 * k)) F.PDM_STAT_SYNC_DONE
  let s := if getF s F.PDM_CFG_SYNC_DIR = 1 then { s with pdm := { s.pdm with syncHigh := k :: s.pdm.syncHigh.filter (fun b => blk s ≤ b) } } else s
  if getF s F.CAP_STATE_STATE = 2 then setBit s F.CAP_STAT_SYNC_IN_CAP else s

/-- All microphones reset at the strobe of block k: one that is enabled only later settles from it too (R331). -/
def decimResetAll (k : Nat) (s : State) : State := decimReset (List.range 32) k s

/-- DECIMATOR_RESET: the scheduled reset, or that of microphones that resumed, at the coming strobe. -/
def execDecimatorReset (s : State) : Out :=
  let k := dueBlk s
  .next (match s.pdm.resets.find? (fun r => due s r) with
    | some r => { decimResetAll r s with pdm := { (decimResetAll r s).pdm with resets := [], mics := [] } }
    | none =>
      if s.pdm.mics.isEmpty then s
      else
        let s' := decimReset (s.pdm.mics.filter (micOn s)) k s
        { s' with pdm := { s'.pdm with mics := [] } })

/-- The level of MICSYNC where it is an output. -/
def micsyncHigh (s : State) : Bool := s.pdm.syncHigh.contains (blk s)

/-- MIC_IDLE: no transition for 4,096 clock periods (R332). -/
def execMicIdle (m : Fin 32) (s : State) : Out :=
  .next (if micOn s m.val ∧ !micIdle s m.val then
      raise .pdmMicIdle m.val
        { wrN s R.PDM_IDLE (putBits (rdN s R.PDM_IDLE) m.val m.val 1) with
          pdm := { s.pdm with idle := aInsert s.pdm.idle m.val (s.time.frames, none) } }
    else s)

/-- A microphone's last idle period, in frames. -/
def micIdleSpan (s : State) (m : Nat) : Option (Nat × Option Nat) := (s.pdm.idle.find? (fun x => x.1 == m)).map (fun x => x.2)

/-- MIC_RESUME: transitions are back.  The microphone resets with the reset of all that is pending, or at the next strobe, and
stays at zero until then (R330, R332). -/
def execMicResume (m : Fin 32) (s : State) : Out :=
  .next (if micIdle s m.val then
      let since := ((micIdleSpan s m.val).map (fun x => x.1)).getD s.time.frames
      let again := s.pdm.resets.head?.getD (dueBlk s)
      { wrN s R.PDM_IDLE (putBits (rdN s R.PDM_IDLE) m.val m.val 0) with
        pdm := { s.pdm with
          mics := if s.pdm.resets.isEmpty then s.pdm.mics ++ [m.val] else s.pdm.mics,
          idle := aInsert s.pdm.idle m.val (since, some (frameOfBlock s again)) } }
    else s)

/-! ### The decimation chain (R327 to R329, R331) -/

/-- A CIC register, wide enough that its modular arithmetic gives the exact output. -/
def cicWrap (x : Int) : Int := x.bmod (2 ^ 40)

/-- The integrators take one input, first stage first. -/
def cicIn : List Int → Int → List Int
  | [], _ => []
  | a :: as, x => cicWrap (a + x) :: cicIn as (cicWrap (a + x))

/-- The combs take one decimated value: their new delays and the output. -/
def cicOut : List Int → Int → List Int × Int
  | [], v => ([], v)
  | c :: cs, v =>
    let (ds, y) := cicOut cs (cicWrap (v - c))
    (v :: ds, y)

/-- The chain after a reset, with a CIC of order n. -/
def MicChain.zero (n : Nat) : MicChain := { integ := List.replicate n 0, comb := List.replicate n 0, hist := [] }

/-- One CIC output from r inputs, its gain r^n removed by a shift, in units of 2^-40. -/
def cicStep (n r : Nat) (c : MicChain) (xs : List Int) : MicChain :=
  let integ := xs.foldl cicIn c.integ
  let (comb, y) := cicOut c.comb (integ.getLast?.getD 0)
  { integ := integ, comb := comb, hist := c.hist ++ [y * 2 ^ 40 / r ^ n] }

/-- A microphone's stream of one frame: a 1 counts as +1 and a 0 as -1. -/
def micStream (s : State) (m word : Nat) : List Int :=
  let n := pdmRatio s
  (List.range n).map (fun i => if bit word (2 * (n - 1 - i) + b2n (!micFalling m)) then 1 else -1)

/-- Four CIC outputs, and the filters' output y of the frame. -/
def micFrame (s : State) (m word : Nat) (c : MicChain) : MicChain × Int :=
  let preset := getF s (F.PDM_CLKCFG_PRESET (m / 8))
  let (n, d) := pdmPreset preset
  let r := pdmRatio s / 4
  let xs := micStream s m word
  let c := (List.range 4).foldl (fun c i => cicStep n r c ((xs.drop (i * r)).take r)) c
  let width := 4 * (2 * d + 1)
  let hist := c.hist.drop (c.hist.length - width)
  ({ c with hist := hist }, Config.pdmFilters preset r (List.replicate (width - hist.length) 0 ++ hist))

/-- Frames since the last reset that lies at or before a frame; none where the microphone has had none. -/
def micAge (s : State) (m frame : Nat) : Option Nat :=
  ((aGet (fun _ => []) s.pdm.since m).find? (fun r => r ≤ frame)).map (fun r => frame - r)

/-- The microphone is idle in a frame, or waits for the reset that ends its idle period (R332). -/
def micQuiet (s : State) (m frame : Nat) : Bool :=
  match micIdleSpan s m with
  | some (a, b) => decide (a ≤ frame) && decide (frame < b.getD (frame + 1))
  | none => false

/-- The source value of a frame from the chain's output y, in units of 2^-40 (R327, R331), and whether it saturated. -/
def micValue (s : State) (m frame : Nat) (y : Int) : Int × Bool :=
  let v := rhShift (y * getF s (F.PDM_MIC_GAIN m)) 21
  let w := if getF s (F.PDM_MIC_INV m) = 1 then satS 36 (-(satS 36 v)) else satS 36 v
  let age := (micAge s m frame).getD 80
  if micQuiet s m frame || age < 64 then (0, false)
  else (fade w (min 16 (age - 63)) 16, w.natAbs != v.natAbs)

/-- The frames of a block in a microphone's chain, which a reset clears at its frame: the chain, the source values, and how many
saturated. -/
def micBlock (s : State) (m : Nat) : Nat → List Nat → MicChain → MicChain × List Int × Nat
  | _, [], c => (c, [], 0)
  | frame, w :: ws, c =>
    let c := if micAge s m frame = some 0 then MicChain.zero (pdmPreset (getF s (F.PDM_CLKCFG_PRESET (m / 8)))).1 else c
    let (c, y) := micFrame s m w c
    let v := micValue s m frame y
    let (c, vs, n) := micBlock s m (frame + 1) ws c
    (c, v.1 :: vs, n + b2n v.2)

/-- An enabled microphone's samples of the block before the strobe just passed. -/
def micSamples (pins : List (Nat × List Nat)) (m : Nat) (s : State) : State :=
  let ws := ((pins.find? (fun x => x.1 == micPin m)).map (fun x => x.2)).getD (List.replicate 16 0)
  let start := MicChain.zero (pdmPreset (getF s (F.PDM_CLKCFG_PRESET (m / 8)))).1
  let (c, vs, n) := micBlock s m (s.time.frames - 16) ws (aGet (fun _ => start) s.pdm.chains m)
  let s := { s with pdm := { s.pdm with chains := aInsert s.pdm.chains m c, out := aInsert s.pdm.out m vs } }
  if n = 0 then s else raise .pdmSat m (cntAdd s R.PDM_SAT_CNT n)

/-- At a strobe every enabled microphone has its samples of the block before; the others deliver zero (R326, R327). -/
def pdmStrobe (pins : List (Nat × List Nat)) (s : State) : State :=
  forEach ((List.range 32).filter (micOn s)) (micSamples pins) { s with pdm := { s.pdm with out := [] } }

end Sys2Proof.Machine
end

