-- ==== Sys2Proof/Machine/Routing.lean ====
section
/-! DEFINITION. Routing: the live and shadow tables, the commit, and the applied gains of the route crossfade
(spec/09_routing.md R220 to R240). -/

namespace Sys2Proof.Machine

/-! ### Sources (R220, R221) -/

/-- The source passes through the ASRC bank: a lane slot or a stream context that is not locked to the media clock.  A
context counts also while it is off, and so does a slot beyond its lane's count; a lane of a disabled group does not (log 277). -/
def srcNonLocked (s : State) (n : Nat) : Bool :=
  if n < 0x800 then grpOn s (n / 32 / 4) && !laneOut s (n / 32) && laneNonLocked s (n / 32)
  else if n < 0x4800 then ctxNonLocked s ((n - 0x800) / 64)
  else false

/-- Distinct non-locked sources that a table names. -/
def nonLockedOf (s : State) (rs : List RouteEnt) : List Nat :=
  (((rs.filter (fun r => r.kind != 2)).map (fun r => r.source)).eraseDups).filter (srcNonLocked s)

/-! ### Applied gains (R222, R233 to R235) -/

/-- The empty table, live since ever. -/
def RouteEpoch.empty : RouteEpoch := { first := 0, len := 0, law := 0, old := [], table := [] }

/-- The epoch whose gains the frames of an input block use. -/
def epochAt (s : State) (n : Nat) : RouteEpoch :=
  (s.rte.epochs.find? (fun e => e.first ≤ n)).getD RouteEpoch.empty

/-- The newest epoch. -/
def epochNow (s : State) : RouteEpoch := s.rte.epochs.head?.getD RouteEpoch.empty

/-- a_out of a law at (i + 1)/N, u1.34 (R233). -/
def fadeOutGain (law i1 n : Nat) : Int :=
  if law = 1 then rn (((n : Int) - i1) * 2 ^ 34) n else fixTo 34 (cosFix (piFrac i1 (2 * n)))

/-- a_in of a law. -/
def fadeInGain (law i1 n : Nat) : Int :=
  if law = 1 then rn ((i1 : Int) * 2 ^ 34) n else fixTo 34 (sinFix (piFrac i1 (2 * n)))

/-- An entry of a table by its key. -/
def findKey (rs : List RouteEnt) (r : RouteEnt) : Option RouteEnt := rs.find? (fun x => routeKey x == routeKey r)

/-- The entries of an epoch at frame k of input block n with their exact gains as fractions of 2^-34 (R233). -/
def epochGains (e : RouteEpoch) (n k : Nat) : List (RouteEnt × Frac) :=
  let i := 16 * (n - e.first) + k
  let len := 16 * e.len
  if len ≤ i then e.table.map (fun r => (r, ⟨r.gain, 1⟩))
  else
    let kept := e.table.map (fun r => match findKey e.old r with
      | some o => if o.gain = r.gain then (r, (⟨r.gain, 1⟩ : Frac))
          else (r, ⟨o.gain * len + (r.gain - o.gain) * (i + 1), len⟩)
      | none => (r, ⟨r.gain * fadeInGain e.law (i + 1) len, 2 ^ 34⟩))
    let gone := (e.old.filter (fun o => (findKey e.table o).isNone)).map (fun o =>
      (o, (⟨o.gain * fadeOutGain e.law (i + 1) len, 2 ^ 34⟩ : Frac)))
    kept ++ gone

/-- The bus whose return a source is. -/
def busReturn (n : Nat) : Option Nat := if 0x5500 ≤ n && n ≤ 0x553F then some (n - 0x5500) else none

/-- The applied gain of an entry from its exact one: a bus return gain multiplies it before the rounding (R222, R233). -/
def appliedGain (s : State) (r : RouteEnt) (g : Frac) (n k : Nat) : Int :=
  match (if r.kind = 2 then none else busReturn r.source) with
  | some m =>
    let b := gainVal s (gainKey 2 m) n k
    satS 36 (rh (g.num * b.num) (g.den * b.den * 2 ^ 34))
  | none => satS 36 (rh g.num g.den)

/-- Entries of one KIND with their applied gains in the 16 frames of an input block. -/
def routeGains (s : State) (kind n : Nat) : List (RouteEnt × List Int) :=
  let e := epochAt s n
  let ks := List.range 16
  let at_ := fun (k : Nat) => (epochGains e n k).filter (fun p => p.1.kind == kind)
  let names := (at_ 0).map (fun p => p.1)
  let cols := ks.map at_
  (List.range names.length).map (fun i =>
    let r := (names[i]?).getD ⟨0, 0, 0, 0⟩
    (r, (List.range 16).map (fun k =>
      let g := ((((cols[k]?).getD [])[i]?).map (fun p => p.2)).getD ⟨0, 1⟩
      appliedGain s r g n k)))

/-! ### The live table -/

/-- Give the ASRC channels out again, at a change of the live table and at every strobe (R221): the live table's non-locked
sources come first, those that hold a channel before the others; the entries that still fade out take what is left (log 240).
A source that finds none is reported once. -/
def asrcAssign (s : State) : State :=
  let e := epochNow s
  let live := nonLockedOf s e.table
  -- the sprue's next input block may still belong to an earlier table's crossfade
  let last := epochAt s (blk s)
  let fading := (if blk s ≤ e.first + e.len then e.old else []) ++ last.table ++
    (if blk s < last.first + last.len then last.old else []) ++
    -- a capture that a pour cuts has its last block still to write (R335)
    (((s.cap.bind (fun c => c.tail)).getD []).map (fun r => r.1))
  let old := (nonLockedOf s fading).filter (fun n => !live.contains n)
  let first := fun (want : List Nat) => s.rte.asrc.filter want.contains ++ want.filter (fun n => !s.rte.asrc.contains n)
  let got := (first live).take 2048
  let wait := live.filter (fun n => !got.contains n)
  let full : Bool := wait.any (fun n => !s.rte.asrcWait.contains n)
  let s := { s with rte := { s.rte with asrc := got ++ (first old).take (2048 - got.length), asrcWait := wait } }
  if full then raise .rteAsrcFull 0 s else s

/-- RTE_STATE as the strobe shows it: the crossfade and the frames that the sprue has yet to take. -/
def rteShow (s : State) : State :=
  let e := epochNow s
  let on : Bool := !s.rte.doneAt.isEmpty
  let left := if on then min (16 * e.len) (16 * (e.first + e.len + 1 - blk s)) else 0
  setF (setF s F.RTE_STATE_XF (b2n on)) F.RTE_STATE_REMAIN left

/-- A table becomes live at input block k with a crossfade, under RTE_CFG as it is live before the boundary's register
transfers (R55, R231, R233).  A crossfade ends with the pair stage of its last input block, in block k + XF + 1; a table made
live before that end freezes it (R235); the frozen gain of an entry from a bus return is the entry's own, which the return gain
multiplies as before (log 276). -/
def rteGoLive (k : Nat) (table : List RouteEnt) (s : State) : State :=
  let e := epochNow s
  let moving : Bool := 0 < e.len && k < e.first + e.len + 2
  let old := if moving then
      ((epochGains (epochAt s (k - 1)) (k - 1) 15).map (fun p => { p.1 with gain := satS 36 (rh p.2.num p.2.den) })).filter
        (fun r => r.gain != 0)
    else e.table
  let xf := getL s F.RTE_CFG_XF
  let len := if xf = 0 then 64 else xf
  let new : RouteEpoch := { first := k, len := len, law := getL s F.RTE_CFG_LAW, old := old, table := table }
  -- one frozen here never ends; one whose last block has gone still reports its end
  let done := (if moving then s.rte.doneAt.filter (fun d => d ≤ k) else s.rte.doneAt) ++ [k + len + 2]
  let s := { s with rte := { s.rte with epochs := (new :: s.rte.epochs).take 8, doneAt := done } }
  let s := if moving then setBit s F.RTE_STAT_FROZEN else s
  let s := setF (wr64 s R.RTE_APPLY_LO R.RTE_APPLY_HI (16 * k)) F.RTE_LIVE_COUNT_COUNT table.length
  rteShow (asrcAssign s)

/-! ### The shadow table (R230) -/

/-- Pool word of shadow entry 0. -/
def shadowBase : Nat := 0x240000

/-- A shadow entry; none where a reserved part is not zero or the gain slot is not s1.34. -/
def shadowEntry (s : State) (i : Nat) : Option RouteEnt :=
  let w0 := rdWord72 s poolBase (shadowBase + 2 * i)
  let w1 := rdWord72 s poolBase (shadowBase + 2 * i + 1)
  if bits w0 71 40 = 0 ∧ bits w1 71 36 = 0 then
    some { source := bits w0 15 0, dst := bits w0 31 16, kind := bits w0 39 32, gain := sx 36 w1 }
  else none

/-- Write a shadow entry. -/
def putShadow (i : Nat) (r : RouteEnt) (s : State) : State :=
  wrWord72 (wrWord72 s poolBase (shadowBase + 2 * i) (r.source + 65536 * r.dst + 2 ^ 32 * r.kind))
    poolBase (shadowBase + 2 * i + 1) (code 36 r.gain)

/-- The shadow table takes the live table. -/
def shadowFromLive (s : State) : State :=
  let t := (epochNow s).table
  let s := t.zipIdx.foldl (fun s p => putShadow p.2 p.1 s) s
  setF s F.RTE_SHD_COUNT_COUNT t.length

/-- The live Pattern. -/
def livePat (s : State) : Pattern := s.pat.live.getD Pattern.empty

/-- Validate entries from ordinal i on, on top of those that hold: the table, or reason and ordinal of the first failure
(R225, R231). -/
def shadowCheck (s : State) : Nat → Nat → List RouteEnt → Except (Nat × Nat) (List RouteEnt)
  | 0, _, done => .ok done.reverse
  | n + 1, i, done =>
    match shadowEntry s i with
    | none => .error (4, i)
    | some r =>
      if !routeOk (livePat s) r then .error (4, i)
      else if (findKey done r).isSome then .error (5, i)
      else if routeLimits (livePat s) (r :: done) then .error (6, i)
      else shadowCheck s n (i + 1) (r :: done)

/-! ### Commands (R230 to R232) -/

/-- RTE_RESULT: command and reason. -/
def rteResult (cmd reason : Nat) (s : State) : State := setF (setF s F.RTE_RESULT_CMD cmd) F.RTE_RESULT_REASON reason

/-- A command is refused. -/
def rteRefuse (cmd reason : Nat) (s : State) : State :=
  raise .rteRefused 0 (cnt (rteResult cmd reason s) R.RTE_REFUSE_CNT)

/-- The pending commit ends. -/
def rteIdle (s : State) : State := setF { s with rte := { s.rte with cmt := none } } F.RTE_STATE_CMT 0

/-- The pending commit is refused. -/
def rteCmtRefuse (reason : Nat) (s : State) : State := rteRefuse 1 reason (rteIdle s)

/-- The table of the pending commit. -/
def shadowTable (s : State) : List RouteEnt :=
  match shadowCheck s (getF s F.RTE_SHD_COUNT_COUNT) 0 [] with
  | .ok t => t
  | .error _ => []

/-- The pending commit is accepted (R231). -/
def rteAccept (s : State) : State :=
  match s.rte.cmt with
  | none => s
  | some c =>
    let s := { s with rte := { s.rte with cmt := some { c with accepted := true } } }
    let s := rteResult 1 0 (setBit (cnt s R.RTE_COMMIT_CNT) F.RTE_STAT_ACCEPTED)
    journal c.via 2 0 (getF s F.RTE_SHD_COUNT_COUNT) (16 * c.k) s

/-- The table of a commit that the active unit mirrored, or none; RTE_STATE shows it as pending (R231, R372). -/
def rteMirror (x : Option (Nat × List RouteEnt)) (s : State) : State :=
  let s := { s with rte := { s.rte with mirrored := x } }
  if s.rte.cmt.isNone then setF s F.RTE_STATE_CMT (if x.isSome then 2 else 0) else s

/-- A commit is pending: one given here, or one that stays pending at a new active unit (R372). -/
def rtePending (s : State) : Bool := s.rte.cmt.isSome || s.rte.mirrored.isSome

/-- COMMIT is tested when its write completes (R231). -/
def rteCommit (via : Src) (s : State) : State :=
  let m := rd64 s R.RTE_MSI_LO R.RTE_MSI_HI
  let n := getF s F.RTE_SHD_COUNT_COUNT
  if isPassive s then writeIgnored s
  else if !running s then rteRefuse 1 8 s
  else if rtePending s then rteRefuse 1 1 s
  else if isLate s m then rteRefuse 1 2 s
  else if 143392 < n then rteRefuse 1 11 s
  else setF { s with rte := { s.rte with cmt := some { via := via, k := ceil16 m,
                                                       endBlock := blk s + max 1 ((n + 16383) / 16384),
                                                       validated := false, accepted := false } } } F.RTE_STATE_CMT 1

/-- RTE_COMMIT. -/
def execRteCommit (via : Src) (s : State) : Out := .next (rteCommit via (journalReg via R.RTE_CMD 1 s))

/-- COPY (R230). -/
def rteCopy (s : State) : State :=
  if isPassive s then writeIgnored s
  else if s.rte.cmt.isSome then rteRefuse 2 1 s
  else rteResult 2 0 (shadowFromLive s)

/-- RTE_COPY. -/
def execRteCopy (via : Src) (s : State) : Out := .next (rteCopy (journalReg via R.RTE_CMD 2 s))

/-- An accepted CANCEL. -/
def rteCancelAccept (s : State) : State := rteResult 3 0 (rteMirror none (rteIdle s))

/-- CANCEL (R232); in a pair a commit that has been mirrored is withdrawn there too (R370). -/
def rteCancel (s : State) : State :=
  if isPassive s then writeIgnored s
  else match s.rte.cmt.map (fun c => (c.k, c.validated)), s.rte.mirrored.map (fun m => (m.1, true)) with
    | none, none => rteRefuse 3 12 s
    | some (k, mirrored), _ | none, some (k, mirrored) =>
      if !inTime s k then rteRefuse 3 10 s
      else if isActive s && mirrored then
        let (wait, s) := mirrorCommand (.routeCancel k) k s
        if wait then s else rteCancelAccept s
      else rteCancelAccept s

/-- RTE_CANCEL. -/
def execRteCancel (via : Src) (s : State) : Out := .next (rteCancel (journalReg via R.RTE_CMD 3 s))

/-- Validation has passed: the commit is pending; a pair mirrors it (R231, R370). -/
def rteValidated (c : RouteCmt) (t : List RouteEnt) (s : State) : State :=
  let s := setF { s with rte := { s.rte with cmt := some { c with validated := true } } } F.RTE_STATE_CMT 2
  let (wait, s) := mirrorCommand (.route c.k t) c.k s
  if wait then s else rteAccept s

/-- RTE_VALIDATION_DONE: validation of the shadow table is complete (R225, R231). -/
def execRteValidationDone (s : State) : Out :=
  .next (match s.rte.cmt with
    | none => s
    | some c =>
      if c.validated ∨ blk s < c.endBlock ∨ s.err.fatal then s
      else match shadowCheck s (getF s F.RTE_SHD_COUNT_COUNT) 0 [] with
        | .error (reason, i) => rteCmtRefuse reason (setF s F.RTE_RENT_ENTRY i)
        | .ok t =>
          if 2048 < (nonLockedOf s t).length then rteCmtRefuse 7 s else rteValidated c t s)

/-- RTE_COMMIT_APPLY: at the strobe of k (R231); a standby applies a confirmed mirrored commit. -/
def execRteCommitApply (s : State) : Out :=
  let s := match s.rte.cmt with
    | none => s
    | some c =>
      if !due s c.k then s
      else if c.accepted then rteGoLive c.k (shadowTable s) (rteIdle s)
      else rteCmtRefuse 3 s
  .next (match s.rte.mirrored with
    | none => s
    | some (k, t) =>
      if due s k then rteGoLive k t (rteMirror none s) else s)

/-- RTE_XF_DONE: the crossfade has ended (R234). -/
def execRteXfDone (s : State) : Out :=
  .next (if s.rte.doneAt.any (due s) then
      rteShow (setBit { s with rte := { s.rte with doneAt := s.rte.doneAt.filter (fun d => !due s d) } } F.RTE_STAT_XF_DONE)
    else s)

/-! ### Pours and stops (R237, R84) -/

/-- A pending commit that a pour or a stop at block p discards. -/
def rteSupersede (p : Nat) (s : State) : State :=
  let drop := fun (s : State) => setBit (cnt (rteResult 1 9 s) R.PAT_POUR_DISC) F.RTE_STAT_SUPERSEDED
  let s := match s.rte.cmt with
    | some c => if p ≤ c.k then drop (rteIdle s) else s
    | none => s
  match s.rte.mirrored with
  | some (k, _) => if p ≤ k then drop (rteMirror none s) else s
  | none => s

/-- The routes of a poured Pattern become live from input block p, without crossfade (R237); a crossfade that the pour ends sets
no XF_DONE (log 280). -/
def rtePour (p : Nat) (pat : Pattern) (s : State) : State :=
  let t := pat.routes.getD []
  let e : RouteEpoch := { first := p, len := 0, law := 0, old := [], table := t }
  let s := { s with rte := { s.rte with epochs := [e], doneAt := [] } }
  let s := setF (setF s F.RTE_CFG_XF pat.rteXf) F.RTE_LIVE_COUNT_COUNT t.length
  let s := wr64 s R.RTE_APPLY_LO R.RTE_APPLY_HI (16 * p)
  let s := { s with live := aSet regReset s.live R.RTE_CFG (rd s R.RTE_CFG) }
  rteShow (asrcAssign (shadowFromLive s))

end Sys2Proof.Machine
end

