-- ==== Sys2Proof/Machine/RegApply.lean ====
section
/-! DEFINITION. What a permitted write of an RW or RWL register does: the range rules, and the effect beside the stored value
(spec/18_faults_and_journal.md R405, R413, and each register's table).  Interfaces, REGSET records and mirrored writes all
end here. -/

namespace Sys2Proof.Machine

/-- The instance of a register family that an offset names: base, stride, count. -/
def inst (base stride count off : Nat) : Option Nat :=
  if base ≤ off ∧ (off - base) % stride = 0 ∧ (off - base) / stride < count then some ((off - base) / stride) else none

/-- Store the writable bits of a write. -/
def plainWrite (off : Nat) (v : Word) (s : State) : State :=
  match regRow off with
  | none => s
  | some r =>
    let m := BitVec.ofNat 32 (r.rw ||| r.rwl)
    wr s off ((rd s off &&& ~~~ m) ||| (v &&& m))

/-! ### Range rules -/

/-- A number lies in a closed range. -/
def inR (lo hi x : Nat) : Bool := lo ≤ x && x ≤ hi

/-- Silence threshold and hold of SPK_OSIL_CFG and SPK_CSIL. -/
def silRangeOk (v : Word) : Bool := inR 90 140 (fget v 23 16) && inR 1 3600 (fget v 11 0)

/-- Range rules of single registers: offset and check. -/
def singleRules : List (Nat × (Word → Bool)) :=
  [(R.SYS_GPIO_FN 0, gpio), (R.SYS_GPIO_FN 1, gpio), (R.SYS_GPIO_FN 2, gpio), (R.SYS_GPIO_FN 3, gpio),
   (R.SYS_DMA_SIZE, fun v => ringSizeOk (fget v 12 0)),
   (R.SYS_THERM_CFG, fun v => inR 85 104 (fget v 7 0)),
   (R.ERR_CFG, fun v => fget v 1 0 != 3),
   (R.JNL_CFG, fun v => inR 1 3600 (fget v 31 20)),
   (R.SEQ_CFG, fun v => inR 50 100 (fget v 22 16) && fget v 1 0 != 0),
   (R.TSU_CFG, fun v => inR 1 999 (fget v 25 16)),
   (R.TSU_ML_CFG, fun v => fget v 1 0 != 3),
   (R.TSU_APPLY_WIN, fun v => fget v 19 0 != 0),
   (R.TSU_MPH_LIM, fun v => fget v 15 0 != 0),
   (R.BST_CFG, fun v => inR 500 60000 (fget v 15 0)),
   (R.CLM_CFG, fun v => fget v 17 16 != 0),
   (R.FLK_CFG, fun v => fget v 27 16 != 0 && fget v 7 0 != 0),
   (R.HIER_CFG, fun v => fget v 31 30 != 3 && 2 ≤ fget v 7 0 && !(fget v 31 30 == 1 && fget v 27 24 != 0) &&
     !(fget v 31 30 == 2 && fget v 27 24 == 0)),
   (R.HIER_SYNC_CFG, fun v => fget v 31 16 != 0),
   (R.OBJ_CFG, fun v => fget v 15 0 != 0),
   (R.GEO_CFG, fun v => fget v 1 0 != 0),
   (R.GEO_SOS, fun v => inR 0x7D000000 0xE1000000 v.toNat),
   (R.GEO_RREF, fun v => v != 0),
   (R.GEO_GUARD, fun v => v != 0),
   (R.RND_CFG, fun v => fget v 15 0 ≤ 0xE000),
   (R.SPK_OSIL_CFG, silRangeOk),
   (R.SPK_SEL, fun v => fget v 10 0 ≤ 1343)]
where
  /-- Every function code of a GPIO register is 0 to 4 (R457). -/
  gpio (v : Word) : Bool := (List.range 8).all (fun i => fget v (4 * i + 3) (4 * i) ≤ 4)

/-- Range rules of the registers with instances. -/
def familyRule (off : Nat) (v : Word) : Bool :=
  if off < 0x100000 then
    if (inst 0x40100 64 4 off).isSome then tbCfgOk v
    else if (inst 0x4011C 64 4 off).isSome then decide ((sx 32 v.toNat).natAbs < 1000000000)
    else if (inst 0x40130 64 4 off).isSome then inR 1 8000 (fget v 31 16)
    else if (inst 0x40134 64 4 off).isSome then 2 ≤ fget v 15 8 && inR 2 10 (fget v 7 0)
    else true
  else if off < 0x700000 then
    let o := (off - 0x600000) % 262144
    if o = 0x08 then fget v 2 0 ≤ 5 && !(fget v 28 28 == 1 && (fget v 2 0 == 1 || fget v 2 0 == 2))
    else if o = 0x18 then inR 1518 2048 (fget v 11 0)
    else if o = 0x20 then fget v 23 16 != 0 && fget v 11 0 != 0
    else if (inst 0x104 32 4 o).isSome then ringSizeOk (fget v 12 0) && fget v 18 16 ≤ 3
    else if (inst 0x204 32 4 o).isSome then ringSizeOk (fget v 12 0)
    else true
  else if (inst 0x900010 4 4 off).isSome then fget v 1 0 != 3
  else if (inst 0x980114 32 32 off).isSome then fget v 23 16 != 0
  else if 0x1000000 ≤ off then
    match (off - 0x1000000) % 32 with
    | 8 => inR 1 200 (fget v 23 16) && inR 1 1000 (fget v 9 0)
    | 12 => silRangeOk v
    | _ => true
  else true

/-- Does a write hold to the range rules of its register (R413)? -/
def rangeOk (off : Nat) (v : Word) : Bool :=
  match singleRules.find? (fun r => r.1 == off) with
  | some r => r.2 v
  | none => if off < 0x40100 || (0x50000 ≤ off && off < 0x600000) then true else familyRule off v

/-! ### Roles (R354, R363, R386) -/

/-- Enter LISTEN (R363): no claim frames, outputs withheld. -/
def enterListen (s : State) : State :=
  let s := setF (setF (setF s F.CLM_STATE_ROLE 1) F.CLM_STATE_HOLDER 0) F.CLM_STATE_WORD 0
  let s := setF s F.FLK_STATE_SYNC 0
  { s with clm := { s.clm with listenAt := blk s, listenMax := 0, wins := 0, activeSeen := false, lastActive := none,
                               force := none, yieldAt := none, yielded := none, drill := none, renorm := none,
                               drillRun := none, sending := none, sentWord := none } }

/-- The unit leaves its pair: a snapshot or replay in progress is discarded (R379). -/
def pairLeft (s : State) : State :=
  if getF s F.FLK_STATE_SYNC = 2 ∨ getF s F.FLK_STATE_SYNC = 3 then
    let s := if s.flk.join.isSome then setF { s with pat := { s.pat with pour := none } } F.PAT_STATE_STG 5 else s
    raise .clmResyncFail 0 (setF { s with flk := { s.flk with snap := [], snapAt := none, replay := [], join := none } }
      F.FLK_STATE_FAIL 1)
  else s

/-- A write of CLM_CFG (R354, R363): EN set takes the unit to LISTEN, EN cleared makes it a lone unit. -/
def clmCfgApply (v : Word) (s : State) : State :=
  let was := getF s F.CLM_CFG_EN
  let s := plainWrite R.CLM_CFG v s
  let on := getF s F.CLM_CFG_EN
  if was = 0 ∧ on = 1 then enterListen s
  else if was = 1 ∧ on = 0 then
    let s := pairLeft s
    setF (setF (setF (setF s F.CLM_STATE_ROLE 0) F.CLM_STATE_HOLDER 0) F.CLM_STATE_WORD 0) F.FLK_STATE_SYNC 0
  else s

/-- HIER_STATE.MEMBERS from the workers' states (R395). -/
def showMembers (s : State) : State :=
  setF s F.HIER_STATE_MEMBERS ((List.range 15).foldl (fun a i =>
    a + (if getF s (F.HIER_WSTATE_STATE (i + 1)) = 2 then 2 ^ i else 0)) 0)

/-- A worker is forgotten: ABSENT (R395). -/
def workerAbsent (w : Nat) (s : State) : State :=
  { wrN s (R.HIER_WSTATE w) 0 with hier := { s.hier with workers := aErase s.hier.workers w } }

/-- A write of HIER_CFG (R386): a change of ROLE, UNIT or PORT starts the membership anew. -/
def hierCfgApply (v : Word) (s : State) : State :=
  let key := fun (s : State) => fget (rd s R.HIER_CFG) 31 24
  let old := key s
  let s := plainWrite R.HIER_CFG v s
  if key s = old then s
  else
    let s := forNat 15 (fun i => workerAbsent (i + 1)) s
    let s := { s with hier := { s.hier with manager := none, hb := false, missed := 0, beenMember := false, reqAt := none,
                                            joinSince := none, fwdDecided := [], installed := false, join := [], joinSeq := none, joinEnd := none, forwarded := [], answers := [],
                                            again := [], redecide := [] } }
    let s := setF s F.HIER_STATE_STATE (if isManager s && running s then 2 else 0)
    if isManager s then showMembers s else setF s F.HIER_STATE_MEMBERS 0

/-- A write of HIER_WMASK: workers no longer admitted are ABSENT (R395). -/
def wmaskApply (v : Word) (s : State) : State :=
  let s := plainWrite R.HIER_WMASK v s
  let s := forNat 15 (fun i s => if bit (rdN s R.HIER_WMASK) (i + 1) then s else workerAbsent (i + 1) s) s
  if isManager s then showMembers s else s

/-! ### Effects by block -/

/-- TSU registers: a time base's configuration; FADJ only of a FREE-source time base, saturated with a NOTICE (R241, R244,
R260); PPS_OUT is low without PPS_OUT_EN and while its time base is neither LOCKED nor FREE (R247, R258). -/
def tsuEffect (off : Nat) (v : Word) (s : State) : State :=
  match inst 0x40100 64 4 off, inst 0x40118 64 4 off with
  | some n, _ => tbCfgApply n v s
  | _, some n =>
    if getF s (F.TSU_TB_CFG_SRC n) ≠ 0 then writeIgnored s
    else
      let c := clampI (-fadjLim) fadjLim v.toInt
      fadjSet n (nowStamp s) (BitVec.ofInt 32 c) (when (c != v.toInt) writeIgnored s)
  | _, _ =>
    let s := plainWrite off v s
    if off = R.TSU_CFG ∧ (fget v 31 31 = 0 ∨ !tbUsable s (fget v 29 28)) then
      { s with time := { s.time with ppsHigh := none } }
    else s

/-- NET registers: rings are laid out anew, and a TAIL is judged (R270, R271); a write of MODE resets the port's DMA (R442). -/
def netEffect (off : Nat) (v : Word) (s : State) : State :=
  let p := (off - 0x600000) / 262144
  let o := (off - 0x600000) % 262144
  match inst 0x100 32 4 o, inst 0x104 32 4 o, inst 0x200 32 4 o, inst 0x204 32 4 o with
  | some r, _, _, _ => ringCfgApply p r false true v s
  | _, some r, _, _ => ringCfgApply p r false false v s
  | _, _, some r, _ => ringCfgApply p r true true v s
  | _, _, _, some r => ringCfgApply p r true false v s
  | _, _, _, _ => match inst 0x108 32 4 o, inst 0x208 32 4 o with
  | some r, _ => rrTailApply p r v s
  | _, some r => trTailApply p r v s
  | _, _ =>
    if o = 0x08 then modeApply p (getF s (F.NET_CFG_MODE p)) (masterReset (5 + p) (plainWrite off v s)) else plainWrite off v s

/-- STR registers: EN, and the configuration of a context at rest (R297). -/
def strEffect (off : Nat) (v : Word) (s : State) : State :=
  match inst 0x710000 256 256 off, inst 0x720000 256 256 off with
  | some c, _ => rxCtlApply c v s
  | _, some t => txCtlApply t v s
  | _, _ => if ctxBusy s off then writeIgnored s else plainWrite off v s

/-- APD registers of clock groups (R319). -/
def apdGroupEffect (off : Nat) (v : Word) (s : State) : State :=
  let g := (off - 0x801000) / 64
  if (off - 0x801000) % 64 = 0 then grpCtlApply g v s
  else if getF s (F.APD_GCTL_EN g) = 1 then writeIgnored s
  else plainWrite off v s

/-- APD registers of lanes (R312, R318, R319). -/
def apdLaneEffect (off : Nat) (v : Word) (s : State) : State :=
  let l := (off - 0x804000) / 256
  match (off - 0x804000) % 256 with
  | 0 =>
    let s := when (fget v 24 24 == 1) (csCommit l) s
    if getF s (F.APD_GCTL_EN (l / 4)) = 1 then
      if v &&& 0xFE000000#32 = rd s off &&& 0xFE000000#32 then s else writeIgnored s
    else plainWrite off v s
  | 4 => laneMaskApply l v s
  | _ => plainWrite off v s

/-- APD registers. -/
def apdEffect (off : Nat) (v : Word) (s : State) : State :=
  if 0x801000 ≤ off ∧ off < 0x801400 then apdGroupEffect off v s
  else if 0x804000 ≤ off ∧ off < 0x808000 then apdLaneEffect off v s
  else plainWrite off v s

/-- The effect of a write that is in range. -/
def regEffect (off : Nat) (v : Word) (s : State) : State :=
  if 0x40000 ≤ off ∧ off < 0x50000 then tsuEffect off v s
  else if off = R.CLM_CFG then clmCfgApply v s
  else if off = R.HIER_CFG then hierCfgApply v s
  else if off = R.HIER_WMASK then wmaskApply v s
  else if off = R.OBJ_HQ_BASE then hqBaseApply v s
  else if off = R.RTE_SHD_COUNT ∧ s.rte.cmt.isSome then writeIgnored s
  else if 0x600000 ≤ off ∧ off < 0x700000 then netEffect off v s
  else if 0x700000 ≤ off ∧ off < 0x800000 then strEffect off v s
  else if 0x800000 ≤ off ∧ off < 0x900000 then apdEffect off v s
  else if off = R.SYS_DMA_BASE_LO ∨ off = R.SYS_DMA_BASE_HI ∨ off = R.SYS_DMA_SIZE then
    wrN (wrN (plainWrite off v s) R.SYS_DMA_TAIL 0) R.SYS_DMA_HEAD 0
  else match inst 0x980100 32 32 off, inst 0x1000004 32 1344 off with
    | some n, _ => dacCfgApply n v s
    | _, some c => if 1024 ≤ c then s else plainWrite off v s
    | _, _ => plainWrite off v s

/-- A permitted write of an RW or RWL register (R413). -/
def applyReg (off : Nat) (v : Word) (s : State) : State :=
  if rangeOk off v then regEffect off v s else writeIgnored s

/-- The offset that a BAR0 offset stands for: a channel register behind SPK_SEL is the selected channel's own. -/
def realOff (s : State) (off : Nat) : Nat :=
  let c := getF s F.SPK_SEL_CH
  match off with
  | 0x400018 => R.VSPK_CCFG c
  | 0x40001C => R.VSPK_CALIGN c
  | 0x400020 => R.VSPK_CLIM c
  | 0x400024 => R.VSPK_CSIL c
  | 0x400028 => R.VSPK_CSTAT c
  | 0x40002C => R.VSPK_CGRMIN c
  | _ => off

/-! ### Registers that the block-timed work reads from the strobe after a write (R35, R63, R240, R346) -/

/-- The offsets with a live copy, but for the channel registers of SPK and the DAC channels. -/
def shadowed : List Nat :=
  [R.TSU_APPLY_WIN, R.RND_CFG, R.SPK_CFG, R.SPK_OSIL_CFG, R.RTE_CFG, R.GEO_CFG, R.GEO_SOS, R.GEO_DCOMP, R.GEO_DIST,
   R.GEO_RREF, R.GEO_GUARD, R.GEO_AIR, R.GEO_BUSDIST_LO, R.GEO_BUSDIST_HI] ++
  (List.range 9).map R.GEO_LCFG ++ (List.range 32).map R.SPK_GPIO ++ (List.range 4).map R.SYS_GPIO_FN ++
  (List.range 32).flatMap (fun n => [R.DAC_SAFE_01 n, R.DAC_SAFE_23 n, R.DAC_FAULT n])

/-- Is an offset a channel register with a live copy? -/
def chanShadow (off : Nat) : Bool := 0x1000000 ≤ off && (off - 0x1000000) % 32 < 16

/-- The live copies take the registers, at a strobe. -/
def takeShadows (s : State) : State :=
  let put := fun (t : Tbl Word) (off : Nat) => aSet regReset t off (rd s off)
  let t := shadowed.foldl put s.live
  let chans := ((s.regs.map (fun p => p.1)) ++ (s.live.map (fun p => p.1))).filter chanShadow
  { s with live := chans.foldl put t }

/-! ### Writes from an interface (R18, R413, R503, R504) -/

/-- An offset whose write is a render-state register write (R504). -/
def renderState (off : Nat) : Bool :=
  let rw := match regRow off with
    | some r => r.rw != 0
    | none => false
  rw && (
    (0x200000 ≤ off && off < 0x300000 && off != R.GEO_MASK && off != R.GEO_SEL) ||
    (0x400000 ≤ off && off < 0x500000 && off != R.SPK_MASK && off != R.SPK_SEL) ||
    0x1000000 ≤ off || off == R.RND_CFG || off == R.RTE_CFG || off == R.TSU_APPLY_WIN ||
    (0x700010 ≤ off && off < 0x700050) || (0x710000 ≤ off && off < 0x730000) ||
    [R.CAP_CFG, R.CAP_BASE, R.CAP_LEN, R.CAP_STIM, R.CAP_SWEEP_F1, R.CAP_SWEEP_F2, R.CAP_SWEEP_T].contains off)

/-- A write changes an RWL field, or names a register that has no other writable field, while a Pattern runs (R18). -/
def rwlBlocked (off : Nat) (v : Word) (s : State) : Bool :=
  match regRow off with
  | none => false
  | some r =>
    running s && r.rwl != 0 && (r.rw == 0 || (rd s off ^^^ v) &&& BitVec.ofNat 32 r.rwl != 0)

/-- A write of an RW or RWL register by an interface. -/
def regWrite (via : Src) (addr : Nat) (v : Word) (s : State) : State :=
  let off := realOff s addr
  match regRow off with
  | none => s
  | some r =>
    let s := journalReg via off v s
    if r.rw == 0 && r.rwl == 0 then s
    else if rwlBlocked off v s then raise .errRwlWrite 0 s
    else if !renderState off || !writeChanges off v s then applyReg off v s
    else if isPassive s then writeIgnored s
    else
      let (wait, s) := mirrorWrite (.regWrite off v.toNat) s
      if wait then s else applyReg off v s

end Sys2Proof.Machine
end

