-- ==== Sys2Proof/Machine/Loader.lean ====
section
/-! DEFINITION. The Pattern loader (M9): loading, arming, pour, stop and discard commands, amendments, coefficient conversion,
stored slots and the automatic pour (spec/03_pattern.md R75 to R79, R84 to R90, R508). -/

namespace Sys2Proof.Machine

/-! ### Results -/

/-- PAT_RESULT: command, reason and AMD_ID. -/
def patResult (cmd reason amd : Nat) (s : State) : State :=
  setF (setF (setF s F.PAT_RESULT_CMD cmd) F.PAT_RESULT_REASON reason) F.PAT_RESULT_AMD_ID amd

/-- A refused command. -/
def patRefuse (cmd : Nat) (r : Reason) (amd : Nat) (s : State) : State :=
  raise .patRefused 0 (patResult cmd (reasonCode r) amd s)

/-- A completed command. -/
def patDone (s : State) : State := setBit s F.PAT_STAT_DONE

/-- A timed change that a pour or a stop discards (R81, R84). -/
def superseded (cmd amd : Nat) (s : State) : State :=
  raise .patSuperseded 0 (patResult cmd (reasonCode .superseded) amd (cnt s R.PAT_POUR_DISC))

/-- PAT_STATE.STG codes: 0 EMPTY, 1 LOADING, 2 VALID, 3 INVALID, 4 ARMING, 5 ARMED, 6 POUR_PENDING. -/
def stg (s : State) : Nat := getF s F.PAT_STATE_STG

/-- Set the staging state. -/
def setStg (v : Nat) (s : State) : State := setF s F.PAT_STATE_STG v

/-- An amendment that has been judged and is not yet accepted: its staging is the loader command in progress. -/
def amendStaging (s : State) : Bool := s.pat.amend.isSome && getF s F.PAT_STATE_AMD_PEND == 0

/-- The loader's region failed its start-up test (R419, R427): the loader takes no work. -/
def loaderOut (s : State) : Bool := bit (getF s F.BST_MAP_MAP) 25

/-- A loader command is in progress (R77). -/
def loaderBusy (s : State) : Bool := s.pat.busy.isSome || amendStaging s

/-- Show PAT_STATE.BUSY. -/
def showBusy (s : State) : State := setF s F.PAT_STATE_BUSY (b2n (loaderBusy s))

/-- Journal an accepted command of the loader (KIND 4): the command with its slot, the low PATTERN_ID and the MSI. -/
def journalPat (via : Src) (cmd slot id msi : Nat) (s : State) : State :=
  journal via 4 (cmd + 256 * slot) (id % 2 ^ 32) msi s

/-- The staged Pattern. -/
def stagedPat (s : State) : Pattern := s.pat.staged.getD Pattern.empty

/-- Show the identity of the staged Pattern; zero when none. -/
def showStaged (s : State) : State :=
  match s.pat.staged with
  | some p => wrN (wr64 s R.PAT_STG_ID_LO R.PAT_STG_ID_HI p.patId) R.PAT_STG_CRC p.totalCrc
  | none => wrN (wr64 s R.PAT_STG_ID_LO R.PAT_STG_ID_HI 0) R.PAT_STG_CRC 0

/-- The staging area becomes empty. -/
def stagingEmpty (s : State) : State :=
  showBusy (showStaged (setStg 0 { s with pat := { s.pat with
    busy := none, staged := none, stagedBytes := [], pour := none, regsetDone := false } }))

/-! ### Stored slots (R89) -/

/-- A slot's first byte in the NVM (R453). -/
def slotBase (k : Nat) : Nat := nvmBase + 0xC00000 + 0xD00000 * k

/-- The slot directory's word of a slot: its PAT_SLOT register and, 16 bytes further on, its length in bytes. -/
def slotDir (k : Nat) : Nat := nvmBase + 0x7000 + 4 * k

/-- Bytes of a slot's Pattern. -/
def slotLen (s : State) (k : Nat) : Nat := leNat (rdBytes s (slotDir k + 16) 4)

/-- Keep a slot's register in the directory. -/
def slotSave (k : Nat) (s : State) : State := wrBytes s (slotDir k) (leBytes 4 (rdN s (R.PAT_SLOT k)))

/-! ### Coefficient conversion (R75) -/

/-- Block by whose end the seats' loops have converted the sets of outputs, from the first period after a block. -/
def loopEnd (p : Pattern) (fb : Bool) (after : Nat) (outs : List Nat) : Nat :=
  let seat := fun (j : Nat) => match p.outputs.find? (fun o => o.id == j) with
    | some o => if fb then o.fseat else o.seat
    | none => 0
  let most := (List.range 16).foldl (fun m q => max m (outs.filter (fun j => seat j == q)).length) 0
  8 * (after / 8 + 1) + 8 * most - 1

/-- The spare tile's FFT unit can convert: a spare is present and no tile slice holds it in TESTING. -/
def spareConverts (s : State) : Bool :=
  getF s F.SEQ_SPARE_PRESENT == 1 && getF s (F.SEQ_TSTAT_STATE (getF s F.SEQ_SPARE_SPARE)) != 5

/-- Fallback seats are in use. -/
def fbSeats (s : State) : Bool := (List.range 15).any (fun f => getF s (F.SEQ_FSEAT_VALID f) == 1)

/-- Begin to convert the sets that a load or an amendment has brought, in block c. -/
def convStart (p : Pattern) (cs : List CoefRec) (s : State) : State :=
  let outs := (cs.map (fun r => r.out)).mergeSort (· ≤ ·)
  let c := blk s
  let spare := spareConverts s
  let e := if spare then c + (outs.length + 15) / 16 else loopEnd p (fbSeats s) c outs
  { s with pat := { s.pat with conv := some { outs := outs, loaded := c, bySpare := spare, endBlock := e } } }

/-- The spare is taken for a handover: what it has not converted passes to the seats' loops, from the next period. -/
def convToSeats (s : State) : State :=
  match s.pat.conv with
  | none => s
  | some j =>
    if !j.bySpare then s
    else
      let left := j.outs.drop (16 * (blk s - j.loaded - 1))
      let e := if left.isEmpty then j.endBlock else loopEnd (s.pat.live.getD (stagedPat s)) (fbSeats s) (blk s) left
      { s with pat := { s.pat with conv := some { j with outs := left, bySpare := false, endBlock := e, loaded := blk s } } }

/-! ### REGSET (R71, R77, R81) -/

/-- One REGSET record: a write that passes the RWL restriction, and that of a group, a lane or a stream context as if it were
at rest; a lane's CS_COMMIT commits. -/
def regsetWrite (rec_ : Nat × Nat) (s : State) : State :=
  let off := rec_.1
  let v := BitVec.ofNat 32 rec_.2
  let ctx : Bool := (strCtxOf off).isSome && (off - 0x710000) % 256 != 0
  let grp : Bool := ctx || (0x801000 ≤ off && off < 0x801400 && (off - 0x801000) % 64 != 0)
  let lane : Bool := 0x804000 ≤ off && off < 0x808000 && (off - 0x804000) % 256 == 0
  if lane then when (fget v 24 24 == 1) (csCommit ((off - 0x804000) / 256)) (plainWrite off v s)
  else if grp then (if rangeOk off v then plainWrite off v s else writeIgnored s)
  else applyReg off v s

/-- The records of a list that configure one stream context. -/
def ctxRecords (rs : List (Nat × Nat)) (ctx : Bool × Nat) : List (Nat × Nat) := rs.filter (fun r => strCtxOf r.1 == some ctx)

/-- A stream context stops at once: off, its sequence broken. -/
def ctxOff (ctx : Bool × Nat) (s : State) : State :=
  match ctx with
  | (true, c) =>
    rxMod c (fun y => { RxCtx.init with lastX := y.lastX, gap := y.gap, fadeN := y.fadeN })
      (setF (wrN s (R.STR_RX_STATE c) 0) (F.STR_RX_CTL_EN c) 0)
  | (false, t) => txMod t (fun _ => TxCtx.init) (setF (wrN s (R.STR_TX_STATE t) 0) (F.STR_TX_CTL_EN t) 0)

/-- Write the REGSET records of a Pattern that follows another, all of them in stream order (R71): stream contexts whose
records are identical continue, every other one stops first (R81). -/
def regsetApply (old new : List (Nat × Nat)) (s : State) : State :=
  let ctxs := ((old ++ new).filterMap (fun r => strCtxOf r.1)).eraseDups
  let changed := ctxs.filter (fun c => ctxRecords old c != ctxRecords new c)
  forEach new regsetWrite (forEach changed ctxOff s)

/-! ### LOAD, LOAD_SLOT (R76, R77, R89) -/

/-- Begin a load. -/
def loadStart (cmd : Nat) (op : LoaderOp) (via : Src) (s : State) : State :=
  if loaderBusy s || loaderOut s || !(stg s == 0 || stg s == 3) then patRefuse cmd .busy 0 s
  else showBusy (setStg 1 (patResult cmd 0 0 { s with pat := { s.pat with busy := some op, via := via } }))

/-- PAT_LOAD: the stream lies in DRAM at PAT_SRC. -/
def execPatLoad (via : Src) (s : State) : Out :=
  .next (loadStart 1 (.load (rdN s R.PAT_SRC) (rdN s R.PAT_LEN)) via (journalReg via R.PAT_CMD 1 s))

/-- PAT_LOAD_SLOT. -/
def execPatLoadSlot (via : Src) (slot : Fin 4) (s : State) : Out :=
  let s := journalReg via R.PAT_CMD (BitVec.ofNat 32 (2 + 256 * slot.val)) s
  .next (
    if loaderBusy s || loaderOut s || !(stg s == 0 || stg s == 3) then patRefuse 2 .busy 0 s
    else if getF s (F.PAT_SLOT_VALID slot.val) = 0 then patRefuse 2 .slotInvalid 0 s
    else loadStart 2 (.loadSlot slot.val) via s)

/-- The stream that the load in progress reads, and its stated length. -/
def loadStream (s : State) : Option (List Byte × Nat) :=
  match s.pat.busy with
  | some (.load src len) => some (rdPacked s dramBase src (max len 64), len)
  | some (.loadSlot k) => some (rdBytes s (slotBase k) (max (slotLen s k) 64), slotLen s k)
  | _ => none

/-- The ASRC bank has no channel for every non-locked source of a table (R221). -/
def tooManySources (s : State) (p : Pattern) : Bool := 2048 < (nonLockedOf s (p.routes.getD [])).length

/-- Validation as the device performs it: the checks of the stream, then the ASRC capacity. -/
def loadCheck (s : State) (bs : List Byte) (len : Nat) : Except VErr Pattern :=
  match validatePattern bs len Config.dieRev.toNat with
  | .error e => .error e
  | .ok p => if tooManySources s p then .error ⟨.capacity, crossSect, 0⟩ else .ok p

/-- Record a validation failure (R76). -/
def showVerr (e : VErr) (s : State) : State :=
  wrN (setF (setF s F.PAT_VERR_REASON (reasonCode e.reason)) F.PAT_VERR_SECT e.sect) R.PAT_VREC e.recOrd

/-- PAT_LOAD_DONE: the staging area becomes VALID or INVALID. -/
def execPatLoadDone (s : State) : Out :=
  .next (match loadStream s with
    | none => s
    | some (bs, len) =>
      let s0 := { s with pat := { s.pat with busy := none } }
      match loadCheck s bs len with
      | .ok p =>
        let s := { s0 with pat := { s0.pat with staged := some p, stagedBytes := bs.take len } }
        let s := match p.coefs with
          | some cs => convStart p cs s
          | none => s
        patDone (showBusy (showStaged (setStg 2 s)))
      | .error e =>
        let s := { s0 with pat := { s0.pat with staged := none, stagedBytes := [] } }
        raise .patVerr 0 (showVerr e (showBusy (showStaged (setStg 3 s)))))

/-! ### ARM (R77) -/

/-- Copying of the primary tables begins; while no Pattern runs the REGSET records are written. -/
def armStart (via : Src) (s : State) : State :=
  if loaderBusy s || loaderOut s then patRefuse 3 .busy 0 s
  else if stg s == 0 || stg s == 3 then patRefuse 3 .notValid 0 s
  else if stg s != 2 then patRefuse 3 .busy 0 s
  else
    let s := patResult 3 0 0 { s with pat := { s.pat with busy := some .arm, via := via } }
    let s := showBusy (setStg 4 s)
    if running s then s
    else
      let s := regsetApply (s.pat.live.getD Pattern.empty).regset (stagedPat s).regset s
      { s with pat := { s.pat with regsetDone := true } }

/-- PAT_ARM. -/
def execPatArm (via : Src) (s : State) : Out := .next (armStart via (journalReg via R.PAT_CMD 3 s))

/-- Write steps into a runner bank of a tile from a step index on. -/
def writeSteps (t b i : Nat) (steps : List Nat) (s : State) : State :=
  wrBytes s (bankBase t b + 16 * i) (steps.flatMap (leBytes 16))

/-- Write a table's steps into a runner bank of a tile; while the tile's seat is handed over, into the receiving tile's bank
as well (R108). -/
def writeTable (t b : Nat) (tab : RunnerTab) (s : State) : State :=
  let s := writeSteps t b 0 tab.steps s
  match s.seq.ho with
  | some h => if h.src = t then writeSteps h.dst b 0 tab.steps s else s
  | none => s

/-- A table of a Pattern by its RUNNER index. -/
def tableOf (p : Pattern) (ix : Nat) : RunnerTab :=
  match p.runners.find? (fun r => r.1 == ix) with
  | some r => r.2
  | none => RunnerTab.empty

/-- Copy a Pattern's tables to the inactive banks of the tiles that occupy the seats. -/
def copyTables (p : Pattern) (s : State) : State :=
  let fb := fbSeats s
  forNat (if fb then 15 else 16) (fun q s =>
    match seatTileOf s fb q with
    | some t => writeTable t (1 - getF s (F.SEQ_TSTAT_BANK t)) (tableOf p (if fb then 16 + q else q)) s
    | none => s) s

/-- ARM_DONE: every seat is copied; while no Pattern runs the media loop then follows the armed time base (R253). -/
def execArmDone (s : State) : Out :=
  .next (match s.pat.busy with
    | some .arm =>
      let p := stagedPat s
      let s := copyTables p { s with pat := { s.pat with
        busy := none, armedMtb := if running s then s.pat.armedMtb else some p.mtb } }
      loopFollow (patDone (showBusy (setStg 5 s)))
    | _ => s)

/-! ### POUR (R78, R508, R257) -/

/-- Units of 2^-48 ns in a second. -/
def secUnits : Int := 1000000000 * 2 ^ 48

/-- Rate of a Pattern. -/
def patFs (p : Pattern) : Nat := if p.rate = 1 then 96000 else 48000

/-- The first block of the running count whose start is at or after the time at which the derived MSI of a new rate and time
base reaches 16p (R508), from the time that base holds now. -/
def pourCutAt (s : State) (new : Pattern) (p : Nat) : Nat :=
  let fo : Int := fsInt s
  let fn : Int := patFs new
  let t := (tbOf s new.mtb).time
  let num := ((16 * p : Nat) - epoch (epochLoad s)) * fo * secUnits - t * fo * fn
  let den := 16 * secUnits * fn
  blk s + (max 0 (-((-num) / den))).toNat

/-- A pour changes the rate. -/
def pourRate (s : State) (p : Pattern) : Bool := p.rate != b2n (rate96 s)

/-- The block of the running count at whose strobe a pour cuts. -/
def pourCut (s : State) (new : Pattern) (p : Nat) : Nat := if pourRate s new then pourCutAt s new p else p

/-- The pour is accepted (R78). -/
def pourAccept (s : State) : State :=
  match s.pat.pour with
  | none => s
  | some p =>
    let s := { s with pat := { s.pat with pour := some { p with decided := true } } }
    journalPat p.via 4 0 (stagedPat s).patId (16 * p.block) (patDone (patResult 4 0 0 s))

/-- Codes of a block that replace the last 16 a converter channel has taken, in its queue and its group delay. -/
def dacRedo (n : Nat) (codes : List Int) (s : State) : State :=
  dacMod n (fun x =>
    let inQ := min 16 x.queue.length
    let inP := 16 - inQ
    { x with queue := x.queue.take (x.queue.length - inQ) ++ codes.drop (16 - inQ),
             pipe := x.pipe.take (8 - inP) ++ (codes.take inP).map some }) s

/-- Output block p, which egress has zeroed for a pour that was then withdrawn, is restored with its fade-in (R79). -/
def egressRestore (s : State) : State :=
  let up := fun (b : OutBlk) => { b with fading := true, xs := b.xs.zipIdx.map (fun (p : Int × Nat) => fade p.1 (p.2 + 1) 16) }
  let s := { s with rnd := { s.rnd with chans := s.rnd.chans.map (fun x => (x.1, { x.2 with egress := up x.2.ret })) } }
  if s.msi % 16 < 6 then s
  else forNat 32 (fun n s =>
    let ch := dacMap s n
    if dacSt s n = 0 ∨ ch = 0xFFFF then s
    else dacRedo n ((List.range 16).map (fun j => dacCode (nth (chanOf s ch).egress.xs j 0))) s) s

/-- A pending pour is withdrawn: the staging area returns to ARMED, and a fade that egress has begun stays (R79). -/
def pourWithdraw (s : State) : State :=
  match s.pat.pour with
  | none => s
  | some p =>
    let s := setStg 5 { s with pat := { s.pat with pour := none } }
    if running s ∧ p.cut ≤ blk s + 2 then
      let s := { s with pat := { s.pat with fadeIn := some p.cut } }
      if p.cut ≤ blk s + 1 then egressRestore s else s
    else s

/-- A pour that is refused after its judgement. -/
def pourRefuse (r : Reason) (s : State) : State := patRefuse 4 r 0 (pourWithdraw s)

/-- Neither unit of a pair is ACTIVE, as this unit reads the claim lines: the pour is the first one of R500. -/
def noActiveUnit (s : State) : Bool :=
  !isActive s && (match s.clm.lastActive with
    | none => true
    | some b => decide (b + 64 < blk s))

/-- POUR for an MSI is judged (R78). -/
def patPour (via : Src) (m : Nat) (s : State) : State :=
  let p := ceil16 m
  let new := stagedPat s
  let cut := pourCut s new p
  if isPassive s && !noActiveUnit s then writeIgnored s
  else if loaderBusy s then patRefuse 4 .busy 0 s
  else if stg s != 5 then patRefuse 4 .notArmed 0 s
  else if cut < blk s + leadCmd s then patRefuse 4 .late 0 s
  else if !mediaLocked s || (new.mtb != followTb s && !tbUsable s new.mtb) then patRefuse 4 .mediaUnlocked 0 s
  else
    let (wait, s) := mirrorCommand (.pour m p cut new.patId new.totalCrc) (cut - 1) s
    let s := setStg 6 { s with pat := { s.pat with pour := some { block := p, cut := cut, via := via, decided := false } } }
    if wait then s else pourAccept s

/-- PAT_POUR. -/
def execPatPour (via : Src) (s : State) : Out := .next (patPour via (rd64 s R.PAT_MSI_LO R.PAT_MSI_HI) (journalReg via R.PAT_CMD 4 s))

/-! ### STOP (R84) -/

/-- The stop is accepted: a pour for its block or a later one is cancelled. -/
def stopAccept (s : State) : State :=
  match s.pat.stop with
  | none => s
  | some k =>
    let s := setF { s with pat := { s.pat with stop := some { k with decided := true } } } F.PAT_STATE_LIVE 4
    let s := match s.pat.pour with
      | some p => if k.block ≤ p.cut then pourWithdraw s else s
      | none => s
    journalPat k.via 5 0 (s.pat.live.getD Pattern.empty).patId (16 * k.block) (patDone (patResult 5 0 0 s))

/-- A stop that is refused after its judgement. -/
def stopRefuse (r : Reason) (s : State) : State := patRefuse 5 r 0 { s with pat := { s.pat with stop := none } }

/-- STOP is judged. -/
def patStop (via : Src) (s : State) : State :=
  let m := rd64 s R.PAT_MSI_LO R.PAT_MSI_HI
  let k := ceil16 m
  if isPassive s then writeIgnored s
  else if loaderBusy s then patRefuse 5 .busy 0 s
  else if !running s then patRefuse 5 .notRunning 0 s
  else if s.pat.stop.isSome then patRefuse 5 .busy 0 s
  else if isLate s m then patRefuse 5 .late 0 s
  else
    let (wait, s) := mirrorCommand (.stop k) (k - 1) s
    let s := { s with pat := { s.pat with stop := some { block := k, via := via, decided := false, begun := false } } }
    if wait then s else stopAccept s

/-- PAT_STOP. -/
def execPatStop (via : Src) (s : State) : Out := .next (patStop via (journalReg via R.PAT_CMD 5 s))

/-! ### DISCARD (R77, R79) -/

/-- An accepted DISCARD of a pending pour. -/
def discardAccept (via : Src) (s : State) : State :=
  match s.pat.pour with
  | none => s
  | some p => journalPat via 6 0 (stagedPat s).patId (16 * p.block) (patDone (patResult 6 0 0 (pourWithdraw s)))

/-- A DISCARD of a pending pour that is refused. -/
def discardRefuse (s : State) : State := patRefuse 6 .tooLate 0 s

/-- DISCARD is judged. -/
def patDiscard (via : Src) (s : State) : State :=
  match s.pat.pour with
  | some p =>
    if isPassive s && p.via == .flask then writeIgnored s
    else if !inTime s p.cut then discardRefuse s
    else if isPassive s then discardAccept via s
    else
      let (wait, s) := mirrorCommand (.discard p.block) (p.cut - 1) s
      if wait then s else discardAccept via s
  | none =>
    let id := (stagedPat s).patId
    let s := setF (stagingEmpty s) F.PAT_STATE_STORING 0
    journalPat via 6 0 id s.msi (patDone (patResult 6 0 0 s))

/-- PAT_DISCARD. -/
def execPatDiscard (via : Src) (s : State) : Out := .next (patDiscard via (journalReg via R.PAT_CMD 6 s))

/-! ### Amendments (R85 to R88) -/

/-- A layout counts as in a crossfade (R86). -/
def layoutMoving (s : State) (ix : Nat) : Bool := blk s < (aGet (fun _ => (0, 0)) s.pat.layoutBusy ix).2

/-- A staging set that the container names is in a crossfade, or its conversion would meet a staged Pattern's (R86, step 5). -/
def amendClash (s : State) (p : Pattern) : Bool :=
  (peqNames p.peq).any (fun n => blk s < peqFree n.1 (peqOf s (peqKey n.1 n.2))) ||
  (p.coefs.getD []).any (fun r => (coefOf s r.out).xf.isSome) ||
  p.layouts.any (fun l => layoutMoving s l.1) ||
  (p.coefs.isSome && (stagedPat s).coefs.isSome)

/-- Staging is complete and the item is decided: the amendment is accepted. -/
def amendTry (s : State) : State :=
  match s.pat.amend with
  | none => s
  | some a =>
    if a.staged && a.decided && getF s F.PAT_STATE_AMD_PEND == 0 && !s.err.fatal then
      let s := showBusy (setF s F.PAT_STATE_AMD_PEND 1)
      journal a.via 3 0 (a.amdId % 2 ^ 32) (16 * a.block) (patResult 7 0 (a.amdId % 2 ^ 16) s)
    else s

/-- The amendment's staging sets are released unchanged. -/
def amendDrop (s : State) : State :=
  let conv := match s.pat.amend with
    | some a => if a.body.coefs.isSome then none else s.pat.conv
    | none => s.pat.conv
  showBusy (setF { s with pat := { s.pat with amend := none, conv := conv } } F.PAT_STATE_AMD_PEND 0)

/-- An amendment that is refused after its judgement. -/
def amendRefuse (r : Reason) (s : State) : State :=
  match s.pat.amend with
  | none => s
  | some a => patRefuse 7 r (a.amdId % 2 ^ 16) (amendDrop s)

/-- Staging that ends now is complete at the strobe of k - 1, which has not come yet (R75, R86 step 6). -/
def stagedInTime (s : State) (k : Nat) : Bool := blk s + 2 ≤ k

/-- Stage a validated container for block k; its coefficients first have to be converted. -/
def amendStage (via : Src) (k amd xf : Nat) (decided : Bool) (p : Pattern) (s : State) : State :=
  let a : AmendPend := { block := k, amdId := amd, xf := xf, via := via, decided := decided, body := p,
                         staged := p.coefs.isNone && stagedInTime s k }
  let s := showBusy { s with pat := { s.pat with amend := some a } }
  let s := match p.coefs with
    | none => s
    | some cs =>
      forEach cs (fun r s => coefMod r.out (fun c => { c with staging := r.taps }) s)
        (convStart (s.pat.live.getD Pattern.empty) cs s)
  amendTry s

/-- Validation of a container against the live Pattern, with the ASRC capacity of its routes. -/
def amendCheck (s : State) (bs : List Byte) (len : Nat) : Except VErr Pattern :=
  match validateAmend bs len (s.pat.live.getD Pattern.empty) with
  | .error e => .error e
  | .ok p => if tooManySources s p then .error ⟨.capacity, crossSect, 0⟩ else .ok p

/-- AMEND is tested in the order of R86. -/
def patAmend (via : Src) (s : State) : State :=
  let m := rd64 s R.PAT_MSI_LO R.PAT_MSI_HI
  let k := ceil16 m
  let len := rdN s R.PAT_LEN
  let bs := rdPacked s dramBase (rdN s R.PAT_SRC) (max len 32)
  let amd := amdIdOf bs % 2 ^ 16
  if isPassive s then writeIgnored s
  else if s.pat.amend.isSome || loaderBusy s || loaderOut s then patRefuse 7 .busy amd s
  else if !running s then patRefuse 7 .notRunning amd s
  else if isLate s m then patRefuse 7 .late amd s
  else match amendCheck s bs len with
    | .error e => patRefuse 7 e.reason amd (raise .patVerr 0 (showVerr e s))
    | .ok p =>
      if amendClash s p then patRefuse 7 .busy amd s
      else
        let (wait, s) := mirrorCommand (.amend k (bs.take len)) (k - 1) s
        amendStage via k (amdIdOf bs) (amdXf bs) (!wait) p s

/-- PAT_AMEND. -/
def execPatAmend (via : Src) (s : State) : Out := .next (patAmend via (journalReg via R.PAT_CMD 7 s))

/-- The spectra of the staged taps of an amendment's outputs are kept (R75). -/
def convKeep (s : State) : State :=
  match s.pat.amend with
  | none => s
  | some a => forEach (a.body.coefs.getD []) (fun r s =>
      coefMod r.out (fun c => { c with stagingSpecs := coefSpectra (ladderOf s r.out) c.staging }) s) s

/-- COEF_CONVERSION_DONE: the last requested conversion has ended (R75). -/
def execCoefConversionDone (s : State) : Out :=
  .next (match s.pat.conv with
    | none => s
    | some j =>
      if blk s < j.endBlock then s
      else
        let s := { s with pat := { s.pat with conv := none } }
        let s := convKeep s
        match s.pat.amend with
        | none => s
        | some a => amendTry { s with pat := { s.pat with amend := some { a with staged := stagedInTime s a.block } } })

/-- Withdraw an undecided mirrored item that a test picks: the standby is told (R371). -/
def withdrawItem (pick : Item → Bool) (s : State) : State :=
  match s.flk.undecided.find? (fun i => pick i.item) with
  | none => s
  | some i => flkDiscard i.id (dropItem i.id (cnt s R.FLK_LATE_CNT))

/-- AMEND_STAGE_CHECK: at the strobe of k - 1 an amendment that is not staged, or not decided, is refused (R86, R371). -/
def execAmendStageCheck (s : State) : Out :=
  .next (match s.pat.amend with
    | none => s
    | some a =>
      if !due s (a.block - 1) || (a.staged && a.decided) then s
      else
        let isIt := fun (i : Item) => match i with
          | .amend _ _ => true
          | _ => false
        amendRefuse .lateStage (withdrawItem isIt s))

/-- The layouts of an amendment take effect at the first geometry instants from k on (R87). -/
def amendLayouts (k : Nat) (ls : List (Nat × Layout)) (s : State) : State :=
  forEach ls (fun l s =>
    let live := s.pat.live.map (fun p => { p with layouts := p.layouts.map (fun x => if x.1 = l.1 then l else x) })
    { s with pat := { s.pat with live := live,
                                 layoutBusy := aInsert s.pat.layoutBusy l.1 (k, k + 2 * s.geo.gEff + 1) },
             geo := { s.geo with relaid := s.geo.relaid ++ [(k, l.1, meshOf l.2)] } }) s

/-- Every staged set becomes live together at k (R86, R87). -/
def amendLive (a : AmendPend) (s : State) : State :=
  let k := a.block
  let s := amendLayouts k a.body.layouts s
  let s := match a.body.routes with
    | some t => rteGoLive k t s
    | none => s
  let s := forEach a.body.gains (fun g s => gainMove g.kind g.id g.gain k a.xf s) s
  let s := forEach (peqNames a.body.peq) (fun n s => peqMove n.1 n.2 (bandsOf a.body.peq n.1 n.2) k a.xf s) s
  forEach (a.body.coefs.getD []) (fun r s =>
    coefMod r.out (fun c => { c with xf := some (k, a.xf) }) s) s

/-- AMEND_APPLY: at the strobe of k. -/
def execAmendApply (s : State) : Out :=
  .next (match s.pat.amend with
    | none => s
    | some a =>
      if due s a.block && getF s F.PAT_STATE_AMD_PEND == 1 then
        let s := setF { s with pat := { s.pat with amend := none } } F.PAT_STATE_AMD_PEND 0
        setBit (amendLive a s) F.PAT_STAT_AMD_APPLIED
      else s)

/-! ### Stored slots and the automatic pour (R89, R90) -/

/-- PAT_STORE: the staged Pattern is copied into a slot, which is invalid until the copy is complete. -/
def execPatStore (via : Src) (slot : Fin 4) (s : State) : Out :=
  let k := slot.val
  let s := journalReg via R.PAT_CMD (BitVec.ofNat 32 (8 + 256 * k)) s
  .next (
    if loaderBusy s || loaderOut s || stg s == 6 then patRefuse 8 .busy 0 s
    else if !(stg s == 2 || stg s == 5) then patRefuse 8 .notValid 0 s
    else if 13 * 1048576 < s.pat.stagedBytes.length then patRefuse 8 .tooBig 0 s
    else
      let s := { s with pat := { s.pat with busy := some (.store k), via := via } }
      let s := slotSave k (setF (setF s F.PAT_STATE_STORING 1) (F.PAT_SLOT_VALID k) 0)
      journalPat via 8 k (stagedPat s).patId s.msi (showBusy (patResult 8 0 0 s)))

/-- STORE_DONE: the slot becomes valid. -/
def execStoreDone (s : State) : Out :=
  .next (match s.pat.busy with
    | some (.store k) =>
      let bs := s.pat.stagedBytes
      let s := wrBytes s (slotBase k) bs
      let s := wrBytes s (slotDir k + 16) (leBytes 4 bs.length)
      let s := setF (setF s (F.PAT_SLOT_LEN_KIB k) ((bs.length + 1023) / 1024)) (F.PAT_SLOT_VALID k) 1
      patDone (showBusy (setF (slotSave k { s with pat := { s.pat with busy := none } }) F.PAT_STATE_STORING 0))
    | _ => s)

/-- PAT_ERASE: the slot becomes invalid. -/
def execPatErase (via : Src) (slot : Fin 4) (s : State) : Out :=
  let k := slot.val
  let s := journalReg via R.PAT_CMD (BitVec.ofNat 32 (9 + 256 * k)) s
  .next (
    if loaderBusy s then patRefuse 9 .busy 0 s
    else journalPat via 9 k 0 s.msi (patDone (patResult 9 0 0 (slotSave k (setF s (F.PAT_SLOT_VALID k) 0)))))

/-- PAT_AUTO: set or clear the automatic slot; at most one slot is automatic. -/
def execPatAuto (via : Src) (slot : Fin 4) (en : Bool) (s : State) : Out :=
  let k := slot.val
  let s := journalReg via R.PAT_CMD (BitVec.ofNat 32 (10 + 256 * k + 4096 * b2n en)) s
  .next (
    if loaderBusy s then patRefuse 10 .busy 0 s
    else
      let s := if en then forNat 4 (fun i s => slotSave i (setF s (F.PAT_SLOT_AUTO i) (b2n (i == k)))) s
        else slotSave k (setF s (F.PAT_SLOT_AUTO k) 0)
      patDone (patResult 10 0 0 s))

/-- The automatic slot. -/
def autoSlot (s : State) : Option Nat := (List.range 4).find? (fun k => getF s (F.PAT_SLOT_AUTO k) == 1)

/-- The automatic pour is over. -/
def autoEnd (s : State) : State := { s with pat := { s.pat with autoDone := true } }

/-- The block of the automatic pour, at the Pattern's rate: the first multiple of 16 that begins at least 64 blocks after lock
and is not late (R90, R508). -/
def autoBlock (s : State) (new : Pattern) (lock : Nat) : Nat :=
  let b := max (lock + 64) (blk s + leadCmd s)
  if !pourRate s new then (b + 15) / 16 * 16
  else
    let t := (tbOf s new.mtb).time + (16 * (b - blk s) * secUnits + fsInt s - 1) / fsInt s
    let d := -((-t * patFs new) / secUnits) + epoch (epochLoad s)
    ((d + 255) / 256 * 16).toNat

/-- The next act of the automatic pour once the media clock has locked in a block: load, arm, pour. -/
def autoStep (k lock : Nat) (s : State) : State :=
  if loaderBusy s then s
  else match stg s with
    | 0 => loadStart 2 (.loadSlot k) .device s
    | 2 => armStart .device s
    | 5 => autoEnd (patPour .device (16 * autoBlock s (stagedPat s) lock) s)
    | 3 => autoEnd s
    | _ => s

/-- AUTO_POUR: after the start-up test and media lock the device loads, arms and pours the automatic slot (R90). -/
def execAutoPour (s : State) : Out :=
  .next (match autoSlot s with
    | none => s
    | some k =>
      if s.pat.autoDone || running s || getF s (F.PAT_SLOT_VALID k) == 0 || s.err.startupHold ||
          !mediaLocked s then s
      else
        let lock := s.pat.autoAt.getD (blk s)
        autoStep k lock { s with pat := { s.pat with autoAt := some lock } })

end Sys2Proof.Machine
end

