-- ==== Sys2Proof/Machine/Render.lean ====
section
/-! DEFINITION. The render pipeline up to the pool write of the partial sums: the sprue, the object stage and the pair stage
(spec/07_render_datapath.md R160 to R187; spec/09_routing.md R220 to R229; spec/08_speaker_processing.md R212, R214). -/

namespace Sys2Proof.Machine

/-! ### Where the work falls -/

/-- The seats run the fallback tables. -/
def onFallback (s : State) : Bool := (List.range 15).any (fun f => getF s (F.SEQ_FSEAT_VALID f) == 1)

/-- Input block n is rendered: the live Pattern's from its pour block, up to a STOP that has begun (R80, R84). -/
def rendered (s : State) (n : Nat) : Bool :=
  running s && (match s.pat.pouredAt with
    | some p => p ≤ n
    | none => false) &&
  (match s.pat.stop with
   | some k => !k.begun || n < k.block
   | none => true)

/-- The seat (fallback seat) that carries an object slot. -/
def seatOfSlot (s : State) (h : Nat) : Nat :=
  match objRec s h with
  | some r => if onFallback s then r.fseat else r.seat
  | none => 0

/-- The table that a seat runs in this block, from the live bank of its tile (R93). -/
def seatTable (s : State) (q : Nat) : RunnerTab :=
  (s.seq.ran.find? (fun x => x.2.ix == (if onFallback s then 16 + q else q))).elim RunnerTab.empty (fun x => x.2.tab)

/-- A MAC (0x08) or RAMP (0x0A) step with SG of the seat's table names a flag, which then gates the products that the flag's
object or output forms there (R107, R215). -/
def gatedBy (s : State) (q flag : Nat) : Bool :=
  (decodeAll (calRows (rate96 s)) (seatTable s q)).any (fun st => match st with
    | .op o _ _ _ _ _ d sg => (o == 0x08 || o == 0x0A) && sg && d % 4096 == flag
    | _ => false)

/-- The RAMP step that takes the samples which an INTP step forms from a windowed read, as position, SG and flag: the first INTP
after the read that starts inside its 13 words and whose output the next RAMP over those words takes (R171, R173, R181). -/
def rampOf (run : List Timed) (a : Access) : Option (Nat × Bool × Nat) :=
  let later := run.filter (fun t => a.start < t.start)
  later.findSome? (fun t => match t.ex.step with
    | .op 0x0D _ _ pa _ pc _ _ =>
      let i := (indexed t.ex.levels pa).2
      let c := (indexed t.ex.levels pc).2
      if a.loc ≤ i && i < a.loc + 13 then
        later.findSome? (fun u => match u.ex.step with
          | .op 0x0A cnt _ ra _ _ d sg =>
            let x := (indexed u.ex.levels ra).2
            if t.start < u.start && x ≤ c && c < x + 8 * cnt then some (u.ex.pos, sg, d % 4096) else none
          | _ => none)
      else none
    | _ => none)

/-- Windowed reads of a slot's line in a run, one for each entry: that of tap slot i at place i (windowEntries). -/
def lineReads (run : List Timed) (h : Nat) : List Access :=
  (accesses run).foldl (fun l a =>
    if windowed a && a.daddr / 32768 == h && !(l.any (fun x => x.daddr == a.daddr)) then l ++ [a] else l) []

/-- Which products of a slot's object are gated at a seat while its flag is set, step by step (R107, R215): those of a tap slot by
its own RAMP step's SG, and those of the virtual channels and buses by any other step with SG that names the flag.  Where the
steps do not show a tap slot's RAMP, a step with SG gates it too. -/
def gatesOf (s : State) (q h o : Nat) : (Nat → Bool) × Bool :=
  let run := runTable (decodeAll (calRows (rate96 s)) (seatTable s q)) q (blk s)
  let ramps := (lineReads run h).map (rampOf run)
  let mine := ramps.filterMap (fun r => r.map (fun x => x.1))
  let spread := run.any (fun t => match t.ex.step with
    | .op opc cnt _ _ _ _ d sg => (opc == 0x08 || opc == 0x0A) && sg && d % 4096 == o && mine.count t.ex.pos < (if opc = 0x0A then cnt else 1)
    | _ => false)
  (fun i => match nth ramps i none with
    | some (_, sg, d) => sg && d == o
    | none => gatedBy s q o, spread)

/-! ### Slots -/

/-- A slot's renderer state. -/
def slotOf (s : State) (h : Nat) : SlotRender := aGet (fun _ => SlotRender.init) s.rnd.slots h

/-- Change a slot's renderer state. -/
def slotMod (h : Nat) (f : SlotRender → SlotRender) (s : State) : State :=
  { s with rnd := { s.rnd with slots := aMod (fun _ => SlotRender.init) s.rnd.slots h f } }

/-- A slot that an object takes at input block k: all states zero (R165, R187); one that no object takes has faded out
(R169). -/
def slotFresh (o : Option Nat) (k fade : Nat) : SlotRender :=
  { SlotRender.init with obj := o, ls := 16 * k, fade := fade, fadeN := if fade = 1 then 16 else 0, since := k }

/-! ### Filters (R74, R175, R177, R178) -/

/-- One sample through one band in direct form I: the result and the new memory, and whether it saturated. -/
def bandStep (q : Biquad) (z : BandSt) (x : Int) : Int × BandSt × Bool :=
  let r := rhShift (q.b0 * x + q.b1 * z.x1 + q.b2 * z.x2 - q.a1 * z.y1 - q.a2 * z.y2) 33
  let y := satS 36 r
  (y, ⟨x, z.x1, y, z.y1⟩, y != r)

/-- A block through one band. -/
def bandRun (q : Biquad) : BandSt → List Int → List Int × BandSt × Nat
  | z, [] => ([], z, 0)
  | z, x :: xs =>
    let (y, z', c) := bandStep q z x
    let (ys, z'', n) := bandRun q z' xs
    (y :: ys, z'', n + b2n c)

/-- A block through a cascade of bands with their memories. -/
def cascade : List (Biquad × BandSt) → List Int → List Int × List BandSt × Nat
  | [], xs => (xs, [], 0)
  | (q, z) :: rest, xs =>
    let (ys, z', n) := bandRun q z xs
    let (os, zs, m) := cascade rest ys
    (os, z' :: zs, n + m)

/-- The bands a PEQ uses for an input block, from band `lo` on, with their memories. -/
def bandsAt (p : PeqSet) (zs : List BandSt) (n lo cnt : Nat) : List (Biquad × BandSt) :=
  (List.range cnt).map (fun i => (bandAt p n (lo + i), nth zs (lo + i) BandSt.zero))

/-- A block through the air filter with coefficient a in u0.34 (R177). -/
def airRun (a : Nat) : Int → List Int → List Int × Int × Nat
  | y1, [] => ([], y1, 0)
  | y1, x :: xs =>
    let r := rhShift (x * 2 ^ 34 + a * (y1 - x)) 34
    let y := satS 36 r
    let (ys, z, n) := airRun a y xs
    (y :: ys, z, n + b2n (y != r))

/-- Lengths of the decorrelation sections by set (R178). -/
def apLengths (set : Nat) : List Nat :=
  match set with
  | 0 => [37, 53, 71, 97]
  | 1 => [41, 59, 73, 101]
  | 2 => [43, 61, 79, 103]
  | 3 => [47, 67, 83, 107]
  | 4 => [29, 43, 67, 89]
  | 5 => [31, 47, 61, 113]
  | 6 => [23, 53, 79, 109]
  | _ => [19, 59, 83, 127]

/-- A block through one Schroeder section of length L with g in u0.16; its history of w, newest first. -/
def apRun (g len : Nat) : List Int → List Int → List Int × List Int × Nat
  | w, [] => ([], w, 0)
  | w, x :: xs =>
    let wl := nth w (len - 1) 0
    let r := rhShift (x * 2 ^ 16 + g * wl) 16
    let v := satS 36 r
    let r2 := rhShift (wl * 2 ^ 16 - g * v) 16
    let y := satS 36 r2
    let (ys, w', n) := apRun g len ((v :: w).take 128) xs
    (y :: ys, w', n + b2n (v != r) + b2n (y != r2))

/-- A block through the cascade of four sections. -/
def apCascade (g : Nat) : List Nat → List (List Int) → List Int → List Int × List (List Int) × Nat
  | [], _, xs => (xs, [], 0)
  | l :: ls, ws, xs =>
    let (ys, w, n) := apRun g l (ws.headD []) xs
    let (zs, ws', m) := apCascade g ls ws.tail ys
    (zs, w :: ws', n + m)

/-! ### Ramps and fades (R166 to R169) -/

/-- The value at ramp frame i of N, between two values given to k fewer fraction bits than the ramp holds. -/
def rampVal (k : Nat) (a b : Int) (n i : Nat) : Int :=
  if n ≤ i + 1 then b * 2 ^ k else a * 2 ^ k + (i + 1) * rh ((b - a) * 2 ^ k) n

/-- The ramp frame of frame k of input block n. -/
def rampIx (g : GeoTgt) (n k : Nat) : Nat := 16 * (n - g.first) + k

/-- A gain's ramp value in s1.50 (R166). -/
def gainRamp (g : GeoTgt) (a b : Int) (n k : Nat) : Int := rampVal 16 a b (16 * g.len) (rampIx g n k)

/-- A delay's ramp value in u16.40 (R167). -/
def delayRamp (g : GeoTgt) (a b : Nat) (n k : Nat) : Int := rampVal 24 a b (16 * g.len) (rampIx g n k)

/-- The object fade at frame k, in u1.34 (R169). -/
def fadeVal (st frames k : Nat) : Nat :=
  let i := frames + k + 1
  match st with
  | 1 => if 16 ≤ i then 0 else 2 ^ 34 - i * 2 ^ 30
  | 2 => if 1024 ≤ i then 2 ^ 34 else i * 2 ^ 24
  | _ => 2 ^ 34

/-! ### Delay lines and reads (R163 to R165, R171 to R174) -/

/-- Write an input block's samples to a slot's line. -/
def lineWrite (h n : Nat) (xs : List Int) (s : State) : State :=
  forNat 8 (fun i s => wrWord72 s dramBase (32768 * h + 8 * (n % 4096) + i) (packPair (nth xs (2 * i) 0) (nth xs (2 * i + 1) 0))) s

/-- The sample of an MSI in a slot's line. -/
def lineAt (s : State) (h m : Nat) : Int :=
  let p := unpackPair (rdWord72 s dramBase (32768 * h + m % 65536 / 2))
  if m % 2 = 0 then p.1 else p.2

/-- A kernel node at output frame m: a later one takes frame m, one before the line start is zero (R165, R174). -/
def nodeAt (s : State) (h ls m : Nat) (k : Int) : Int :=
  let j := min k m
  if j < ls then 0 else lineAt s h j.toNat

/-- The read position of a delay in u16.16: integer part and fraction (R173). -/
def readPos (m : Nat) (tau : Int) : Int × Nat :=
  let p := (m : Int) * 65536 - tau
  (p / 65536, (p % 65536).toNat)

/-- The four kernel weights in s1.34 (R173). -/
def kernel (mu : Nat) : List Int :=
  let u : Int := mu
  let o : Int := 65536
  let w := fun (x : Int) (d : Nat) => rh x (d * 2 ^ 14)
  [w (-(u * (u - o) * (u - 2 * o))) 6, w ((u + o) * (u - o) * (u - 2 * o)) 2, w (-((u + o) * u * (u - 2 * o))) 2,
   w ((u + o) * u * (u - o)) 6]

/-- One read from nodes (R173): the result and whether it saturated. -/
def interp (mu : Nat) (xs : List Int) : Int × Bool :=
  let r := rhShift (((kernel mu).zip xs).foldl (fun a p => a + p.1 * p.2) 0) 34
  (satS 36 r, satS 36 r != r)

/-- The total delay of a tap at a frame, in u16.16: RH of D + o (R167). -/
def tapTau (g : GeoTgt) (t : TapSlot) (n k : Nat) : Int :=
  rhShift (delayRamp g g.dPrev g.d n k + delayRamp g t.oPrev t.o n k) 24

/-- The oldest node of a tap's window in input block n (R171). -/
def oldestOf (g : GeoTgt) (t : TapSlot) (n : Nat) : Int := (readPos (16 * n) (tapTau g t n 0)).1 - 1

/-- A tap's interpolated samples in input block n, and how many saturated. -/
def tapRead (s : State) (h ls n : Nat) (tau : Nat → Int) (clamp : Option Int) : List Int × Nat :=
  let r := (List.range 16).map (fun k =>
    let m := 16 * n + k
    let (n0, mu) := readPos m (tau k)
    interp mu ((List.range 4).map (fun (i : Nat) =>
      let j := min (n0 - 1 + i) m
      nodeAt s h ls m (match clamp with
        | none => j
        | some w => clampI w (w + 25) j))))
  (r.map (fun x => x.1), (r.filter (fun x => x.2)).length)

/-- The Doppler delay at a frame: RH of D (R167). -/
def dopTau (g : GeoTgt) (n k : Nat) : Int := rhShift (delayRamp g g.dPrev g.d n k) 24

/-- The oldest and newest nodes that the Doppler read needs in an input block. -/
def dopSpan (g : GeoTgt) (n : Nat) : Int × Int :=
  let lo := (List.range 16).map (fun k => (readPos (16 * n + k) (dopTau g n k)).1 - 1)
  let hi := (List.range 16).map (fun k => min ((readPos (16 * n + k) (dopTau g n k)).1 + 2) (16 * n + k : Nat))
  (lo.foldl min (lo.headD 0), hi.foldl max (hi.headD 0))

/-- Sample at which a tap's window starts: an even one (R171). -/
def winStart (g : GeoTgt) (t : TapSlot) (n : Nat) : Int := oldestOf g t n / 2 * 2

/-- Where the windows of an object's 32 tap slots start; an unassigned one's is placed for the delay D (R170, R172). -/
def windowsOf (g : GeoTgt) (n : Nat) : List Int := (List.range 32).map (fun i => winStart g (nth g.slots i TapSlot.free) n)

/-- The carrier of the Doppler read: slot, its window's start, and whether it contains every node (R172). -/
def carrierOf (g : GeoTgt) (n : Nat) : Nat × Int × Bool :=
  let (lo, hi) := dopSpan g n
  let ws := windowsOf g n
  match (List.range ws.length).find? (fun j => nth ws j 0 ≤ lo && hi ≤ nth ws j 0 + 25) with
  | some j => (j, nth ws j 0, true)
  | none =>
    let best := (List.range ws.length).foldl (fun b j =>
      if (nth ws j 0 - lo).natAbs < (nth ws b 0 - lo).natAbs then j else b) 0
    (best, nth ws best 0, false)

/-! ### Partial sums (R181 to R183, R212) -/

/-- The partial sums, contribution counts and saturated additions of a seat in one block. -/
structure Acc where
  sums : Tbl (List Int)
  counts : Tbl Nat
  sats : Nat
deriving DecidableEq, Repr

/-- Nothing added. -/
def Acc.zero : Acc := { sums := [], counts := [], sats := 0 }

/-- Add a term's 16 products (s16.55) to a channel; a term counts where its gain is not zero and its flag is clear. -/
def Acc.add (c : Nat) (xs : List Int) (counted : Bool) (a : Acc) : Acc :=
  let old := aGet (fun _ => []) a.sums c
  let r := (List.range 16).map (fun j => nth old j 0 + nth xs j 0)
  let y := r.map (satS 72)
  { sums := aInsert a.sums c y,
    counts := if counted then aInsert a.counts c (aGet (fun _ => 0) a.counts c + 1) else a.counts,
    sats := a.sats + ((r.zip y).filter (fun p => p.1 != p.2)).length }

/-- A term of samples (s4.31) with gains (s1.34); gated products count as zero. -/
def Acc.term (c : Nat) (xs gs : List Int) (silent gated : Bool) (a : Acc) : Acc :=
  let p := (xs.zip gs).map (fun z => if gated then 0 else rhShift (z.1 * z.2) 10)
  a.add c p (gs.any (· != 0) && !silent)

/-- Pool word of a partial sum (R183). -/
def psumWord (t q c : Nat) : Nat := 0x300000 + 344064 * (t % 2) + 21504 * q + 16 * c

/-- Pool word of a contribution count (R212). -/
def countWord (t q c : Nat) : Nat := 0x3B0000 + 21504 * (t % 2) + 1344 * q + c

/-- Pool word of a bass-send sum (R196). -/
def bassWord (t m q : Nat) : Nat := 0x3A8000 + 16384 * (t % 2) + 256 * m + 16 * q

/-- Zero a range of pool words. -/
def poolClear (w n : Nat) (s : State) : State :=
  { s with mem := s.mem.filter (fun c => !(poolBase + 16 * w ≤ c.1 && c.1 < poolBase + 16 * (w + n))) }

/-- A seat's partial sums and counts of block t in the pool (R183). -/
def accStore (t q : Nat) (sums : Tbl (List Int)) (counts : Tbl Nat) (s : State) : State :=
  let s := poolClear (countWord t q 0) 1344 (poolClear (psumWord t q 0) 21504 s)
  let s := forEach sums (fun p s => forNat 16 (fun j s => wrWord72 s poolBase (psumWord t q p.1 + j) (code 72 (nth p.2 j 0))) s) s
  forEach counts (fun p s => wrWord72 s poolBase (countWord t q p.1) (p.2 % 65536)) s

/-- A seat's pool write at the end of block t (R183). -/
def accWrite (t q : Nat) (a : Acc) (s : State) : State :=
  let s := accStore t q a.sums a.counts s
  if a.sats = 0 then s else raise .rndAccSat 0 (cntAdd s R.RND_ACCSAT_CNT a.sats)

/-! ### The pair stage (R160, R177 to R182, R227, R228) -/

/-- Count saturations of the sample path (R162). -/
def sampleSat (n : Nat) (s : State) : State := if n = 0 then s else raise .rndSampleSat 0 (cntAdd s R.RND_SAT_CNT n)

/-- The SEND levels of an object to a bus in input block n. -/
def sendLevels (sends : List (RouteEnt × List Int)) (o m : Nat) : List Int :=
  ((sends.find? (fun r => r.1.source == o && r.1.dst == m)).map (fun r => r.2)).getD []

/-- The fade state a slot has in an input block: a slot about to be rebound or vacated fades out (R92, R187). -/
def slotFade (sl : SlotRender) (n : Nat) : Nat × Nat :=
  match sl.rebind with
  | some (_, k) => if n + 1 = k then (1, 0) else (sl.fade, sl.fadeN)
  | none => (sl.fade, sl.fadeN)

/-- A slot's contributions in input block n: taps, virtual channels and buses. -/
def slotTerms (n o : Nat) (sl : SlotRender) (g : GeoTgt) (spread : List Int)
    (taps : List (Nat × TapSlot × List Int)) (sends : List (RouteEnt × List Int)) (gates : (Nat → Bool) × Bool) (a : Acc) : Acc :=
  let fd := slotFade sl n
  let ks := List.range 16
  let gain := fun (p v : Int) => ks.map (fun k => satS 36 (rhShift (gainRamp g p v n k * fadeVal fd.1 fd.2 k) 50))
  let gated := gates.2
  let a := taps.foldl (fun a t => match t.2.1.out with
    | some j => a.term j t.2.2 (gain t.2.1.gPrev t.2.1.g) sl.silent (gates.1 t.1)
    | none => a) a
  let vs := ((g.vPrev.map (fun p => p.1)) ++ (g.v.map (fun p => p.1))).eraseDups
  let a := vs.foldl (fun a i =>
    a.term (1024 + i) spread (gain (aGet (fun _ => 0) g.vPrev i) (aGet (fun _ => 0) g.v i)) sl.silent gated) a
  (List.range 64).foldl (fun a m =>
    match sendLevels sends o m with
    | [] => a
    | ls => a.term (1280 + m) spread (ks.map (fun k =>
        satS 36 (rhShift (gainRamp g (aGet (fun _ => 0) g.bPrev m) (aGet (fun _ => 0) g.b m) n k *
          fadeVal fd.1 fd.2 k * nth ls k 0) 84))) sl.silent gated) a

/-- What a seat's tile missed of a slot's line in a block (R103): the tap slots whose windows read as zero, and the line's write. -/
structure LineLost where
  taps : List Nat
  write : Bool
deriving DecidableEq, Repr

/-- Nothing missed. -/
def LineLost.none : LineLost := { taps := [], write := false }

/-- One slot's object and pair stage on input block n.  Until the object's first targets its Doppler delays are those of the zero
record (R187; log 275). -/
def slotPair (n q : Nat) (sends : List (RouteEnt × List Int)) (lost : Nat → LineLost) (h : Nat) (x : State × Acc) :
    State × Acc :=
  let s := x.1
  let sl := slotOf s h
  match sl.obj with
  | none => x
  | some o =>
    let g := (geoOf s h).live
    let (ys, air, sat1) := airRun g.air sl.air sl.staged
    let gone := lost h
    let s := if gone.write then s else lineWrite h n ys s
    let read := fun (i : Nat) (tau : Nat → Int) (clamp : Option Int) =>
      if gone.taps.contains i then (List.replicate 16 0, 0) else tapRead s h sl.ls n tau clamp
    let (car, w, ok) := carrierOf g n
    let (xd, sat2) := read car (dopTau g n) (if ok then none else some w)
    let s := if ok then s else raise .rndDopClip 0 (cnt s R.RND_DOPCLIP_CNT)
    let taps := (g.slots.zipIdx.filter (fun t => t.1.out.isSome)).map (fun t => (t.2, t.1, read t.2 (tapTau g t.1 n) none))
    let sat3 := taps.foldl (fun a t => a + t.2.2.2) 0
    let (yap, ap, sat4) := apCascade (getL s F.RND_CFG_DECOR_G) (apLengths (o % 8)) sl.allPass xd
    let mixed := (List.range 16).map (fun k =>
      rhShift (gainRamp g g.cdPrev g.cd n k * nth xd k 0 + gainRamp g g.cwPrev g.cw n k * nth yap k 0) 50)
    let sat5 := (mixed.filter (fun v => satS 36 v != v)).length
    let plain : Bool := getL s F.RND_CFG_DECOR_EN == 0 || g.seff == 0
    let spread := if plain then xd else mixed.map (satS 36)
    let gates := gatesOf s q h o
    let a := slotTerms n o sl g spread (taps.map (fun t => (t.1, t.2.1, t.2.2.1))) sends
      (fun i => sl.silent && gates.1 i, sl.silent && gates.2) x.2
    let s := sampleSat (sat1 + sat2 + sat3 + sat4 + (if plain then 0 else sat5)) s
    let fn := sl.fadeN + 16
    let sl := { sl with air := air, allPass := ap, carrier := car, carrierOk := ok,
                        wins := (windowsOf g n).map (fun w => (w / 2 % 32768).toNat),
                        fade := if sl.fade = 2 ∧ 1024 ≤ fn then 0 else sl.fade,
                        fadeN := if sl.fade = 0 ∨ (sl.fade = 2 ∧ 1024 ≤ fn) then 0 else min fn 1024 }
    (slotMod h (fun _ => sl) s, a)

/-- Bindings that take effect with the next input block (R92, R187). -/
def slotRebind (n : Nat) (s : State) : State :=
  forEach s.rnd.slots (fun p s => match p.2.rebind with
    | some (o, k) =>
      if k = n + 1 then
        { slotMod p.1 (fun _ => slotFresh o k (if o.isSome then 2 else 1)) s with
          geo := { s.geo with objs := aSet (fun _ => GeoObj.init) s.geo.objs p.1 (aGet (fun _ => GeoObj.init) s.geo.fresh p.1),
                              fresh := aErase s.geo.fresh p.1 } }
      else s
    | none => s) s

/-- A seat whose work counts for nothing: its tile is lost or it was vacated. -/
def seatDead (s : State) (q : Nat) : Bool := s.rnd.zeroSeats.contains q || s.rnd.deadSeats.contains q

/-- The entries of a line's windowed reads in the order in which a seat's table executes them in a block: the manual leaves
their places to the compiler, so the i-th different entry of the line is that of tap slot i. -/
def windowEntries (s : State) (q h b : Nat) : List Nat :=
  (lineReads (runTable (decodeAll (calRows (rate96 s)) (seatTable s q)) q b) h).map (fun a => a.daddr % 32768)

/-- The ramp unit fills the window table of a seat for input block n: the start of each tap slot's window (R170, R171). -/
def windowTable (n q h : Nat) (s : State) : State :=
  match seatTileOf s (onFallback s) q with
  | none => s
  | some t =>
    let g := (geoOf s h).live
    forEach (windowEntries s q h (n + 2)).zipIdx (fun e s =>
      wrWord72 s (tileBase t) (0x7E000 + e.1) (winStart g (nth g.slots e.2 TapSlot.free) n / 2 % 32768).toNat) s

/-- The pair stage of a seat on input block n, in block n + 2: its object slots in ascending home ID, then its beds. -/
def seatPair (n q : Nat) (sends beds : List (RouteEnt × List Int)) (lost : Nat → LineLost) (s : State) : State :=
  let mine := (s.rnd.slots.map (fun p => p.1)).filter (fun h => seatOfSlot s h == q)
  let (s, a) := mine.foldl (fun x h => slotPair n q sends lost h x) (forEach mine (windowTable n q) s, Acc.zero)
  let s := { s with rnd := { s.rnd with bedless := aInsert s.rnd.bedless q (a.sums, a.counts) } }
  let a := beds.foldl (fun a b =>
    if seatOfChannel (livePat s) (onFallback s) b.1.dst = q ∧ channelPresent (livePat s) b.1.dst then
      a.term b.1.dst (aGet (fun _ => []) s.rnd.src b.1.source) b.2 false false
    else a) a
  accWrite (n + 2) q a s

/-- The words of a slot's line that input block n takes. -/
def lineWords (h n : Nat) : List Nat := (List.range 8).map (fun i => 32768 * h + 8 * (n % 4096) + i)

/-- Keep the words of every line that the block's write replaces. -/
def lineKeep (n : Nat) (s : State) : State :=
  { s with rnd := { s.rnd with lineWas := s.rnd.slots.map (fun p => (p.1, (lineWords p.1 n).map (rdWord72 s dramBase))) } }

/-- A slot's write to its line in input block n has been dropped (R103). -/
def lineRestore (n h : Nat) (s : State) : State :=
  forEach ((lineWords h n).zip (aGet (fun _ => []) s.rnd.lineWas h)) (fun w s => wrWord72 s dramBase w.1 w.2) s

/-- The pair stage of every seat on input block n, in block n + 2. -/
def pairStage (n : Nat) (s : State) : State :=
  let sends := routeGains s 2 n
  let beds := routeGains s 1 n
  slotRebind n (forNat (if onFallback s then 15 else 16) (fun q s =>
    if seatDead s q then accWrite (n + 2) q Acc.zero s
    else seatPair n q sends beds (fun _ => LineLost.none) s) (lineKeep n s))

/-! ### The sprue (R220 to R222, R226, R229) and the object PEQ -/

/-- A source's samples of input block n (R220, R221): the lanes and microphones deliver with the strobe. -/
def sourceSamples (inp : StrobeIn) (stim : List Int) (src : Nat) (s : State) : List Int × State :=
  let zero := List.replicate 16 0
  let given := fun (l : List (Nat × List Int)) (k : Nat) => ((l.find? (fun x => x.1 == k)).map (fun x => x.2)).getD []
  if src < 0x800 && srcNonLocked s src && !s.rte.asrc.contains src then (zero, s)
  else if src < 0x800 then laneSamples (src / 32) (src % 32) (given inp.lanes src) s
  else if src < 0x4800 then (aGet (fun _ => zero) s.rnd.ingest src, s)
  else if src < 0x4820 then (aGet (fun _ => zero) s.pdm.out (src - 0x4800), s)
  else if src = 0x4820 then (stim, s)
  else if 0x5000 ≤ src ∧ src ≤ 0x553F then
    let r := (chanOf s (src - 0x5000)).ret.xs
    ((List.range 16).map (fun j => nth r j 0), s)
  else (zero, s)

/-- Samples of several sources. -/
def gather (inp : StrobeIn) (stim : List Int) : List Nat → State → Tbl (List Int) × State
  | [], s => ([], s)
  | n :: ns, s =>
    let (xs, s) := sourceSamples inp stim n s
    let (t, s) := gather inp stim ns s
    (aInsert t n xs, s)

/-- A threshold in s4.31 as a magnitude in 2^-120: 10^(-THR/20) (R214). -/
def belowThr (thr : Nat) (xs : List Int) : Bool :=
  let t := expFix (-(ln10Fix * thr) / 20)
  xs.all (fun x => (x.natAbs : Int) * 2 ^ 89 < t)

/-- The effective hold in blocks (R214). -/
def silHold (s : State) (hold : Nat) : Nat := if rate96 s then hold * 6000 else max (hold * 3000) 4500

/-- A silence counter after a block. -/
def silNext (quiet : Bool) (c : Nat) : Nat := if quiet then min (c + 1) (2 ^ 32 - 1) else 0

/-- The exact sums of INPUT entries, rounded to s4.31 and not yet saturated (R226). -/
def inputSum (s : State) (mine : List (RouteEnt × List Int)) : List Int :=
  (List.range 16).map (fun k =>
    rhShift (mine.foldl (fun a r => a + nth (aGet (fun _ => []) s.rnd.src r.1.source) k 0 * nth r.2 k 0) 0) 34)

/-- One object's input of block n and its PEQ (R175, R226). -/
def slotInput (n : Nat) (inputs : List (RouteEnt × List Int)) (h : Nat) (s : State) : State :=
  let sl := slotOf s h
  match sl.obj with
  | none => s
  | some o =>
    let raw := inputSum s (inputs.filter (fun r => r.1.dst == o))
    let xs := raw.map (satS 36)
    let bad := (raw.filter (fun v => satS 36 v != v)).length
    let s := if bad = 0 then s else raise .rteSumSat 0 (cntAdd s R.RTE_SAT_CNT bad)
    let p := peqOf s (peqKey 0 o)
    let (ys, zs, sats) := cascade (bandsAt p sl.peq n 0 8) xs
    let on : Bool := getL s F.SPK_OSIL_CFG_EN == 1
    let quiet := on && belowThr (getL s F.SPK_OSIL_CFG_THR) xs
    sampleSat sats (slotMod h (fun x => { x with peq := zs, staged := ys, silCount := silNext quiet x.silCount,
                                                 silent := x.silent && quiet }) s)

/-- The inputs of objects that no slot renders are summed all the same (R226, R238). -/
def unslottedSums (inputs : List (RouteEnt × List Int)) (s : State) : State :=
  let slotted := s.rnd.slots.filterMap (fun p => p.2.obj)
  let dsts := ((inputs.map (fun r => r.1.dst)).eraseDups).filter (fun o => !slotted.contains o)
  forEach dsts (fun o s =>
    let bad := ((inputSum s (inputs.filter (fun r => r.1.dst == o))).filter (fun v => satS 36 v != v)).length
    if bad = 0 then s else raise .rteSumSat 0 (cntAdd s R.RTE_SAT_CNT bad)) s

/-- The last block of a capture that a pour cuts: its sources' samples under the gains it had (R335). -/
def capTail (inp : StrobeIn) (s : State) : State :=
  match s.cap with
  | none => s
  | some c =>
    match c.tail with
    | none => s
    | some caps =>
      let n := capNext s c
      let (stim, s) := stimSamples n { s with cap := some { c with tail := none } }
      let (src, s) := gather inp stim ((caps.map (fun r => r.1.source)).eraseDups) s
      let kept := s.rnd.src
      let s := { s with rnd := { s.rnd with src := src } }
      let chans := (caps.map (fun r => r.1.dst)).eraseDups
      let s := capWrite n (chans.map (fun q => (q, (inputSum s (caps.filter (fun r => r.1.dst == q))).map (satS 36)))) s
      { s with rnd := { s.rnd with src := kept } }

/-- The sprue and the object PEQ on input block n, in block n + 1. -/
def sprueStage (n : Nat) (inp : StrobeIn) (s : State) : State :=
  let (stim, s) := stimSamples n s
  let inputs := routeGains s 0 n
  let caps := routeGains s 3 n
  let names := ((inputs ++ routeGains s 1 n ++ caps).map (fun r => r.1.source)).eraseDups
  let (src, s) := gather inp stim names s
  let s := { s with rnd := { s.rnd with src := src } }
  let s := unslottedSums inputs (forEach (s.rnd.slots.map (fun p => p.1)) (slotInput n inputs) s)
  let chans := (caps.map (fun r => r.1.dst)).eraseDups
  capWrite n (chans.map (fun q => (q, (inputSum s (caps.filter (fun r => r.1.dst == q))).map (satS 36)))) s

/-! ### What RND_SEL shows: the selected object and slot as they stood at the last block boundary (R189) -/

/-- The selected object's slot: the one that carried it, else the one of its home ID. -/
def rndSlot (s : State) : Nat :=
  let o := getF s F.RND_SEL_OBJ
  ((s.rnd.prevSlots.find? (fun p => p.2.obj == some o)).map (fun p => p.1)).getD o

/-- The selected object's targets. -/
def rndGeo (s : State) : GeoTgt := (aGet (fun _ => GeoObj.init) s.rnd.prevGeo (rndSlot s)).live

/-- The selected tap slot. -/
def rndTap (s : State) : TapSlot := nth (rndGeo s).slots (getF s F.RND_SEL_SLOT) TapSlot.free

/-- The input block whose last frame the inspection registers show: the one rendered when the last boundary came. -/
def rndBlock (s : State) : Nat := blk s - 3

/-- The selected object's slot. -/
def rndShown (s : State) : SlotRender := aGet (fun _ => SlotRender.init) s.rnd.prevSlots (rndSlot s)

/-- RND_OSTAT as read. -/
def rndOstat (s : State) : Nat :=
  let x := rndShown s
  let g := rndGeo s
  b2n x.carrierOk * 2 ^ 21 + x.carrier * 2 ^ 16 + (if rndBlock s < g.first then g.seffPrev else g.seff)

/-- The fade of an object record: state and frames elapsed (R169, R180). -/
def fadeShown (s : State) (x : SlotRender) : Nat × Nat :=
  match x.rebind with
  | some (_, k) => if rndBlock s + 2 = k then (1, 0) else (x.fade, x.fadeN)
  | none => (x.fade, x.fadeN)

/-- The three words of a tap record (R180): gain target and last gain, offset target and last offset, and OUT, ASSIGNED, NEW
and the entry of the window table. -/
def tapRecord (t : TapSlot) (gLast : Int) (oLast entry : Nat) : List Nat :=
  [code 36 t.g + code 36 gLast * 2 ^ 36, t.o + oLast * 2 ^ 32,
   t.out.getD 0 + b2n t.out.isSome * 2 ^ 11 + b2n t.new * 2 ^ 12 + entry * 2 ^ 16]

/-- The four words of an object record (R180). -/
def objRecord (g : GeoTgt) (dLast : Nat) (x : SlotRender) (fade : Nat × Nat) : List Nat :=
  [g.d + dLast * 2 ^ 32, g.air + g.seff * 2 ^ 36, x.ls, fade.1 + fade.2 * 2 ^ 2]

/-- A tap's gain at the last frame of input block n, in s1.34. -/
def gainLast (g : GeoTgt) (t : TapSlot) (n : Nat) : Int :=
  if n < g.first then t.gPrev else rhShift (gainRamp g t.gPrev t.g n 15) 16

/-- An object's delay at the last frame of input block n. -/
def delayLast (g : GeoTgt) (n : Nat) : Nat := if n < g.first then g.dPrev else (dopTau g n 15).toNat

/-- RND_OFADE as read. -/
def rndOfade (s : State) : Nat :=
  let x := rndShown s
  let w := nth (objRecord (rndGeo s) 0 x (fadeShown s x)) 3 0
  bits w 1 0 * 2 ^ 30 + bits w 12 2

/-- RND_ODLY as read: D at the last frame. -/
def rndOdly (s : State) : Nat := delayLast (rndGeo s) (rndBlock s)

/-- RND_TGAIN as read: bits [35:4] of the s1.34 value at the last frame. -/
def rndTgain (s : State) : Nat := code 36 (gainLast (rndGeo s) (rndTap s) (rndBlock s)) / 16

/-- RND_TDLY as read. -/
def rndTdly (s : State) : Nat :=
  let g := rndGeo s
  let t := rndTap s
  if rndBlock s < g.first then g.dPrev + t.oPrev else code 32 (tapTau g t (rndBlock s) 15)

/-- RND_TWIN as read. -/
def rndTwin (s : State) : Nat := nth (rndShown s).wins (getF s F.RND_SEL_SLOT) 0

/-- The window table entry of the selected tap slot. -/
def rndWent (s : State) : Nat :=
  nth (windowEntries s (seatOfSlot s (rndSlot s)) (rndSlot s) (blk s)) (getF s F.RND_SEL_SLOT) 0

/-- RND_TDESC as read: word 2 of the selected tap record, ASSIGNED at bit 31. -/
def rndTdesc (s : State) : Nat :=
  let w := nth (tapRecord (rndTap s) 0 0 (rndWent s)) 2 0
  bits w 11 11 * 2 ^ 31 + bits w 28 16 * 2 ^ 16 + bits w 10 0

end Sys2Proof.Machine
end

