-- ==== Sys2Proof/Machine/Speaker.lean ====
section
/-! DEFINITION. The two speaker stages and egress's hold on the output blocks (spec/08_speaker_processing.md R190 to R216;
spec/03_pattern.md R79, R80, R84; spec/04_runner_table.md R105). -/

namespace Sys2Proof.Machine

/-! ### Stage A: gain and scaling (R192, R194, R212) -/

/-- The seats whose words stage A adds. -/
def sumSeats (s : State) : List Nat := List.range (if onFallback s then 15 else 16)

/-- The sum S of a channel's partial sums written in block t (R192), in 2^-55. -/
def chanSum (s : State) (t c : Nat) : List Int :=
  (List.range 16).map (fun j =>
    satS 72 ((sumSeats s).foldl (fun a q => a + sx 72 (rdWord72 s poolBase (psumWord t q c + j))) 0))

/-- a_c of a channel from the counts written in block t. -/
def chanActive (s : State) (t c : Nat) : Nat :=
  (sumSeats s).foldl (fun a q => a + rdWord72 s poolBase (countWord t q c) % 65536) 0

/-- s_b = 1 / max(1, a_c) in u1.34. -/
def scaleOf (active : Nat) : Nat := (rh (2 ^ 34) (max 1 active)).toNat

/-- g_as at frame k as a fraction of 2^-34: beta s[k] + (1 - beta) (R212). -/
def scaleGain (beta prev next k : Nat) : Frac :=
  let s16 : Int := 16 * prev + (k + 1) * ((next : Int) - prev)
  ⟨beta * s16 + (1024 - (beta : Int)) * 16 * 2 ^ 34, 16384⟩

/-- The keys of g_trim and g_master of a channel; none stands for 1.0. -/
def chanGains (c : Nat) : Option Nat × Option Nat :=
  if c < 1024 then (some (gainKey 0 c), some (gainKey 3 0))
  else if c < 1280 then (some (gainKey 1 (c - 1024)), some (gainKey 3 ((c - 1024) / 32 + 1)))
  else (none, none)

/-- g of R194 at frame k of input block n, in s1.34. -/
def stageGain (s : State) (c n k prev next : Nat) : Int :=
  let v := fun (o : Option Nat) => match o with
    | some key => gainVal s key n k
    | none => (⟨2 ^ 34, 1⟩ : Frac)
  let t := v (chanGains c).1
  let m := v (chanGains c).2
  let a := scaleGain (ascBeta s.asc n k) prev next k
  satS 36 (rh (t.num * m.num * a.num) (t.den * m.den * a.den * 2 ^ 68))

/-! ### Room correction (R198 to R203) -/

/-- The weight w of a crossfade at block t, in u1.16: RH of min(1, (t - t0 + 1)/XF) (R203). -/
def xfWeight (t t0 len : Nat) : Nat :=
  if t < t0 then 0 else if len ≤ t - t0 + 1 then 65536 else (rh ((t - t0 + 1) * 65536 : Nat) len).toNat

/-- The coefficient a product uses: c_old + w (c_new - c_old), RH to its format (R203). -/
def mixTap (w : Nat) (o n : Int) : Int := rhShift (o * 65536 + w * (n - o)) 16

/-- Taps an output's ladder covers, as the Pattern checks them (R198). -/
def ladderCover (ladder : Nat) : Nat := if ladder = 0 then 0 else ladderTaps ladder

/-- The weight of a crossfade that a partition takes in block t, as a fraction (R203). -/
def partWeight (c : CoefSet) (t : Nat) : Nat × Nat :=
  match c.xf with
  | none => (0, 1)
  | some (first, len) => if t < first + 3 then (0, 1) else (min (t - (first + 3) + 1) len, len)

/-- The output segment whose products are formed in block t, for partitions of a period in blocks whose phase is 0 in t: the
one after the segment that stage A has at that phase (R199). -/
def segmentOf (per t : Nat) : Nat := t / per - 2 / per

/-- The 2P samples of the PEQ output from frame lo on, with hist newest first from frame `last` on back; frames before
the line start count as zero (R199). -/
def segmentSamples (hist : List Int) (last : Nat) (lo : Int) (len : Nat) : List Int :=
  (List.range len).map (fun k =>
    let f : Int := lo + k
    if f < 0 ∨ (last : Int) < f then 0 else nth hist (last - f.toNat) 0)

/-- The partitions of pair i in block t, after stage A has taken input block t - 3: where the phase is 0 the spectrum of the
segment's input and, from it and the one before, the segment's output (R199 to R203). -/
def pairPartition (c : CoefSet) (ladder t i : Nat) (z : ChanRender) : ChanRender :=
  let per := 2 ^ i
  if t % per != 0 then z
  else
    let p := pairTaps i
    let a := segmentOf per t
    let x := forward i 3 (segmentSamples z.hist (16 * (t - 3) + 15) (((a : Int) - 3) * p) (2 * p))
    let older := aGet (fun _ => []) z.spectra (2 * i + (a + 1) % 2)
    let w := partWeight c t
    let coef := fun (j : Nat) => mixSpec w.1 w.2 (specOf p (nth c.specs j [])) (specOf p (nth c.stagingSpecs j []))
    let terms := (specOf p x, coef (2 * i)) ::
      (if 2 * i + 1 < partCount ladder then [(specOf p older, coef (2 * i + 1))] else [])
    { z with spectra := aSet (fun _ => []) z.spectra (2 * i + a % 2) x,
             parts := aSet (fun _ => []) z.parts (2 * i + a % 2) (inverse i (pairProducts terms p)) }

/-- All partitions of a ladder in block t. -/
def partitions (c : CoefSet) (ladder t : Nat) (z : ChanRender) : ChanRender :=
  (List.range (pairCount ladder)).foldl (fun z i => pairPartition c ladder t i z) z

/-- What the partitions add to frame k of input block n, in 2^-55. -/
def partSum (ladder n k : Nat) (z : ChanRender) : Int :=
  (List.range (pairCount ladder)).foldl (fun a i =>
    let per := 2 ^ i
    a + nth (aGet (fun _ => []) z.parts (2 * i + n / per % 2)) (16 * (n % per) + k) 0) 0

/-- The direct section at frame k of input block n, in 2^-55, from the PEQ output with the newest first: hist holds the
frames of block n and earlier ones (R199, R203). -/
def directOut (c : CoefSet) (n k : Nat) (hist : List Int) : Int :=
  let x := hist.drop (15 - k)
  let w := match c.xf with
    | none => 0
    | some (first, len) => xfWeight (n + 3) (first + 3) len
  rhShift ((List.range 32).foldl (fun a i => a + mixTap w (nth c.taps i 0) (nth c.staging i 0) * nth x i 0) (0 : Int)) 9

/-! ### Stage A of one channel -/

/-- Samples that an alignment line holds (R204). -/
def lineLen : Nat := 8192

/-- What stage A reports of one channel. -/
structure StageA where
  st : ChanRender
  /-- The samples for stage B, and the bass send. -/
  xs : List Int
  bass : Option (List Int)
  inSat : Nat
  rcSat : Nat
deriving DecidableEq, Repr

/-- Stage A on input block n of one channel, in block n + 3 (R193 to R199). -/
def stageA (s : State) (n q c : Nat) : StageA :=
  let t := n + 3
  let z := chanOf s c
  let act := chanActive s (t - 1) c
  let next := scaleOf act
  let sums := chanSum s (t - 1) c
  let raw := (List.range 16).map (fun k => rhShift (nth sums k 0 * stageGain s c n k z.scale next) 58)
  let xs := raw.map (satS 36)
  let bad := (raw.filter (fun v => satS 36 v != v)).length
  let z := { z with scale := next, active := act }
  if 1024 ≤ c then ⟨z, xs, none, bad, 0⟩
  else
    let on : Bool := getL s (F.VSPK_CCFG_SIL_EN c) == 1
    let quiet := on && belowThr (getL s (F.VSPK_CSIL_THR c)) xs
    let cntr := silNext quiet z.silCount
    let silA := z.silA && quiet
    let hush : Bool := on && (silA || silHold s (getL s (F.VSPK_CSIL_HOLD c)) ≤ cntr)
    let rec_ := (livePat s).outputs.find? (fun o => o.id == c)
    let bm : Bool := bit ((rec_.map (fun o => o.flags)).getD 0) 0
    let xo := peqOf s (peqKey 2 c)
    let (main, zm, e1) := if bm then cascade (bandsAt xo z.xover n 0 2) xs else (xs, [], 0)
    let (sub, zs, e2) := if bm then cascade (bandsAt xo z.xover n 2 2) xs else ([], [], 0)
    let (ys, zp, e3) := cascade (bandsAt (peqOf s (peqKey 1 c)) z.peq n 0 16) main
    let ladder := (rec_.map (fun o => o.ladder)).getD 0
    let hist := if ladder = 0 then [] else (ys.reverse ++ z.hist).take (ladderCover ladder + 16)
    let coef := coefOf s c
    -- a gated MAC step forms no product; the partitions' CMUL and FFT steps are never gated (R107)
    let gate := hush && gatedBy s q (2048 + c)
    let rc := (List.range 16).map (fun k =>
      rhShift ((if gate then 0 else directOut coef n k hist) + partSum ladder n k z) 24)
    let z := partitions coef ladder t { z with hist := hist }
    let out := if ladder = 0 then ys else rc.map (satS 36)
    let e4 := if ladder = 0 then 0 else (rc.filter (fun v => satS 36 v != v)).length
    ⟨{ z with silCount := cntr, silA := silA, xover := if bm then zm ++ zs else z.xover, peq := zp,
              line := (out.reverse ++ z.line).take lineLen },
     out, if bm then some sub else none, bad + e1 + e2 + e3, e4⟩

/-- The aligned read: the 16 samples at 16(n + 1) - A for the block just written to the line, which holds the sample of an MSI
at its place modulo 8,192 and which the read follows (R204). -/
def alignedRead (line : List Int) (align : Nat) : List Int :=
  (List.range 16).map (fun i => nth line ((align + 15 - i) % lineLen) 0)

/-! ### Stage B: limiter, clamp, dither (R206 to R210) -/

/-- The threshold T in s4.31, rounded down (R206). -/
def limThr (thr : Nat) : Int := expFix (-(ln10Fix * thr) / 200) / 2 ^ 89

/-- The release coefficient rho in u0.34 (R206). -/
def limRho (fs rel : Nat) : Int := fixTo 34 (fixOne - expFix (-(fixOne * 1000 / ((rel * fs : Nat) : Int))))

/-- The required gain of a sample in u1.34, rounded down (R206). -/
def reqGain (t x : Int) : Int := if (x.natAbs : Int) ≤ t then 2 ^ 34 else t * 2 ^ 34 / x.natAbs

/-- The gain of a frame from the one before and the requirements of it and the next 15 frames (R207). -/
def limGain (g rho : Int) (reqs : List Int) : Int :=
  let a := (List.range 16).foldl (fun m k => min m ((k * g + nth reqs k (2 ^ 34)) / ((k : Int) + 1))) (nth reqs 0 (2 ^ 34))
  let r := g + (2 ^ 34 - g) * rho / 2 ^ 34
  min a r

/-- Frames through the limiter and the clamp: samples, gain after, least gain, samples the clamp changed by more than 1. -/
def limRun (t rho : Int) : Nat → Int → List Int → List Int × Int × Int × Nat
  | 0, g, _ => ([], g, 2 ^ 34, 0)
  | n + 1, g, xs =>
    let g' := limGain g rho ((xs.take 16).map (reqGain t))
    let y := satS 36 (rhShift (xs.headD 0 * g') 34)
    let v := clampI (-t) t y
    let (ys, gl, gm, c) := limRun t rho n g' xs.tail
    (v :: ys, gl, min g' gm, c + b2n (decide (1 < (y - v).natAbs)))

/-- One step of the dither LFSR (R210). -/
def ditherStep (x : Nat) : Nat :=
  (2 * x) % 2 ^ 32 + (b2n (bit x 31) ^^^ b2n (bit x 21) ^^^ b2n (bit x 1) ^^^ b2n (bit x 0))

/-- The dither of n frames in 2^-32 of the LSB, and the register after them. -/
def ditherRun : Nat → Nat → List Int × Nat
  | 0, x => ([], x)
  | n + 1, x =>
    let a := ditherStep x
    let b := ditherStep a
    let (r, z) := ditherRun n b
    (((a : Int) + b - 2 ^ 32) :: r, z)

/-- A linear fade of a block: down with 1 - (k + 1)/16, up with (k + 1)/16 (R205). -/
def fadeDown (xs : List Int) : List Int := xs.zipIdx.map (fun p => fade p.1 (15 - p.2) 16)
/-- The rising fade. -/
def fadeUp (xs : List Int) : List Int := xs.zipIdx.map (fun p => fade p.1 (p.2 + 1) 16)

/-- The bass-send sum of a bus for the block that stage B takes, in s4.31 (R196). -/
def bassSum (s : State) (t m j : Nat) : Int :=
  rhShift ((sumSeats s).foldl (fun a q => a + sx 72 (rdWord72 s poolBase (bassWord t m q + j))) 0) 24

/-- Stage B of one channel on input block n, in block n + 4, from the samples taken before and the look-ahead; `moved` says
that the alignment delay changes at this boundary. -/
def stageB (s : State) (n c : Nat) (z : ChanRender) (silent : Bool) (look : List Int) (moved : Bool) :
    ChanRender × Int × Nat × Nat :=
  let t := n + 4
  let x0 := (List.range 16).map (fun j => nth z.ready j 0)
  let raw := if 1280 ≤ c then (List.range 16).map (fun j => nth x0 j 0 + bassSum s (t - 1) (c - 1280) j) else x0
  let x := raw.map (satS 36)
  let bass := (raw.filter (fun v => satS 36 v != v)).length
  let lim : Bool := getL s (F.VSPK_CCFG_LIM_EN c) == 1
  let thr := if lim then limThr (getL s (F.VSPK_CLIM_THR c)) else 2 ^ 35 - 1
  let (ys, g, gm, clips) := if lim then
      limRun thr (limRho (fsInt s) (getL s (F.VSPK_CLIM_REL c))) 16 z.g (x ++ look)
    else (x, (2 ^ 34 : Int), (2 ^ 34 : Int), 0)
  let (run, lf) := ditherRun 16 z.lfsr
  let dith := if getL s (F.VSPK_CCFG_DITHER c) = 1 then run else List.replicate 16 0
  -- a change during the fade-in leaves the block at zero (R205)
  let ys' := if moved then (if z.fadeIn then ys.map (fun _ => 0) else fadeDown ys) else if z.fadeIn then fadeUp ys else ys
  ({ z with g := g.toNat, lfsr := lf, fadeIn := moved, out := { xs := ys', dither := dith, silent := silent, fading := false } }, gm, clips, bass)

/-! ### A block of the speaker stages -/

/-- The channels that a seat carries and that are present (R190). -/
def seatChans (s : State) (q : Nat) : List Nat :=
  let p := livePat s
  let fb := onFallback s
  ((p.outputs.map (fun (o : OutRec) => o.id)).mergeSort (· ≤ ·) ++ (List.range 320).map (fun i => 1024 + i)).filter (fun c =>
    channelPresent p c && seatOfChannel p fb c == q)

/-- One channel's stages in block t; the bass send goes to its bus of SPK_CCFG.BM_BUS. -/
def chanStages (t q c : Nat) (x : State × Tbl (List Int) × Bool) : State × Tbl (List Int) × Bool :=
  let s := x.1
  let was := chanOf s c
  let a := if rendered s (t - 3) then stageA s (t - 3) q c
    else ⟨{ was with silA := false }, List.replicate 16 0, none, 0, 0⟩
  let want := if c < 1024 then getL s (F.VSPK_CALIGN_ALIGN c) else 0
  let moved := c < 1024 && want != was.align
  let z := { a.st with align := want }
  let line := if rendered s (t - 3) then z.line else (List.replicate 16 (0 : Int) ++ z.line).take lineLen
  let look := if c < 1024 then alignedRead line want else a.xs
  let (z, gm, clips, bass) := if rendered s (t - 4) then stageB s (t - 4) c { z with line := line } was.silA look moved
    else ({ z with line := line, out := OutBlk.zero, fadeIn := moved }, (2 ^ 34 : Int), 0, 0)
  let z := { z with ready := look }
  let s := chanMod c (fun _ => z) s
  let s := if a.inSat = 0 then s else raise .spkInSat c (cntAdd s R.SPK_SAT_CNT a.inSat)
  let s := if a.rcSat = 0 then s else raise .spkRcSat c (cntAdd s R.SPK_SAT_CNT a.rcSat)
  let s := if bass = 0 then s else raise .spkBassSat c (cntAdd s R.SPK_SAT_CNT bass)
  let s := if clips = 0 then s else raise .spkClip c (cntAdd s R.SPK_CLIP_CNT clips)
  let s := if c = getF s F.SPK_SEL_CH ∧ gm / 16 < rdN s (R.VSPK_CGRMIN c) then wrN s (R.VSPK_CGRMIN c) (gm / 16).toNat else s
  let bus := 1280 + getL s (F.VSPK_CCFG_BM_BUS c)
  let b := match a.bass with
    | some xs => aInsert x.2.1 bus ((List.range 16).map (fun j => nth (aGet (fun _ => []) x.2.1 bus) j 0 + nth xs j 0))
    | none => x.2.1
  (s, b, x.2.2 || decide (gm < 2 ^ 34))

/-- The pool words of a seat's bass-send sums of block t read zero (R196). -/
def bassClear (t q : Nat) (s : State) : State :=
  let base := bassWord t 0 0
  { s with mem := s.mem.filter (fun c =>
      let w := (c.1 - poolBase) / 16
      !(poolBase ≤ c.1 && base ≤ w && w < base + 16384 && (w - base) % 256 / 16 == q)) }

/-- The seat's bass-send sums of block t go to the pool (R196). -/
def bassWrite (t q : Nat) (b : Tbl (List Int)) (s : State) : State :=
  let s := bassClear t q s
  forEach b (fun p s => forNat 16 (fun j s =>
    wrWord72 s poolBase (bassWord t (p.1 - 1280) q + j) (code 72 (nth p.2 j 0 * 2 ^ 24))) s) s

/-- The spectra and results of the partitions whose phase is 0 in block t, which the seat does not compute, count as zero
(R105). -/
def partsIdle (ladder t : Nat) (z : ChanRender) : ChanRender :=
  (List.range (pairCount ladder)).foldl (fun z i =>
    let per := 2 ^ i
    if t % per != 0 then z
    else
      let k := 2 * i + segmentOf per t % 2
      { z with spectra := aSet (fun _ => []) z.spectra k [], parts := aSet (fun _ => []) z.parts k [] }) z

/-- A channel in block t, whose speaker-stage steps its seat does not execute: results count as zero, states keep their last
written values, and the dither registers go on (R105, R210, R217). -/
def chanIdle (ladder t : Nat) (z : ChanRender) : ChanRender :=
  let zero := List.replicate 16 (0 : Int)
  let z := partsIdle ladder t z
  { z with hist := if z.hist.isEmpty then [] else (zero ++ z.hist).take z.hist.length,
           line := (zero ++ z.line).take lineLen, ready := zero, active := 0, silA := false,
           lfsr := (ditherRun 16 z.lfsr).2, out := OutBlk.zero }

/-- A seat's speaker stages in block t, and whether a limiter acted. -/
def seatSpeaker (t q : Nat) (s : State) : State × Bool :=
  if seatDead s q then
    (bassWrite t q [] (forEach (seatChans s q) (fun c s => chanMod c (chanIdle (ladderOf s c) t) s) s), false)
  else
    let (s, b, act) := (seatChans s q).foldl (fun x c => chanStages t q c x) (s, [], false)
    (bassWrite t q b s, act)

/-- Every seat's speaker stages in block t; a block in which any channel's gain is below 1 counts once (R208). -/
def speakerStages (t : Nat) (s : State) : State :=
  let (s, act) := (sumSeats s).foldl (fun x q =>
    let y := seatSpeaker t q x.1
    (y.1, x.2 || y.2)) (s, false)
  if act then cnt (setBit s F.SPK_STAT_LIM_ACT) R.SPK_LIM_CNT else s

/-! ### Egress (R29, R79, R80, R84, R105) -/

/-- What egress does with the samples of output block ob. -/
inductive EgressAct where
  | pass
  | zero
  | down
  | up
deriving DecidableEq, Repr

/-- A pending pour that replaces a running Pattern, or a pending stop, fades or zeroes output blocks (R80, R84). -/
def egressAct (s : State) (ob : Nat) : EgressAct :=
  if !running s then .zero
  else if s.pat.zeroFrom ≤ ob ∧ ob < s.pat.zeroTo then .zero
  else
    let pour := match s.pat.pour with
      | some p => if ob = p.cut then some EgressAct.zero else if ob + 1 = p.cut then some .down else none
      | none => none
    let stop := match s.pat.stop with
      | some k =>
        if !k.decided then none
        else if k.block + 6 ≤ ob then some EgressAct.zero else if ob = k.block + 5 then some .down else none
      | none => none
    match pour, stop with
    | some .zero, _ => .zero
    | _, some .zero => .zero
    | some a, _ => a
    | _, some a => a
    | none, none => if s.pat.fadeIn = some ob then .up else .pass

/-- The block that egress hands on. -/
def egressBlk (a : EgressAct) (b : OutBlk) : OutBlk :=
  match a with
  | .pass => b
  | .zero => OutBlk.zero
  | .down => { b with xs := fadeDown b.xs, fading := true }
  | .up => { b with xs := fadeUp b.xs, fading := true }

/-- The seat of a channel in the live Pattern. -/
def chanSeat (s : State) (c : Nat) : Nat := seatOfChannel (livePat s) (onFallback s) c

/-- At the strobe of block t the output blocks move on: what was in egress sounds, and stage B's result of block t - 1, output
block t + 1, enters egress.  A seat that overran fades in with its next clean block (R105). -/
def rotateOut (t : Nat) (s : State) : State :=
  let act := egressAct s (t + 1)
  let ups := (s.rnd.fadeWait.filter (fun x => x.2 == t)).map (fun x => x.1)
  let chans := s.rnd.chans.map (fun p =>
    let z := p.2
    let q := chanSeat s p.1
    let b := if ups.contains q then egressBlk .up z.out
      else if s.rnd.fadeOutSeats.contains q then egressBlk .down z.out else z.out
    (p.1, { z with play := z.egress, ret := z.out, egress := egressBlk act b }))
  { s with rnd := { s.rnd with
      chans := chans.filter (fun p => p.2 != ChanRender.init),
      fadeWait := s.rnd.fadeWait.filter (fun x => t < x.2), fadeOutSeats := [] } }

/-! ### Silence (R214 to R216) -/

/-- SILENCE_HOLD_REACHED: an object's (0 to 2,047) or an output's (2,048 + j) counter has reached its hold, and its flag is
set for the block just measured (R214, R215). -/
def execSilenceHoldReached (ch : Fin 3072) (s : State) : Out :=
  .next (if ch.val < 2048 then
      forEach (s.rnd.slots.map (fun p => p.1)) (fun h s =>
        let x := slotOf s h
        if x.obj = some ch.val ∧ getL s F.SPK_OSIL_CFG_EN = 1 ∧ silHold s (getL s F.SPK_OSIL_CFG_HOLD) ≤ x.silCount then
          slotMod h (fun x => { x with silent := true }) s
        else s) s
    else
      let c := ch.val - 2048
      if getL s (F.VSPK_CCFG_SIL_EN c) = 1 ∧ silHold s (getL s (F.VSPK_CSIL_HOLD c)) ≤ (chanOf s c).silCount then
        chanMod c (fun z => { z with silA := true }) s
      else s)

/-- SPK_OSILr as read: the flags of objects 32r to 32r + 31. -/
def osilWord (s : State) (r : Nat) : Nat :=
  (List.range 32).foldl (fun a i =>
    if s.rnd.slots.any (fun p => p.2.obj == some (32 * r + i) && p.2.silent) then a + 2 ^ i else a) 0

/-- SPK_SSILr as read: the flags of outputs 32r to 32r + 31. -/
def ssilWord (s : State) (r : Nat) : Nat :=
  (List.range 32).foldl (fun a i => if (chanOf s (32 * r + i)).silA then a + 2 ^ i else a) 0

/-- SPK_CCFG of a channel as read: BM is FLAGS[0] of the output in the live Pattern (R195, R219). -/
def ccfgWord (s : State) (c : Nat) : Nat :=
  let on : Bool := running s && (livePat s).outputs.any (fun (o : OutRec) => o.id == c && bit o.flags 0)
  (fput (rd s (R.VSPK_CCFG c)) 28 28 (b2n on)).toNat

/-- SPK_CSTAT of a channel as read. -/
def cstatWord (s : State) (c : Nat) : Nat :=
  let z := chanOf s c
  let phys : Bool := c < 1024
  let k := coefOf s c
  let xf : Bool := phys && (match k.xf with
    | some (first, _) => first + 3 ≤ blk s
    | none => false)
  b2n (phys && z.silA) * 2 ^ 31 + b2n xf * 2 ^ 30 + (if phys then k.live * 2 ^ 29 + ladderOf s c * 2 ^ 24 else 0) +
    min z.active 65535

/-! ### Pour (R83, R165, R187, R213, R217) -/

/-- The renderer at the pour of input block p: every slot bound to its own object, all states at their start. -/
def renderPour (p : Nat) (pat : Pattern) (s : State) : State :=
  let slots := (pat.objects.map (fun r => r.id)).foldl (fun t h => aInsert t h (slotFresh (some h) p 0)) []
  let chans := (List.range 1344).filter (channelPresent pat)
  let fresh := fun (c : Nat) =>
    let z := chanOf s c
    { ChanRender.init with lfsr := c + 1, align := if c < 1024 then getF s (F.VSPK_CALIGN_ALIGN c) else 0,
                           ret := z.ret, out := z.out, egress := z.egress, play := z.play }
  let keep := s.rnd.chans.filter (fun x => !chans.contains x.1)
  let old := keep.map (fun x => (x.1, { ChanRender.init with ret := x.2.ret, out := x.2.out, egress := x.2.egress, play := x.2.play }))
  { s with rnd := { s.rnd with
      slots := slots,
      chans := chans.foldl (fun t c => aInsert t c (fresh c)) (old.filter (fun x => x.2 != ChanRender.init)),
      zeroSeats := [], fadeWait := [], prevSlots := [], prevChans := [], prevGeo := [], lineWas := [], bedless := [], fadeOutSeats := [], deadSeats := [] } }

end Sys2Proof.Machine
end

