-- ==== Sys2Proof/Machine/Tiles.lean ====
section
/-! DEFINITION. Tiles, seats and the spare: timing checks, overruns, losses, handovers, the fallback tables and shedding, and
the fault map's marks (spec/04_runner_table.md R103 to R109, spec/19_self_test_and_sparing.md R422, R428 to R432,
spec/03_pattern.md R91, R92, spec/01_architecture.md R42, R43). -/

namespace Sys2Proof.Machine

/-! ### Tiles and seats -/

/-- A tile's run record. -/
def tileRun (s : State) (t : Nat) : TileRun := aGet (fun _ => TileRun.init) s.seq.tiles t

/-- Change a tile's run record. -/
def tileMod (t : Nat) (f : TileRun → TileRun) (s : State) : State :=
  { s with seq := { s.seq with tiles := aMod (fun _ => TileRun.init) s.seq.tiles t f } }

/-- SEQ_TSTAT.STATE codes: 0 IDLE, 1 SEAT, 2 SPARE, 3 LOADING, 4 SWEEP, 5 TESTING, 6 UNUSABLE. -/
def tileState (s : State) (t : Nat) : Nat := getF s (F.SEQ_TSTAT_STATE t)

/-- Set a tile's state. -/
def setTile (t st : Nat) (s : State) : State := setF s (F.SEQ_TSTAT_STATE t) st

/-- The seat a tile occupies. -/
def tileSeat (s : State) (t : Nat) : Option Nat :=
  if tileState s t = 1 then some (getF s (F.SEQ_TSTAT_SEAT t)) else none

/-- A tile is usable: the fault map does not mark it. -/
def tileUsable (s : State) (t : Nat) : Bool := !bit (getF s F.BST_MAP_MAP) t

/-- Usable tiles in ascending number. -/
def usableTiles (s : State) : List Nat := (List.range 17).filter (tileUsable s)

/-- A seat takes a tile, which then runs that seat's table in the bank given. -/
def seatTile (fb : Bool) (q t bank : Nat) (s : State) : State :=
  let s := if fb then setF (setF s (F.SEQ_FSEAT_VALID q) 1) (F.SEQ_FSEAT_TILE q) t
    else setF (setF s (F.SEQ_SEAT_VALID q) 1) (F.SEQ_SEAT_TILE q) t
  setF (setF (setF (setTile t 1 s) (F.SEQ_TSTAT_BANK t) bank) (F.SEQ_TSTAT_FB t) (b2n fb)) (F.SEQ_TSTAT_SEAT t) q

/-- Show the spare tile. -/
def showSpare (t : Option Nat) (s : State) : State :=
  match t with
  | some t => setF (setF s F.SEQ_SPARE_PRESENT 1) F.SEQ_SPARE_SPARE t
  | none => setF (setF s F.SEQ_SPARE_PRESENT 0) F.SEQ_SPARE_SPARE 0

/-- Show how many tiles the map leaves. -/
def showUsable (s : State) : State := setF s F.SEQ_SPARE_USABLE (usableTiles s).length

/-- No spare tile is left (R431). -/
def noSpare (s : State) : State := if getF s F.SEQ_SPARE_PRESENT = 0 then raise .bstNoSpare 0 s else s

/-- Mark a region unusable in the map in use and, within 1 s, in NVM (R432, R433). -/
def markRegion (r : Nat) (s : State) : State :=
  let s := setF s F.BST_MAP_MAP (getF s F.BST_MAP_MAP ||| 2 ^ r)
  let s := setBit { s with bst := { s.bst with mapWrite := some ((s.bst.mapWrite.getD (getF s F.BST_NVMAP_MAP)) ||| 2 ^ r) } } F.BST_STAT_MARKED
  if r < 17 then showUsable (setTile r 6 s) else s

/-- All seats lose their tiles. -/
def clearSeats (s : State) : State :=
  let s := forNat 16 (fun q s => wrN s (R.SEQ_SEAT q) 0) s
  let s := forNat 15 (fun q s => wrN s (R.SEQ_FSEAT q) 0) s
  forNat 17 (fun t s => if tileUsable s t then setF s (F.SEQ_TSTAT_STATE t) 0 else setTile t 6 s) s

/-- Seats for the usable tiles, in ascending number: primary seats and the spare, or fallback seats (R422). -/
def assignSeats (s : State) : State :=
  let us := usableTiles s
  let s := showUsable (clearSeats s)
  let fb : Bool := us.length < 16
  let s := us.zipIdx.foldl (fun s p =>
    if p.2 < (if fb then 15 else 16) then seatTile fb p.2 p.1 (getF s (F.SEQ_TSTAT_BANK p.1)) s
    else setTile p.1 2 s) s
  showSpare (if fb then none else us[16]?) s

/-- The two lowest usable geometry units work; the third is the spare (R422). -/
def assignGeo (s : State) : State :=
  match (List.range 3).filter (fun u => !bit (getF s F.BST_MAP_MAP) (17 + u)) with
  | a :: b :: c :: _ => setF (setF (setF (setF s F.GEO_UNITS_WA a) F.GEO_UNITS_WB b) F.GEO_UNITS_SPARE c) F.GEO_UNITS_SPARE_PRESENT 1
  | [a, b] => setF (setF (setF s F.GEO_UNITS_WA a) F.GEO_UNITS_WB b) F.GEO_UNITS_SPARE_PRESENT 0
  | [a] => setF (setF (setF s F.GEO_UNITS_WA a) F.GEO_UNITS_WB a) F.GEO_UNITS_SPARE_PRESENT 0
  | [] => dacFatal (raise .bstGeoNone 0 (setF s F.GEO_UNITS_SPARE_PRESENT 0))

/-! ### Timing checks (R103 to R105) -/

/-- A handover one of whose tiles a FAULT or an uncorrectable error strikes during the sweep. -/
def struckBy (t : Nat) (h : Handover) : Handover :=
  if h.swept && (h.src == t || h.dst == t) then { h with struck := true } else h

/-- A FAULT or an uncorrectable error strikes a tile during the sweep (R109), as late as the strobe that ends it. -/
def hoStrike (t : Nat) (s : State) : State :=
  { s with seq := { s.seq with ho := s.seq.ho.map (struckBy t),
                               hoUndo := s.seq.hoUndo.map (fun u => { u with h := struckBy t u.h }) } }

/-- A seat's outputs fade in with the block that enters egress at the strobe of block t. -/
def fadeAt (q t : Nat) (s : State) : State :=
  { s with rnd := { s.rnd with fadeWait := (q, t) :: s.rnd.fadeWait.filter (fun x => x.1 != q) } }

/-- The expanded steps of a tile's run with their start cycles. -/
def ranSteps (run : RanTab) : List Timed :=
  runTable (decodeAll (calRows run.r96) run.tab) (seatOfIndex run.ix) run.block

/-- An AT step of the run starts after its target (R104). -/
def atLate (run : RanTab) : Bool :=
  (ranSteps run).any (fun t => match t.ex.step with
    | .op 0x03 _ _ a .. => decide (bits a 19 0 < t.start)
    | _ => false)

/-- A missed access of a tile at tile memory: a read leaves zero words at its destination (R103). -/
def slotMissed (t : Nat) (a : Access) (s : State) : State :=
  if a.write then s else wrBytes s (tileBase t + 16 * a.loc) (List.replicate (16 * a.cnt) 0)

/-- The line of a missed write to the delay-line region. -/
def lineOf? (a : Access) : Option Nat := if a.write && decide (a.daddr < 2 ^ 26) then some (a.daddr / 32768) else none

/-- What missed accesses of a run take from a slot's line. -/
def lineLost (run : List Timed) (missed : List Access) (h : Nat) : LineLost :=
  { taps := (lineReads run h).zipIdx.filterMap (fun x => if missed.any (fun a => windowed a && a.daddr == x.1.daddr) then some x.2 else none),
    write := missed.any (fun a => lineOf? a == some h) }

/-- The pair stage of a block that ends is that of a seat whose tile missed some of its accesses: the windows read as zero and the
lines' writes are dropped, from the states that the block began with (R103).  What the block has counted and reported stays. -/
def pairRedo (run : RanTab) (missed : List Access) (s : State) : State :=
  let steps := ranSteps run
  let q := seatOfIndex run.ix
  let n := run.block - 2
  let mine := (s.rnd.prevSlots.map (fun p => p.1)).filter (fun h => seatOfSlot s h == q)
  let hit := mine.any (fun h => lineLost steps missed h != LineLost.none)
  if !hit || s.rnd.lineWas.isEmpty then s
  else
    let old := forEach mine (lineRestore n)
      { s with rnd := { s.rnd with slots := s.rnd.prevSlots }, geo := { s.geo with objs := s.rnd.prevGeo } }
    let new := seatPair n q (routeGains s 2 n) (routeGains s 1 n) (lineLost steps missed) old
    let keep := fun (t : Tbl SlotRender) (h : Nat) =>
      let x := aGet (fun _ => SlotRender.init) new.rnd.slots h
      if (slotOf s h).obj = x.obj ∧ (slotOf s h).since = x.since then aSet (fun _ => SlotRender.init) t h x else t
    { s with mem := new.mem, rnd := { s.rnd with slots := mine.foldl keep s.rnd.slots, bedless := new.rnd.bedless } }

/-- The accesses that a run of a tile missed, by their ordinals in it. -/
def missedOf (run : RanTab) (is : List Nat) : List Access := is.filterMap (fun i => (accesses (ranSteps run))[i]?)

/-- The accesses that a tile has not issued when its block is abandoned: steps execute in order, so they are its last ones
(R94, R105). -/
def unissued (run : RanTab) (claims : Nat) : List Access :=
  let l := accesses (ranSteps run)
  l.drop (l.length - claims)

/-- What the strobe finds of a tile's run of the block before: END at the cycle that its steps give, or at another one where a
fault in the tile moves it, slot misses and late AT steps. -/
def tileCheck (inp : StrobeIn) (t : Nat) (s : State) : State :=
  match aGet (fun _ => none) (s.seq.ran.map (fun x => (x.1, some x.2))) t with
  | none => s
  | some run =>
    let texp := run.texp
    let r := tileRun s t
    let endAt := ((inp.ends.find? (fun e => e.1 == t)).map (fun e => e.2)).getD ((endOf (ranSteps run)).getD texp)
    let missed := inp.slotMiss.filter (fun e => e.1 == t)
    let misses := missed.length
    let drift : Bool := endAt != texp
    let s := if r.overrun || r.stopped then s
      else
        let s := setF s (F.SEQ_TSTAT_LAST_END t) endAt
        let s := setF s (F.SEQ_TMAX_MAX_END t) (max (getF s (F.SEQ_TMAX_MAX_END t)) endAt)
        let s := if deadlineOf run.r96 * getF s F.SEQ_CFG_WARN_PCT < 100 * endAt then raise .seqMargin t s else s
        if drift then hoStrike t (raise .seqDrift t (cnt s R.SEQ_DRIFT_CNT)) else s
    let s := if misses = 0 then s else 
      let lost := missedOf run (missed.map (fun e => e.2))
      hoStrike t (raise .seqSlotMiss t (cntAdd (pairRedo run lost (forEach lost (slotMissed t) s)) R.SEQ_MISS_CNT misses))
    let s := if inp.atMiss.contains t || (atLate run && !r.overrun && !r.stopped) then hoStrike t (raise .seqAtMiss t s) else s
    tileMod t (fun r => { r with
      bad := if r.overrun then r.bad else if drift then r.bad + 1 else 0,
      missed := if r.overrun then r.missed else if misses = 0 then 0 else r.missed + 1,
      overrun := false }) s

/-- A slot whose seat abandons the block: where the steps of the object PEQ, or of the object stage, had not executed, which
the command does not say, their results count as zero and their states keep their last values (R105, R187). -/
def slotAbandon (h : Nat) (s : State) : State :=
  let (f, s) := freeNat s 2
  let old := aGet (fun _ => SlotRender.init) s.rnd.prevSlots h
  slotMod h (fun x =>
    -- a slot that took a new object in this block has no earlier state of it
    let old := if old.obj = x.obj ∧ old.since = x.since then old else slotFresh x.obj 0 0
    let x := if bit f 0 then x else { x with staged := List.replicate 16 0, peq := old.peq }
    if bit f 1 then x else { x with air := old.air, allPass := old.allPass }) s

/-- A channel whose seat abandons block b: egress zeroes its block; where stage A had not executed its results are zero, and
stage B, where it had, saw a look-ahead of zero (R105, R217). -/
def chanAbandon (b c : Nat) (s : State) : State :=
  let (f, s) := freeNat s 2
  let old := aGet (fun _ => ChanRender.init) s.rnd.prevChans c
  let look := List.replicate 16 (0 : Int)
  chanMod c (fun z =>
    let a := if bit f 0 then z else chanIdle (ladderOf s c) b old
    let g := if bit f 1 && rendered s (b - 4) then (stageB s (b - 4) c old z.out.silent look false).1.g else old.g
    { a with g := g, lfsr := z.lfsr, align := z.align, fadeIn := false, ready := look, out := OutBlk.zero }) s

/-- TILE_OVERRUN: END has not been executed when the next strobe comes (R105).  The operands name the channels whose partial
sums the seat had not written and the DRAM claims it had not issued. -/
def tileOverrun (t : Nat) (unwritten : List Nat) (claims : Nat) (s : State) : State :=
  match tileSeat s t with
  | none => s
  | some q =>
    let b := blk s
    let s := setF (raise .seqOverrun t (cnt s R.SEQ_OVR_CNT)) (F.SEQ_TMAX_MAX_END t) 0xFFFFF
    let s := hoStrike t (if claims = 0 then s else raise .seqSlotMiss t (cntAdd s R.SEQ_MISS_CNT claims))
    -- claims not issued: a read's destination is zero, a line's write is dropped
    let gone := match aGet (fun _ => none) (s.seq.ran.map (fun x => (x.1, some x.2))) t with
      | some run => unissued run claims
      | none => []
    let s := forEach (gone.filterMap lineOf?).eraseDups (lineRestore (b - 2)) (forEach gone (slotMissed t) s)
    -- the seat's bed contributions count as zero for the block (R238)
    let bare := aGet (fun _ => ([], [])) s.rnd.bedless q
    let s := forEach unwritten (fun c s =>
      wrWord72 (forNat 16 (fun j s => wrWord72 s poolBase (psumWord b q c + j) 0) s) poolBase (countWord b q c) 0)
      (accStore b q bare.1 bare.2 s)
    let s := forEach ((s.rnd.slots.map (fun x => x.1)).filter (fun h => seatOfSlot s h == q)) slotAbandon s
    let s := forEach (seatChans s q) (chanAbandon b) s
    -- the next block's stage B has no input either; the block after it is clean
    let s := fadeAt q (b + 3) s
    tileMod t (fun r => { r with bad := r.bad + 1, overrun := true,
                                 missed := if claims = 0 then 0 else r.missed + 1 }) s

/-- The meaning of TILE_OVERRUN. -/
def execTileOverrun (t : Fin 17) (unwritten : List Nat) (claims : Nat) (s : State) : Out :=
  .next (if running s then tileOverrun t.val (unwritten.filter (· < 1344)) claims s else s)

/-! ### Handovers (R108, R109) -/

/-- SEQ_HO_STAT of a handover. -/
def showHo (st : Nat) (h : Handover) (s : State) : State :=
  setF (setF (setF (setF (setF s F.SEQ_HO_STAT_STATE st) F.SEQ_HO_STAT_SEAT h.seat) F.SEQ_HO_STAT_FROM h.src)
    F.SEQ_HO_STAT_TO h.dst) F.SEQ_HO_STAT_REASON 0

/-- A handover begins: the spare loads. -/
def hoStart (h : Handover) (s : State) : State :=
  setTile h.dst 3 (showHo 1 h { s with seq := { s.seq with ho := some h } })

/-- Self-test's slice ends with a handover that does not happen (R425). -/
def sliceEnd (s : State) : State :=
  { setF (setF s F.BST_STATE_STATE 0) F.BST_STATE_REGION 0 with
    bst := { s.bst with slice := none, retest := false, held := [], lastEnd := blk s } }

/-- A handover ends without a switch in block b: the receiving tile is the spare again. -/
def hoAbort (reason b : Nat) (h : Handover) (s : State) : State :=
  let s := { s with seq := { s.seq with ho := none } }
  let s := setF (setF s F.SEQ_HO_STAT_STATE 4) F.SEQ_HO_STAT_REASON reason
  let s := raise .seqHoAbort h.src (if tileUsable s h.dst then setTile h.dst 2 s else s)
  let s := if h.test then sliceEnd s else s
  -- a handover cancelled by the move to the fallback tables is no recovery event of its own (R109, R211)
  if reason = 5 then s else recoverHandover b s

/-- SEQ_HANDOVER_GO: a host command, tested for LATE, BUSY and NO_SPARE in this order (log 272). -/
def seqHandoverGo (q : Nat) (s : State) : State :=
  let c := blk s
  let hb := ceil16 (rd64 s R.SEQ_HO_MSI_LO R.SEQ_HO_MSI_HI)
  let refuse := fun (r : Nat) => setF s F.SEQ_HO_STAT_REASON r
  match seatTileOf s (fbSeats s) q with
  | none => refuse 3
  | some t =>
    if hb < c + 34 then refuse 1
    else if s.seq.ho.isSome then refuse 2
    else if getF s F.SEQ_SPARE_PRESENT = 0 then refuse 3
    else hoStart { seat := q, src := t, dst := getF s F.SEQ_SPARE_SPARE, at_ := hb, cmd := c, test := false, loss := false,
                   swept := false, struck := false } s

/-- The meaning of SEQ_HANDOVER_GO. -/
def execSeqHandoverGo (via : Src) (q : Fin 16) (s : State) : Out :=
  .next (seqHandoverGo q.val (journalReg via R.SEQ_HO_CTL (BitVec.ofNat 32 (2 ^ 31 + q.val)) s))

/-- The table a seat runs. -/
def hoTable (s : State) (q : Nat) : RunnerTab := tableOf (livePat s) (if fbSeats s then 16 + q else q)

/-- Words of memory copied from one place to another. -/
def copyWords (dst src n : Nat) (s : State) : State := wrBytes s dst (rdBytes s src (16 * n))

/-- The seat's persistent region passes from the outgoing tile to the receiving one. -/
def hoCopy (h : Handover) (s : State) : State :=
  let tab := hoTable s h.seat
  copyWords (tileBase h.dst + 16 * tab.persistBase) (tileBase h.src + 16 * tab.persistBase) tab.persistLen s

/-- Steps i x 2,048 to before the next 2,048 of a table. -/
def chunkOf (tab : RunnerTab) (i : Nat) : List Nat := (tab.steps.drop (2048 * i)).take 2048

/-- The loading of the receiving tile in the blocks after the command: 2,048 steps of the outgoing tile's banks in a block,
or, for a lost tile, 2,048 steps of each bank from the DRAM copies of the live and staged tables (R108, R428). -/
def hoLoad (s : State) : State :=
  match s.seq.ho with
  | none => s
  | some h =>
    let i := blk s - h.cmd - 1
    if blk s ≤ h.cmd || 32 ≤ i then s
    else if h.loss then
      if 16 ≤ i then s
      else
        let ix := if fbSeats s then 16 + h.seat else h.seat
        let live := getF s (F.SEQ_TSTAT_BANK h.src)
        let s := writeSteps h.dst live (2048 * i) (chunkOf (hoTable s h.seat) i) s
        match s.pat.staged with
        | some p => if 4 < stg s then writeSteps h.dst (1 - live) (2048 * i) (chunkOf (tableOf p ix) i) s else s
        | none => s
    else copyWords (bankBase h.dst (i / 16) + 0x8000 * (i % 16)) (bankBase h.src (i / 16) + 0x8000 * (i % 16)) 2048 s

/-- The cell of the receiving tile that takes a write to a cell of the outgoing one: of its banks from the command on, of
the seat's persistent region during the sweep (R108). -/
def hoTwin (s : State) (c : Nat) : Option Nat :=
  match s.seq.ho with
  | none => none
  | some h =>
    let tab := hoTable s h.seat
    let lo := tileBase h.src + 16 * tab.persistBase
    if bankBase h.src 0 ≤ c ∧ c < bankBase h.src 0 + 0x100000 then some (bankBase h.dst 0 + (c - bankBase h.src 0))
    else if h.swept ∧ lo ≤ c ∧ c < lo + 16 * tab.persistLen then some (tileBase h.dst + (c - tileBase h.src))
    else none

/-- HANDOVER_SWEEP, in block h - 1. -/
def execHandoverSweep (s : State) : Out :=
  .next (match s.seq.ho with
    | none => s
    | some h =>
      if blk s + 1 < h.at_ || h.swept then s
      else
        let h := { h with swept := true }
        setTile h.dst 4 (setF (hoCopy h { s with seq := { s.seq with ho := some h } }) F.SEQ_HO_STAT_STATE 2))

/-- What a switch changes, before it does. -/
def hoMark (h : Handover) (s : State) : HoUndo :=
  let fb := fbSeats s
  let offs := [if fb then R.SEQ_FSEAT h.seat else R.SEQ_SEAT h.seat, R.SEQ_TSTAT h.src, R.SEQ_TSTAT h.dst, R.SEQ_TEXP h.src,
               R.SEQ_TEXP h.dst, R.SEQ_HO_STAT, R.SEQ_SPARE, R.BST_STATE]
  { h := h, regs := offs.map (fun o => (o, rd s o)), tiles := s.seq.tiles, slice := s.bst.slice }

/-- The switch is taken back: the outgoing tile keeps the seat, and the handover is as it was at the end of its sweep. -/
def hoTakeBack (u : HoUndo) (s : State) : State :=
  let s := forEach u.regs (fun p s => wr s p.1 p.2) s
  { s with seq := { s.seq with ho := some u.h, hoUndo := none }, bst := { s.bst with slice := u.slice } }

/-- The switch at the strobe of h.  Writes to the persistent region during the sweep have gone to both tiles, so the copy is
that of the strobe. -/
def hoSwitch (h : Handover) (s : State) : State :=
  let s := hoCopy h s
  let fb := fbSeats s
  let bank := getF s (F.SEQ_TSTAT_BANK h.src)
  let s := seatTile fb h.seat h.dst bank (setF s (F.SEQ_TEXP_END_CYCLE h.dst) (getF s (F.SEQ_TEXP_END_CYCLE h.src)))
  let s := setF (setF s (F.SEQ_TSTAT_SEAT h.src) 0) (F.SEQ_TEXP_END_CYCLE h.src) 0
  -- the strobe still judges the block that the outgoing tile has run
  let ran := fun (r : TileRun) => { TileRun.init with overrun := r.overrun, stopped := r.stopped }
  let s := tileMod h.dst (fun _ => TileRun.init) (tileMod h.src ran s)
  let s := setF { s with seq := { s.seq with ho := none } } F.SEQ_HO_STAT_STATE 3
  if h.loss then
    let s := noSpare (showSpare none (markRegion h.src s))
    setBit (fadeAt h.seat (h.at_ + 1) { s with rnd := { s.rnd with
      zeroSeats := s.rnd.zeroSeats.filter (· != h.seat) } }) F.SEQ_STAT_HO_DONE
  else if h.test then
    setF { showSpare none (setTile h.src 5 s) with bst := { s.bst with slice := some (h.src, h.at_) } } F.BST_STATE_STATE 3
  else showSpare (some h.src) (setTile h.src 2 s)

/-- HANDOVER_SWITCH, and HANDOVER_ABORT where a FAULT or an uncorrectable error struck a tile of it (R109).  Given before its
strobe, the switch stands unless that strobe finds such an error in the block of the sweep. -/
def execHandoverSwitch (s : State) : Out :=
  .next (match s.seq.ho with
    | none => s
    | some h =>
      if !due s h.at_ then s
      else if h.loss then hoSwitch h s
      else if h.struck then hoAbort 4 h.at_ h s
      else if h.at_ ≤ blk s then setBit (hoSwitch h s) F.SEQ_STAT_HO_DONE
      else
        let u := hoMark h s
        let s := hoSwitch h s
        { s with seq := { s.seq with hoUndo := some u } })

/-- The strobe has judged the block of a sweep: the handover that its switch ended is done, or it aborts where an error struck
the sweep (R109). -/
def hoSettle (u : HoUndo) (s : State) : State :=
  if u.h.struck then hoAbort 4 u.h.at_ u.h (hoTakeBack u s) else setBit s F.SEQ_STAT_HO_DONE

/-! ### Losses (R428, R430, R434) -/

/-- A tile slice stops without a result: the tested tile is the spare again (R434). -/
def sliceDrop (s : State) : State :=
  match s.bst.slice with
  | none => s
  | some (r, _) =>
    if r < 17 && tileState s r == 5 then
      raise .bstSliceAbort r (cnt (sliceEnd (showSpare (some r) (setTile r 2 s))) R.BST_ABORT_CNT)
    else s

/-- A staged Pattern in ARMING, ARMED or POUR_PENDING is discarded (R430). -/
def stagedDrop (s : State) : State :=
  if 4 ≤ stg s then
    setBit (patResult 6 (reasonCode .superseded) 0 (stagingEmpty (pourWithdraw s))) F.PAT_STAT_REFUSED
  else s

/-- Without a spare: the fallback tables at n + 17, or, while nothing runs, at once (R430). -/
def toFallback (t : Nat) (s : State) : State :=
  let s := noSpare (showSpare none (stagedDrop (markRegion t s)))
  if running s then { s with seq := { s.seq with fallbackAt := some (blk s + 17) } } else assignSeats s

/-- A seated tile is lost while a spare exists: the spare takes the seat at n + 18 (R428). -/
def lossHandover (t q : Nat) (s : State) : State :=
  let s := match s.seq.ho with
    | some h => hoAbort 4 (blk s) h s
    | none => s
  hoStart { seat := q, src := t, dst := getF s F.SEQ_SPARE_SPARE, at_ := blk s + 18, cmd := blk s, test := false,
            loss := true, swept := false, struck := false } (convToSeats s)

/-- The loss of a seated tile. -/
def seatLost (t q : Nat) (s : State) : State :=
  let dead : Bool := (tileRun s t).stopped
  let s := tileMod t (fun r => { r with lost := true }) s
  let s := if dead then { s with rnd := { s.rnd with zeroSeats := q :: s.rnd.zeroSeats.filter (· != q) } } else s
  if fbSeats s then
    let s := markRegion t s
    if running s then { s with seq := { s.seq with shedSeats := q :: s.seq.shedSeats } } else assignSeats s
  else
    let s := sliceDrop s
    if getF s F.SEQ_SPARE_PRESENT = 1 && tileUsable s (getF s F.SEQ_SPARE_SPARE) then
      (if running s then lossHandover t q s
       else
         let d := getF s F.SEQ_SPARE_SPARE
         let s := copyWords (bankBase d 0) (bankBase t 0) 65536 s
         noSpare (showSpare none (seatTile false q d (getF s (F.SEQ_TSTAT_BANK t)) (markRegion t s))))
    else toFallback t s

/-- A tile is lost: a seated one, the spare, or one under test. -/
def tileLost (t : Nat) (s : State) : State :=
  if (tileRun s t).lost || tileState s t = 6 then s
  else match tileSeat s t with
    | some q => seatLost t q s
    | none =>
      let s := match s.seq.ho with
        | some h => if h.dst = t then hoAbort 4 (blk s) h s else s
        | none => s
      let s := match s.bst.slice with
        | some (r, _) => if r = t then sliceEnd s else s
        | none => s
      let s := if getF s F.SEQ_SPARE_PRESENT = 1 ∧ getF s F.SEQ_SPARE_SPARE = t then convToSeats s else s
      noSpare (showSpare none (markRegion t s))

/-- A tile's misses have reached OVR_LIMIT. -/
def missLimit (s : State) (t : Nat) : Bool :=
  tileSeat s t != none && (getF s F.SEQ_CFG_OVR_LIMIT ≤ (tileRun s t).missed)

/-- What each tile runs in the block that begins (R104). -/
def ranNow (s : State) : State :=
  let l := (List.range 17).filterMap (fun t => (tileSeat s t).map (fun q =>
    (t, { ix := if fbSeats s then 16 + q else q, texp := getF s (F.SEQ_TEXP_END_CYCLE t), block := blk s,
          r96 := rate96 s, tab := { hoTable s q with steps := bankSteps s t (getF s (F.SEQ_TSTAT_BANK t)) } : RanTab })))
  { s with seq := { s.seq with ran := if running s then l else [] } }

/-- The checks of all tiles on the block that ends, of which a switch at this strobe is a part. -/
def tileChecks (inp : StrobeIn) (s : State) : State :=
  let s := forNat 17 (tileCheck inp) s
  match s.seq.hoUndo with
  | some u => hoSettle u { s with seq := { s.seq with hoUndo := none } }
  | none => s

/-- The strobe's checks of all tiles; a tile whose runner bank was struck, or whose slot misses reach the limit, is lost at
once (R428). -/
def seqStrobe (inp : StrobeIn) (s : State) : State :=
  let s := hoLoad (ranNow (tileChecks inp s))
  forNat 17 (fun t s =>
    if (tileRun s t).lost then s else if (tileRun s t).stopped || missLimit s t then tileLost t s else s) s

/-- TILE_FAIL: overruns or drifts in OVR_LIMIT consecutive blocks (R105). -/
def execTileFail (t : Fin 17) (s : State) : Out :=
  .next (if running s && tileSeat s t.val != none && !(tileRun s t.val).lost &&
      getF s F.SEQ_CFG_OVR_LIMIT ≤ (tileRun s t.val).bad then tileLost t.val (raise .seqTileFail t.val s)
    else s)

/-- An uncorrectable error in a runner bank stops its tile (R428). -/
def runnerStruck (t : Nat) (s : State) : State :=
  hoStrike t (if tileSeat s t = none then s else tileMod t (fun r => { r with stopped := true }) s)

/-! ### Shedding (R92) -/

/-- Rank of an object: its current priority, then its place: earlier in the SHED list is lower, unlisted IDs follow. -/
def shedRank (s : State) (o : Nat) : Nat :=
  let l := (livePat s).shedList
  let prio := match (objOf s o).cur with
    | some g => g.rcd.prio
    | none => 0
  let pos := match l.findIdx? (· == o) with
    | some i => i
    | none => l.length + o
  prio * 65536 + pos

/-- The object bound to a slot, as it will be after the bindings that await. -/
def boundObj (s : State) (h : Nat) : Option Nat :=
  let sl := slotOf s h
  match sl.rebind with
  | some (o, _) => o
  | none => sl.obj

/-- Taps of an object's record. -/
def tapsOf (s : State) (o : Nat) : Nat := ((objRec s o).map (fun r => r.taps)).getD 0

/-- An object is shed. -/
def shedObj (o : Nat) (s : State) : State :=
  setF (objMod o (fun x => { x with st := 3 }) s) F.PAT_SHED_OBJECTS (getF s F.PAT_SHED_OBJECTS + 1)

/-- The slot that a displaced object takes: the lowest-ranked bound object below it in a surviving seat, whose slot has
taps enough. -/
def shedVictim (s : State) (dead : List Nat) (d : Nat) : Option (Nat × Nat) :=
  let homes := s.rnd.slots.map (fun p => p.1)
  homes.foldl (fun m h =>
    match boundObj s h with
    | none => m
    | some v =>
      if dead.contains (seatOfSlot s h) || shedRank s d ≤ shedRank s v || tapsOf s h < tapsOf s d then m
      else match m with
        | none => some (h, v)
        | some (_, w) => if shedRank s v < shedRank s w then some (h, v) else m) none

/-- One displaced object takes a slot or is shed. -/
def shedPlace (dead : List Nat) (k d : Nat) (s : State) : State :=
  match shedVictim s dead d with
  | none => shedObj d s
  | some (h, v) => shedObj v (slotMod h (fun sl => { sl with rebind := some (some d, k) }) s)

/-- Fallback seats are vacated at the next boundary and their objects compete for the slots of the others. -/
def shedSeats (qs : List Nat) (s : State) : State :=
  let k := blk s
  let dead := qs ++ s.rnd.deadSeats
  let homes := (s.rnd.slots.map (fun p => p.1)).filter (fun h => qs.contains (seatOfSlot s h))
  let ds := (homes.filterMap (boundObj s)).mergeSort (fun a b => shedRank s b ≤ shedRank s a)
  let s := forEach homes (fun h s => slotMod h (fun sl => { sl with rebind := some (none, k) }) s) s
  let s := forEach ds (shedPlace dead k) s
  let s := forEach qs (fun q s => wrN s (R.SEQ_FSEAT q) 0) s
  let s := { s with rnd := { s.rnd with fadeOutSeats := qs ++ s.rnd.fadeOutSeats, deadSeats := dead } }
  raise .patShed 0 (setF s F.PAT_STATE_LIVE 3)

/-- The standby of this active unit is READY. -/
def standbyReady (s : State) : Bool := isActive s && flkUp s && s.flk.peerReady == 6

/-- The SHED ACTION: the unit yields to a READY standby, or sheds (R92). -/
def shedAction (qs : List Nat) (s : State) : State :=
  if (livePat s).shedYield && standbyReady s then { s with clm := { s.clm with yieldAt := some (blk s) } }
  else shedSeats qs s

/-- SHED_APPLY: at the boundary after a loss on the fallback tables. -/
def execShedApply (s : State) : Out :=
  .next (if s.seq.shedSeats.isEmpty then s
    else shedAction s.seq.shedSeats.reverse { s with seq := { s.seq with shedSeats := [] } })

/-! ### The fallback tables (R91, R430) -/

/-- An object's targets move to its fallback seat: slots, delays and hints stay, and gains ramp from 0 as after a pour
(R157, R168, R430). -/
def geoMove (g : GeoObj) : GeoObj :=
  let fromZero := fun (t : GeoTgt) => { t with
    slots := t.slots.map (fun x => { x with gPrev := 0, oPrev := x.o }), vPrev := [], bPrev := [], dPrev := t.d,
    cdPrev := 0, cwPrev := 0 }
  let silent := fun (t : GeoTgt) => { fromZero t with
    slots := t.slots.map (fun x => { x with gPrev := 0, g := 0, oPrev := x.o }), v := [], b := [], cd := 0, cw := 0 }
  { g with live := silent g.live, next := g.next.map fromZero }

/-- State in tile memory starts from zero at the strobe of block f; what lies in DRAM and in the pool, and the dither's
registers, go on. -/
def renderRestart (f : Nat) (s : State) : State :=
  let slot := fun (x : Nat × SlotRender) => (x.1, { x.2 with
    peq := [], staged := [], air := 0, allPass := [[], [], [], []], fade := 0, fadeN := 0, carrierOk := false })
  let chan := fun (x : Nat × ChanRender) => (x.1, { x.2 with
    xover := [], peq := [], parts := [], ready := [], scale := 2 ^ 34, active := 0, g := 2 ^ 34, silCount := 0, silA := false })
  { s with
    rnd := { s.rnd with slots := s.rnd.slots.map slot, chans := s.rnd.chans.map chan, zeroSeats := [],
                        fadeWait := (List.range 15).map (fun q => (q, f + 1)) },
    geo := { s.geo with objs := s.geo.objs.map (fun x => (x.1, geoMove x.2)) } }

/-- END cycles that the live tables' proofs state, and the rows they claim (R104, R102). -/
def showTables (p : Pattern) (s : State) : State :=
  let fb := fbSeats s
  let n := if fb then 15 else 16
  let s := forNat n (fun q s =>
    match seatTileOf s fb q with
    | some t => setF s (F.SEQ_TEXP_END_CYCLE t) (tableOf p (if fb then 16 + q else q)).endCycle
    | none => s) s
  let set := p.runners.filter (fun r => if fb then 16 ≤ r.1 else r.1 < 16)
  setF (setF s F.SEQ_CAL_RENDER_ROWS (renderRows set)) F.SEQ_CAL_ROWS (calRows (rate96 s))

/-- The tiles that the map leaves take F0 to F14 in ascending number, each with its fallback table live. -/
def fallbackSeats (s : State) : State :=
  let s := (usableTiles s).zipIdx.foldl (fun s p =>
    if p.2 < 15 then
      let b := 1 - getF s (F.SEQ_TSTAT_BANK p.1)
      seatTile true p.2 p.1 b (writeTable p.1 b (tableOf (livePat s) (16 + p.2)) s)
    else s) (clearSeats s)
  let ran := fun (r : TileRun) => { TileRun.init with overrun := r.overrun, stopped := r.stopped }
  showTables (livePat s) { showUsable s with seq := { s.seq with tiles := s.seq.tiles.map (fun x => (x.1, ran x.2)) } }

/-- FALLBACK_SWITCH: at the strobe of f every tile's fallback bank becomes live, and all outputs fade in. -/
def execFallbackSwitch (s : State) : Out :=
  .next (match s.seq.fallbackAt with
    | none => s
    | some f =>
      if !due s f then s
      else
        let s := { s with seq := { s.seq with fallbackAt := none } }
        let s := match s.seq.ho with
          | some h => hoAbort 5 f h s
          | none => s
        let s := renderRestart f (fallbackSeats s)
        let s := if getF s F.PAT_STATE_LIVE = 4 then s else setF s F.PAT_STATE_LIVE 2
        recoverFallback f (raise .patFallback 0 s))

/-! ### Geometry units (R43, R141 to R143, R429, R434) -/

/-- The period doubles at the first multiple of the doubled period (R43). -/
def doubleG (s : State) : State :=
  let g := 2 * (livePat s).g
  if running s && s.geo.gEff != g then
    { s with geo := { s.geo with gNext := some (g, (blk s + g) / g * g) } }
  else s

/-- A geometry slice stops: the tested unit is free again. -/
def geoSliceDrop (s : State) : State :=
  match s.bst.slice with
  | some (r, _) =>
    if 17 ≤ r && r < 20 then
      raise .bstSliceAbort r (cnt (sliceEnd (setF (setF s F.GEO_UNITS_SPARE (r - 17)) F.GEO_UNITS_SPARE_PRESENT 1)) R.BST_ABORT_CNT)
    else s
  | none => s

/-- A unit's share passes to another unit. -/
def geoShare (u v : Nat) (s : State) : State :=
  let s := if getF s F.GEO_UNITS_WA = u then setF s F.GEO_UNITS_WA v else s
  if getF s F.GEO_UNITS_WB = u then setF s F.GEO_UNITS_WB v else s

/-- A geometry unit is lost (R429). -/
def geoLost (u : Nat) (s : State) : State :=
  if bit (getF s F.BST_MAP_MAP) (17 + u) then s
  else
    let wa := getF s F.GEO_UNITS_WA
    let wb := getF s F.GEO_UNITS_WB
    if wa != u && wb != u then
      let s := match s.bst.slice with
        | some (r, _) => if r = 17 + u then sliceEnd s else s
        | none => s
      markRegion (17 + u) (if getF s F.GEO_UNITS_SPARE = u then setF s F.GEO_UNITS_SPARE_PRESENT 0 else s)
    else
      let s := markRegion (17 + u) (geoSliceDrop s)
      if getF s F.GEO_UNITS_SPARE_PRESENT = 1 then
        setF (geoShare u (getF s F.GEO_UNITS_SPARE) s) F.GEO_UNITS_SPARE_PRESENT 0
      else if wa != wb then doubleG (geoShare u (if wa = u then wb else wa) s)
      else dacFatal (raise .bstGeoNone 0 s)

/-- GEO_UNIT_FAIL: a unit has missed in OVR_LIMIT consecutive blocks (R142). -/
def execGeoUnitFail (u : Fin 3) (s : State) : Out :=
  .next (if running s && getL s F.GEO_CFG_OVR_LIMIT ≤ aGet (fun _ => 0) s.geo.misses u.val &&
      (getF s F.GEO_UNITS_WA == u.val || getF s F.GEO_UNITS_WB == u.val) then
      geoLost u.val (raise .geoUnitFail u.val s)
    else s)

end Sys2Proof.Machine
end

