-- ==== Sys2Proof/Machine/Flask.lean ====
section
/-! DEFINITION. The Flask link: frames and heartbeats, mirroring and its decisions at both units, and resynchronisation
(spec/16_redundant_pair.md R366 to R373, R376 to R380). -/

namespace Sys2Proof.Machine

/-! ### States of the standby -/

/-- FLK_STATE.SYNC codes: 0 none, 1 WAIT_PATTERN, 2 SNAPSHOT, 3 REPLAY, 4 SHADOW, 5 CONVERGE, 6 READY, 7 STALE, 8 NOT_READY. -/
def sync (s : State) : Nat := getF s F.FLK_STATE_SYNC

/-- Enter a SYNC state. -/
def syncEnter (v : Nat) (s : State) : State :=
  setF { s with flk := { s.flk with syncSince := blk s, equalRun := 0, missRun := 0 } } F.FLK_STATE_SYNC v

/-- A snapshot or replay in progress is discarded, and a join pour that awaits its block with it. -/
def snapDrop (s : State) : State :=
  let s := if s.flk.join.isSome then pourWithdraw s else s
  { s with flk := { s.flk with snap := [], snapAt := none, replay := [], join := none, silenceFor := none } }

/-- The standby becomes NOT_READY; a resynchronisation that this ends has failed (R376, R379). -/
def notReady (reason : Nat) (s : State) : State :=
  let was := sync s
  let s := setF (syncEnter 8 (snapDrop s)) F.FLK_STATE_FAIL reason
  if 2 ≤ was ∧ was ≤ 5 then raise .clmResyncFail 0 s else s

/-- A standby in SNAPSHOT or REPLAY is interrupted (R379). -/
def syncInterrupt (s : State) : State := if sync s = 2 ∨ sync s = 3 then notReady 1 s else s

/-- An answer of this worker to a LADLE_REC, sent now and again at the next strobe (R392). -/
def ladleAnswer (litem status reason : Nat) (s : State) : State :=
  let s := { s with hier := { s.hier with
    answers := ((litem, status, reason) :: s.hier.answers.filter (fun a => a.1 != litem)).take 4096,
    again := s.hier.again ++ [litem] } }
  ladlePut 0x11 (ladleAckEntry s litem status reason) s

/-! ### Decisions at the active unit (R371) -/

/-- CLM_RESULT of a command. -/
def clmResult (cmd reason : Nat) (s : State) : State := setF (setF s F.CLM_RESULT_CMD cmd) F.CLM_RESULT_REASON reason

/-- A refused command of the claim bus. -/
def clmRefuse (cmd reason : Nat) (s : State) : State := setBit (clmResult cmd reason s) F.CLM_STAT_REFUSED

/-- The reason that the active unit gives for a standby's refusal: the owning chapter's, else LATE or LATE_STAGE. -/
def refusalReason (it : Item) (r : Nat) : Nat :=
  match it with
  | .record _ _ _ => if 1 ≤ r ∧ r ≤ 0x10 then r else recReason .late
  | .route _ _ => if 4 ≤ r ∧ r ≤ 7 then r else 3
  | .amend _ _ => if r = reasonCode .peerMismatch then r else reasonCode .lateStage
  | .pour _ _ _ _ _ => if r = reasonCode .peerMismatch then r else reasonCode .late
  | _ => 0

/-- Refuse an item that was judged here; one that has left its place meanwhile is refused already. -/
def itemRefuse (it : Item) (r : Nat) (s : State) : State :=
  match it with
  | .record g _ _ =>
    let own := pendingOf (objOf s g.rcd.obj) g.rcd.seq
    let s := refuseEverywhere g.rcd.obj g.rcd.seq r false s
    (match own with
     | some q => if q.src = 6 then ladleAnswer q.litem 3 r s else s
     | none => s)
  | .route _ _ => if s.rte.cmt.isNone then s else rteCmtRefuse r s
  | .routeCancel _ => rteRefuse 3 2 s
  | .amend _ _ => amendRefuse (if r = reasonCode .peerMismatch then .peerMismatch else .lateStage) s
  | .pour _ _ _ _ _ => if s.pat.pour.isNone then s else pourRefuse (if r = reasonCode .peerMismatch then .peerMismatch else .late) s
  | .stop _ => if s.pat.stop.isNone then s else stopRefuse .late s
  | .discard _ => patRefuse 6 .late 0 s
  | .capStart _ _ => capRefuse 1 2 { s with cap := none }
  | .capStop _ => capRefuse 2 2 s
  | .capCancel _ => capRefuse 3 2 s
  | .drill _ => clmRefuse 1 1 { s with clm := { s.clm with drill := none } }
  | .renorm _ => clmRefuse 2 1 { s with clm := { s.clm with renorm := none } }
  | .regWrite _ _ => s
  | .objCmd _ _ => s
  | .strSeq _ _ _ => s

/-- An untimed item takes effect (R370).  A counter that still counts where it was sent counts here as there (R302). -/
def untimedApply (it : Item) (s : State) : State :=
  match it with
  | .regWrite off v => applyReg off (BitVec.ofNat 32 v) s
  | .objCmd obj op => objCmdPlace obj op (blk s) s
  | .strSeq t seq counting =>
    if counting || getF s (F.STR_TX_STATE_STATE t) == 1 then s else setF s (F.STR_TX_SEQ_SEQ t) seq
  | _ => s

/-- An item waits at this unit for its block of application; an object command waits in its object's own place (R134). -/
def holdApply (id : Nat) (it : Item) (b : Nat) (s : State) : State :=
  match it with
  | .objCmd obj op => objCmdPlace obj op b s
  | _ => { s with flk := { s.flk with held := s.flk.held ++ [⟨id, it, true, some b⟩] } }

/-- Accept an item at the active unit, on the standby's COMMIT. -/
def itemAccept (id : Nat) (it : Item) (s : State) : State :=
  match it with
  | .record g _ _ =>
    let obj := g.rcd.obj
    let seq := g.rcd.seq
    let own := pendingOf (objOf s obj) seq
    let s := objMod obj (fun o => { o with queue := o.queue.map (fun q =>
      if q.pending && q.seg.rcd.seq == seq then { q with committed := true } else q) }) s
    (match own with
     | some q => if q.src = 6 then ladleAnswer q.litem 1 0 s else tryAccept obj seq s
     | none => s)
  | .route _ _ => rteAccept (flkConfirm id 0 s)
  | .routeCancel _ => rteCancelAccept (flkConfirm id 0 s)
  | .amend _ _ =>
    let s := flkConfirm id 0 s
    amendTry { s with pat := { s.pat with amend := s.pat.amend.map (fun a => { a with decided := true }) } }
  | .pour _ _ _ _ _ => pourAccept (flkConfirm id 0 s)
  | .stop _ => stopAccept (flkConfirm id 0 s)
  | .discard _ => discardAccept .pcie (flkConfirm id 0 s)
  | .capStart _ _ => capStartAccept (flkConfirm id 0 s)
  | .capStop k => capStopAccept k (flkConfirm id 0 s)
  | .capCancel _ => capCancelAccept (flkConfirm id 0 s)
  | .drill _ => clmResult 1 0 { flkConfirm id 0 s with clm := { s.clm with drillFinal := true } }
  | .renorm _ => clmResult 2 0 { flkConfirm id 0 s with clm := { s.clm with renormFinal := true } }
  | it => holdApply id it (blk s + 2) (flkConfirm id (blk s + 2) s)

/-! ### Staging and decisions at the standby (R371, R372) -/

/-- A route table that the standby cannot validate (R225): the first reason. -/
def routeBad (s : State) : List RouteEnt → List RouteEnt → Option Nat
  | _, [] => none
  | done, r :: t =>
    if !routeOk (livePat s) r then some 4
    else if done.any (fun d => routeKey d == routeKey r) then some 5
    else if routeLimits (livePat s) (r :: done) then some 6
    else routeBad s (r :: done) t

/-- Why the standby refuses an item: its effective block has begun, or it cannot be validated or staged. -/
def itemBad (it : Item) (s : State) : Option Nat :=
  let begun := fun (k r : Nat) => if k ≤ blk s then some r else none
  match it with
  | .record g _ _ =>
    let o := objOf s g.rcd.obj
    if g.e ≤ blk s then some (recReason .late)
    else if !running s then none
    else if o.st = 0 then some (recReason .objUnalloc)
    else if (pendingOf o g.rcd.seq).isSome then none
    else if 8 ≤ (inUse o).length then some (recReason .queueFull)
    else none
  | .route k t =>
    if k ≤ blk s then some 3
    else if !running s then none
    else match routeBad s [] t with
      | some r => some r
      | none => if 2048 < (nonLockedOf s t).length then some 7 else none
  | .amend k bs =>
    if k ≤ blk s then some (reasonCode .lateStage)
    else if !running s then none
    else match amendCheck s bs bs.length with
      | .error _ => some (reasonCode .peerMismatch)
      | .ok p => if s.pat.amend.isSome || loaderBusy s || amendClash s p then some (reasonCode .peerMismatch) else none
  | .pour _ _ cut id crc =>
    if cut ≤ blk s then some (reasonCode .late)
    else if stg s = 5 ∧ (stagedPat s).patId = id ∧ (stagedPat s).totalCrc = crc then none
    else some (reasonCode .peerMismatch)
  | .routeCancel k => begun k 0
  | .stop k => begun k 0
  | .discard p => begun p 0
  | .capStart k _ => begun k 0
  | .capStop k => begun k 0
  | .capCancel k => begun k 0
  | .drill d => begun d 0
  | .renorm r => begun r 0
  | .regWrite _ _ => none
  | .objCmd _ _ => none
  | .strSeq _ _ _ => none

/-- A standby's provisional record enters the object's QUEUE (R129, R392). -/
def stageRec (src : Nat) (item : Option Nat) (litem : Nat) (needed : List Nat) (g : Seg) (s : State) : State :=
  objMod g.rcd.obj (fun o =>
    if (pendingOf o g.rcd.seq).isSome then o
    else
      { o with
        refused := o.refused.filter (· != g.rcd.seq), seqValid := true,
        high := if !o.seqValid || 0 < cmpDiff g.rcd.seq o.high then g.rcd.seq else o.high,
        queue := o.queue ++ [{ seg := g, pending := true, removed := false, item := item, committed := false, litem := litem,
                               needed := needed, src := src, acks := [] }] }) s

/-- Workers of a record's needed set whose answer this standby manager has not heard (R398). -/
def stillNeeded (litem : Nat) (needed : List Nat) (s : State) : List Nat :=
  needed.filter (fun w => !s.hier.heard.contains (litem, w))

/-- Stage an item provisionally, exactly as it would be applied. -/
def itemStage (id : Nat) (it : Item) (s : State) : State :=
  if !running s then
    match it with
    | .pour _ p cut _ _ =>
      setStg 6 { s with pat := { s.pat with pour := some { block := p, cut := cut, via := .flask, decided := false } } }
    | _ => s
  else match it with
  | .record g litem needed =>
    stageRec 5 (some id) litem (stillNeeded litem needed s) g (if rdN s R.HIER_LITEM < litem then wrN s R.HIER_LITEM litem else s)
  | .amend k bs =>
    (match amendCheck s bs bs.length with
     | .ok p => amendStage .flask k (amdIdOf bs) (amdXf bs) false p s
     | .error _ => s)
  | .pour _ p cut _ _ =>
    setStg 6 { s with pat := { s.pat with pour := some { block := p, cut := cut, via := .flask, decided := false } } }
  | .stop k => { s with pat := { s.pat with stop := some { block := k, via := .flask, decided := false, begun := false } } }
  | .capStart k v => if s.cap.isSome then s else { s with cap := some (capOpen .flask k false v) }
  | _ => s

/-- Make an item final at the standby. -/
def itemFinal (it : Item) (b : Nat) (s : State) : State :=
  match it with
  | .record g _ _ => acceptRec g.rcd.obj g.rcd.seq g.unprot s
  | .route k t => rteMirror (some (k, t)) (journal .flask 2 0 t.length (16 * k) s)
  | .routeCancel _ => rteMirror none s
  | .amend _ _ => amendTry { s with pat := { s.pat with amend := s.pat.amend.map (fun a => { a with decided := true }) } }
  | .pour _ _ _ id crc => pourAccept { s with flk := { s.flk with peerPat := id, peerCrc := crc } }
  | .stop _ => stopAccept s
  | .discard _ => discardAccept .flask s
  | .capStart _ _ => capStartAccept s
  | .capStop k => capStopAccept k s
  | .capCancel _ => capCancelAccept s
  | .drill d => { s with clm := { s.clm with drill := some d, drillFinal := true } }
  | .renorm r => { s with clm := { s.clm with renorm := some r, renormFinal := true } }
  | it => holdApply 0 it b s

/-- Remove a provisional item at the standby. -/
def itemDrop (it : Item) (s : State) : State :=
  match it with
  | .record g _ _ => dropRefused g.rcd.obj g.rcd.seq s
  | .amend _ _ => amendDrop s
  | .pour _ _ _ _ _ => pourWithdraw s
  | .stop _ => { s with pat := { s.pat with stop := none } }
  | .capStart _ _ => { s with cap := none }
  | _ => s

/-- The provisional item of a number. -/
def heldOf (s : State) (id : Nat) : Option ProvItem := s.flk.held.find? (fun p => p.id == id && !p.final)

/-- Take a provisional item off the list. -/
def heldErase (id : Nat) (s : State) : State :=
  { s with flk := { s.flk with held := s.flk.held.filter (fun p => !(p.id == id && !p.final)) } }

/-- An item of those that a snapshot's state depends on, so that its replay follows the snapshot (R377). -/
def replayable : Item → Bool
  | .record _ _ _ => true
  | .route _ _ => true
  | .routeCancel _ => true
  | .amend _ _ => true
  | .regWrite _ _ => true
  | .objCmd _ _ => true
  | .strSeq _ _ _ => true
  | _ => false

/-- A confirmed item, decided in a block of the active unit: final here if this unit renders, and kept for the replay while a
snapshot is under way (R371, R377). -/
def confirmItem (dec id b : Nat) (s : State) : State :=
  match heldOf s id with
  | none => s
  | some p =>
    let s := heldErase id s
    let s := if (sync s == 2 || sync s == 3) && (replayable p.item || !running s) then
        { s with flk := { s.flk with replay := s.flk.replay ++ [⟨id, dec, b, p.item⟩] } } else s
    if running s then itemFinal p.item b s
    else match p.item with
      | .pour _ _ _ _ _ => itemFinal p.item b s
      | _ => s

/-- A discarded item. -/
def discardItem (id : Nat) (s : State) : State :=
  match heldOf s id with
  | none => s
  | some p => itemDrop p.item (heldErase id s)

/-- A worker of a manager pair that has yet to answer keeps the standby from committing the record, also one that it cannot stage
because no Pattern runs (R398). -/
def awaitsWorkers (it : Item) (s : State) : Bool :=
  match it with
  | .record g l needed => (match pendingOf (objOf s g.rcd.obj) g.rcd.seq with
    | some q => !q.needed.isEmpty
    | none => (stillNeeded l needed s).any (fun w => getF s (F.HIER_WSTATE_STATE w) == 2))
  | _ => false

/-- The standby commits the records that it could not stage and for which it no longer awaits an answer. -/
def commitReady (old s : State) : State :=
  let ready := s.flk.held.filter (fun p => !p.final && awaitsWorkers p.item old && !awaitsWorkers p.item s &&
    (match p.item with
     | .record g _ _ => (pendingOf (objOf s g.rcd.obj) g.rcd.seq).isNone
     | _ => false))
  if ready.isEmpty then s else flkSend (.commit (ready.map (fun p => p.id)) []) s

/-- Validate, stage and commit one mirrored item; the answer goes into COMMIT. -/
def mirrorTake (x : Nat × Item) (a : State × List Nat × List (Nat × Nat)) : State × List Nat × List (Nat × Nat) :=
  let (s, held, refused) := a
  let id := x.1
  match heldOf s id with
  | some p => if awaitsWorkers p.item s then a else (s, held ++ [id], refused)
  | none =>
    match itemBad x.2 s with
    | some r => (s, held, refused ++ [(id, r)])
    | none =>
      let s := itemStage id x.2 { s with flk := { s.flk with held := s.flk.held ++ [⟨id, x.2, false, none⟩] } }
      if awaitsWorkers x.2 s then (s, held, refused) else (s, held ++ [id], refused)

/-! ### Frames -/

/-- The payload of the oldest frame that awaits its handling, if a test picks it, and the state without it. -/
def takeFrame {α : Type} (pick : FlkPayload → Option α) (s : State) : Option (α × FlkFrame × State) :=
  match s.flk.inbox with
  | [] => none
  | f :: t => (pick f.payload).map (fun a => (a, f, { s with flk := { s.flk with inbox := t } }))

/-- A frame number lies after another: numbers of 32 bits are compared by their signed difference (R13). -/
def lseqAfter (a b : Nat) : Bool := decide (0 < cmpDiff a b)

/-- Frames that are next in LSEQ order move to the inbox. -/
def drainAhead : Nat → State → State
  | 0, s => s
  | n + 1, s =>
    match s.flk.ahead.find? (fun f => f.lseq == (s.flk.rxLseq + 1) % 2 ^ 32) with
    | none => s
    | some f => drainAhead n { s with flk := { s.flk with
        ahead := s.flk.ahead.filter (fun g => g.lseq != f.lseq), inbox := s.flk.inbox ++ [f], rxLseq := f.lseq } }

/-- A heartbeat counts as arrived for its block when it is received, whatever its turn (R369). -/
def heartbeatSeen (f : FlkFrame) (s : State) : State :=
  match f.payload with
  | .heartbeat _ => { s with flk := { s.flk with hbNow := true } }
  | _ => s

/-- FLASK_FRAME_RX: checked, ordered by LSEQ, or discarded (R366, R367). -/
def execFlaskFrameRx (f : FlkFrame) (s : State) : Out :=
  let down : Bool := if f.lane = 0 then getF s F.FLK_STATE_LANE0 == 0 else getF s F.FLK_STATE_LANE1 == 0
  .next (
    if !isPair s || down then s
    else if !frameOk f then cnt s R.FLK_CRC_CNT
    else if !flkUp s then
      if f.lseq = s.flk.rxLseq then s
      else { s with flk := { s.flk with rxLseq := f.lseq, ahead := [], inbox := s.flk.inbox ++ [f] } }
    else if !lseqAfter f.lseq s.flk.rxLseq || s.flk.ahead.any (fun g => g.lseq == f.lseq) then s
    else
      let s := heartbeatSeen f s
      drainAhead (s.flk.ahead.length + 1) { s with flk := { s.flk with ahead := s.flk.ahead ++ [f] } })

/-- HELLO_RX: what the peer says of itself; equal ranks are an error, and a change of its role ends a snapshot or replay (R363,
R368, R379). -/
def execHelloRx (s : State) : Out :=
  let pick := fun (x : FlkPayload) => match x with
    | .hello rank _ patId crc role _ => some (rank, patId, crc, role)
    | _ => none
  .next (match takeFrame pick s with
    | none => s
    | some ((rank, patId, crc, role), _, s) =>
      let s := if isStandby s && role != s.flk.peerRole then syncInterrupt s else s
      let s := { s with flk := { s.flk with peerRank := some rank, peerPat := patId, peerCrc := crc, peerRole := role } }
      if rank = getF s F.CLM_CFG_RANK then raise .clmPairErr 0 s else s)

/-- Duration of a block in 2^-16 ns. -/
def blockSpan (s : State) : Int := 16 * 1000000000 * 2 ^ 16 / (fsInt s : Int)

/-- The skew, and what a skew out of bounds does (R369). -/
def heartbeatSkew (block : Nat) (stamp : Int) (s : State) : State :=
  let own := (tbOf s (followTb s)).time / 2 ^ 32
  let d := stamp - own - ((block : Int) - blk s) * blockSpan s
  let s := wrN s R.CLM_SKEW (code 32 (satS 32 (d / 2 ^ 8)))
  if 2000 * 2 ^ 16 < d.natAbs || 1 < ((block : Int) - blk s).natAbs then
    let s := raise .clmSkew 0 s
    if isStandby s && sync s != 8 && sync s != 0 then notReady 5 s else s
  else s

/-- A standby in HOLDOVER takes the FADJ that the active unit reports of its locked time base (R369). -/
def adoptFadj (n : Nat) (r : TbReport) (s : State) : State :=
  if isStandby s && tbState s n == 3 && r.st == 2 then fadjSet n (nowStamp s) (BitVec.ofInt 32 r.fadj) s else s

/-- Seats whose digest differs from the unit's own for the same input block. -/
def digestDiff (s : State) (n : Nat) (ds : List Nat) : Option Nat :=
  (s.flk.digests.find? (fun d => d.1 == n)).map (fun d =>
    (List.range 16).foldl (fun m q => if nth d.2 q 0 = nth ds q 0 then m else m + 2 ^ q) 0)

/-- Compare a heartbeat's digests (R376, R380). -/
def heartbeatDigest (block : Nat) (ds : List Nat) (s : State) : State :=
  match digestDiff s (block - 4) ds with
  | none => s
  | some 0 =>
    let s := { s with flk := { s.flk with equalRun := s.flk.equalRun + 1, missRun := 0 } }
    if isStandby s && sync s == 5 && 64 ≤ s.flk.equalRun then setBit (syncEnter 6 s) F.FLK_STAT_READY else s
  | some m =>
    let s := { s with flk := { s.flk with equalRun := 0, missRun := s.flk.missRun + 1 } }
    if (isStandby s && sync s == 6) || (isActive s && s.flk.peerReady == 6) then
      let s := raise .clmDigestMis 0 (cnt (wrN s R.FLK_DIGSEAT m) R.FLK_DIG_CNT)
      if isStandby s && getF s F.FLK_CFG_DIG_LIM ≤ s.flk.missRun then notReady 4 s else s
    else s

/-- A standby learns its join block. -/
def joinAt (j : Nat) (s : State) : State :=
  if sync s = 3 ∧ stg s = 5 then
    let s := wr64 { s with flk := { s.flk with join := some j } } R.FLK_JOIN_LO R.FLK_JOIN_HI j
    setStg 6 { s with pat := { s.pat with pour := some { block := j, cut := pourCut s (stagedPat s) j, via := .flask, decided := true } } }
  else s

/-- One entry of CONFIRM, decided in a block of the active unit; the number 0 names the join block. -/
def takeConfirm (dec : Nat) (c : Nat × Nat) (s : State) : State :=
  if c.1 = 0 then joinAt c.2 s else confirmItem dec c.1 c.2 s

/-- HEARTBEAT_RX (R369, R371, R380). -/
def execHeartbeatRx (s : State) : Out :=
  let pick := fun (x : FlkPayload) => match x with
    | .heartbeat h => some h
    | _ => none
  .next (match takeFrame pick s with
    | none => s
    | some (h, f, s) =>
      let s := setF (setF s F.CLM_PEER_WORD h.word) F.CLM_PEER_VALID 1
      -- a change of role at the peer ends a snapshot or replay (R379)
      let s := if isStandby s && h.role != s.flk.peerRole then syncInterrupt s else s
      let flk := { s.flk with hbNow := true, peerRole := h.role, peerReady := h.readiness, peerPat := h.patId, peerCrc := h.patCrc }
      let s := { s with flk := flk }
      let s := heartbeatSkew f.block h.stamp s
      let s := if h.role = 3 then h.tbs.zipIdx.foldl (fun s p => adoptFadj p.2 p.1 s) s else s
      let s := match h.scale with
        | some (cause, first) => ascTrigger cause first (first + 512) false s
        | none => s
      let s := if isStandby s then
          forEach h.discards discardItem (forEach h.confirms (fun c s => takeConfirm (f.block - 1) c s) s)
        else s
      heartbeatDigest f.block h.digests s)

/-- The correction of one counter: it grows by the active unit's value less its own for the same input block. -/
def silFix (own theirs : List (Nat × Nat)) (k now : Nat) : Nat :=
  let at_ := fun (l : List (Nat × Nat)) => ((l.find? (fun p => p.1 == k)).map (fun p => p.2)).getD 0
  (clampI 0 (2 ^ 32 - 1) ((now : Int) + at_ theirs - at_ own)).toNat

/-- SILENCE_RX: the standby corrects its silence counters once, by the frame of the block that follows the end of SHADOW, or by a
later one where that is lost, against its own counters of the same block (R378; log 271). -/
def execSilenceRx (s : State) : Out :=
  let pick := fun (x : FlkPayload) => match x with
    | .silence a b => some (a, b)
    | _ => none
  .next (match takeFrame pick s with
    | none => s
    | some ((objs, outs), f, s) =>
      match s.flk.silenceFor, s.flk.silOwn.find? (fun n => n.block == f.block) with
      | some b, some own =>
        if f.block < b || !isStandby s then s
        else
          { s with
            flk := { s.flk with silenceFor := none },
            rnd := { s.rnd with
              slots := s.rnd.slots.map (fun p => (p.1, { p.2 with silCount := silFix own.objs objs p.1 p.2.silCount })),
              chans := s.rnd.chans.map (fun p => (p.1, { p.2 with silCount := silFix own.outs outs p.1 p.2.silCount })) } }
      | _, _ => s)

/-- MIRROR_RX: the standby stages each item, and answers with COMMIT. -/
def execMirrorRx (s : State) : Out :=
  let pick := fun (x : FlkPayload) => match x with
    | .mirror items => some items
    | _ => none
  .next (match takeFrame pick s with
    | none => s
    | some (items, _, s) =>
      if !isStandby s then s
      else
        let (s, held, refused) := items.foldl (fun a x => mirrorTake x a) (s, [], [])
        let s := { s with flk := { s.flk with highItem := held.foldl max s.flk.highItem } }
        if held.isEmpty && refused.isEmpty then s else flkSend (.commit held refused) s)

/-- The item of a number that the active unit has not decided. -/
def undecidedOf (s : State) (id : Nat) : Option MirItem := s.flk.undecided.find? (fun i => i.id == id)

/-- COMMIT_RX: the active unit decides; the number 0 stands for an installed snapshot, for which it names j (R371, R377). -/
def execCommitRx (s : State) : Out :=
  let pick := fun (x : FlkPayload) => match x with
    | .commit held refused => some (held, refused)
    | _ => none
  .next (match takeFrame pick s with
    | none => s
    | some ((held, refused), _, s) =>
      if !isActive s then s
      else ladleBatch (fun s =>
        let s := forEach held (fun id s =>
          if id = 0 then
            (if s.flk.snapFor.isSome then
              flkConfirm 0 (blk s + 4) { s with flk := { s.flk with snapFor := none } } else s)
          else match undecidedOf s id with
            | some i => itemAccept id i.item (dropItem id s)
            | none => s) s
        forEach refused (fun r s => match undecidedOf s r.1 with
          | some i => itemRefuse i.item (refusalReason i.item r.2) (dropItem r.1 s)
          | none => s) s) s)

/-- CONFIRM_RX: confirmed items are final. -/
def execConfirmRx (s : State) : Out :=
  let pick := fun (x : FlkPayload) => match x with
    | .confirm items => some items
    | _ => none
  .next (match takeFrame pick s with
    | none => s
    | some (items, f, s) =>
      if !isStandby s then s
      else forEach items (fun c s => takeConfirm f.block c s) s)

/-- DISCARD_RX: discarded items are removed. -/
def execDiscardRx (s : State) : Out :=
  let pick := fun (x : FlkPayload) => match x with
    | .discard ids => some ids
    | _ => none
  .next (match takeFrame pick s with
    | none => s
    | some (ids, _, s) => if isStandby s then forEach ids discardItem s else s)

/-- MIRROR_DEADLINE: items without COMMIT by their deadline are refused, and DISCARD is sent. -/
def execMirrorDeadline (s : State) : Out :=
  let late := s.flk.undecided.filter (fun i => match i.deadline with
    | some d => due s d
    | none => false)
  .next (forEach late (fun i s =>
    let s := flkDiscard i.id (dropItem i.id (cnt s R.FLK_LATE_CNT))
    itemRefuse i.item (refusalReason i.item 0) s) s)

/-! ### Snapshots (R377, R379) -/

/-- An object's state as a snapshot carries it: pending records follow R371. -/
def objSnap (o : Nat) (x : ObjSt) : ObjSnap :=
  { obj := o, st := x.st, seqValid := x.seqValid, high := x.high, history := x.history, refused := x.refused, cur := x.cur,
    queue := (x.queue.filter (fun q => !q.pending && !q.removed)).map (fun q => q.seg) }

/-- The first frame of the packet that a transmit context numbers next: of one that runs, or starts at this boundary (R301). -/
def txNext (s : State) (t : Nat) : Option Nat :=
  let x := txOf s t
  if x.startAt.isSome then some (txFirst s t (blk s))
  else if getF s (F.STR_TX_STATE_STATE t) = 1 ∧ x.stopAt.isNone then some x.m0
  else none

/-- The control state that a snapshot records. -/
def snapParts (s : State) : List SnapPart :=
  let pat := livePat s
  let f0 := fltOfPattern pat
  let e := epochNow s
  let shadow := (List.range (getF s F.RTE_SHD_COUNT_COUNT)).filterMap (shadowEntry s)
  s.intake.objs.map (fun p => .obj (objSnap p.1 p.2)) ++
  [.routes e.table shadow e.old e.law e.first e.len] ++
  (s.flt.peq.filter (fun p => !f0.peq.contains p)).map (fun p => .peq p.1 p.2.old p.2.new p.2.move) ++
  (s.flt.coef.filter (fun p => !f0.coef.contains p)).map (fun p => .coef p.1 p.2.taps p.2.staging p.2.live p.2.xf) ++
  (s.flt.gain.filter (fun p => !f0.gain.contains p)).map (fun p =>
    let g := p.2.headD GainRamp.unity
    .gain p.1 g.start g.target g.first g.len) ++
  pat.layouts.map (fun l => .layout l.1 l.2) ++
  ((s.regs.filter (fun p => renderState p.1)).map (fun p => .reg p.1 p.2.toNat)) ++
  (s.str.tx.map (fun p => .strSeq p.1 (getF s (F.STR_TX_SEQ_SEQ p.1)) (txNext s p.1))) ++
  [.epoch s.clm.epoch]

/-- SNAP_REQ_RX: the snapshot is recorded at the next boundary. -/
def execSnapReqRx (s : State) : Out :=
  let pick := fun (x : FlkPayload) => match x with
    | .snapReq => some ()
    | _ => none
  .next (match takeFrame pick s with
    | none => s
    | some (_, _, s) => if isActive s then { s with flk := { s.flk with snapAsked := true } } else s)

/-- SNAP_DATA_RX. -/
def execSnapDataRx (s : State) : Out :=
  let pick := fun (x : FlkPayload) => match x with
    | .snapData parts => some parts
    | _ => none
  .next (match takeFrame pick s with
    | none => s
    | some (parts, _, s) =>
      if sync s = 2 then { s with flk := { s.flk with snap := s.flk.snap ++ parts } } else s)

/-- SNAP_END_RX: the snapshot is taken in, which the standby reports by COMMIT; items decided before its boundary are part of it
(R377). -/
def execSnapEndRx (s : State) : Out :=
  let pick := fun (x : FlkPayload) => match x with
    | .snapEnd b => some b
    | _ => none
  .next (match takeFrame pick s with
    | none => s
    | some (b, _, s) =>
      if sync s = 2 then flkSend (.commit [0] []) (syncEnter 3 { s with flk := { s.flk with
          snapAt := some b, replay := s.flk.replay.filter (fun r => b ≤ r.decided) } }) else s)

/-- SNAP_ABORT_RX. -/
def execSnapAbortRx (s : State) : Out :=
  let pick := fun (x : FlkPayload) => match x with
    | .snapAbort => some ()
    | _ => none
  .next (match takeFrame pick s with
    | none => s
    | some (_, _, s) => syncInterrupt s)

/-- The unit takes an epoch; one that comes to 2,047 says so (R364). -/
def epochTake (e : Nat) (s : State) : State :=
  let was := s.clm.epoch
  let s := { s with clm := { s.clm with epoch := e } }
  if e = 2047 ∧ was ≠ 2047 then raise .clmEpochSat 0 s else s

/-- One part of a snapshot overwrites the state that the join pour has left (R377). -/
def snapInstall (x : SnapPart) (s : State) : State :=
  match x with
  | .obj o =>
    let q := fun (g : Seg) => ({ seg := g, pending := false, removed := false, item := none, committed := false, litem := 0,
                                 needed := [], src := 5, acks := [] } : QEnt)
    objMod o.obj (fun z => { z with st := o.st, seqValid := o.seqValid, high := o.high, history := o.history,
                                    refused := o.refused, cur := o.cur, queue := o.queue.map q, clamped := false }) s
  | .routes live shadow old law first len =>
    let e : RouteEpoch := { first := first, len := len, law := law, old := old, table := live }
    let s := { s with rte := { s.rte with epochs := [e], doneAt := if len = 0 then [] else [first + len + 2] } }
    let s := setF (setF s F.RTE_LIVE_COUNT_COUNT live.length) F.RTE_SHD_COUNT_COUNT shadow.length
    rteShow (asrcAssign (shadow.zipIdx.foldl (fun s p => putShadow p.2 p.1 s) s))
  | .peq key old new xf => peqMod key (fun _ => { old := old, new := new, move := xf }) s
  | .coef j taps staging live xf =>
    coefMod j (fun _ => { taps := taps, specs := coefSpectra (ladderOf s j) taps, staging := staging,
                          stagingSpecs := coefSpectra (ladderOf s j) staging, live := live, xf := xf }) s
  | .gain key start target first len =>
    let r : GainRamp := { start := start, target := target, first := first, len := len }
    { s with flt := { s.flt with gain := aSet (fun _ => []) s.flt.gain key [r] } }
  | .layout ix l =>
    let f := fun (p : Pattern) => { p with layouts := p.layouts.map (fun y => if y.1 = ix then (ix, l) else y) }
    let s := { s with pat := { s.pat with live := s.pat.live.map f } }
    { s with geo := { s.geo with mesh := aInsert s.geo.mesh ix (meshOf l) } }
  | .reg _ _ => s
  | .strSeq _ _ _ => s
  | .epoch e => epochTake (max s.clm.epoch e) s
  | .item _ it => itemFinal it (blk s) s

/-- A control register of a stream context, whose EN starts or stops it. -/
def strCtl (off : Nat) : Bool := (inst 0x710000 256 256 off).isSome || (inst 0x720000 256 256 off).isSome

/-- Every render-state register takes its value at the active unit, which for those that the snapshot leaves out is the reset
value; stream contexts start and stop as the active unit's run (R377). -/
def snapRegs (parts : List SnapPart) (s : State) : State :=
  let given := parts.filterMap (fun x => match x with
    | .reg off v => some (off, v)
    | _ => none)
  let other := fun (p : Nat × Word) => !renderState p.1 || strCtl p.1
  let s := { s with regs := s.regs.filter other, live := s.live.filter other }
  let s := forEach (given.filter (fun p => !strCtl p.1)) (fun p s =>
    { wrN s p.1 p.2 with live := aSet regReset s.live p.1 (BitVec.ofNat 32 p.2) }) s
  let ctl := ((s.regs.map (fun p => p.1)) ++ given.map (fun p => p.1)).eraseDups.filter strCtl
  forEach ctl (fun off s =>
    strEffect off (BitVec.ofNat 32 (((given.find? (fun p => p.1 == off)).map (fun p => p.2)).getD 0)) s) s

/-- Modulus of a transmit context's sequence numbers (R298). -/
def seqModulus (s : State) (t : Nat) : Nat := if getF s (F.STR_TX_CFG_FMT t) ≤ 1 then 65536 else 256

/-- A context that has packed from its next packet on numbers those that come before a frame (R301). -/
def txCount (t m : Nat) (s : State) : State :=
  let n := (m - (txOf s t).m0) / txP s t
  txMod t (fun x => { x with m0 := x.m0 + n * txP s t, gathered := [] })
    (setF s (F.STR_TX_SEQ_SEQ t) ((getF s (F.STR_TX_SEQ_SEQ t) + n) % seqModulus s t))

/-- A transmit context of the snapshot runs on from the packet that its counter numbers. -/
def snapSeq (x : SnapPart) (s : State) : State :=
  match x with
  | .strSeq t seq next =>
    let s := setF s (F.STR_TX_SEQ_SEQ t) seq
    (match next with
     | some m =>
       if getF s (F.STR_TX_CTL_EN t) = 1 then
         txMod t (fun x => { x with startAt := none, m0 := m, gathered := [] }) (setF s (F.STR_TX_STATE_STATE t) 1)
       else s
     | none => s)
  | _ => s

/-- A write of a stream context's EN that took effect at a boundary before the join block: the context has stopped or
started there, and a transmit context has numbered its packets until or from it (R302, R377). -/
def replayCtl (off v b : Nat) (s : State) : State :=
  let on : Bool := bit v 31
  match inst 0x710000 256 256 off, inst 0x720000 256 256 off with
  | some c, _ =>
    let s := rxCtlApply c (BitVec.ofNat 32 v) s
    if on then s else rxStop c s
  | _, some t =>
    let s := if !on && getF s (F.STR_TX_STATE_STATE t) == 1 then txCount t (16 * (b + 1)) s else s
    let s := txCtlApply t (BitVec.ofNat 32 v) s
    if !on then txStop t s
    else if (txOf s t).startAt.isSome then
      txMod t (fun x => { x with startAt := none, m0 := txFirst s t (b + 1) }) (setF s (F.STR_TX_STATE_STATE t) 1)
    else s
  | _, _ => s

/-- One item of the replay.  A write whose block is past is in force; the others wait for theirs. -/
def replayItem (r : Replayed) (s : State) : State :=
  match r.item with
  | .regWrite off v =>
    if dueBlk s ≤ r.block then holdApply r.id r.item r.block s
    else
      let s := journalReg .flask off (BitVec.ofNat 32 v) s
      if strCtl off then replayCtl off v r.block s else applyReg off (BitVec.ofNat 32 v) s
  | .strSeq _ _ _ => if dueBlk s ≤ r.block then holdApply r.id r.item r.block s else untimedApply r.item s
  | .objCmd _ _ => holdApply r.id r.item (max r.block (dueBlk s)) s
  | it => itemFinal it (dueBlk s) (itemStage r.id it s)

/-- The transmit contexts that run number the packets up to the first one that this unit builds itself, which begins at or
after the join block: the twins' numbers are equal from there on (R301, R377). -/
def txCatchUp (s : State) : State :=
  forEach (s.str.tx.map (fun p => p.1)) (fun t s =>
    if getF s (F.STR_TX_STATE_STATE t) = 1 ∧ (txOf s t).stopAt.isNone then txCount t (txFirst s t (dueBlk s)) s else s) s

/-- The streams of the snapshot, the replayed items in ITEM_ID order, then the items that still await their decision. -/
def snapReplay (parts : List SnapPart) (s : State) : State :=
  let s := forEach (s.flk.replay.mergeSort (fun a b => a.id ≤ b.id)) replayItem (forEach parts snapSeq s)
  forEach (s.flk.held.filter (fun p => !p.final)) (fun p s => itemStage p.id p.item s) (txCatchUp s)

/-! ### Time limits -/

/-- SHADOW_END: after twice the longest delay and filter (R376). -/
def execShadowEnd (s : State) : Out :=
  .next (if isStandby s && sync s == 4 && due s (s.flk.syncSince + (if rate96 s then 10240 else 11264)) then
      let s := syncEnter 5 s
      { s with flk := { s.flk with silenceFor := some (dueBlk s + 1) } }
    else s)

/-- CONV_TIMEOUT. -/
def execConvTimeout (s : State) : Out :=
  .next (if isStandby s && sync s == 5 && s.flk.syncSince * 16 + getF s F.FLK_CFG_CONV_TMO * fsInt s ≤ s.msi + 16 then
      notReady 3 s
    else s)

/-- RESYNC_RETRY: after 1 s NOT_READY with the link UP. -/
def execResyncRetry (s : State) : Out :=
  .next (if isStandby s && sync s == 8 && flkUp s && s.flk.syncSince * 16 + fsInt s ≤ s.msi + 16 then syncEnter 1 s else s)

/-- FLK_RESYNC: accepted at a NOT_READY standby. -/
def execFlkResync (via : Src) (s : State) : Out :=
  let s := journalReg via R.FLK_CMD 1 s
  .next (if isStandby s && sync s == 8 then syncEnter 1 s else setBit s F.FLK_STAT_REFUSED)

/-- The link leaves UP: a snapshot or a shadow is interrupted, and a READY standby is STALE (R376, R379). -/
def linkLost (s : State) : State :=
  let s := raise .clmLinkStale 0 (setF s F.FLK_STATE_LINK 2)
  if !isStandby s then { s with flk := { s.flk with snapAsked := false, snapFor := none } }
  else match sync s with
    | 6 => syncEnter 7 s
    | 2 => notReady 1 s
    | 3 => notReady 1 s
    | 4 => notReady 1 s
    | 5 => notReady 1 s
    | _ => s

/-- FLASK_LINK_STALE: no heartbeat for three blocks. -/
def execFlaskLinkStale (s : State) : Out :=
  .next (if flkUp s && 3 ≤ s.flk.hbMiss then linkLost s else s)

/-- FLASK_LANE_DOWN. -/
def execFlaskLaneDown (lane : Fin 2) (s : State) : Out :=
  let f := if lane.val = 0 then F.FLK_STATE_LANE0 else F.FLK_STATE_LANE1
  .next (if getF s f = 0 then s else raise .clmLaneDown lane.val (setF s f 0))

/-- FLASK_LANE_UP. -/
def execFlaskLaneUp (lane : Fin 2) (s : State) : Out :=
  .next (setF s (if lane.val = 0 then F.FLK_STATE_LANE0 else F.FLK_STATE_LANE1) 1)

/-! ### The strobe -/

/-- The stage A results of a channel for the input block that the speaker stages processed last. -/
def stageASamples (s : State) (c : Nat) : List Int :=
  if c < 1024 then ((chanOf s c).line.take 16).reverse else (chanOf s c).ready

/-- A seat's digest: CRC-32C of its channels' stage A results, packed as R16 packs samples. -/
def seatDigest (s : State) (q : Nat) : Nat :=
  let xs := (seatChans s q).flatMap (fun c => (List.range 8).flatMap (fun i =>
    leBytes 9 (packPair (nth (stageASamples s c) (2 * i) 0) (nth (stageASamples s c) (2 * i + 1) 0))))
  crc32c xs

/-- Heartbeats counted at a strobe, each block without one as missed, and the link's return (R369). -/
def linkStrobe (s : State) : State :=
  let hb := s.flk.hbNow
  let s := setF s F.CLM_PEER_VALID (b2n hb)
  let s := if !hb then cnt s R.FLK_HB_MISS_CNT else s
  let s := { s with flk := { s.flk with
    hbRun := if hb then s.flk.hbRun + 1 else 0, hbMiss := if hb then 0 else s.flk.hbMiss + 1, hbNow := false } }
  if getF s F.FLK_STATE_LINK != 1 && 3 ≤ s.flk.hbRun then
    let s := setF s F.FLK_STATE_LINK 1
    if isStandby s && (sync s == 0 || sync s == 7) then syncEnter 1 s else s
  else s

/-- The standby's steps at a strobe: from WAIT_PATTERN to SNAPSHOT, and the loss of the armed Pattern (R376); a unit that is no
standby any more has its resynchronisation interrupted (R379). -/
def syncStrobe (s : State) : State :=
  if !isStandby s then (if sync s = 2 ∨ sync s = 3 then notReady 1 s else s)
  else
    let match_ : Bool := stg s == 5 && s.flk.peerPat != 0 && (stagedPat s).patId == s.flk.peerPat &&
      (stagedPat s).totalCrc == s.flk.peerCrc
    match sync s with
    | 1 =>
      if match_ && flkUp s && s.flk.peerRole == 3 then flkSend .snapReq (syncEnter 2 (cnt (snapDrop s) R.FLK_RESYNC_CNT)) else s
    | 2 => if match_ then s else notReady 2 s
    | 3 => if match_ || s.flk.join.isSome then s else notReady 2 s
    | _ => s

/-- The active unit records and sends the snapshot asked for, at a boundary. -/
def snapStrobe (s : State) : State :=
  if s.flk.snapAsked && isActive s && flkUp s then
    let s := { s with flk := { s.flk with snapAsked := false, snapFor := some (blk s) } }
    flkSend (.snapEnd (blk s)) (flkSend (.snapData (snapParts s)) s)
  else s

/-- Untimed items and writes whose block has come, before the boundary's register transfers: they go live at it (R35, R371). -/
def heldStrobe (s : State) : State :=
  let ready := fun (p : ProvItem) => match p.applyAt with
    | some b => decide (b ≤ blk s)
    | none => false
  let now := s.flk.held.filter ready
  let s := { s with flk := { s.flk with held := s.flk.held.filter (fun p => !ready p) } }
  forEach now (fun p s =>
    let s := match p.item with
      | .regWrite off v => if isStandby s then journalReg .flask off (BitVec.ofNat 32 v) s else s
      | _ => s
    untimedApply p.item s) s

/-- A HELLO while the link is not UP. -/
def helloOf (s : State) : FlkPayload :=
  .hello (getF s F.CLM_CFG_RANK) Config.dieRev.toNat (if running s then (livePat s).patId else 0)
    (if running s then (livePat s).totalCrc else 0) (getF s F.CLM_STATE_ROLE) s.clm.epoch

/-- The heartbeat of a strobe (R369). -/
def heartbeatOf (s : State) (digests : List Nat) : FlkPayload :=
  let a := s.asc
  let starts : Bool := (a.phase == 1 || a.phase == 3) && 3 ≤ a.cause && a.start + 3 == blk s
  .heartbeat {
    word := getF s F.CLM_STATE_WORD, role := getF s F.CLM_STATE_ROLE, readiness := sync s,
    scale := if starts then some (a.cause, a.start) else none,
    stamp := (tbOf s (followTb s)).time / 2 ^ 32, digests := digests,
    tbs := (List.range 4).map (fun n => ⟨tbState s n, fadjOf s n, sx 32 (rdN s (R.TSU_TB_OFS n))⟩),
    highItem := s.flk.highItem, confirms := s.flk.lastConfirm, discards := s.flk.lastDiscard,
    patId := if running s then (livePat s).patId else 0, patCrc := if running s then (livePat s).totalCrc else 0 }

/-- The silence counters of a strobe: of the objects for input block t - 2, of the outputs for t - 4 (R368). -/
def silNote (s : State) : SilNote :=
  { block := blk s, objs := s.rnd.prevSlots.map (fun p => (p.1, p.2.silCount)),
    outs := (s.rnd.chans.filter (fun p => p.1 < 1024)).map (fun p => (p.1, p.2.silCount)) }

/-- The Flask link at a strobe, before the speaker stages of the block. -/
def flkStrobe (s : State) : State :=
  if !isPair s then { s with flk := { s.flk with sent := [] } }
  else
    let gone := s.flk.ahead.filter (fun f => f.block < blk s)
    let s := { s with flk := { s.flk with
      sent := [],
      inbox := s.flk.inbox ++ gone.mergeSort (fun a b => !lseqAfter a.lseq b.lseq),
      rxLseq := gone.foldl (fun m f => if lseqAfter f.lseq m then f.lseq else m) s.flk.rxLseq,
      ahead := s.flk.ahead.filter (fun f => blk s ≤ f.block) } }
    let s := syncStrobe (linkStrobe s)
    let ds := (List.range 16).map (seatDigest s)
    let s := { s with flk := { s.flk with
      digests := ((blk s - 4, ds) :: s.flk.digests).take 8,
      silOwn := (silNote s :: s.flk.silOwn).take 4 } }
    let s := if flkUp s then s else flkSend (helloOf s) s
    let s := flkSend (heartbeatOf s ds) s
    let s := { s with flk := { s.flk with lastConfirm := [], lastDiscard := [] } }
    let s := if isActive s && flkUp s then flkSend (.silence (silNote s).objs (silNote s).outs) s else s
    mirrorResend (snapStrobe s)

end Sys2Proof.Machine
end

