-- ==== Sys2Proof/Machine/Hier.lean ====
section
/-! DEFINITION. Manager and workers: the ladle, membership, joins, and the SYNC chain
(spec/17_manager_and_workers.md R386 to R400). -/

namespace Sys2Proof.Machine

/-! ### Frames received (R388 to R390) -/

/-- A ladle frame that waits: port, IPv4 source and UDP payload. -/
structure LadleIn where
  port : Nat
  src : Nat
  bytes : List Byte
deriving DecidableEq, Repr

/-- Entries of a frame, of a size. -/
def LadleIn.entries (f : LadleIn) (size : Nat) : List (List Byte) :=
  (List.range (leAt f.bytes 4 2)).map (fun i => (f.bytes.drop (24 + size * i)).take size)

/-- FRAME_SEQ. -/
def LadleIn.seq (f : LadleIn) : Nat := leAt f.bytes 16 4

/-- The oldest frame that waits, if it is of a type, and the state that has taken it up: its descriptors return (R271). -/
def ladleTake (ty : Nat) (s : State) : Option (LadleIn × State) :=
  match s.intake.ladleIn with
  | [] => none
  | f :: t =>
    if leAt f.2.2.2 3 1 = ty then
      some (⟨f.1, f.2.2.1, f.2.2.2⟩, moabyReturn f.1 f.2.1 { s with intake := { s.intake with ladleIn := t } })
    else none

/-- A frame that the unit's role does not take. -/
def hierBad (s : State) : State := cnt s R.HIER_BAD_CNT

/-- The worker follows the first manager it heard (R390). -/
def fromManager (f : LadleIn) (s : State) : Bool :=
  match s.hier.manager with
  | none => true
  | some m => m == f.src

/-- This unit of its UNIT speaks and handles the ladle: a lone unit, or the active one of a pair (R398). -/
def hierSpeaks (s : State) : Bool := isLoneOrActive s

/-- The record, effective block and LITEM of a LADLE_REC entry or of a joined segment (R389).  The time origin is the
record's apply time, which lies near e. -/
def ladleSeg (s : State) (compact : Bool) (b : List Byte) : Seg × Nat :=
  let r := recOf b
  let e := leAt b 112 8
  let origin : Int :=
    if recImmediate r then (16 * e : Nat)
    else if compact then (16 * e : Nat) + cmpDiff r.ns (16 * e % 2 ^ 32)
    else applyMsi s false r.ns r.sec r.frac
  (⟨r, e, origin, false⟩, leAt b 120 4)

/-- A header that says compact format. -/
def LadleIn.compact (f : LadleIn) : Bool := leAt f.bytes 6 1 == 1

/-! ### The worker and its records (R392, R394) -/

/-- Where a record with a LITEM is pending. -/
def litemPlace (s : State) (l : Nat) : Option (Nat × QEnt) :=
  s.intake.objs.findSome? (fun x => (x.2.queue.find? (fun q => q.pending && q.litem == l && l != 0)).map (fun q => (x.1, q)))

/-- Stage a forwarded record; an active worker mirrors it and answers after its standby's COMMIT (R392, R398). -/
def workerStage (g : Seg) (l : Nat) (s : State) : State :=
  if isActive s && flkUp s then
    let (id, s) := mirrorSend (.record g l []) (some g.e) s
    stageRec 6 (some id) l [] g s
  else if isActive s then
    (if getF s F.FLK_CFG_PROTECT = 0 then ladleAnswer l 3 (recReason .unprotected) s
     else ladleAnswer l 1 0 (stageRec 6 none l [] { g with unprot := true } s))
  else ladleAnswer l 1 0 (stageRec 6 none l [] g s)

/-- A worker's answer to a LADLE_REC (R392). -/
def workerRecord (g : Seg) (l : Nat) (s : State) : State :=
  let o := objOf s g.rcd.obj
  let seq := g.rcd.seq
  match s.hier.answers.find? (fun a => a.1 == l) with
  | some a => ladleAnswer l a.2.1 a.2.2 s
  | none =>
    if running s && o.st == 0 then ladleAnswer l 2 (recReason .objUnalloc) s
    else if !running s then ladleAnswer l 3 (recReason .notRunning) s
    else if g.e ≤ blk s then ladleAnswer l 3 (recReason .late) s
    else if o.history.any (fun h => h.1 == seq) then ladleAnswer l 1 0 s
    else match pendingOf o seq with
      | some q =>
        let s := objMod g.rcd.obj (fun o => { o with queue := o.queue.map (fun q =>
          if q.pending && q.seg.rcd.seq == seq then { q with litem := l } else q) }) s
        if q.item.isSome && !q.committed then s else ladleAnswer l 1 0 s
      | none => if 8 ≤ (inUse o).length then ladleAnswer l 3 (recReason .queueFull) s else workerStage g l s

/-- A joining worker keeps what is forwarded for its replay (R397). -/
def keepForwarded (g : Seg) (l : Nat) (s : State) : State :=
  if getF s F.HIER_STATE_STATE = 1 ∧ !s.hier.installed ∧ !(s.hier.forwarded.any (fun x => x.1 == l)) then
    { s with hier := { s.hier with forwarded := s.hier.forwarded ++ [(l, g)] } }
  else s

/-- LADLE_REC_RX: a worker stages or refuses each forwarded record and answers. -/
def execLadleRecRx (s : State) : Out :=
  .next (match ladleTake 0x10 s with
    | none => s
    | some (f, s) =>
      if !isWorker s || !fromManager f s then hierBad s
      else if !hierSpeaks s then s
      else ladleBatch (forEach (f.entries 128) (fun b s =>
        let (g, l) := ladleSeg s f.compact b
        workerRecord g l (keepForwarded g l s))) s)

/-- A confirmed record becomes final; after the strobe of e + 1 it is placed at the next boundary and counted late. -/
def workerConfirm (obj : Nat) (q : QEnt) (s : State) : State :=
  let seq := q.seg.rcd.seq
  let tardy : Bool := q.seg.e < blk s
  let s := match q.item with
    | some id => flkConfirm id 0 (dropItem id s)
    | none => s
  let place := fun (x : QEnt) =>
    if x.pending && x.seg.rcd.seq == seq then { x with seg := { x.seg with e := blk s + 1 } } else x
  let s := if tardy then objMod obj (fun o => { o with queue := o.queue.map place }) s else s
  let s := acceptRec obj seq q.seg.unprot s
  if tardy then raise .hierLateDecision 0 (cnt s R.HIER_LATE_DEC_CNT) else s

/-- A discarded record is removed; its number enters REFUSED. -/
def workerDiscard (obj : Nat) (q : QEnt) (s : State) : State :=
  let s := match q.item with
    | some id => flkDiscard id (dropItem id s)
    | none => s
  dropRefused obj q.seg.rcd.seq s

/-- LADLE_DECIDE_RX. -/
def execLadleDecideRx (s : State) : Out :=
  .next (match ladleTake 0x12 s with
    | none => s
    | some (f, s) =>
      if !isWorker s || !fromManager f s then hierBad s
      else if !hierSpeaks s then s
      else forEach (f.entries 8) (fun b s =>
        let l := leAt b 0 4
        let v := leAt b 4 1
        let s := if s.hier.forwarded.any (fun x => x.1 == l) then
            { s with hier := { s.hier with fwdDecided := (l, v) :: s.hier.fwdDecided } } else s
        match litemPlace s l with
        | none => s
        | some (obj, q) => if v = 1 then workerConfirm obj q s else workerDiscard obj q s) s)

/-- A worker enters JOINING, and counts the manager's heartbeats that it misses anew (R396). -/
def hierJoining (s : State) : State :=
  setF { s with hier := { s.hier with missed := 0, reqAt := none, joinSince := none, join := [], joinSeq := none, joinEnd := none,
                                      forwarded := [], fwdDecided := [], installed := false } } F.HIER_STATE_STATE 1

/-- LADLE_UNDECIDED: records without a decision 64 blocks after e are removed, and the worker rejoins (R394). -/
def execLadleUndecided (s : State) : Out :=
  let old := fun (q : QEnt) => q.pending && q.src == 6 && due s (q.seg.e + 64)
  let ids := s.intake.objs.flatMap (fun x => (x.2.queue.filter old).filterMap (fun q => q.item))
  .next (if isWorker s && s.intake.objs.any (fun x => x.2.queue.any old) then
      let objs := s.intake.objs.map (fun x => (x.1, { x.2 with queue := x.2.queue.filter (fun q => !old q) }))
      let s := forEach ids (fun id s => flkDiscard id (dropItem id s)) { s with intake := { s.intake with objs := objs } }
      hierJoining (raise .hierUndecided 0 s)
    else s)

/-! ### The manager and the answers (R391, R393, R398) -/

/-- A worker no longer stands in a pending record's needed set; the record may then be decided.  A standby manager reports its
COMMIT once nothing is awaited. -/
def needDrop (w : Nat) (obj : Nat) (q : QEnt) (s : State) : State :=
  let seq := q.seg.rcd.seq
  if !q.needed.contains w then s
  else
    let left := q.needed.filter (· != w)
    let s := objMod obj (fun o => { o with queue := o.queue.map (fun x =>
      if x.pending && x.seg.rcd.seq == seq then { x with needed := left } else x) }) s
    if !left.isEmpty then s
    else if hierSpeaks s then tryAccept obj seq s
    else match q.item with
      | some id => flkSend (.commit [id] []) s
      | none => s

/-- A worker leaves every needed set. -/
def needDropAll (w : Nat) (s : State) : State :=
  let all := s.intake.objs.flatMap (fun x => (x.2.queue.filter (fun q => q.pending)).map (fun q => (x.1, q)))
  forEach all (fun x s => needDrop w x.1 x.2 s) s

/-- What the manager keeps of a worker. -/
def workerOf (s : State) (w : Nat) : WorkerSt := aGet (fun _ => WorkerSt.init) s.hier.workers w

/-- Change it. -/
def workerMod (w : Nat) (f : WorkerSt → WorkerSt) (s : State) : State :=
  { s with hier := { s.hier with workers := aMod (fun _ => WorkerSt.init) s.hier.workers w f } }

/-- LADLE_ACK_RX: one answer.  A standby manager keeps it too for a record whose MIRROR is still to come (R398). -/
def ackTake (b : List Byte) (s : State) : State :=
  let l := leAt b 0 4
  let w := leAt b 4 1
  let st := leAt b 5 1
  if l = 0xFFFFFFFF then
    (if st = 1 ∧ getF s (F.HIER_WSTATE_STATE w) = 1 ∧ 1 ≤ w ∧ w ≤ 15 ∧ (workerOf s w).joinFrom.isSome then
      workerMod w (fun x => { x with installed := true }) s else s)
  else
    let old := s
    let s := if (st == 1 || st == 2) && !hierSpeaks s then
        { s with hier := { s.hier with heard := ((l, w) :: s.hier.heard).take 65536 } } else s
    match litemPlace s l with
    | none => commitReady old s
    | some (obj, q) =>
      if !q.needed.contains w then s
      else if st = 3 then
        (if hierSpeaks s then refuseEverywhere obj q.seg.rcd.seq (leAt b 6 1) true s else s)
      else needDrop w obj q s

/-- LADLE_ACK_RX: the manager collects answers. -/
def execLadleAckRx (s : State) : Out :=
  .next (match ladleTake 0x11 s with
    | none => s
    | some (f, s) => if !isManager s then hierBad s else ladleBatch (forEach (f.entries 8) ackTake) s)

/-- A worker is LOST (R395): it leaves every needed set. -/
def workerLost (w reason : Nat) (s : State) : State :=
  let s := setF (setF s (F.HIER_WSTATE_STATE w) 3) (F.HIER_WSTATE_REASON w) reason
  let s := workerMod w (fun x => { x with asked := false, installed := false, joinFrom := none }) s
  showMembers (ladleBatch (needDropAll w) (raise .hierWorkerLost w (cnt s R.HIER_LOST_CNT)))

/-- A worker whose live rate differs from the manager's is refused membership (R387, R397). -/
def workerRateRefused (w : Nat) (s : State) : State :=
  setF (setF (workerMod w (fun x => { x with asked := false, installed := false, joinFrom := none }) s)
    (F.HIER_WSTATE_STATE w) 0) (F.HIER_WSTATE_REASON w) 2

/-- WORKER_HB_TIMEOUT. -/
def execWorkerHbTimeout (w : Fin 16) (s : State) : Out :=
  let st := getF s (F.HIER_WSTATE_STATE w.val)
  .next (if isManager s && hierSpeaks s && 1 ≤ w.val && (st == 1 || st == 2) &&
      getF s F.HIER_CFG_HB_TO ≤ getF s (F.HIER_WSTATE_MISSED w.val) then workerLost w.val 1 s else s)

/-! ### Heartbeats (R395, R396) -/

/-- This unit's heartbeat (R389). -/
def ladleHb (s : State) : List Byte :=
  let t := (tbOf s (followTb s)).time
  let ns := (t / nsUnit).toNat
  let live : Nat := if running s then (livePat s).patId else 0
  leBytes 1 (getF s F.HIER_CFG_UNIT) ++ leBytes 1 (getF s F.HIER_CFG_ROLE) ++ leBytes 1 (getF s F.HIER_STATE_STATE) ++
  leBytes 1 (b2n (running s)) ++ leBytes 4 0 ++ leBytes 8 (blk s) ++ leBytes 8 live ++ leBytes 1 (b2n (rate96 s)) ++
  leBytes 7 0 ++ leBytes 8 (ns / 1000000000) ++ leBytes 4 (ns % 1000000000) ++
  leBytes 2 ((t % nsUnit) / 2 ^ 32).toNat ++ leBytes 2 0 ++
  leBytes 2 (if isManager s then 2 * getF s F.HIER_STATE_MEMBERS else 0) ++ leBytes 14 0

/-- A worker's heartbeat at the manager: a changed Pattern or rate loses it, and the first one after its JOIN_REQ shows whether
its rate is the manager's. -/
def workerBeat (b : List Byte) (s : State) : State :=
  let w := leAt b 0 1
  if !(1 ≤ w && w ≤ 15 && bit (rdN s R.HIER_WMASK) w) then s
  else
    let pat := leAt b 16 8
    let rate := leAt b 24 1
    let old := workerOf s w
    let st := getF s (F.HIER_WSTATE_STATE w)
    let s := workerMod w (fun x => { x with hb := true, patId := some pat, rate := rate }) s
    match old.patId with
    | none => if st = 1 ∧ hierSpeaks s ∧ rate ≠ b2n (rate96 s) then showMembers (workerRateRefused w s) else s
    | some p =>
      if !(st == 1 || st == 2) || !hierSpeaks s then s
      else if p ≠ pat then workerLost w 3 s
      else if old.rate ≠ rate then workerLost w 2 s
      else s

/-- The active manager's heartbeat at its standby: MEMBERS (R398). -/
def standbyMembers (b : List Byte) (s : State) : State :=
  let m := leAt b 48 2
  commitReady s (showMembers (forNat 15 (fun i s =>
    let w := i + 1
    if bit m w then setF s (F.HIER_WSTATE_STATE w) 2
    else if getF s (F.HIER_WSTATE_STATE w) = 2 then needDropAll w (setF s (F.HIER_WSTATE_STATE w) 0) else s) s))

/-- The manager's heartbeat at a worker (R396). -/
def managerBeat (f : LadleIn) (b : List Byte) (s : State) : State :=
  if !fromManager f s then hierBad s
  else
    let m := leAt b 48 2
    let mine := bit m (getF s F.HIER_CFG_UNIT)
    let s := { s with hier := { s.hier with manager := some f.src, hb := true } }
    let s := setF s F.HIER_STATE_MEMBERS (m / 2)
    let member := fun (s : State) =>
      setF { s with hier := { s.hier with beenMember := true, forwarded := [], fwdDecided := [] } } F.HIER_STATE_STATE 2
    if !hierSpeaks s then if mine && running s then member s else s
    else match getF s F.HIER_STATE_STATE with
      | 1 => if mine && s.hier.installed then member s else s
      | 2 => if mine then s else hierJoining s
      | 3 => if mine then member s else hierJoining s
      | _ => s

/-- LADLE_HB_RX. -/
def execLadleHbRx (s : State) : Out :=
  .next (match ladleTake 0x13 s with
    | none => s
    | some (f, s) =>
      let b := (f.bytes.drop 24).take 64
      let role := leAt b 1 1
      if isManager s && role == 2 then workerBeat b s
      else if isWorker s && role == 1 then managerBeat f b s
      else if isManager s && role == 1 && !hierSpeaks s then standbyMembers b s
      else hierBad s)

/-- MANAGER_HB_TIMEOUT: a worker that has missed HB_TO heartbeats in a row, also one that has heard none while it joins, is an
ORPHAN, and follows the manager it hears next (R396). -/
def execManagerHbTimeout (s : State) : Out :=
  let st := getF s F.HIER_STATE_STATE
  .next (if isWorker s && (st == 1 || st == 2) && getF s F.HIER_CFG_HB_TO ≤ s.hier.missed then
      raise .hierManagerLost 0 (setF { s with hier := { s.hier with manager := none } } F.HIER_STATE_STATE 3)
    else s)

/-! ### Joining (R397) -/

/-- JOIN_REQ_SEND: a JOINING worker asks once per second. -/
def execJoinReqSend (s : State) : Out :=
  let ready : Bool := s.hier.holdoff ≤ s.msi && (match s.hier.reqAt with
    | none => true
    | some m => decide (m + fsInt s ≤ s.msi + 16))
  .next (if isWorker s && hierSpeaks s && getF s F.HIER_STATE_STATE == 1 && ready then
      let s := { s with hier := { s.hier with
        reqAt := some s.msi, joinSince := some (s.hier.joinSince.getD s.msi), join := [], joinSeq := none, joinEnd := none,
        forwarded := [], fwdDecided := [], installed := false } }
      ladleSend (answerGroup s) 0x14 1 (leBytes 1 (getF s F.HIER_CFG_UNIT) ++ leBytes 7 0) s
    else s)

/-- JOIN_REQ_RX: the manager refuses another rate, or records the worker for the next boundary's snapshot. -/
def execJoinReqRx (s : State) : Out :=
  .next (match ladleTake 0x14 s with
    | none => s
    | some (f, s) =>
      let w := leAt f.bytes 24 1
      if !isManager s then hierBad s
      else if !hierSpeaks s || !(1 ≤ w && w ≤ 15 && bit (rdN s R.HIER_WMASK) w) then s
      else if (workerOf s w).patId.isSome && (workerOf s w).rate != b2n (rate96 s) then setF s (F.HIER_WSTATE_REASON w) 2
      else
        let s := setF (setF (setF s (F.HIER_WSTATE_STATE w) 1) (F.HIER_WSTATE_REASON w) 0) (F.HIER_WSTATE_MISSED w) 0
        showMembers (workerMod w (fun x => { x with asked := true, installed := false, joinFrom := none }) s))

/-- The join is aborted; the worker asks again after 1 s. -/
def joinAbort (s : State) : State :=
  raise .hierJoinFail 0 { s with hier := { s.hier with
    reqAt := none, joinSince := none, join := [], joinSeq := none, joinEnd := none, holdoff := s.msi + fsInt s } }

/-- A worker that collects a snapshot. -/
def collecting (s : State) : Bool :=
  isWorker s && hierSpeaks s && getF s F.HIER_STATE_STATE == 1 && s.hier.reqAt.isSome && !s.hier.installed &&
    s.hier.joinEnd.isNone

/-- The frame follows the one before it in the snapshot. -/
def joinInOrder (f : LadleIn) (s : State) : Bool :=
  match s.hier.joinSeq with
  | none => true
  | some n => n == f.seq

/-- Take one JOIN_DATA entry. -/
def joinEntry (compact : Bool) (b : List Byte) (s : State) : State :=
  match leAt b 124 1 with
  | 1 =>
    let n := min 8 (leAt b 4 1)
    let o : ObjSnap := { obj := leAt b 0 2, st := leAt b 2 1, seqValid := leAt b 3 1 == 1, high := leAt b 8 4,
                         history := (List.range n).map (fun i => (leAt b (16 + 12 * i) 4, leAt b (20 + 12 * i) 8)),
                         refused := [], cur := none, queue := [] }
    { s with hier := { s.hier with join := s.hier.join ++ [o] } }
  | 2 =>
    let g := (ladleSeg s compact b).1
    let add := fun (o : ObjSnap) => if o.obj = g.rcd.obj then { o with queue := o.queue ++ [g] } else o
    { s with hier := { s.hier with join := s.hier.join.map add } }
  | _ => s

/-- JOIN_DATA_RX. -/
def execJoinDataRx (s : State) : Out :=
  .next (match ladleTake 0x15 s with
    | none => s
    | some (f, s) =>
      if !isWorker s || !fromManager f s then hierBad s
      else if !collecting s then s
      else if !joinInOrder f s then joinAbort s
      else
        let s := { s with hier := { s.hier with joinSeq := some ((f.seq + 1) % 2 ^ 32) } }
        forEach (f.entries 128) (joinEntry f.compact) s)

/-- JOIN_END_RX: a snapshot that serves this worker is installed at its next boundary. -/
def execJoinEndRx (s : State) : Out :=
  .next (match ladleTake 0x16 s with
    | none => s
    | some (f, s) =>
      if !isWorker s || !fromManager f s then hierBad s
      else if !collecting s then s
      else if !joinInOrder f s then joinAbort s
      else if bit (leAt f.bytes 32 2) (getF s F.HIER_CFG_UNIT) then
        { s with hier := { s.hier with joinEnd := some (leAt f.bytes 24 8) } }
      else { s with hier := { s.hier with join := [], joinSeq := none } })

/-- JOIN_TIMEOUT: no JOIN_END within 2 s of the request. -/
def execJoinTimeout (s : State) : Out :=
  .next (match s.hier.joinSince with
    | some m =>
      if isWorker s && getF s F.HIER_STATE_STATE == 1 && !s.hier.installed && s.hier.joinEnd.isNone &&
          m + 2 * fsInt s ≤ s.msi + 16 then joinAbort s
      else s
    | none => s)

/-- A snapshot's object overwrites the worker's own state of an allocated object; records that await their decision stay. -/
def joinObject (x : ObjSnap) (s : State) : State :=
  let ent := fun (g : Seg) => ({ seg := g, pending := false, removed := false, item := none, committed := false, litem := 0,
                                 needed := [], src := 6, acks := [] } : QEnt)
  let known := fun (q : QEnt) => x.history.any (fun h => h.1 == q.seg.rcd.seq)
  if (objOf s x.obj).st = 0 then s
  else objMod x.obj (fun o => { o with
    st := if o.st = 3 then 3 else if x.st = 3 then 1 else x.st, seqValid := x.seqValid, high := x.high, history := x.history,
    refused := [], cur := none, clamped := false,
    queue := x.queue.map ent ++ o.queue.filter (fun q => q.pending && !known q) }) s

/-- A forwarded record that the snapshot does not hold, with the decision that came since. -/
def joinReplay (x : Nat × Seg) (s : State) : State :=
  let g := x.2
  let obj := g.rcd.obj
  let seq := g.rcd.seq
  let o := objOf s obj
  if o.st = 0 ∨ o.history.any (fun h => h.1 == seq) then s
  else
    let s := if (pendingOf o seq).isSome then s else stageRec 6 none x.1 [] g s
    match s.hier.fwdDecided.find? (fun d => d.1 == x.1), pendingOf (objOf s obj) seq with
    | some (_, v), some q => if v = 1 then workerConfirm obj q s else workerDiscard obj q s
    | _, _ => s

/-- Install the snapshot, apply the forwarded records in LITEM order, and answer. -/
def joinInstall (s : State) : State :=
  let s := forEach s.hier.join joinObject s
  let s := forEach (s.hier.forwarded.mergeSort (fun a b => a.1 ≤ b.1)) joinReplay s
  let s := { s with hier := { s.hier with join := [], joinEnd := none, joinSince := none, forwarded := [], fwdDecided := [],
                                          installed := true } }
  ladleSend (answerGroup s) 0x11 1 (ladleAckEntry s 0xFFFFFFFF 1 0) s

/-- JOIN_DATA entries of an object: its own, and one for each accepted segment (R389). -/
def joinEntries (o : Nat) (x : ObjSt) : List (List Byte) :=
  let hist := x.history.flatMap (fun h => leBytes 4 h.1 ++ leBytes 8 h.2)
  let segs := (match x.cur with
    | some g => [g]
    | none => []) ++ (x.queue.filter (fun q => !q.pending && !q.removed)).map (fun q => q.seg)
  (leBytes 2 o ++ leBytes 1 x.st ++ leBytes 1 (b2n x.seqValid) ++ leBytes 1 x.history.length ++ leBytes 3 0 ++
    leBytes 4 x.high ++ leBytes 4 0 ++ hist ++ leBytes (96 - hist.length) 0 ++ leBytes 12 0 ++ leBytes 1 1 ++ leBytes 3 0) ::
  segs.map (fun g => recBytes112 g.rcd ++ leBytes 8 g.e ++ leBytes 4 0 ++ leBytes 1 2 ++ leBytes 3 0)

/-- The snapshot for the workers that asked, at a boundary. -/
def joinSnapshot (s : State) : State :=
  let ws := (List.range 16).filter (fun w => (workerOf s w).asked && getF s (F.HIER_WSTATE_STATE w) == 1)
  if ws.isEmpty then s
  else
    let data := (s.intake.objs.filter (fun x => x.2.st != 0)).flatMap (fun x => joinEntries x.1 x.2)
    let s := ladleSendAll (ladleGroup s) 0x15 128 15 data s
    let mask := ws.foldl (fun m w => m + 2 ^ w) 0
    let s := ladleSend (ladleGroup s) 0x16 1 (leBytes 8 (blk s) ++ leBytes 2 mask ++ leBytes 6 0) s
    forEach ws (fun w s => workerMod w (fun x => { x with asked := false, joinFrom := some (blk s) }) s) s

/-! ### The strobe -/

/-- The manager at a strobe: new members, resends, decisions once more, missed heartbeats, snapshots (R391, R393, R395). -/
def managerStrobe (s : State) : State :=
  let ready := (List.range 16).filter (fun w => (workerOf s w).installed && getF s (F.HIER_WSTATE_STATE w) == 1)
  let other := fun (w : Nat) => (workerOf s w).patId.isSome && (workerOf s w).rate != b2n (rate96 s)
  let new := ready.filter (fun w => !other w)
  let s := forEach (ready.filter other) workerRateRefused s
  let s := forEach new (fun w s =>
    let s := setF (setF s (F.HIER_WSTATE_STATE w) 2) (F.HIER_WSTATE_MISSED w) 0
    cnt (setBit (workerMod w (fun x => { x with installed := false, joinFrom := none }) s) F.HIER_STAT_JOINED) R.HIER_JOIN_CNT) s
  let s := showMembers s
  let open_ := s.intake.objs.flatMap (fun x => (x.2.queue.filter (fun q =>
    q.pending && q.litem != 0 && !q.needed.isEmpty)).map (fun q => ladleRecEntry q.seg q.litem))
  let s := ladleSendAll (ladleGroup s) 0x10 128 15 open_ (cntAdd s R.HIER_RESEND_CNT open_.length)
  let s := ladleSendAll (ladleGroup s) 0x12 8 128 (s.hier.redecide.map ladleDecideEntry)
    { s with hier := { s.hier with redecide := [] } }
  let s := forNat 15 (fun i s =>
    let w := i + 1
    let st := getF s (F.HIER_WSTATE_STATE w)
    let n := getF s (F.HIER_WSTATE_MISSED w)
    if st = 1 ∨ st = 2 then
      workerMod w (fun x => { x with hb := false })
        (setF s (F.HIER_WSTATE_MISSED w) (if (workerOf s w).hb then 0 else min 65535 (n + 1)))
    else s) s
  joinSnapshot s

/-- A worker at a strobe: the snapshot, its answers once more, missed heartbeats (R392, R396, R397). -/
def workerStrobe (s : State) : State :=
  let s := if s.hier.joinEnd.isSome && hierSpeaks s then joinInstall s else s
  let again := s.hier.answers.filter (fun a => s.hier.again.contains a.1)
  let s := { s with hier := { s.hier with
    again := [], hb := false,
    missed := if s.hier.hb || !(getF s F.HIER_STATE_STATE == 1 || getF s F.HIER_STATE_STATE == 2) then 0 else s.hier.missed + 1 } }
  ladleSendAll (answerGroup s) 0x11 8 128 (again.reverse.map (fun a => ladleAckEntry s a.1 a.2.1 a.2.2)) s

/-- The ladle at a strobe, before the segments of the block (LADLE_RESEND, R395). -/
def hierStrobe (s : State) : State :=
  if !isManager s && !isWorker s then s
  else
    let s := if isWorker s then workerStrobe s else if hierSpeaks s then managerStrobe s else s
    if !hierSpeaks s then s
    else ladleSend (if isManager s then ladleGroup s else answerGroup s) 0x13 1 (ladleHb s) s

/-- A new active manager (R398): it sends again what it holds pending, and CONFIRM for what the takeover made final. -/
def managerTakeover (final : List Nat) (s : State) : State :=
  if !isManager s then s
  else
    let held := s.intake.objs.flatMap (fun x => (x.2.queue.filter (fun q =>
      q.pending && q.litem != 0)).map (fun q => ladleRecEntry q.seg q.litem))
    let s := ladleSendAll (ladleGroup s) 0x10 128 15 held s
    let s := ladleBatch (forEach final (fun l s => ladleDecide l 1 0 s)) s
    setF s F.HIER_STATE_STATE (if running s then 2 else 0)

/-! ### The SYNC chain (R399) -/

/-- SYNC_OUT is high during every block whose index is a multiple of 16. -/
def syncOut (s : State) : Bool := getF s F.HIER_CFG_SYNC_EN == 1 && blk s % 16 == 0

/-- SYNC_IN_EDGE: the edge's offset from the nearest own strobe of a block whose index is a multiple of 16; or, with
SYNC_SEAT set and the loop in ACQUIRE, the seat of the counter. -/
def execSyncInEdge (stamp : Nat) (s : State) : Out :=
  let n := followTb s
  let at_ := tbAt s n stamp - getF s F.HIER_SYNC_CFG_DLY * nsUnit
  let period : Int := 256 * secUnit / fsInt s
  let d := at_ - (tbOf s n).time + (blk s % 16 : Nat) * (period / 16)
  let d := if period < 2 * d then d - period else d
  .next (if getF s F.HIER_CFG_SYNC_EN = 0 then s
    else
      let s := if syncSeats s ∧ !running s ∧ getF s F.TSU_ML_STATE_STATE = 0 ∧ tbUsable s n then
          let s := epochLoad s
          let m := derivedAt (fsInt s) (epoch s) at_
          loopSeated (seatAt ((m + 128) / 256 * 256) s)
        else s
      let s := wrN s R.HIER_SYNC_OFS (code 32 (satS 32 (d / 2 ^ 40)))
      if getF s F.HIER_SYNC_CFG_LIM * nsUnit < d.natAbs then raise .hierSync 0 s else s)

end Sys2Proof.Machine
end

