-- ==== Sys2Proof/Machine/Claim.lean ====
section
/-! DEFINITION. The claim bus: frames and lines, roles, takeover, yield, drill and renormalisation
(spec/16_redundant_pair.md R354 to R365, R372 to R374, R381, R383; spec/24_bringup_example.md R500, R501). -/

namespace Sys2Proof.Machine

/-! ### Claim words (R355) -/

/-- The word of a role: bit 15 ACTIVE, bits 14 to 4 the epoch, bits 3 to 0 the rank. -/
def claimWordOf (active : Bool) (e rank : Nat) : Nat := b2n active * 2 ^ 15 + e % 2048 * 16 + rank % 16

/-- What the unit sends in a role (R354): nothing in LISTEN, in YIELDED and on a lone unit. -/
def wordOf (s : State) : Option Nat :=
  match getF s F.CLM_STATE_ROLE with
  | 2 => some (claimWordOf false s.clm.epoch (getF s F.CLM_CFG_RANK))
  | 3 => some (claimWordOf true s.clm.epoch (getF s F.CLM_CFG_RANK))
  | _ => none

/-- Show the word in CLM_STATE. -/
def showWord (s : State) : State := setF s F.CLM_STATE_WORD ((wordOf s).getD 0)

/-- The epoch of a word, and whether it is an active one. -/
def wordEpoch (w : Nat) : Nat := w / 16 % 2048
def wordActive (w : Nat) : Bool := bit w 15

/-- CRC-8 of a word: polynomial x^8 + x^2 + x + 1, initial value 0, bit 15 of the word first (R357). -/
def crc8 (w : Nat) : Nat :=
  (List.range 16).foldl (fun c i =>
    let top : Bool := bit c 7 != bit w (15 - i)
    let c := c * 2 % 256
    if top then c ^^^ 7 else c) 0

/-- A change of role in block t: shown, and journalled with the word of the new role (R363, R416). -/
def roleChange (role t : Nat) (s : State) : State :=
  let s := showWord (setF s F.CLM_STATE_ROLE role)
  journal .device 5 role (getF s F.CLM_STATE_WORD) (16 * t) s

/-- The epoch rises by one, to 2,047 at most (R364). -/
def raiseEpoch (s : State) : State :=
  let e := min (s.clm.epoch + 1) 2047
  let s := { s with clm := { s.clm with epoch := e } }
  if e = 2047 then raise .clmEpochSat 0 s else s

/-! ### Lines (R359) -/

/-- The state of a line, as CLM_STATE shows it, and the line's registers. -/
def lineState (s : State) (b : Bool) : Nat := getF s (if b then F.CLM_STATE_LINE_B else F.CLM_STATE_LINE_A)
def lineOf (s : State) (b : Bool) : ClaimLine := if b then s.clm.lineB else s.clm.lineA

/-- Both lines are FAULTY: no unit changes role (R360). -/
def linesDead (s : State) : Bool := lineState s false == 2 && lineState s true == 2

/-- MISMATCH: with the link UP, the word won is not the higher of the unit's own and the one in the peer's heartbeat. -/
def mismatch (s : State) (w : Nat) : Bool :=
  flkUp s && s.flk.hbNow && w != max (s.clm.sending.getD 0) (getF s F.CLM_PEER_WORD)

/-- A line error of the block. -/
def lineBad (s : State) (r : ClaimRead) : Bool :=
  r.drive || r.eof || r.stuck || r.skew || (match r.word with
    | none => s.clm.sending.isSome
    | some w => r.crc != crc8 w || mismatch s w)

/-- Judge a line for a block: its error count and state. -/
def judgeLine (b : Bool) (bad : Bool) (s : State) : State :=
  let l := lineOf s b
  let l : ClaimLine := if bad then ⟨l.errRun + 1, 0⟩ else ⟨0, l.cleanRun + 1⟩
  let was := lineState s b
  let st := if bad then (if 3 ≤ l.errRun ∨ was = 2 then 2 else 1) else if 64 ≤ l.cleanRun then 0 else was
  let s := if b then { s with clm := { s.clm with lineB := l } } else { s with clm := { s.clm with lineA := l } }
  let s := setF s (if b then F.CLM_STATE_LINE_B else F.CLM_STATE_LINE_A) st
  let s := if bad then cnt s (if b then R.CLM_ERR_B_CNT else R.CLM_ERR_A_CNT) else s
  if st = 2 ∧ was ≠ 2 then raise .clmLineFault (b2n b) s else s

/-! ### Becoming active (R363, R372, R374) -/

/-- Held items whose COMMIT this standby has sent become final; a record that still awaits workers stays pending here.  The
LITEMs made final come with it. -/
def takeoverItems (s : State) : State × List Nat :=
  let prov := s.flk.held.filter (fun p => !p.final)
  let s := { s with flk := { s.flk with held := s.flk.held.filter (fun p => p.final) } }
  prov.foldl (fun (a : State × List Nat) p =>
    let (s, done) := a
    match p.item with
    | .record g litem _ =>
      if awaitsWorkers p.item s then
        (objMod g.rcd.obj (fun o => { o with queue := o.queue.map (fun q =>
          if q.pending && q.seg.rcd.seq == g.rcd.seq then { q with item := none } else q) }) s, done)
      else (itemFinal p.item (blk s + 1) s, if litem = 0 then done else done ++ [litem])
    | it => (itemFinal it (blk s + 1) s, done)) (s, [])

/-- A RENORM that waits is discarded at a takeover (R383). -/
def renormSuperseded (s : State) : State :=
  if s.clm.renorm.isSome then clmRefuse 2 7 { s with clm := { s.clm with renorm := none, renormFinal := false } } else s

/-- The gate at the decision point (R361): it opens for a block that the active unit has won, and lets the held packets of the
last two strobes out (R374).  Where it closes, the converter channels and the port pins are released at once (R320, R349). -/
def gateDecide (won : Bool) (s : State) : State :=
  let role := getF s F.CLM_STATE_ROLE
  let was := getF s F.CLM_STATE_HOLDER
  if role = 4 ∧ won then s
  else
    let open_ : Bool := role == 3 && won && s.clm.armed
    let s := setF s F.CLM_STATE_HOLDER (b2n open_)
    if open_ && was == 0 then releaseHeld (blk s - 1) s
    else if !open_ && was == 1 then apdRelease (dacGateClosed s)
    else s

/-- The unit becomes ACTIVE at the decision point of block t, with its gate open if it has won t.  A snapshot, replay or join
under way ends (R379), and what it held provisional is final before a RENORM or DRILL that waits is discarded (R372, R383).  An
election at the pour block is no takeover (R500). -/
def becomeActive (won : Bool) (s : State) : State :=
  let t := blk s
  let quiet : Bool := !s.clm.activeSeen && s.pat.pouredAt == some t
  let stale : Bool := sync s == 7
  let (s, done) := takeoverItems (syncInterrupt s)
  let s := raiseEpoch (renormSuperseded s)
  let s := { s with clm := { s.clm with wins := 0, force := none, yieldAt := none, yielded := none, drill := none,
                                        drillFinal := false, drillRun := none, drillBase := t, takeover := some t,
                                        activeSeen := true, lastActive := some t } }
  let s := roleChange 3 t (snapDrop s)
  let s := setF { s with flk := { s.flk with undecided := [], snapAsked := false, snapFor := none } } F.FLK_STATE_SYNC 0
  let s := apdTakeover (managerTakeover done (gateDecide won s))
  if quiet then s
  else
    let s := raise .clmTakeover 0 (cnt s R.CLM_TKO_CNT)
    recoverTakeover t (if stale then setBit s F.CLM_STAT_TKO_STALE else s)

/-- Items that this unit can no longer decide are refused. -/
def refuseUndecided (s : State) : State :=
  ladleBatch (forEach s.flk.undecided (fun i s => itemRefuse i.item (refusalReason i.item 0) (dropItem i.id s))) s

/-- Entry to STANDBY as NOT_READY: after a demotion or a yield (R363). -/
def standbyNotReady (s : State) : State :=
  let s := refuseUndecided s
  let s := { s with clm := { s.clm with wins := 0, drill := none, drillFinal := false, drillRun := none, renorm := none,
                                        renormFinal := false, force := none, yieldAt := none, yielded := none } }
  let s := { s with flk := { s.flk with snapAsked := false, snapFor := none } }
  syncEnter 8 (roleChange 2 (blk s) s)

/-! ### Frames and the decision point (R357, R358, R360) -/

/-- CLAIM_FRAME_START: the unit puts its word on both lines, 2 us after its strobe or at an earlier edge. -/
def execClaimFrameStart (s : State) : Out :=
  .next (if isPair s then { s with clm := { s.clm with sending := wordOf s, frameOn := true } } else s)

/-- Words on lines that are not FAULTY. -/
def wordsRead (s : State) (a b : ClaimRead) : List Nat :=
  (if lineState s false = 2 then [] else a.word.toList) ++ (if lineState s true = 2 then [] else b.word.toList)

/-- The unit has won the block (R360). -/
def claimWon (s : State) (own : Option Nat) (a b : ClaimRead) (badA badB : Bool) : Bool :=
  let use := (if lineState s false = 2 || badA then [] else [a.word]) ++ (if lineState s true = 2 || badB then [] else [b.word])
  own.isSome && !use.isEmpty && use.all (fun w => w == own)

/-- Conditions for a standby that wins to take over or to be elected (R363). -/
def mayTakeOver (s : State) : Bool :=
  let ready : Bool := sync s == 6 || sync s == 7
  let elect : Bool := !s.clm.activeSeen && s.flk.peerRank != some (getF s F.CLM_CFG_RANK)
  getF s F.CLM_CFG_TKO_N ≤ s.clm.wins && (ready || elect) && running s && mediaLocked s

/-- The standby's decision. -/
def decideStandby (won : Bool) (top : Nat) (s : State) : State :=
  let s := if s.clm.epoch < top then showWord (epochTake top s) else s
  let forced : Bool := match s.clm.force with
    | some b => decide (b < blk s)
    | none => false
  if forced || mayTakeOver s then becomeActive won s else s

/-- The active unit's decision: demoted by a higher active word; or it yields. -/
def decideActive (own : Nat) (words : List Nat) (s : State) : State :=
  let due : Bool := match s.clm.yieldAt with
    | some b => decide (b < blk s)
    | none => false
  if words.any (fun w => wordActive w && own < w) then raise .clmDemoted 0 (standbyNotReady s)
  else if due then
    roleChange 4 (blk s) { s with clm := { s.clm with yieldAt := none, yielded := some (blk s, false), wins := 0 } }
  else s

/-- The role's decision. -/
def decideRole (won : Bool) (own : Option Nat) (words clean : List Nat) (s : State) : State :=
  let top := (clean.filter wordActive).foldl (fun m w => max m (wordEpoch w)) 0
  match getF s F.CLM_STATE_ROLE with
  | 1 => { s with clm := { s.clm with listenMax := clean.foldl (fun m w => max m (wordEpoch w)) s.clm.listenMax } }
  | 2 => decideStandby won top s
  | 3 => decideActive (own.getD 0) words s
  | 4 =>
    (match s.clm.yielded with
     | some (b, _) => if b < blk s && !s.err.fatal then standbyNotReady s else s
     | none => s)
  | _ => s

/-- CLAIM_DECISION_POINT: lines, the win, the role and the gate. -/
def execClaimDecisionPoint (a b : ClaimRead) (s : State) : Out :=
  .next (
    if !isPair s then s
    else
      let own := s.clm.sending
      let badA := lineBad s a
      let badB := lineBad s b
      let both := linesDead s
      let s := judgeLine true badB (judgeLine false badA s)
      let s := setF (setF s F.CLM_WON_WON_A (a.word.getD 0)) F.CLM_WON_WON_B (b.word.getD 0)
      let read := fun (r : ClaimRead) => r.word.filter (fun w => r.crc == crc8 w)
      let split : Bool := (read a).isSome && (read b).isSome && read a != read b
      let s := if split then raise .clmClaimSplit 0 (cnt s R.CLM_SPLIT_CNT) else s
      let won := claimWon s own a b badA badB
      let words := wordsRead s a b
      let clean := (if badA then [] else a.word.toList) ++ (if badB then [] else b.word.toList)
      let dead := linesDead s
      let s := if dead && !both then raise .clmNoLine 0 s else s
      let s := { s with clm := { s.clm with wins := if won then s.clm.wins + 1 else 0, sending := none, frameOn := false,
                                            sentWord := own } }
      let s := if words.any wordActive then
          { s with clm := { s.clm with activeSeen := true, lastActive := some (blk s) } } else s
      -- with both lines FAULTY no unit changes role, and an active unit keeps driving
      if dead then s else gateDecide won (decideRole won own words clean s))

/-- LISTEN_END: after 64 blocks the unit is a STANDBY with the highest epoch it read (R363); with both lines FAULTY it stays in
LISTEN until one of them has recovered (R360). -/
def execListenEnd (s : State) : Out :=
  .next (if isPair s && getF s F.CLM_STATE_ROLE == 1 && s.clm.listenAt + 64 ≤ dueBlk s && due s (dueBlk s) && !linesDead s then
      let s := { s with clm := { s.clm with wins := 0, activeSeen := false } }
      let s := roleChange 2 (dueBlk s) (epochTake s.clm.listenMax s)
      if flkUp s then syncEnter 1 s else syncEnter 0 s
    else s)

/-- The word to send is lower than the one the unit sent last, or there is none (R361). -/
def wordFalls (s : State) : Bool :=
  match s.clm.sentWord, wordOf s with
  | some a, some b => decide (b < a)
  | some _, none => true
  | none, _ => false

/-- The claim bus at a strobe (R361): the gate closes unless egress has armed it and the unit goes on with a word no lower. -/
def claimStrobe (s : State) : State :=
  let armed : Bool := !s.err.fatal && !s.pwr.clkFail
  let s := { s with clm := { s.clm with armed := armed, sending := none, frameOn := false, takeover := none } }
  if armed && getF s F.CLM_STATE_ROLE == 3 && !wordFalls s then s else setF s F.CLM_STATE_HOLDER 0

/-! ### Commands (R365, R381) -/

/-- CLM_CFG_WRITE. -/
def execClmCfgWrite (via : Src) (v : Word) (s : State) : Out := .next (regWrite via R.CLM_CFG v s)

/-- Why a DRILL or RENORM is refused before its lead is judged: NOT_ACTIVE, BUSY, LINK, NOT_READY. -/
def pairRefusal (busy : Bool) (s : State) : Option Nat :=
  if !isActive s then some 5
  else if busy then some 2
  else if !flkUp s then some 4
  else if s.flk.peerReady != 6 then some 3
  else none

/-- The block that CLM_MSI names. -/
def clmBlock (s : State) : Nat := ceil16 (rd64 s R.CLM_MSI_LO R.CLM_MSI_HI)

/-- CLM_DRILL: judged for block d and mirrored. -/
def execClmDrill (via : Src) (s : State) : Out :=
  let s := journalReg via R.CLM_CMD 1#32 s
  let m := rd64 s R.CLM_MSI_LO R.CLM_MSI_HI
  let d := clmBlock s
  .next (if isPassive s then writeIgnored s
    else match pairRefusal (s.clm.drill.isSome || s.clm.drillRun.isSome) s with
      | some r => clmRefuse 1 r s
      | none =>
        if isLate s m then clmRefuse 1 1 s
        else (mirrorCommand (.drill d) (d - 1) { s with clm := { s.clm with drill := some d, drillFinal := false } }).2)

/-- CLM_RENORM: judged for block r and mirrored. -/
def execClmRenorm (via : Src) (s : State) : Out :=
  let s := journalReg via R.CLM_CMD 2#32 s
  let m := rd64 s R.CLM_MSI_LO R.CLM_MSI_HI
  let r := clmBlock s
  .next (if isPassive s then writeIgnored s
    else match pairRefusal s.clm.renorm.isSome s with
      | some x => clmRefuse 2 x s
      | none =>
        if isLate s m then clmRefuse 2 1 s
        else (mirrorCommand (.renorm r) (r - 1) { s with clm := { s.clm with renorm := some r, renormFinal := false } }).2)

/-- An active word has been read in the 64 blocks before. -/
def activeRecently (s : State) : Bool :=
  match s.clm.lastActive with
  | some b => decide (blk s ≤ b + 64)
  | none => false

/-- CLM_FORCE_ACTIVE. -/
def execClmForceActive (via : Src) (s : State) : Out :=
  let s := journalReg via R.CLM_CMD 3#32 s
  .next (if !isStandby s then clmRefuse 3 6 s
    else if !running s then clmRefuse 3 9 s
    else if !mediaLocked s then clmRefuse 3 10 s
    else if activeRecently s then clmRefuse 3 8 s
    else if s.clm.force.isSome then clmRefuse 3 2 s
    else clmResult 3 0 { s with clm := { s.clm with force := some (blk s) } })

/-- CLM_YIELD. -/
def execClmYield (via : Src) (s : State) : Out :=
  let s := journalReg via R.CLM_CMD 4#32 s
  .next (if !isActive s then clmRefuse 4 5 s
    else if !flkUp s then clmRefuse 4 4 s
    else if s.flk.peerReady != 6 then clmRefuse 4 3 s
    else clmResult 4 0 { s with clm := { s.clm with yieldAt := some (blk s) } })

/-! ### The drill (R381) -/

/-- Block d - 1 at the incoming unit: bipolar channels turn their sources on and settle at the zero-signal code. -/
def drillPrepare (d : Nat) (s : State) : State :=
  let s := { s with clm := { s.clm with drillRun := some d } }
  forNat 32 (fun n s =>
    if dacSt s n = 5 && dacBipolar (dacOf s n) then dacMod n (fun x => { x with sources := true, settling := some .drill }) s
    else s) s

/-- Block d at the outgoing unit: bipolar channels in RUN and the port lanes fade out over 16 frames. -/
def drillFade (d : Nat) (s : State) : State :=
  let s := { s with clm := { s.clm with drillRun := some d } }
  let s := forNat 32 (fun n s =>
    if dacSt s n = 2 && dacBipolar (dacOf s n) then dacMod n (fun x => { x with fadeOut := some 0 }) s else s) s
  { s with apd := { s.apd with claimUp := false } }

/-- Port lanes regain their full level for the next time the unit drives. -/
def lanesRestore (s : State) : State := { s with apd := { s.apd with claimUp := true, claimLevel := 16 } }

/-- Block d + 1 at the outgoing unit: a READY standby with its gate closed. -/
def drillOut (s : State) : State :=
  let s := { s with clm := { s.clm with drill := none, drillFinal := false, drillRun := none, wins := 0 } }
  let s := setF (roleChange 2 (dueBlk s) s) F.CLM_STATE_HOLDER 0
  lanesRestore (syncEnter 6 s)

/-- Block d + 1 with both lines FAULTY: no unit changes role (R360), and the drill ends; what faded out comes back, and a channel
that was brought up is let go. -/
def drillCancel (s : State) : State :=
  let s := { s with clm := { s.clm with drill := none, drillFinal := false, drillRun := none } }
  let s := forNat 32 (fun n s => if (dacOf s n).fadeOut.isSome then dacMod n (fun x => { x with fadeOut := none }) s else s) s
  dacGateClosed { s with apd := { s.apd with claimUp := true } }

/-- Block d + 1 at the incoming unit: active with the next epoch, holding the claim.  No held packet is released: those still held
expire (R362). -/
def drillIn (s : State) : State :=
  let s := raiseEpoch { s with clm := { s.clm with drill := none, drillFinal := false, drillRun := none, wins := 0,
                                                   drillBase := dueBlk s } }
  let s := setF (roleChange 3 (dueBlk s) s) F.CLM_STATE_HOLDER 1
  let s := setF { s with flk := { s.flk with peerReady := 6, undecided := [] } } F.FLK_STATE_SYNC 0
  let (s, done) := takeoverItems s
  recoverTakeover (dueBlk s) (apdTakeover (managerTakeover done s))

/-- DRILL_EXECUTE: what the strobe of d - 1, d or d + 1 brings at this unit. -/
def execDrillExecute (s : State) : Out :=
  .next (match s.clm.drill with
    | none => s
    | some d =>
      if !s.clm.drillFinal then s
      else if due s (d + 1) then (if linesDead s then drillCancel s else if isActive s then drillOut s else if isStandby s then drillIn s else s)
      else if due s d then (if isActive s then drillFade d s else s)
      else if due s (d - 1) then (if isStandby s then drillPrepare d s else s)
      else s)

/-- AUTO_DRILL: DRILL_INT hours after the last drill or the entry to ACTIVE, for 64 blocks ahead. -/
def execAutoDrill (s : State) : Out :=
  let hours := getF s F.CLM_CFG_DRILL_INT
  let d := blk s + 64
  .next (if hours ≠ 0 ∧ standbyReady s ∧ s.clm.drill.isNone ∧ s.clm.drillBase * 16 + hours * 3600 * fsInt s ≤ s.msi then
      (mirrorCommand (.drill d) (d - 1)
        { s with clm := { s.clm with drill := some d, drillFinal := false, drillBase := blk s } }).2
    else s)

/-- RENORM_APPLY: from the frame of block r both units send epoch 1 (R364). -/
def execRenormApply (s : State) : Out :=
  .next (match s.clm.renorm with
    | some r =>
      if s.clm.renormFinal ∧ due s r then
        showWord { s with clm := { s.clm with renorm := none, renormFinal := false, epoch := 1 } }
      else s
    | none => s)

end Sys2Proof.Machine
end

