-- ==== Sys2Proof/Machine/Fabric.lean ====
section
/-! DEFINITION. The control fabric: the address map and its memories, live regions, master resets, the control cores and
their mailboxes, PCIe DMA, boot and the NVM commands (spec/20_control_fabric.md R436 to R457, spec/01_architecture.md R36,
spec/07_render_datapath.md R185, R186). -/

namespace Sys2Proof.Machine

/-! ### The address map (R436, R437, R185) -/

/-- Where a control-core address leads: the target of R438, the bytes reached (none where a region shows nothing), whether it
takes writes, and whether words lie at the 16-byte stride of R14. -/
structure Loc where
  target : Nat
  cells : List Nat
  writable : Bool
  strided : Bool
deriving DecidableEq, Repr

/-- A seat window's tile, and during the sweep of a handover the receiving tile as well (R185). -/
def seatWindow (s : State) (fb : Bool) (q off : Nat) : Loc :=
  let also := match s.seq.ho with
    | some h => if h.swept && h.seat == q && fb == fbSeats s then [tileBase h.dst + off] else []
    | none => []
  match seatTileOf s fb q with
  | some t => ⟨4, (tileBase t + off) :: also, true, true⟩
  | none => ⟨4, [], true, true⟩

/-- An address of the memory regions; none outside every region.  The register space is target 0. -/
def locOf (s : State) (a : Nat) : Option Loc :=
  let inW := fun (base size : Nat) => base ≤ a && a < base + size
  if a < 0x200000 then
    if getF s F.SYS_CTL_REMAP = 1 then some ⟨1, [sramBase + a], true, false⟩
    else some ⟨2, if a < 0x20000 then [romBase + a] else [], false, false⟩
  else if inW sramBase 0x200000 then some ⟨1, [a], true, false⟩
  else if inW romBase 0x20000 then some ⟨2, [a], false, false⟩
  else if inW 0x40000000 0x1000000 then some ⟨0, [], true, false⟩
  else if inW 0x80000000 (17 * 0x800000) then some ⟨4, [a], true, true⟩
  else if inW 0x90000000 (16 * 0x800000) then
    some (seatWindow s false ((a - 0x90000000) / 0x800000) ((a - 0x90000000) % 0x800000))
  else if inW 0x98000000 (15 * 0x800000) then
    some (seatWindow s true ((a - 0x98000000) / 0x800000) ((a - 0x98000000) % 0x800000))
  else if inW poolBase 0x4000000 then some ⟨3, [a], true, true⟩
  else if inW 0xB0000000 (17 * 0x100000) then some ⟨4, [a], true, false⟩
  else if inW nvmBase 0x4000000 then some ⟨6, [a], false, false⟩
  else if inW dramBase 0x200000000 then some ⟨5, [a], true, true⟩
  else none

/-! ### Live regions (R36, R186, R230, R335) -/

/-- DRAM words that the tables in force access, in any phase. -/
def dramClaimed (s : State) (w : Nat) : Bool :=
  s.seq.ran.any (fun x => tableMeets x.2.r96 x.2.tab w 1)

/-- Words of a tile's memory that the table it runs touches, in any phase, and its window table (R171, R186). -/
def tileLive (s : State) (t w : Nat) : Bool :=
  match tileSeat s t with
  | none => false
  | some q => 0x7E000 ≤ w || (everyStep (decodeAll (calRows (rate96 s)) (seatTable s q))).any (fun e =>
      (touches e).any (fun x => x.space == 0 && x.lo ≤ w && w < x.lo + x.len))

/-- The capture buffer while the state is RUN. -/
def captureLive (s : State) (w : Nat) : Bool :=
  match s.cap with
  | none => false
  | some c => getF s F.CAP_STATE_STATE == 2 && c.vals.base ≤ w && w < c.vals.base + (c.vals.len * c.vals.ch + 1) / 2

/-- Is a byte of a memory in a live region?  At a new active unit on which a mirrored route commit is still pending the shadow
table stays writable (log 278). -/
def cellLive (s : State) (a : Nat) : Bool :=
  if 0x80000000 ≤ a && a < 0x90000000 then
    running s && tileLive s ((a - 0x80000000) / 0x800000) ((a - 0x80000000) % 0x800000 / 16)
  else if 0xB0000000 ≤ a && a < 0xB2000000 then
    let t := (a - 0xB0000000) / 0x100000
    running s && tileState s t == 1 && getF s (F.SEQ_TSTAT_BANK t) == (a - 0xB0000000) % 0x100000 / 0x80000
  else if poolBase ≤ a && a < poolBase + 0x4000000 then
    let w := (a - poolBase) / 16
    (s.rte.cmt.isSome && shadowBase ≤ w && w < shadowBase + 2 * rdN s R.RTE_SHD_COUNT) ||
      (running s && 0x300000 ≤ w && w < 0x3BA800)
  else if dramBase ≤ a then
    let w := (a - dramBase) / 16
    captureLive s w || (running s &&
      ((w < 2 ^ 26 && (livePat s).objects.any (fun o => o.id == w / 32768)) || dramClaimed s w))
  else false

/-! ### Reads and writes of memory -/

/-- A byte as the matrix reads it (R14). -/
def locRead (s : State) (l : Loc) (a : Nat) : Byte :=
  if l.strided && 9 ≤ a % 16 then 0
  else match l.cells with
    | c :: _ => rdByte s c
    | [] => 0

/-- Write a byte where its region takes it (R14), and in the receiving tile of a handover as well (R108). -/
def locWrite (l : Loc) (a : Nat) (v : Byte) (s : State) : State :=
  if !l.writable || (l.strided && 9 ≤ a % 16) then s
  else (l.cells ++ l.cells.filterMap (hoTwin s)).foldl (fun s c => wrByte s c v) s

/-- Bytes of one beat on a target: four words at their stride, eight bytes of SRAM and other byte-addressed memory (R438). -/
def beatBytes (target : Nat) : Nat := if target = 3 ∨ target = 4 ∨ target = 5 then 64 else if target = 0 then 4 else 8

/-- One beat of a write: discarded whole where it meets a live region (R36, R440). -/
def beatWrite (a : Nat) (bs : List Byte) (s : State) : State :=
  let live : Bool := bs.zipIdx.any (fun p => match locOf s (a + p.2) with
    | some l => l.cells.any (cellLive s)
    | none => false)
  if live then raise .mtxLiveWr 0 s
  else bs.zipIdx.foldl (fun s p => match locOf s (a + p.2) with
    | some l => locWrite l (a + p.2) p.1 s
    | none => s) s

/-- A burst's beats, of which the first keep carry their byte enables (R442).  The number is the recursion's measure. -/
def burstWrite (n keep : Nat) : Nat → Nat → List Byte → State → State
  | 0, _, _, s => s
  | fuel + 1, a, bs, s =>
    if keep = 0 then s
    else match bs with
      | [] => s
      | _ => burstWrite n (keep - 1) fuel (a + n) (bs.drop n) (beatWrite a (bs.take n) s)

/-- Read bytes through the map. -/
def burstRead (s : State) (a len : Nat) : List Byte :=
  (List.range len).map (fun i => match locOf s (a + i) with
    | some l => locRead s l (a + i)
    | none => 0)

/-- Why a transaction has the error response (R441). -/
inductive BusFail where
  | decode
  | resp
deriving DecidableEq, Repr

/-- The tile whose memory a transaction reaches is marked unusable (R432). -/
def tileMarked (s : State) (l : Loc) : Bool :=
  l.target == 4 && l.cells.any (fun c =>
    let t := if c < 0x90000000 then (c - 0x80000000) / 0x800000 else (c - 0xB0000000) / 0x100000
    !tileUsable s t)

/-- Where a transaction leads: at its first and last byte, and every 1 MiB between, which no region or tile is smaller than
where a transaction can be so long. -/
def busSpots (s : State) (a len : Nat) : List (Option Loc) :=
  ((List.range ((len - 1) / 2 ^ 20 + 1)).map (fun i => locOf s (a + 2 ^ 20 * i))) ++ [locOf s (a + (len - 1))]

/-- A transaction meets an error: no region, an unusable one, or DRAM that is not ready (R441, R468). -/
def busFail (s : State) (a len : Nat) : Option BusFail :=
  let spots := busSpots s a len
  if spots.any (fun x => x.isNone) then some .decode
  else if spots.any (fun x => x.any (tileMarked s)) then some .resp
  else if spots.any (fun x => x.any (fun l => l.target == 5)) && getF s F.SYS_CLK_STAT_DRAM_RDY == 0 then some .resp
  else none

/-- Record an error response (R441). -/
def busErr (f : BusFail) (m a : Nat) (s : State) : State :=
  let t := match locOf s a with
    | some l => l.target
    | none => 0
  let s := wrN (wrN (wrN (cnt s R.MTX_ERR_CNT) R.MTX_ERR_ADDR_LO a) R.MTX_ERR_ADDR_HI (a / 2 ^ 32 % 256)) R.MTX_ERR_INFO
    (t * 256 + m)
  let s := { s with fab := { s.fab with busErr := true } }
  match f with
  | .decode => raise .mtxDecode 0 s
  | .resp => raise .mtxErrResp 0 s

/-- An uncorrectable word on a bus matrix read: control state in working SRAM is FATAL, other memories ECC_HOST (R412). -/
def busEcc (m a : Nat) (s : State) : State :=
  let s := eccRecord a (busErr .resp m a s)
  match locOf s a with
  | some l => if l.target = 1 then dacFatal (raise .errEccControl 0 s) else raise .errEccHost 0 s
  | none => s

/-- A write of memory by a master, of which the first keep beats are not masked. -/
def memWrite (m a keep : Nat) (bs : List Byte) (s : State) : State :=
  match busFail s a bs.length with
  | some f => busErr f m a s
  | none =>
    match locOf s a with
    | some l => burstWrite (beatBytes l.target) keep bs.length a bs { s with fab := { s.fab with busErr := false } }
    | none => s

/-- A read of memory by a master: the bytes land in the state; unc are the addresses of uncorrectable words it met. -/
def memRead (m a len : Nat) (unc : List Nat) (s : State) : State :=
  let give := fun (bs : List Byte) (s : State) =>
    { s with rdata := BitVec.ofNat 32 (leNat (bs.take 4)), fab := { s.fab with busData := bs } }
  match busFail s a len, unc with
  | some f, _ => give (List.replicate len 0) (busErr f m a s)
  | none, u :: _ => give (List.replicate len 0) (busEcc m u s)
  | none, [] => give (burstRead s a len) { s with fab := { s.fab with busErr := false } }

/-! ### Masters and cores (R442 to R445) -/

/-- The meaning of a write of MTX_CMD (R442). -/
def execMtxCmdReset (via : Src) (m : Fin 16) (s : State) : Out :=
  let s := journalReg via R.MTX_CMD (BitVec.ofNat 32 m.val) s
  .next (if (4 ≤ m.val && m.val ≤ 9) || m.val == 11 then masterReset m.val s else writeIgnored s)

/-- A core begins to run. -/
def coreStart (n : Nat) (s : State) : State :=
  { s with fab := { s.fab with kickAt := aInsert s.fab.kickAt n s.msi, stopped := s.fab.stopped.filter (· != n) } }

/-- The meaning of a write of CC_RUN (R442). -/
def execCcRunWrite (via : Src) (run : Fin 16) (s : State) : Out :=
  let was := getF s F.CC_RUN_RUN
  let s := wrN (journalReg via R.CC_RUN (BitVec.ofNat 32 run.val) s) R.CC_RUN run.val
  .next (forNat 4 (fun n s =>
    if bit was n && !bit run.val n then masterReset n { s with fab := { s.fab with stopped := s.fab.stopped.filter (· != n) } }
    else if !bit was n && bit run.val n then coreStart n s else s) s)

/-- The meaning of a write of CC_KICKn (R445). -/
def execCcKick (via : Src) (n : Fin 4) (v : Word) (s : State) : Out :=
  let s := journalReg via (R.CC_KICK n.val) v s
  .next { s with fab := { s.fab with kickAt := aInsert s.fab.kickAt n.val s.msi } }

/-- WATCHDOG_EXPIRY: a running core has not kicked for MS milliseconds (R445). -/
def execWatchdogExpiry (n : Fin 4) (s : State) : Out :=
  let ms := getF s F.CC_WDT_MS
  .next (if ms ≠ 0 ∧ bit (getF s F.CC_RUN_RUN) n.val ∧
      aGet (fun _ => 0) s.fab.kickAt n.val + msFrames s ms ≤ s.msi + 1 then
      coreStart n.val (raise .ccWdog n.val (masterReset n.val s))
    else s)

/-- CORE_EXCEPTION: the core stops (R445). -/
def execCoreException (n : Fin 4) (s : State) : Out :=
  .next (if bit (getF s F.CC_RUN_RUN) n.val ∧ !s.fab.stopped.contains n.val then
      mbAbandon n.val (raise .ccCoreExc n.val { s with fab := { s.fab with stopped := n.val :: s.fab.stopped } })
    else s)

/-! ### Mailboxes (R452) and vectors (R449) -/

/-- Signal an MSI-X vector. -/
def signal (v : Nat) (s : State) : State :=
  { s with fab := { s.fab with vectors := v :: s.fab.vectors.filter (· != v) } }

/-- A mailbox is BUSY. -/
def mbBusy (s : State) (n : Nat) : Bool := getF s (F.CC_MBSTAT_STATE n) == 1

/-- The meaning of a write of CC_DBn. -/
def execMailboxDoorbell (via : Src) (n : Fin 4) (seq : BitVec 16) (s : State) : Out :=
  .next (if mbBusy s n.val then writeIgnored s
    else
      let s := wrN s (R.CC_DB n.val) seq.toNat
      setF (setF s (F.CC_MBSTAT_STATE n.val) 1) (F.CC_MBSTAT_ORIGIN n.val) (srcCode via))

/-- The meaning of a write of CC_DONEn by the firmware. -/
def execMailboxDone (n : Fin 4) (seq : BitVec 16) (s : State) : Out :=
  let s := wrN s (R.CC_DONE n.val) seq.toNat
  .next (if mbBusy s n.val && getF s (F.CC_DB_SEQ n.val) == seq.toNat then
      signal (1 + n.val) (setBit (setF s (F.CC_MBSTAT_STATE n.val) 0) F.CC_STAT_DONE n.val)
    else s)

/-- Causes pending at IRQ_N, by vector (R449). -/
def causes (s : State) : Nat :=
  b2n (errIrq s) + 2 * getF s F.CC_STAT_DONE + 32 * b2n (s.fab.vectors.contains 5) + 64 * b2n (s.fab.vectors.contains 6)

/-- IRQ_N is driven low. -/
def irqNLow (s : State) : Bool := causes s &&& getF s F.SYS_IRQ_EN_EN != 0

/-! ### PCIe DMA (R448) -/

/-- The meaning of a write of SYS_DMA_TAIL, under the index rules of R270; index writes are no journal entries (R416). -/
def execDmaTailWrite (_ : Src) (v : Word) (s : State) : Out :=
  let tail := v.toNat % 8192
  .next (if getF s F.SYS_DMA_SIZE_SIZE < (tail + 8192 - getF s F.SYS_DMA_HEAD_HEAD) % 8192 then writeIgnored s
    else setF s F.SYS_DMA_TAIL_TAIL tail)

/-- Does a descriptor keep the rules of R448? -/
def dmaOk (s : State) (d : List Byte) : Bool :=
  let dev := leAt d 8 5
  let n := leAt d 16 4
  let ctl := leAt d 13 1
  leAt d 0 8 % 4 == 0 && dev % 4 == 0 && 4 ≤ n && n ≤ 2 ^ 24 && n % 4 == 0 && ctl < 4 && leAt d 14 2 == 0 &&
    leAt d 24 8 == 0 &&
    (match locOf s dev, locOf s (dev + (n - 1)) with
     | some l, some m => l.target == m.target && [1, 3, 4, 5].contains l.target && 0x10000000 ≤ dev
     | _, _ => false)

/-- A descriptor completes: its index moves, and its vector is signalled. -/
def dmaDone (d : List Byte) (status : Nat) (s : State) : State :=
  let h := getF s F.SYS_DMA_HEAD_HEAD
  let s := setF { s with fab := { s.fab with dmaLast := some (status, h) } } F.SYS_DMA_HEAD_HEAD ((h + 1) % 8192)
  if bit (leAt d 13 1) 1 then signal 5 s else s

/-- DMA_DESCRIPTOR_DONE: the descriptor at HEAD with its 32 bytes in host memory, and for a move to the device the host's
bytes (R448).  A marked region completes it with ERROR (R432). -/
def execDmaDescriptorDone (d host : List Byte) (unc : List Nat) (s : State) : Out :=
  .next (if getF s F.SYS_DMA_HEAD_HEAD = getF s F.SYS_DMA_TAIL_TAIL ∨ getF s F.SYS_DMA_SIZE_SIZE = 0 ∨
        s.bst.held.contains 4 then s
    else if bit (getF s F.BST_MAP_MAP) 20 then dmaDone d 2 s
    else if !dmaOk s d then dmaDone d 3 s
    else
      let n := leAt d 16 4
      let s := if bit (leAt d 13 1) 0 then memRead 4 (leAt d 8 5) n unc s
        else memWrite 4 (leAt d 8 5) n ((host ++ List.replicate n 0).take n) s
      dmaDone d (if s.fab.busErr then 2 else 1) s)

/-! ### NVM commands (R453, R456) -/

/-- NVM offset and size of an area: boot image A, boot image B, the DAC records. -/
def nvmArea : Nat → Nat × Nat
  | 0 => (0x100000, 0x400000)
  | 1 => (0x500000, 0x400000)
  | _ => (0x6000, 0x1000)

/-- Erase an area: a boot image area reads as a part of memory that nothing has written; the DAC area holds zeros. -/
def nvmErase (area : Nat) (s : State) : State :=
  let (off, n) := nvmArea area
  if area < 2 then { s with mem := s.mem.filter (fun c => !(nvmBase + off ≤ c.1 && c.1 < nvmBase + off + n)) }
  else wrBytes s (nvmBase + off) (List.replicate n 0)

/-- NVM_STATE.REASON of a command: 0 accepted, 1 BUSY, 2 IN_USE, 3 RANGE. -/
def nvmReason (s : State) (area : Nat) : Nat :=
  let storing : Bool := match s.pat.busy with
    | some (.store _) => true
    | _ => false
  if s.fab.nvm.isSome || storing then 1
  else if area < 2 && s.fab.boot == 2 && s.fab.bootCopy.1 == (area == 1) then 2
  else if area = 3 ∨ (nvmArea area).2 < rdN s R.NVM_LEN ∨ 2 ^ 29 < rdN s R.NVM_SRC + (rdN s R.NVM_LEN + 8) / 9 then 3
  else 0

/-- The meaning of the PROGRAM command. -/
def execNvmProgram (via : Src) (area : Fin 4) (s : State) : Out :=
  let s := journalReg via R.NVM_CMD (BitVec.ofNat 32 (256 * area.val + 1)) s
  let r := nvmReason s area.val
  let s := setF s ⟨R.NVM_STATE, 7, 0⟩ r
  .next (if r ≠ 0 then raise .nvmRefused 0 s
    else
      let s := setF s ⟨R.NVM_STATE, 31, 31⟩ 1
      nvmErase area.val { s with fab := { s.fab with nvm := some (area.val, rdN s R.NVM_SRC, rdN s R.NVM_LEN) } })

/-- NVM_PROGRAM_DONE: programmed and read back; bad says that the read-back differs. -/
def execNvmProgramDone (bad : Bool) (s : State) : Out :=
  .next (match s.fab.nvm with
    | none => s
    | some (area, src, len) =>
      let s := setF { s with fab := { s.fab with nvm := none } } ⟨R.NVM_STATE, 31, 31⟩ 0
      if bad then raise .nvmProgFail 0 (setBit s F.NVM_STAT_DONE)
      else
        setBit (wrBytes s (nvmBase + (nvmArea area).1) (rdPacked s dramBase src len)) F.NVM_STAT_DONE)

/-! ### Boot (R454, R455) -/

/-- The header of a copy. -/
def bootHdr (s : State) (b : Bool) : List Byte := rdBytes s (nvmBase + (nvmArea (b2n b)).1) 64

/-- GEN of a copy. -/
def bootGen (s : State) (b : Bool) : Nat := leAt (bootHdr s b) 4 4

/-- Body length of a copy. -/
def bootLen (s : State) (b : Bool) : Nat := leAt (bootHdr s b) 8 4

/-- The body of a copy. -/
def bootBody (s : State) (b : Bool) : List Byte := rdBytes s (nvmBase + (nvmArea (b2n b)).1 + 64) (bootLen s b)

/-- A copy is valid (R454). -/
def bootValid (s : State) (b : Bool) : Bool :=
  let h := bootHdr s b
  let n := bootLen s b
  leAt h 0 4 == 0x544F4246 && 8 ≤ n && n ≤ 2097152 && n % 8 == 0 && crc32c (h.take 60) == leAt h 60 4 &&
    decide (leAt h 12 2 ≤ Config.dieRev.toNat) && crc32c (bootBody s b) == leAt h 56 4

/-- The copy in force; none where no copy is valid. -/
def bootInForce (s : State) : Option Bool :=
  match bootValid s false, bootValid s true with
  | true, true => some (decide (bootGen s false < bootGen s true))
  | true, false => some false
  | false, true => some true
  | false, false => none

/-- BOOT_LOAD: after the core PLL locks, CC0 alone runs the loader (R455). -/
def execBootLoad (s : State) : Out :=
  .next (if !s.pwr.pll || s.fab.boot != 0 then s
    else match bootInForce s with
      | none => { s with fab := { s.fab with boot := 1, bootCopy := (false, 0, 0) } }
      | some b => { s with fab := { s.fab with boot := 1, bootCopy := (b, bootGen s b, bootLen s b) } })

/-- The image is loaded: working SRAM, REMAP, NVM_BOOT, CC1 to CC3. -/
def bootEnd (b : Bool) (gen len : Nat) (s : State) : State :=
  let s := wrBytes s sramBase (rdBytes s (nvmBase + (nvmArea (b2n b)).1 + 64) len)
  let s := setF { s with fab := { s.fab with boot := 2 } } F.SYS_CTL_REMAP 1
  let s := wrN s R.NVM_BOOT (b2n b * 2 ^ 31 + gen % 2 ^ 31)
  let s := coreStart 3 (coreStart 2 (coreStart 1 (wrN s R.CC_RUN 15)))
  if !bootValid s (!b) && decide (gen < bootGen s (!b)) then raise .nvmBootAlt 0 s else s

/-- BOOT_LOAD_DONE: bad says that the body failed its second check. -/
def execBootLoadDone (bad : Bool) (s : State) : Out :=
  .next (if s.fab.boot ≠ 1 then s
    else
      let (b, gen, len) := s.fab.bootCopy
      if bad || len == 0 then raise .nvmBootNone 0 { s with fab := { s.fab with boot := 3 } }
      else bootEnd b gen len s)

end Sys2Proof.Machine
end

