-- ==== Sys2Proof/Machine/Pour.lean ====
section
/-! DEFINITION. The pour, the stop and the join pour at their strobes (spec/03_pattern.md R80 to R84, R508;
spec/02_media_time_and_latency.md R47, R49; spec/16_redundant_pair.md R376, R377). -/

namespace Sys2Proof.Machine

/-! ### What the pour or the stop discards (R81, R84) -/

/-- A register whose write awaits its transfer to the live copy, among those the render reads. -/
def transferWaits (s : State) (off : Nat) : Bool :=
  (chanShadow off || (shadowed.contains off && !(off < 0x10000) && off < 0x900000)) && rd s off != rdLive s off

/-- Shadow transfers that are due are discarded: the register returns to its live value. -/
def dropTransfers (s : State) : State :=
  let offs := (((s.regs.map (fun p => p.1)) ++ (s.live.map (fun p => p.1))).eraseDups).filter (transferWaits s)
  forEach offs (fun off s => raise .patSuperseded 0 (cnt (wr s off (rdLive s off)) R.PAT_POUR_DISC)) s

/-- Mirrored register writes that would apply at block k or after it are discarded. -/
def dropMirrored (k : Nat) (s : State) : State :=
  let hit := fun (p : ProvItem) => match p.item, p.applyAt with
    | .regWrite _ _, some b => decide (k ≤ b)
    | _, _ => false
  let n := (s.flk.held.filter hit).length
  let s := { s with flk := { s.flk with held := s.flk.held.filter (fun p => !hit p) } }
  if n = 0 then s else raise .patSuperseded 0 (cntAdd s R.PAT_POUR_DISC n)

/-- Amendments, route commits and register transfers due at or after block k are discarded. -/
def discardDue (k : Nat) (s : State) : State :=
  let s := match s.pat.amend with
    | some a => if k ≤ a.block then superseded 7 (a.amdId % 2 ^ 16) (amendDrop s) else s
    | none => s
  let s := rteSupersede k s
  if s.pat.live.isSome then dropMirrored k (dropTransfers s) else s

/-! ### The new count (R47, R49, R82, R508) -/

/-- A number moved by a difference. -/
def moved (d : Int) (x : Nat) : Nat := ((x : Int) + d).toNat

/-- The first frame of the new count that begins at or after the start of frame m of the old one: rates, epoch offsets, and
the new media time base's time less the old one's. -/
def convFrame (fo fn : Nat) (eo en delta m : Int) : Int :=
  let num := ((m - eo) * secUnits + delta * fo) * fn
  let den := fo * secUnits
  en - (-num) / den

/-- Block b of the old count in the new one. -/
def convBlock (f : Int → Int) (b : Nat) : Nat := ((f (16 * b) + 15) / 16).toNat

/-- A segment in the new count. -/
def convSeg (f : Int → Int) (g : Seg) : Seg := { g with e := convBlock f g.e, origin := f g.origin }

/-- An object in the new count. -/
def convObj (f : Int → Int) (o : ObjSt) : ObjSt :=
  { o with history := o.history.map (fun h => (h.1, convBlock f h.2)), cur := o.cur.map (convSeg f),
           queue := o.queue.map (fun q => { q with seg := convSeg f q.seg }),
           cmd := o.cmd.map (fun c => (c.1, convBlock f c.2)) }

/-- An undecided item in the new count, before what it counts in blocks goes on: a record keeps its conversion by R82. -/
def convItem (f : Int → Int) (back : Nat → Nat) (i : MirItem) : MirItem :=
  match i.item with
  | .record g litem needed => { i with item := .record (convSeg f g) litem needed,
                                       deadline := i.deadline.map (fun d => convBlock f (back d)) }
  | _ => i

/-- The values of a table, changed. -/
def tmap {α : Type} (f : α → α) (t : Tbl α) : Tbl α := t.map (fun (p : Nat × α) => (p.1, f p.2))

/-- Ages and waits of the contexts and channels that are counted in blocks and frames go on. -/
def rebaseUnits (b m : Nat → Nat) (s : State) : State :=
  let rx := fun (x : RxCtx) =>
    { x with frames := [], last := x.last.map m, lastA := x.lastA.map m, lastB := x.lastB.map m,
             lastHeld := x.lastHeld.map m, startAt := x.startAt.map b, stopAt := x.stopAt.map b }
  let pkt := fun (k : TxPkt) => { k with built := b k.built }
  let tx := fun (x : TxCtx) =>
    { x with gathered := [], startAt := x.startAt.map b, stopAt := x.stopAt.map b, held := x.held.map pkt }
  let grp := fun (x : ApdGroup) => { x with startAt := x.startAt.map b, stopAt := x.stopAt.map b }
  let lane := fun (x : ApdLane) => { x with csPend := x.csPend.map m }
  let dac := fun (x : DacCh) =>
    { x with forceAt := x.forceAt.map b, clearAt := x.clearAt.map b, urBlock := x.urBlock.map b,
             span := x.span.map (fun (p : Nat × Nat × Nat) => (b p.1, p.2.1, p.2.2)),
             want := x.want.map (fun (p : Nat × Nat × Option Nat) => (p.1, p.2.1, p.2.2.map b)) }
  let port := fun (x : NetPort) => { x with gclPend := x.gclPend.map b, inside := tmap (fun (i : Nat × Nat) => (i.1, m i.2)) x.inside }
  let s := { s with str := { s.str with rx := tmap rx s.str.rx, tx := tmap tx s.str.tx } }
  let s := { s with apd := { s.apd with groups := tmap grp s.apd.groups, lanes := tmap lane s.apd.lanes } }
  { s with dac := tmap dac s.dac, net := { s.net with ports := tmap port s.net.ports } }

/-- Transmit contexts that go on after a re-seating pack from the first multiple of their packet time at or after output
block q (R298). -/
def txRestart (q : Nat) (s : State) : State :=
  forEach (s.str.tx.map (fun p => p.1)) (fun t s =>
    txMod t (fun x => { x with m0 := txFirst s t q }) s) s

/-- Ages and waits that are counted in blocks (db) and frames (dm) go on. -/
def rebase (db dm : Int) (s : State) : State :=
  let b := moved db
  let m := moved dm
  let bst := { s.bst with lastTest := tmap b s.bst.lastTest, lastEnd := b s.bst.lastEnd,
                          slice := s.bst.slice.map (fun (p : Nat × Nat) => (p.1, b p.2)) }
  let clm := { s.clm with
    listenAt := b s.clm.listenAt, lastActive := s.clm.lastActive.map b, force := s.clm.force.map b,
    yieldAt := s.clm.yieldAt.map b, yielded := s.clm.yielded.map (fun (p : Nat × Bool) => (b p.1, p.2)),
    drillBase := b s.clm.drillBase, drill := s.clm.drill.map b, drillRun := s.clm.drillRun.map b,
    renorm := s.clm.renorm.map b }
  let held := fun (p : ProvItem) => { p with applyAt := p.applyAt.map b }
  let und := fun (p : MirItem) => { p with deadline := p.deadline.map b }
  let flk := { s.flk with
    syncSince := b s.flk.syncSince, digests := [], held := s.flk.held.map held, undecided := s.flk.undecided.map und }
  let hier := { s.hier with reqAt := s.hier.reqAt.map m, joinSince := s.hier.joinSince.map m, holdoff := m s.hier.holdoff }
  let conv := fun (j : ConvJob) => { j with loaded := b j.loaded, endBlock := b j.endBlock }
  let pat := { s.pat with autoAt := s.pat.autoAt.map b, conv := s.pat.conv.map conv }
  let ho := fun (h : Handover) => { h with at_ := b h.at_, cmd := b h.cmd }
  let seq := { s.seq with ho := s.seq.ho.map ho, fallbackAt := s.seq.fallbackAt.map b }
  let jnl := { s.jnl with since := m s.jnl.since }
  rebaseUnits b m { s with bst := bst, clm := clm, flk := flk, hier := hier, pat := pat, seq := seq, jnl := jnl }

/-- The loop at a pour that re-seats: the seating is complete, and a new time base takes a new frequency, free within the limit
of R255 (R254, R257; log 14). -/
def loopSwitch (newTb : Bool) (s : State) : State :=
  let (w, s) := freeNat s 32
  loopSeated (if newTb then wrN s R.TSU_ML_FREQ w else s)

/-- The pour re-seats the counter at its instant, the strobe that comes: the derived MSI d under the new rate and time base,
by the time that base will hold then (one nominal block ahead).  The count then stands so that the next strobe is that of
block q = ceil(d / 16).  Answers q. -/
def reseat (new : Pattern) (s : State) : Nat × State :=
  let fo := fsInt s
  let eo := epoch s
  let mo := followTb s
  let delta := tbNow s new.mtb - tbNow s mo
  let left : Nat := 16 - s.msi % 16
  let t := tbNow s new.mtb + (left * secUnits + fo - 1) / fo
  let old : Nat := s.msi + left
  let s := epochLoad s
  let fn := patFs new
  let d := code 64 (derivedAt fn (epoch s) t)
  let f := convFrame fo fn eo (epoch s) delta
  let q := (d + 15) / 16
  let s := setF (setF s F.TSU_MEDIA_CFG_RATE new.rate) F.TSU_MEDIA_CFG_MTB new.mtb
  let s := rebase ((q : Int) - (old / 16 : Nat)) ((d : Int) - old) s
  let back := moved ((old / 16 : Nat) - (q : Int))
  let s := { s with intake := { s.intake with objs := tmap (convObj f) s.intake.objs },
                    flk := { s.flk with undecided := s.flk.undecided.map (convItem f back) } }
  let quiet := fun (z : ChanRender) => { z with ret := OutBlk.zero, out := OutBlk.zero, egress := OutBlk.zero, play := OutBlk.zero }
  let s := { s with rnd := { s.rnd with chans := tmap quiet s.rnd.chans } }
  let s := { s with msi := if d % 16 = 0 then d - 1 else d, time := { s.time with excess := false } }
  (q, loopSwitch (new.mtb != mo) (txRestart q s))

/-! ### Objects (R81, R135) -/

/-- Segments that an object's return to its initial state discards. -/
def segCount (o : ObjSt) : Nat :=
  (o.queue.filter (fun q => !q.pending && !q.removed)).length + (if o.cur.isSome then 1 else 0)

/-- Objects at a pour: those allocated in both Patterns keep their state, every other one starts anew. -/
def objectsPour (new : Pattern) (s : State) : State :=
  let gone := s.intake.objs.filter (fun x => x.2.st != 0 && !allocated new x.1)
  let s := forEach gone (fun x s => forEach (x.2.queue.filter (fun q => q.pending)) (fun q s =>
    if isStandby s then dropRefused x.1 q.seg.rcd.seq s
    else refuseEverywhere x.1 q.seg.rcd.seq (recReason .objUnalloc) true s) s) s
  let lost := gone.foldl (fun n x => n + segCount x.2) 0
  let s := if lost = 0 then s else cntAdd s R.PAT_POUR_DISC lost
  let keep := fun (o : ObjSt) =>
    if o.st = 0 then { ObjSt.init with st := 1 }
    else if o.st = 3 then { o with st := if o.cur.isSome then 2 else 1 } else o
  let objs := (new.objects.map (fun r => r.id)).foldl (fun t id =>
    aInsert t id (keep (aGet (fun _ => ObjSt.init) s.intake.objs id))) []
  { s with intake := { s.intake with objs := objs } }

/-! ### Tiles, geometry and ports -/

/-- Every tile runs its new bank (R80, R104). -/
def banksFlip (s : State) : State :=
  let fb := fbSeats s
  forNat (if fb then 15 else 16) (fun q s => match seatTileOf s fb q with
    | some t => setF s (F.SEQ_TSTAT_BANK t) (1 - getF s (F.SEQ_TSTAT_BANK t))
    | none => s) s

/-- The geometry of the new Pattern: its layouts, its period (doubled on one working unit, R43), and no targets. -/
def geoPour (q : Nat) (new : Pattern) (s : State) : State :=
  let one : Bool := getF s F.GEO_UNITS_WA == getF s F.GEO_UNITS_WB
  let g := if one then 2 * new.g else new.g
  let mesh := new.layouts.foldl (fun t l => aInsert t l.1 (meshOf l.2)) []
  let s := { s with geo := { objs := [], fresh := [], mesh := mesh, relaid := [], gEff := g, gPrev := 0, gSince := q, gNext := none,
                             misses := [], missNow := [] } }
  let s := setF (wrN s R.GEO_SOS new.sos) F.GEO_UNITS_G_EFF g
  { s with live := aSet regReset s.live R.GEO_SOS (BitVec.ofNat 32 new.sos) }

/-- A REGSET record names a gate-list register of a port. -/
def gclRecord (p : Nat) (r : Nat × Nat) : Bool :=
  r.1 == R.NET_GCL_CTL p || r.1 == R.NET_GCL_CYCLE p || r.1 == R.NET_GCL_MSI_LO p || r.1 == R.NET_GCL_MSI_HI p ||
    (R.NET_GCL_SHD p 0 ≤ r.1 && (List.range 256).any (fun i => R.NET_GCL_SHD p i == r.1))

/-- Gate lists that REGSET wrote become operational at the strobe (R278). -/
def gclPour (new : Pattern) (s : State) : State :=
  forNat 4 (fun p s => if new.regset.any (gclRecord p) then gclApply p s else s) s

/-- A handover whose switch falls on the pour at block q moves by a block and sweeps anew, over the new Pattern's persistent
region (R109). -/
def hoPour (q : Nat) (s : State) : State :=
  let s := match s.seq.hoUndo with
    | some u => if u.h.at_ = q then hoTakeBack u s else s
    | none => s
  match s.seq.ho with
  | some h =>
    if h.at_ = q then
      let h := { h with at_ := q + 1, swept := false, struck := false }
      setTile h.dst 3 (setF { s with seq := { s.seq with ho := some h } } F.SEQ_HO_STAT_STATE 1)
    else s
  | none => s

/-! ### The pour (R80 to R83) -/

/-- Live identity and state of the poured Pattern. -/
def showLive (q : Nat) (new : Pattern) (s : State) : State :=
  let usable := getF s F.SEQ_SPARE_USABLE
  let s := wrN (wr64 s R.PAT_LIVE_ID_LO R.PAT_LIVE_ID_HI new.patId) R.PAT_LIVE_CRC new.totalCrc
  let s := wr64 s R.PAT_POUR_AT_LO R.PAT_POUR_AT_HI (16 * q)
  let s := setF (setF s F.PAT_STATE_LIVE (if usable ≤ 15 then 2 else 1)) F.PAT_STATE_RATE new.rate
  let s := setF (setF s F.TSU_MEDIA_CFG_RATE new.rate) F.TSU_MEDIA_CFG_MTB new.mtb
  let s := setF s F.TSU_MEDIA_CFG_CMP (getF s (F.TSU_TB_CFG_FMT new.mtb))
  setBit (setF s F.PAT_SHED_OBJECTS 0) F.PAT_STAT_POURED

/-- The manager shows MEMBER; a worker whose PATTERN_ID changes joins anew (R396, R400). -/
def hierPour (oldId : Option Nat) (new : Pattern) (s : State) : State :=
  if isManager s then setF s F.HIER_STATE_STATE 2
  else if isWorker s then
    (if oldId = some new.patId then
      { s with hier := { s.hier with beenMember := getF s F.HIER_STATE_STATE == 2 } }
     else hierJoining { s with hier := { s.hier with beenMember := false } })
  else s

/-- A pour at the active unit ends a snapshot under way; a standby waits for the Pattern anew (R376, R379). -/
def pairPour (mirrored : Bool) (s : State) : State :=
  if isActive s then
    (if s.flk.snapAsked || s.flk.snapFor.isSome then
      flkSend .snapAbort { s with flk := { s.flk with snapAsked := false, snapFor := none } }
     else s)
  else if isStandby s && mirrored && flkUp s then
    (if sync s = 2 ∨ sync s = 3 then notReady 1 s else syncEnter 1 (snapDrop s))
  else s

/-- Everything that takes effect with the pour whose cut is at the coming strobe. -/
def pourNow (s : State) : State :=
  match s.pat.pour with
  | none => s
  | some p =>
    let new := stagedPat s
    let old := s.pat.live
    let was := running s
    let done := s.pat.regsetDone
    let s := discardDue p.cut s
    let s := match s.pat.stop with
      | some k => (if p.cut ≤ k.block then superseded 5 0 s else s)
      | none => s
    let s := capPour p.cut (routeGains s 3 (p.cut - 1)) s
    let (q, s) := if pourRate s new || new.mtb != followTb s then reseat new s else (p.cut, s)
    let s := { s with pat := { s.pat with
      stop := none, live := some new, pouredAt := some q, fadeIn := none, layoutBusy := [],
      zeroFrom := if was then q else 0, zeroTo := if was then q + 6 else 0 } }
    let s := objectsPour new s
    let s := banksFlip s
    let s := showTables new (showLive q new s)
    let s := stagingEmpty s
    let s := if done then s else regsetApply ((old.getD Pattern.empty).regset) new.regset s
    let s := gclPour new s
    let s := { s with flt := fltOfPattern new }
    let s := renderPour q new (geoPour q new s)
    let s := ascPour q (rtePour q new s)
    let s := decimResetAll q { s with pdm := { s.pdm with resets := [], mics := [] } }
    let s := apdPour s
    let s := hoPour q s
    let s := hierPour (old.map (fun x => x.patId)) new s
    let lostSeats := (List.range 15).filter (fun f => getF s (F.SEQ_FSEAT_VALID f) = 0)
    if fbSeats s && !lostSeats.isEmpty then shedAction lostSeats s else s

/-- POUR_STROBE: at the strobe of the pour's cut. -/
def execPourStrobe (s : State) : Out :=
  .next (match s.pat.pour with
    | some p =>
      if p.decided && s.flk.join.isNone && due s p.cut && !s.err.fatal then pairPour (p.via == .flask) (pourNow s) else s
    | none => s)

/-- JOIN_POUR: the standby pours at j, and the snapshot and the replayed items then overwrite what they hold (R377). -/
def execJoinPour (s : State) : Out :=
  .next (match s.flk.join, s.pat.pour with
    | some _, some p =>
      if due s p.cut then
        let parts := s.flk.snap
        let s := pourNow s
        let s := snapReplay parts (snapRegs parts (forEach parts snapInstall s))
        let s := { s with flk := { s.flk with snap := [], snapAt := none, replay := [], join := none } }
        let s := syncEnter 4 s
        { s with flk := { s.flk with syncSince := s.pat.pouredAt.getD (dueBlk s) } }
      else s
    | _, _ => s)

/-! ### The stop (R84) -/

/-- STOP_STROBE: at the strobe of block k. -/
def execStopStrobe (s : State) : Out :=
  .next (match s.pat.stop with
    | some k =>
      if k.decided && !k.begun && due s k.block then
        discardDue k.block { s with pat := { s.pat with stop := some { k with begun := true } } }
      else s
    | none => s)

/-- PATTERN_STOPPED: at the strobe of block k + 6 the live state is STOPPED; the loop follows the time base of the
Pattern that is ARMED from then on, or with none that of the Pattern that stopped, the last one armed (log 279, R253). -/
def execPatternStopped (s : State) : Out :=
  .next (match s.pat.stop with
    | some k =>
      if k.begun && due s (k.block + 6) then
        let armed := if stg s = 5 then (stagedPat s).mtb else getF s F.TSU_MEDIA_CFG_MTB
        let s := { s with pat := { s.pat with stop := none, armedMtb := some armed } }
        let s := setBit (setF (setF s F.PAT_STATE_LIVE 0) F.PAT_STATE_RATE 0) F.PAT_STAT_STOPPED
        let s := wrN (wr64 s R.PAT_LIVE_ID_LO R.PAT_LIVE_ID_HI 0) R.PAT_LIVE_CRC 0
        let s := setF s F.GEO_UNITS_G_EFF 0
        let s := if isManager s then setF s F.HIER_STATE_STATE 0 else s
        loopFollow (dacStopped { s with seq := { s.seq with fallbackAt := none, shedSeats := [] } })
      else s
    | none => s)

end Sys2Proof.Machine
end

