-- ==== Sys2Proof/Machine/SelfTest.lean ====
section
/-! DEFINITION. Self-test: the start-up test, quench slices, the fault map and its commands
(spec/19_self_test_and_sparing.md R418 to R434). -/

namespace Sys2Proof.Machine

/-! ### Results of a test run (R419, R420) -/

/-- BST_LAST and BST_SIG of a run: result 1 pass, 2 transient, 3 fail. -/
def showTest (result r misr : Nat) (s : State) : State :=
  wr64 (wrN s R.BST_LAST (result * 2 ^ 30 + r)) R.BST_SIG_LO R.BST_SIG_HI misr

/-- A MISR matches the region's signature; with the area's CRC wrong every region is taken to have passed. -/
def misrOk (r misr : Nat) : Bool := !Config.sigAreaOk || misr % 2 ^ 64 == (Config.signature r).toNat

/-- The region's last test ended at a block. -/
def testedAt (r k : Nat) (s : State) : State :=
  { s with bst := { s.bst with lastTest := aInsert s.bst.lastTest r k } }

/-- The master of a save/restore region (R418, R442). -/
def regionMaster (r : Nat) : Nat := r - 16

/-- A region fails its second run (R420, R432). -/
def regionFail (r : Nat) (s : State) : State :=
  let s := raise .bstRegionFail r (cnt (markRegion r s) R.BST_FAIL_CNT)
  if 20 ≤ r then masterReset (regionMaster r) s else s

/-! ### The start-up test (R421, R422) -/

/-- A valid copy of the fault map at an NVM address: generation and map (R433). -/
def mapCopy (s : State) (a : Nat) : Option (Nat × Nat) :=
  let b := rdBytes s (nvmBase + a) 16
  if leAt b 0 4 = 0x50464D46 ∧ crc32c (b.take 12) = leAt b 12 4 then some (leAt b 4 4, leAt b 8 4 % 2 ^ 26) else none

/-- The fault map in force: generation, whether it is copy B, and the map; none where no copy is valid. -/
def mapInForce (s : State) : Option (Nat × Bool × Nat) :=
  match mapCopy s 0x4000, mapCopy s 0x5000 with
  | some (g, m), some (h, n) => if g < h then some (h, true, n) else some (g, false, m)
  | some (g, m), none => some (g, false, m)
  | none, some (h, n) => some (h, true, n)
  | none, none => none

/-- The map in use and the one stored, after a reset. -/
def loadMap (s : State) : State :=
  match mapInForce s with
  | some (g, b, m) => wrN (wrN { s with bst := { s.bst with mapGen := g, mapB := b } } R.BST_MAP m) R.BST_NVMAP m
  | none => s

/-- STARTUP_SELF_TEST: the map's copies are judged, and the test of every region begins. -/
def execStartupSelfTest (s : State) : Out :=
  .next (if !s.pwr.pll || !s.err.startupHold || getF s F.BST_STATE_STATE != 0 then s
    else
      let s := setF s F.BST_STATE_STATE 1
      let s := if (mapInForce s).isNone then raise .bstMapBad 0 s else s
      if Config.sigAreaOk then s else raise .bstMapBadSig 0 s)

/-- The result of one region's start-up test: MISR of the first run, and of the second where the first differed. -/
def startupRegion (runs : List (Nat × Nat × Nat)) (r : Nat) (s : State) : State :=
  if bit (getF s F.BST_MAP_MAP) r then s
  else match runs.find? (fun x => x.1 == r) with
    | none => showTest 1 r (Config.signature r).toNat s
    | some (_, m1, m2) =>
      if misrOk r m1 then showTest 1 r m1 s
      else if misrOk r m2 then raise .bstTransient r (cnt (showTest 2 r m2 s) R.BST_TRANS_CNT)
      else regionFail r (showTest 3 r m2 s)

/-- STARTUP_SELF_TEST_DONE: runs lists the regions whose first MISR differs, with both MISRs; the others match. -/
def execStartupSelfTestDone (runs : List (Nat × Nat × Nat)) (s : State) : Out :=
  .next (if getF s F.BST_STATE_STATE ≠ 1 then s
    else
      let s := forNat 26 (startupRegion runs) s
      let s := forNat 26 (fun r => testedAt r (blk s)) s
      let s := noSpare (assignGeo (assignSeats s))
      let s := setBit (setF s F.BST_STATE_STATE 0) F.BST_STAT_STARTUP_DONE
      { s with err := { s.err with startupHold := false }, bst := { s.bst with lastEnd := blk s } })

/-! ### Quench slices (R423 to R427) -/

/-- Blocks per millisecond, times 1: six at 96 kHz, three at 48 kHz. -/
def msBlocks (s : State) (ms : Nat) : Nat := ms * (if rate96 s then 6 else 3)

/-- Blocks of a test run: 40 ms for a tile, 16 ms for a geometry unit. -/
def runBlocks (s : State) (r : Nat) : Nat := msBlocks s (if r < 17 then 40 else 16)

/-- The seat of a tile a slice may rotate: seated on the primary tables, with a spare present. -/
def sliceSeat (s : State) (t : Nat) : Option Nat :=
  if getF s F.BST_CFG_TILE_EN = 1 ∧ getF s F.SEQ_SPARE_PRESENT = 1 ∧ !fbSeats s then tileSeat s t else none

/-- A region can be tested at this strobe (R423, R424, R427).  busy lists the ports whose receive FIFO is too full. -/
def testable (s : State) (busy : List Nat) (r : Nat) : Bool :=
  !bit (getF s F.BST_MAP_MAP) r &&
  (if r < 17 then (sliceSeat s r).isSome
   else if r < 20 then
     getF s F.BST_CFG_GEO_EN == 1 && getF s F.GEO_UNITS_SPARE_PRESENT == 1 &&
       (getF s F.GEO_UNITS_WA == r - 17 || getF s F.GEO_UNITS_WB == r - 17)
   else getF s F.BST_CFG_SR_EN == 1 && !(21 ≤ r && r ≤ 24 && busy.contains (r - 21)))

/-- The block of a region's last test. -/
def lastTestOf (s : State) (r : Nat) : Nat := aGet (fun _ => 0) s.bst.lastTest r

/-- The testable region whose last test ended longest ago; the lowest number of equals. -/
def pickRegion (s : State) (busy : List Nat) : Option Nat :=
  (List.range 26).foldl (fun m r =>
    if !testable s busy r then m
    else match m with
      | none => some r
      | some q => if lastTestOf s r < lastTestOf s q then some r else m) none

/-- Every condition of R423 but those of the region and the temperature. -/
def sliceMay (s : State) : Bool :=
  getF s F.BST_CFG_EN == 1 && running s && !s.err.fatal &&
  (match s.pat.pouredAt with
   | some p => p + (if rate96 s then 180000 else 90000) ≤ blk s
   | none => false) &&
  s.bst.lastEnd + msBlocks s (getF s F.BST_CFG_GAP) ≤ blk s &&
  s.seq.ho.isNone && s.pat.conv.isNone && s.seq.fallbackAt.isNone && s.bst.slice.isNone &&
  getF s F.BST_STATE_STATE == 0

/-- The core die is at or below 95 degrees; SYS_TEMP counts eighths. -/
def coolEnough (s : State) : Bool := decide (sx 16 (getF s F.SYS_TEMP_CORE) ≤ 760)

/-- Show the slice. -/
def showSlice (st r : Nat) (s : State) : State := setF (setF s F.BST_STATE_STATE st) F.BST_STATE_REGION r

/-- A slice starts on a region, at the strobe of the present block. -/
def sliceStart (r : Nat) (s : State) : State :=
  let c := blk s
  if r < 17 then
    match sliceSeat s r with
    | some q => showSlice 2 r (hoStart { seat := q, src := r, dst := getF s F.SEQ_SPARE_SPARE, at_ := c + 34, cmd := c,
                                         test := true, loss := false, swept := false, struck := false } s)
    | none => s
  else if r < 20 then
    let s := setF (geoShare (r - 17) (getF s F.GEO_UNITS_SPARE) s) F.GEO_UNITS_SPARE_PRESENT 0
    showSlice 3 r { s with bst := { s.bst with slice := some (r, c), retest := false } }
  else showSlice 5 r { s with bst := { s.bst with slice := some (r, c), retest := false, held := [regionMaster r] } }

/-- QUENCH_SLICE_START: decided at the strobe of the present block. -/
def execQuenchSliceStart (busy : List (Fin 4)) (s : State) : Out :=
  .next (match sliceMay s, pickRegion s (busy.map (fun p => p.val)) with
    | true, some r => if coolEnough s then sliceStart r s else cnt s R.BST_HOT_CNT
    | _, _ => s)

/-- A slice ends at a strobe, with or without the region's return. -/
def sliceOver (r k : Nat) (s : State) : State :=
  let s := sliceEnd (testedAt r k (setBit (cnt s R.BST_SLICE_CNT) F.BST_STAT_SLICE_DONE))
  { s with bst := { s.bst with lastEnd := k } }

/-- The tested unit is returned to service as the spare; a save/restore region is shifted back first. -/
def slicePass (r k : Nat) (s : State) : State :=
  if r < 17 then sliceOver r k (showSpare (some r) (setTile r 2 s))
  else if r < 20 then sliceOver r k (setF (setF s F.GEO_UNITS_SPARE (r - 17)) F.GEO_UNITS_SPARE_PRESENT 1)
  else showSlice 6 r s

/-- SLICE_TEST_RUN_END: the MISR of the run that ends (R419, R420). -/
def execSliceTestRunEnd (misr : BitVec 64) (s : State) : Out :=
  .next (match s.bst.slice with
    | none => s
    | some (r, since) =>
      let k := if r < 20 then since + runBlocks s r else dueBlk s
      let st := getF s F.BST_STATE_STATE
      if !due s k || !(st == 3 || st == 4 || (st == 5 && 20 ≤ r)) then s
      else if misrOk r misr.toNat then
        let s := if s.bst.retest then raise .bstTransient r (cnt (showTest 2 r misr.toNat s) R.BST_TRANS_CNT)
          else showTest 1 r misr.toNat s
        slicePass r k s
      else if !s.bst.retest then
        let s := wr64 s R.BST_SIG_LO R.BST_SIG_HI misr.toNat
        showSlice 4 r { s with bst := { s.bst with retest := true, slice := some (r, k) } }
      else
        let s := regionFail r (showTest 3 r misr.toNat s)
        sliceOver r k (if r < 17 then noSpare (showSpare none s) else s))

/-- SR_SLICE_END: the state is shifted back and the held requests go on; bad says that the save RAM had an uncorrectable
error (R427, R434). -/
def execSrSliceEnd (bad : Bool) (s : State) : Out :=
  .next (match s.bst.slice with
    | none => s
    | some (r, _) =>
      if getF s F.BST_STATE_STATE ≠ 6 then s
      else sliceOver r (dueBlk s) (if bad then masterReset (regionMaster r) (raise .bstRegionFail r (markRegion r s)) else s))

/-- A FATAL stops a slice without a result (R434). -/
def sliceFatal (s : State) : State :=
  match s.bst.slice, s.seq.ho with
  | none, some h =>
    if h.test then raise .bstSliceAbort h.src (cnt (sliceEnd { s with seq := { s.seq with ho := none } }) R.BST_ABORT_CNT) else s
  | none, none => s
  | some (r, _), _ => raise .bstSliceAbort r (cnt (sliceEnd s) R.BST_ABORT_CNT)

/-! ### The fault map's commands (R433) -/

/-- The meaning of CLEAR_MAP: the map in NVM empties; the map in use stays until the next reset. -/
def execBstClearMap (via : Src) (s : State) : Out :=
  let s := journalReg via R.BST_CMD 1 s
  .next (if running s then writeIgnored s else { s with bst := { s.bst with mapWrite := some 0 } })

/-- The meaning of MARK: a running tile or geometry unit is lost. -/
def execBstMark (via : Src) (r : Fin 32) (s : State) : Out :=
  let s := journalReg via R.BST_CMD (BitVec.ofNat 32 (256 * r.val + 2)) s
  .next (if 26 ≤ r.val || bit (getF s F.BST_MAP_MAP) r.val then s
    else if r.val < 17 then tileLost r.val s
    else if r.val < 20 then geoLost (r.val - 17) s
    else masterReset (regionMaster r.val) (markRegion r.val s))

/-- FAULT_MAP_WRITE_DONE: the other copy takes GEN + 1 and the map. -/
def execFaultMapWriteDone (s : State) : Out :=
  .next (match s.bst.mapWrite with
    | none => s
    | some m =>
      let g := (s.bst.mapGen + 1) % 2 ^ 32
      let b := !s.bst.mapB
      let body := leBytes 4 0x50464D46 ++ leBytes 4 g ++ leBytes 4 m
      let s := wrBytes s (nvmBase + (if b then 0x5000 else 0x4000)) (body ++ leBytes 4 (crc32c body))
      wrN { s with bst := { s.bst with mapWrite := none, mapGen := g, mapB := b } } R.BST_NVMAP m)

end Sys2Proof.Machine
end

