-- ==== Sys2Proof/Machine/Power.lean ====
section
/-! DEFINITION. Resets, supplies, clocks, temperature and TEST_EN (spec/21_reset_clocks_power.md R460 to R478,
spec/20_control_fabric.md R442, R458). -/

namespace Sys2Proof.Machine

/-! ### Resets (R464, R465, R466) -/

/-- The bytes of the NVM, which every reset keeps. -/
def nvmCells (m : List Host.Cell) : List Host.Cell := m.filter (fun c => nvmBase ≤ c.1 && c.1 < nvmBase + 0x4000000)

/-- The slot registers as the directory in NVM holds them (R89, R453). -/
def loadSlots (s : State) : State := forNat 4 (fun k s => wrN s (R.PAT_SLOT k) (leNat (rdBytes s (slotDir k) 4))) s

/-- The core die after a reset: everything at its reset value but the NVM, the fault map and slots read from it, the sensors'
readings, and what the model keeps for itself. -/
def coreDie (s : State) : State :=
  let t := { State.reset with mem := nvmCells s.mem, freeCtr := s.freeCtr, pending := s.pending,
                              pwr := { PwrState.reset with good := s.pwr.good, banks := s.pwr.banks, testEn := s.pwr.testEn, hot := s.pwr.hot } }
  let t := wr (wr (wr t R.SYS_TEMP (rd s R.SYS_TEMP)) R.SYS_TEMP_MAX (rd s R.SYS_TEMP)) R.SYS_RST_CAUSE (rd s R.SYS_RST_CAUSE)
  loadSlots (loadMap t)

/-- A converter channel across a reset that keeps the converter die (R346): span, mode, safe and fault codes stay in force. -/
def keepDac (s : State) (n : Nat) (t : State) : State :=
  let x := dacOf s n
  let keep := fun (off : Nat) (t : State) =>
    { wr t off (rdLive s off) with live := aSet regReset t.live off (rdLive s off) }
  let t := keep (R.DAC_SAFE_01 n) (keep (R.DAC_SAFE_23 n) (keep (R.DAC_FAULT n) t))
  let t := setF (setF t (F.DAC_CFG_SPAN n) x.spanNow) (F.DAC_CFG_MODE n) x.modeNow
  let p := dacCoreReset n x (dacSt s n) (safeCode s n x.spanNow)
  setF (dacMod n (fun _ => p.1) t) (F.DAC_CSTATE_STATE n) p.2

/-- A reset of the core die that keeps the converter die: its channels, and the media PLL at its last frequency, which
TSU_ML_FREQ goes on showing (R464). -/
def coreReset (s : State) : State :=
  let t := coreDie s
  forNat 32 (keepDac s) { wr t R.TSU_ML_FREQ (rd s R.TSU_ML_FREQ) with pwr := { t.pwr with dacAwait := s.pwr.dacAwait } }

/-- A reset with its bit of SYS_RST_CAUSE. -/
def resetBy (full : Bool) (cause : Fld) (s : State) : State :=
  setBit (if full then coreDie s else coreReset s) cause

/-- POWER_ON: PWRGOOD rises; the cause register holds POR alone, and every bank senses its own supply, which the board gives
and no row brings: a free value (R464, R486; log 259). -/
def execPowerOn (s : State) : Out :=
  let (banks, s) := freeNat s 4
  .next (wrN (coreDie { s with pwr := { s.pwr with good := true, banks := BitVec.ofNat 4 banks } }) R.SYS_RST_CAUSE 1)

/-- POWER_DOWN: PWRGOOD falls; outputs are clamped, claim lines and FAULT_N released (R461, R462). -/
def execPowerDown (s : State) : Out :=
  let t := coreDie { s with pwr := { s.pwr with good := false } }
  .next { t with err := { t.err with startupHold := false } }

/-- RESET_PIN: RESET_N was low for at least 1 us. -/
def execResetPin (s : State) : Out := .next (resetBy false F.SYS_RST_CAUSE_PIN s)

/-- SYS_RST_CMD with the key and OP CORE. -/
def execSysRstCore (s : State) : Out := .next (resetBy false F.SYS_RST_CAUSE_SW_CORE s)

/-- SYS_RST_CMD with the key and OP FULL. -/
def execSysRstFull (s : State) : Out := .next (resetBy true F.SYS_RST_CAUSE_SW_FULL s)

/-- PERST: the PCIe link and M4; the DMA ring's indices return to 0 (R458). -/
def execPerst (s : State) : Out := .next (wrN (wrN (masterReset 4 s) R.SYS_DMA_TAIL 0) R.SYS_DMA_HEAD 0)

/-- PCIE_LINK_RESET: hot reset, function-level reset or link down (R442). -/
def execPcieLinkReset (s : State) : Out := .next (masterReset 4 s)

/-! ### Start-up (R468) -/

/-- The core die is held in reset: no PWRGOOD, TEST_EN, or the thermal comparator. -/
def coreHeld (s : State) : Bool := !s.pwr.good || s.pwr.testEn || s.pwr.hot

/-- CORE_PLL_LOCK: the clocks run, and CC0 leaves reset; pcieRef says whether PCIE_REFCLK is present. -/
def execCorePllLock (pcieRef : Bool) (s : State) : Out :=
  .next (if coreHeld s || s.pwr.pll || s.pwr.clkFail then s
    else
      let s := coreStart 0 { s with pwr := { s.pwr with pll := true } }
      let s := setF (setF (setF s F.SYS_CLK_STAT_REF_OK 1) F.SYS_CLK_STAT_CORE_LOCK 1) F.SYS_CLK_STAT_MEDIA_LOCK 1
      setF s F.SYS_CLK_STAT_PCIE_REF_OK (b2n pcieRef))

/-- DRAM_READY: DRAM is initialised and trained. -/
def execDramReady (s : State) : Out :=
  .next (if s.pwr.pll then setF s F.SYS_CLK_STAT_DRAM_RDY 1 else s)

/-- SYS_PWR_STATE.STATE: 0 RESET, 1 STARTUP, 2 IDLE, 3 RUN, 4 SAFE (R471). -/
def pwrState (s : State) : Nat :=
  if !s.pwr.pll then 0 else if s.err.fatal then 4 else if s.err.startupHold then 1 else if running s then 3 else 2

/-! ### Supplies and clocks (R463, R470) -/

/-- A FATAL of this chapter: the safe state of R411, with the converter channels at their fault codes and a slice stopped. -/
def raiseFatal (e : Err) (s : State) : State := sliceFatal (dacFatal (raise e 0 s))

/-- SUPPLY_DIP: a dip of VDD_CORE or VDD_SRAM below 94 % for 1 us. -/
def execSupplyDip (s : State) : Out := .next (raiseFatal .sysSupply s)

/-- REFCLK_FAIL: the claim gate closes at once, lanes, clock pins and claim lines are released, and the FATAL CLK_FAIL is
raised; unlock says that the core PLL lost lock. -/
def execRefclkFail (unlock : Bool) (s : State) : Out :=
  let s := setF s F.CLM_STATE_HOLDER 0
  let s := { apdRelease s with
    clm := { s.clm with sending := none, frameOn := false, armed := false },
    pwr := { s.pwr with clkFail := true } }
  let s := setF s F.SYS_CLK_STAT_REF_OK 0
  let s := if unlock then setF s F.SYS_CLK_STAT_CORE_LOCK 0 else s
  .next (raiseFatal .sysClkFail s)

/-! ### Temperature (R473 to R475) -/

/-- Is a threshold (in eighths of a degree) in force at a reading: from it upward, until 5 degrees below. -/
def therm (was : Bool) (limit t : Int) : Bool := limit ≤ t || (was && limit - 40 < t)

/-- The larger of two 16-bit signed readings, as a code. -/
def peak (old new : Nat) : Nat := if sx 16 old < sx 16 new then new else old

/-- THERM_WARN, THERM_CRIT and THERM_TRIP of a reading, where they come into force; while THERM_CRIT is, the unit yields as soon
as its standby is READY (R474). -/
def thermAct (core : Int) (s : State) : State :=
  let old := s.pwr
  let w := therm old.warn (8 * getF s F.SYS_THERM_CFG_WARN) core
  let c := therm old.crit 840 core
  let t := therm old.trip 880 core
  let s := { s with pwr := { s.pwr with warn := w, crit := c, trip := t } }
  let s := setF s F.SYS_PWR_STATE_CC_SLOW (b2n (w && getF s F.SYS_THERM_CFG_CC_SLOW == 1))
  let s := if w && !old.warn then raise .sysThermWarn 0 s else s
  let s := if c && !old.crit then raise .sysThermCrit 0 s else s
  let s := if c && getF s F.SYS_THERM_CFG_YIELD == 1 && standbyReady s && s.clm.yieldAt.isNone then
      { s with clm := { s.clm with yieldAt := some (blk s) } }
    else s
  if t && !old.trip then raiseFatal .sysThermTrip s else s

/-- THERMAL_SAMPLE: the hottest core-die reading and the converter die's, in eighths of a degree. -/
def execThermalSample (core conv : BitVec 16) (s : State) : Out :=
  let s := setF (setF s F.SYS_TEMP_CORE core.toNat) F.SYS_TEMP_CONV conv.toNat
  let s := setF s F.SYS_TEMP_MAX_CORE (peak (getF s F.SYS_TEMP_MAX_CORE) core.toNat)
  let s := setF s F.SYS_TEMP_MAX_CONV (peak (getF s F.SYS_TEMP_MAX_CONV) conv.toNat)
  .next (thermAct (sx 16 core.toNat) s)

/-- THERMAL_SHUTDOWN: the comparator holds the device in a FULL reset. -/
def execThermalShutdown (s : State) : Out :=
  .next (resetBy true F.SYS_RST_CAUSE_THERM { s with pwr := { s.pwr with hot := true } })

/-- THERMAL_RELEASE: the hold ends, and the device starts as after a FULL reset. -/
def execThermalRelease (s : State) : Out := .next { s with pwr := { s.pwr with hot := false } }

/-! ### TEST_EN (R467) -/

/-- Clamp every output, or give a channel in SAFE its code again. -/
def clampAll (on : Bool) (s : State) : State :=
  forNat 32 (fun n s =>
    if on then dacMod n (fun x => { x with clamped := true, code := 0 }) s
    else if dacSt s n = 1 then dacMod n (fun x => { x with clamped := false, code := safeCode s n x.spanNow }) s
    else s) s

/-- TEST_EN_ASSERT: the core die is held in reset, the outputs clamped, the claim lines released. -/
def execTestEnAssert (s : State) : Out := .next (clampAll true (coreReset { s with pwr := { s.pwr with testEn := true } }))

/-- TEST_EN_RELEASE: the hold ends. -/
def execTestEnRelease (s : State) : Out :=
  .next (if s.pwr.testEn then clampAll false { s with pwr := { s.pwr with testEn := false } } else s)

end Sys2Proof.Machine
end

