-- ==== Sys2Proof/Machine/Strobe.lean ====
section
/-! DEFINITION. The block strobe and the media frames between strobes (spec/01_architecture.md R27, R29,
spec/02_media_time_and_latency.md R45, R55), uncorrectable words (spec/18_faults_and_journal.md R412), and the GPIO pins
(spec/20_control_fabric.md R457). -/

namespace Sys2Proof.Machine

/-- The media clock runs. -/
def clocked (s : State) : Bool := s.pwr.pll && !s.pwr.clkFail && !coreHeld s

/-- What every media frame does: converter channels and audio ports, and frames that have left a NET port (R275). -/
def frameWork (s : State) : State := apdFrame (dacFrame (forNat 4 (fun p s => txSettle p false s) s))

/-- One media frame inside a block: the counted MSI rises by one (R45, R47). -/
def frameTick (s : State) : State :=
  frameWork { eccWindow 1 s with msi := s.msi + 1, time := { s.time with frames := s.time.frames + 1, since := s.time.since + 1 } }

/-- An idle step: one media frame, where the next one does not begin a block. -/
def idleTick (s : State) : State := if clocked s && (s.msi + 1) % 16 != 0 then frameTick s else s

/-! ### Uncorrectable words (R412) -/

/-- A DRAM word of a descriptor ring. -/
def ringWord (s : State) (w : Nat) : Bool :=
  let within := fun (base size : Nat) => base ≤ w && w < base + 2 * size
  (List.range 4).any (fun p => (List.range 4).any (fun r =>
    (r != 1 && within (getF s (F.NET_RR_BASE_BASE p r)) (getF s (F.NET_RR_CFG_SIZE p r))) ||
    within (getF s (F.NET_TR_BASE_BASE p r)) (getF s (F.NET_TR_CFG_SIZE p r))))

/-- Control state: working SRAM, the shadow route table, descriptor rings. -/
def controlWord (s : State) (a : Nat) : Bool :=
  (sramBase ≤ a && a < sramBase + 0x200000) ||
  (poolBase + 16 * shadowBase ≤ a && a < poolBase + 16 * (shadowBase + 2 * rdN s R.RTE_SHD_COUNT)) ||
  (dramBase ≤ a && ringWord s ((a - dramBase) / 16))

/-- A word with an uncorrectable error, found by the render or on a write back. -/
def eccHit (a : Nat) (s : State) : State :=
  let s := eccRecord a s
  if controlWord s a then raiseFatal .errEccControl s
  else if 0xB0000000 ≤ a && a < 0xB0000000 + 17 * 0x100000 then
    let t := (a - 0xB0000000) / 0x100000
    runnerStruck t (raise .errEccRunner t s)
  else
    let s := if 0x80000000 ≤ a && a < 0x80000000 + 17 * 0x800000 then hoStrike ((a - 0x80000000) / 0x800000) s else s
    raise .errEccData 0 (wrWord72 s (a / 16 * 16) 0 0)

/-! ### The strobe -/

/-- The block tick's vector (R449). -/
def blockTick (s : State) : State :=
  let s := { s with fab := { s.fab with vectors := [] } }
  if blk s % 2 ^ getF s F.SYS_CTL_TICK = 0 then signal 6 s else s

/-- The render pipeline in block t: each stage takes the input block of R29. -/
def renderBlock (inp : StrobeIn) (s : State) : State :=
  let t := blk s
  let s := { s with rnd := { s.rnd with prevSlots := s.rnd.slots, prevChans := s.rnd.chans, prevGeo := s.geo.objs } }
  let s := pdmStrobe inp.pins s
  let s := if rendered s (t - 2) then pairStage (t - 2) s else s
  let s := if rendered s (t - 1) then sprueStage (t - 1) inp s else capTail inp s
  let s := rotateOut t (rxStrobe (asrcAssign s))
  let s := flkStrobe s
  let s := if running s then speakerStages t s else s
  txStrobe s

/-- The boundary's own work before the render: the geometry of the instant one block back, whose segments and registers are
those of its own boundary (R140), then shadows, claim, ladle, segments (R55 items 4 and 5). -/
def boundaryWork (s : State) : State :=
  let s := takeShadows (heldStrobe (if s.err.fatal then s else geoStrobe s))
  let s := setF s F.TSU_MEDIA_CFG_CMP (getF s (F.TSU_TB_CFG_FMT (getF s F.TSU_MEDIA_CFG_MTB)))
  let s := if !s.rte.doneAt.isEmpty then rteShow s else s
  segmentsCurrent (hierStrobe (claimStrobe s))

/-- Errors that the block before has shown, and the checks of its tiles. -/
def blockChecks (inp : StrobeIn) (s : State) : State :=
  seqStrobe inp (forEach inp.eccUnc eccHit (eccCorrectable inp.eccCorr s))

/-- The frames left of the block that ends. -/
def finishBlock (s : State) : State := forNat (15 - s.msi % 16) (fun _ s => frameTick s) s

/-- The block strobe: the block that ends plays out, the time subsystem moves to the boundary, and every block-timed
subsystem starts the new block.  In the safe state tiles and geometry units have stopped (R411). -/
def blockStrobe (inp : StrobeIn) (s : State) : State :=
  let s := blockTick (autoAck (strobeTime inp.refCycles (finishBlock (ladleFlush s))))
  let stopped : Bool := s.err.fatal
  let s := boundaryWork (blockChecks inp s)
  let s := if stopped then sliceFatal (dacFatal (flkStrobe s)) else renderBlock inp s
  frameWork (apdStrobe (dacStrobe s))

/-- BLOCK_STROBE. -/
def execBlockStrobe (inp : StrobeIn) (s : State) : Out := .next (if clocked s then blockStrobe inp s else s)

/-! ### GPIO pins (R457, R216, R315) -/

/-- The loop word that a GPIO carries as PWM. -/
def pwmWord (s : State) (g : Nat) : Nat :=
  match (List.range 16).find? (fun k =>
      getF s (F.APD_GCFG_LOOP k) == 1 && getF s (F.APD_LOOP_OUT k) == 1 && getF s (F.APD_LOOP_GPIO k) == g) with
  | some k => getF s (F.APD_LOOPOUT_U k)
  | none => 0

/-- The level of a GPIO pin at the start of the present frame; none where it is an input. -/
def gpioPin (s : State) (g : Nat) : Option Bool :=
  match liveN s (R.SYS_GPIO_FN (g / 8)) / 16 ^ (g % 8) % 16 with
  | 1 => some (bit (rdN s R.SYS_GPIO_OUT) g)
  | 2 => some (getL s (F.SPK_GPIO_EN g) == 1 && (chanOf s (getL s (F.SPK_GPIO_CH g))).play.silent)
  | 3 => some (s.time.frames * (if rate96 s then 256 else 512) % 4096 < pwmWord s g / 16)
  | 4 => some (!faultNLow s)
  | _ => none

end Sys2Proof.Machine
end

