-- ==== Sys2Proof/Machine/Bus.lean ====
section
/-! DEFINITION. Register reads and writes as an interface delivers them, bus matrix transactions, SPI and the management ring
(spec/00_scope.md R18 to R21, spec/18_faults_and_journal.md R405, R413, R416, spec/20_control_fabric.md R436 to R451,
spec/23_register_index.md R497, R498). -/

namespace Sys2Proof.Machine

/-- The state that a meaning answers. -/
def after (s : State) : Out → State
  | .next t => t
  | _ => s

/-! ### Writes -/

/-- Writes of SYS: the reset command and the DMA tail. -/
def sysWrite (via : Src) (off : Nat) (v : Word) (s : State) : State :=
  if off = R.SYS_RST_CMD then
    if fget v 31 16 = 0x5253 ∧ fget v 1 0 = 1 then after s (execSysRstCore s)
    else if fget v 31 16 = 0x5253 ∧ fget v 1 0 = 2 then after s (execSysRstFull s)
    else writeIgnored (journalReg via off v s)
  else if off = R.SYS_DMA_TAIL then after s (execDmaTailWrite via v s)
  else regWrite via off v s

/-- Writes of ERR and JNL. -/
def errWrite (via : Src) (off : Nat) (v : Word) (s : State) : State :=
  if off = R.ERR_ACK then after s (execErrAckWrite v s)
  else if off = R.JNL_CTL then after s (if bit v.toNat 0 then execJnlFreeze via s else execJnlResume via s)
  else if off = R.JNL_SEL then after s (execJnlSelWrite via v s)
  else regWrite via off v s

/-- Commands of PAT_CMD. -/
def patWrite (via : Src) (v : Word) (s : State) : State :=
  let k := Fin.ofNat 4 (fget v 9 8)
  match fget v 3 0 with
  | 1 => after s (execPatLoad via s)
  | 2 => after s (execPatLoadSlot via k s)
  | 3 => after s (execPatArm via s)
  | 4 => after s (execPatPour via s)
  | 5 => after s (execPatStop via s)
  | 6 => after s (execPatDiscard via s)
  | 7 => after s (execPatAmend via s)
  | 8 => after s (execPatStore via k s)
  | 9 => after s (execPatErase via k s)
  | 10 => after s (execPatAuto via k (bit v.toNat 12) s)
  | _ => journalReg via R.PAT_CMD v s

/-- Nanoseconds since a time base's last measurement, by the REFCLK count. -/
def measInterval (n : Nat) (s : State) : Nat := (nowStamp s - (tbOf s n).measAt) * 5 / 32

/-- Writes of TSU: measurements and steps have their own effect. -/
def tsuWrite (via : Src) (off : Nat) (v : Word) (s : State) : State :=
  match inst (R.TSU_TB_MEAS 0) 64 4 off, inst (R.TSU_TB_CMD 0) 64 4 off with
  | some n, _ => after s (execPtpMeasWrite (Fin.ofNat 4 n) v (BitVec.ofNat 32 (measInterval n s)) s)
  | _, some n => if bit v.toNat 0 then after s (execTbStep via (Fin.ofNat 4 n) s) else journalReg via off v s
  | _, _ => regWrite via off v s

/-- Commands of BST_CMD. -/
def bstWrite (via : Src) (v : Word) (s : State) : State :=
  match fget v 3 0 with
  | 1 => after s (execBstClearMap via s)
  | 2 => after s (execBstMark via (Fin.ofNat 32 (fget v 12 8)) s)
  | _ => journalReg via R.BST_CMD v s

/-- Commands of CLM_CMD. -/
def clmWrite (via : Src) (v : Word) (s : State) : State :=
  match fget v 3 0 with
  | 1 => after s (execClmDrill via s)
  | 2 => after s (execClmRenorm via s)
  | 3 => after s (execClmForceActive via s)
  | 4 => after s (execClmYield via s)
  | _ => journalReg via R.CLM_CMD v s

/-- Writes of OBJ. -/
def objWrite (via : Src) (off : Nat) (v : Word) (s : State) : State :=
  if off = R.OBJ_CMD then
    let o := Fin.ofNat 2048 (fget v 10 0)
    match fget v 31 28 with
    | 1 => after s (execObjCmdReseq via o s)
    | 2 => after s (execObjCmdFlush via o s)
    | _ => journalReg via off v s
  else if off = R.OBJ_HQ_TAIL then after s (execHqTailWrite v s)
  else if off = R.OBJ_HQ_BASE then after s (execHqBaseWrite via v s)
  else regWrite via off v s

/-- Commands of RTE_CMD. -/
def rteWrite (via : Src) (v : Word) (s : State) : State :=
  match fget v 3 0 with
  | 1 => after s (execRteCommit via s)
  | 2 => after s (execRteCopy via s)
  | 3 => after s (execRteCancel via s)
  | _ => journalReg via R.RTE_CMD v s

/-- Writes of NET: ring tails and gate-list commands. -/
def netWrite (via : Src) (off : Nat) (v : Word) (s : State) : State :=
  let p := (off - 0x600000) / 0x40000
  let o := (off - 0x600000) % 0x40000
  let q := Fin.ofNat 4 p
  match inst 0x108 32 4 o, inst 0x208 32 4 o with
  | some r, _ => after s (execRxRingTailWrite q (Fin.ofNat 4 r) v s)
  | _, some r => after s (execTxRingTailWrite q (Fin.ofNat 4 r) v s)
  | _, _ =>
    if o = 0x38 then
      match fget v 3 0 with
      | 1 => after s (execGclCommit via q s)
      | 2 => after s (execGclCancel via q s)
      | _ => journalReg via off v s
    else regWrite via off v s

/-- Commands of CAP_CMD. -/
def capWriteCmd (via : Src) (v : Word) (s : State) : State :=
  match fget v 3 0 with
  | 1 => after s (execCapStart via s)
  | 2 => after s (execCapStop via s)
  | 3 => after s (execCapCancel via s)
  | _ => journalReg via R.CAP_CMD v s

/-- Commands of DAC_CMD. -/
def dacWrite (via : Src) (v : Word) (s : State) : State :=
  let n := Fin.ofNat 32 (fget v 4 0)
  match fget v 7 5 with
  | 1 => after s (execDacForce via n s)
  | 2 => after s (execDacClear via n s)
  | _ => journalReg via R.DAC_CMD v s

/-- Writes of CC: run bits, kicks, journal sources (not journalled, R444), mailboxes. -/
def ccWrite (via : Src) (off : Nat) (v : Word) (s : State) : State :=
  if off = R.CC_RUN then after s (execCcRunWrite via (Fin.ofNat 16 v.toNat) s)
  else if off = R.CC_WDT then
    let s := regWrite via off v s
    { s with fab := { s.fab with kickAt := (List.range 4).map (fun n => (n, s.msi)) } }
  else if off < R.CC_KICK 0 then (if R.CC_SRC 0 ≤ off then plainWrite off v s else regWrite via off v s)
  else if off < 0xB01000 then after s (execCcKick via (Fin.ofNat 4 ((off - R.CC_KICK 0) / 4)) v s)
  else
    let n := (off - 0xB01000) / 0x400
    let o := (off - 0xB01000) % 0x400
    if o = 0x200 then after s (execMailboxDoorbell via (Fin.ofNat 4 n) (BitVec.ofNat 16 v.toNat) s)
    else if o = 0x204 then after s (execMailboxDone (Fin.ofNat 4 n) (BitVec.ofNat 16 v.toNat) s)
    else if o < 0x100 && mbBusy s n then writeIgnored s
    else plainWrite off v s

/-- A command register other than those above. -/
def cmdWrite (via : Src) (off : Nat) (v : Word) (s : State) : State :=
  if off = R.SEQ_HO_CTL then
    if bit v.toNat 31 then after s (execSeqHandoverGo via (Fin.ofNat 16 (fget v 3 0)) s) else journalReg via off v s
  else if off = R.MTX_CMD then after s (execMtxCmdReset via (Fin.ofNat 16 (fget v 3 0)) s)
  else if off = R.FLK_CMD then
    if fget v 3 0 = 1 then after s (execFlkResync via s) else journalReg via off v s
  else if off = R.PDM_CMD then
    if bit v.toNat 0 then after s (execPdmSync via s) else journalReg via off v s
  else if off = R.NVM_CMD then
    if fget v 3 0 = 1 then after s (execNvmProgram via (Fin.ofNat 4 (fget v 9 8)) s) else journalReg via off v s
  else regWrite via off v s

/-- A 32-bit write of a register by an interface: status registers clear by ones, command registers act, the others are
applied, ignored or shadowed by their access type (R18, R20, R498). -/
def busWrite (via : Src) (off : Nat) (v : Word) (s : State) : State :=
  match regRow off with
  | none => s
  | some r =>
    if r.w1c != 0 then w1cClear off v s
    else if off < 0x10000 then sysWrite via off v s
    else if off < 0x20000 then errWrite via off v s
    else if off = R.PAT_CMD then patWrite via v s
    else if 0x40000 ≤ off && off < 0x50000 then tsuWrite via off v s
    else if off = R.BST_CMD then bstWrite via v s
    else if off = R.CLM_CMD then clmWrite via v s
    else if 0x100000 ≤ off && off < 0x200000 then objWrite via off v s
    else if off = R.RTE_CMD then rteWrite via v s
    else if 0x600000 ≤ off && off < 0x700000 then netWrite via off v s
    else if off = R.CAP_CMD then capWriteCmd via v s
    else if off = R.DAC_CMD then dacWrite via v s
    else if 0xB00000 ≤ off then ccWrite via off v s
    else cmdWrite via off v s

/-- REGISTER_WRITE: a write through an interface at a BAR0 offset. -/
def execRegisterWrite (via : Src) (off : BitVec 24) (v : Word) (s : State) : Out := .next (busWrite via off.toNat v s)

/-! ### Reads -/

/-- BST_STATE as read: with the milliseconds until the gap of R423 has passed. -/
def bstStateWord (s : State) : Nat :=
  let left := s.bst.lastEnd + msBlocks s (getF s F.BST_CFG_GAP) - blk s
  rdN s R.BST_STATE / 65536 * 65536 + min 65535 ((left + (if rate96 s then 5 else 2)) / (if rate96 s then 6 else 3))

/-- The current segment's effective block and sequence number of the object that OBJ_SEL names. -/
def shownCur (s : State) : Nat × Nat :=
  match (shownObj s).cur with
  | some g => (g.e, g.rcd.seq)
  | none => (0, 0)

/-- What an inspection register of GEO or RND reads. -/
def renderRead (s : State) (off : Nat) : Option Nat :=
  if off = R.GEO_ODIST then some ((geoShown s).r / 8)
  else if off = R.GEO_ODLY then some (geoLatest s).d
  else if off = R.GEO_OTRI then some (geoTriWord s)
  else if off = R.RND_OSTAT then some (rndOstat s)
  else if off = R.RND_OFADE then some (rndOfade s)
  else if off = R.RND_OLS_LO then some (rndShown s).ls
  else if off = R.RND_OLS_HI then some ((rndShown s).ls / 2 ^ 32)
  else if off = R.RND_ODLY then some (rndOdly s)
  else if off = R.RND_TDESC then some (rndTdesc s)
  else if off = R.RND_TGAIN then some (rndTgain s)
  else if off = R.RND_TDLY then some (rndTdly s)
  else if off = R.RND_TWIN then some (rndTwin s)
  else none

/-- What a status register of the objects, the speaker stages or the routes reads. -/
def unitRead (s : State) (off : Nat) : Option Nat :=
  if off = R.OBJ_OSTAT then some (ostatWord s)
  else if off = R.OBJ_OHIGH then some (shownObj s).high
  else if off = R.OBJ_OEFF_LO then some (shownCur s).1
  else if off = R.OBJ_OEFF_HI then some ((shownCur s).1 / 2 ^ 32)
  else if off = R.OBJ_OSEQ then some (shownCur s).2
  else if off = R.SPK_ASC then some (ascWord s)
  else if off = R.SPK_CCFG then some (ccfgWord s (getF s F.SPK_SEL_CH))
  else if off = R.SPK_CSTAT then some (cstatWord s (getF s F.SPK_SEL_CH))
  else match inst (R.SPK_OSIL 0) 4 64 off, inst (R.SPK_SSIL 0) 4 32 off, inst (R.STR_RX_STATE 0) 256 256 off with
    | some r, _, _ => some (osilWord s r)
    | _, some r, _ => some (ssilWord s r)
    | _, _, some c => some (rxStateWord s c)
    | _, _, _ => none

/-- What a status register of the system, the error engine or the time subsystem reads. -/
def systemRead (s : State) (off : Nat) : Option Nat :=
  if off = R.SYS_REV then some Config.dieRev.toNat
  else if off = R.SYS_PWR_STATE then some (pwrState s * 2 ^ 29 + getF s F.SYS_PWR_STATE_CC_SLOW * 2 ^ 28)
  else if off = R.ERR_SUM then some (errSum s)
  else if off = R.ERR_CUR then some (errCurWord s)
  else if off = R.ERR_CUR_SRC then some (errCurSrcWord s)
  else if off = R.JNL_CTL then some (b2n s.jnl.frozen.isSome)
  else if off = R.JNL_NEXT then some s.jnl.next
  else if off = R.TSU_LEAD then some (b2n (isManager s) * 512 + b2n (isActive s) * 256 + lead s)
  else if off = R.BST_STATE then some (bstStateWord s)
  else none

/-- What a register reads as (R18, R497, R498): write-only fields and unlisted offsets read zero. -/
def readReg (s : State) (addr : Nat) : Nat :=
  let off := realOff s addr
  match systemRead s addr, unitRead s addr, renderRead s addr with
  | some v, _, _ => v
  | _, some v, _ => v
  | _, _, some v => v
  | none, none, none =>
    match regRow off with
    | none => 0
    | some r => (rd s off &&& ~~~ BitVec.ofNat 32 r.wo).toNat

/-- A register that a read restores and that is no counter: SPK_CGRMIN of a channel, SEQ_TMAXt, SYS_TEMP_MAX.
SYS_CTL.CNT_HOLD does not hold it (R19, R219). -/
def peakReg (off : Nat) : Bool :=
  (inst (R.VSPK_CGRMIN 0) 32 1344 off).isSome || (List.range 17).any (fun t => off == R.SEQ_TMAX t) || off == R.SYS_TEMP_MAX

/-- A read of a counter clears it unless SYS_CTL.CNT_HOLD is set (R19); the peak temperatures start from the present ones. -/
def rclAfter (addr : Nat) (s : State) : State :=
  let off := realOff s addr
  match regRow off with
  | none => s
  | some r =>
    if getF s F.SYS_CTL_CNT_HOLD = 1 ∧ !peakReg off then s
    else if off = R.SYS_TEMP_MAX then wr s off (rd s R.SYS_TEMP)
    else
      let m := BitVec.ofNat 32 r.rcl
      wr s off ((rd s off &&& ~~~ m) ||| (regReset off &&& m))

/-- A 32-bit read of a register, with its side effects. -/
def busRead (addr : Nat) (s : State) : State :=
  if addr = R.TSU_MSI_LO then after s (execMsiLoRead s)
  else if addr = R.ERR_CUR_MSI_LO then after s (execErrMsiLoRead s)
  else match inst (R.TSU_TB_NS 0) 64 4 addr with
    | some n => tbNsRead n s
    | none => rclAfter addr { s with rdata := BitVec.ofNat 32 (readReg s addr) }

/-- RCL_READ. -/
def execRclRead (off : BitVec 24) (s : State) : Out := .next (busRead off.toNat s)

/-! ### Bus matrix transactions (R438 to R441, R447) -/

/-- The journal's source for a code of CC_SRCn (R444). -/
def srcOfCode (n : Nat) : Src :=
  match n with
  | 0 => .pcie
  | 1 => .spi
  | 2 => .moaby
  | 3 => .ring
  | 4 => .flask
  | _ => .device

/-- The source of a master's register writes. -/
def masterSrc (s : State) (m : Nat) : Src :=
  if m < 4 then srcOfCode (getF s (F.CC_SRC_SRC m)) else if m = 4 then .pcie else .device

/-- The control-core address of a transaction: BAR2 goes through its pages (R447). -/
def accAddr (s : State) (x : BusAcc) : Nat :=
  let a := x.addr.toNat
  if x.bar2 then getF s (F.SYS_PAGE_BASE (a / 2 ^ 24 % 16)) * 2 ^ 24 + a % 2 ^ 24 else a

/-- A range of the register space. -/
def inRegs (a len : Nat) : Bool := 0x40000000 ≤ a && a + len ≤ 0x41000000

/-- Words of a byte string, with their offsets. -/
def wordsOf (off : Nat) (bs : List Byte) : List (Nat × Word) :=
  (List.range (bs.length / 4)).map (fun i => (off + 4 * i, BitVec.ofNat 32 (leAt bs (4 * i) 4)))

/-- Register beats of a transaction: a read gathers the words. -/
def regBeats (x : BusAcc) (a : Nat) (s : State) : State :=
  let s := { s with fab := { s.fab with busErr := false } }
  let n := if x.write then x.data.length else x.len
  let off := a - 0x40000000
  if !x.full || n % 4 != 0 || a % 4 != 0 then
    let s := { s with rdata := 0, fab := { s.fab with busData := List.replicate n 0 } }
    if x.write then raise .mtxPartial 0 s else s
  else if x.write then
    let via := masterSrc s x.master.val
    (wordsOf off x.data).take x.keep |>.foldl (fun s w => busWrite via w.1 w.2 s) s
  else
    let s := { s with fab := { s.fab with busData := [] } }
    forNat (n / 4) (fun i s =>
      let s := busRead (off + 4 * i) s
      { s with fab := { s.fab with busData := s.fab.busData ++ leBytes 4 s.rdata.toNat } }) s

/-- BUS_MATRIX_ACCESS: a transaction is performed at its target, or has the error response. -/
def execBusMatrixAccess (x : BusAcc) (s : State) : Out :=
  let a := accAddr s x
  let n := if x.write then x.data.length else x.len
  .next (if n = 0 || s.bst.held.contains x.master.val then s
    else if inRegs a n then regBeats x a s
    else
      let s := eccCorrectable x.corr s
      if x.write then memWrite x.master.val a x.keep x.data s else memRead x.master.val a x.len x.unc s)

/-! ### SPI (R450) -/

/-- One aligned 32-bit access through a layer; the write's word, or none for a read, whose word lands in rdata. -/
def wordAccess (via : Src) (m : Nat) (w : Option Word) (a : Nat) (s : State) : State :=
  if inRegs a 4 then
    let s := { s with fab := { s.fab with busErr := false } }
    if a % 4 != 0 then (if w.isSome then raise .mtxPartial 0 s else { s with rdata := 0 })
    else match w with
      | some v => busWrite via (a - 0x40000000) v s
      | none => busRead (a - 0x40000000) s
  else match w with
    | some v => memWrite m a 4 (leBytes 4 v.toNat) s
    | none => memRead m a 4 [] s

/-- SPI_WRITE: the words that follow command 0x02; a word cut short is discarded.  While a test slice holds M4's requests
(R424), the frame waits. -/
def execSpiWrite (addr : BitVec 40) (data : List Byte) (s : State) : Out :=
  .next (if s.bst.held.contains 4 then s
    else
      let s := (wordsOf addr.toNat data).foldl (fun s w => wordAccess .spi 4 (some w.2) (w.1 % 2 ^ 40) s) s
      if data.length % 4 = 0 then s else raise .mtxPartial 0 s)

/-- SPI_READ: command 0x0B; wait is how many bytes pass before the data come. -/
def execSpiRead (addr : BitVec 40) (words wait : Nat) (s : State) : Out :=
  let s := { s with fab := { s.fab with spiOut := List.replicate (min wait 64) 0 } }
  .next (if 64 ≤ wait ∨ s.bst.held.contains 4 then { s with fab := { s.fab with spiOut := s.fab.spiOut ++ [0xEE#8] } }
    else
      let s := { s with fab := { s.fab with spiOut := s.fab.spiOut ++ [0xA1#8] } }
      forNat words (fun i s =>
        let s := wordAccess .spi 4 none ((addr.toNat + 4 * i) % 2 ^ 40) s
        { s with fab := { s.fab with spiOut := s.fab.spiOut ++ leBytes 4 s.rdata.toNat } }) s)

/-! ### The management ring (R451) -/

/-- CC2 runs. -/
def cc2Runs (s : State) : Bool := bit (getF s F.CC_RUN_RUN) 2 && !s.fab.stopped.contains 2

/-- MGMT_READ32: one register, or one word of memory. -/
def execMgmtRead32 (addr : BitVec 40) (s : State) : Out := .next (wordAccess .ring 2 none addr.toNat s)

/-- MGMT_WRITE32. -/
def execMgmtWrite32 (addr : BitVec 40) (v : Word) (s : State) : Out := .next (wordAccess .ring 2 (some v) addr.toNat s)

/-- A management frame passes its checks: MAGIC, VERSION, length, CRC, COUNT, reserved bits. -/
def mgmtOk (bs : List Byte) : Bool :=
  let n := leAt bs 4 2
  leAt bs 0 2 == 0x474D && leAt bs 2 1 == 1 && bs.length == 20 + 16 * n && 1 ≤ n && n ≤ 64 &&
    crc32c (bs.take (16 + 16 * n)) == leAt bs (16 + 16 * n) 4 && leAt bs 3 1 == 0 && leAt bs 6 2 == 0 && leAt bs 12 4 == 0

/-- One operation, and its 16 bytes of the answer. -/
def mgmtOp (op : List Byte) (s : State) : State × List Byte :=
  let a := leAt op 3 5
  let answer := fun (st : Nat) (v : List Byte) => op.take 1 ++ leBytes 1 st ++ slice op 2 6 ++ v ++ leBytes 4 0
  match leAt op 0 1 with
  | 1 =>
    let s := wordAccess .ring 2 none a s
    (s, answer (b2n s.fab.busErr) (leBytes 4 s.rdata.toNat))
  | 2 =>
    let s := wordAccess .ring 2 (some (BitVec.ofNat 32 (leAt op 8 4))) a s
    (s, answer (b2n s.fab.busErr) (slice op 8 4))
  | _ => (s, answer 2 (slice op 8 4))

/-- MGMT_FRAME_RX: CC2 checks a frame's UDP payload, performs its operations in order and answers; a bad frame has no
answer, and while CC2 is stopped the frame stays in its ring (R445). -/
def execMgmtFrameRx (frame : List Byte) (s : State) : Out :=
  .next (if !cc2Runs s || !mgmtOk frame then s
    else
      let (s, ops) := (List.range (leAt frame 4 2)).foldl (fun (p : State × List Byte) i =>
        let (s, b) := mgmtOp (slice frame (16 + 16 * i) 16) p.1
        (s, p.2 ++ b)) (s, [])
      let out := frame.take 3 ++ leBytes 1 1 ++ slice frame 4 12 ++ ops
      { s with fab := { s.fab with mgmtOut := out ++ leBytes 4 (crc32c out) } })

end Sys2Proof.Machine
end

