-- ==== Sys2Proof/Machine/Dispatch.lean ====
section
/-! DEFINITION. What each command does to everything but the queue: one arm per row of spec/opcode_table.json. -/

namespace Sys2Proof.Machine

/-- The effect of a command. -/
def exec (i : Instr) (s : State) : Host.Outcome State Fault Refusal :=
  match i with
  | .blockStrobe inp => Sys2Proof.Machine.execBlockStrobe inp s
  | .registerWrite via off v => Sys2Proof.Machine.execRegisterWrite via off v s
  | .statW1cWrite off v => Sys2Proof.Machine.execStatW1cWrite off v s
  | .rclRead off => Sys2Proof.Machine.execRclRead off s
  | .msiLoRead => Sys2Proof.Machine.execMsiLoRead s
  | .tbNsRead n => Sys2Proof.Machine.execTbNsRead n s
  | .errMsiLoRead => Sys2Proof.Machine.execErrMsiLoRead s
  | .busMatrixAccess x => Sys2Proof.Machine.execBusMatrixAccess x s
  | .tileOverrun t unwritten claims => Sys2Proof.Machine.execTileOverrun t unwritten claims s
  | .tileFail t => Sys2Proof.Machine.execTileFail t s
  | .seqHandoverGo via q => Sys2Proof.Machine.execSeqHandoverGo via q s
  | .handoverSweep => Sys2Proof.Machine.execHandoverSweep s
  | .handoverSwitch => Sys2Proof.Machine.execHandoverSwitch s
  | .patLoad via => Sys2Proof.Machine.execPatLoad via s
  | .patLoadSlot via slot => Sys2Proof.Machine.execPatLoadSlot via slot s
  | .patLoadDone => Sys2Proof.Machine.execPatLoadDone s
  | .patArm via => Sys2Proof.Machine.execPatArm via s
  | .armDone => Sys2Proof.Machine.execArmDone s
  | .patPour via => Sys2Proof.Machine.execPatPour via s
  | .pourStrobe => Sys2Proof.Machine.execPourStrobe s
  | .patStop via => Sys2Proof.Machine.execPatStop via s
  | .stopStrobe => Sys2Proof.Machine.execStopStrobe s
  | .patternStopped => Sys2Proof.Machine.execPatternStopped s
  | .patDiscard via => Sys2Proof.Machine.execPatDiscard via s
  | .patAmend via => Sys2Proof.Machine.execPatAmend via s
  | .amendStageCheck => Sys2Proof.Machine.execAmendStageCheck s
  | .amendApply => Sys2Proof.Machine.execAmendApply s
  | .patStore via slot => Sys2Proof.Machine.execPatStore via slot s
  | .storeDone => Sys2Proof.Machine.execStoreDone s
  | .patErase via slot => Sys2Proof.Machine.execPatErase via slot s
  | .patAuto via slot en => Sys2Proof.Machine.execPatAuto via slot en s
  | .autoPour => Sys2Proof.Machine.execAutoPour s
  | .coefConversionDone => Sys2Proof.Machine.execCoefConversionDone s
  | .fallbackSwitch => Sys2Proof.Machine.execFallbackSwitch s
  | .shedApply => Sys2Proof.Machine.execShedApply s
  | .metadataFrameCheck p => Sys2Proof.Machine.execMetadataFrameCheck p s
  | .recordJudge => Sys2Proof.Machine.execRecordJudge s
  | .recordLateRefuse obj => Sys2Proof.Machine.execRecordLateRefuse obj s
  | .ackFrameSend => Sys2Proof.Machine.execAckFrameSend s
  | .hqTailWrite v => Sys2Proof.Machine.execHqTailWrite v s
  | .hqBaseWrite via v => Sys2Proof.Machine.execHqBaseWrite via v s
  | .objCmdReseq via obj => Sys2Proof.Machine.execObjCmdReseq via obj s
  | .objCmdFlush via obj => Sys2Proof.Machine.execObjCmdFlush via obj s
  | .objCmdAct obj => Sys2Proof.Machine.execObjCmdAct obj s
  | .geoOverrun h => Sys2Proof.Machine.execGeoOverrun h s
  | .geoUnitFail u => Sys2Proof.Machine.execGeoUnitFail u s
  | .gChange => Sys2Proof.Machine.execGChange s
  | .silenceHoldReached ch => Sys2Proof.Machine.execSilenceHoldReached ch s
  | .scalePeriodEnd => Sys2Proof.Machine.execScalePeriodEnd s
  | .scaleXfadeEnd => Sys2Proof.Machine.execScaleXfadeEnd s
  | .rcXfadeEnd j => Sys2Proof.Machine.execRcXfadeEnd j s
  | .rteCommit via => Sys2Proof.Machine.execRteCommit via s
  | .rteCopy via => Sys2Proof.Machine.execRteCopy via s
  | .rteCancel via => Sys2Proof.Machine.execRteCancel via s
  | .rteValidationDone => Sys2Proof.Machine.execRteValidationDone s
  | .rteCommitApply => Sys2Proof.Machine.execRteCommitApply s
  | .rteXfDone => Sys2Proof.Machine.execRteXfDone s
  | .tbCfgWrite via n v => Sys2Proof.Machine.execTbCfgWrite via n v s
  | .tbStep via n => Sys2Proof.Machine.execTbStep via n s
  | .tbStepApply n => Sys2Proof.Machine.execTbStepApply n s
  | .ptpMeasWrite n offset intervalNs => Sys2Proof.Machine.execPtpMeasWrite n offset intervalNs s
  | .refEdge pin stamp => Sys2Proof.Machine.execRefEdge pin stamp s
  | .refEdgeTimeout n => Sys2Proof.Machine.execRefEdgeTimeout n s
  | .ptpSyncTimeout n => Sys2Proof.Machine.execPtpSyncTimeout n s
  | .ptpAnnounceTimeout n => Sys2Proof.Machine.execPtpAnnounceTimeout n s
  | .mediaSeat => Sys2Proof.Machine.execMediaSeat s
  | .mlRequalLock => Sys2Proof.Machine.execMlRequalLock s
  | .ppsOutSecond => Sys2Proof.Machine.execPpsOutSecond s
  | .rxFrame p inp => Sys2Proof.Machine.execRxFrame p inp s
  | .linkDown p => Sys2Proof.Machine.execLinkDown p s
  | .linkUp p badSpeed anDone => Sys2Proof.Machine.execLinkUp p badSpeed anDone s
  | .rxRingTailWrite p r v => Sys2Proof.Machine.execRxRingTailWrite p r v s
  | .txRingTailWrite p r v => Sys2Proof.Machine.execTxRingTailWrite p r v s
  | .ringCfgWrite via p r tx isBase v => Sys2Proof.Machine.execRingCfgWrite via p r tx isBase v s
  | .txFrame p cycleNs stamp => Sys2Proof.Machine.execTxFrame p cycleNs stamp s
  | .txTailTimeout p r => Sys2Proof.Machine.execTxTailTimeout p r s
  | .gclCommit via p => Sys2Proof.Machine.execGclCommit via p s
  | .gclCancel via p => Sys2Proof.Machine.execGclCancel via p s
  | .gclApply p => Sys2Proof.Machine.execGclApply p s
  | .gclEntryAdvance p => Sys2Proof.Machine.execGclEntryAdvance p s
  | .lpiEnter p cycleNs => Sys2Proof.Machine.execLpiEnter p cycleNs s
  | .lpiWake p => Sys2Proof.Machine.execLpiWake p s
  | .streamPacketRx c => Sys2Proof.Machine.execStreamPacketRx c s
  | .strRxEnable via c => Sys2Proof.Machine.execStrRxEnable via c s
  | .strRxDisable via c => Sys2Proof.Machine.execStrRxDisable via c s
  | .strTxEnable via t => Sys2Proof.Machine.execStrTxEnable via t s
  | .strTxDisable via t => Sys2Proof.Machine.execStrTxDisable via t s
  | .strRxTimeout c => Sys2Proof.Machine.execStrRxTimeout c s
  | .claimHoldTimeout c => Sys2Proof.Machine.execClaimHoldTimeout c s
  | .heldPacketExpire t => Sys2Proof.Machine.execHeldPacketExpire t s
  | .apdGroupEnable via g => Sys2Proof.Machine.execApdGroupEnable via g s
  | .apdGroupDisable via g => Sys2Proof.Machine.execApdGroupDisable via g s
  | .slaveFsEdge g stamp bclks => Sys2Proof.Machine.execSlaveFsEdge g stamp bclks s
  | .slaveFsTimeout g => Sys2Proof.Machine.execSlaveFsTimeout g s
  | .laneMaskWrite via l v => Sys2Proof.Machine.execLaneMaskWrite via l v s
  | .laneMaskTransfer l => Sys2Proof.Machine.execLaneMaskTransfer l s
  | .csCommit via l => Sys2Proof.Machine.execCsCommit via l s
  | .csTransfer l => Sys2Proof.Machine.execCsTransfer l s
  | .biphaseFrameRx l f => Sys2Proof.Machine.execBiphaseFrameRx l f s
  | .biphaseLockLoss l => Sys2Proof.Machine.execBiphaseLockLoss l s
  | .pdmSync via => Sys2Proof.Machine.execPdmSync via s
  | .micsyncEdge highCycles => Sys2Proof.Machine.execMicsyncEdge highCycles s
  | .decimatorReset => Sys2Proof.Machine.execDecimatorReset s
  | .micIdle m => Sys2Proof.Machine.execMicIdle m s
  | .micResume m => Sys2Proof.Machine.execMicResume m s
  | .capStart via => Sys2Proof.Machine.execCapStart via s
  | .capStop via => Sys2Proof.Machine.execCapStop via s
  | .capCancel via => Sys2Proof.Machine.execCapCancel via s
  | .capRunStart => Sys2Proof.Machine.execCapRunStart s
  | .capEnd => Sys2Proof.Machine.execCapEnd s
  | .dacUnderrun n => Sys2Proof.Machine.execDacUnderrun n s
  | .dacUrFault n => Sys2Proof.Machine.execDacUrFault n s
  | .dacForce via n => Sys2Proof.Machine.execDacForce via n s
  | .dacClear via n => Sys2Proof.Machine.execDacClear via n s
  | .dacPowerUpLoad => Sys2Proof.Machine.execDacPowerUpLoad s
  | .dacCfgWrite via n v => Sys2Proof.Machine.execDacCfgWrite via n v s
  | .dacSpanStart n => Sys2Proof.Machine.execDacSpanStart n s
  | .dacSpanSwitch n => Sys2Proof.Machine.execDacSpanSwitch n s
  | .dacSettleDone n => Sys2Proof.Machine.execDacSettleDone n s
  | .clmCfgWrite via v => Sys2Proof.Machine.execClmCfgWrite via v s
  | .clmDrill via => Sys2Proof.Machine.execClmDrill via s
  | .clmRenorm via => Sys2Proof.Machine.execClmRenorm via s
  | .clmForceActive via => Sys2Proof.Machine.execClmForceActive via s
  | .clmYield via => Sys2Proof.Machine.execClmYield via s
  | .flkResync via => Sys2Proof.Machine.execFlkResync via s
  | .claimFrameStart => Sys2Proof.Machine.execClaimFrameStart s
  | .claimDecisionPoint a b => Sys2Proof.Machine.execClaimDecisionPoint a b s
  | .listenEnd => Sys2Proof.Machine.execListenEnd s
  | .drillExecute => Sys2Proof.Machine.execDrillExecute s
  | .autoDrill => Sys2Proof.Machine.execAutoDrill s
  | .renormApply => Sys2Proof.Machine.execRenormApply s
  | .flaskFrameRx f => Sys2Proof.Machine.execFlaskFrameRx f s
  | .helloRx => Sys2Proof.Machine.execHelloRx s
  | .heartbeatRx => Sys2Proof.Machine.execHeartbeatRx s
  | .silenceRx => Sys2Proof.Machine.execSilenceRx s
  | .mirrorRx => Sys2Proof.Machine.execMirrorRx s
  | .commitRx => Sys2Proof.Machine.execCommitRx s
  | .confirmRx => Sys2Proof.Machine.execConfirmRx s
  | .discardRx => Sys2Proof.Machine.execDiscardRx s
  | .mirrorDeadline => Sys2Proof.Machine.execMirrorDeadline s
  | .snapReqRx => Sys2Proof.Machine.execSnapReqRx s
  | .snapDataRx => Sys2Proof.Machine.execSnapDataRx s
  | .snapEndRx => Sys2Proof.Machine.execSnapEndRx s
  | .snapAbortRx => Sys2Proof.Machine.execSnapAbortRx s
  | .joinPour => Sys2Proof.Machine.execJoinPour s
  | .shadowEnd => Sys2Proof.Machine.execShadowEnd s
  | .convTimeout => Sys2Proof.Machine.execConvTimeout s
  | .resyncRetry => Sys2Proof.Machine.execResyncRetry s
  | .flaskLinkStale => Sys2Proof.Machine.execFlaskLinkStale s
  | .flaskLaneDown lane => Sys2Proof.Machine.execFlaskLaneDown lane s
  | .flaskLaneUp lane => Sys2Proof.Machine.execFlaskLaneUp lane s
  | .ladleRecRx => Sys2Proof.Machine.execLadleRecRx s
  | .ladleAckRx => Sys2Proof.Machine.execLadleAckRx s
  | .ladleDecideRx => Sys2Proof.Machine.execLadleDecideRx s
  | .ladleUndecided => Sys2Proof.Machine.execLadleUndecided s
  | .ladleHbRx => Sys2Proof.Machine.execLadleHbRx s
  | .workerHbTimeout w => Sys2Proof.Machine.execWorkerHbTimeout w s
  | .managerHbTimeout => Sys2Proof.Machine.execManagerHbTimeout s
  | .joinReqSend => Sys2Proof.Machine.execJoinReqSend s
  | .joinReqRx => Sys2Proof.Machine.execJoinReqRx s
  | .joinDataRx => Sys2Proof.Machine.execJoinDataRx s
  | .joinEndRx => Sys2Proof.Machine.execJoinEndRx s
  | .joinTimeout => Sys2Proof.Machine.execJoinTimeout s
  | .syncInEdge stamp => Sys2Proof.Machine.execSyncInEdge stamp s
  | .errAckWrite code => Sys2Proof.Machine.execErrAckWrite code s
  | .jnlFreeze via => Sys2Proof.Machine.execJnlFreeze via s
  | .jnlResume via => Sys2Proof.Machine.execJnlResume via s
  | .jnlSelWrite via serial => Sys2Proof.Machine.execJnlSelWrite via serial s
  | .jnlFreezeTimeout => Sys2Proof.Machine.execJnlFreezeTimeout s
  | .startupSelfTest => Sys2Proof.Machine.execStartupSelfTest s
  | .startupSelfTestDone runs => Sys2Proof.Machine.execStartupSelfTestDone runs s
  | .quenchSliceStart busy => Sys2Proof.Machine.execQuenchSliceStart busy s
  | .sliceTestRunEnd misr => Sys2Proof.Machine.execSliceTestRunEnd misr s
  | .srSliceEnd bad => Sys2Proof.Machine.execSrSliceEnd bad s
  | .bstClearMap via => Sys2Proof.Machine.execBstClearMap via s
  | .bstMark via r => Sys2Proof.Machine.execBstMark via r s
  | .faultMapWriteDone => Sys2Proof.Machine.execFaultMapWriteDone s
  | .mtxCmdReset via m => Sys2Proof.Machine.execMtxCmdReset via m s
  | .ccRunWrite via run => Sys2Proof.Machine.execCcRunWrite via run s
  | .ccKick via n v => Sys2Proof.Machine.execCcKick via n v s
  | .watchdogExpiry n => Sys2Proof.Machine.execWatchdogExpiry n s
  | .coreException n => Sys2Proof.Machine.execCoreException n s
  | .mailboxDoorbell via n seq => Sys2Proof.Machine.execMailboxDoorbell via n seq s
  | .mailboxDone n seq => Sys2Proof.Machine.execMailboxDone n seq s
  | .dmaTailWrite via v => Sys2Proof.Machine.execDmaTailWrite via v s
  | .dmaDescriptorDone d host unc => Sys2Proof.Machine.execDmaDescriptorDone d host unc s
  | .spiWrite addr data => Sys2Proof.Machine.execSpiWrite addr data s
  | .spiRead addr words wait => Sys2Proof.Machine.execSpiRead addr words wait s
  | .mgmtFrameRx frame => Sys2Proof.Machine.execMgmtFrameRx frame s
  | .mgmtRead32 addr => Sys2Proof.Machine.execMgmtRead32 addr s
  | .mgmtWrite32 addr v => Sys2Proof.Machine.execMgmtWrite32 addr v s
  | .bootLoad => Sys2Proof.Machine.execBootLoad s
  | .bootLoadDone bad => Sys2Proof.Machine.execBootLoadDone bad s
  | .nvmProgram via area => Sys2Proof.Machine.execNvmProgram via area s
  | .nvmProgramDone bad => Sys2Proof.Machine.execNvmProgramDone bad s
  | .powerOn => Sys2Proof.Machine.execPowerOn s
  | .powerDown => Sys2Proof.Machine.execPowerDown s
  | .resetPin => Sys2Proof.Machine.execResetPin s
  | .sysRstCore => Sys2Proof.Machine.execSysRstCore s
  | .sysRstFull => Sys2Proof.Machine.execSysRstFull s
  | .perst => Sys2Proof.Machine.execPerst s
  | .pcieLinkReset => Sys2Proof.Machine.execPcieLinkReset s
  | .corePllLock pcieRef => Sys2Proof.Machine.execCorePllLock pcieRef s
  | .dramReady => Sys2Proof.Machine.execDramReady s
  | .supplyDip => Sys2Proof.Machine.execSupplyDip s
  | .refclkFail unlock => Sys2Proof.Machine.execRefclkFail unlock s
  | .thermalSample core conv => Sys2Proof.Machine.execThermalSample core conv s
  | .thermalShutdown => Sys2Proof.Machine.execThermalShutdown s
  | .thermalRelease => Sys2Proof.Machine.execThermalRelease s
  | .testEnAssert => Sys2Proof.Machine.execTestEnAssert s
  | .testEnRelease => Sys2Proof.Machine.execTestEnRelease s

end Sys2Proof.Machine
end

