-- ==== Sys2Proof/Safety.lean ====
section
/-! DEFINITION. What counts as a safe run of the block, in the terms the claims use. -/

namespace Sys2Proof.Machine

/-- Registers, their live copies and memory hold their canonical form, so that equal contents are equal data. -/
def State.canonical (s : State) : Bool := aWf regReset s.regs && aWf regReset s.live && Memory.wf s.mem

/-- A step goes on to a next state. -/
def Progresses (s : State) : Prop := ∃ t, step s = .next t

/-- n steps go on, from state to state. -/
def Runs : Nat → State → State → Prop
  | 0, s, t => s = t
  | n + 1, s, t => ∃ u, step s = .next u ∧ Runs n u t

/-- The state with a command put at the front of its queue. -/
def State.push (s : State) (c : Instr) : State := { s with pending := c :: s.pending }

/-- Of the registers, only those listed may read differently. -/
def KeptBut (offs : List Nat) (s t : State) : Prop := ∀ o, o ∉ offs → rd t o = rd s o

/-- Every byte of memory reads as before. -/
def SameMem (s t : State) : Prop := ∀ a, rdByte t a = rdByte s a

/-- t is u, where u names the parts of s that may differ; every register but those listed reads as in s, and so does every
byte of memory. -/
def Frame (offs : List Nat) (s t u : State) : Prop := t = u ∧ KeptBut offs s t ∧ SameMem s t

/-- One bit of a status field: the field's lowest bit plus an index. -/
def stBit (s : State) (f : Fld) (i : Nat := 0) : Nat := getF s ⟨f.off, f.lo + i, f.lo + i⟩

/-- The registers that a journal entry may change beside the journal. -/
def jnlRegs : List Nat := [R.JNL_WRAP_CNT, R.JNL_MISSED]

/-- The registers that an error below FATAL may change beside the status register it is tied to. -/
def errRegs : List Nat := [R.ERR_STAT, R.ERR_LOST]

/-- The registers that an error, or a recorded write and an error, may change beside the status register tied to it. -/
def logRegs : List Nat := jnlRegs ++ errRegs

/-- The engine has no FATAL entry current. -/
def noFatal (s : State) : Bool :=
  match s.err.current with
  | none => true
  | some c => errSev c.err != .fatal

/-- A change that the journal records while it is not frozen: the newest entry. -/
def Recorded (via : Src) (kind addr value : Nat) (s t : State) : Prop :=
  t.jnl.entries.head? = some { serial := s.jnl.next, msi := s.msi, src := srcCode via, kind := kind, addr := addr,
                               value := value }

/-- The registers that a full reset does not take to their reset values: the temperatures, the cause, the fault map, the slots. -/
def dieKeeps : List Nat :=
  [R.SYS_TEMP, R.SYS_TEMP_MAX, R.SYS_RST_CAUSE, R.BST_MAP, R.BST_NVMAP] ++ (List.range 4).map R.PAT_SLOT

/-- Those that a reset which keeps the converter die leaves so. -/
def coreKeeps : List Nat :=
  dieKeeps ++ [R.TSU_ML_FREQ] ++ (List.range 32).flatMap (fun n =>
    [R.DAC_CFG n, R.DAC_SAFE_01 n, R.DAC_SAFE_23 n, R.DAC_FAULT n, R.DAC_CSTATE n])

/-- t is s after a reset: no Pattern, an empty journal, the counted MSI 0, every register but those listed at its reset value,
and of memory the NVM alone. -/
def ResetKeeps (offs : List Nat) (s t : State) : Prop :=
  t.pat = PatState.reset ∧ t.jnl = Journal.reset ∧ t.msi = 0 ∧ KeptBut offs State.reset t ∧
  ∀ a, rdByte t a = if nvmBase ≤ a ∧ a < nvmBase + 0x4000000 then rdByte s a else memDefault a

/-- A reset has left the converter die: an OFF channel stays OFF, every other is in SAFE, and span, mode, safe and fault codes
stay in force. -/
def ConverterKept (s t : State) : Prop :=
  ∀ n : Fin 32, dacSt t n.val = (if dacSt s n.val = 0 then 0 else 1) ∧ (dacOf t n.val).spanNow = (dacOf s n.val).spanNow ∧
    (dacOf t n.val).modeNow = (dacOf s n.val).modeNow ∧ rdLive t (R.DAC_SAFE_01 n.val) = rdLive s (R.DAC_SAFE_01 n.val) ∧
    rdLive t (R.DAC_SAFE_23 n.val) = rdLive s (R.DAC_SAFE_23 n.val) ∧ rdLive t (R.DAC_FAULT n.val) = rdLive s (R.DAC_FAULT n.val)

/-- The safe state of a FATAL that has come to s (R411). -/
def SafeState (e : Err) (s t : State) : Prop :=
  t.err.current.map (fun x => x.err) = some e ∧ t.err.fatal = true ∧ faultNLow t = true ∧ getF t F.ERR_FATAL_CODE = errCode e ∧
  stBit t F.ERR_STAT_FATAL = 1 ∧ t.jnl.frozen = some .byFatal ∧
  (∀ n : Fin 32, dacSt t n.val = if dacSt s n.val = 0 then 0 else 6) ∧ isActive t = false ∧
  (getF s F.CLM_STATE_ROLE ≠ 0 → getF t F.CLM_STATE_ROLE = 4) ∧ SameMem s t

end Sys2Proof.Machine
end

