-- ==== Sys2Proof/Certificates/Slice0/Obligations.lean ====
section
/-! DEFINITION. The statements for the provers: what the commands of the block do, and what every step keeps. -/

open Sys2Proof Sys2Proof.Machine

/-- For every command c and state s, a step of s with c put at the front of its queue is exec of c on s, whose queue is
the rest. -/
def Obligations.StepRunsFrontCommand : Prop :=
  ∀ (c : Instr) (s : State),
      step (s.push c) = exec c s

/-- The model's choice (assumption 1): with an empty queue and the clocks running, a step is one media frame inside the
block, the counted MSI rises by one, and the queue stays empty; at the last frame of a block, or without clocks,
nothing changes until BLOCK_STROBE comes. -/
def Obligations.EmptyQueueRunsOneFrame : Prop :=
  (∀ (s : State),
      s.pending = [] →
      clocked s = true →
      s.msi % 16 ≠ 15 →
      ∃ t, step s = .next t ∧ t.msi = s.msi + 1 ∧ blk t = blk s ∧ t.pending = [] ∧ t.time.frames = s.time.frames + 1) ∧
  (∀ (s : State),
      s.pending = [] →
      (clocked s = false ∨ s.msi % 16 = 15) →
      step s = .next s)

/-- State.reset satisfies the invariant of StepKeepsCanonicalForm: the tables of registers, of live registers and of
memory bytes rise strictly by key and hold no entry equal to what an unlisted key reads as. -/
def Obligations.ResetHoldsCanonicalForm : Prop :=
        State.reset.canonical = true

/-- For every state s, reachable or not, whose registers, live register copies and memory are in canonical form (keys
strictly rising, no entry equal to what an unlisted key reads as), and every next state t that a step of s answers,
t is in that form too: so equal register files and equal memories are equal data after any command. -/
def Obligations.StepKeepsCanonicalForm : Prop :=
  ∀ (s t : State),
      s.canonical = true →
      step s = .next t →
      t.canonical = true

/-- For every command c and state s, exec answers a next state whose queue of waiting commands is that of s: a command's
effect is on everything but the queue, resets among them. -/
def Obligations.CommandsLeaveQueue : Prop :=
  ∀ (c : Instr) (s : State),
      ∃ t, exec c s = .next t ∧ t.pending = s.pending

/-- In State.reset a register reads as its table's reset value (a sample over the blocks: ERR_CFG 0x0064_0025, JNL_CFG
0x03C3_0000, BST, TSU, DAC and SPK registers), no Pattern is staged or live, the error engine is empty with FAULT_N
held low until the start-up test ends, the journal is empty with serial number 0, no command waits, and the unit is
a lone unit. -/
def Obligations.ResetValuesOfSpec : Prop :=
        rd State.reset R.ERR_CFG = 0x00640025#32 ∧ rd State.reset R.JNL_CFG = 0x03C30000#32 ∧
      (∀ off, rd State.reset off = regReset off) ∧ (∀ a, rdByte State.reset a = memDefault a) ∧
      State.reset.pat.live = none ∧ State.reset.pat.staged = none ∧ running State.reset = false ∧
      State.reset.err.current = none ∧ faultNLow State.reset = true ∧ State.reset.jnl.entries = [] ∧
      State.reset.jnl.next = 0 ∧ isPair State.reset = false ∧ State.reset.pending = []

/-- Writing register a makes it read as the value written and leaves every other register, every byte of memory and the
canonical form alone; setting a field makes the field read as the value's low bits; counting n events makes the
counter read the old count plus n, at most 0xFFFF_FFFF. -/
def Obligations.RegisterWriteReadBack : Prop :=
  (∀ (s : State) (a b : Nat) (v : Word),
      rd (wr s a v) b = (if b = a then v else rd s b) ∧ SameMem s (wr s a v)) ∧
  (∀ (s : State) (a : Nat) (v : Word),
      s.canonical = true →
      (wr s a v).canonical = true) ∧
  (∀ (s : State) (f : Fld) (v : Nat),
      f.lo ≤ f.hi ∧ f.hi < 32 →
      getF (setF s f v) f = v % 2 ^ (f.hi + 1 - f.lo) ∧ KeptBut [f.off] s (setF s f v)) ∧
  (∀ (s : State) (off n : Nat),
      rdN (cntAdd s off n) off = min (rdN s off + n) 0xFFFFFFFF ∧ KeptBut [off] s (cntAdd s off n))

/-- Writing a byte of memory makes that address read as the byte and leaves every other address, every register and the
canonical form of memory alone; writing a string writes the addresses from the first on and no other. -/
def Obligations.ByteWriteReadBack : Prop :=
  (∀ (s : State) (a b : Nat) (v : Byte),
      rdByte (wrByte s a v) b = (if b = a then v else rdByte s b) ∧ KeptBut [] s (wrByte s a v)) ∧
  (∀ (s : State) (a : Nat) (v : Byte),
      s.canonical = true →
      (wrByte s a v).canonical = true) ∧
  (∀ (s : State) (a b : Nat) (bs : List Byte),
      rdByte (wrBytes s a bs) b = (if a ≤ b ∧ b < a + bs.length then (bs[b - a]?).getD 0 else rdByte s b) ∧
      KeptBut [] s (wrBytes s a bs))

/-- STAT_W1C_WRITE at a status register with W1C bits m clears exactly the bits of m that are written as one (never
ERR_STAT.FATAL), changes no other register and no memory, and marks superseded the stacked error entries that report
a cleared bit.  RCL_READ of a register with read-to-clear bits answers what it reads and takes those bits to their
reset value, unless it is a counter and SYS_CTL.CNT_HOLD is set (the counters of the MTX, BST, JNL and ERR blocks
read as their count and go to 0; the peak temperatures take the present ones), and changes no other register and no
memory. -/
def Obligations.StatusBitsClearByOnes : Prop :=
  (∀ (off : BitVec 24) (v : Word) (s : State) (r : RegRow),
      regRow off.toNat = some r →
      off.toNat ≠ R.ERR_STAT →
      ∃ t, exec (.statW1cWrite off v) s = .next t ∧
      rd t off.toNat = rd s off.toNat &&& ~~~ (v &&& BitVec.ofNat 32 r.w1c) ∧
      (∀ e ∈ t.err.stack, tiedTo off.toNat (v &&& BitVec.ofNat 32 r.w1c) e = true → e.superseded = true) ∧
      Frame [off.toNat] s t { s with regs := t.regs, err := { s.err with stack := t.err.stack } }) ∧
  (∀ (v : Word) (s : State),
      ∃ t, exec (.statW1cWrite (BitVec.ofNat 24 R.ERR_STAT) v) s = .next t ∧
      getF t F.ERR_STAT_FATAL = getF s F.ERR_STAT_FATAL ∧
      (bit v.toNat 0 = true → getF t F.ERR_STAT_OVF = 0) ∧
      (bit v.toNat 0 = false → getF t F.ERR_STAT_OVF = getF s F.ERR_STAT_OVF) ∧
      (∀ e ∈ t.err.stack, tiedTo R.ERR_STAT (rd s R.ERR_STAT &&& ~~~ rd t R.ERR_STAT) e = true → e.superseded = true) ∧
      Frame [R.ERR_STAT] s t { s with regs := t.regs, err := { s.err with stack := t.err.stack } }) ∧
  (∀ (off : BitVec 24) (s : State),
      off.toNat ∈ [R.MTX_ERR_CNT, R.MTX_ABORT_CNT, R.BST_FAIL_CNT, R.BST_SLICE_CNT, R.BST_TRANS_CNT, R.BST_ABORT_CNT, R.BST_HOT_CNT, R.JNL_MISSED, R.JNL_WRAP_CNT, R.ERR_LOST, R.ERR_ECC_UNC_CNT] →
      ∃ t, exec (.rclRead off) s = .next t ∧ t.rdata = rd s off.toNat ∧
      rd t off.toNat = (if getF s F.SYS_CTL_CNT_HOLD = 1 then rd s off.toNat else 0) ∧
      Frame [off.toNat] s t { s with regs := t.regs, rdata := t.rdata }) ∧
  (∀ (off : BitVec 24) (s : State) (r : RegRow),
      regRow off.toNat = some r ∧ r.rcl ≠ 0 ∧ realOff s off.toNat = off.toNat →
      off.toNat ≠ R.SYS_TEMP_MAX →
      ∃ t, exec (.rclRead off) s = .next t ∧ t.rdata = BitVec.ofNat 32 (readReg s off.toNat) ∧
      rd t off.toNat = (if getF s F.SYS_CTL_CNT_HOLD = 1 ∧ peakReg off.toNat = false then rd s off.toNat
        else (rd s off.toNat &&& ~~~ BitVec.ofNat 32 r.rcl) ||| (regReset off.toNat &&& BitVec.ofNat 32 r.rcl)) ∧
      Frame [off.toNat] s t { s with regs := t.regs, rdata := t.rdata }) ∧
  (∀ (s : State),
      realOff s R.SYS_TEMP_MAX = R.SYS_TEMP_MAX →
      ∃ t, exec (.rclRead (BitVec.ofNat 24 R.SYS_TEMP_MAX)) s = .next t ∧
      rd t R.SYS_TEMP_MAX = rd s R.SYS_TEMP ∧
      Frame [R.SYS_TEMP_MAX] s t { s with regs := t.regs, rdata := t.rdata })

/-- MSI_LO_READ answers the low word of the counted MSI and latches the high word; ERR_MSI_LO_READ does so for the MSI
of the current error entry (0 with none); TB_NS_READ in the seconds view answers the nanoseconds within the second
and latches the fraction and the seconds of the time base.  Nothing else changes. -/
def Obligations.LowWordReadsLatchHighWord : Prop :=
  (∀ (s : State),
      ∃ t, exec .msiLoRead s = .next t ∧ t.rdata.toNat = s.msi % 2 ^ 32 ∧ rdN t R.TSU_MSI_HI = s.msi / 2 ^ 32 % 2 ^ 32 ∧
      Frame [R.TSU_MSI_HI] s t { s with regs := t.regs, rdata := t.rdata }) ∧
  (∀ (s : State),
      ∃ t, exec .errMsiLoRead s = .next t ∧ t.rdata.toNat = errCurMsi s % 2 ^ 32 ∧
      rdN t R.ERR_CUR_MSI_HI = errCurMsi s / 2 ^ 32 % 2 ^ 32 ∧
      Frame [R.ERR_CUR_MSI_HI] s t { s with regs := t.regs, rdata := t.rdata }) ∧
  (∀ (n : Fin 4) (s : State) (sec ns fr : Nat),
      getF s (F.TSU_TB_CFG_FMT n.val) = 0 →
      ns < 1000000000 ∧ fr < 2 ^ 16 ∧ sec < 2 ^ 48 →
      tbNow s n.val = ((sec : Int) * 1000000000 + ns) * nsUnit + (fr : Int) * 2 ^ 32 →
      ∃ t, exec (.tbNsRead n) s = .next t ∧ t.rdata.toNat = ns ∧ rdN t (R.TSU_TB_FRAC n.val) = fr ∧
      rdN t (R.TSU_TB_SLO n.val) = sec % 2 ^ 32 ∧ rdN t (R.TSU_TB_SHI n.val) = sec / 2 ^ 32 ∧
      Frame [R.TSU_TB_FRAC n.val, R.TSU_TB_SLO n.val, R.TSU_TB_SHI n.val] s t { s with regs := t.regs, rdata := t.rdata })

/-- An arriving entry e with the engine empty is presented; with the same code current only the current entry's count
rises, saturating at 65,535; a FATAL while a FATAL is current goes to ERR_FATAL2 if that register is empty and is
not queued; a higher severity pre-empts, the current entry going on top of the stack; a FATAL that pre-empts leaves
every stacked entry superseded; an equal or lower severity is appended to the FIFO, which takes it while fewer than
32 are queued and else drops it, setting ERR_STAT.OVF and counting it in ERR_LOST. -/
def Obligations.ErrorArrivalTable : Prop :=
  (∀ (e : ErrEntry) (s : State),
      s.err.current = none →
      (arrive e s).1.err.current = some e ∧ (arrive e s).1.err.fifo = s.err.fifo) ∧
  (∀ (e c : ErrEntry) (s : State),
      s.err.current = some c →
      errCode c.err = errCode e.err →
      (arrive e s).1 = { s with err := { s.err with current := some { c with count := min (c.count + 1) 65535 } } }) ∧
  (∀ (e c : ErrEntry) (s : State),
      s.err.current = some c →
      errCode c.err ≠ errCode e.err →
      errSev e.err = .fatal ∧ errSev c.err = .fatal →
      (arrive e s).1.err = s.err ∧
      getF (arrive e s).1 F.ERR_FATAL2_CODE = (if getF s F.ERR_FATAL2_CODE = 0 then errCode e.err else getF s F.ERR_FATAL2_CODE)) ∧
  (∀ (e c : ErrEntry) (s : State),
      s.err.current = some c →
      errCode c.err ≠ errCode e.err →
      entSev c < entSev e →
      errSev e.err ≠ .fatal →
      (arrive e s).1.err.current = some e ∧ (arrive e s).1.err.stack = c :: s.err.stack ∧
      (arrive e s).1.err.fifo = s.err.fifo) ∧
  (∀ (e c : ErrEntry) (s : State),
      s.err.current = some c →
      errSev e.err = .fatal ∧ errSev c.err ≠ .fatal →
      (arrive e s).1.err.current = some e ∧ (arrive e s).1.err.fifo = s.err.fifo ∧
      (arrive e s).1.err.stack = (c :: s.err.stack).map (fun x => { x with superseded := true }) ∧
      (arrive e s).1.err.fatal = true ∧ getF (arrive e s).1 F.ERR_STAT_FATAL = 1) ∧
  (∀ (e c : ErrEntry) (s : State),
      s.err.current = some c →
      errCode c.err ≠ errCode e.err →
      entSev e ≤ entSev c →
      errSev e.err ≠ .fatal →
      32 ≤ s.err.fifo.length →
      (arrive e s).1.err = s.err ∧ getF (arrive e s).1 F.ERR_STAT_OVF = 1 ∧
      rdN (arrive e s).1 R.ERR_LOST = min (rdN s R.ERR_LOST + 1) 0xFFFFFFFF ∧ KeptBut errRegs s (arrive e s).1) ∧
  (∀ (e c : ErrEntry) (s : State),
      s.err.current = some c →
      errCode c.err ≠ errCode e.err →
      entSev e ≤ entSev c →
      errSev e.err ≠ .fatal →
      s.err.fifo.length < 32 →
      (arrive e s).1 = { s with err := { s.err with fifo := s.err.fifo ++ [e] } })

/-- ERR_ACK_WRITE with the code of a current entry below FATAL ends it.  With stack and FIFO empty the engine is empty;
with an empty stack the FIFO's oldest entry of the highest severity is presented and leaves the FIFO; with a stack
whose top that entry exceeds in severity it is presented (that of an entry below FATAL) and the stack is kept; else
a stack top that is not superseded resumes and leaves the stack, and a superseded one that is alone with an empty
FIFO is removed and counted in ERR_SUPER_CNT.  A FATAL entry is never acknowledged. -/
def Obligations.ErrorAcknowledgement : Prop :=
  (∀ (code : BitVec 32) (s : State) (c : ErrEntry),
      s.err.current = some c →
      errCode c.err = code.toNat % 2 ^ 16 ∧ errSev c.err ≠ .fatal →
      s.err.stack = [] ∧ s.err.fifo = [] →
      ∃ t, exec (.errAckWrite code) s = .next t ∧ t.err.current = none ∧
      Frame [] s t { s with err := t.err }) ∧
  (∀ (code : BitVec 32) (s : State) (c b : ErrEntry) (l : List ErrEntry),
      s.err.current = some c →
      errCode c.err = code.toNat % 2 ^ 16 ∧ errSev c.err ≠ .fatal →
      s.err.stack = [] ∧ bestOf s.err.fifo = some (b, l) →
      ∃ t, exec (.errAckWrite code) s = .next t ∧ t.err.current = some b ∧ t.err.resumed = false ∧ t.err.fifo = l ∧ t.err.stack = []) ∧
  (∀ (code : BitVec 32) (s : State) (c top b : ErrEntry) (rest l : List ErrEntry),
      s.err.current = some c →
      errCode c.err = code.toNat % 2 ^ 16 ∧ errSev c.err ≠ .fatal →
      s.err.stack = top :: rest ∧ bestOf s.err.fifo = some (b, l) →
      entSev top < entSev b ∧ errSev b.err ≠ .fatal →
      ∃ t, exec (.errAckWrite code) s = .next t ∧ t.err.current = some b ∧ t.err.resumed = false ∧ t.err.fifo = l ∧
      t.err.stack = s.err.stack) ∧
  (∀ (code : BitVec 32) (s : State) (c top : ErrEntry) (rest : List ErrEntry),
      s.err.current = some c →
      errCode c.err = code.toNat % 2 ^ 16 ∧ errSev c.err ≠ .fatal →
      s.err.stack = top :: rest ∧ top.superseded = false →
      s.err.fifo.all (fun e => decide (entSev e ≤ entSev top)) = true →
      ∃ t, exec (.errAckWrite code) s = .next t ∧ t.err.current = some top ∧ t.err.resumed = true ∧ t.err.stack = rest ∧
      t.err.fifo = s.err.fifo ∧ Frame [] s t { s with err := t.err }) ∧
  (∀ (code : BitVec 32) (s : State) (c top : ErrEntry),
      s.err.current = some c →
      errCode c.err = code.toNat % 2 ^ 16 ∧ errSev c.err ≠ .fatal →
      s.err.stack = [top] ∧ top.superseded = true ∧ s.err.fifo = [] →
      ∃ t, exec (.errAckWrite code) s = .next t ∧ t.err.current = none ∧ t.err.stack = [] ∧
      rdN t R.ERR_SUPER_CNT = min (rdN s R.ERR_SUPER_CNT + 1) 0xFFFFFFFF ∧
      Frame [R.ERR_SUPER_CNT] s t { s with err := t.err, regs := t.regs }) ∧
  (∀ (code : BitVec 32) (s : State) (c : ErrEntry),
      s.err.current = some c →
      errSev c.err = .fatal →
      ∃ t, exec (.errAckWrite code) s = .next t ∧ t.err.current.map (fun e => e.err) = some c.err ∧ t.err.fatal = s.err.fatal)

/-- JNL_FREEZE on a running journal records the write as its last entry and freezes it; JNL_RESUME ends a freeze that is
not a FATAL one and is the first entry after it; during a FATAL freeze both change nothing but JNL_MISSED.
JNL_SEL_WRITE of a serial number held latches that entry into JNL_E0 to JNL_E3, of one not held shows source 15.
JNL_FREEZE_TIMEOUT ends a freeze, not a FATAL one, that has lasted FRZ_MAX seconds. While frozen a change only
counts in JNL_MISSED. -/
def Obligations.JournalFreezesAndResumes : Prop :=
  (∀ (via : Src) (s : State),
      s.jnl.frozen = none →
      ∃ t, exec (.jnlFreeze via) s = .next t ∧ t.jnl.frozen = some .byWrite ∧ Recorded via 0 R.JNL_CTL 1 s t ∧
      t.jnl.next = (s.jnl.next + 1) % 2 ^ 32 ∧ Frame jnlRegs s t { s with regs := t.regs, jnl := t.jnl }) ∧
  (∀ (via : Src) (s : State) (f : Freeze),
      s.jnl.frozen = some f ∧ f ≠ .byFatal →
      ∃ t, exec (.jnlResume via) s = .next t ∧ t.jnl.frozen = none ∧ Recorded via 0 R.JNL_CTL 0 s t ∧
      Frame jnlRegs s t { s with regs := t.regs, jnl := t.jnl }) ∧
  (∀ (via : Src) (s : State) (c : Instr),
      (s.jnl.frozen = some .byFatal ∧ (c = .jnlFreeze via ∨ c = .jnlResume via)) →
      ∃ t, exec c s = .next t ∧ rdN t R.JNL_MISSED = min (rdN s R.JNL_MISSED + 1) 0xFFFFFFFF ∧
      Frame [R.JNL_MISSED] s t { s with regs := t.regs }) ∧
  (∀ (via : Src) (serial : BitVec 32) (s : State) (e : JEntry),
      (journalReg via R.JNL_SEL serial s).jnl.entries.find? (fun x => x.serial == serial.toNat) = some e →
      e.msi < 2 ^ 64 ∧ e.src < 16 ∧ e.kind < 16 ∧ e.addr < 2 ^ 24 ∧ e.value < 2 ^ 32 →
      ∃ t, exec (.jnlSelWrite via serial) s = .next t ∧ rd64 t R.JNL_E0 R.JNL_E1 = e.msi ∧
      rdN t R.JNL_E2 = e.src * 2 ^ 28 + e.kind * 2 ^ 24 + e.addr ∧ rdN t R.JNL_E3 = e.value ∧ rd t R.JNL_SEL = serial ∧
      Frame ([R.JNL_E0, R.JNL_E1, R.JNL_E2, R.JNL_E3, R.JNL_SEL] ++ jnlRegs) s t
        { s with regs := t.regs, jnl := (journalReg via R.JNL_SEL serial s).jnl }) ∧
  (∀ (via : Src) (serial : BitVec 32) (s : State),
      (journalReg via R.JNL_SEL serial s).jnl.entries.find? (fun x => x.serial == serial.toNat) = none →
      ∃ t, exec (.jnlSelWrite via serial) s = .next t ∧ rdN t R.JNL_E2 = 0xF0000000 ∧ rdN t R.JNL_E3 = 0 ∧ rd t R.JNL_SEL = serial ∧
      Frame ([R.JNL_E0, R.JNL_E1, R.JNL_E2, R.JNL_E3, R.JNL_SEL] ++ jnlRegs) s t
        { s with regs := t.regs, jnl := (journalReg via R.JNL_SEL serial s).jnl }) ∧
  (∀ (s : State) (f : Freeze),
      s.jnl.frozen = some f ∧ f ≠ .byFatal →
      s.jnl.since + getF s F.JNL_CFG_FRZ_MAX * fsInt s ≤ s.msi →
      ∃ t, exec .jnlFreezeTimeout s = .next t ∧ t.jnl.frozen = none ∧ t.jnl.entries = s.jnl.entries ∧
      Frame [] s t { s with jnl := t.jnl }) ∧
  (∀ (via : Src) (off : Nat) (v : Word) (s : State) (f : Freeze),
      s.jnl.frozen = some f →
      (journalReg via off v s).jnl = s.jnl ∧
      rdN (journalReg via off v s) R.JNL_MISSED = min (rdN s R.JNL_MISSED + 1) 0xFFFFFFFF)

/-- REGISTER_WRITE of a plain RW register (ERR_CFG, JNL_CFG, SYS_THERM_CFG, BST_CFG, TSU_CFG, TSU_ML_CFG) in range
stores its writable bits and records the write; out of range the register stays and WRITE_IGNORED is raised
(presented where no error is current). An RWL register (TSU_TB0_CFG, TSU_TB3_CFG, TSU_MEPOCH_LO and HI, HIER_LADDR,
OBJ_HQ_BASE) keeps its value while a Pattern runs and RWL_WRITE is raised. A render-state register (GEO_GUARD,
SPK_CFG, RND_CFG) of a lone unit takes the write in range at once while the live copy that the block-timed work
reads stays until a strobe; in a LISTEN or STANDBY unit a write that would change it is ignored. None of them
changes another register but those of the journal and the error engine, or a byte of memory. A write at an offset
that no register has does nothing. -/
def Obligations.RegisterWriteByAccessType : Prop :=
  (∀ (via : Src) (off : BitVec 24) (v : Word) (s : State),
      off.toNat ∈ [R.ERR_CFG, R.JNL_CFG, R.SYS_THERM_CFG, R.BST_CFG, R.TSU_CFG, R.TSU_ML_CFG] →
      rangeOk off.toNat v = true →
      ∃ t m, exec (.registerWrite via off v) s = .next t ∧ (regRow off.toNat).map (fun r => r.rw ||| r.rwl) = some m ∧
      rd t off.toNat = (rd s off.toNat &&& ~~~ BitVec.ofNat 32 m) ||| (v &&& BitVec.ofNat 32 m) ∧
      Frame (off.toNat :: jnlRegs) s t { s with regs := t.regs, jnl := t.jnl }) ∧
  (∀ (via : Src) (off : BitVec 24) (v : Word) (s : State),
      off.toNat ∈ [R.ERR_CFG, R.JNL_CFG, R.SYS_THERM_CFG, R.BST_CFG, R.TSU_CFG, R.TSU_ML_CFG] →
      rangeOk off.toNat v = false →
      ∃ t, exec (.registerWrite via off v) s = .next t ∧ rd t off.toNat = rd s off.toNat ∧
      (s.err.current = none → t.err.current.map (fun e => e.err) = some .errWriteIgnored) ∧
      Frame logRegs s t { s with regs := t.regs, jnl := t.jnl, err := t.err }) ∧
  (∀ (via : Src) (off : BitVec 24) (v : Word) (s : State),
      off.toNat ∈ [R.TSU_TB_CFG 0, R.TSU_TB_CFG 3, R.TSU_MEPOCH_LO, R.TSU_MEPOCH_HI, R.HIER_LADDR, R.OBJ_HQ_BASE] →
      running s = true →
      ∃ t, exec (.registerWrite via off v) s = .next t ∧ rd t off.toNat = rd s off.toNat ∧
      (s.err.current = none → t.err.current.map (fun e => e.err) = some .errRwlWrite) ∧
      Frame logRegs s t { s with regs := t.regs, jnl := t.jnl, err := t.err }) ∧
  (∀ (via : Src) (off : BitVec 24) (v : Word) (s : State),
      off.toNat ∈ [R.GEO_GUARD, R.SPK_CFG, R.RND_CFG] →
      rangeOk off.toNat v = true →
      isPair s = false →
      ∃ t m, exec (.registerWrite via off v) s = .next t ∧ (regRow off.toNat).map (fun r => r.rw) = some m ∧
      rd t off.toNat = (rd s off.toNat &&& ~~~ BitVec.ofNat 32 m) ||| (v &&& BitVec.ofNat 32 m) ∧
      rdLive t off.toNat = rdLive s off.toNat ∧
      Frame (off.toNat :: jnlRegs) s t { s with regs := t.regs, jnl := t.jnl }) ∧
  (∀ (via : Src) (off : BitVec 24) (v : Word) (s : State),
      off.toNat ∈ [R.GEO_GUARD, R.SPK_CFG, R.RND_CFG] →
      isPassive s = true ∧ writeChanges off.toNat v s = true →
      ∃ t, exec (.registerWrite via off v) s = .next t ∧ rd t off.toNat = rd s off.toNat ∧
      (s.err.current = none → t.err.current.map (fun e => e.err) = some .errWriteIgnored) ∧
      Frame logRegs s t { s with regs := t.regs, jnl := t.jnl, err := t.err }) ∧
  (∀ (via : Src) (off : BitVec 24) (v : Word) (s : State),
      regRow off.toNat = none →
      exec (.registerWrite via off v) s = .next s)

/-- In working SRAM a bus write by a master that is not held stores its bytes at their addresses and nowhere else; a bus
read answers the bytes that stand there and changes no memory; SPI_WRITE of one word, while the SPI port's master M4
is not held, and MGMT_WRITE32 store the word in little-endian order and no other byte; SPI_READ of one word, M4 not
held, answers 0xA1 after its waiting bytes, then the word; MGMT_READ32 answers the word; a management frame that
passes its checks while CC2 runs has an answer as long as the frame, with the frame's first three bytes and 1 in the
fourth. -/
def Obligations.MemoryTransactionsAtSram : Prop :=
  (∀ (x : BusAcc) (s : State),
      x.write = true ∧ x.bar2 = false ∧ x.corr = 0 →
      0 < x.data.length ∧ x.data.length ≤ x.keep →
      sramBase ≤ x.addr.toNat ∧ x.addr.toNat + x.data.length ≤ sramBase + 0x200000 →
      s.bst.held.contains x.master.val = false →
      ∃ t, exec (.busMatrixAccess x) s = .next t ∧ t.fab.busErr = false ∧
      (∀ b, rdByte t b = if x.addr.toNat ≤ b ∧ b < x.addr.toNat + x.data.length then (x.data[b - x.addr.toNat]?).getD 0 else rdByte s b) ∧
      KeptBut [R.ERR_ECC_CORR_CNT] s t ∧ t = { s with regs := t.regs, mem := t.mem, err := t.err, fab := { s.fab with busErr := false } }) ∧
  (∀ (x : BusAcc) (s : State),
      x.write = false ∧ x.bar2 = false ∧ x.corr = 0 ∧ x.unc = [] →
      0 < x.len ∧ sramBase ≤ x.addr.toNat ∧ x.addr.toNat + x.len ≤ sramBase + 0x200000 →
      s.bst.held.contains x.master.val = false →
      ∃ t, exec (.busMatrixAccess x) s = .next t ∧ t.fab.busErr = false ∧ t.fab.busData = rdBytes s x.addr.toNat x.len ∧
      SameMem s t ∧ KeptBut [R.ERR_ECC_CORR_CNT] s t) ∧
  (∀ (addr : BitVec 40) (b0 b1 b2 b3 : Byte) (s : State),
      sramBase ≤ addr.toNat ∧ addr.toNat + 4 ≤ sramBase + 0x200000 ∧ s.bst.held.contains 4 = false →
      ∃ t, exec (.spiWrite addr [b0, b1, b2, b3]) s = .next t ∧ rdBytes t addr.toNat 4 = [b0, b1, b2, b3] ∧
      (∀ b, b < addr.toNat ∨ addr.toNat + 4 ≤ b → rdByte t b = rdByte s b) ∧ KeptBut [] s t) ∧
  (∀ (addr : BitVec 40) (wait : Nat) (s : State),
      sramBase ≤ addr.toNat ∧ addr.toNat + 4 ≤ sramBase + 0x200000 ∧ wait < 64 ∧ s.bst.held.contains 4 = false →
      ∃ t, exec (.spiRead addr 1 wait) s = .next t ∧
      t.fab.spiOut = List.replicate wait 0 ++ [0xA1#8] ++ rdBytes s addr.toNat 4 ∧ SameMem s t ∧ KeptBut [] s t) ∧
  (∀ (addr : BitVec 40) (s : State),
      sramBase ≤ addr.toNat ∧ addr.toNat + 4 ≤ sramBase + 0x200000 →
      ∃ t, exec (.mgmtRead32 addr) s = .next t ∧ t.rdata.toNat = leNat (rdBytes s addr.toNat 4) ∧ SameMem s t ∧ KeptBut [] s t) ∧
  (∀ (addr : BitVec 40) (v : Word) (s : State),
      sramBase ≤ addr.toNat ∧ addr.toNat + 4 ≤ sramBase + 0x200000 →
      ∃ t, exec (.mgmtWrite32 addr v) s = .next t ∧ leNat (rdBytes t addr.toNat 4) = v.toNat ∧
      (∀ b, b < addr.toNat ∨ addr.toNat + 4 ≤ b → rdByte t b = rdByte s b) ∧ KeptBut [] s t) ∧
  (∀ (frame : List Byte) (s : State),
      cc2Runs s = true →
      mgmtOk frame = true →
      ∃ t, exec (.mgmtFrameRx frame) s = .next t ∧ t.fab.mgmtOut.length = frame.length ∧ t.fab.mgmtOut.take 3 = frame.take 3 ∧
      leAt t.fab.mgmtOut 3 1 = 1)

/-- A bus write or read, by a master that is not held and outside the BAR2 window, whose first address lies in no region
stores nothing and answers zeros with the error response, counts in MTX_ERR_CNT, shows the address and the master,
sets MTX_STAT.DECODE and raises MTX_DECODE. -/
def Obligations.BusErrorResponses : Prop :=
  (∀ (x : BusAcc) (s : State),
      x.write = true ∧ x.bar2 = false ∧ x.corr = 0 ∧ 0 < x.data.length →
      inRegs x.addr.toNat x.data.length = false ∧ locOf s x.addr.toNat = none →
      s.bst.held.contains x.master.val = false →
      ∃ t, exec (.busMatrixAccess x) s = .next t ∧ t.fab.busErr = true ∧ SameMem s t ∧
      rdN t R.MTX_ERR_CNT = min (rdN s R.MTX_ERR_CNT + 1) 0xFFFFFFFF ∧ rdN t R.MTX_ERR_ADDR_LO = x.addr.toNat % 2 ^ 32 ∧
      rdN t R.MTX_ERR_ADDR_HI = x.addr.toNat / 2 ^ 32 ∧ rdN t R.MTX_ERR_INFO = x.master.val ∧ stBit t F.MTX_STAT_DECODE = 1) ∧
  (∀ (x : BusAcc) (s : State),
      x.write = false ∧ x.bar2 = false ∧ x.corr = 0 ∧ 0 < x.len →
      inRegs x.addr.toNat x.len = false ∧ locOf s x.addr.toNat = none →
      s.bst.held.contains x.master.val = false →
      ∃ t, exec (.busMatrixAccess x) s = .next t ∧ t.fab.busErr = true ∧ SameMem s t ∧
      t.fab.busData = List.replicate x.len 0 ∧ rdN t R.MTX_ERR_CNT = min (rdN s R.MTX_ERR_CNT + 1) 0xFFFFFFFF ∧
      rdN t R.MTX_ERR_ADDR_LO = x.addr.toNat % 2 ^ 32 ∧ rdN t R.MTX_ERR_ADDR_HI = x.addr.toNat / 2 ^ 32 ∧
      getF t F.MTX_ERR_INFO_MASTER = x.master.val ∧ stBit t F.MTX_STAT_DECODE = 1)

/-- MTX_CMD_RESET of M4 to M9 or M11 counts an abort and sets MTX_STAT.ABORT for it, and of another master is ignored
with WRITE_IGNORED; CC_RUN_WRITE stores the run bits, a core that starts counts as kicked now and is not stopped,
and a core that is stopped frees a BUSY mailbox and sets its ABORT bit; CC_KICK restarts its core's watchdog;
WATCHDOG_EXPIRY of a running core past its limit sets WDOG, counts an abort, frees its mailbox, and the core runs
again, kicked now; CORE_EXCEPTION stops a running core and sets EXC. -/
def Obligations.MastersAndCoresRestart : Prop :=
  (∀ (via : Src) (m : Fin 16) (s : State),
      ((4 ≤ m.val ∧ m.val ≤ 9) ∨ m.val = 11) →
      ∃ t, exec (.mtxCmdReset via m) s = .next t ∧ rdN t R.MTX_ABORT_CNT = min (rdN s R.MTX_ABORT_CNT + 1) 0xFFFFFFFF ∧
      stBit t F.MTX_STAT_ABORT m.val = 1 ∧ Frame ([R.MTX_ABORT_CNT, R.MTX_STAT] ++ logRegs) s t { s with regs := t.regs, jnl := t.jnl, err := t.err }) ∧
  (∀ (via : Src) (m : Fin 16) (s : State),
      (m.val < 4 ∨ m.val = 10 ∨ 12 ≤ m.val) →
      ∃ t, exec (.mtxCmdReset via m) s = .next t ∧ rd t R.MTX_ABORT_CNT = rd s R.MTX_ABORT_CNT ∧
      (s.err.current = none → t.err.current.map (fun e => e.err) = some .errWriteIgnored) ∧
      Frame logRegs s t { s with regs := t.regs, jnl := t.jnl, err := t.err }) ∧
  (∀ (via : Src) (run : Fin 16) (n : Fin 4) (s : State),
      bit (getF s F.CC_RUN_RUN) n.val = false →
      bit run.val n.val = true →
      ∃ t, exec (.ccRunWrite via run) s = .next t ∧ rdN t R.CC_RUN = run.val ∧ n.val ∉ t.fab.stopped ∧
      aGet (fun _ => 0) t.fab.kickAt n.val = s.msi ∧ SameMem s t) ∧
  (∀ (via : Src) (run : Fin 16) (n : Fin 4) (s : State),
      bit (getF s F.CC_RUN_RUN) n.val = true →
      bit run.val n.val = false →
      ∃ t, exec (.ccRunWrite via run) s = .next t ∧ rdN t R.CC_RUN = run.val ∧ mbBusy t n.val = false ∧
      stBit t F.MTX_STAT_ABORT n.val = 1 ∧ SameMem s t) ∧
  (∀ (via : Src) (n : Fin 4) (v : Word) (s : State),
      ∃ t, exec (.ccKick via n v) s = .next t ∧ t.fab = { s.fab with kickAt := aInsert s.fab.kickAt n.val s.msi } ∧
      Frame jnlRegs s t { s with regs := t.regs, jnl := t.jnl, fab := t.fab }) ∧
  (∀ (n : Fin 4) (s : State),
      getF s F.CC_WDT_MS ≠ 0 ∧ bit (getF s F.CC_RUN_RUN) n.val = true →
      aGet (fun _ => 0) s.fab.kickAt n.val + msFrames s (getF s F.CC_WDT_MS) ≤ s.msi + 1 →
      ∃ t, exec (.watchdogExpiry n) s = .next t ∧ stBit t F.CC_STAT_WDOG n.val = 1 ∧ n.val ∉ t.fab.stopped ∧
      aGet (fun _ => 0) t.fab.kickAt n.val = s.msi ∧
      rdN t R.MTX_ABORT_CNT = min (rdN s R.MTX_ABORT_CNT + 1) 0xFFFFFFFF ∧ mbBusy t n.val = false ∧ SameMem s t) ∧
  (∀ (n : Fin 4) (s : State),
      bit (getF s F.CC_RUN_RUN) n.val = true ∧ s.fab.stopped.contains n.val = false →
      ∃ t, exec (.coreException n) s = .next t ∧ stBit t F.CC_STAT_EXC n.val = 1 ∧ t.fab.stopped = n.val :: s.fab.stopped ∧
      mbBusy t n.val = false ∧ SameMem s t)

/-- MAILBOX_DOORBELL makes a free mailbox BUSY with its sequence number; MAILBOX_DONE with that number frees it, sets
CC_STAT.DONE and signals its vector; DMA_TAIL_WRITE stores a tail that the ring holds; DMA_DESCRIPTOR_DONE of a move
from working SRAM completes with status 1, moves HEAD by one modulo 8,192 and changes no memory, and of a descriptor
that breaks its rules completes with status 3. -/
def Obligations.MailboxAndDmaMove : Prop :=
  (∀ (via : Src) (n : Fin 4) (seq : BitVec 16) (s : State),
      mbBusy s n.val = false →
      ∃ t, exec (.mailboxDoorbell via n seq) s = .next t ∧ mbBusy t n.val = true ∧ getF t (F.CC_DB_SEQ n.val) = seq.toNat ∧
      Frame [R.CC_DB n.val, R.CC_MBSTAT n.val] s t { s with regs := t.regs }) ∧
  (∀ (n : Fin 4) (seq : BitVec 16) (s : State),
      mbBusy s n.val = true ∧ getF s (F.CC_DB_SEQ n.val) = seq.toNat →
      ∃ t, exec (.mailboxDone n seq) s = .next t ∧ mbBusy t n.val = false ∧ rdN t (R.CC_DONE n.val) = seq.toNat ∧
      stBit t F.CC_STAT_DONE n.val = 1 ∧ 1 + n.val ∈ t.fab.vectors ∧
      Frame [R.CC_DONE n.val, R.CC_MBSTAT n.val, R.CC_STAT] s t { s with regs := t.regs, fab := t.fab }) ∧
  (∀ (via : Src) (v : Word) (s : State),
      (v.toNat % 8192 + 8192 - getF s F.SYS_DMA_HEAD_HEAD) % 8192 ≤ getF s F.SYS_DMA_SIZE_SIZE →
      ∃ t, exec (.dmaTailWrite via v) s = .next t ∧ getF t F.SYS_DMA_TAIL_TAIL = v.toNat % 8192 ∧
      Frame (R.SYS_DMA_TAIL :: jnlRegs) s t { s with regs := t.regs, jnl := t.jnl }) ∧
  (∀ (d host : List Byte) (s : State),
      getF s F.SYS_DMA_HEAD_HEAD ≠ getF s F.SYS_DMA_TAIL_TAIL ∧ getF s F.SYS_DMA_SIZE_SIZE ≠ 0 →
      s.bst.held.contains 4 = false ∧ bit (getF s F.BST_MAP_MAP) 20 = false →
      dmaOk s d = true ∧ bit (leAt d 13 1) 0 = true →
      sramBase ≤ leAt d 8 5 ∧ leAt d 8 5 + leAt d 16 4 ≤ sramBase + 0x200000 →
      ∃ t, exec (.dmaDescriptorDone d host []) s = .next t ∧ t.fab.dmaLast = some (1, getF s F.SYS_DMA_HEAD_HEAD) ∧
      t.fab.busData = rdBytes s (leAt d 8 5) (leAt d 16 4) ∧
      getF t F.SYS_DMA_HEAD_HEAD = (getF s F.SYS_DMA_HEAD_HEAD + 1) % 8192 ∧ SameMem s t) ∧
  (∀ (d host : List Byte) (s : State),
      getF s F.SYS_DMA_HEAD_HEAD ≠ getF s F.SYS_DMA_TAIL_TAIL ∧ getF s F.SYS_DMA_SIZE_SIZE ≠ 0 →
      s.bst.held.contains 4 = false ∧ bit (getF s F.BST_MAP_MAP) 20 = false →
      dmaOk s d = false →
      ∃ t, exec (.dmaDescriptorDone d host []) s = .next t ∧ t.fab.dmaLast = some (3, getF s F.SYS_DMA_HEAD_HEAD) ∧
      getF t F.SYS_DMA_HEAD_HEAD = (getF s F.SYS_DMA_HEAD_HEAD + 1) % 8192 ∧ SameMem s t)

/-- BOOT_LOAD with the core PLL locked takes the copy in force (none: the loader finds no image); BOOT_LOAD_DONE of a
good image runs all four cores from working SRAM that holds the image and sets REMAP, of a bad one sets BOOT_NONE
and starts no core; NVM_PROGRAM with no ground for refusal starts the command, shows BUSY and erases its area (an
image area reads as unwritten, the DAC area as zeros), and with one (BUSY, IN_USE, RANGE) shows its reason and
changes no memory; NVM_PROGRAM_DONE of a good read-back puts the source bytes into the area and sets DONE, of a bad
one sets DONE and PROG_FAIL. -/
def Obligations.BootAndNvmCommands : Prop :=
  (∀ (s : State) (b : Bool),
      s.pwr.pll = true ∧ s.fab.boot = 0 →
      bootInForce s = some b →
      ∃ t, exec .bootLoad s = .next t ∧ t.fab.boot = 1 ∧ t.fab.bootCopy = (b, bootGen s b, bootLen s b) ∧
      Frame [] s t { s with fab := t.fab }) ∧
  (∀ (s : State),
      s.pwr.pll = true ∧ s.fab.boot = 0 →
      bootInForce s = none →
      ∃ t, exec .bootLoad s = .next t ∧ t.fab.boot = 1 ∧ t.fab.bootCopy = (false, 0, 0) ∧ Frame [] s t { s with fab := t.fab }) ∧
  (∀ (s : State) (b : Bool) (gen len : Nat),
      s.fab.boot = 1 ∧ s.fab.bootCopy = (b, gen, len) ∧ 0 < len ∧ len ≤ 0x200000 →
      ∃ t, exec (.bootLoadDone false) s = .next t ∧ t.fab.boot = 2 ∧ getF t F.SYS_CTL_REMAP = 1 ∧ rdN t R.CC_RUN = 15 ∧
      rdN t R.NVM_BOOT = b2n b * 2 ^ 31 + gen % 2 ^ 31 ∧
      (∀ i, i < len → rdByte t (sramBase + i) = rdByte s (nvmBase + (nvmArea (b2n b)).1 + 64 + i))) ∧
  (∀ (s : State),
      s.fab.boot = 1 →
      ∃ t, exec (.bootLoadDone true) s = .next t ∧ t.fab.boot = 3 ∧ rd t R.CC_RUN = rd s R.CC_RUN ∧
      stBit t F.NVM_STAT_BOOT_NONE = 1 ∧ SameMem s t) ∧
  (∀ (via : Src) (area : Fin 4) (s : State),
      nvmReason s area.val = 0 →
      ∃ t, exec (.nvmProgram via area) s = .next t ∧ t.fab.nvm = some (area.val, rdN s R.NVM_SRC, rdN s R.NVM_LEN) ∧
      getF t ⟨R.NVM_STATE, 31, 31⟩ = 1 ∧
      (∀ a, nvmBase + (nvmArea area.val).1 ≤ a → a < nvmBase + (nvmArea area.val).1 + (nvmArea area.val).2 →
        rdByte t a = if area.val < 2 then memDefault a else 0#8) ∧
      (∀ a, (a < nvmBase + (nvmArea area.val).1 ∨ nvmBase + (nvmArea area.val).1 + (nvmArea area.val).2 ≤ a) → rdByte t a = rdByte s a)) ∧
  (∀ (via : Src) (area : Fin 4) (s : State),
      nvmReason s area.val ≠ 0 →
      ∃ t, exec (.nvmProgram via area) s = .next t ∧ t.fab.nvm = s.fab.nvm ∧
      getF t ⟨R.NVM_STATE, 7, 0⟩ = nvmReason s area.val ∧ SameMem s t) ∧
  (∀ (s : State) (area : Fin 3) (src len : Nat),
      s.fab.nvm = some (area.val, src, len) →
      len ≤ (nvmArea area.val).2 →
      ∃ t, exec (.nvmProgramDone false) s = .next t ∧ t.fab.nvm = none ∧ stBit t F.NVM_STAT_DONE = 1 ∧
      getF t ⟨R.NVM_STATE, 31, 31⟩ = 0 ∧
      rdBytes t (nvmBase + (nvmArea area.val).1) len = rdPacked s dramBase src len) ∧
  (∀ (s : State) (area : Fin 3) (src len : Nat),
      s.fab.nvm = some (area.val, src, len) →
      ∃ t, exec (.nvmProgramDone true) s = .next t ∧ t.fab.nvm = none ∧ stBit t F.NVM_STAT_DONE = 1 ∧
      stBit t F.NVM_STAT_PROG_FAIL = 1 ∧ getF t ⟨R.NVM_STATE, 31, 31⟩ = 0 ∧ SameMem s t)

/-- TB_CFG_WRITE with no Pattern running and in range stores the fields.  With another SRC, PORT or WRATE it puts the
time base in ACQUIRE, or in FREE for SRC 0, its last accepted edge forgotten and the time of every time base kept;
with all three as they were no time base changes.  While a Pattern runs the register stays and RWL_WRITE is raised;
with SRC or PROF out of range it stays and WRITE_IGNORED is raised (each presented where no error is current). -/
def Obligations.TimeBaseConfigured : Prop :=
  (∀ (via : Src) (n : Fin 4) (v : Word) (s : State),
      running s = false →
      tbCfgOk v = true →
      (fget v 31 29 ≠ getF s (F.TSU_TB_CFG_SRC n.val) ∨ fget v 25 24 ≠ getF s (F.TSU_TB_CFG_PORT n.val) ∨ fget v 22 22 ≠ getF s (F.TSU_TB_CFG_WRATE n.val)) →
      ∃ t, exec (.tbCfgWrite via n v) s = .next t ∧ rd t (R.TSU_TB_CFG n.val) = v &&& 0xFFC07F00#32 ∧
      tbState t n.val = (if fget v 31 29 = 0 then 0 else 1) ∧ (tbOf t n.val).lastAccepted = none ∧
      (∀ m, (tbOf t m).time = (tbOf s m).time) ∧
      Frame ([R.TSU_TB_CFG n.val, R.TSU_ML_STATE, R.TSU_STAT] ++ (List.range 4).map R.TSU_TB_STATE ++ logRegs) s t
        { s with regs := t.regs, time := t.time, jnl := t.jnl, err := t.err }) ∧
  (∀ (via : Src) (n : Fin 4) (v : Word) (s : State),
      running s = false →
      tbCfgOk v = true →
      fget v 31 29 = getF s (F.TSU_TB_CFG_SRC n.val) ∧ fget v 25 24 = getF s (F.TSU_TB_CFG_PORT n.val) ∧ fget v 22 22 = getF s (F.TSU_TB_CFG_WRATE n.val) →
      ∃ t, exec (.tbCfgWrite via n v) s = .next t ∧ rd t (R.TSU_TB_CFG n.val) = v &&& 0xFFC07F00#32 ∧
      Frame (R.TSU_TB_CFG n.val :: jnlRegs) s t { s with regs := t.regs, jnl := t.jnl }) ∧
  (∀ (via : Src) (n : Fin 4) (v : Word) (s : State),
      (running s = true ∨ tbCfgOk v = false) →
      ∃ t, exec (.tbCfgWrite via n v) s = .next t ∧ rd t (R.TSU_TB_CFG n.val) = rd s (R.TSU_TB_CFG n.val) ∧
      (s.err.current = none → t.err.current.map (fun e => e.err) = some (if running s then .errRwlWrite else .errWriteIgnored)) ∧
      Frame logRegs s t { s with regs := t.regs, jnl := t.jnl, err := t.err })

/-- TB_STEP adds the offset of the STEP registers to the step that awaits the strobe and moves no time base;
TB_STEP_APPLY moves the named time base, of which a step awaits, by the host's step plus the servo's (0 for one that
is not there), empties both, sets TSU_STAT.TB_STEP and moves no other time base. -/
def Obligations.TimeBaseStepsAtStrobe : Prop :=
  (∀ (via : Src) (n : Fin 4) (s : State),
      ∃ t, exec (.tbStep via n) s = .next t ∧
      (tbOf t n.val).hostStep = some ((tbOf s n.val).hostStep.getD 0 + stepOffset s n.val) ∧
      (∀ m, (tbOf t m).time = (tbOf s m).time) ∧ Frame jnlRegs s t { s with regs := t.regs, jnl := t.jnl, time := t.time }) ∧
  (∀ (n : Fin 4) (s : State),
      ((tbOf s n.val).hostStep.isSome = true ∨ (tbOf s n.val).servoStep.isSome = true) →
      ∃ t, exec (.tbStepApply n) s = .next t ∧
      (tbOf t n.val).time = (tbOf s n.val).time + (tbOf s n.val).hostStep.getD 0 + (tbOf s n.val).servoStep.getD 0 ∧
      (tbOf t n.val).hostStep = none ∧ (tbOf t n.val).servoStep = none ∧ stBit t F.TSU_STAT_TB_STEP = 1 ∧
      (∀ m, m ≠ n.val → tbOf t m = tbOf s m) ∧ SameMem s t)

/-- REF_EDGE at WCLK_IN or PPS_IN: the pin keeps the stamp of its edge.  Its first edge is judged for no time base (the
model's choice, with the log); for a time base that follows the pin an edge within 12.5 % of the nominal interval
after the edge before is accepted, and any other is rejected, counts in GLITCH_CNT and leaves the last accepted edge
as it was.  An edge at PPS_IN within 12.5 % of a second after the one before sets TSU_STAT.PPS_IN, whatever a time
base follows, and any other leaves the TSU_PPSI registers as they were.  REF_EDGE_TIMEOUT of a LOCKED time base
whose reference is not lost already counts a loss, sets REF_LOSS and goes to HOLDOVER. -/
def Obligations.EdgeReferenceJudged : Prop :=
  (∀ (pin : RefPin) (stamp : BitVec 64) (n : Fin 4) (s : State),
      getF s (F.TSU_TB_CFG_SRC n.val) = pinSrc pin →
      (pinOf s (pinSrc pin)).lastEdge = none →
      ∃ t, exec (.refEdge pin stamp) s = .next t ∧ (pinOf t (pinSrc pin)).lastEdge = some stamp.toNat ∧
      tbOf t n.val = { tbOf s n.val with lost := false } ∧ Frame [] s t { s with time := t.time }) ∧
  (∀ (pin : RefPin) (stamp : BitVec 64) (n : Fin 4) (s : State) (prev : Nat),
      getF s (F.TSU_TB_CFG_SRC n.val) = pinSrc pin →
      (pinOf s (pinSrc pin)).lastEdge = some prev →
      withinPpm (stamp.toNat - prev) (nominalRate s n.val) 125000 = true →
      ∃ t, exec (.refEdge pin stamp) s = .next t ∧ (pinOf t (pinSrc pin)).lastEdge = some stamp.toNat ∧
      (tbOf t n.val).lastAccepted = some stamp.toNat ∧ SameMem s t) ∧
  (∀ (pin : RefPin) (stamp : BitVec 64) (n : Fin 4) (s : State) (prev : Nat),
      getF s (F.TSU_TB_CFG_SRC n.val) = pinSrc pin →
      (pinOf s (pinSrc pin)).lastEdge = some prev →
      withinPpm (stamp.toNat - prev) (nominalRate s n.val) 125000 = false →
      ∃ t, exec (.refEdge pin stamp) s = .next t ∧ (pinOf t (pinSrc pin)).lastEdge = some stamp.toNat ∧
      (tbOf t n.val).lastAccepted = (tbOf s n.val).lastAccepted ∧
      rdN t (R.TSU_TB_GLITCH_CNT n.val) = min (rdN s (R.TSU_TB_GLITCH_CNT n.val) + 1) 0xFFFFFFFF ∧ SameMem s t) ∧
  (∀ (stamp : BitVec 64) (s : State) (prev : Nat),
      (pinOf s 3).lastEdge = some prev →
      withinPpm (stamp.toNat - prev) 1 125000 = true →
      ∃ t, exec (.refEdge .ppsIn stamp) s = .next t ∧ (pinOf t 3).lastEdge = some stamp.toNat ∧ stBit t F.TSU_STAT_PPS_IN = 1 ∧ SameMem s t) ∧
  (∀ (stamp : BitVec 64) (s : State),
      (pinOf s 3).lastEdge.all (fun p => !withinPpm (stamp.toNat - p) 1 125000) = true →
      ∃ t, exec (.refEdge .ppsIn stamp) s = .next t ∧ (pinOf t 3).lastEdge = some stamp.toNat ∧
      (∀ o ∈ [R.TSU_PPSI_NS, R.TSU_PPSI_FRAC, R.TSU_PPSI_SLO, R.TSU_PPSI_SHI], rd t o = rd s o) ∧ SameMem s t) ∧
  (∀ (n : Fin 4) (s : State),
      (getF s (F.TSU_TB_CFG_SRC n.val) = 2 ∨ getF s (F.TSU_TB_CFG_SRC n.val) = 3) →
      (tbOf s n.val).lost = false ∧ tbState s n.val = 2 →
      ∃ t, exec (.refEdgeTimeout n) s = .next t ∧ tbState t n.val = 3 ∧ (tbOf t n.val).lost = true ∧
      rdN t (R.TSU_TB_LOSS_CNT n.val) = min (rdN s (R.TSU_TB_LOSS_CNT n.val) + 1) 0xFFFFFFFF ∧
      stBit t F.TSU_STAT_REF_LOSS = 1 ∧ (tbOf t n.val).time = (tbOf s n.val).time ∧ SameMem s t)

/-- PTP_MEAS_WRITE on a time base with PTP source and no conflict: LOCKED and at most STEP_THR away, OFS shows the
offset and FADJ takes the clamped servo value, the time stays and the state stays LOCKED; in ACQUIRE and beyond
STEP_THR a step of minus the offset awaits the strobe and the integral is cleared; ROLE shows a slave (the model's
choice, assumption 227).  PTP_SYNC_TIMEOUT and PTP_ANNOUNCE_TIMEOUT of a LOCKED time base whose reference is not
lost already lose it: HOLDOVER, one loss counted. -/
def Obligations.PtpMeasurementSteersServo : Prop :=
  (∀ (n : Fin 4) (offset intervalNs : BitVec 32) (s : State),
      getF s (F.TSU_TB_CFG_SRC n.val) = 1 ∧ getF s (F.TSU_TB_STATE_CONFLICT n.val) = 0 →
      tbState s n.val = 2 ∧ offset.toInt.natAbs ≤ stepThr s n.val →
      ∃ t, exec (.ptpMeasWrite n offset intervalNs) s = .next t ∧ rd t (R.TSU_TB_OFS n.val) = offset ∧
      rdN t (R.TSU_TB_FADJ n.val) = code 32 (servoFadj
        (fracAdd (tbOf s n.val).integ ⟨offset.toInt, 2 ^ 8 * 2 ^ getF s (F.TSU_TB_SERVO_KI_SH n.val) * max intervalNs.toNat 1⟩)
        offset.toInt (getF s (F.TSU_TB_SERVO_KP_SH n.val)) (max intervalNs.toNat 1)) ∧
      tbState t n.val = 2 ∧ (tbOf t n.val).time = (tbOf s n.val).time ∧
      getF t (F.TSU_TB_STATE_ROLE n.val) = 1 ∧
      Frame [R.TSU_TB_OFS n.val, R.TSU_TB_FADJ n.val, R.TSU_TB_STATE n.val] s t { s with regs := t.regs, time := t.time }) ∧
  (∀ (n : Fin 4) (offset intervalNs : BitVec 32) (s : State),
      getF s (F.TSU_TB_CFG_SRC n.val) = 1 ∧ getF s (F.TSU_TB_STATE_CONFLICT n.val) = 0 →
      tbState s n.val = 1 ∧ stepThr s n.val < offset.toInt.natAbs →
      ∃ t, exec (.ptpMeasWrite n offset intervalNs) s = .next t ∧
      (tbOf t n.val).servoStep = some (-offset.toInt * 2 ^ 40) ∧ (tbOf t n.val).integ = ⟨0, 1⟩ ∧
      (tbOf t n.val).time = (tbOf s n.val).time ∧ getF t (F.TSU_TB_STATE_ROLE n.val) = 1 ∧
      Frame [R.TSU_TB_STATE n.val] s t { s with regs := t.regs, time := t.time }) ∧
  (∀ (n : Fin 4) (s : State),
      getF s (F.TSU_TB_CFG_SRC n.val) = 1 →
      (tbOf s n.val).lost = false ∧ tbState s n.val = 2 →
      ∃ t, exec (.ptpSyncTimeout n) s = .next t ∧ tbState t n.val = 3 ∧ (tbOf t n.val).lost = true ∧
      rdN t (R.TSU_TB_LOSS_CNT n.val) = min (rdN s (R.TSU_TB_LOSS_CNT n.val) + 1) 0xFFFFFFFF ∧ SameMem s t) ∧
  (∀ (n : Fin 4) (s : State),
      getF s (F.TSU_TB_CFG_SRC n.val) = 1 →
      (tbOf s n.val).lost = false ∧ tbState s n.val = 2 →
      ∃ t, exec (.ptpAnnounceTimeout n) s = .next t ∧ tbState t n.val = 3 ∧ (tbOf t n.val).lost = true ∧
      rdN t (R.TSU_TB_LOSS_CNT n.val) = min (rdN s (R.TSU_TB_LOSS_CNT n.val) + 1) 0xFFFFFFFF ∧ SameMem s t)

/-- MEDIA_SEAT in ACQUIRE with no Pattern, a followed time base that is LOCKED or FREE, and no SYNC_IN seat puts
TSU_MEPOCH in force and sets the counted MSI to the derived one of that time base (modulo 2^64 where it is negative:
the model's choice, assumption 226); ML_REQUAL_LOCK after one good second in REQUAL returns the loop to LOCKED;
PPS_OUT_SECOND at a whole second, with the output enabled and its time base LOCKED or FREE, raises PPS_OUT for
PPS_WIDTH milliseconds; BLOCK_STROBE with the clocks running moves the count to the first frame of the next block,
and without clocks does nothing. -/
def Obligations.MediaCountSeatsAndRuns : Prop :=
  (∀ (s : State),
      running s = false ∧ syncSeats s = false →
      getF s F.TSU_ML_STATE_STATE = 0 ∧ tbUsable s (followTb s) = true →
      ∃ t, exec .mediaSeat s = .next t ∧ t.time.e = rdS64 s R.TSU_MEPOCH_LO R.TSU_MEPOCH_HI ∧
      t.msi = code 64 (derivedAt (fsInt s) (rdS64 s R.TSU_MEPOCH_LO R.TSU_MEPOCH_HI) (tbNow s (followTb s))) ∧
      getF t F.TSU_ML_STATE_SEATED = 1 ∧ getF t F.TSU_ML_STATE_STATE = 1 ∧ stBit t F.TSU_STAT_LOCK = 1 ∧
      Frame [R.TSU_MPHASE, R.TSU_ML_STATE, R.TSU_ML_FREQ, R.TSU_STAT] s t { s with regs := t.regs, msi := t.msi, time := t.time }) ∧
  (∀ (s : State),
      getF s F.TSU_ML_STATE_STATE = 3 ∧ 200000000 ≤ s.time.mlGood →
      ∃ t, exec .mlRequalLock s = .next t ∧ getF t F.TSU_ML_STATE_STATE = 1 ∧ Frame [R.TSU_ML_STATE] s t { s with regs := t.regs }) ∧
  (∀ (s : State),
      getF s F.TSU_CFG_PPS_OUT_EN = 1 ∧ tbUsable s (getF s F.TSU_CFG_PPS_TB) = true →
      0 < getF s F.TSU_CFG_PPS_WIDTH →
      ∃ t, exec .ppsOutSecond s = .next t ∧ ppsOut t = true ∧
      t.time = { s.time with ppsHigh := some (nowStamp s + getF s F.TSU_CFG_PPS_WIDTH * stampsPerMs) } ∧
      Frame [] s t { s with time := t.time }) ∧
  (∀ (inp : StrobeIn) (s : State),
      clocked s = true →
      ∃ t, exec (.blockStrobe inp) s = .next t ∧ t.msi = 16 * (blk s + 1) ∧
      t.time.frames = s.time.frames + (16 - s.msi % 16) ∧ t.time.ref = s.time.ref + 32 * inp.refCycles) ∧
  (∀ (inp : StrobeIn) (s : State),
      clocked s = false →
      exec (.blockStrobe inp) s = .next s)

/-- POWER_ON, POWER_DOWN, SYS_RST_FULL and THERMAL_SHUTDOWN end any Pattern, empty the journal and the error engine, set
the counted MSI to 0, lose every memory but the NVM and keep the NVM, and take every register to its reset value but
the temperatures, the cause, the fault map and the slots, which show the sensors' and the NVM's contents.  POWER_ON
leaves POR alone in SYS_RST_CAUSE and senses the banks' supplies (a free value, log 259), which the others keep;
SYS_RST_FULL and THERMAL_SHUTDOWN set their own bit and keep the others; THERMAL_SHUTDOWN holds the device;
POWER_DOWN releases FAULT_N; after the other three FAULT_N is held low. -/
def Obligations.FullResetsClearAllButNvm : Prop :=
  (∀ (s : State),
      ∃ t, exec .powerOn s = .next t ∧ ResetKeeps dieKeeps s t ∧ rdN t R.SYS_RST_CAUSE = 1 ∧
      t.pwr.banks = BitVec.ofNat 4 (freeNat s 4).1 ∧ t.freeCtr = s.freeCtr + 1 ∧
      t.err = ErrState.reset ∧ faultNLow t = true ∧ t.pwr.good = true) ∧
  (∀ (s : State),
      ∃ t, exec .powerDown s = .next t ∧ ResetKeeps dieKeeps s t ∧ t.err = { ErrState.reset with startupHold := false } ∧
      faultNLow t = false ∧ t.pwr.good = false ∧ t.pwr.banks = s.pwr.banks) ∧
  (∀ (s : State),
      ∃ t, exec .sysRstFull s = .next t ∧ ResetKeeps dieKeeps s t ∧ t.pwr.banks = s.pwr.banks ∧ t.err = ErrState.reset ∧ faultNLow t = true ∧
      stBit t F.SYS_RST_CAUSE_SW_FULL = 1 ∧
      (∀ f ∈ [F.SYS_RST_CAUSE_POR, F.SYS_RST_CAUSE_PIN, F.SYS_RST_CAUSE_SW_CORE, F.SYS_RST_CAUSE_THERM], getF t f = getF s f)) ∧
  (∀ (s : State),
      ∃ t, exec .thermalShutdown s = .next t ∧ ResetKeeps dieKeeps s t ∧ t.pwr.banks = s.pwr.banks ∧ t.err = ErrState.reset ∧ faultNLow t = true ∧
      stBit t F.SYS_RST_CAUSE_THERM = 1 ∧ coreHeld t = true ∧
      (∀ f ∈ [F.SYS_RST_CAUSE_POR, F.SYS_RST_CAUSE_PIN, F.SYS_RST_CAUSE_SW_CORE, F.SYS_RST_CAUSE_SW_FULL], getF t f = getF s f))

/-- RESET_PIN, SYS_RST_CORE and TEST_EN_ASSERT end any Pattern, empty the journal and the error engine, set the counted
MSI to 0, lose every memory but the NVM, and take every register to its reset value but those of a full reset,
TSU_ML_FREQ, which stays (DEDUCED: the log of the media PLL), and the DAC channels'.  Every DAC channel that was OFF
stays OFF and every other is in SAFE, each with its span, its mode and its safe and fault codes in force as before.
RESET_PIN and SYS_RST_CORE set their cause bit and keep the others; TEST_EN_ASSERT holds the device and clamps every
output; TEST_EN_RELEASE ends that hold and gives a SAFE channel its safe code again; THERMAL_RELEASE ends the
thermal hold. -/
def Obligations.CoreResetsKeepConverter : Prop :=
  (∀ (s : State),
      ∃ t, exec .resetPin s = .next t ∧ ResetKeeps coreKeeps s t ∧ ConverterKept s t ∧ t.err = ErrState.reset ∧
      rd t R.TSU_ML_FREQ = rd s R.TSU_ML_FREQ ∧ stBit t F.SYS_RST_CAUSE_PIN = 1 ∧
      (∀ f ∈ [F.SYS_RST_CAUSE_POR, F.SYS_RST_CAUSE_SW_FULL, F.SYS_RST_CAUSE_SW_CORE, F.SYS_RST_CAUSE_THERM], getF t f = getF s f)) ∧
  (∀ (s : State),
      ∃ t, exec .sysRstCore s = .next t ∧ ResetKeeps coreKeeps s t ∧ ConverterKept s t ∧ t.err = ErrState.reset ∧
      rd t R.TSU_ML_FREQ = rd s R.TSU_ML_FREQ ∧ stBit t F.SYS_RST_CAUSE_SW_CORE = 1 ∧
      (∀ f ∈ [F.SYS_RST_CAUSE_POR, F.SYS_RST_CAUSE_SW_FULL, F.SYS_RST_CAUSE_PIN, F.SYS_RST_CAUSE_THERM], getF t f = getF s f)) ∧
  (∀ (s : State),
      ∃ t, exec .testEnAssert s = .next t ∧ ResetKeeps coreKeeps s t ∧ ConverterKept s t ∧ t.err = ErrState.reset ∧
      rd t R.TSU_ML_FREQ = rd s R.TSU_ML_FREQ ∧ coreHeld t = true ∧
      (∀ n : Fin 32, (dacOf t n.val).clamped = true ∧ (dacOf t n.val).code = 0)) ∧
  (∀ (s : State),
      s.pwr.testEn = true →
      ∃ t, exec .testEnRelease s = .next t ∧ t.pwr = { s.pwr with testEn := false } ∧
      (∀ n : Fin 32, dacSt s n.val = 1 → (dacOf t n.val).clamped = false ∧ (dacOf t n.val).code = safeCode s n.val (dacOf s n.val).spanNow) ∧
      Frame [] s t { s with pwr := t.pwr, dac := t.dac }) ∧
  (∀ (s : State),
      ∃ t, exec .thermalRelease s = .next t ∧ t = { s with pwr := { s.pwr with hot := false } })

/-- PERST and PCIE_LINK_RESET reset master M4 (PERST also returns the DMA indices to 0) and change no memory;
CORE_PLL_LOCK of a device that is not held, whose clocks have neither started nor failed, starts them, shows them
and starts core CC0; DRAM_READY with the clocks running shows DRAM_RDY; THERMAL_SAMPLE shows both readings, keeps
the larger in SYS_TEMP_MAX, has the warning in force from its threshold upward until 5 degrees below it, and where
it comes into force sets THERM_WARN; TEST_EN_ASSERT holds the device, with no Pattern, and TEST_EN_RELEASE and
THERMAL_RELEASE end their own hold and no other. -/
def Obligations.LinksClocksAndThermal : Prop :=
  (∀ (s : State),
      ∃ t, exec .perst s = .next t ∧ rdN t R.SYS_DMA_TAIL = 0 ∧ rdN t R.SYS_DMA_HEAD = 0 ∧
      rdN t R.MTX_ABORT_CNT = min (rdN s R.MTX_ABORT_CNT + 1) 0xFFFFFFFF ∧ stBit t F.MTX_STAT_ABORT 4 = 1 ∧
      Frame ([R.SYS_DMA_TAIL, R.SYS_DMA_HEAD, R.MTX_ABORT_CNT, R.MTX_STAT] ++ errRegs) s t { s with regs := t.regs, jnl := t.jnl, err := t.err }) ∧
  (∀ (s : State),
      ∃ t, exec .pcieLinkReset s = .next t ∧ rdN t R.MTX_ABORT_CNT = min (rdN s R.MTX_ABORT_CNT + 1) 0xFFFFFFFF ∧
      stBit t F.MTX_STAT_ABORT 4 = 1 ∧
      Frame ([R.MTX_ABORT_CNT, R.MTX_STAT] ++ errRegs) s t { s with regs := t.regs, jnl := t.jnl, err := t.err }) ∧
  (∀ (pcieRef : Bool) (s : State),
      coreHeld s = false →
      s.pwr.pll = false ∧ s.pwr.clkFail = false →
      ∃ t, exec (.corePllLock pcieRef) s = .next t ∧ clocked t = true ∧ getF t F.SYS_CLK_STAT_REF_OK = 1 ∧
      getF t F.SYS_CLK_STAT_CORE_LOCK = 1 ∧ getF t F.SYS_CLK_STAT_MEDIA_LOCK = 1 ∧
      getF t F.SYS_CLK_STAT_PCIE_REF_OK = b2n pcieRef ∧
      0 ∉ t.fab.stopped ∧ aGet (fun _ => 0) t.fab.kickAt 0 = s.msi ∧
      Frame [R.SYS_CLK_STAT] s t { s with regs := t.regs, pwr := { s.pwr with pll := true }, fab := t.fab }) ∧
  (∀ (s : State),
      s.pwr.pll = true →
      ∃ t, exec .dramReady s = .next t ∧ getF t F.SYS_CLK_STAT_DRAM_RDY = 1 ∧ Frame [R.SYS_CLK_STAT] s t { s with regs := t.regs }) ∧
  (∀ (core conv : BitVec 16) (s : State),
      ∃ t, exec (.thermalSample core conv) s = .next t ∧ getF t F.SYS_TEMP_CORE = core.toNat ∧ getF t F.SYS_TEMP_CONV = conv.toNat ∧
      getF t F.SYS_TEMP_MAX_CORE = peak (getF s F.SYS_TEMP_MAX_CORE) core.toNat ∧
      getF t F.SYS_TEMP_MAX_CONV = peak (getF s F.SYS_TEMP_MAX_CONV) conv.toNat ∧
      t.pwr.warn = therm s.pwr.warn (8 * getF s F.SYS_THERM_CFG_WARN) core.toInt ∧ SameMem s t) ∧
  (∀ (core conv : BitVec 16) (s : State),
      s.pwr.warn = false →
      (8 * getF s F.SYS_THERM_CFG_WARN : Int) ≤ core.toInt →
      ∃ t, exec (.thermalSample core conv) s = .next t ∧ t.pwr.warn = true ∧ stBit t F.SYS_STAT_THERM_WARN = 1) ∧
  (∀ (s : State),
      ∃ t, exec .testEnAssert s = .next t ∧ coreHeld t = true ∧ running t = false ∧ t.pwr.good = s.pwr.good ∧ t.pwr.hot = s.pwr.hot) ∧
  (∀ (s : State),
      s.pwr.testEn = true →
      ∃ t, exec .testEnRelease s = .next t ∧ coreHeld t = (!s.pwr.good || s.pwr.hot) ∧ SameMem s t ∧ KeptBut [] s t) ∧
  (∀ (s : State),
      ∃ t, exec .thermalRelease s = .next t ∧ coreHeld t = (!s.pwr.good || s.pwr.testEn) ∧ Frame [] s t { s with pwr := t.pwr })

/-- SUPPLY_DIP and REFCLK_FAIL with no FATAL current and none recorded present their FATAL: it is current, its code is
in ERR_FATAL, SYS_STAT shows it, the journal is frozen by it, every DAC channel that is not OFF is in FAULT, the
unit is not active, a unit of a pair has yielded, and FAULT_N is low; REFCLK_FAIL also closes the claim gate, ends
the claim frame, releases the lanes and stops the clocks.  No byte of memory changes. -/
def Obligations.FatalEventsEnterSafeState : Prop :=
  (∀ (s : State),
      noFatal s = true →
      getF s F.ERR_FATAL_CODE = 0 →
      ∃ t, exec .supplyDip s = .next t ∧ SafeState .sysSupply s t ∧ stBit t F.SYS_STAT_SUPPLY = 1) ∧
  (∀ (unlock : Bool) (s : State),
      noFatal s = true →
      getF s F.ERR_FATAL_CODE = 0 →
      ∃ t, exec (.refclkFail unlock) s = .next t ∧ SafeState .sysClkFail s t ∧ stBit t F.SYS_STAT_CLK_FAIL = 1 ∧
      getF t F.CLM_STATE_HOLDER = 0 ∧ t.clm.sending = none ∧ t.apd.driven = false ∧
      (∀ p ∈ t.apd.lanes, ∀ x ∈ p.2.pins, x = none) ∧ clocked t = false ∧ getF t F.SYS_CLK_STAT_REF_OK = 0)

/-- STARTUP_SELF_TEST with the clocks running, in IDLE and in FAULT_N's start-up hold begins the test, and sets MAP_BAD
where no copy of the map is valid; its end returns to IDLE, sets STARTUP_DONE, ends that hold and dates every
region's last test.  BST_MARK of a save/restore region that is not marked marks it in the map in use and in the map
to be stored, sets MARKED and resets its master; of a geometry unit marks it; of a seated tile loses it; of a region
marked already, or of none, it changes nothing but the journal.  BST_CLEAR_MAP with no Pattern asks for an empty map
in NVM, and while a Pattern runs is ignored with WRITE_IGNORED; FAULT_MAP_WRITE_DONE writes the other copy with the
next generation and shows the map stored.  A QUENCH_SLICE_START that may start on a save/restore region of a cool
die holds its master; a first run that matches goes on to restoring; SR_SLICE_END without an error in the save RAM
then frees the master, in IDLE. -/
def Obligations.StartupTestAndFaultMap : Prop :=
  (∀ (s : State),
      s.pwr.pll = true ∧ s.err.startupHold = true ∧ getF s F.BST_STATE_STATE = 0 →
      ∃ t, exec .startupSelfTest s = .next t ∧ getF t F.BST_STATE_STATE = 1 ∧
      (mapInForce s = none → stBit t F.BST_STAT_MAP_BAD = 1) ∧ SameMem s t) ∧
  (∀ (runs : List (Nat × Nat × Nat)) (s : State),
      getF s F.BST_STATE_STATE = 1 →
      ∃ t, exec (.startupSelfTestDone runs) s = .next t ∧ getF t F.BST_STATE_STATE = 0 ∧ t.err.startupHold = false ∧
      stBit t F.BST_STAT_STARTUP_DONE = 1 ∧ (∀ r : Fin 26, lastTestOf t r.val = blk s) ∧ SameMem s t) ∧
  (∀ (via : Src) (r : Fin 32) (s : State),
      20 ≤ r.val ∧ r.val < 26 →
      bit (getF s F.BST_MAP_MAP) r.val = false →
      ∃ t, exec (.bstMark via r) s = .next t ∧ bit (getF t F.BST_MAP_MAP) r.val = true ∧ stBit t F.BST_STAT_MARKED = 1 ∧
      t.bst.mapWrite = some ((s.bst.mapWrite.getD (getF s F.BST_NVMAP_MAP)) ||| 2 ^ r.val) ∧
      rdN t R.MTX_ABORT_CNT = min (rdN s R.MTX_ABORT_CNT + 1) 0xFFFFFFFF ∧ SameMem s t) ∧
  (∀ (via : Src) (r : Fin 32) (s : State),
      17 ≤ r.val ∧ r.val < 20 →
      bit (getF s F.BST_MAP_MAP) r.val = false →
      ∃ t, exec (.bstMark via r) s = .next t ∧ bit (getF t F.BST_MAP_MAP) r.val = true ∧ stBit t F.BST_STAT_MARKED = 1 ∧ SameMem s t) ∧
  (∀ (via : Src) (r : Fin 32) (s : State) (q : Nat),
      r.val < 17 ∧ tileSeat s r.val = some q ∧ (tileRun s r.val).lost = false →
      bit (getF s F.BST_MAP_MAP) r.val = false →
      ∃ t, exec (.bstMark via r) s = .next t ∧ (tileRun t r.val).lost = true) ∧
  (∀ (via : Src) (r : Fin 32) (s : State),
      (26 ≤ r.val ∨ bit (getF s F.BST_MAP_MAP) r.val = true) →
      ∃ t, exec (.bstMark via r) s = .next t ∧ Frame jnlRegs s t { s with regs := t.regs, jnl := t.jnl }) ∧
  (∀ (via : Src) (s : State),
      running s = false →
      ∃ t, exec (.bstClearMap via) s = .next t ∧ t.bst = { s.bst with mapWrite := some 0 } ∧
      Frame jnlRegs s t { s with regs := t.regs, jnl := t.jnl, bst := t.bst }) ∧
  (∀ (via : Src) (s : State),
      running s = true →
      ∃ t, exec (.bstClearMap via) s = .next t ∧ (s.err.current = none → t.err.current.map (fun e => e.err) = some .errWriteIgnored) ∧
      Frame logRegs s t { s with regs := t.regs, jnl := t.jnl, err := t.err }) ∧
  (∀ (s : State) (m : Nat),
      s.bst.mapWrite = some m ∧ m < 2 ^ 26 →
      ∃ t, exec .faultMapWriteDone s = .next t ∧ rdN t R.BST_NVMAP = m ∧ t.bst.mapGen = (s.bst.mapGen + 1) % 2 ^ 32 ∧
      t.bst.mapB = !s.bst.mapB ∧ t.bst.mapWrite = none ∧
      rdBytes t (nvmBase + (if s.bst.mapB then 0x4000 else 0x5000)) 12 =
        leBytes 4 0x50464D46 ++ leBytes 4 ((s.bst.mapGen + 1) % 2 ^ 32) ++ leBytes 4 m ∧
      KeptBut [R.BST_NVMAP] s t) ∧
  (∀ (busy : List (Fin 4)) (s : State) (r : Nat),
      sliceMay s = true ∧ pickRegion s (busy.map (fun p => p.val)) = some r ∧ coolEnough s = true ∧ 20 ≤ r →
      ∃ t, exec (.quenchSliceStart busy) s = .next t ∧ t.bst.slice = some (r, blk s) ∧ t.bst.held = [r - 16] ∧ getF t F.BST_STATE_STATE = 5 ∧
      SameMem s t) ∧
  (∀ (misr : BitVec 64) (s : State) (r since : Nat),
      s.bst.slice = some (r, since) ∧ s.bst.retest = false ∧ 20 ≤ r ∧ r < 26 ∧ getF s F.BST_STATE_STATE = 5 →
      misrOk r misr.toNat = true →
      ∃ t, exec (.sliceTestRunEnd misr) s = .next t ∧ getF t F.BST_STATE_STATE = 6 ∧ t.bst = s.bst ∧ SameMem s t) ∧
  (∀ (s : State) (r since : Nat),
      s.bst.slice = some (r, since) ∧ 20 ≤ r ∧ r < 26 ∧ getF s F.BST_STATE_STATE = 6 →
      ∃ t, exec (.srSliceEnd false) s = .next t ∧ getF t F.BST_STATE_STATE = 0 ∧ t.bst.slice = none ∧ t.bst.held = [] ∧ SameMem s t)

/-- QUENCH_SLICE_START with every condition of R423 met and the die too warm counts in BST_HOT_CNT; cool, it starts the
slice of the region whose test is oldest: a tile begins a test handover to the spare 34 blocks on, a geometry unit
gives its share to the spare unit and is under test, a save/restore region enters state 5 and holds its master's
requests.  SLICE_TEST_RUN_END of the first run of a save/restore region shows the MISR and goes to restoring, or to
a second run where it differs; the first run of a tile or a geometry unit that matches ends the slice, counted, with
the region as the spare, and one that differs begins a second run; a second run that matches is counted as transient
and ends the slice, of a save/restore region by restoring; one that differs again ends the slice with the region
marked in the map and counted as failed.  SR_SLICE_END returns to IDLE, counts the slice and frees the master, and
with an error in the save RAM marks the region. -/
def Obligations.QuenchSliceRuns : Prop :=
  (∀ (busy : List (Fin 4)) (s : State) (r : Nat),
      sliceMay s = true ∧ pickRegion s (busy.map (fun p => p.val)) = some r →
      coolEnough s = false →
      ∃ t, exec (.quenchSliceStart busy) s = .next t ∧ rdN t R.BST_HOT_CNT = min (rdN s R.BST_HOT_CNT + 1) 0xFFFFFFFF ∧
      Frame [R.BST_HOT_CNT] s t { s with regs := t.regs }) ∧
  (∀ (busy : List (Fin 4)) (s : State) (r : Nat),
      sliceMay s = true ∧ pickRegion s (busy.map (fun p => p.val)) = some r →
      coolEnough s = true ∧ 20 ≤ r →
      ∃ t, exec (.quenchSliceStart busy) s = .next t ∧ getF t F.BST_STATE_STATE = 5 ∧ getF t F.BST_STATE_REGION = r ∧
      t.bst.slice = some (r, blk s) ∧ t.bst.held = [regionMaster r] ∧ Frame [R.BST_STATE] s t { s with regs := t.regs, bst := t.bst }) ∧
  (∀ (busy : List (Fin 4)) (s : State) (r : Nat),
      sliceMay s = true ∧ pickRegion s (busy.map (fun p => p.val)) = some r →
      coolEnough s = true ∧ 17 ≤ r ∧ r < 20 →
      ∃ t, exec (.quenchSliceStart busy) s = .next t ∧ getF t F.BST_STATE_STATE = 3 ∧ getF t F.BST_STATE_REGION = r ∧
      t.bst.slice = some (r, blk s) ∧ getF t F.GEO_UNITS_SPARE_PRESENT = 0 ∧
      Frame [R.BST_STATE, R.GEO_UNITS] s t { s with regs := t.regs, bst := t.bst }) ∧
  (∀ (busy : List (Fin 4)) (s : State) (r q : Nat),
      sliceMay s = true ∧ pickRegion s (busy.map (fun p => p.val)) = some r →
      coolEnough s = true ∧ r < 17 ∧ sliceSeat s r = some q →
      ∃ t, exec (.quenchSliceStart busy) s = .next t ∧ getF t F.BST_STATE_STATE = 2 ∧ getF t F.BST_STATE_REGION = r ∧
      t.seq.ho = some { seat := q, src := r, dst := getF s F.SEQ_SPARE_SPARE, at_ := blk s + 34, cmd := blk s, test := true, loss := false, swept := false, struck := false } ∧
      t.bst.slice = none ∧ SameMem s t) ∧
  (∀ (misr : BitVec 64) (s : State) (r since : Nat),
      s.bst.slice = some (r, since) ∧ s.bst.retest = false →
      20 ≤ r ∧ r < 26 ∧ getF s F.BST_STATE_STATE = 5 →
      ∃ t, exec (.sliceTestRunEnd misr) s = .next t ∧ getF t F.BST_STATE_STATE = (if misrOk r misr.toNat then 6 else 4) ∧
      getF t F.BST_STATE_REGION = r ∧ rd64 t R.BST_SIG_LO R.BST_SIG_HI = misr.toNat ∧ t.bst.held = s.bst.held ∧ SameMem s t) ∧
  (∀ (misr : BitVec 64) (s : State) (r since : Nat),
      s.bst.slice = some (r, since) ∧ r < 20 ∧ s.bst.retest = false →
      due s (since + runBlocks s r) = true ∧ getF s F.BST_STATE_STATE = 3 →
      ∃ t, exec (.sliceTestRunEnd misr) s = .next t ∧ rd64 t R.BST_SIG_LO R.BST_SIG_HI = misr.toNat ∧ SameMem s t ∧
      if misrOk r misr.toNat then
        getF t F.BST_STATE_STATE = 0 ∧ t.bst.slice = none ∧
        rdN t R.BST_SLICE_CNT = min (rdN s R.BST_SLICE_CNT + 1) 0xFFFFFFFF ∧ stBit t F.BST_STAT_SLICE_DONE = 1 ∧
        if r < 17 then tileState t r = 2 ∧ getF t F.SEQ_SPARE_PRESENT = 1 ∧ getF t F.SEQ_SPARE_SPARE = r
        else getF t F.GEO_UNITS_SPARE_PRESENT = 1 ∧ getF t F.GEO_UNITS_SPARE = r - 17
      else getF t F.BST_STATE_STATE = 4 ∧ t.bst.slice = some (r, since + runBlocks s r) ∧ t.bst.retest = true) ∧
  (∀ (misr : BitVec 64) (s : State) (r since : Nat),
      s.bst.slice = some (r, since) ∧ s.bst.retest = true ∧ r < 26 →
      due s (if r < 20 then since + runBlocks s r else dueBlk s) = true →
      getF s F.BST_STATE_STATE = 4 →
      ∃ t, exec (.sliceTestRunEnd misr) s = .next t ∧ SameMem s t ∧
      if misrOk r misr.toNat then
        rdN t R.BST_TRANS_CNT = min (rdN s R.BST_TRANS_CNT + 1) 0xFFFFFFFF ∧ getF t F.BST_STATE_STATE = (if r < 20 then 0 else 6)
      else
        getF t F.BST_STATE_STATE = 0 ∧ t.bst.slice = none ∧ t.bst.held = [] ∧
        bit (getF t F.BST_MAP_MAP) r = true ∧ stBit t F.BST_STAT_MARKED = 1 ∧
        rdN t R.BST_FAIL_CNT = min (rdN s R.BST_FAIL_CNT + 1) 0xFFFFFFFF) ∧
  (∀ (bad : Bool) (s : State) (r since : Nat),
      s.bst.slice = some (r, since) ∧ 20 ≤ r ∧ r < 26 →
      getF s F.BST_STATE_STATE = 6 →
      ∃ t, exec (.srSliceEnd bad) s = .next t ∧ getF t F.BST_STATE_STATE = 0 ∧ t.bst.slice = none ∧ t.bst.held = [] ∧
      rdN t R.BST_SLICE_CNT = min (rdN s R.BST_SLICE_CNT + 1) 0xFFFFFFFF ∧ stBit t F.BST_STAT_SLICE_DONE = 1 ∧
      (bad = true → bit (getF t F.BST_MAP_MAP) r = true) ∧
      (bad = false → Frame [R.BST_STATE, R.BST_SLICE_CNT, R.BST_STAT] s t { s with regs := t.regs, bst := t.bst }) ∧ SameMem s t)

/-- PDM_SYNC, or a rising edge at MICSYNC, an enabled input, that stays high four media-clock cycles, asks for a reset
two blocks on, unless one is pending, which stays; an edge too short is counted.  DECIMATOR_RESET when a reset is
due records its MSI and sets SYNC_DONE, for all microphones; with none due it resets those that have resumed, at the
coming strobe.  MIC_IDLE of an enabled microphone shows it idle and raises PDM_MIC_IDLE; MIC_RESUME ends it and asks
for its reset, which a pending reset of all takes in. -/
def Obligations.MicrophonesResetAndIdle : Prop :=
  (∀ (via : Src) (s : State),
      ∃ t, exec (.pdmSync via) s = .next t ∧ t.pdm.resets = (if s.pdm.resets = [] then [blk s + 2] else s.pdm.resets) ∧
      Frame jnlRegs s t { s with regs := t.regs, jnl := t.jnl, pdm := { s.pdm with resets := t.pdm.resets } }) ∧
  (∀ (highCycles : BitVec 32) (s : State),
      getF s F.PDM_CFG_SYNC_DIR = 0 ∧ getF s F.PDM_CFG_SYNC_IN_EN = 1 →
      4 ≤ highCycles.toNat →
      ∃ t, exec (.micsyncEdge highCycles) s = .next t ∧ t.pdm.resets = (if s.pdm.resets = [] then [blk s + 2] else s.pdm.resets) ∧
      Frame [] s t { s with pdm := { s.pdm with resets := t.pdm.resets } }) ∧
  (∀ (highCycles : BitVec 32) (s : State),
      getF s F.PDM_CFG_SYNC_DIR = 0 ∧ getF s F.PDM_CFG_SYNC_IN_EN = 1 →
      highCycles.toNat < 4 →
      ∃ t, exec (.micsyncEdge highCycles) s = .next t ∧ t.pdm = s.pdm ∧
      rdN t R.PDM_SYNC_REJ_CNT = min (rdN s R.PDM_SYNC_REJ_CNT + 1) 0xFFFFFFFF ∧
      Frame [R.PDM_SYNC_REJ_CNT] s t { s with regs := t.regs }) ∧
  (∀ (s : State) (r : Nat),
      s.pdm.resets.find? (fun k => due s k) = some r →
      16 * r < 2 ^ 64 →
      ∃ t, exec .decimatorReset s = .next t ∧ rd64 t R.PDM_SYNC_LO R.PDM_SYNC_HI = 16 * r ∧ stBit t F.PDM_STAT_SYNC_DONE = 1 ∧
      t.pdm.resets = [] ∧ Frame [R.PDM_SYNC_LO, R.PDM_SYNC_HI, R.PDM_STAT, R.CAP_STAT] s t { s with regs := t.regs, pdm := t.pdm }) ∧
  (∀ (s : State) (m : Nat) (ms : List Nat),
      s.pdm.resets.find? (fun k => due s k) = none ∧ s.pdm.mics = m :: ms →
      16 * dueBlk s < 2 ^ 64 →
      ∃ t, exec .decimatorReset s = .next t ∧ rd64 t R.PDM_SYNC_LO R.PDM_SYNC_HI = 16 * dueBlk s ∧
      stBit t F.PDM_STAT_SYNC_DONE = 1 ∧ t.pdm.mics = [] ∧ t.pdm.resets = s.pdm.resets ∧
      Frame [R.PDM_SYNC_LO, R.PDM_SYNC_HI, R.PDM_STAT, R.CAP_STAT] s t { s with regs := t.regs, pdm := t.pdm }) ∧
  (∀ (m : Fin 32) (s : State),
      micOn s m.val = true ∧ micIdle s m.val = false →
      ∃ t, exec (.micIdle m) s = .next t ∧ micIdle t m.val = true ∧ stBit t F.PDM_STAT_IDLE = 1 ∧
      micIdleSpan t m.val = some (s.time.frames, none) ∧ (∀ x, x ≠ m.val → micIdleSpan t x = micIdleSpan s x) ∧
      Frame ([R.PDM_IDLE, R.PDM_STAT] ++ errRegs) s t { s with regs := t.regs, err := t.err, jnl := t.jnl, pdm := { s.pdm with idle := t.pdm.idle } }) ∧
  (∀ (m : Fin 32) (s : State),
      micIdle s m.val = true →
      ∃ t, exec (.micResume m) s = .next t ∧ micIdle t m.val = false ∧ t.pdm.mics = (if s.pdm.resets = [] then s.pdm.mics ++ [m.val] else s.pdm.mics) ∧
      Frame [R.PDM_IDLE] s t { s with regs := t.regs, pdm := { s.pdm with mics := t.pdm.mics, idle := t.pdm.idle } })

/-- On a lone unit: CAP_START in time and in range with no capture arms it with the registers of that moment; with one
armed or running it is refused with reason 1, late with 2, out of range with 3, and the capture stays as it was.
CAP_STOP in time names the capture's end, and late is refused with reason 2; CAP_CANCEL in time of an armed capture
returns to IDLE, and of any other is refused with reason 4.  CAP_RUN_START of an accepted capture at the strobe
after its block starts it and sets STARTED; CAP_END with no frame left shows DONE. -/
def Obligations.CaptureCommandsAndRun : Prop :=
  (∀ (via : Src) (s : State),
      isPair s = false ∧ s.cap = none →
      ((getF s F.CAP_STATE_STATE = 0 ∨ getF s F.CAP_STATE_STATE = 3) ∧ isLate s (16 * capBlock s) = false ∧ capRangeOk s = true) →
      ∃ t, exec (.capStart via) s = .next t ∧ t.cap = some (capOpen via (capBlock s) true (capVals s)) ∧ getF t F.CAP_STATE_STATE = 1 ∧
      getF t F.CAP_STATE_CMD = 1 ∧ getF t F.CAP_STATE_REASON = 0 ∧ rdN t R.CAP_POS = 0 ∧
      Frame ([R.CAP_STATE, R.CAP_POS] ++ jnlRegs) s t { s with regs := t.regs, jnl := t.jnl, cap := t.cap }) ∧
  (∀ (via : Src) (s : State),
      isPair s = false →
      (getF s F.CAP_STATE_STATE = 1 ∨ getF s F.CAP_STATE_STATE = 2) →
      ∃ t, exec (.capStart via) s = .next t ∧ getF t F.CAP_STATE_REASON = 1 ∧ getF t F.CAP_STATE_STATE = getF s F.CAP_STATE_STATE ∧
      Frame ([R.CAP_STATE, R.CAP_STAT] ++ logRegs) s t { s with regs := t.regs, jnl := t.jnl, err := t.err }) ∧
  (∀ (via : Src) (s : State),
      isPair s = false ∧ s.cap = none →
      (getF s F.CAP_STATE_STATE = 0 ∨ getF s F.CAP_STATE_STATE = 3) →
      (isLate s (16 * capBlock s) = true ∨ capRangeOk s = false) →
      ∃ t, exec (.capStart via) s = .next t ∧ getF t F.CAP_STATE_REASON = (if isLate s (16 * capBlock s) then 2 else 3) ∧
      getF t F.CAP_STATE_STATE = getF s F.CAP_STATE_STATE ∧
      Frame ([R.CAP_STATE, R.CAP_STAT] ++ logRegs) s t { s with regs := t.regs, jnl := t.jnl, err := t.err }) ∧
  (∀ (via : Src) (s : State) (c : CapRun),
      isPair s = false ∧ s.cap = some c →
      isLate s (16 * capBlock s) = false →
      ∃ t, exec (.capStop via) s = .next t ∧
      t.cap = some { c with stop := some (min (c.stop.getD (capBlock s)) (capBlock s)) } ∧ getF t F.CAP_STATE_CMD = 2 ∧
      getF t F.CAP_STATE_REASON = 0 ∧ Frame (R.CAP_STATE :: jnlRegs) s t { s with regs := t.regs, jnl := t.jnl, cap := t.cap }) ∧
  (∀ (via : Src) (s : State),
      isPair s = false →
      isLate s (16 * capBlock s) = true →
      ∃ t, exec (.capStop via) s = .next t ∧ getF t F.CAP_STATE_CMD = 2 ∧ getF t F.CAP_STATE_REASON = 2 ∧
      Frame ([R.CAP_STATE, R.CAP_STAT] ++ logRegs) s t { s with regs := t.regs, jnl := t.jnl, err := t.err }) ∧
  (∀ (via : Src) (s : State) (c : CapRun),
      isPair s = false ∧ s.cap = some c →
      getF s F.CAP_STATE_STATE = 1 ∧ inTime s c.k = true →
      ∃ t, exec (.capCancel via) s = .next t ∧ t.cap = none ∧ getF t F.CAP_STATE_STATE = 0 ∧
      Frame (R.CAP_STATE :: jnlRegs) s t { s with regs := t.regs, jnl := t.jnl, cap := t.cap }) ∧
  (∀ (via : Src) (s : State),
      isPair s = false →
      (getF s F.CAP_STATE_STATE ≠ 1 ∨ s.cap.all (fun c => !inTime s c.k) = true) →
      ∃ t, exec (.capCancel via) s = .next t ∧ getF t F.CAP_STATE_CMD = 3 ∧ getF t F.CAP_STATE_REASON = 4 ∧
      Frame ([R.CAP_STATE, R.CAP_STAT] ++ logRegs) s t { s with regs := t.regs, jnl := t.jnl, err := t.err }) ∧
  (∀ (s : State) (c : CapRun),
      s.cap = some c ∧ c.decided = true →
      getF s F.CAP_STATE_STATE = 1 ∧ due s (c.k + 1) = true →
      ∃ t, exec .capRunStart s = .next t ∧ t.cap = some c ∧ getF t F.CAP_STATE_STATE = 2 ∧ stBit t F.CAP_STAT_STARTED = 1 ∧ SameMem s t) ∧
  (∀ (s : State) (c : CapRun),
      s.cap = some c →
      getF s F.CAP_STATE_STATE = 2 ∧ capOver s c = true →
      ∃ t, exec .capEnd s = .next t ∧ t.cap = none ∧ getF t F.CAP_STATE_STATE = 3 ∧ stBit t F.CAP_STAT_DONE = 1 ∧ SameMem s t)

/-- SEQ_HANDOVER_GO of an occupied seat, at least 34 blocks ahead, with no handover under way and a spare present,
starts the handover: the spare is LOADING, the handover shows LOADING and names seat, source and destination; too
near it is refused with reason 1, with a handover under way with reason 2, of an empty seat or without a spare with
reason 3, and a refusal changes nothing but the reason and the journal. HANDOVER_SWEEP in the block before the
switch copies the seat's persistent region from the outgoing tile to the receiving one and changes no other byte of
memory; the receiving tile and the handover show SWEEP. HANDOVER_SWITCH at its block copies that region as it then
stands, makes the receiving tile the seat's and, with the primary tables, shows it in SEQ_SEAT, and ends the
handover with DONE, and with HO_DONE at once where its strobe has passed or the tile is lost, else once that strobe
has found nothing that strikes it, which would abort it with reason 4: the outgoing tile is the spare in a commanded
handover, under test in a test handover, and marked unusable with no spare left in the handover of a lost tile. A
handover that is not a lost tile's and whose tiles were struck aborts at its switch instead: the receiving tile
stays the spare, the handover shows ABORTED with reason 4, and the seat keeps its tile. -/
def Obligations.HandoverMovesSeat : Prop :=
  (∀ (via : Src) (q : Fin 16) (s : State) (t0 : Fin 17),
      seatTileOf s (fbSeats s) q.val = some t0.val →
      blk s + 34 ≤ ceil16 (rd64 s R.SEQ_HO_MSI_LO R.SEQ_HO_MSI_HI) →
      s.seq.ho = none ∧ getF s F.SEQ_SPARE_PRESENT = 1 →
      ∃ t, exec (.seqHandoverGo via q) s = .next t ∧
      t.seq.ho = some { seat := q.val, src := t0.val, dst := getF s F.SEQ_SPARE_SPARE, at_ := ceil16 (rd64 s R.SEQ_HO_MSI_LO R.SEQ_HO_MSI_HI), cmd := blk s, test := false, loss := false, swept := false, struck := false } ∧
      tileState t (getF s F.SEQ_SPARE_SPARE) = 3 ∧ getF t F.SEQ_HO_STAT_STATE = 1 ∧ getF t F.SEQ_HO_STAT_SEAT = q.val ∧
      getF t F.SEQ_HO_STAT_FROM = t0.val ∧ getF t F.SEQ_HO_STAT_TO = getF s F.SEQ_SPARE_SPARE ∧ getF t F.SEQ_HO_STAT_REASON = 0 ∧
      Frame ([R.SEQ_HO_STAT, R.SEQ_TSTAT (getF s F.SEQ_SPARE_SPARE)] ++ jnlRegs) s t { s with regs := t.regs, jnl := t.jnl, seq := { s.seq with ho := t.seq.ho } }) ∧
  (∀ (via : Src) (q : Fin 16) (s : State) (t0 : Fin 17),
      seatTileOf s (fbSeats s) q.val = some t0.val →
      ceil16 (rd64 s R.SEQ_HO_MSI_LO R.SEQ_HO_MSI_HI) < blk s + 34 →
      ∃ t, exec (.seqHandoverGo via q) s = .next t ∧ t.seq = s.seq ∧ getF t F.SEQ_HO_STAT_REASON = 1 ∧
      getF t F.SEQ_HO_STAT_STATE = getF s F.SEQ_HO_STAT_STATE ∧
      Frame (R.SEQ_HO_STAT :: jnlRegs) s t { s with regs := t.regs, jnl := t.jnl }) ∧
  (∀ (via : Src) (q : Fin 16) (s : State) (t0 : Fin 17),
      seatTileOf s (fbSeats s) q.val = some t0.val →
      blk s + 34 ≤ ceil16 (rd64 s R.SEQ_HO_MSI_LO R.SEQ_HO_MSI_HI) →
      s.seq.ho ≠ none →
      ∃ t, exec (.seqHandoverGo via q) s = .next t ∧ t.seq = s.seq ∧ getF t F.SEQ_HO_STAT_REASON = 2 ∧
      getF t F.SEQ_HO_STAT_STATE = getF s F.SEQ_HO_STAT_STATE ∧
      Frame (R.SEQ_HO_STAT :: jnlRegs) s t { s with regs := t.regs, jnl := t.jnl }) ∧
  (∀ (via : Src) (q : Fin 16) (s : State),
      (seatTileOf s (fbSeats s) q.val = none ∨ (blk s + 34 ≤ ceil16 (rd64 s R.SEQ_HO_MSI_LO R.SEQ_HO_MSI_HI) ∧ s.seq.ho = none ∧ getF s F.SEQ_SPARE_PRESENT = 0)) →
      ∃ t, exec (.seqHandoverGo via q) s = .next t ∧ t.seq = s.seq ∧ getF t F.SEQ_HO_STAT_REASON = 3 ∧
      getF t F.SEQ_HO_STAT_STATE = getF s F.SEQ_HO_STAT_STATE ∧
      Frame (R.SEQ_HO_STAT :: jnlRegs) s t { s with regs := t.regs, jnl := t.jnl }) ∧
  (∀ (s : State) (h : Handover),
      s.seq.ho = some h ∧ h.at_ ≤ blk s + 1 ∧ h.swept = false →
      h.src < 17 ∧ h.dst < 17 ∧ h.src ≠ h.dst →
      (hoTable s h.seat).persistBase + (hoTable s h.seat).persistLen ≤ 0x80000 →
      ∃ t, exec .handoverSweep s = .next t ∧ t.seq.ho = some { h with swept := true } ∧ tileState t h.dst = 4 ∧
      getF t F.SEQ_HO_STAT_STATE = 2 ∧
      (∀ b, b < 16 * (hoTable s h.seat).persistLen →
        rdByte t (tileBase h.dst + 16 * (hoTable s h.seat).persistBase + b) =
          rdByte s (tileBase h.src + 16 * (hoTable s h.seat).persistBase + b)) ∧
      (∀ a, (a < tileBase h.dst + 16 * (hoTable s h.seat).persistBase ∨
          tileBase h.dst + 16 * ((hoTable s h.seat).persistBase + (hoTable s h.seat).persistLen) ≤ a) → rdByte t a = rdByte s a) ∧
      t = { s with regs := t.regs, mem := t.mem, seq := { s.seq with ho := t.seq.ho } } ∧
      KeptBut [R.SEQ_HO_STAT, R.SEQ_TSTAT h.dst] s t) ∧
  (∀ (s : State) (h : Handover),
      (s.seq.ho = some h ∧ due s h.at_ = true ∧ (h.struck = false ∨ h.loss = true)) →
      h.src < 17 ∧ h.dst < 17 ∧ h.src ≠ h.dst ∧ h.seat < 16 →
      (hoTable s h.seat).persistBase + (hoTable s h.seat).persistLen ≤ 0x80000 →
      ∃ t, exec .handoverSwitch s = .next t ∧ t.seq.ho = none ∧ tileSeat t h.dst = some h.seat ∧
      (fbSeats s = false → getF t (F.SEQ_SEAT_TILE h.seat) = h.dst ∧ getF t (F.SEQ_SEAT_VALID h.seat) = 1) ∧
      getF t F.SEQ_HO_STAT_STATE = 3 ∧
      (h.loss = true ∨ h.at_ ≤ blk s → stBit t F.SEQ_STAT_HO_DONE = 1) ∧
      (h.loss = false ∧ blk s < h.at_ → t.seq.hoUndo = some (hoMark h s)) ∧
      (∀ b, b < 16 * (hoTable s h.seat).persistLen →
        rdByte t (tileBase h.dst + 16 * (hoTable s h.seat).persistBase + b) =
          rdByte s (tileBase h.src + 16 * (hoTable s h.seat).persistBase + b)) ∧
      (∀ a, (a < tileBase h.dst + 16 * (hoTable s h.seat).persistBase ∨
          tileBase h.dst + 16 * ((hoTable s h.seat).persistBase + (hoTable s h.seat).persistLen) ≤ a) → rdByte t a = rdByte s a)) ∧
  (∀ (s : State) (u : HoUndo),
      (u.h.struck = false → stBit (hoSettle u s) F.SEQ_STAT_HO_DONE = 1) ∧
      (u.h.struck = true → getF (hoSettle u s) F.SEQ_HO_STAT_STATE = 4 ∧ getF (hoSettle u s) F.SEQ_HO_STAT_REASON = 4 ∧ (hoSettle u s).seq.ho = none)) ∧
  (∀ (s : State) (h : Handover),
      s.seq.ho = some h ∧ due s h.at_ = true ∧ h.loss = false ∧ h.test = false ∧ h.struck = false →
      h.src < 17 ∧ h.dst < 17 ∧ h.src ≠ h.dst →
      ∃ t, exec .handoverSwitch s = .next t ∧ tileState t h.src = 2 ∧ getF t F.SEQ_SPARE_SPARE = h.src ∧
      getF t F.SEQ_SPARE_PRESENT = 1) ∧
  (∀ (s : State) (h : Handover),
      s.seq.ho = some h ∧ due s h.at_ = true ∧ h.loss = false ∧ h.test = true ∧ h.struck = false →
      h.src < 17 ∧ h.dst < 17 ∧ h.src ≠ h.dst →
      ∃ t, exec .handoverSwitch s = .next t ∧ tileState t h.src = 5 ∧ getF t F.SEQ_SPARE_PRESENT = 0 ∧
      t.bst.slice = some (h.src, h.at_) ∧ getF t F.BST_STATE_STATE = 3) ∧
  (∀ (s : State) (h : Handover),
      s.seq.ho = some h ∧ due s h.at_ = true ∧ h.loss = true →
      h.src < 17 ∧ h.dst < 17 ∧ h.src ≠ h.dst →
      ∃ t, exec .handoverSwitch s = .next t ∧ tileState t h.src = 6 ∧ bit (getF t F.BST_MAP_MAP) h.src = true ∧
      getF t F.SEQ_SPARE_PRESENT = 0) ∧
  (∀ (s : State) (h : Handover),
      s.seq.ho = some h ∧ due s h.at_ = true ∧ h.loss = false ∧ h.struck = true →
      h.src < 17 ∧ h.dst < 17 ∧ h.src ≠ h.dst ∧ tileUsable s h.dst = true →
      ∃ t, exec .handoverSwitch s = .next t ∧ t.seq.ho = none ∧ tileState t h.dst = 2 ∧ getF t F.SEQ_HO_STAT_STATE = 4 ∧
      getF t F.SEQ_HO_STAT_REASON = 4 ∧ (∀ q : Fin 16, rd t (R.SEQ_SEAT q.val) = rd s (R.SEQ_SEAT q.val)) ∧ SameMem s t)

/-- TILE_OVERRUN of a seated tile of a running Pattern counts, shows MAX_END 0xFFFFF, sets OVR and counts the block as
bad; where every partial sum had been written no byte of memory changes. TILE_FAIL at OVR_LIMIT bad blocks with the
primary tables loses the tile: with a usable spare its seat is handed over at the 18th block on, and without a spare
the fallback tables come at the 17th block on and the map marks the tile. FALLBACK_SWITCH at its block ends a
handover under way, shows LIVE 2 (a Pattern that is stopping keeps showing that) and sets FALLBACK. SHED_APPLY
yields where the Pattern says so and the standby is READY, and else empties the lost fallback seats, shows LIVE 3
and sets SHED. GEO_UNIT_FAIL at OVR_LIMIT misses of a working unit marks it and gives its share to the spare unit. -/
def Obligations.TileLossesAndFallback : Prop :=
  (∀ (t0 : Fin 17) (un : List Nat) (claims : Nat) (s : State) (q : Nat),
      running s = true ∧ tileSeat s t0.val = some q →
      ∃ t, exec (.tileOverrun t0 un claims) s = .next t ∧ rdN t R.SEQ_OVR_CNT = min (rdN s R.SEQ_OVR_CNT + 1) 0xFFFFFFFF ∧
      getF t (F.SEQ_TMAX_MAX_END t0.val) = 0xFFFFF ∧ stBit t F.SEQ_STAT_OVR = 1 ∧ (tileRun t t0.val).overrun = true ∧
      (tileRun t t0.val).bad = (tileRun s t0.val).bad + 1 ∧ (un = [] → SameMem s t)) ∧
  (∀ (t0 : Fin 17) (s : State) (q : Nat),
      running s = true ∧ tileSeat s t0.val = some q ∧ fbSeats s = false →
      (tileRun s t0.val).lost = false ∧ getF s F.SEQ_CFG_OVR_LIMIT ≤ (tileRun s t0.val).bad →
      getF s F.SEQ_SPARE_PRESENT = 1 ∧ tileUsable s (getF s F.SEQ_SPARE_SPARE) = true ∧ s.bst.slice.all (fun x => decide (17 ≤ x.1)) = true →
      ∃ t, exec (.tileFail t0) s = .next t ∧ stBit t F.SEQ_STAT_TILE_FAIL = 1 ∧ (tileRun t t0.val).lost = true ∧
      t.seq.ho = some { seat := q, src := t0.val, dst := getF s F.SEQ_SPARE_SPARE, at_ := blk s + 18, cmd := blk s, test := false, loss := true, swept := false, struck := false } ∧ SameMem s t) ∧
  (∀ (t0 : Fin 17) (s : State) (q : Nat),
      running s = true ∧ tileSeat s t0.val = some q ∧ fbSeats s = false →
      (tileRun s t0.val).lost = false ∧ getF s F.SEQ_CFG_OVR_LIMIT ≤ (tileRun s t0.val).bad →
      getF s F.SEQ_SPARE_PRESENT = 0 ∧ s.bst.slice.all (fun x => decide (17 ≤ x.1)) = true →
      ∃ t, exec (.tileFail t0) s = .next t ∧ stBit t F.SEQ_STAT_TILE_FAIL = 1 ∧ (tileRun t t0.val).lost = true ∧
      t.seq.fallbackAt = some (blk s + 17) ∧ bit (getF t F.BST_MAP_MAP) t0.val = true) ∧
  (∀ (s : State) (f : Nat),
      s.seq.fallbackAt = some f ∧ due s f = true →
      ∃ t, exec .fallbackSwitch s = .next t ∧ getF t F.PAT_STATE_LIVE = (if getF s F.PAT_STATE_LIVE = 4 then 4 else 2) ∧
      stBit t F.PAT_STAT_FALLBACK = 1 ∧ t.seq.fallbackAt = none ∧ t.seq.ho = none) ∧
  (∀ (s : State) (q : Nat) (qs : List Nat),
      s.seq.shedSeats = q :: qs →
      ((livePat s).shedYield && standbyReady s) = false →
      ∃ t, exec .shedApply s = .next t ∧ getF t F.PAT_STATE_LIVE = 3 ∧ stBit t F.PAT_STAT_SHED = 1 ∧
      (∀ p, p ∈ q :: qs → p < 15 → rdN t (R.SEQ_FSEAT p) = 0) ∧ t.seq.shedSeats = [] ∧ SameMem s t) ∧
  (∀ (s : State) (q : Nat) (qs : List Nat),
      s.seq.shedSeats = q :: qs →
      (livePat s).shedYield = true ∧ standbyReady s = true →
      ∃ t, exec .shedApply s = .next t ∧ t = { s with seq := { s.seq with shedSeats := [] }, clm := { s.clm with yieldAt := some (blk s) } }) ∧
  (∀ (u : Fin 3) (s : State),
      running s = true ∧ getL s F.GEO_CFG_OVR_LIMIT ≤ aGet (fun _ => 0) s.geo.misses u.val →
      ((getF s F.GEO_UNITS_WA = u.val ∨ getF s F.GEO_UNITS_WB = u.val) ∧ getF s F.GEO_UNITS_SPARE_PRESENT = 1) →
      (s.bst.slice.all (fun x => decide (x.1 < 17 ∨ 20 ≤ x.1)) = true ∧ bit (getF s F.BST_MAP_MAP) (17 + u.val) = false) →
      ∃ t, exec (.geoUnitFail u) s = .next t ∧ stBit t F.GEO_STAT_UNIT_FAIL = 1 ∧
      bit (getF t F.BST_MAP_MAP) (17 + u.val) = true ∧
      getF t F.GEO_UNITS_WA = (if getF s F.GEO_UNITS_WA = u.val then getF s F.GEO_UNITS_SPARE else getF s F.GEO_UNITS_WA) ∧
      getF t F.GEO_UNITS_WB = (if getF s F.GEO_UNITS_WB = u.val then getF s F.GEO_UNITS_SPARE else getF s F.GEO_UNITS_WB) ∧
      getF t F.GEO_UNITS_SPARE_PRESENT = 0 ∧ SameMem s t)

/-- DAC_UNDERRUN of a RUN channel with an empty queue, once per block, counts in UR_CNT, sets UNDERRUN and is marked as
counted for this block, and again in that block changes nothing; DAC_UR_FAULT at UR_LIM is taken for the next block
boundary, as are DAC_FORCE and DAC_CLEAR, and changes no other channel; at that boundary a channel that drives and
that no CLEAR awaits enters FAULT with the ramp from its present code to the fault code. -/
def Obligations.DacUnderrunForceAndClear : Prop :=
  (∀ (n : Fin 32) (s : State),
      dacSt s n.val = 2 ∧ (dacOf s n.val).queue = [] →
      (dacOf s n.val).urBlock ≠ some (blk s) →
      ∃ t, exec (.dacUnderrun n) s = .next t ∧ rdN t (R.DAC_UR_CNT n.val) = min (rdN s (R.DAC_UR_CNT n.val) + 1) 0xFFFFFFFF ∧
      stBit t F.DAC_STAT_UNDERRUN = 1 ∧ (dacOf t n.val).urBlock = some (blk s) ∧
      (∀ m, m ≠ n.val → dacOf t m = dacOf s m) ∧ SameMem s t) ∧
  (∀ (n : Fin 32) (s : State),
      dacSt s n.val = 2 ∧ (dacOf s n.val).queue = [] →
      (dacOf s n.val).urBlock = some (blk s) →
      exec (.dacUnderrun n) s = .next s) ∧
  (∀ (n : Fin 32) (s : State),
      dacSt s n.val = 2 →
      getL s (F.DAC_FAULT_UR_LIM n.val) ≤ (dacOf s n.val).urRun ∧ 0 < (dacOf s n.val).urRun →
      ∃ t, exec (.dacUrFault n) s = .next t ∧ (dacOf t n.val).forceAt = some (blk s + 1) ∧
      (∀ m, m ≠ n.val → dacOf t m = dacOf s m) ∧ Frame [] s t { s with dac := t.dac }) ∧
  (∀ (n : Fin 32) (s : State) (k : Nat),
      (dacOf s n.val).forceAt = some k ∧ k ≤ blk s ∧ (dacOf s n.val).clearAt = none →
      dacSt s n.val ≠ 0 ∧ dacSt s n.val ≠ 5 ∧ s.err.fatal = false ∧ dacNoDrive s (dacOf s n.val) = false →
      dacSt (dacStrobeCh n.val s) n.val = 6 ∧ stBit (dacStrobeCh n.val s) F.DAC_STAT_FAULT_CODE = 1 ∧
      (dacOf (dacStrobeCh n.val s) n.val).ramp = some ((dacOf s n.val).code, faultCode s n.val, 0) ∧
      (dacOf (dacStrobeCh n.val s) n.val).forceAt = none ∧
      (∀ m, m ≠ n.val → dacOf (dacStrobeCh n.val s) m = dacOf s m) ∧ SameMem s (dacStrobeCh n.val s)) ∧
  (∀ (via : Src) (n : Fin 32) (s : State),
      ∃ t, exec (.dacForce via n) s = .next t ∧ (dacOf t n.val).forceAt = some (blk s + 1) ∧
      (∀ m, m ≠ n.val → dacOf t m = dacOf s m) ∧ Frame jnlRegs s t { s with regs := t.regs, jnl := t.jnl, dac := t.dac }) ∧
  (∀ (via : Src) (n : Fin 32) (s : State),
      ∃ t, exec (.dacClear via n) s = .next t ∧ (dacOf t n.val).clearAt = some (blk s + 1) ∧
      (∀ m, m ≠ n.val → dacOf t m = dacOf s m) ∧ Frame jnlRegs s t { s with regs := t.regs, jnl := t.jnl, dac := t.dac })

/-- DAC_CFG_WRITE of another span or mode to a RUN or SAFE channel waits for the next boundary, to an OFF channel it is
in force at once, and DC mode with a bipolar span is ignored; DAC_SPAN_START before its boundary, of a channel in
SAFE or RUN or at the end of a change, and DAC_SPAN_SWITCH before the boundary four blocks on, are noted for that
boundary, where the channel, if it drives and no FORCE or CLEAR awaits it, ramps from the present code to the old
span's safe code with the queue empty, or clamps, switches span and mode and settles; DAC_SETTLE_DONE of a CLEAR or
a change releases the clamp at the safe code, and after power-up it does so into SAFE with the gate open and goes to
HIZ, clamped, with it closed; DAC_POWER_UP_LOAD takes every channel's record (span, mode, the four safe codes, the
fault code and UR_LIM), or raises DAC_NVM_BAD and leaves the channels as they are. -/
def Obligations.DacSpanSequence : Prop :=
  (∀ (via : Src) (n : Fin 32) (v : Word) (s : State),
      (dacSt s n.val = 1 ∨ dacSt s n.val = 2) →
      (fget v 2 2 = 0 ∨ fget v 1 0 < 2) →
      (fget v 1 0 ≠ (dacOf s n.val).spanNow ∨ fget v 2 2 ≠ (dacOf s n.val).modeNow) →
      ∃ t, exec (.dacCfgWrite via n v) s = .next t ∧ rd t (R.DAC_CFG n.val) = v &&& 0xF#32 ∧
      dacOf t n.val = { dacOf s n.val with want := some (fget v 1 0, fget v 2 2, some (blk s + 1)) } ∧
      (∀ m, m ≠ n.val → dacOf t m = dacOf s m) ∧
      Frame (R.DAC_CFG n.val :: jnlRegs) s t { s with regs := t.regs, jnl := t.jnl, dac := t.dac }) ∧
  (∀ (via : Src) (n : Fin 32) (v : Word) (s : State),
      dacSt s n.val = 0 →
      (fget v 2 2 = 0 ∨ fget v 1 0 < 2) →
      ∃ t, exec (.dacCfgWrite via n v) s = .next t ∧ (dacOf t n.val).spanNow = fget v 1 0 ∧ (dacOf t n.val).modeNow = fget v 2 2 ∧
      rd t (R.DAC_CFG n.val) = v &&& 0xF#32 ∧ (∀ m, m ≠ n.val → dacOf t m = dacOf s m) ∧
      Frame (R.DAC_CFG n.val :: jnlRegs) s t { s with regs := t.regs, jnl := t.jnl, dac := t.dac }) ∧
  (∀ (via : Src) (n : Fin 32) (v : Word) (s : State),
      fget v 2 2 = 1 ∧ 2 ≤ fget v 1 0 →
      ∃ t, exec (.dacCfgWrite via n v) s = .next t ∧ Frame logRegs s t { s with regs := t.regs, jnl := t.jnl, err := t.err }) ∧
  (∀ (n : Fin 32) (s : State) (sp md k : Nat),
      (dacOf s n.val).want = some (sp, md, some k) ∧ due s k = true →
      ((dacSt s n.val = 1 ∨ dacSt s n.val = 2 ∨ (dacSt s n.val = 4 ∧ dacSpanDone (dacOf s n.val) = true)) ∧ (dacOf s n.val).settling = none) →
      ∃ t, exec (.dacSpanStart n) s = .next t ∧ dacOf t n.val = { dacOf s n.val with act := .start } ∧
      (∀ m, m ≠ n.val → dacOf t m = dacOf s m) ∧ Frame [] s t { s with dac := t.dac }) ∧
  (∀ (n : Fin 32) (s : State) (sp md : Nat) (k : Option Nat),
      (dacOf s n.val).act = .start ∧ (dacOf s n.val).want = some (sp, md, k) ∧ spanMayStart s n.val = true →
      (dacOf s n.val).clearAt = none ∧ (dacOf s n.val).forceAt = none ∧ s.err.fatal = false ∧ dacNoDrive s (dacOf s n.val) = false →
      dacSt (dacStrobeCh n.val s) n.val = 4 ∧ (dacOf (dacStrobeCh n.val s) n.val).span = some (blk s, sp, md) ∧
      (dacOf (dacStrobeCh n.val s) n.val).queue = [] ∧ (dacOf (dacStrobeCh n.val s) n.val).want = none ∧
      (dacOf (dacStrobeCh n.val s) n.val).ramp = some ((dacOf s n.val).code, safeCode s n.val (dacOf s n.val).spanNow, 0) ∧
      (∀ m, m ≠ n.val → dacOf (dacStrobeCh n.val s) m = dacOf s m) ∧ SameMem s (dacStrobeCh n.val s)) ∧
  (∀ (n : Fin 32) (s : State) (b sp md : Nat),
      (dacOf s n.val).span = some (b, sp, md) ∧ due s (b + 4) = true →
      dacSt s n.val = 4 ∧ (dacOf s n.val).settling = none →
      ∃ t, exec (.dacSpanSwitch n) s = .next t ∧ dacOf t n.val = { dacOf s n.val with act := .switch } ∧
      (∀ m, m ≠ n.val → dacOf t m = dacOf s m) ∧ Frame [] s t { s with dac := t.dac }) ∧
  (∀ (n : Fin 32) (s : State) (b sp md : Nat),
      (dacOf s n.val).act = .switch ∧ (dacOf s n.val).span = some (b, sp, md) ∧ dacSt s n.val = 4 ∧ (dacOf s n.val).settling = none →
      (dacOf s n.val).clearAt = none ∧ (dacOf s n.val).forceAt = none ∧ s.err.fatal = false ∧ dacNoDrive s (dacOf s n.val) = false →
      dacSt (dacStrobeCh n.val s) n.val = 4 ∧ (dacOf (dacStrobeCh n.val s) n.val).clamped = true ∧
      (dacOf (dacStrobeCh n.val s) n.val).spanNow = sp ∧ (dacOf (dacStrobeCh n.val s) n.val).modeNow = md ∧
      (dacOf (dacStrobeCh n.val s) n.val).settling = some .span ∧ (dacOf (dacStrobeCh n.val s) n.val).ramp = none ∧
      (∀ m, m ≠ n.val → dacOf (dacStrobeCh n.val s) m = dacOf s m) ∧ SameMem s (dacStrobeCh n.val s)) ∧
  (∀ (n : Fin 32) (s : State),
      ((dacOf s n.val).settling = some .clear ∨ (dacOf s n.val).settling = some .span) →
      ∃ t, exec (.dacSettleDone n) s = .next t ∧ (dacOf t n.val).clamped = false ∧ (dacOf t n.val).settling = none ∧
      (dacOf t n.val).code = safeCode s n.val (dacOf s n.val).spanNow ∧
      (∀ m, m ≠ n.val → dacOf t m = dacOf s m) ∧ Frame [] s t { s with dac := t.dac }) ∧
  (∀ (n : Fin 32) (s : State),
      (dacOf s n.val).settling = some .powerUp →
      ∃ t, exec (.dacSettleDone n) s = .next t ∧ (dacOf t n.val).settling = none ∧ (∀ m, m ≠ n.val → dacOf t m = dacOf s m) ∧
      Frame [R.DAC_CSTATE n.val] s t { s with regs := t.regs, dac := t.dac } ∧
      if gateOpen s then dacSt t n.val = 1 ∧ (dacOf t n.val).clamped = false ∧
        (dacOf t n.val).code = safeCode s n.val (dacOf s n.val).spanNow
      else dacSt t n.val = 5 ∧ (dacOf t n.val).clamped = true) ∧
  (∀ (s : State),
      s.pwr.dacAwait = true ∧ s.pwr.good = true ∧ s.pwr.hot = false ∧ s.pwr.testEn = false →
      ∃ t, exec .dacPowerUpLoad s = .next t ∧ t.pwr.dacAwait = false ∧ SameMem s t ∧
      if dacRecsOk (dacRecs s) then
        ∀ n : Fin 32, (dacOf t n.val).settling = some .powerUp ∧
          (dacOf t n.val).spanNow = bits (leAt (dacRecs s) (16 * n.val) 1) 1 0 ∧
          (dacOf t n.val).modeNow = bits (leAt (dacRecs s) (16 * n.val) 1) 2 2 ∧
          getF t (F.DAC_SAFE_01_SAFE_LO n.val) = leAt (dacRecs s) (16 * n.val + 2) 2 ∧
          getF t (F.DAC_SAFE_01_SAFE_HI n.val) = leAt (dacRecs s) (16 * n.val + 4) 2 ∧
          getF t (F.DAC_SAFE_23_SAFE_LO n.val) = leAt (dacRecs s) (16 * n.val + 6) 2 ∧
          getF t (F.DAC_SAFE_23_SAFE_HI n.val) = leAt (dacRecs s) (16 * n.val + 8) 2 ∧
          getF t (F.DAC_FAULT_CODE n.val) = leAt (dacRecs s) (16 * n.val + 10) 2 ∧
          getF t (F.DAC_FAULT_UR_LIM n.val) = leAt (dacRecs s) (16 * n.val + 12) 1
      else stBit t F.DAC_STAT_NVM_BAD = 1 ∧ t.dac = s.dac)

/-- APD_GROUP_ENABLE of a disabled group with no ground for refusal takes effect at the next block boundary, and with
one shows its reason and lane and sets EN_REFUSED; APD_GROUP_DISABLE of an enabled group stops it at the next
boundary, and one that has yet to start it leaves as it was.  SLAVE_FS_EDGE of a slave group: the first edge is only
stamped; one outside 12.5 % of the nominal interval after the edge before counts a glitch, one inside with another
count of bit clocks counts in GBCLK_ERR, and any other ends the run of rejected ones.  SLAVE_FS_TIMEOUT of a slave
group in ACQUIRE or RUN that is not lost already, or in RATE, counts a loss and goes to HOLD.  LANE_MASK_WRITE is
pending while the group is enabled and else live at once; LANE_MASK_TRANSFER of a pending mask of a group with a
clock makes shadow mask and shadow map live together. -/
def Obligations.PortGroupsAndMasks : Prop :=
  (∀ (via : Src) (g : Fin 16) (s : State),
      getF s (F.APD_GCTL_EN g.val) = 0 →
      apdRefusal s g.val = none →
      ∃ t, exec (.apdGroupEnable via g) s = .next t ∧ getF t (F.APD_GCTL_EN g.val) = 1 ∧
      (grpOf t g.val).startAt = some (blk s + 1) ∧ getF t (F.APD_GSTATE_REASON g.val) = 0 ∧
      (∀ h, h ≠ g.val → grpOf t h = grpOf s h) ∧
      Frame ([R.APD_GCTL g.val, R.APD_GSTATE g.val] ++ jnlRegs) s t { s with regs := t.regs, jnl := t.jnl, apd := t.apd }) ∧
  (∀ (via : Src) (g : Fin 16) (s : State) (r l : Nat),
      getF s (F.APD_GCTL_EN g.val) = 0 →
      apdRefusal s g.val = some (r, l) →
      ∃ t, exec (.apdGroupEnable via g) s = .next t ∧ getF t (F.APD_GCTL_EN g.val) = 0 ∧ t.apd = s.apd ∧
      getF t (F.APD_GSTATE_REASON g.val) = r ∧ getF t (F.APD_GSTATE_LANE g.val) = l ∧ stBit t F.APD_STAT_EN_REFUSED = 1 ∧
      Frame ([R.APD_GSTATE g.val, R.APD_STAT] ++ logRegs) s t { s with regs := t.regs, jnl := t.jnl, err := t.err }) ∧
  (∀ (via : Src) (g : Fin 16) (s : State),
      getF s (F.APD_GCTL_EN g.val) = 1 →
      ∃ t, exec (.apdGroupDisable via g) s = .next t ∧ getF t (F.APD_GCTL_EN g.val) = 0 ∧
      (grpOf t g.val).stopAt = (if (grpOf s g.val).startAt = none then some (blk s + 1) else (grpOf s g.val).stopAt) ∧ (grpOf t g.val).startAt = none ∧
      Frame (R.APD_GCTL g.val :: jnlRegs) s t { s with regs := t.regs, jnl := t.jnl, apd := t.apd }) ∧
  (∀ (g : Fin 16) (stamp : BitVec 64) (bclks : BitVec 16) (s : State) (prev : Nat),
      grpOn s g.val = true ∧ isMaster s g.val = false →
      (grpOf s g.val).lastEdge = some prev →
      withinPpm (stamp.toNat - prev) (grpRate s g.val) 125000 = false →
      ∃ t, exec (.slaveFsEdge g stamp bclks) s = .next t ∧ (grpOf t g.val).lastEdge = some stamp.toNat ∧
      rdN t (R.APD_GGLITCH g.val) = min (rdN s (R.APD_GGLITCH g.val) + 1) 0xFFFFFFFF ∧
      (∀ h, h ≠ g.val → grpOf t h = grpOf s h) ∧ SameMem s t) ∧
  (∀ (g : Fin 16) (stamp : BitVec 64) (bclks : BitVec 16) (s : State) (prev : Nat),
      grpOn s g.val = true ∧ isMaster s g.val = false →
      (grpOf s g.val).lastEdge = some prev →
      withinPpm (stamp.toNat - prev) (grpRate s g.val) 125000 = true ∧ bclks.toNat ≠ grpBits s g.val →
      ∃ t, exec (.slaveFsEdge g stamp bclks) s = .next t ∧ (grpOf t g.val).lastEdge = some stamp.toNat ∧
      rdN t (R.APD_GBCLK_ERR g.val) = min (rdN s (R.APD_GBCLK_ERR g.val) + 1) 0xFFFFFFFF ∧
      (∀ h, h ≠ g.val → grpOf t h = grpOf s h) ∧ SameMem s t) ∧
  (∀ (g : Fin 16) (stamp : BitVec 64) (bclks : BitVec 16) (s : State) (prev : Nat),
      grpOn s g.val = true ∧ isMaster s g.val = false →
      (grpOf s g.val).lastEdge = some prev →
      withinPpm (stamp.toNat - prev) (grpRate s g.val) 125000 = true ∧ bclks.toNat = grpBits s g.val →
      ∃ t, exec (.slaveFsEdge g stamp bclks) s = .next t ∧ (grpOf t g.val).lastEdge = some stamp.toNat ∧
      (grpOf t g.val).rejects = 0 ∧ rd t (R.APD_GGLITCH g.val) = rd s (R.APD_GGLITCH g.val) ∧
      rd t (R.APD_GBCLK_ERR g.val) = rd s (R.APD_GBCLK_ERR g.val) ∧ (∀ h, h ≠ g.val → grpOf t h = grpOf s h) ∧ SameMem s t) ∧
  (∀ (g : Fin 16) (stamp : BitVec 64) (bclks : BitVec 16) (s : State),
      grpOn s g.val = true ∧ isMaster s g.val = false →
      (grpOf s g.val).lastEdge = none →
      ∃ t, exec (.slaveFsEdge g stamp bclks) s = .next t ∧ (grpOf t g.val).lastEdge = some stamp.toNat ∧
      (∀ h, h ≠ g.val → grpOf t h = grpOf s h) ∧ SameMem s t) ∧
  (∀ (g : Fin 16) (s : State),
      grpOn s g.val = true ∧ isMaster s g.val = false →
      (((getF s (F.APD_GSTATE_STATE g.val) = 1 ∨ getF s (F.APD_GSTATE_STATE g.val) = 2) ∧ (grpOf s g.val).lost = false) ∨ getF s (F.APD_GSTATE_STATE g.val) = 4) →
      ∃ t, exec (.slaveFsTimeout g) s = .next t ∧ getF t (F.APD_GSTATE_STATE g.val) = 3 ∧
      rdN t (R.APD_GLOSS g.val) = min (rdN s (R.APD_GLOSS g.val) + 1) 0xFFFFFFFF ∧ stBit t F.APD_STAT_CLK_LOSS = 1 ∧
      (grpOf t g.val).outUp = false ∧ (∀ h, h ≠ g.val → grpOf t h = grpOf s h) ∧ SameMem s t) ∧
  (∀ (via : Src) (l : Fin 64) (v : Word) (s : State),
      grpOn s (l.val / 4) = true →
      ∃ t, exec (.laneMaskWrite via l v) s = .next t ∧ rd t (R.APD_LMASK l.val) = v ∧
      rd t (R.APD_LMASK_LIVE l.val) = rd s (R.APD_LMASK_LIVE l.val) ∧ getF t (F.APD_LSTATE_PEND l.val) = 1 ∧
      Frame ([R.APD_LMASK l.val, R.APD_LSTATE l.val, R.APD_STAT] ++ jnlRegs) s t { s with regs := t.regs, jnl := t.jnl }) ∧
  (∀ (via : Src) (l : Fin 64) (v : Word) (s : State),
      grpOn s (l.val / 4) = false →
      ∃ t, exec (.laneMaskWrite via l v) s = .next t ∧ rd t (R.APD_LMASK l.val) = v ∧ rd t (R.APD_LMASK_LIVE l.val) = v ∧
      getF t (F.APD_LSTATE_PEND l.val) = 0 ∧ stBit t F.APD_STAT_MASK_DONE = 1 ∧
      (∀ i, i < 32 → liveMap t l.val i = shadowMap s l.val i) ∧
      Frame ([R.APD_LMASK l.val, R.APD_LMASK_LIVE l.val, R.APD_LSTATE l.val, R.APD_STAT] ++ jnlRegs) s t
        { s with regs := t.regs, jnl := t.jnl, apd := t.apd }) ∧
  (∀ (l : Fin 64) (s : State),
      getF s (F.APD_LSTATE_PEND l.val) = 1 ∧ grpOn s (l.val / 4) = true →
      getF s (F.APD_GSTATE_STATE (l.val / 4)) ≠ 0 →
      (getF s (F.APD_GSTATE_STATE (l.val / 4)) = 3 → (grpOf s (l.val / 4)).lost = false ∧ (grpOf s (l.val / 4)).rejects = 0) →
      ∃ t, exec (.laneMaskTransfer l) s = .next t ∧ rd t (R.APD_LMASK_LIVE l.val) = rd s (R.APD_LMASK l.val) ∧
      getF t (F.APD_LSTATE_PEND l.val) = 0 ∧ stBit t F.APD_STAT_MASK_DONE = 1 ∧
      (∀ i, i < 32 → liveMap t l.val i = shadowMap s l.val i) ∧
      Frame [R.APD_LMASK_LIVE l.val, R.APD_LSTATE l.val, R.APD_STAT] s t { s with regs := t.regs, apd := t.apd })

/-- BIPHASE_FRAME_RX on an enabled biphase input: without valid preambles the good run ends and the bad run grows.  A
valid frame ends the bad run; without lock it grows the good run, and the 64th brings the lock and the frame's rate;
with lock each subframe that is not held gives its audio and a held one keeps the last, both V are shown, and with
nothing held a Z frame starts a new block of status while within a block of fewer than 191 frames another frame adds
its bits.  BIPHASE_LOCK_LOSS after four bad frames counts a loss, drops the lock and begins to fade the lane out.
CS_COMMIT waits for a Z preamble a frame later; CS_TRANSFER at it makes the 24 transmit words live together, with
CRCC put into both blocks where the lane asks for it. -/
def Obligations.BiphaseLanesAndStatus : Prop :=
  (∀ (l : Fin 64) (f : BpFrame) (s : State),
      grpOn s (l.val / 4) = true ∧ laneBi s l.val = true ∧ laneOut s l.val = false →
      f.valid = false →
      ∃ t, exec (.biphaseFrameRx l f) s = .next t ∧
      laneOf t l.val = { laneOf s l.val with good := 0, bad := (laneOf s l.val).bad + 1, cs := none } ∧
      (∀ m, m ≠ l.val → laneOf t m = laneOf s m) ∧ Frame [] s t { s with apd := t.apd }) ∧
  (∀ (l : Fin 64) (f : BpFrame) (s : State),
      grpOn s (l.val / 4) = true ∧ laneBi s l.val = true ∧ laneOut s l.val = false →
      f.valid = true ∧ getF s (F.APD_LSTATE_BP_LOCK l.val) = 0 →
      ∃ t, exec (.biphaseFrameRx l f) s = .next t ∧ (laneOf t l.val).good = (laneOf s l.val).good + 1 ∧ (laneOf t l.val).bad = 0 ∧
      getF t (F.APD_LSTATE_BP_LOCK l.val) = (if 64 ≤ (laneOf s l.val).good + 1 then 1 else 0) ∧
      (64 ≤ (laneOf s l.val).good + 1 → getF t (F.APD_LSTATE_BP_RATE l.val) = f.rate % 8) ∧
      (∀ m, m ≠ l.val → laneOf t m = laneOf s m) ∧ SameMem s t) ∧
  (∀ (l : Fin 64) (f : BpFrame) (s : State),
      grpOn s (l.val / 4) = true ∧ laneBi s l.val = true ∧ laneOut s l.val = false →
      f.valid = true ∧ getF s (F.APD_LSTATE_BP_LOCK l.val) = 1 →
      ∃ t, exec (.biphaseFrameRx l f) s = .next t ∧
      (laneOf t l.val).lastA = (if subHeld s l.val f.a then (laneOf s l.val).lastA else f.a.audio) ∧
      (laneOf t l.val).lastB = (if subHeld s l.val f.b then (laneOf s l.val).lastB else f.b.audio) ∧
      (laneOf t l.val).bad = 0 ∧ getF t (F.APD_LSTATE_V l.val) = b2n f.a.v + 2 * b2n f.b.v ∧
      getF t (F.APD_LSTATE_BP_LOCK l.val) = 1 ∧ (∀ m, m ≠ l.val → laneOf t m = laneOf s m) ∧ SameMem s t) ∧
  (∀ (l : Fin 64) (f : BpFrame) (s : State),
      grpOn s (l.val / 4) = true ∧ laneBi s l.val = true ∧ laneOut s l.val = false →
      f.valid = true ∧ getF s (F.APD_LSTATE_BP_LOCK l.val) = 1 →
      subHeld s l.val f.a = false ∧ subHeld s l.val f.b = false →
      (f.z = true ∨ (laneOf s l.val).cs.all (fun r => decide (r.length < 191)) = true) →
      ∃ t, exec (.biphaseFrameRx l f) s = .next t ∧
      (laneOf t l.val).cs = (if f.z then some [(f.a.c, f.b.c, f.a.u, f.b.u)]
        else (laneOf s l.val).cs.map (fun r => (f.a.c, f.b.c, f.a.u, f.b.u) :: r)) ∧
      Frame [R.APD_LSTATE l.val] s t { s with regs := t.regs, apd := t.apd }) ∧
  (∀ (l : Fin 64) (s : State),
      getF s (F.APD_LSTATE_BP_LOCK l.val) = 1 ∧ 4 ≤ (laneOf s l.val).bad →
      ∃ t, exec (.biphaseLockLoss l) s = .next t ∧ getF t (F.APD_LSTATE_BP_LOCK l.val) = 0 ∧
      laneOf t l.val = { laneOf s l.val with up := false, lost := true, cs := none } ∧ (∀ m, m ≠ l.val → laneOf t m = laneOf s m) ∧
      rdN t (R.APD_LBP_LOSS l.val) = min (rdN s (R.APD_LBP_LOSS l.val) + 1) 0xFFFFFFFF ∧ stBit t F.APD_STAT_BP_LOSS = 1 ∧
      Frame ([R.APD_LSTATE l.val, R.APD_LBP_LOSS l.val, R.APD_STAT] ++ errRegs) s t { s with regs := t.regs, apd := t.apd, err := t.err, jnl := t.jnl }) ∧
  (∀ (via : Src) (l : Fin 64) (s : State),
      ∃ t, exec (.csCommit via l) s = .next t ∧ laneOf t l.val = { laneOf s l.val with csPend := some (s.msi + 2) } ∧
      (∀ m, m ≠ l.val → laneOf t m = laneOf s m) ∧ Frame jnlRegs s t { s with regs := t.regs, jnl := t.jnl, apd := t.apd }) ∧
  (∀ (l : Fin 64) (s : State) (q : Nat) (ws : List Nat),
      (laneOf s l.val).csPend = some q ∧ q ≤ s.msi ∧ s.msi % 192 = 0 →
      grpOn s (l.val / 4) = true ∧ laneOut s l.val = true ∧ laneBi s l.val = true →
      ws = (List.range 24).map (fun j => rdN s (R.APD_CSTX l.val j)) →
      ∃ t, exec (.csTransfer l) s = .next t ∧ (laneOf t l.val).csPend = none ∧
      (laneOf t l.val).csLive = (if getF s (F.APD_LCFG_CRCC l.val) = 1 then putCrcc 6 (putCrcc 0 ws) else ws) ∧
      Frame [] s t { s with apd := t.apd })

/-- CLAIM_FRAME_START at a unit of a pair puts the word of its role on the lines.  At CLAIM_DECISION_POINT with both
lines good, each unit reading one and the same word with a good CRC on both: an active unit that reads its own word
has won the block: the role stays and the gate opens once egress is armed; one that reads a higher active word is
demoted: STANDBY, gate closed, DEMOTED set.  A standby that reads its own word, has won CLM_CFG.TKO_N blocks with
this one, is READY, runs and is locked, or that was forced in a block before, becomes ACTIVE with the next epoch.
LISTEN_END after 64 blocks, a line not FAULTY, makes the unit a STANDBY with the highest epoch it has read. -/
def Obligations.ClaimFramesDecideRoles : Prop :=
  (∀ (s : State),
      isPair s = true →
      ∃ t, exec .claimFrameStart s = .next t ∧ t.clm = { s.clm with sending := wordOf s, frameOn := true } ∧ Frame [] s t { s with clm := t.clm }) ∧
  (∀ (w : Nat) (s : State),
      isActive s = true ∧ s.clm.sending = some w ∧ w < 2 ^ 16 ∧ s.clm.yieldAt = none →
      (lineState s false = 0 ∧ lineState s true = 0 ∧ mismatch s w = false) →
      ∃ t, exec (.claimDecisionPoint ⟨some w, crc8 w, false, false, false, false⟩ ⟨some w, crc8 w, false, false, false, false⟩) s = .next t ∧
      getF t F.CLM_STATE_HOLDER = b2n s.clm.armed ∧ getF t F.CLM_STATE_ROLE = 3 ∧ t.clm.wins = s.clm.wins + 1 ∧ getF t F.CLM_WON_WON_A = w ∧
      getF t F.CLM_WON_WON_B = w ∧ lineState t false = 0 ∧ lineState t true = 0) ∧
  (∀ (own w : Nat) (s : State),
      isActive s = true ∧ s.clm.sending = some own ∧ own < w ∧ w < 2 ^ 16 ∧ wordActive w = true →
      (lineState s false = 0 ∧ lineState s true = 0 ∧ mismatch s w = false) →
      ∃ t, exec (.claimDecisionPoint ⟨some w, crc8 w, false, false, false, false⟩ ⟨some w, crc8 w, false, false, false, false⟩) s = .next t ∧
      getF t F.CLM_STATE_ROLE = 2 ∧ getF t F.CLM_STATE_HOLDER = 0 ∧ stBit t F.CLM_STAT_DEMOTED = 1 ∧ t.clm.wins = 0) ∧
  (∀ (w : Nat) (s : State),
      isStandby s = true ∧ s.clm.sending = some w ∧ w < 2 ^ 15 ∧ s.flk.held = [] →
      (lineState s false = 0 ∧ lineState s true = 0 ∧ mismatch s w = false) →
      ((getF s F.CLM_CFG_TKO_N ≤ s.clm.wins + 1 ∧ sync s = 6 ∧ running s = true ∧ mediaLocked s = true) ∨ s.clm.force.any (fun b => decide (b < blk s)) = true) →
      ∃ t, exec (.claimDecisionPoint ⟨some w, crc8 w, false, false, false, false⟩ ⟨some w, crc8 w, false, false, false, false⟩) s = .next t ∧
      getF t F.CLM_STATE_ROLE = 3 ∧ t.clm.epoch = min (s.clm.epoch + 1) 2047 ∧ getF t F.CLM_STATE_HOLDER = b2n s.clm.armed) ∧
  (∀ (s : State),
      isPair s = true ∧ getF s F.CLM_STATE_ROLE = 1 ∧ due s (s.clm.listenAt + 64) = true ∧ linesDead s = false →
      ∃ t, exec .listenEnd s = .next t ∧ getF t F.CLM_STATE_ROLE = 2 ∧ t.clm.epoch = s.clm.listenMax ∧
      getF t F.FLK_STATE_SYNC = (if flkUp s then 1 else 0) ∧ SameMem s t)

/-- CLM_CFG_WRITE in range that sets EN on a lone unit with no Pattern running takes it to LISTEN with its gate closed;
out of range it leaves the register and the role.  CLM_DRILL and CLM_RENORM at an active unit with the link UP, a
READY peer and none of their kind under way, in time, take their block and mirror it; late they are refused with
reason 1; at a lone or yielded unit, or with one under way, the link not UP or the peer not READY they are refused
with reason 5, 2, 4 or 3; at a unit in LISTEN or STANDBY they are ignored.  CLM_FORCE_ACTIVE at a standby that runs,
is locked, has read no active word for 64 blocks and is not forced already waits for its block; at any other it is
refused.  CLM_YIELD at an active unit with the link UP and a READY peer yields; at a unit that is not active it is
refused with reason 5, with the link not UP with 4, with the peer not READY with 3.  A refusal shows its command and
reason, sets CLM_STAT.REFUSED and changes neither the claim bus's state nor memory. -/
def Obligations.ClaimCommandsAccepted : Prop :=
  (∀ (via : Src) (v : Word) (s : State),
      getF s F.CLM_CFG_EN = 0 ∧ running s = false →
      rangeOk R.CLM_CFG v = true ∧ fget v 31 31 = 1 →
      ∃ t, exec (.clmCfgWrite via v) s = .next t ∧ getF t F.CLM_CFG_EN = 1 ∧ getF t F.CLM_STATE_ROLE = 1 ∧
      getF t F.CLM_STATE_HOLDER = 0 ∧ t.clm.listenAt = blk s ∧ t.clm.wins = 0 ∧ SameMem s t) ∧
  (∀ (via : Src) (v : Word) (s : State),
      running s = false ∧ rangeOk R.CLM_CFG v = false →
      ∃ t, exec (.clmCfgWrite via v) s = .next t ∧ rd t R.CLM_CFG = rd s R.CLM_CFG ∧ rd t R.CLM_STATE = rd s R.CLM_STATE ∧
      (s.err.current = none → t.err.current.map (fun e => e.err) = some .errWriteIgnored) ∧
      Frame logRegs s t { s with regs := t.regs, jnl := t.jnl, err := t.err }) ∧
  (∀ (via : Src) (s : State),
      isActive s = true ∧ flkUp s = true ∧ s.flk.peerReady = 6 →
      s.clm.drill = none ∧ s.clm.drillRun = none ∧ isLate s (rd64 s R.CLM_MSI_LO R.CLM_MSI_HI) = false →
      ∃ t, exec (.clmDrill via) s = .next t ∧ t.clm = { s.clm with drill := some (clmBlock s), drillFinal := false } ∧
      t.flk.undecided = s.flk.undecided ++ [⟨s.flk.nextItem, .drill (clmBlock s), some (clmBlock s - 1)⟩] ∧ SameMem s t) ∧
  (∀ (via : Src) (s : State),
      isActive s = true ∧ flkUp s = true ∧ s.flk.peerReady = 6 →
      s.clm.renorm = none ∧ isLate s (rd64 s R.CLM_MSI_LO R.CLM_MSI_HI) = false →
      ∃ t, exec (.clmRenorm via) s = .next t ∧ t.clm = { s.clm with renorm := some (clmBlock s), renormFinal := false } ∧
      t.flk.undecided = s.flk.undecided ++ [⟨s.flk.nextItem, .renorm (clmBlock s), some (clmBlock s - 1)⟩] ∧ SameMem s t) ∧
  (∀ (via : Src) (s : State) (r : Nat),
      isPassive s = false →
      (pairRefusal (s.clm.drill.isSome || s.clm.drillRun.isSome) s = some r ∨ (pairRefusal (s.clm.drill.isSome || s.clm.drillRun.isSome) s = none ∧ isLate s (rd64 s R.CLM_MSI_LO R.CLM_MSI_HI) = true ∧ r = 1)) →
      ∃ t, exec (.clmDrill via) s = .next t ∧ getF t F.CLM_RESULT_CMD = 1 ∧ getF t F.CLM_RESULT_REASON = r ∧
      stBit t F.CLM_STAT_REFUSED = 1 ∧ Frame ([R.CLM_RESULT, R.CLM_STAT] ++ jnlRegs) s t { s with regs := t.regs, jnl := t.jnl }) ∧
  (∀ (via : Src) (s : State) (r : Nat),
      isPassive s = false →
      (pairRefusal s.clm.renorm.isSome s = some r ∨ (pairRefusal s.clm.renorm.isSome s = none ∧ isLate s (rd64 s R.CLM_MSI_LO R.CLM_MSI_HI) = true ∧ r = 1)) →
      ∃ t, exec (.clmRenorm via) s = .next t ∧ getF t F.CLM_RESULT_CMD = 2 ∧ getF t F.CLM_RESULT_REASON = r ∧
      stBit t F.CLM_STAT_REFUSED = 1 ∧ Frame ([R.CLM_RESULT, R.CLM_STAT] ++ jnlRegs) s t { s with regs := t.regs, jnl := t.jnl }) ∧
  (∀ (busy : Bool) (s : State),
      pairRefusal busy s = (if isActive s = false then some 5 else if busy then some 2 else if flkUp s = false then some 4
        else if s.flk.peerReady ≠ 6 then some 3 else none)) ∧
  (∀ (via : Src) (c : Instr) (s : State),
      (isPassive s = true ∧ (c = .clmDrill via ∨ c = .clmRenorm via)) →
      ∃ t, exec c s = .next t ∧ (s.err.current = none → t.err.current.map (fun e => e.err) = some .errWriteIgnored) ∧
      Frame logRegs s t { s with regs := t.regs, jnl := t.jnl, err := t.err }) ∧
  (∀ (via : Src) (s : State),
      isStandby s = true ∧ running s = true ∧ mediaLocked s = true →
      activeRecently s = false ∧ s.clm.force = none →
      ∃ t, exec (.clmForceActive via) s = .next t ∧ t.clm = { s.clm with force := some (blk s) } ∧
      getF t F.CLM_RESULT_CMD = 3 ∧ getF t F.CLM_RESULT_REASON = 0 ∧
      Frame (R.CLM_RESULT :: jnlRegs) s t { s with regs := t.regs, jnl := t.jnl, clm := t.clm }) ∧
  (∀ (via : Src) (s : State),
      (isStandby s = false ∨ running s = false ∨ mediaLocked s = false ∨ activeRecently s = true ∨ s.clm.force ≠ none) →
      ∃ t, exec (.clmForceActive via) s = .next t ∧ getF t F.CLM_RESULT_CMD = 3 ∧
      getF t F.CLM_RESULT_REASON = (if isStandby s = false then 6 else if running s = false then 9 else if mediaLocked s = false then 10
        else if activeRecently s then 8 else 2) ∧
      stBit t F.CLM_STAT_REFUSED = 1 ∧ Frame ([R.CLM_RESULT, R.CLM_STAT] ++ jnlRegs) s t { s with regs := t.regs, jnl := t.jnl }) ∧
  (∀ (via : Src) (s : State),
      isActive s = true ∧ flkUp s = true ∧ s.flk.peerReady = 6 →
      ∃ t, exec (.clmYield via) s = .next t ∧ t.clm = { s.clm with yieldAt := some (blk s) } ∧
      getF t F.CLM_RESULT_CMD = 4 ∧ getF t F.CLM_RESULT_REASON = 0 ∧
      Frame (R.CLM_RESULT :: jnlRegs) s t { s with regs := t.regs, jnl := t.jnl, clm := t.clm }) ∧
  (∀ (via : Src) (s : State),
      (isActive s = false ∨ flkUp s = false ∨ s.flk.peerReady ≠ 6) →
      ∃ t, exec (.clmYield via) s = .next t ∧ getF t F.CLM_RESULT_CMD = 4 ∧
      getF t F.CLM_RESULT_REASON = (if isActive s = false then 5 else if flkUp s = false then 4 else 3) ∧
      stBit t F.CLM_STAT_REFUSED = 1 ∧ Frame ([R.CLM_RESULT, R.CLM_STAT] ++ jnlRegs) s t { s with regs := t.regs, jnl := t.jnl })

/-- DRILL_EXECUTE of a final drill at block d: at d - 1 the standby's bipolar channels in HIZ turn their sources on and
settle; at d the active unit begins to fade out every bipolar channel in RUN; at d + 1, a line not FAULTY, it is a
STANDBY with its gate closed, and a standby that holds no mirrored item is ACTIVE with its gate open and the next
epoch, 2,047 at most.  AUTO_DRILL after DRILL_INT hours at an active unit with the link UP, a READY standby and no
drill under way schedules one 64 blocks ahead and mirrors it; RENORM_APPLY of a final renormalisation at its block
takes epoch 1. -/
def Obligations.DrillSwapsUnits : Prop :=
  (∀ (s : State) (d : Nat),
      s.clm.drill = some d ∧ s.clm.drillFinal = true ∧ due s (d - 1) = true ∧ due s d = false →
      isStandby s = true →
      ∃ t, exec .drillExecute s = .next t ∧ t.clm = { s.clm with drillRun := some d } ∧
      (∀ n : Fin 32, dacSt s n.val = 5 → dacBipolar (dacOf s n.val) = true →
        (dacOf t n.val).sources = true ∧ (dacOf t n.val).settling = some .drill) ∧
      Frame [] s t { s with clm := t.clm, dac := t.dac }) ∧
  (∀ (s : State) (d : Nat),
      s.clm.drill = some d ∧ s.clm.drillFinal = true ∧ due s d = true ∧ due s (d + 1) = false →
      isActive s = true →
      ∃ t, exec .drillExecute s = .next t ∧ t.clm.drillRun = some d ∧ getF t F.CLM_STATE_ROLE = 3 ∧
      (∀ n : Fin 32, dacSt s n.val = 2 → dacBipolar (dacOf s n.val) = true → (dacOf t n.val).fadeOut = some 0) ∧
      Frame [] s t { s with clm := { s.clm with drillRun := some d }, dac := t.dac, apd := t.apd }) ∧
  (∀ (s : State) (d : Nat),
      s.clm.drill = some d ∧ s.clm.drillFinal = true ∧ due s (d + 1) = true ∧ linesDead s = false →
      isActive s = true →
      ∃ t, exec .drillExecute s = .next t ∧ t.clm.drill = none ∧ getF t F.CLM_STATE_ROLE = 2 ∧ getF t F.CLM_STATE_HOLDER = 0 ∧
      getF t F.FLK_STATE_SYNC = 6 ∧ SameMem s t) ∧
  (∀ (s : State) (d : Nat),
      s.clm.drill = some d ∧ s.clm.drillFinal = true ∧ due s (d + 1) = true ∧ linesDead s = false →
      isStandby s = true ∧ s.flk.held = [] →
      ∃ t, exec .drillExecute s = .next t ∧ t.clm.drill = none ∧ getF t F.CLM_STATE_ROLE = 3 ∧ getF t F.CLM_STATE_HOLDER = 1 ∧
      t.clm.epoch = min (s.clm.epoch + 1) 2047) ∧
  (∀ (s : State),
      getF s F.CLM_CFG_DRILL_INT ≠ 0 ∧ standbyReady s = true ∧ s.clm.drill = none →
      s.clm.drillBase * 16 + getF s F.CLM_CFG_DRILL_INT * 3600 * fsInt s ≤ s.msi →
      ∃ t, exec .autoDrill s = .next t ∧ t.clm = { s.clm with drill := some (blk s + 64), drillFinal := false, drillBase := blk s } ∧
      t.flk.undecided = s.flk.undecided ++ [⟨s.flk.nextItem, .drill (blk s + 64), some (blk s + 64 - 1)⟩] ∧ SameMem s t) ∧
  (∀ (s : State) (r : Nat),
      s.clm.renorm = some r ∧ s.clm.renormFinal = true ∧ due s r = true →
      ∃ t, exec .renormApply s = .next t ∧ t.clm = { s.clm with renorm := none, renormFinal := false, epoch := 1 } ∧
      Frame [R.CLM_STATE] s t { s with regs := t.regs, clm := t.clm })

/-- HQ_TAIL_WRITE of an index at most 16,384 past OBJ_HQ_DONE publishes the entries and touches no other register, and
beyond it changes nothing but raises OBJ_HQ_OVF; HQ_BASE_WRITE while no Pattern runs takes the value and returns
TAIL, HEAD and DONE to 0, and while one runs is not taken and raises RWL_WRITE.  OBJ_CMD_RESEQ and OBJ_CMD_FLUSH at
a unit outside a pair wait for the next block boundary, at the active unit of a pair with the link UP are mirrored,
and in LISTEN or STANDBY are ignored; OBJ_CMD_ACT at the boundary, with no record of the object pending, forgets
sequence validity and history, or empties the queue and counts what it flushed. -/
def Obligations.HostQueueAndObjectCommands : Prop :=
  (∀ (v : Word) (s : State),
      (v.toNat % 32768 + 32768 - getF s F.OBJ_HQ_DONE_INDEX) % 32768 ≤ 16384 →
      ∃ t, exec (.hqTailWrite v) s = .next t ∧ getF t F.OBJ_HQ_TAIL_INDEX = v.toNat % 32768 ∧
      Frame [R.OBJ_HQ_TAIL] s t { s with regs := t.regs }) ∧
  (∀ (v : Word) (s : State),
      16384 < (v.toNat % 32768 + 32768 - getF s F.OBJ_HQ_DONE_INDEX) % 32768 →
      ∃ t, exec (.hqTailWrite v) s = .next t ∧ stBit t F.OBJ_STAT_HQ_OVF = 1 ∧
      Frame (R.OBJ_STAT :: errRegs) s t { s with regs := t.regs, err := t.err, jnl := t.jnl }) ∧
  (∀ (via : Src) (v : Word) (s : State),
      running s = false →
      ∃ t, exec (.hqBaseWrite via v) s = .next t ∧ rd t R.OBJ_HQ_BASE = v &&& 0x1FFFFFF0#32 ∧
      getF t F.OBJ_HQ_TAIL_INDEX = 0 ∧ getF t F.OBJ_HQ_HEAD_INDEX = 0 ∧ getF t F.OBJ_HQ_DONE_INDEX = 0 ∧
      Frame ([R.OBJ_HQ_BASE, R.OBJ_HQ_TAIL, R.OBJ_HQ_HEAD, R.OBJ_HQ_DONE] ++ jnlRegs) s t
        { s with regs := t.regs, jnl := t.jnl, intake := { s.intake with hqFinal := [] } }) ∧
  (∀ (via : Src) (v : Word) (s : State),
      running s = true →
      ∃ t, exec (.hqBaseWrite via v) s = .next t ∧ rd t R.OBJ_HQ_BASE = rd s R.OBJ_HQ_BASE ∧
      (s.err.current = none → t.err.current.map (fun e => e.err) = some .errRwlWrite) ∧
      Frame logRegs s t { s with regs := t.regs, jnl := t.jnl, err := t.err }) ∧
  (∀ (via : Src) (o : Fin 2048) (s : State),
      isPair s = false →
      ∃ t, exec (.objCmdReseq via o) s = .next t ∧ objOf t o.val = { objOf s o.val with cmd := some (1, blk s + 1) } ∧
      (∀ p, p ≠ o.val → objOf t p = objOf s p) ∧
      Frame jnlRegs s t { s with regs := t.regs, jnl := t.jnl, intake := { s.intake with objs := t.intake.objs } }) ∧
  (∀ (via : Src) (o : Fin 2048) (s : State),
      isPair s = false →
      ∃ t, exec (.objCmdFlush via o) s = .next t ∧ objOf t o.val = { objOf s o.val with cmd := some (2, blk s + 1) } ∧
      (∀ p, p ≠ o.val → objOf t p = objOf s p) ∧
      Frame jnlRegs s t { s with regs := t.regs, jnl := t.jnl, intake := { s.intake with objs := t.intake.objs } }) ∧
  (∀ (via : Src) (o : Fin 2048) (c : Instr) (op : Nat) (s : State),
      isActive s = true ∧ flkUp s = true →
      ((c = .objCmdReseq via o ∧ op = 1) ∨ (c = .objCmdFlush via o ∧ op = 2)) →
      ∃ t, exec c s = .next t ∧ t.intake = s.intake ∧
      t.flk.undecided = s.flk.undecided ++ [⟨s.flk.nextItem, .objCmd o.val op, none⟩] ∧ SameMem s t) ∧
  (∀ (via : Src) (o : Fin 2048) (c : Instr) (s : State),
      isPassive s = true →
      (c = .objCmdReseq via o ∨ c = .objCmdFlush via o) →
      ∃ t, exec c s = .next t ∧ (s.err.current = none → t.err.current.map (fun e => e.err) = some .errWriteIgnored) ∧
      Frame logRegs s t { s with regs := t.regs, jnl := t.jnl, err := t.err }) ∧
  (∀ (o : Fin 2048) (s : State) (k : Nat),
      (objOf s o.val).cmd = some (1, k) ∧ due s k = true ∧ anyPending (objOf s o.val) = false →
      ∃ t, exec (.objCmdAct o) s = .next t ∧
      objOf t o.val = { objOf s o.val with cmd := none, seqValid := false, history := [] } ∧
      (∀ p, p ≠ o.val → objOf t p = objOf s p) ∧ Frame [] s t { s with intake := { s.intake with objs := t.intake.objs } }) ∧
  (∀ (o : Fin 2048) (s : State) (k : Nat),
      (objOf s o.val).cmd = some (2, k) ∧ due s k = true ∧ anyPending (objOf s o.val) = false →
      (objOf s o.val).queue ≠ [] →
      ∃ t, exec (.objCmdAct o) s = .next t ∧ objOf t o.val = { objOf s o.val with cmd := none, queue := [] } ∧
      rdN t R.OBJ_FLUSH_CNT = min (rdN s R.OBJ_FLUSH_CNT + (objOf s o.val).queue.length) 0xFFFFFFFF ∧
      stBit t F.OBJ_STAT_FLUSHED = 1 ∧ (∀ p, p ≠ o.val → objOf t p = objOf s p) ∧
      Frame [R.OBJ_FLUSH_CNT, R.OBJ_STAT] s t { s with regs := t.regs, intake := { s.intake with objs := t.intake.objs } })

/-- RECORD_JUDGE of a good new host-queue record, in its window, at a lone unit, for a live object with nothing queued
or current and no sequence gap, accepts it: queue, history and high number of its object, the counter, HEAD, and the
result word with verdict 1 and the effective block; of one that fails check 1 it rejects with the reason of R125 in
OBJ_REJ_LAST and the result word. RECORD_LATE_REFUSE at the effective block drops an object's one record, which is
still pending, with reason LATE. METADATA_FRAME_CHECK passes a ladle frame that checks to the ladle with its
descriptors still taken, and opens a job for a checked METADATA frame at a unit that judges records itself.
ACK_FRAME_SEND queues the acknowledgement of a finished job that asked for it, with acknowledgements enabled and the
port's link UP. -/
def Obligations.RecordsJudgedAndAnswered : Prop :=
  (∀ (s : State) (b : List Byte) (e : Nat) (origin : Int),
      s.intake.used < 2048 ∧ s.err.fatal = false ∧ nextSource s = some 4 →
      rdPacked s dramBase (getF s F.OBJ_HQ_BASE_BASE + 16 * (getF s F.OBJ_HQ_HEAD_INDEX % 16384)) 112 = b →
      checkRecord b (getF s F.TSU_MEDIA_CFG_CMP == 1) = .none ∧ running s = true →
      ((objOf s (recOf b).obj).st = 1 ∨ (objOf s (recOf b).obj).st = 2) →
      isPair s = false ∧ isWorker s = false ∧ isManager s = false →
      seqFate (objOf s (recOf b).obj) (recOf b).seq = .new false false →
      (objOf s (recOf b).obj).queue = [] ∧ (objOf s (recOf b).obj).cur = none →
      recordTime s (recOf b) (getF s F.TSU_MEDIA_CFG_CMP == 1) = .ok (e, origin, false) →
      ∃ t, exec .recordJudge s = .next t ∧
      (objOf t (recOf b).obj).queue = [⟨⟨recOf b, e, origin, false⟩, false, false, none, false, 0, [], 4, []⟩] ∧
      (objOf t (recOf b).obj).history = (((recOf b).seq, e) :: (objOf s (recOf b).obj).history).take 8 ∧
      (objOf t (recOf b).obj).high = (recOf b).seq ∧ (objOf t (recOf b).obj).seqValid = true ∧
      (∀ p, p ≠ (recOf b).obj → objOf t p = objOf s p) ∧
      rdN t R.OBJ_ACC_CNT = min (rdN s R.OBJ_ACC_CNT + 1) 0xFFFFFFFF ∧
      getF t F.OBJ_HQ_HEAD_INDEX = (getF s F.OBJ_HQ_HEAD_INDEX + 1) % 32768 ∧ stBit t F.OBJ_STAT_HQ_DONE = 1 ∧
      t.intake.used = s.intake.used + 1 ∧
      rdWord72 t dramBase (getF s F.OBJ_HQ_BASE_BASE + 16 * (getF s F.OBJ_HQ_HEAD_INDEX % 16384) + 15) =
        1 + e % 2 ^ 48 * 2 ^ 16) ∧
  (∀ (s : State) (b : List Byte) (why : RecReason),
      s.intake.used < 2048 ∧ s.err.fatal = false ∧ nextSource s = some 4 →
      rdPacked s dramBase (getF s F.OBJ_HQ_BASE_BASE + 16 * (getF s F.OBJ_HQ_HEAD_INDEX % 16384)) 112 = b →
      checkRecord b (getF s F.TSU_MEDIA_CFG_CMP == 1) = why ∧ why ≠ .none →
      ∃ t, exec .recordJudge s = .next t ∧ t.intake.objs = s.intake.objs ∧
      rdN t R.OBJ_REJ_CNT = min (rdN s R.OBJ_REJ_CNT + 1) 0xFFFFFFFF ∧ getF t F.OBJ_REJ_LAST_REASON = recReason why ∧
      getF t F.OBJ_REJ_LAST_SRC = 4 ∧ getF t F.OBJ_REJ_LAST_OBJ_ID = (recOf b).obj % 2048 ∧ stBit t F.OBJ_STAT_REJECT = 1 ∧
      getF t F.OBJ_HQ_HEAD_INDEX = (getF s F.OBJ_HQ_HEAD_INDEX + 1) % 32768 ∧
      rdWord72 t dramBase (getF s F.OBJ_HQ_BASE_BASE + 16 * (getF s F.OBJ_HQ_HEAD_INDEX % 16384) + 15) =
        3 + recReason why * 2 ^ 8) ∧
  (∀ (o : Fin 2048) (s : State) (q : QEnt),
      (objOf s o.val).queue = [q] ∧ q.pending = true ∧ q.src < 5 ∧ q.item = none ∧ q.litem = 0 ∧ q.acks = [] →
      due s q.seg.e = true →
      ∃ t, exec (.recordLateRefuse o) s = .next t ∧
      objOf t o.val = { objOf s o.val with queue := [], refused := (q.seg.rcd.seq :: (objOf s o.val).refused.filter (· != q.seg.rcd.seq)).take 8 } ∧
      (∀ p, p ≠ o.val → objOf t p = objOf s p) ∧ rdN t R.OBJ_REJ_CNT = min (rdN s R.OBJ_REJ_CNT + 1) 0xFFFFFFFF ∧
      getF t F.OBJ_REJ_LAST_REASON = 8 ∧ getF t F.OBJ_REJ_LAST_SRC = q.src ∧ getF t F.OBJ_REJ_LAST_OBJ_ID = o.val ∧
      stBit t F.OBJ_STAT_REJECT = 1 ∧
      Frame ([R.OBJ_REJ_CNT, R.OBJ_REJ_LAST, R.OBJ_STAT] ++ errRegs) s t
        { s with regs := t.regs, err := t.err, jnl := t.jnl, intake := { s.intake with objs := t.intake.objs } }) ∧
  (∀ (p : Fin 4) (s : State) (n sport dport : Nat) (u : List Byte),
      (aGet (fun _ => none) s.intake.cur p.val).isSome = false ∧ moabyCount s p.val = some n →
      bit (moabyWord s p.val (n - 1)) 47 = false →
      (parseFrame (moabyBytes s p.val n)).udp = some (sport, dport, u) →
      0x10 ≤ leAt u 3 1 ∧ leAt u 3 1 ≤ 0x1F ∧ frameCheck u (getF s F.TSU_MEDIA_CFG_CMP) = 0 →
      ∃ t, exec (.metadataFrameCheck p) s = .next t ∧
      t.intake = { s.intake with ladleIn := s.intake.ladleIn ++ [(p.val, n, (parseFrame (moabyBytes s p.val n)).src, u)] } ∧
      Frame [] s t { s with intake := t.intake }) ∧
  (∀ (p : Fin 4) (s : State) (n sport dport : Nat) (u : List Byte),
      (aGet (fun _ => none) s.intake.cur p.val).isSome = false ∧ moabyCount s p.val = some n →
      bit (moabyWord s p.val (n - 1)) 47 = false ∧ judgesOwn s = true →
      (parseFrame (moabyBytes s p.val n)).udp = some (sport, dport, u) →
      leAt u 3 1 = 1 ∧ frameCheck u (getF s F.TSU_MEDIA_CFG_CMP) = 0 →
      ∃ t, exec (.metadataFrameCheck p) s = .next t ∧ t.intake.nextJob = s.intake.nextJob + 1 ∧
      t.intake.jobs.length = s.intake.jobs.length + 1 ∧ t.intake.objs = s.intake.objs ∧
      aGet (fun _ => none) t.intake.cur p.val =
        some { descs := n, fmt := leAt u 6 1, job := s.intake.nextJob, pos := 0, left := chunks 112 17 (slice u 24 (112 * leAt u 4 2)) } ∧
      Frame [] s t { s with intake := t.intake }) ∧
  (∀ (s : State) (j : AckJob),
      s.intake.jobs.find? jobDone = some j ∧ j.asked = true →
      getF s F.OBJ_CFG_ACK_EN = 1 ∧ s.err.fatal = false ∧ linkUp s j.port = true →
      ∃ t, exec .ackFrameSend s = .next t ∧ t.intake.jobs = s.intake.jobs.filter (fun x => x.id != j.id) ∧
      portOf t j.port = { portOf s j.port with acks := (portOf s j.port).acks ++ [⟨getF s F.OBJ_CFG_ACK_TC, 256, ackFrame s j⟩] } ∧
      (∀ p, p ≠ j.port → portOf t p = portOf s p) ∧ Frame [] s t { s with intake := t.intake, net := t.net })

/-- RTE_COMMIT at a running unit that is not passive, free of another commit, in time and within the table's length is
pending with STATE 1, and at any other unit that is not passive is refused with reason 8, 1, 2 or 11;
RTE_VALIDATION_DONE of a valid shadow table at a unit that is not the active unit of a pair accepts it, counts it
and shows STATE 2, and of an invalid one refuses it with the reason and leaves the live table; RTE_COMMIT_APPLY at
the strobe of its block makes the table live from that input block with the crossfade of the live copy of RTE_CFG;
RTE_XF_DONE at its end sets XF_DONE; RTE_COPY with no commit pending at a unit that is not passive writes the live
table and its count to the shadow table. -/
def Obligations.RouteTablesCommit : Prop :=
  (∀ (via : Src) (s : State),
      isPassive s = false ∧ running s = true ∧ rtePending s = false →
      isLate s (rd64 s R.RTE_MSI_LO R.RTE_MSI_HI) = false ∧ getF s F.RTE_SHD_COUNT_COUNT ≤ 143392 →
      ∃ t, exec (.rteCommit via) s = .next t ∧
      t.rte.cmt = some { via := via, k := ceil16 (rd64 s R.RTE_MSI_LO R.RTE_MSI_HI), endBlock := blk s + max 1 ((getF s F.RTE_SHD_COUNT_COUNT + 16383) / 16384), validated := false, accepted := false } ∧
      getF t F.RTE_STATE_CMT = 1 ∧
      Frame (R.RTE_STATE :: jnlRegs) s t { s with regs := t.regs, jnl := t.jnl, rte := { s.rte with cmt := t.rte.cmt } }) ∧
  (∀ (via : Src) (s : State),
      isPassive s = false →
      (running s = false ∨ rtePending s = true ∨ isLate s (rd64 s R.RTE_MSI_LO R.RTE_MSI_HI) = true ∨ 143392 < getF s F.RTE_SHD_COUNT_COUNT) →
      ∃ t, exec (.rteCommit via) s = .next t ∧ getF t F.RTE_RESULT_CMD = 1 ∧ stBit t F.RTE_STAT_REFUSED = 1 ∧
      getF t F.RTE_RESULT_REASON = (if running s = false then 8 else if rtePending s then 1
        else if isLate s (rd64 s R.RTE_MSI_LO R.RTE_MSI_HI) then 2 else 11) ∧
      Frame ([R.RTE_RESULT, R.RTE_REFUSE_CNT, R.RTE_STAT] ++ logRegs) s t { s with regs := t.regs, jnl := t.jnl, err := t.err }) ∧
  (∀ (s : State) (c : RouteCmt) (tbl : List RouteEnt),
      s.rte.cmt = some c ∧ c.validated = false ∧ c.endBlock ≤ blk s ∧ s.err.fatal = false ∧ isActive s = false →
      shadowCheck s (getF s F.RTE_SHD_COUNT_COUNT) 0 [] = .ok tbl →
      (nonLockedOf s tbl).length ≤ 2048 →
      ∃ t, exec .rteValidationDone s = .next t ∧ t.rte.cmt = some { c with validated := true, accepted := true } ∧
      getF t F.RTE_STATE_CMT = 2 ∧ rdN t R.RTE_COMMIT_CNT = min (rdN s R.RTE_COMMIT_CNT + 1) 0xFFFFFFFF ∧
      getF t F.RTE_RESULT_CMD = 1 ∧ getF t F.RTE_RESULT_REASON = 0 ∧ stBit t F.RTE_STAT_ACCEPTED = 1 ∧
      Frame ([R.RTE_STATE, R.RTE_COMMIT_CNT, R.RTE_STAT, R.RTE_RESULT] ++ jnlRegs) s t
        { s with regs := t.regs, jnl := t.jnl, rte := { s.rte with cmt := t.rte.cmt } }) ∧
  (∀ (s : State) (c : RouteCmt) (why i : Nat),
      s.rte.cmt = some c ∧ c.validated = false ∧ c.endBlock ≤ blk s ∧ s.err.fatal = false →
      shadowCheck s (getF s F.RTE_SHD_COUNT_COUNT) 0 [] = .error (why, i) →
      why < 256 →
      ∃ t, exec .rteValidationDone s = .next t ∧ t.rte.cmt = none ∧ getF t F.RTE_STATE_CMT = 0 ∧ getF t F.RTE_RESULT_CMD = 1 ∧
      getF t F.RTE_RESULT_REASON = why ∧ getF t F.RTE_RENT_ENTRY = i % 2 ^ 18 ∧ stBit t F.RTE_STAT_REFUSED = 1 ∧
      t.rte.epochs = s.rte.epochs) ∧
  (∀ (s : State) (c : RouteCmt),
      s.rte.cmt = some c ∧ c.accepted = true ∧ due s c.k = true ∧ s.rte.mirrored = none →
      ∃ t, exec .rteCommitApply s = .next t ∧ t.rte.cmt = none ∧ getF t F.RTE_STATE_CMT = 0 ∧
      (epochNow t).first = c.k ∧ (epochNow t).table = shadowTable s ∧
      (epochNow t).len = (if getL s F.RTE_CFG_XF = 0 then 64 else getL s F.RTE_CFG_XF) ∧ (epochNow t).law = getL s F.RTE_CFG_LAW ∧
      c.k + (epochNow t).len + 2 ∈ t.rte.doneAt ∧ getF t F.RTE_STATE_XF = 1 ∧
      rd64 t R.RTE_APPLY_LO R.RTE_APPLY_HI = 16 * c.k % 2 ^ 64 ∧
      getF t F.RTE_LIVE_COUNT_COUNT = (shadowTable s).length % 2 ^ 18 ∧ SameMem s t) ∧
  (∀ (s : State),
      s.rte.doneAt.any (due s) = true →
      ∃ t, exec .rteXfDone s = .next t ∧ t.rte = { s.rte with doneAt := s.rte.doneAt.filter (fun d => !due s d) } ∧
      stBit t F.RTE_STAT_XF_DONE = 1 ∧ (t.rte.doneAt = [] → getF t F.RTE_STATE_XF = 0 ∧ getF t F.RTE_STATE_REMAIN = 0) ∧
      Frame [R.RTE_STAT, R.RTE_STATE] s t { s with regs := t.regs, rte := t.rte }) ∧
  (∀ (via : Src) (s : State),
      isPassive s = false ∧ s.rte.cmt = none →
      ∃ t, exec (.rteCopy via) s = .next t ∧ getF t F.RTE_RESULT_CMD = 2 ∧ getF t F.RTE_RESULT_REASON = 0 ∧
      getF t F.RTE_SHD_COUNT_COUNT = (epochNow s).table.length % 2 ^ 18 ∧
      (∀ i r, (epochNow s).table[i]? = some r →
        rdWord72 t poolBase (shadowBase + 2 * i) = (r.source + 65536 * r.dst + 2 ^ 32 * r.kind) % 2 ^ 72 ∧
        rdWord72 t poolBase (shadowBase + 2 * i + 1) = code 36 r.gain) ∧
      t.rte = s.rte ∧ KeptBut ([R.RTE_RESULT, R.RTE_SHD_COUNT] ++ jnlRegs) s t)

/-- RTE_CANCEL at a unit that is not passive: while its write completes with the current block plus the minimum lead at
most the commit's block, the commit, or one left pending by a mirrored commit, is withdrawn and RTE_RESULT shows
CANCEL with reason 0 (an active unit of a pair that has mirrored the commit sends the withdrawal to its standby
first); later it is refused with TOO_LATE and the commit proceeds; with no commit pending it is refused with
NOT_PENDING, and then the tables and memory stay as they are. -/
def Obligations.RouteCancelRule : Prop :=
  (∀ (via : Src) (s : State) (c : RouteCmt),
      isPassive s = false ∧ s.rte.cmt = some c ∧ blk s + leadCmd s ≤ c.k →
      (isActive s && c.validated) = false →
      ∃ t, exec (.rteCancel via) s = .next t ∧ t.rte = { s.rte with cmt := none, mirrored := none } ∧ getF t F.RTE_STATE_CMT = 0 ∧
      getF t F.RTE_RESULT_CMD = 3 ∧ getF t F.RTE_RESULT_REASON = 0 ∧
      Frame ([R.RTE_STATE, R.RTE_RESULT] ++ jnlRegs) s t { s with regs := t.regs, jnl := t.jnl, rte := t.rte }) ∧
  (∀ (via : Src) (s : State) (c : RouteCmt),
      isPassive s = false ∧ s.rte.cmt = some c ∧ c.k < blk s + leadCmd s →
      ∃ t, exec (.rteCancel via) s = .next t ∧ t.rte = s.rte ∧ getF t F.RTE_STATE_CMT = getF s F.RTE_STATE_CMT ∧
      getF t F.RTE_RESULT_CMD = 3 ∧ getF t F.RTE_RESULT_REASON = 10 ∧ stBit t F.RTE_STAT_REFUSED = 1 ∧
      Frame ([R.RTE_RESULT, R.RTE_REFUSE_CNT, R.RTE_STAT] ++ logRegs) s t { s with regs := t.regs, jnl := t.jnl, err := t.err }) ∧
  (∀ (via : Src) (s : State),
      isPassive s = false ∧ rtePending s = false →
      ∃ t, exec (.rteCancel via) s = .next t ∧ t.rte = s.rte ∧ getF t F.RTE_STATE_CMT = getF s F.RTE_STATE_CMT ∧
      getF t F.RTE_RESULT_CMD = 3 ∧ getF t F.RTE_RESULT_REASON = 12 ∧ stBit t F.RTE_STAT_REFUSED = 1 ∧
      Frame ([R.RTE_RESULT, R.RTE_REFUSE_CNT, R.RTE_STAT] ++ logRegs) s t { s with regs := t.regs, jnl := t.jnl, err := t.err }) ∧
  (∀ (via : Src) (s : State) (k : Nat) (tbl : List RouteEnt),
      isPassive s = false ∧ isActive s = false ∧ s.rte.cmt = none ∧ s.rte.mirrored = some (k, tbl) ∧ blk s + leadCmd s ≤ k →
      ∃ t, exec (.rteCancel via) s = .next t ∧ t.rte = { s.rte with mirrored := none } ∧ getF t F.RTE_STATE_CMT = 0 ∧
      getF t F.RTE_RESULT_CMD = 3 ∧ getF t F.RTE_RESULT_REASON = 0 ∧
      Frame ([R.RTE_STATE, R.RTE_RESULT] ++ jnlRegs) s t { s with regs := t.regs, jnl := t.jnl, rte := t.rte }) ∧
  (∀ (via : Src) (s : State) (c : RouteCmt),
      s.rte.cmt = some c ∧ blk s + leadCmd s ≤ c.k ∧ isActive s = true ∧ c.validated = true ∧ flkUp s = true →
      ∃ t, exec (.rteCancel via) s = .next t ∧ t.rte = s.rte ∧
      t.flk.sent = (flkSend (.mirror [(s.flk.nextItem, .routeCancel c.k)]) s).flk.sent ∧
      t.flk.undecided = s.flk.undecided ++ [⟨s.flk.nextItem, .routeCancel c.k, some c.k⟩])

/-- RC_XFADE_END at the boundary after a coefficient crossfade swaps the output's live and staging sets and sets
XF_DONE; SILENCE_HOLD_REACHED, where detection is enabled, flags the output, or every slot of the object, whose
count has reached its hold; GEO_OVERRUN drops the targets that were not written in time and counts; G_CHANGE at its
block brings the new period into effect; SCALE_PERIOD_END of a period that is not held, once stage A has processed
its last block, begins the fall; SCALE_XFADE_END 64 blocks on ends it and sets SCALE_END. -/
def Obligations.RenderEventsAtBoundaries : Prop :=
  (∀ (j : Fin 1024) (s : State) (first len : Nat),
      (coefOf s j.val).xf = some (first, len) ∧ due s (coefEnd s j.val first len) = true →
      ∃ t, exec (.rcXfadeEnd j) s = .next t ∧
      coefOf t j.val = { taps := (coefOf s j.val).staging, specs := (coefOf s j.val).stagingSpecs, staging := (coefOf s j.val).taps, stagingSpecs := (coefOf s j.val).specs, live := 1 - (coefOf s j.val).live, xf := none } ∧
      (∀ i, i ≠ j.val → coefOf t i = coefOf s i) ∧ stBit t F.SPK_STAT_XF_DONE = 1 ∧
      Frame [R.SPK_STAT] s t { s with regs := t.regs, flt := { s.flt with coef := t.flt.coef } }) ∧
  (∀ (ch : Fin 3072) (s : State),
      2048 ≤ ch.val ∧ getL s (F.VSPK_CCFG_SIL_EN (ch.val - 2048)) = 1 →
      silHold s (getL s (F.VSPK_CSIL_HOLD (ch.val - 2048))) ≤ (chanOf s (ch.val - 2048)).silCount →
      ∃ t, exec (.silenceHoldReached ch) s = .next t ∧
      chanOf t (ch.val - 2048) = { chanOf s (ch.val - 2048) with silA := true } ∧
      (∀ c, c ≠ ch.val - 2048 → chanOf t c = chanOf s c) ∧ Frame [] s t { s with rnd := t.rnd }) ∧
  (∀ (ch : Fin 3072) (s : State),
      ch.val < 2048 ∧ getL s F.SPK_OSIL_CFG_EN = 1 →
      ∃ t, exec (.silenceHoldReached ch) s = .next t ∧
      (∀ h, h ∈ s.rnd.slots.map (fun p => p.1) → (slotOf s h).obj = some ch.val →
        silHold s (getL s F.SPK_OSIL_CFG_HOLD) ≤ (slotOf s h).silCount → slotOf t h = { slotOf s h with silent := true }) ∧
      (∀ h, (slotOf s h).obj ≠ some ch.val → slotOf t h = slotOf s h) ∧ Frame [] s t { s with rnd := t.rnd }) ∧
  (∀ (h : Fin 2048) (s : State) (x : GeoTgt),
      (geoOf s h.val).next = some x →
      ∃ t, exec (.geoOverrun h) s = .next t ∧ geoOf t h.val = { geoOf s h.val with next := none } ∧
      (∀ g, g ≠ h.val → geoOf t g = geoOf s g) ∧ rdN t R.GEO_OVR_CNT = min (rdN s R.GEO_OVR_CNT + 1) 0xFFFFFFFF ∧
      stBit t F.GEO_STAT_OVR = 1 ∧
      Frame ([R.GEO_OVR_CNT, R.GEO_STAT] ++ errRegs) s t { s with regs := t.regs, err := t.err, jnl := t.jnl, geo := t.geo }) ∧
  (∀ (s : State) (g q : Nat),
      s.geo.gNext = some (g, q) ∧ due s q = true →
      ∃ t, exec .gChange s = .next t ∧ t.geo = { s.geo with gPrev := s.geo.gEff, gEff := g, gSince := q, gNext := none } ∧
      getF t F.GEO_UNITS_G_EFF = g % 32 ∧ stBit t F.GEO_STAT_G_CHG = 1 ∧
      Frame [R.GEO_UNITS, R.GEO_STAT] s t { s with regs := t.regs, geo := t.geo }) ∧
  (∀ (s : State),
      (s.asc.phase = 1 ∨ s.asc.phase = 3) →
      s.asc.hold = false ∧ s.asc.stop + 2 ≤ blk s →
      ∃ t, exec .scalePeriodEnd s = .next t ∧ t = { s with asc := { s.asc with phase := 2, start := s.asc.stop } } ∧
      (∀ k, ascBeta t.asc s.asc.stop k = 1024 - min 1024 (k + 1))) ∧
  (∀ (s : State),
      s.asc.phase = 2 ∧ s.asc.start + 66 ≤ blk s →
      ∃ t, exec .scaleXfadeEnd s = .next t ∧ t.asc.phase = 0 ∧ (∀ b k, ascBeta t.asc b k = 0) ∧ stBit t F.SPK_STAT_SCALE_END = 1 ∧
      Frame [R.SPK_STAT] s t { s with regs := t.regs, asc := t.asc })

/-- RX_FRAME of at most 63 bytes on an UP link counts a runt; one that passes size, FCS and address and is classified to
a configured ring with a free descriptor whose buffer holds it advances HEAD by one and leaves DONE, SOP, EOP, its
length and its buffer in word 0. LINK_UP of a port that is not DISABLED brings a link UP, in MODE 4 with AN_EN once
auto-negotiation is complete, and an SGMII word with an unsupported speed shows SPD_ERR; LINK_DOWN of an UP link
with no transmit ring's frame on the line sets the link state and discards and counts what the hardware sources had
queued; with nothing so queued and a ring's frame still on the line it completes that frame's descriptors under
LINK. RX_RING_TAIL_WRITE in range publishes free descriptors and is ignored for ring 1; RING_CFG_WRITE of a receive
ring's CFG or a transmit ring's BASE on a stopped unit takes the value and returns HEAD and TAIL to 0, and while a
Pattern runs a receive ring's CFG is not taken. -/
def Obligations.FramesReceivedIntoRings : Prop :=
  (∀ (p : Fin 4) (inp : RxIn) (s : State),
      getF s (F.NET_CFG_MODE p.val) ≠ 0 ∧ linkUp s p.val = true ∧ inp.bytes.length ≤ 63 →
      ∃ t, exec (.rxFrame p inp) s = .next t ∧ rdN t (R.NET_RX_RUNT p.val) = min (rdN s (R.NET_RX_RUNT p.val) + 1) 0xFFFFFFFF ∧
      Frame [R.NET_RX_RUNT p.val] s t { s with regs := t.regs }) ∧
  (∀ (p r : Fin 4) (inp : RxIn) (s u : State) (b : List Byte),
      getF s (F.NET_CFG_MODE p.val) ≠ 0 ∧ linkUp s p.val = true →
      64 ≤ inp.bytes.length ∧ inp.bytes.length ≤ getF s (F.NET_MAXFRM_MAXFRM p.val) ∧ fcsOk inp.bytes = true →
      addressOk s p.val (beAt inp.bytes 0 6) = true ∧ bit (getF s F.BST_MAP_MAP) (21 + p.val) = false →
      u = cnt s (R.NET_RX_FRAMES p.val) ∧ b = inp.bytes.take (inp.bytes.length - 4) →
      classify u p.val (parseFrame b) = .ring r.val ∧ getF s (F.NET_RR_CFG_SIZE p.val r.val) ≠ 0 →
      inp.fifoRing + b.length ≤ 65536 ∧ b.length ≤ bufBytes s p.val r.val ∧ b.length < 4096 →
      rrFree s p.val r.val ≠ 0 ∧ getF s (F.NET_RR_STATE_NOBUF p.val r.val) = 0 →
      ∃ t w, exec (.rxFrame p inp) s = .next t ∧
      rdN t (R.NET_RX_FRAMES p.val) = min (rdN s (R.NET_RX_FRAMES p.val) + 1) 0xFFFFFFFF ∧
      getF t (F.NET_RR_HEAD_INDEX p.val r.val) = (getF s (F.NET_RR_HEAD_INDEX p.val r.val) + 1) % 8192 ∧
      getF t (F.NET_RR_STATE_FREE p.val r.val) = rrFree s p.val r.val - 1 ∧
      rdWord72 t (rrBase r.val) (rrDesc s p.val r.val (getF s (F.NET_RR_HEAD_INDEX p.val r.val)) 0) = w ∧
      bit w 44 = true ∧ bit w 45 = true ∧ bit w 46 = true ∧ bit w 47 = false ∧ bits w 43 32 = b.length ∧
      bits w 28 0 = bits (rdWord72 s (rrBase r.val) (rrDesc s p.val r.val (getF s (F.NET_RR_HEAD_INDEX p.val r.val)) 0)) 28 0 ∧
      t = { s with regs := t.regs, mem := t.mem } ∧
      KeptBut [R.NET_RX_FRAMES p.val, R.NET_RR_HEAD p.val r.val, R.NET_RR_STATE p.val r.val] s t) ∧
  (∀ (p : Fin 4) (badSpeed anDone : Bool) (s : State),
      (getF s (F.NET_CFG_MODE p.val) ≠ 0 ∧ linkUp s p.val = false ∧ (getF s (F.NET_CFG_MODE p.val) = 5 → badSpeed = false)) →
      (getF s (F.NET_CFG_MODE p.val) = 4 → getF s (F.NET_CFG_AN_EN p.val) = 1 → anDone = true) →
      ∃ t, exec (.linkUp p badSpeed anDone) s = .next t ∧ linkUp t p.val = true ∧ getF t (F.NET_LINK_SPD_ERR p.val) = 0 ∧
      getF t (F.NET_LINK_AN_DONE p.val) = b2n anDone ∧ getF t (F.NET_LINK_FEC p.val) = b2n (getF s (F.NET_CFG_MODE p.val) == 2) ∧ stBit t (F.NET_STAT_LINK_UP p.val) = 1 ∧
      portOf t p.val = { portOf s p.val with cut := false } ∧ (∀ q, q ≠ p.val → portOf t q = portOf s q) ∧
      Frame [R.NET_LINK p.val, R.NET_STAT p.val] s t { s with regs := t.regs, net := t.net }) ∧
  (∀ (p : Fin 4) (anDone : Bool) (s : State),
      getF s (F.NET_CFG_MODE p.val) = 5 ∧ linkUp s p.val = false →
      ∃ t, exec (.linkUp p true anDone) s = .next t ∧ linkUp t p.val = false ∧ getF t (F.NET_LINK_SPD_ERR p.val) = 1 ∧
      Frame [R.NET_LINK p.val] s t { s with regs := t.regs }) ∧
  (∀ (p : Fin 4) (s : State),
      (linkUp s p.val = true ∧ (∀ x, x ∈ (portOf s p.val).streams → x.ctx < 256) ∧ (∀ x, (portOf s p.val).sending = some x → 4 ≤ x.1)) →
      ∃ t, exec (.linkDown p) s = .next t ∧
      getF t (F.NET_LINK_STATE p.val) = (if getF s (F.NET_CFG_MODE p.val) = 0 then 0 else 1) ∧
      getF t (F.NET_LINK_TX_LPI p.val) = 0 ∧ getF t (F.NET_LINK_AN_DONE p.val) = 0 ∧
      portOf t p.val = { portOf s p.val with streams := [], acks := [], ladle := [], waking := none, cut := true, sending := none } ∧
      (∀ q, q ≠ p.val → portOf t q = portOf s q) ∧
      rdN t (R.NET_TX_LINK p.val) =
        min (rdN s (R.NET_TX_LINK p.val) + ((portOf s p.val).acks.length + (portOf s p.val).ladle.length)) 0xFFFFFFFF ∧
      rdN t (R.NET_LINKDN_CNT p.val) = min (rdN s (R.NET_LINKDN_CNT p.val) + 1) 0xFFFFFFFF ∧
      stBit t (F.NET_STAT_LINK_DN p.val) = 1 ∧
      Frame ([R.NET_LINK p.val, R.NET_TX_LINK p.val, R.NET_LINKDN_CNT p.val, R.NET_STAT p.val] ++ errRegs ++ (portOf s p.val).streams.map (fun x => R.STR_TX_LINK x.ctx))
        s t { s with regs := t.regs, err := t.err, jnl := t.jnl, net := t.net }) ∧
  (∀ (p : Fin 4) (s : State) (r n stop : Nat),
      linkUp s p.val = true ∧ (portOf s p.val).sending = some (r, n, stop) ∧ r < 4 ∧ nowStamp s < stop →
      (portOf s p.val).streams = [] ∧ (portOf s p.val).acks = [] ∧ (portOf s p.val).ladle = [] →
      ∃ t, exec (.linkDown p) s = .next t ∧ linkUp t p.val = false ∧ (portOf t p.val).sending = none ∧ (portOf t p.val).cut = true ∧
      getF t (F.NET_TR_HEAD_INDEX p.val r) = (getF s (F.NET_TR_HEAD_INDEX p.val r) + n) % 8192 ∧
      rdN t (R.NET_TX_LINK p.val) = min (rdN s (R.NET_TX_LINK p.val) + 1) 0xFFFFFFFF ∧
      (∀ i, i < n → bits (rdWord72 t dramBase (trDesc s p.val r (getF s (F.NET_TR_HEAD_INDEX p.val r) + i) 0)) 53 50 = 4) ∧
      (∀ q, q ≠ p.val → portOf t q = portOf s q)) ∧
  (∀ (p r : Fin 4) (v : Word) (s : State),
      r.val ≠ 1 →
      (v.toNat % 8192 + 8192 - getF s (F.NET_RR_HEAD_INDEX p.val r.val)) % 8192 ≤ getF s (F.NET_RR_CFG_SIZE p.val r.val) →
      ∃ t, exec (.rxRingTailWrite p r v) s = .next t ∧ getF t (F.NET_RR_TAIL_INDEX p.val r.val) = v.toNat % 8192 ∧
      getF t (F.NET_RR_STATE_FREE p.val r.val) = (v.toNat % 8192 + 8192 - getF s (F.NET_RR_HEAD_INDEX p.val r.val)) % 8192 ∧
      Frame [R.NET_RR_TAIL p.val r.val, R.NET_RR_STATE p.val r.val] s t { s with regs := t.regs }) ∧
  (∀ (p : Fin 4) (v : Word) (s : State),
      exec (.rxRingTailWrite p 1 v) s = .next s) ∧
  (∀ (via : Src) (p r : Fin 4) (v : Word) (s : State),
      running s = false ∧ r.val ≠ 1 ∧ ringSizeOk (fget v 12 0) = true ∧ fget v 18 16 ≤ 3 →
      ∃ t, exec (.ringCfgWrite via p r false false v) s = .next t ∧ rd t (R.NET_RR_CFG p.val r.val) = v &&& 0x00071FFF#32 ∧
      getF t (F.NET_RR_HEAD_INDEX p.val r.val) = 0 ∧ getF t (F.NET_RR_TAIL_INDEX p.val r.val) = 0 ∧
      getF t (F.NET_RR_STATE_NOBUF p.val r.val) = getF s (F.NET_RR_STATE_NOBUF p.val r.val) ∧ getF t (F.NET_RR_STATE_FREE p.val r.val) = 0 ∧
      Frame ([R.NET_RR_CFG p.val r.val, R.NET_RR_HEAD p.val r.val, R.NET_RR_TAIL p.val r.val, R.NET_RR_STATE p.val r.val] ++ jnlRegs)
        s t { s with regs := t.regs, jnl := t.jnl }) ∧
  (∀ (via : Src) (p r : Fin 4) (v : Word) (s : State),
      running s = false →
      ∃ t, exec (.ringCfgWrite via p r true true v) s = .next t ∧ rd t (R.NET_TR_BASE p.val r.val) = v &&& 0x1FFFFFFE#32 ∧
      getF t (F.NET_TR_HEAD_INDEX p.val r.val) = 0 ∧ getF t (F.NET_TR_TAIL_INDEX p.val r.val) = 0 ∧
      (∀ q, q ≠ p.val → portOf t q = portOf s q) ∧
      Frame ([R.NET_TR_BASE p.val r.val, R.NET_TR_HEAD p.val r.val, R.NET_TR_TAIL p.val r.val] ++ jnlRegs) s t
        { s with regs := t.regs, jnl := t.jnl, net := t.net }) ∧
  (∀ (via : Src) (p r : Fin 4) (v : Word) (s : State),
      running s = true →
      ∃ t, exec (.ringCfgWrite via p r false false v) s = .next t ∧
      rd t (R.NET_RR_CFG p.val r.val) = rd s (R.NET_RR_CFG p.val r.val) ∧ t.net = s.net ∧ SameMem s t)

/-- TX_RING_TAIL_WRITE in range publishes descriptors and notes a TAIL left inside a frame; TX_FRAME of an UP, awake,
ungated port with an idle line whose only work is one acknowledgement puts it, padded and with its FCS, on the line
and counts it; TX_TAIL_TIMEOUT more than a block later completes the descriptors as BADDESC where the frame stands
at its ring's head, and else marks it for its turn; GCL_COMMIT of an in-range list in time is pending, GCL_CANCEL in
time withdraws it, GCL_APPLY at its block makes the list operational from entry 0, GCL_ENTRY_ADVANCE goes to the
next entry, or from the last one to the start of a new cycle; LPI_ENTER where R279 allows it counts and shows low-
power idle, LPI_WAKE leaves it on a queued frame, or with gating TW_TX before a gate that matters opens. -/
def Obligations.FramesSentAndGated : Prop :=
  (∀ (p r : Fin 4) (v : Word) (s : State),
      (v.toNat % 8192 + 8192 - getF s (F.NET_TR_HEAD_INDEX p.val r.val)) % 8192 ≤ getF s (F.NET_TR_CFG_SIZE p.val r.val) →
      ∃ t, exec (.txRingTailWrite p r v) s = .next t ∧ getF t (F.NET_TR_TAIL_INDEX p.val r.val) = v.toNat % 8192 ∧
      portOf t p.val = { portOf s p.val with
        inside := (match trInside t p.val r.val, ((portOf s p.val).inside.find? (fun x => x.1 == r.val)).map (fun x => x.2) with
          | none, _ => aErase (portOf s p.val).inside r.val
          | some i, some (j, at_) => aInsert (portOf s p.val).inside r.val (i, if i = j then at_ else s.msi)
          | some i, none => aInsert (portOf s p.val).inside r.val (i, s.msi)) } ∧
      (∀ q, q ≠ p.val → portOf t q = portOf s q) ∧
      Frame [R.NET_TR_TAIL p.val r.val] s t { s with regs := t.regs, net := t.net }) ∧
  (∀ (p : Fin 4) (cycleNs stamp : BitVec 64) (s : State) (x : TxItem),
      s.err.fatal = false ∧ bit (getF s F.BST_MAP_MAP) (21 + p.val) = false →
      (portOf s p.val).streams = [] ∧ (portOf s p.val).ladle = [] ∧ (portOf s p.val).acks = [x] ∧ x.tc < 8 →
      (List.range 4).all (fun r => trAvail s p.val r == 0) = true ∧ getF s (F.NET_GCL_STATE_OPER_EN p.val) = 0 →
      linkUp s p.val = true ∧ gateOpen s = true ∧ getF s (F.NET_LINK_TX_LPI p.val) = 0 →
      (portOf s p.val).sending = none ∧ wakingAt s p.val stamp.toNat = false →
      ∃ t, exec (.txFrame p cycleNs stamp) s = .next t ∧
      portOf t p.val = { portOf s p.val with acks := [], line := padFrame x.bytes ++ leBytes 4 (crc32 (padFrame x.bytes)), sending := some (4, 0, stamp.toNat + lineStamps s p.val x.bytes.length), waking := none, turn := aInsert (portOf s p.val).turn x.tc 1 } ∧
      (∀ q, q ≠ p.val → portOf t q = portOf s q) ∧
      rdN t (R.NET_TX_FRAMES p.val) = min (rdN s (R.NET_TX_FRAMES p.val) + 1) 0xFFFFFFFF ∧
      Frame [R.NET_TX_FRAMES p.val] s t { s with regs := t.regs, net := t.net }) ∧
  (∀ (p r : Fin 4) (s : State) (i at_ : Nat),
      (portOf s p.val).inside.find? (fun x => x.1 == r.val) = some (r.val, i, at_) ∧ at_ + 16 < s.msi →
      trInside s p.val r.val = some i ∧ (trCount s p.val r.val).isSome = true →
      ∃ t, exec (.txTailTimeout p r) s = .next t ∧
      portOf t p.val = { portOf s p.val with overdue := aInsert (portOf s p.val).overdue r.val i } ∧
      (∀ q, q ≠ p.val → portOf t q = portOf s q) ∧ Frame [] s t { s with net := t.net }) ∧
  (∀ (p r : Fin 4) (s : State) (i at_ : Nat),
      (portOf s p.val).inside.find? (fun x => x.1 == r.val) = some (r.val, i, at_) ∧ at_ + 16 < s.msi →
      trInside s p.val r.val = some i ∧ trCount s p.val r.val = none →
      ∃ t, exec (.txTailTimeout p r) s = .next t ∧
      rdN t (R.NET_TX_BADDESC p.val) = min (rdN s (R.NET_TX_BADDESC p.val) + 1) 0xFFFFFFFF ∧
      getF t (F.NET_TR_HEAD_INDEX p.val r.val) = getF s (F.NET_TR_TAIL_INDEX p.val r.val) ∧
      stBit t (F.NET_STAT_TX_REJECT p.val) = 1 ∧
      (portOf t p.val).inside.find? (fun x => x.1 == r.val && x.2.1 == i) = none ∧ (∀ q, q ≠ p.val → portOf t q = portOf s q) ∧
      (∀ i, i < trAvail s p.val r.val →
        bits (rdWord72 t dramBase (trDesc s p.val r.val (getF s (F.NET_TR_HEAD_INDEX p.val r.val) + i) 0)) 53 50 = 5) ∧
      KeptBut ([R.NET_TX_BADDESC p.val, R.NET_TR_HEAD p.val r.val, R.NET_STAT p.val] ++ errRegs) s t) ∧
  (∀ (via : Src) (p : Fin 4) (s : State),
      isLate s (rd64 s (R.NET_GCL_MSI_LO p.val) (R.NET_GCL_MSI_HI p.val)) = false →
      (portOf s p.val).gclPend = none ∧ gclRangeOk s p.val = true →
      ∃ t, exec (.gclCommit via p) s = .next t ∧
      portOf t p.val = { portOf s p.val with gclPend := some (ceil16 (rd64 s (R.NET_GCL_MSI_LO p.val) (R.NET_GCL_MSI_HI p.val))) } ∧
      (∀ q, q ≠ p.val → portOf t q = portOf s q) ∧ getF t (F.NET_GCL_STATE_PEND p.val) = 1 ∧
      getF t (F.NET_GCL_STATE_CMD p.val) = 1 ∧ getF t (F.NET_GCL_STATE_REASON p.val) = 0 ∧
      Frame (R.NET_GCL_STATE p.val :: jnlRegs) s t { s with regs := t.regs, jnl := t.jnl, net := t.net }) ∧
  (∀ (via : Src) (p : Fin 4) (s : State) (k : Nat),
      (portOf s p.val).gclPend = some k ∧ inTime s k = true →
      ∃ t, exec (.gclCancel via p) s = .next t ∧ portOf t p.val = { portOf s p.val with gclPend := none } ∧
      (∀ q, q ≠ p.val → portOf t q = portOf s q) ∧ getF t (F.NET_GCL_STATE_PEND p.val) = 0 ∧
      getF t (F.NET_GCL_STATE_CMD p.val) = 2 ∧ getF t (F.NET_GCL_STATE_REASON p.val) = 0 ∧
      Frame (R.NET_GCL_STATE p.val :: jnlRegs) s t { s with regs := t.regs, jnl := t.jnl, net := t.net }) ∧
  (∀ (p : Fin 4) (s : State) (k : Nat),
      (portOf s p.val).gclPend = some k ∧ due s k = true ∧ getF s (F.NET_GCL_CTL_LEN p.val) ≤ 256 →
      ∃ t, exec (.gclApply p) s = .next t ∧
      portOf t p.val = { portOf s p.val with gclPend := none, operLen := getF s (F.NET_GCL_CTL_LEN p.val), operCycle := getF s (F.NET_GCL_CYCLE_CYCLE p.val), entryAt := 0, entrySince := nowStamp s } ∧
      (∀ q, q ≠ p.val → portOf t q = portOf s q) ∧
      (∀ i, i < getF s (F.NET_GCL_CTL_LEN p.val) → rd t (R.NET_GCL_OPER p.val i) = rd s (R.NET_GCL_SHD p.val i)) ∧
      getF t (F.NET_GCL_STATE_OPER_EN p.val) = getF s (F.NET_GCL_CTL_EN p.val) ∧ getF t (F.NET_GCL_STATE_PEND p.val) = 0 ∧
      getF t (F.NET_GCL_STATE_ENTRY p.val) = 0 ∧ stBit t (F.NET_STAT_GCL_APPLIED p.val) = 1 ∧
      Frame ([R.NET_GCL_STATE p.val, R.NET_STAT p.val] ++ (List.range 256).map (R.NET_GCL_OPER p.val)) s t
        { s with regs := t.regs, net := t.net }) ∧
  (∀ (p : Fin 4) (s : State),
      getF s (F.NET_GCL_STATE_OPER_EN p.val) = 1 ∧ (portOf s p.val).operLen ≤ 256 →
      getF s (F.NET_GCL_STATE_ENTRY p.val) + 1 < (portOf s p.val).operLen →
      (portOf s p.val).entryAt + getF s (F.NET_GCL_OPER_INTERVAL p.val (getF s (F.NET_GCL_STATE_ENTRY p.val))) < (portOf s p.val).operCycle →
      ∃ t, exec (.gclEntryAdvance p) s = .next t ∧ getF t (F.NET_GCL_STATE_ENTRY p.val) = getF s (F.NET_GCL_STATE_ENTRY p.val) + 1 ∧
      (portOf t p.val).entryAt = (portOf s p.val).entryAt + getF s (F.NET_GCL_OPER_INTERVAL p.val (getF s (F.NET_GCL_STATE_ENTRY p.val))) ∧
      Frame [R.NET_GCL_STATE p.val] s t { s with regs := t.regs, net := t.net }) ∧
  (∀ (p : Fin 4) (s : State),
      getF s (F.NET_GCL_STATE_OPER_EN p.val) = 1 ∧ (portOf s p.val).operLen ≤ getF s (F.NET_GCL_STATE_ENTRY p.val) + 1 →
      ∃ t, exec (.gclEntryAdvance p) s = .next t ∧ getF t (F.NET_GCL_STATE_ENTRY p.val) = 0 ∧ (portOf t p.val).entryAt = 0 ∧
      Frame [R.NET_GCL_STATE p.val] s t { s with regs := t.regs, net := t.net }) ∧
  (∀ (p : Fin 4) (cycleNs : BitVec 64) (s : State),
      3 ≤ getF s (F.NET_CFG_MODE p.val) ∧ getF s (F.NET_CFG_MODE p.val) ≤ 5 ∧ getF s (F.NET_CFG_LPI_EN p.val) = 1 →
      linkUp s p.val = true ∧ getF s (F.NET_LINK_TX_LPI p.val) = 0 ∧ txEmpty s p.val = true ∧ lpiClear s p.val cycleNs.toNat = true →
      ∃ t, exec (.lpiEnter p cycleNs) s = .next t ∧ getF t (F.NET_LINK_TX_LPI p.val) = 1 ∧
      rdN t (R.NET_LPI_CNT p.val) = min (rdN s (R.NET_LPI_CNT p.val) + 1) 0xFFFFFFFF ∧
      Frame [R.NET_LINK p.val, R.NET_LPI_CNT p.val] s t { s with regs := t.regs }) ∧
  (∀ (p : Fin 4) (s : State),
      getF s (F.NET_LINK_TX_LPI p.val) = 1 →
      (if getF s (F.NET_GCL_STATE_OPER_EN p.val) = 1 then opensSoon s p.val (queuedClasses s p.val ||| getF s (F.NET_EEE_WAKE_TCS p.val)) else queuedClasses s p.val != 0) = true →
      ∃ t, exec (.lpiWake p) s = .next t ∧ getF t (F.NET_LINK_TX_LPI p.val) = 0 ∧
      portOf t p.val = { portOf s p.val with waking := some (nowStamp s) } ∧ (∀ q, q ≠ p.val → portOf t q = portOf s q) ∧
      Frame [R.NET_LINK p.val] s t { s with regs := t.regs, net := t.net })

/-- At a unit outside a pair, STR_RX_ENABLE and STR_TX_ENABLE of an idle context with no ground for refusal start it at
the next boundary, and with one show its reason; STR_RX_DISABLE and STR_TX_DISABLE stop it there. STREAM_PACKET_RX
of a well-formed packet on leg A in time, the first that a running context outside a claim takes into its empty
buffer, fills the media frames of its packet time from its source time plus latency on (kept at their MSI on the
resampling path, 32 above that of the locked one), each with the stream frame of its time (the model's choice where
the rates differ, log 239), counts it and shows RUN. STR_RX_TIMEOUT after TMO ms without an admission shows LOST;
CLAIM_HOLD_TIMEOUT returns HELD to 0; HELD_PACKET_EXPIRE discards and counts held packets at their second strobe. -/
def Obligations.StreamContextsTakePackets : Prop :=
  (∀ (via : Src) (c : Fin 256) (s : State),
      isPair s = false ∧ getF s (F.STR_RX_CTL_EN c.val) = 0 ∧ getF s (F.STR_RX_STATE_STATE c.val) = 0 →
      rxRefusal s c.val = none →
      ∃ t, exec (.strRxEnable via c) s = .next t ∧ getF t (F.STR_RX_CTL_EN c.val) = 1 ∧ getF t (F.STR_RX_STATE_REASON c.val) = 0 ∧
      getF t (F.STR_RX_STATE_STATE c.val) = 0 ∧
      rxOf t c.val = { rxOf s c.val with startAt := some (blk s + 1), stopAt := none } ∧
      (∀ d, d ≠ c.val → rxOf t d = rxOf s d) ∧
      Frame ([R.STR_RX_CTL c.val, R.STR_RX_STATE c.val] ++ jnlRegs) s t { s with regs := t.regs, jnl := t.jnl, str := t.str }) ∧
  (∀ (via : Src) (c : Fin 256) (s : State) (r : Nat),
      isPair s = false ∧ getF s (F.STR_RX_CTL_EN c.val) = 0 ∧ getF s (F.STR_RX_STATE_STATE c.val) = 0 →
      rxRefusal s c.val = some r →
      ∃ t, exec (.strRxEnable via c) s = .next t ∧ getF t (F.STR_RX_CTL_EN c.val) = 0 ∧ getF t (F.STR_RX_STATE_REASON c.val) = r ∧
      t.str = s.str ∧ SameMem s t) ∧
  (∀ (via : Src) (c : Fin 256) (s : State),
      isPair s = false ∧ getF s (F.STR_RX_CTL_EN c.val) = 1 →
      ∃ t, exec (.strRxDisable via c) s = .next t ∧ getF t (F.STR_RX_CTL_EN c.val) = 0 ∧
      rxOf t c.val = { rxOf s c.val with startAt := none, stopAt := some (blk s + 1) } ∧
      (∀ d, d ≠ c.val → rxOf t d = rxOf s d) ∧
      Frame (R.STR_RX_CTL c.val :: jnlRegs) s t { s with regs := t.regs, jnl := t.jnl, str := t.str }) ∧
  (∀ (via : Src) (c : Fin 256) (s : State),
      isPair s = false ∧ getF s (F.STR_TX_CTL_EN c.val) = 0 ∧ getF s (F.STR_TX_STATE_STATE c.val) = 0 →
      txRefusal s c.val = none →
      ∃ t, exec (.strTxEnable via c) s = .next t ∧ getF t (F.STR_TX_CTL_EN c.val) = 1 ∧ getF t (F.STR_TX_STATE_REASON c.val) = 0 ∧
      getF t (F.STR_TX_STATE_STATE c.val) = 0 ∧
      txOf t c.val = { txOf s c.val with startAt := some (blk s + 1), stopAt := none } ∧
      (∀ d, d ≠ c.val → txOf t d = txOf s d) ∧
      Frame ([R.STR_TX_CTL c.val, R.STR_TX_STATE c.val] ++ jnlRegs) s t { s with regs := t.regs, jnl := t.jnl, str := t.str }) ∧
  (∀ (via : Src) (c : Fin 256) (s : State),
      isPair s = false ∧ getF s (F.STR_TX_CTL_EN c.val) = 1 →
      ∃ t, exec (.strTxDisable via c) s = .next t ∧ getF t (F.STR_TX_CTL_EN c.val) = 0 ∧
      txOf t c.val = { txOf s c.val with startAt := none, stopAt := some (blk s + 1) } ∧
      (∀ d, d ≠ c.val → txOf t d = txOf s d) ∧
      Frame (R.STR_TX_CTL c.val :: jnlRegs) s t { s with regs := t.regs, jnl := t.jnl, str := t.str }) ∧
  (∀ (c : Fin 256) (s : State) (a : StrArrival) (rest : List StrArrival) (p : StrPkt) (first less : Int),
      aGet (fun _ => []) s.net.arrivals c.val = a :: rest ∧ getF s (F.STR_RX_STATE_STATE c.val) ≠ 0 →
      a.leg = false ∧ parsePkt s c.val (parseFrame a.bytes) = some p →
      getF s (F.STR_RX_CFG_CLAIM_EN c.val) = 0 ∧ (rxOf s c.val).seqA = none ∧ (rxOf s c.val).frames = [] →
      first = sourceTime s c.val p.ts + rxSpan s c.val + 16 * getF s (F.STR_RX_LINK_L c.val) + 32 ∧ less = (if ctxNonLocked s c.val then 0 else 32) →
      (16 * (blk s + 1) : Int) ≤ first - less ∧ first - less + rxSpan s c.val - 1 < (s.msi : Int) + bufFrames s ∧ 1 ≤ rxSpan s c.val →
      ∃ t, exec (.streamPacketRx c) s = .next t ∧
      (∀ i, i < rxSpan s c.val → (rxOf t c.val).frames.find? (fun f => f.1 == (first + i).toNat) =
        some ((first + i).toNat, payloadFrames (getF s (F.STR_RX_CFG_CH c.val) + 1) (fmtBytes (getF s (F.STR_RX_CFG_FMT c.val))) p.payload (i * rxP s c.val / rxSpan s c.val))) ∧
      (rxOf t c.val).last = some s.msi ∧ (∀ d, d ≠ c.val → rxOf t d = rxOf s d) ∧
      aGet (fun _ => []) t.net.arrivals c.val = rest ∧
      rdN t (R.STR_RX_PKT c.val) = min (rdN s (R.STR_RX_PKT c.val) + 1) 0xFFFFFFFF ∧
      getF t (F.STR_RX_STATE_STATE c.val) = 2 ∧ getF t (F.STR_RX_STATE_LEG_A c.val) = 1 ∧
      rd64 t (R.STR_RX_SIL_LO c.val) (R.STR_RX_SIL_HI c.val) = p.silent % 2 ^ 64 ∧
      Frame [R.STR_RX_PKT c.val, R.STR_RX_STATE c.val, R.STR_RX_SIL_LO c.val, R.STR_RX_SIL_HI c.val] s t
        { s with regs := t.regs, net := t.net, str := t.str }) ∧
  (∀ (c : Fin 256) (s : State),
      getF s (F.STR_RX_STATE_STATE c.val) = 2 ∧ tmoOver s c.val (rxOf s c.val).last = true →
      ∃ t, exec (.strRxTimeout c) s = .next t ∧ getF t (F.STR_RX_STATE_STATE c.val) = 3 ∧ stBit t F.STR_STAT_RX_LOST = 1 ∧
      Frame ([R.STR_RX_STATE c.val, R.STR_STAT] ++ errRegs) s t { s with regs := t.regs, err := t.err, jnl := t.jnl }) ∧
  (∀ (c : Fin 256) (s : State),
      tmoOver s c.val (rxOf s c.val).lastHeld = true →
      ∃ t, exec (.claimHoldTimeout c) s = .next t ∧ getF t (F.STR_RX_STATE_HELD c.val) = 0 ∧
      getF t (F.STR_RX_STATE_STATE c.val) = getF s (F.STR_RX_STATE_STATE c.val) ∧
      Frame [R.STR_RX_STATE c.val] s t { s with regs := t.regs }) ∧
  (∀ (c : Fin 256) (s : State),
      (txOf s c.val).held.filter (fun p => p.built + 2 ≤ blk s + 1) ≠ [] →
      ∃ t, exec (.heldPacketExpire c) s = .next t ∧
      (txOf t c.val).held = (txOf s c.val).held.filter (fun p => blk s + 1 < p.built + 2) ∧
      (∀ d, d ≠ c.val → txOf t d = txOf s d) ∧
      rdN t (R.STR_TX_HELD c.val) = min (rdN s (R.STR_TX_HELD c.val) + ((txOf s c.val).held.filter (fun p => p.built + 2 ≤ blk s + 1)).length) 0xFFFFFFFF ∧
      getF t (F.STR_TX_STATE_HELD c.val) = 1 ∧
      Frame [R.STR_TX_HELD c.val, R.STR_TX_STATE c.val] s t { s with regs := t.regs, str := t.str })

/-- PAT_LOAD and PAT_LOAD_SLOT (of a valid slot) at an idle loader with an EMPTY or INVALID staging area begin the load:
LOADING, BUSY, and result 0; PAT_LOAD_DONE stages a stream that passes validation as VALID with its identity and
DONE, and of any other shows INVALID with the failing reason and record; PAT_ARM of a VALID Pattern, while a Pattern
runs or with neither REGSET records nor a live Pattern, begins the copying with ARMING; ARM_DONE ends it with ARMED
and DONE, and while no Pattern runs lets the media loop follow the armed time base, in ACQUIRE where that is another
one. -/
def Obligations.PatternsLoadAndArm : Prop :=
  (∀ (via : Src) (s : State),
      loaderBusy s = false ∧ loaderOut s = false →
      (stg s = 0 ∨ stg s = 3) →
      ∃ t, exec (.patLoad via) s = .next t ∧ stg t = 1 ∧ getF t F.PAT_STATE_BUSY = 1 ∧
      t.pat = { s.pat with busy := some (.load (rdN s R.PAT_SRC) (rdN s R.PAT_LEN)), via := via } ∧
      getF t F.PAT_RESULT_CMD = 1 ∧ getF t F.PAT_RESULT_REASON = 0 ∧
      Frame ([R.PAT_STATE, R.PAT_RESULT] ++ jnlRegs) s t { s with regs := t.regs, jnl := t.jnl, pat := t.pat }) ∧
  (∀ (via : Src) (k : Fin 4) (s : State),
      loaderBusy s = false ∧ loaderOut s = false ∧ getF s (F.PAT_SLOT_VALID k.val) ≠ 0 →
      (stg s = 0 ∨ stg s = 3) →
      ∃ t, exec (.patLoadSlot via k) s = .next t ∧ stg t = 1 ∧ getF t F.PAT_STATE_BUSY = 1 ∧
      t.pat = { s.pat with busy := some (.loadSlot k.val), via := via } ∧
      getF t F.PAT_RESULT_CMD = 2 ∧ getF t F.PAT_RESULT_REASON = 0 ∧
      Frame ([R.PAT_STATE, R.PAT_RESULT] ++ jnlRegs) s t { s with regs := t.regs, jnl := t.jnl, pat := t.pat }) ∧
  (∀ (s : State) (bs : List Byte) (len : Nat),
      loadStream s = some (bs, len) →
      ∃ t, exec .patLoadDone s = .next t ∧ t.pat.busy = none ∧ SameMem s t ∧
      (∀ p, loadCheck { s with pat := { s.pat with busy := none } } bs len = .ok p →
        stg t = 2 ∧ t.pat.staged = some p ∧ t.pat.stagedBytes = bs.take len ∧ stBit t F.PAT_STAT_DONE = 1 ∧
        rd64 t R.PAT_STG_ID_LO R.PAT_STG_ID_HI = p.patId % 2 ^ 64 ∧ rdN t R.PAT_STG_CRC = p.totalCrc % 2 ^ 32) ∧
      (∀ e, loadCheck { s with pat := { s.pat with busy := none } } bs len = .error e →
        stg t = 3 ∧ t.pat.staged = none ∧ getF t F.PAT_VERR_REASON = reasonCode e.reason ∧
        rdN t R.PAT_VREC = e.recOrd % 2 ^ 32 ∧ stBit t F.PAT_STAT_VERR = 1)) ∧
  (∀ (via : Src) (s : State),
      loaderBusy s = false ∧ loaderOut s = false ∧ stg s = 2 ∧ running s = true →
      ∃ t, exec (.patArm via) s = .next t ∧ stg t = 4 ∧ getF t F.PAT_STATE_BUSY = 1 ∧
      t.pat = { s.pat with busy := some .arm, via := via } ∧ getF t F.PAT_RESULT_CMD = 3 ∧ getF t F.PAT_RESULT_REASON = 0 ∧
      Frame ([R.PAT_STATE, R.PAT_RESULT] ++ jnlRegs) s t { s with regs := t.regs, jnl := t.jnl, pat := t.pat }) ∧
  (∀ (via : Src) (s : State),
      loaderBusy s = false ∧ loaderOut s = false ∧ stg s = 2 ∧ running s = false →
      (stagedPat s).regset = [] ∧ s.pat.live = none →
      ∃ t, exec (.patArm via) s = .next t ∧ stg t = 4 ∧
      t.pat = { s.pat with busy := some .arm, via := via, regsetDone := true } ∧
      Frame ([R.PAT_STATE, R.PAT_RESULT] ++ jnlRegs) s t { s with regs := t.regs, jnl := t.jnl, pat := t.pat }) ∧
  (∀ (s : State),
      s.pat.busy = some .arm →
      ∃ t, exec .armDone s = .next t ∧ stg t = 5 ∧ stBit t F.PAT_STAT_DONE = 1 ∧
      t.pat = { s.pat with busy := none, armedMtb := if running s then s.pat.armedMtb else some (stagedPat s).mtb } ∧
      getF t F.TSU_ML_STATE_FOLLOW = followTb t % 4 ∧
      (running s = true ∨ (followTb t = getF s F.TSU_ML_STATE_FOLLOW ∧ s.time.excess = false) → getF t F.TSU_ML_STATE_STATE = getF s F.TSU_ML_STATE_STATE) ∧
      (running s = false → followTb t ≠ getF s F.TSU_ML_STATE_FOLLOW ∨ s.time.excess = true → getF t F.TSU_ML_STATE_STATE = 0) ∧
      KeptBut [R.PAT_STATE, R.PAT_STAT, R.TSU_ML_STATE] s t ∧ t = { s with regs := t.regs, mem := t.mem, pat := t.pat })

/-- PAT_POUR of an ARMED Pattern in time, with the media clock locked to a usable time base, is pending for the block
named and accepted at once outside a pair; PAT_STOP of a running Pattern in time, with no stop or pour scheduled, is
pending, shows LIVE 4 and is accepted; PAT_DISCARD with no pour pending empties the staging area, and with one that
can still be withdrawn, outside a pair with no Pattern running, returns it to ARMED. -/
def Obligations.PoursStopsAndDiscards : Prop :=
  (∀ (via : Src) (s : State),
      isPair s = false ∧ loaderBusy s = false ∧ stg s = 5 ∧ mediaLocked s = true →
      blk s + 1 ≤ pourCut s (stagedPat s) (ceil16 (rd64 s R.PAT_MSI_LO R.PAT_MSI_HI)) →
      ((stagedPat s).mtb = followTb s ∨ tbUsable s (stagedPat s).mtb = true) →
      ∃ t, exec (.patPour via) s = .next t ∧ stg t = 6 ∧
      t.pat = { s.pat with pour := some { block := ceil16 (rd64 s R.PAT_MSI_LO R.PAT_MSI_HI), cut := pourCut s (stagedPat s) (ceil16 (rd64 s R.PAT_MSI_LO R.PAT_MSI_HI)), via := via, decided := true } } ∧
      getF t F.PAT_RESULT_CMD = 4 ∧ getF t F.PAT_RESULT_REASON = 0 ∧ stBit t F.PAT_STAT_DONE = 1 ∧
      Frame ([R.PAT_STATE, R.PAT_RESULT, R.PAT_STAT] ++ jnlRegs) s t { s with regs := t.regs, jnl := t.jnl, pat := t.pat }) ∧
  (∀ (via : Src) (s : State),
      isPair s = false ∧ loaderBusy s = false ∧ running s = true ∧ s.pat.stop = none ∧ s.pat.pour = none →
      isLate s (rd64 s R.PAT_MSI_LO R.PAT_MSI_HI) = false →
      ∃ t, exec (.patStop via) s = .next t ∧ getF t F.PAT_STATE_LIVE = 4 ∧
      t.pat = { s.pat with stop := some { block := ceil16 (rd64 s R.PAT_MSI_LO R.PAT_MSI_HI), via := via, decided := true, begun := false } } ∧
      getF t F.PAT_RESULT_CMD = 5 ∧ getF t F.PAT_RESULT_REASON = 0 ∧ stBit t F.PAT_STAT_DONE = 1 ∧
      Frame ([R.PAT_STATE, R.PAT_RESULT, R.PAT_STAT] ++ jnlRegs) s t { s with regs := t.regs, jnl := t.jnl, pat := t.pat }) ∧
  (∀ (via : Src) (s : State),
      s.pat.pour = none →
      ∃ t, exec (.patDiscard via) s = .next t ∧ stg t = 0 ∧ getF t F.PAT_STATE_STORING = 0 ∧
      t.pat = { s.pat with busy := none, staged := none, stagedBytes := [], pour := none, regsetDone := false } ∧
      getF t F.PAT_RESULT_CMD = 6 ∧ getF t F.PAT_RESULT_REASON = 0 ∧ stBit t F.PAT_STAT_DONE = 1 ∧
      rd64 t R.PAT_STG_ID_LO R.PAT_STG_ID_HI = 0 ∧
      Frame ([R.PAT_STATE, R.PAT_RESULT, R.PAT_STAT, R.PAT_STG_ID_LO, R.PAT_STG_ID_HI, R.PAT_STG_CRC] ++ jnlRegs) s t
        { s with regs := t.regs, jnl := t.jnl, pat := t.pat }) ∧
  (∀ (via : Src) (s : State) (p : PourPend),
      isPair s = false ∧ running s = false ∧ s.pat.pour = some p ∧ inTime s p.cut = true →
      ∃ t, exec (.patDiscard via) s = .next t ∧ stg t = 5 ∧ t.pat = { s.pat with pour := none } ∧
      getF t F.PAT_RESULT_CMD = 6 ∧ getF t F.PAT_RESULT_REASON = 0 ∧ stBit t F.PAT_STAT_DONE = 1 ∧
      Frame ([R.PAT_STATE, R.PAT_RESULT, R.PAT_STAT] ++ jnlRegs) s t { s with regs := t.regs, jnl := t.jnl, pat := t.pat })

/-- PAT_AMEND at a running unit outside a pair, of a container without coefficients that validates, clashes with nothing
and is in time, is accepted: its sets wait for their block with AMD_PEND. COEF_CONVERSION_DONE at the end of the
conversion frees the converter, and completes the staging of an amendment that waited for it. AMEND_STAGE_CHECK at
the strobe before its block refuses with LATE_STAGE one not staged or not decided. AMEND_APPLY at its block makes
the coefficient sets cross over and the routes live from that block and sets AMD_APPLIED. -/
def Obligations.AmendmentsStageAndApply : Prop :=
  (∀ (via : Src) (s u : State) (bs : List Byte) (p : Pattern),
      isPair s = false ∧ s.pat.amend = none ∧ loaderBusy s = false ∧ loaderOut s = false ∧ running s = true →
      isLate s (rd64 s R.PAT_MSI_LO R.PAT_MSI_HI) = false ∧ blk s + 2 ≤ ceil16 (rd64 s R.PAT_MSI_LO R.PAT_MSI_HI) →
      bs = rdPacked s dramBase (rdN s R.PAT_SRC) (max (rdN s R.PAT_LEN) 32) ∧ u = journalReg via R.PAT_CMD 7 s →
      amendCheck u bs (rdN s R.PAT_LEN) = .ok p →
      p.coefs = none ∧ amendClash u p = false ∧ getF s F.PAT_STATE_AMD_PEND = 0 ∧ s.err.fatal = false →
      ∃ t, exec (.patAmend via) s = .next t ∧
      t.pat = { s.pat with amend := some { block := ceil16 (rd64 s R.PAT_MSI_LO R.PAT_MSI_HI), amdId := amdIdOf bs, xf := amdXf bs, via := via, decided := true, body := p, staged := true } } ∧
      getF t F.PAT_STATE_AMD_PEND = 1 ∧ getF t F.PAT_RESULT_CMD = 7 ∧ getF t F.PAT_RESULT_REASON = 0 ∧
      getF t F.PAT_RESULT_AMD_ID = amdIdOf bs % 2 ^ 16 ∧
      Frame ([R.PAT_STATE, R.PAT_RESULT] ++ jnlRegs) s t { s with regs := t.regs, jnl := t.jnl, pat := t.pat }) ∧
  (∀ (s : State) (j : ConvJob),
      s.pat.conv = some j ∧ j.endBlock ≤ blk s ∧ s.pat.amend = none →
      ∃ t, exec .coefConversionDone s = .next t ∧ t = { s with pat := { s.pat with conv := none } }) ∧
  (∀ (s : State) (j : ConvJob) (a : AmendPend),
      s.pat.conv = some j ∧ j.endBlock ≤ blk s ∧ s.pat.amend = some a ∧ a.decided = true ∧ blk s + 2 ≤ a.block →
      getF s F.PAT_STATE_AMD_PEND = 0 ∧ s.err.fatal = false →
      ∃ t, exec .coefConversionDone s = .next t ∧ getF t F.PAT_STATE_AMD_PEND = 1 ∧
      t.pat = { s.pat with conv := none, amend := some { a with staged := true } } ∧ getF t F.PAT_RESULT_CMD = 7 ∧
      getF t F.PAT_RESULT_REASON = 0 ∧ getF t F.PAT_RESULT_AMD_ID = a.amdId % 2 ^ 16 ∧ SameMem s t) ∧
  (∀ (s : State) (a : AmendPend),
      s.pat.amend = some a ∧ due s (a.block - 1) = true ∧ (a.staged && a.decided) = false ∧ s.flk.undecided = [] →
      ∃ t, exec .amendStageCheck s = .next t ∧ t.pat.amend = none ∧ getF t F.PAT_STATE_AMD_PEND = 0 ∧
      getF t F.PAT_RESULT_CMD = 7 ∧ getF t F.PAT_RESULT_REASON = reasonCode .lateStage ∧
      getF t F.PAT_RESULT_AMD_ID = a.amdId % 2 ^ 16 ∧ stBit t F.PAT_STAT_REFUSED = 1 ∧
      Frame ([R.PAT_STATE, R.PAT_RESULT, R.PAT_STAT] ++ errRegs) s t
        { s with regs := t.regs, err := t.err, jnl := t.jnl, pat := t.pat }) ∧
  (∀ (s : State) (a : AmendPend),
      s.pat.amend = some a ∧ due s a.block = true ∧ getF s F.PAT_STATE_AMD_PEND = 1 →
      ∃ t, exec .amendApply s = .next t ∧ t.pat.amend = none ∧ getF t F.PAT_STATE_AMD_PEND = 0 ∧
      stBit t F.PAT_STAT_AMD_APPLIED = 1 ∧ SameMem s t ∧
      (∀ tbl, a.body.routes = some tbl → (epochNow t).table = tbl ∧ (epochNow t).first = a.block) ∧
      (∀ r, r ∈ a.body.coefs.getD [] → (coefOf t r.out).xf = some (a.block, a.xf)) ∧
      (∀ j, (∀ r, r ∈ a.body.coefs.getD [] → r.out ≠ j) → coefOf t j = coefOf s j))

/-- While the loader is idle: PAT_STORE of a VALID or ARMED Pattern that fits marks the slot invalid and begins;
STORE_DONE writes the stream and its length to the slot, shows its length in KiB and makes it VALID; PAT_ERASE makes
a slot invalid; PAT_AUTO sets one slot automatic and clears the others, or clears one; AUTO_POUR of a valid
automatic slot, with the media clock locked, no Pattern running and the staging area empty, begins to load it. -/
def Obligations.SlotsStoreAndAutoPour : Prop :=
  (∀ (via : Src) (k : Fin 4) (s : State),
      loaderBusy s = false ∧ loaderOut s = false ∧ s.pat.stagedBytes.length ≤ 13 * 1048576 →
      (stg s = 2 ∨ stg s = 5) →
      ∃ t, exec (.patStore via k) s = .next t ∧ t.pat = { s.pat with busy := some (.store k.val), via := via } ∧
      getF t F.PAT_STATE_STORING = 1 ∧ getF t (F.PAT_SLOT_VALID k.val) = 0 ∧ getF t F.PAT_STATE_BUSY = 1 ∧
      getF t F.PAT_RESULT_CMD = 8 ∧ getF t F.PAT_RESULT_REASON = 0 ∧
      KeptBut ([R.PAT_STATE, R.PAT_RESULT, R.PAT_SLOT k.val] ++ jnlRegs) s t ∧
      (∀ a, a < slotDir k.val ∨ slotDir k.val + 4 ≤ a → rdByte t a = rdByte s a)) ∧
  (∀ (s : State) (k : Fin 4),
      s.pat.busy = some (.store k.val) ∧ s.pat.stagedBytes.length ≤ 13 * 1048576 →
      ∃ t, exec .storeDone s = .next t ∧ t.pat = { s.pat with busy := none } ∧ getF t (F.PAT_SLOT_VALID k.val) = 1 ∧
      getF t (F.PAT_SLOT_LEN_KIB k.val) = (s.pat.stagedBytes.length + 1023) / 1024 ∧ getF t F.PAT_STATE_STORING = 0 ∧
      stBit t F.PAT_STAT_DONE = 1 ∧ slotLen t k.val = s.pat.stagedBytes.length ∧
      (∀ i b, s.pat.stagedBytes[i]? = some b → rdByte t (slotBase k.val + i) = b) ∧
      KeptBut [R.PAT_STATE, R.PAT_STAT, R.PAT_SLOT k.val] s t) ∧
  (∀ (via : Src) (k : Fin 4) (s : State),
      loaderBusy s = false →
      ∃ t, exec (.patErase via k) s = .next t ∧ getF t (F.PAT_SLOT_VALID k.val) = 0 ∧ stBit t F.PAT_STAT_DONE = 1 ∧
      getF t F.PAT_RESULT_CMD = 9 ∧ getF t F.PAT_RESULT_REASON = 0 ∧
      KeptBut ([R.PAT_RESULT, R.PAT_STAT, R.PAT_SLOT k.val] ++ jnlRegs) s t ∧
      (∀ a, a < slotDir k.val ∨ slotDir k.val + 4 ≤ a → rdByte t a = rdByte s a)) ∧
  (∀ (via : Src) (k : Fin 4) (s : State),
      loaderBusy s = false →
      ∃ t, exec (.patAuto via k true) s = .next t ∧ (∀ i, i < 4 → getF t (F.PAT_SLOT_AUTO i) = if i = k.val then 1 else 0) ∧
      (∀ i, i < 4 → getF t (F.PAT_SLOT_VALID i) = getF s (F.PAT_SLOT_VALID i)) ∧ autoSlot t = some k.val ∧
      stBit t F.PAT_STAT_DONE = 1 ∧ getF t F.PAT_RESULT_CMD = 10 ∧ getF t F.PAT_RESULT_REASON = 0) ∧
  (∀ (via : Src) (k : Fin 4) (s : State),
      loaderBusy s = false →
      ∃ t, exec (.patAuto via k false) s = .next t ∧ getF t (F.PAT_SLOT_AUTO k.val) = 0 ∧
      stBit t F.PAT_STAT_DONE = 1 ∧ KeptBut ([R.PAT_RESULT, R.PAT_STAT, R.PAT_SLOT k.val] ++ jnlRegs) s t) ∧
  (∀ (s : State) (k : Nat),
      autoSlot s = some k ∧ s.pat.autoDone = false ∧ running s = false ∧ getF s (F.PAT_SLOT_VALID k) = 1 →
      s.err.startupHold = false ∧ mediaLocked s = true ∧ loaderBusy s = false ∧ loaderOut s = false ∧ stg s = 0 →
      ∃ t, exec .autoPour s = .next t ∧ stg t = 1 ∧
      t.pat = { s.pat with busy := some (.loadSlot k), via := .device, autoAt := some (s.pat.autoAt.getD (blk s)) } ∧
      Frame [R.PAT_STATE, R.PAT_RESULT] s t { s with regs := t.regs, pat := t.pat })

/-- POUR_STROBE of an accepted pour at its cut, here the first pour of an armed Pattern at the running rate and time
base, makes the staged Pattern live, empties the staging area, and starts its routes without crossfade and its
filters from its own records; STOP_STROBE at the stop's block begins the stop and discards amendments and route
commits due at or after it; PATTERN_STOPPED six blocks on shows STOPPED with no live identity; JOIN_POUR, here of a
snapshot without parts and with nothing to replay, pours and enters SHADOW. -/
def Obligations.PourAndStopTakeEffect : Prop :=
  (∀ (s : State) (p : PourPend),
      s.pat.pour = some p ∧ p.decided = true ∧ s.flk.join = none ∧ due s p.cut = true ∧ s.err.fatal = false →
      running s = false ∧ s.pat.regsetDone = true ∧ s.pat.stop = none →
      pourRate s (stagedPat s) = false ∧ (stagedPat s).mtb = followTb s →
      ∃ t, exec .pourStrobe s = .next t ∧ t.pat.live = some (stagedPat s) ∧ t.pat.staged = none ∧ t.pat.pour = none ∧
      t.pat.stop = none ∧ t.pat.pouredAt = some p.cut ∧ t.flt = fltOfPattern (stagedPat s) ∧
      t.rte.epochs = [{ first := p.cut, len := 0, law := 0, old := [], table := (stagedPat s).routes.getD [] }]) ∧
  (∀ (s : State) (k : StopPend),
      s.pat.stop = some k ∧ k.decided = true ∧ k.begun = false ∧ due s k.block = true →
      ∃ t, exec .stopStrobe s = .next t ∧ t.pat.stop = some { k with begun := true } ∧
      (∀ a, s.pat.amend = some a → k.block ≤ a.block → t.pat.amend = none) ∧
      (∀ c, s.rte.cmt = some c → k.block ≤ c.k → t.rte.cmt = none ∧ getF t F.RTE_RESULT_REASON = 9) ∧
      t.rte.epochs = s.rte.epochs ∧ t.pat.live = s.pat.live) ∧
  (∀ (s : State) (k : StopPend),
      s.pat.stop = some k ∧ k.begun = true ∧ due s (k.block + 6) = true →
      ∃ t, exec .patternStopped s = .next t ∧ t.pat.stop = none ∧ running t = false ∧ getF t F.PAT_STATE_RATE = 0 ∧
      stBit t F.PAT_STAT_STOPPED = 1 ∧ rd64 t R.PAT_LIVE_ID_LO R.PAT_LIVE_ID_HI = 0 ∧ rdN t R.PAT_LIVE_CRC = 0 ∧
      getF t F.GEO_UNITS_G_EFF = 0 ∧ t.seq.fallbackAt = none ∧ t.pat.live = s.pat.live) ∧
  (∀ (s : State) (j : Nat) (p : PourPend),
      s.flk.join = some j ∧ s.pat.pour = some p ∧ due s p.cut = true ∧ s.pat.regsetDone = true →
      s.flk.snap = [] ∧ s.flk.replay = [] ∧ s.flk.held = [] →
      ∃ t, exec .joinPour s = .next t ∧ sync t = 4 ∧ t.flk.join = none ∧ t.flk.snap = [] ∧ t.pat.pour = none ∧
      t.pat.staged = none ∧ t.pat.live = some (stagedPat s))

/-- After POWER_ON the cause register holds POR and nothing else; RESET_PIN, SYS_RST_CORE, SYS_RST_FULL and
THERMAL_SHUTDOWN each set their own bit and leave the other four as they were; a write of the register clears the
bits written as one and leaves the others. -/
def Obligations.ResetCauseRule : Prop :=
  (∀ (s : State),
      ∃ t, exec .powerOn s = .next t ∧ rdN t R.SYS_RST_CAUSE = 2 ^ F.SYS_RST_CAUSE_POR.lo) ∧
  (∀ (c : Instr) (own : Fld) (s : State),
      (c, own) ∈ [(.resetPin, F.SYS_RST_CAUSE_PIN), (.sysRstCore, F.SYS_RST_CAUSE_SW_CORE), (.sysRstFull, F.SYS_RST_CAUSE_SW_FULL), (.thermalShutdown, F.SYS_RST_CAUSE_THERM)] →
      ∃ t, exec c s = .next t ∧ getF t own = 1 ∧
      (∀ f ∈ [F.SYS_RST_CAUSE_POR, F.SYS_RST_CAUSE_PIN, F.SYS_RST_CAUSE_SW_CORE, F.SYS_RST_CAUSE_SW_FULL, F.SYS_RST_CAUSE_THERM], f ≠ own → getF t f = getF s f)) ∧
  (∀ (via : Src) (v : Word) (s : State),
      ∃ t, exec (.registerWrite via (BitVec.ofNat 24 R.SYS_RST_CAUSE) v) s = .next t ∧
      (∀ f ∈ [F.SYS_RST_CAUSE_POR, F.SYS_RST_CAUSE_PIN, F.SYS_RST_CAUSE_SW_CORE, F.SYS_RST_CAUSE_SW_FULL, F.SYS_RST_CAUSE_THERM],
        getF t f = if v.getLsbD f.lo then 0 else getF s f))

/-- FLASK_FRAME_RX on an up lane of a unit with the link UP: a frame that fails its checks is counted; the next in LSEQ
order goes to the inbox; one ahead of its turn waits. HELLO_RX notes what the peer says of itself, and an equal rank
is PAIR_ERR; HEARTBEAT_RX at a unit that is no standby shows the peer's word and notes its role and readiness, and
at a converging standby, of a heartbeat with nothing more to take over, the 64th equal digest in a row, with the
skew in bounds, makes it READY. FLASK_LINK_STALE after three blocks without a heartbeat shows STALE, and a READY
standby is STALE with it; FLASK_LANE_DOWN and FLASK_LANE_UP show the lane. A frame that is sent carries the next
LSEQ and the present block on the lanes that are up, a HELLO or heartbeat on each of them; with none up nothing is
sent. -/
def Obligations.FlaskFramesAndPeer : Prop :=
  (∀ (f : FlkFrame) (s : State),
      isPair s = true ∧ (if f.lane = 0 then getF s F.FLK_STATE_LANE0 else getF s F.FLK_STATE_LANE1) = 1 ∧ frameOk f = false →
      ∃ t, exec (.flaskFrameRx f) s = .next t ∧ rdN t R.FLK_CRC_CNT = min (rdN s R.FLK_CRC_CNT + 1) 0xFFFFFFFF ∧
      Frame [R.FLK_CRC_CNT] s t { s with regs := t.regs }) ∧
  (∀ (f : FlkFrame) (s : State),
      isPair s = true ∧ (if f.lane = 0 then getF s F.FLK_STATE_LANE0 else getF s F.FLK_STATE_LANE1) = 1 ∧ frameOk f = true →
      flkUp s = true ∧ s.flk.ahead = [] ∧ f.lseq = (s.flk.rxLseq + 1) % 2 ^ 32 →
      ∃ t, exec (.flaskFrameRx f) s = .next t ∧ t.flk.inbox = s.flk.inbox ++ [f] ∧ t.flk.rxLseq = f.lseq ∧ t.flk.ahead = [] ∧
      Frame [] s t { s with flk := t.flk }) ∧
  (∀ (f : FlkFrame) (s : State),
      isPair s = true ∧ (if f.lane = 0 then getF s F.FLK_STATE_LANE0 else getF s F.FLK_STATE_LANE1) = 1 ∧ frameOk f = true →
      flkUp s = true ∧ s.flk.ahead = [] ∧ lseqAfter f.lseq s.flk.rxLseq = true ∧ f.lseq ≠ (s.flk.rxLseq + 1) % 2 ^ 32 →
      ∃ t, exec (.flaskFrameRx f) s = .next t ∧ t.flk.inbox = s.flk.inbox ∧ t.flk.rxLseq = s.flk.rxLseq ∧ t.flk.ahead = [f] ∧
      Frame [] s t { s with flk := t.flk }) ∧
  (∀ (s : State) (f : FlkFrame) (rest : List FlkFrame) (rank rev patId crc role ep : Nat),
      (s.flk.inbox = f :: rest ∧ f.payload = .hello rank rev patId crc role ep ∧ (isStandby s = false ∨ role = s.flk.peerRole)) →
      ∃ t, exec .helloRx s = .next t ∧
      t.flk = { s.flk with inbox := rest, peerRank := some rank, peerPat := patId, peerCrc := crc, peerRole := role } ∧
      (rank ≠ getF s F.CLM_CFG_RANK → t = { s with flk := t.flk }) ∧
      (rank = getF s F.CLM_CFG_RANK → stBit t F.FLK_STAT_PAIR_ERR = 1)) ∧
  (∀ (s : State) (f : FlkFrame) (rest : List FlkFrame) (h : Heartbeat),
      s.flk.inbox = f :: rest ∧ f.payload = .heartbeat h ∧ isStandby s = false →
      ∃ t, exec .heartbeatRx s = .next t ∧ getF t F.CLM_PEER_WORD = h.word % 2 ^ 16 ∧ getF t F.CLM_PEER_VALID = 1 ∧
      t.flk.inbox = rest ∧ t.flk.hbNow = true ∧ t.flk.peerRole = h.role ∧ t.flk.peerReady = h.readiness ∧
      t.flk.peerPat = h.patId ∧ t.flk.peerCrc = h.patCrc ∧ SameMem s t) ∧
  (∀ (s : State) (f : FlkFrame) (rest : List FlkFrame) (h : Heartbeat) (d : Int),
      s.flk.inbox = f :: rest ∧ f.payload = .heartbeat h ∧ isStandby s = true ∧ sync s = 5 ∧ h.role = s.flk.peerRole →
      h.scale = none ∧ h.tbs = [] ∧ h.confirms = [] ∧ h.discards = [] →
      d = h.stamp - (tbOf s (followTb s)).time / 2 ^ 32 - ((f.block : Int) - blk s) * blockSpan s →
      d.natAbs ≤ 2000 * 2 ^ 16 ∧ ((f.block : Int) - blk s).natAbs ≤ 1 →
      digestDiff s (f.block - 4) h.digests = some 0 ∧ 63 ≤ s.flk.equalRun →
      ∃ t, exec .heartbeatRx s = .next t ∧ sync t = 6 ∧ stBit t F.FLK_STAT_READY = 1 ∧ t.flk.syncSince = blk s ∧
      Frame [R.CLM_PEER, R.CLM_SKEW, R.FLK_STATE, R.FLK_STAT] s t { s with regs := t.regs, flk := t.flk }) ∧
  (∀ (s : State),
      flkUp s = true ∧ 3 ≤ s.flk.hbMiss ∧ isStandby s = false →
      ∃ t, exec .flaskLinkStale s = .next t ∧ getF t F.FLK_STATE_LINK = 2 ∧ stBit t F.FLK_STAT_STALE = 1 ∧
      t.flk = { s.flk with snapAsked := false, snapFor := none } ∧
      Frame ([R.FLK_STATE, R.FLK_STAT] ++ errRegs) s t { s with regs := t.regs, err := t.err, jnl := t.jnl, flk := t.flk }) ∧
  (∀ (s : State),
      flkUp s = true ∧ 3 ≤ s.flk.hbMiss ∧ isStandby s = true ∧ sync s = 6 →
      ∃ t, exec .flaskLinkStale s = .next t ∧ getF t F.FLK_STATE_LINK = 2 ∧ sync t = 7 ∧ stBit t F.FLK_STAT_STALE = 1 ∧
      Frame ([R.FLK_STATE, R.FLK_STAT] ++ errRegs) s t { s with regs := t.regs, err := t.err, jnl := t.jnl, flk := t.flk }) ∧
  (∀ (lane : Fin 2) (s : State),
      getF s (if lane.val = 0 then F.FLK_STATE_LANE0 else F.FLK_STATE_LANE1) = 1 →
      ∃ t, exec (.flaskLaneDown lane) s = .next t ∧ getF t (if lane.val = 0 then F.FLK_STATE_LANE0 else F.FLK_STATE_LANE1) = 0 ∧
      getF t (if lane.val = 0 then F.FLK_STATE_LANE1 else F.FLK_STATE_LANE0) = getF s (if lane.val = 0 then F.FLK_STATE_LANE1 else F.FLK_STATE_LANE0) ∧
      stBit t F.FLK_STAT_LANE_DOWN = 1 ∧
      Frame ([R.FLK_STATE, R.FLK_STAT] ++ errRegs) s t { s with regs := t.regs, err := t.err, jnl := t.jnl }) ∧
  (∀ (lane : Fin 2) (s : State),
      ∃ t, exec (.flaskLaneUp lane) s = .next t ∧ getF t (if lane.val = 0 then F.FLK_STATE_LANE0 else F.FLK_STATE_LANE1) = 1 ∧
      getF t (if lane.val = 0 then F.FLK_STATE_LANE1 else F.FLK_STATE_LANE0) = getF s (if lane.val = 0 then F.FLK_STATE_LANE1 else F.FLK_STATE_LANE0) ∧
      Frame [R.FLK_STATE] s t { s with regs := t.regs }) ∧
  (∀ (x : FlkPayload) (s : State),
      (flkSend x s).flk.sent = (if lanesUp s = [] then s.flk.sent else s.flk.sent ++ [⟨lanesUp s, bothLanes x, flkType x, (s.flk.txLseq + 1) % 2 ^ 32, blk s, x⟩]) ∧
      (flkSend x s).flk.txLseq = (if lanesUp s = [] then s.flk.txLseq else (s.flk.txLseq + 1) % 2 ^ 32) ∧
      flkSend x s = { s with flk := { s.flk with sent := (flkSend x s).flk.sent, txLseq := (flkSend x s).flk.txLseq } })

/-- MIRROR_RX at a standby of one register write, or while a Pattern runs of a stop ahead, holds it provisionally and
answers COMMIT, and of a stop whose block has begun answers with a refusal; COMMIT_RX at the active unit of a
register write confirms it for two blocks on and holds it for that block, and of a refused stop withdraws it as
LATE; CONFIRM_RX while a Pattern runs makes a held register write final for the block named; DISCARD_RX withdraws a
held stop; MIRROR_DEADLINE of a stop without COMMIT, the one item undecided, refuses it, counts it and sends
DISCARD; SILENCE_RX at a standby that waits for the frame of its block or an earlier one corrects the silence
counters by the two units' values of that block, and waits no more. -/
def Obligations.MirroredItemsDecide : Prop :=
  (∀ (s : State) (f : FlkFrame) (rest : List FlkFrame) (id off v : Nat),
      s.flk.inbox = f :: rest ∧ f.payload = .mirror [(id, .regWrite off v)] ∧ isStandby s = true ∧ heldOf s id = none →
      ∃ t, exec .mirrorRx s = .next t ∧
      t = flkSend (.commit [id] []) { s with flk := { s.flk with inbox := rest, held := s.flk.held ++ [⟨id, .regWrite off v, false, none⟩], highItem := max s.flk.highItem id } }) ∧
  (∀ (s : State) (f : FlkFrame) (rest : List FlkFrame) (id k : Nat),
      s.flk.inbox = f :: rest ∧ f.payload = .mirror [(id, .stop k)] ∧ isStandby s = true ∧ heldOf s id = none ∧ k ≤ blk s →
      ∃ t, exec .mirrorRx s = .next t ∧
      t = flkSend (.commit [] [(id, 0)]) { s with flk := { s.flk with inbox := rest } }) ∧
  (∀ (s : State) (f : FlkFrame) (rest : List FlkFrame) (id k : Nat),
      s.flk.inbox = f :: rest ∧ f.payload = .mirror [(id, .stop k)] ∧ isStandby s = true ∧ heldOf s id = none ∧ blk s < k →
      running s = true →
      ∃ t, exec .mirrorRx s = .next t ∧
      t = flkSend (.commit [id] []) { s with flk := { s.flk with inbox := rest, held := s.flk.held ++ [⟨id, .stop k, false, none⟩], highItem := max s.flk.highItem id }, pat := { s.pat with stop := some { block := k, via := .flask, decided := false, begun := false } } }) ∧
  (∀ (s : State) (f : FlkFrame) (rest : List FlkFrame) (id off v : Nat) (dl : Option Nat),
      s.flk.inbox = f :: rest ∧ f.payload = .commit [id] [] ∧ isActive s = true ∧ id ≠ 0 →
      undecidedOf s id = some ⟨id, .regWrite off v, dl⟩ →
      ∃ t, exec .commitRx s = .next t ∧
      t = flkSend (.confirm [(id, blk s + 2)]) { s with flk := { s.flk with inbox := rest, undecided := s.flk.undecided.filter (fun i => i.id != id), highItem := max s.flk.highItem id, lastConfirm := s.flk.lastConfirm ++ [(id, blk s + 2)], held := s.flk.held ++ [⟨id, .regWrite off v, true, some (blk s + 2)⟩] } }) ∧
  (∀ (s : State) (f : FlkFrame) (rest : List FlkFrame) (id r k : Nat) (dl : Option Nat) (p : StopPend),
      s.flk.inbox = f :: rest ∧ f.payload = .commit [] [(id, r)] ∧ isActive s = true →
      undecidedOf s id = some ⟨id, .stop k, dl⟩ ∧ s.pat.stop = some p →
      ∃ t, exec .commitRx s = .next t ∧ t.pat = { s.pat with stop := none } ∧ getF t F.PAT_RESULT_CMD = 5 ∧
      getF t F.PAT_RESULT_REASON = reasonCode .late ∧ stBit t F.PAT_STAT_REFUSED = 1 ∧
      t.flk.undecided = s.flk.undecided.filter (fun i => i.id != id) ∧ t.flk.sent = s.flk.sent ∧
      KeptBut ([R.PAT_RESULT, R.PAT_STAT] ++ errRegs) s t ∧ SameMem s t) ∧
  (∀ (s : State) (f : FlkFrame) (rest : List FlkFrame) (id b off v : Nat),
      s.flk.inbox = f :: rest ∧ f.payload = .confirm [(id, b)] ∧ isStandby s = true ∧ id ≠ 0 ∧ running s = true ∧ sync s ≠ 2 ∧ sync s ≠ 3 →
      heldOf s id = some ⟨id, .regWrite off v, false, none⟩ →
      ∃ t, exec .confirmRx s = .next t ∧
      t = { s with flk := { s.flk with inbox := rest, held := s.flk.held.filter (fun p => !(p.id == id && !p.final)) ++ [⟨0, .regWrite off v, true, some b⟩] } }) ∧
  (∀ (s : State) (f : FlkFrame) (rest : List FlkFrame) (id k : Nat),
      s.flk.inbox = f :: rest ∧ f.payload = .discard [id] ∧ isStandby s = true ∧ heldOf s id = some ⟨id, .stop k, false, none⟩ →
      ∃ t, exec .discardRx s = .next t ∧
      t = { s with flk := { s.flk with inbox := rest, held := s.flk.held.filter (fun p => !(p.id == id && !p.final)) }, pat := { s.pat with stop := none } }) ∧
  (∀ (s : State) (id k d : Nat) (p : StopPend),
      s.flk.undecided = [⟨id, .stop k, some d⟩] ∧ due s d = true ∧ s.pat.stop = some p →
      ∃ t, exec .mirrorDeadline s = .next t ∧ t.flk = (flkSend (.discard [id]) { s with flk := { s.flk with undecided := [], highItem := max s.flk.highItem id, lastDiscard := s.flk.lastDiscard ++ [id] } }).flk ∧
      t.pat = { s.pat with stop := none } ∧ rdN t R.FLK_LATE_CNT = min (rdN s R.FLK_LATE_CNT + 1) 0xFFFFFFFF ∧
      getF t F.PAT_RESULT_CMD = 5 ∧ getF t F.PAT_RESULT_REASON = reasonCode .late ∧ SameMem s t) ∧
  (∀ (s : State) (f : FlkFrame) (rest : List FlkFrame) (objs outs : List (Nat × Nat)) (b : Nat) (own : SilNote),
      s.flk.inbox = f :: rest ∧ f.payload = .silence objs outs ∧ s.flk.silenceFor = some b ∧ isStandby s = true →
      b ≤ f.block ∧ s.flk.silOwn.find? (fun n => n.block == f.block) = some own →
      ∃ t, exec .silenceRx s = .next t ∧ t.flk = { s.flk with inbox := rest, silenceFor := none } ∧
      (∀ h, h ∈ s.rnd.slots.map (fun p => p.1) → (slotOf t h).silCount = silFix own.objs objs h (slotOf s h).silCount) ∧
      (∀ c, c ∈ s.rnd.chans.map (fun p => p.1) → (chanOf t c).silCount = silFix own.outs outs c (chanOf s c).silCount) ∧
      Frame [] s t { s with flk := t.flk, rnd := t.rnd })

/-- FLK_RESYNC at a NOT_READY standby returns to WAIT_PATTERN, anywhere else it is refused; SNAP_REQ_RX at the active
unit asks for a snapshot at the next boundary; at a standby in SNAPSHOT, SNAP_DATA_RX gathers the parts and
SNAP_END_RX installs them, answers COMMIT and enters REPLAY; SNAP_ABORT_RX in SNAPSHOT or REPLAY, before the joining
pour is set, is NOT_READY INTERRUPTED; SHADOW_END after its time enters CONVERGE; CONV_TIMEOUT is NOT_READY;
RESYNC_RETRY a second after NOT_READY with the link UP begins anew. -/
def Obligations.StandbyResynchronises : Prop :=
  (∀ (via : Src) (s : State),
      isStandby s = true ∧ sync s = 8 →
      ∃ t, exec (.flkResync via) s = .next t ∧ sync t = 1 ∧
      t.flk = { s.flk with syncSince := blk s, equalRun := 0, missRun := 0 } ∧
      Frame (R.FLK_STATE :: jnlRegs) s t { s with regs := t.regs, jnl := t.jnl, flk := t.flk }) ∧
  (∀ (via : Src) (s : State),
      (isStandby s && sync s == 8) = false →
      ∃ t, exec (.flkResync via) s = .next t ∧ stBit t F.FLK_STAT_REFUSED = 1 ∧
      Frame (R.FLK_STAT :: jnlRegs) s t { s with regs := t.regs, jnl := t.jnl }) ∧
  (∀ (s : State) (f : FlkFrame) (rest : List FlkFrame),
      s.flk.inbox = f :: rest ∧ f.payload = .snapReq ∧ isActive s = true →
      ∃ t, exec .snapReqRx s = .next t ∧ t = { s with flk := { s.flk with inbox := rest, snapAsked := true } }) ∧
  (∀ (s : State) (f : FlkFrame) (rest : List FlkFrame) (parts : List SnapPart),
      s.flk.inbox = f :: rest ∧ f.payload = .snapData parts ∧ sync s = 2 →
      ∃ t, exec .snapDataRx s = .next t ∧ t = { s with flk := { s.flk with inbox := rest, snap := s.flk.snap ++ parts } }) ∧
  (∀ (s : State) (f : FlkFrame) (rest : List FlkFrame) (b : Nat),
      s.flk.inbox = f :: rest ∧ f.payload = .snapEnd b ∧ sync s = 2 →
      ∃ t, exec .snapEndRx s = .next t ∧ sync t = 3 ∧
      t.flk = (flkSend (.commit [0] []) { s with flk := { s.flk with inbox := rest, snapAt := some b, replay := s.flk.replay.filter (fun r => b ≤ r.decided), syncSince := blk s, equalRun := 0, missRun := 0 } }).flk ∧
      Frame [R.FLK_STATE] s t { s with regs := t.regs, flk := t.flk }) ∧
  (∀ (s : State) (f : FlkFrame) (rest : List FlkFrame),
      s.flk.inbox = f :: rest ∧ f.payload = .snapAbort ∧ s.flk.join = none →
      (sync s = 2 ∨ sync s = 3) →
      ∃ t, exec .snapAbortRx s = .next t ∧ sync t = 8 ∧ getF t F.FLK_STATE_FAIL = 1 ∧ stBit t F.FLK_STAT_RESYNC_FAIL = 1 ∧
      t.flk.snap = [] ∧ t.flk.replay = [] ∧ t.flk.inbox = rest ∧
      Frame ([R.FLK_STATE, R.FLK_STAT] ++ errRegs) s t { s with regs := t.regs, err := t.err, jnl := t.jnl, flk := t.flk }) ∧
  (∀ (s : State),
      isStandby s = true ∧ sync s = 4 ∧ due s (s.flk.syncSince + (if rate96 s then 10240 else 11264)) = true →
      ∃ t, exec .shadowEnd s = .next t ∧ sync t = 5 ∧ t.flk.silenceFor = some (dueBlk s + 1) ∧ t.flk.syncSince = blk s ∧
      Frame [R.FLK_STATE] s t { s with regs := t.regs, flk := t.flk }) ∧
  (∀ (s : State),
      isStandby s = true ∧ sync s = 5 ∧ s.flk.join = none →
      s.flk.syncSince * 16 + getF s F.FLK_CFG_CONV_TMO * fsInt s ≤ s.msi + 16 →
      ∃ t, exec .convTimeout s = .next t ∧ sync t = 8 ∧ getF t F.FLK_STATE_FAIL = 3 ∧ stBit t F.FLK_STAT_RESYNC_FAIL = 1 ∧
      Frame ([R.FLK_STATE, R.FLK_STAT] ++ errRegs) s t { s with regs := t.regs, err := t.err, jnl := t.jnl, flk := t.flk }) ∧
  (∀ (s : State),
      isStandby s = true ∧ sync s = 8 ∧ flkUp s = true ∧ s.flk.syncSince * 16 + fsInt s ≤ s.msi + 16 →
      ∃ t, exec .resyncRetry s = .next t ∧ sync t = 1 ∧ t.flk = { s.flk with syncSince := blk s, equalRun := 0, missRun := 0 } ∧
      Frame [R.FLK_STATE] s t { s with regs := t.regs, flk := t.flk })

/-- A frame that is taken up returns its Moaby descriptors. At units outside a pair: LADLE_REC_RX of a good record, for
an object with an empty queue and nothing remembered, at a member worker while a Pattern runs stages it pending and
notes the answer ACK; LADLE_ACK_RX of the last awaited answer accepts the manager's one queued record and decides
it; LADLE_DECIDE_RX confirms or discards the worker's one queued record; LADLE_UNDECIDED 64 blocks after its block
removes it and the worker rejoins; LADLE_HB_RX of a manager that lists the orphan worker makes it MEMBER again;
WORKER_HB_TIMEOUT at the limit, with no record queued, shows the worker LOST, and MANAGER_HB_TIMEOUT shows the
worker ORPHAN. -/
def Obligations.LadleRecordsAndBeats : Prop :=
  (∀ (s : State) (port n src : Nat) (b e : List Byte) (rest : List (Nat × Nat × Nat × List Byte)) (g : Seg) (l : Nat),
      s.intake.ladleIn = (port, n, src, b) :: rest ∧ port < 4 ∧ leAt b 3 1 = 0x10 ∧ leAt b 4 2 = 1 ∧ e = (b.drop 24).take 128 →
      isWorker s = true ∧ isPair s = false ∧ getF s F.HIER_STATE_STATE = 2 ∧ running s = true →
      (s.hier.manager = none ∨ s.hier.manager = some src) →
      ladleSeg s (leAt b 6 1 == 1) e = (g, l) ∧ s.hier.answers.find? (fun a => a.1 == l) = none →
      (objOf s g.rcd.obj).st ≠ 0 ∧ (objOf s g.rcd.obj).queue = [] ∧ (objOf s g.rcd.obj).history = [] ∧ blk s < g.e →
      ∃ t, exec .ladleRecRx s = .next t ∧
      (objOf t g.rcd.obj).queue = [⟨g, true, false, none, false, l, [], 6, []⟩] ∧
      (∀ o, o ≠ g.rcd.obj → objOf t o = objOf s o) ∧ t.hier.answers.head? = some (l, 1, 0) ∧
      t.hier.again = s.hier.again ++ [l] ∧ t.intake.ladleIn = rest ∧ getF t (F.NET_RR_TAIL_INDEX port 1) = (getF s (F.NET_RR_TAIL_INDEX port 1) + n) % 8192 ∧
      KeptBut [R.NET_TX_LINK (getF s F.HIER_CFG_PORT), R.NET_RR_TAIL port 1, R.NET_RR_STATE port 1] s t ∧ SameMem s t) ∧
  (∀ (s : State) (port n src obj w : Nat) (b : List Byte) (rest : List (Nat × Nat × Nat × List Byte)) (o : ObjSt) (q : QEnt),
      s.intake.ladleIn = (port, n, src, b) :: rest ∧ port < 4 ∧ leAt b 3 1 = 0x11 ∧ leAt b 4 2 = 1 →
      isManager s = true ∧ isPair s = false ∧ s.err.fatal = false ∧ s.intake.objs = [(obj, o)] ∧ o.queue = [q] →
      q.pending = true ∧ q.removed = false ∧ q.item = none ∧ q.needed = [w] ∧ q.src ≠ 6 ∧ q.acks = [] ∧ q.seg.unprot = false →
      leAt ((b.drop 24).take 8) 0 4 = q.litem ∧ q.litem ≠ 0 ∧ q.litem ≠ 0xFFFFFFFF →
      leAt ((b.drop 24).take 8) 4 1 = w ∧ leAt ((b.drop 24).take 8) 5 1 = 1 →
      ∃ t, exec .ladleAckRx s = .next t ∧ (objOf t obj).queue = [{ q with pending := false, needed := [] }] ∧
      (objOf t obj).history = ((q.seg.rcd.seq, q.seg.e) :: o.history).take 8 ∧
      rdN t R.OBJ_ACC_CNT = min (rdN s R.OBJ_ACC_CNT + 1) 0xFFFFFFFF ∧
      t.hier.redecide = s.hier.redecide ++ [(q.litem, 1, 0)] ∧ t.intake.ladleIn = rest ∧
      getF t (F.NET_RR_TAIL_INDEX port 1) = (getF s (F.NET_RR_TAIL_INDEX port 1) + n) % 8192 ∧ SameMem s t) ∧
  (∀ (s : State) (port n src obj v : Nat) (b : List Byte) (rest : List (Nat × Nat × Nat × List Byte)) (o : ObjSt) (q : QEnt),
      s.intake.ladleIn = (port, n, src, b) :: rest ∧ port < 4 ∧ leAt b 3 1 = 0x12 ∧ leAt b 4 2 = 1 →
      isWorker s = true ∧ isPair s = false ∧ s.hier.forwarded = [] ∧ s.intake.objs = [(obj, o)] ∧ o.queue = [q] →
      (s.hier.manager = none ∨ s.hier.manager = some src) →
      q.pending = true ∧ q.removed = false ∧ q.item = none ∧ q.acks = [] ∧ q.seg.unprot = false ∧ blk s ≤ q.seg.e →
      leAt ((b.drop 24).take 8) 0 4 = q.litem ∧ q.litem ≠ 0 ∧ leAt ((b.drop 24).take 8) 4 1 = v →
      ∃ t, exec .ladleDecideRx s = .next t ∧ t.intake.ladleIn = rest ∧ getF t (F.NET_RR_TAIL_INDEX port 1) = (getF s (F.NET_RR_TAIL_INDEX port 1) + n) % 8192 ∧ SameMem s t ∧
      (v = 1 → (objOf t obj).queue = [{ q with pending := false, needed := [] }] ∧
        (objOf t obj).history = ((q.seg.rcd.seq, q.seg.e) :: o.history).take 8) ∧
      (v ≠ 1 → (objOf t obj).queue = [] ∧
        (objOf t obj).refused = (q.seg.rcd.seq :: o.refused.filter (· != q.seg.rcd.seq)).take 8 ∧ KeptBut [R.NET_RR_TAIL port 1, R.NET_RR_STATE port 1] s t)) ∧
  (∀ (s : State) (obj : Nat) (o : ObjSt) (q : QEnt),
      isWorker s = true ∧ s.intake.objs = [(obj, o)] ∧ o.queue = [q] ∧ q.pending = true ∧ q.src = 6 ∧ q.item = none →
      due s (q.seg.e + 64) = true →
      ∃ t, exec .ladleUndecided s = .next t ∧ t.intake.objs = [(obj, { o with queue := [] })] ∧
      getF t F.HIER_STATE_STATE = 1 ∧ t.hier.reqAt = none ∧ t.hier.installed = false ∧ stBit t F.HIER_STAT_UNDECIDED = 1 ∧
      Frame ([R.HIER_STATE, R.HIER_STAT] ++ errRegs) s t
        { s with regs := t.regs, err := t.err, jnl := t.jnl, hier := t.hier, intake := { s.intake with objs := t.intake.objs } }) ∧
  (∀ (s : State) (port n src : Nat) (b : List Byte) (rest : List (Nat × Nat × Nat × List Byte)),
      s.intake.ladleIn = (port, n, src, b) :: rest ∧ port < 4 ∧ leAt b 3 1 = 0x13 ∧ leAt ((b.drop 24).take 64) 1 1 = 1 →
      isWorker s = true ∧ isPair s = false ∧ s.hier.manager = none ∧ getF s F.HIER_STATE_STATE = 3 →
      bit (leAt ((b.drop 24).take 64) 48 2) (getF s F.HIER_CFG_UNIT) = true →
      ∃ t, exec .ladleHbRx s = .next t ∧ getF t F.HIER_STATE_STATE = 2 ∧ t.hier.manager = some src ∧ t.hier.hb = true ∧
      t.hier.beenMember = true ∧ getF t F.HIER_STATE_MEMBERS = leAt ((b.drop 24).take 64) 48 2 / 2 ∧ getF t (F.NET_RR_TAIL_INDEX port 1) = (getF s (F.NET_RR_TAIL_INDEX port 1) + n) % 8192 ∧
      Frame [R.HIER_STATE, R.NET_RR_TAIL port 1, R.NET_RR_STATE port 1] s t { s with regs := t.regs, hier := t.hier, intake := { s.intake with ladleIn := rest } }) ∧
  (∀ (w : Fin 16) (s : State),
      isManager s = true ∧ isPair s = false ∧ 1 ≤ w.val ∧ s.intake.objs = [] →
      (getF s (F.HIER_WSTATE_STATE w.val) = 1 ∨ getF s (F.HIER_WSTATE_STATE w.val) = 2) →
      getF s F.HIER_CFG_HB_TO ≤ getF s (F.HIER_WSTATE_MISSED w.val) →
      ∃ t, exec (.workerHbTimeout w) s = .next t ∧ getF t (F.HIER_WSTATE_STATE w.val) = 3 ∧
      getF t (F.HIER_WSTATE_REASON w.val) = 1 ∧ bit (getF t F.HIER_STATE_MEMBERS) (w.val - 1) = false ∧
      rdN t R.HIER_LOST_CNT = min (rdN s R.HIER_LOST_CNT + 1) 0xFFFFFFFF ∧ stBit t F.HIER_STAT_WORKER_LOST = 1 ∧
      workerOf t w.val = { workerOf s w.val with asked := false, installed := false, joinFrom := none } ∧
      Frame ([R.HIER_WSTATE w.val, R.HIER_STATE, R.HIER_LOST_CNT, R.HIER_STAT] ++ errRegs) s t
        { s with regs := t.regs, err := t.err, jnl := t.jnl, hier := t.hier }) ∧
  (∀ (s : State) (m : Nat),
      isWorker s = true ∧ s.hier.manager = some m ∧ getF s F.HIER_CFG_HB_TO ≤ s.hier.missed →
      (getF s F.HIER_STATE_STATE = 1 ∨ getF s F.HIER_STATE_STATE = 2) →
      ∃ t, exec .managerHbTimeout s = .next t ∧ getF t F.HIER_STATE_STATE = 3 ∧ t.hier = { s.hier with manager := none } ∧
      stBit t F.HIER_STAT_MANAGER_LOST = 1 ∧
      Frame ([R.HIER_STATE, R.HIER_STAT] ++ errRegs) s t { s with regs := t.regs, err := t.err, jnl := t.jnl, hier := t.hier })

/-- A frame that is taken up returns its Moaby descriptors. At units outside a pair: JOIN_REQ_SEND of a JOINING worker
that may ask queues the request and starts collecting anew; JOIN_REQ_RX of a permitted worker whose heartbeats show
the manager's rate shows it JOINING and notes that it asks, and of one that shows another rate is refused with RATE;
JOIN_DATA_RX in order takes an object entry; JOIN_END_RX that names this worker ends the snapshot; JOIN_TIMEOUT two
seconds after the first request aborts the join and waits a second; SYNC_IN_EDGE shows its offset, where it is
within the limit, from the nearest own boundary, and with SYNC_SEAT in ACQUIRE seats the counter at a multiple of
256 frames. -/
def Obligations.JoinsAndSyncChain : Prop :=
  (∀ (s : State),
      isWorker s = true ∧ isPair s = false ∧ getF s F.HIER_STATE_STATE = 1 ∧ s.hier.holdoff ≤ s.msi ∧ s.hier.reqAt = none →
      linkUp s (getF s F.HIER_CFG_PORT) = true →
      ∃ t b, exec .joinReqSend s = .next t ∧ t.hier.reqAt = some s.msi ∧ t.hier.joinSince = some (s.hier.joinSince.getD s.msi) ∧
      t.hier.join = [] ∧ t.hier.joinSeq = none ∧ t.hier.joinEnd = none ∧
      (portOf t (getF s F.HIER_CFG_PORT)).ladle = (portOf s (getF s F.HIER_CFG_PORT)).ladle ++ [⟨getF s F.HIER_CFG_TC, 256, b⟩] ∧
      (∀ p, p ≠ getF s F.HIER_CFG_PORT → portOf t p = portOf s p) ∧ Frame [] s t { s with net := t.net, hier := t.hier }) ∧
  (∀ (s : State) (port n src w : Nat) (b : List Byte) (rest : List (Nat × Nat × Nat × List Byte)),
      s.intake.ladleIn = (port, n, src, b) :: rest ∧ port < 4 ∧ leAt b 3 1 = 0x14 ∧ leAt b 24 1 = w →
      isManager s = true ∧ isPair s = false ∧ 1 ≤ w ∧ w ≤ 15 ∧ bit (rdN s R.HIER_WMASK) w = true →
      (workerOf s w).patId.isSome = true ∧ (workerOf s w).rate = b2n (rate96 s) →
      ∃ t, exec .joinReqRx s = .next t ∧ getF t (F.HIER_WSTATE_STATE w) = 1 ∧ getF t (F.HIER_WSTATE_REASON w) = 0 ∧
      getF t (F.HIER_WSTATE_MISSED w) = 0 ∧
      workerOf t w = { workerOf s w with asked := true, installed := false, joinFrom := none } ∧
      (∀ x, x ≠ w → workerOf t x = workerOf s x) ∧
      getF t (F.NET_RR_TAIL_INDEX port 1) = (getF s (F.NET_RR_TAIL_INDEX port 1) + n) % 8192 ∧
      Frame [R.HIER_WSTATE w, R.HIER_STATE, R.NET_RR_TAIL port 1, R.NET_RR_STATE port 1] s t { s with regs := t.regs, hier := t.hier, intake := { s.intake with ladleIn := rest } }) ∧
  (∀ (s : State) (port n src w : Nat) (b : List Byte) (rest : List (Nat × Nat × Nat × List Byte)),
      s.intake.ladleIn = (port, n, src, b) :: rest ∧ port < 4 ∧ leAt b 3 1 = 0x14 ∧ leAt b 24 1 = w →
      isManager s = true ∧ isPair s = false ∧ 1 ≤ w ∧ w ≤ 15 ∧ bit (rdN s R.HIER_WMASK) w = true →
      (workerOf s w).patId.isSome = true ∧ (workerOf s w).rate ≠ b2n (rate96 s) →
      ∃ t, exec .joinReqRx s = .next t ∧ getF t (F.HIER_WSTATE_REASON w) = 2 ∧
      getF t (F.HIER_WSTATE_STATE w) = getF s (F.HIER_WSTATE_STATE w) ∧
      getF t (F.NET_RR_TAIL_INDEX port 1) = (getF s (F.NET_RR_TAIL_INDEX port 1) + n) % 8192 ∧
      Frame [R.HIER_WSTATE w, R.NET_RR_TAIL port 1, R.NET_RR_STATE port 1] s t { s with regs := t.regs, intake := { s.intake with ladleIn := rest } }) ∧
  (∀ (s : State) (port n src : Nat) (b e : List Byte) (rest : List (Nat × Nat × Nat × List Byte)),
      s.intake.ladleIn = (port, n, src, b) :: rest ∧ port < 4 ∧ leAt b 3 1 = 0x15 ∧ leAt b 4 2 = 1 ∧ e = (b.drop 24).take 128 ∧ leAt e 124 1 = 1 →
      isPair s = false ∧ collecting s = true →
      (s.hier.joinSeq = none ∨ s.hier.joinSeq = some (leAt b 16 4)) →
      (s.hier.manager = none ∨ s.hier.manager = some src) →
      ∃ t o, exec .joinDataRx s = .next t ∧ t.hier = { s.hier with joinSeq := some ((leAt b 16 4 + 1) % 2 ^ 32), join := s.hier.join ++ [o] } ∧
      o.obj = leAt e 0 2 ∧ o.st = leAt e 2 1 ∧ o.high = leAt e 8 4 ∧ o.queue = [] ∧
      getF t (F.NET_RR_TAIL_INDEX port 1) = (getF s (F.NET_RR_TAIL_INDEX port 1) + n) % 8192 ∧
      Frame [R.NET_RR_TAIL port 1, R.NET_RR_STATE port 1] s t { s with regs := t.regs, hier := t.hier, intake := { s.intake with ladleIn := rest } }) ∧
  (∀ (s : State) (port n src : Nat) (b : List Byte) (rest : List (Nat × Nat × Nat × List Byte)),
      s.intake.ladleIn = (port, n, src, b) :: rest ∧ port < 4 ∧ leAt b 3 1 = 0x16 ∧ bit (leAt b 32 2) (getF s F.HIER_CFG_UNIT) = true →
      collecting s = true →
      (s.hier.joinSeq = none ∨ s.hier.joinSeq = some (leAt b 16 4)) →
      (s.hier.manager = none ∨ s.hier.manager = some src) →
      ∃ t, exec .joinEndRx s = .next t ∧
      getF t (F.NET_RR_TAIL_INDEX port 1) = (getF s (F.NET_RR_TAIL_INDEX port 1) + n) % 8192 ∧
      Frame [R.NET_RR_TAIL port 1, R.NET_RR_STATE port 1] s t
        { s with regs := t.regs, hier := { s.hier with joinEnd := some (leAt b 24 8) }, intake := { s.intake with ladleIn := rest } }) ∧
  (∀ (s : State) (m : Nat),
      s.hier.joinSince = some m ∧ isWorker s = true ∧ getF s F.HIER_STATE_STATE = 1 ∧ s.hier.installed = false ∧ s.hier.joinEnd = none →
      m + 2 * fsInt s ≤ s.msi + 16 →
      ∃ t, exec .joinTimeout s = .next t ∧ stBit t F.HIER_STAT_JOIN_FAIL = 1 ∧
      t.hier = { s.hier with reqAt := none, joinSince := none, join := [], joinSeq := none, joinEnd := none, holdoff := s.msi + fsInt s } ∧
      Frame (R.HIER_STAT :: errRegs) s t { s with regs := t.regs, err := t.err, jnl := t.jnl, hier := t.hier }) ∧
  (∀ (stamp : Nat) (s : State) (period x d : Int),
      getF s F.HIER_CFG_SYNC_EN = 1 ∧ syncSeats s = false ∧ period = 256 * secUnit / fsInt s →
      x = tbAt s (followTb s) stamp - getF s F.HIER_SYNC_CFG_DLY * nsUnit - (tbOf s (followTb s)).time + (blk s % 16 : Nat) * (period / 16) →
      d = (if period < 2 * x then x - period else x) ∧ d.natAbs ≤ getF s F.HIER_SYNC_CFG_LIM * nsUnit →
      ∃ t, exec (.syncInEdge stamp) s = .next t ∧ rdN t R.HIER_SYNC_OFS = code 32 (satS 32 (d / 2 ^ 40)) ∧
      Frame [R.HIER_SYNC_OFS] s t { s with regs := t.regs }) ∧
  (∀ (stamp : Nat) (s : State),
      syncSeats s = true ∧ running s = false ∧ getF s F.TSU_ML_STATE_STATE = 0 ∧ tbUsable s (followTb s) = true →
      ∃ t, exec (.syncInEdge stamp) s = .next t ∧ t.msi % 256 = 0 ∧ getF t F.TSU_ML_STATE_SEATED = 1 ∧
      getF t F.TSU_ML_STATE_STATE = 1 ∧ stBit t F.TSU_STAT_LOCK = 1)
end

