-- ==== Sys2Proof/Laws/State.lean ====
section
/-! SUPPORT. What the updates of registers, memory and the free-value counter leave of each field of the state. -/

namespace Sys2Proof.Machine

@[simp] theorem wr_live (s : State) (o : Nat) (v : Word) : (wr s o v).live = s.live := rfl
@[simp] theorem wr_mem (s : State) (o : Nat) (v : Word) : (wr s o v).mem = s.mem := rfl
@[simp] theorem wr_msi (s : State) (o : Nat) (v : Word) : (wr s o v).msi = s.msi := rfl
@[simp] theorem wr_time (s : State) (o : Nat) (v : Word) : (wr s o v).time = s.time := rfl
@[simp] theorem wr_err (s : State) (o : Nat) (v : Word) : (wr s o v).err = s.err := rfl
@[simp] theorem wr_jnl (s : State) (o : Nat) (v : Word) : (wr s o v).jnl = s.jnl := rfl
@[simp] theorem wr_pat (s : State) (o : Nat) (v : Word) : (wr s o v).pat = s.pat := rfl
@[simp] theorem wr_seq (s : State) (o : Nat) (v : Word) : (wr s o v).seq = s.seq := rfl
@[simp] theorem wr_bst (s : State) (o : Nat) (v : Word) : (wr s o v).bst = s.bst := rfl
@[simp] theorem wr_asc (s : State) (o : Nat) (v : Word) : (wr s o v).asc = s.asc := rfl
@[simp] theorem wr_geo (s : State) (o : Nat) (v : Word) : (wr s o v).geo = s.geo := rfl
@[simp] theorem wr_rte (s : State) (o : Nat) (v : Word) : (wr s o v).rte = s.rte := rfl
@[simp] theorem wr_flt (s : State) (o : Nat) (v : Word) : (wr s o v).flt = s.flt := rfl
@[simp] theorem wr_rnd (s : State) (o : Nat) (v : Word) : (wr s o v).rnd = s.rnd := rfl
@[simp] theorem wr_str (s : State) (o : Nat) (v : Word) : (wr s o v).str = s.str := rfl
@[simp] theorem wr_apd (s : State) (o : Nat) (v : Word) : (wr s o v).apd = s.apd := rfl
@[simp] theorem wr_pdm (s : State) (o : Nat) (v : Word) : (wr s o v).pdm = s.pdm := rfl
@[simp] theorem wr_cap (s : State) (o : Nat) (v : Word) : (wr s o v).cap = s.cap := rfl
@[simp] theorem wr_dac (s : State) (o : Nat) (v : Word) : (wr s o v).dac = s.dac := rfl
@[simp] theorem wr_pwr (s : State) (o : Nat) (v : Word) : (wr s o v).pwr = s.pwr := rfl
@[simp] theorem wr_fab (s : State) (o : Nat) (v : Word) : (wr s o v).fab = s.fab := rfl
@[simp] theorem wr_net (s : State) (o : Nat) (v : Word) : (wr s o v).net = s.net := rfl
@[simp] theorem wr_intake (s : State) (o : Nat) (v : Word) : (wr s o v).intake = s.intake := rfl
@[simp] theorem wr_flk (s : State) (o : Nat) (v : Word) : (wr s o v).flk = s.flk := rfl
@[simp] theorem wr_clm (s : State) (o : Nat) (v : Word) : (wr s o v).clm = s.clm := rfl
@[simp] theorem wr_hier (s : State) (o : Nat) (v : Word) : (wr s o v).hier = s.hier := rfl
@[simp] theorem wr_rdata (s : State) (o : Nat) (v : Word) : (wr s o v).rdata = s.rdata := rfl
@[simp] theorem wr_freeCtr (s : State) (o : Nat) (v : Word) : (wr s o v).freeCtr = s.freeCtr := rfl
@[simp] theorem wr_pending (s : State) (o : Nat) (v : Word) : (wr s o v).pending = s.pending := rfl

@[simp] theorem wrN_live (s : State) (o v : Nat) : (wrN s o v).live = s.live := rfl
@[simp] theorem wrN_mem (s : State) (o v : Nat) : (wrN s o v).mem = s.mem := rfl
@[simp] theorem wrN_msi (s : State) (o v : Nat) : (wrN s o v).msi = s.msi := rfl
@[simp] theorem wrN_time (s : State) (o v : Nat) : (wrN s o v).time = s.time := rfl
@[simp] theorem wrN_err (s : State) (o v : Nat) : (wrN s o v).err = s.err := rfl
@[simp] theorem wrN_jnl (s : State) (o v : Nat) : (wrN s o v).jnl = s.jnl := rfl
@[simp] theorem wrN_pat (s : State) (o v : Nat) : (wrN s o v).pat = s.pat := rfl
@[simp] theorem wrN_seq (s : State) (o v : Nat) : (wrN s o v).seq = s.seq := rfl
@[simp] theorem wrN_bst (s : State) (o v : Nat) : (wrN s o v).bst = s.bst := rfl
@[simp] theorem wrN_asc (s : State) (o v : Nat) : (wrN s o v).asc = s.asc := rfl
@[simp] theorem wrN_geo (s : State) (o v : Nat) : (wrN s o v).geo = s.geo := rfl
@[simp] theorem wrN_rte (s : State) (o v : Nat) : (wrN s o v).rte = s.rte := rfl
@[simp] theorem wrN_flt (s : State) (o v : Nat) : (wrN s o v).flt = s.flt := rfl
@[simp] theorem wrN_rnd (s : State) (o v : Nat) : (wrN s o v).rnd = s.rnd := rfl
@[simp] theorem wrN_str (s : State) (o v : Nat) : (wrN s o v).str = s.str := rfl
@[simp] theorem wrN_apd (s : State) (o v : Nat) : (wrN s o v).apd = s.apd := rfl
@[simp] theorem wrN_pdm (s : State) (o v : Nat) : (wrN s o v).pdm = s.pdm := rfl
@[simp] theorem wrN_cap (s : State) (o v : Nat) : (wrN s o v).cap = s.cap := rfl
@[simp] theorem wrN_dac (s : State) (o v : Nat) : (wrN s o v).dac = s.dac := rfl
@[simp] theorem wrN_pwr (s : State) (o v : Nat) : (wrN s o v).pwr = s.pwr := rfl
@[simp] theorem wrN_fab (s : State) (o v : Nat) : (wrN s o v).fab = s.fab := rfl
@[simp] theorem wrN_net (s : State) (o v : Nat) : (wrN s o v).net = s.net := rfl
@[simp] theorem wrN_intake (s : State) (o v : Nat) : (wrN s o v).intake = s.intake := rfl
@[simp] theorem wrN_flk (s : State) (o v : Nat) : (wrN s o v).flk = s.flk := rfl
@[simp] theorem wrN_clm (s : State) (o v : Nat) : (wrN s o v).clm = s.clm := rfl
@[simp] theorem wrN_hier (s : State) (o v : Nat) : (wrN s o v).hier = s.hier := rfl
@[simp] theorem wrN_rdata (s : State) (o v : Nat) : (wrN s o v).rdata = s.rdata := rfl
@[simp] theorem wrN_freeCtr (s : State) (o v : Nat) : (wrN s o v).freeCtr = s.freeCtr := rfl
@[simp] theorem wrN_pending (s : State) (o v : Nat) : (wrN s o v).pending = s.pending := rfl

@[simp] theorem setF_live (s : State) (f : Fld) (v : Nat) : (setF s f v).live = s.live := rfl
@[simp] theorem setF_mem (s : State) (f : Fld) (v : Nat) : (setF s f v).mem = s.mem := rfl
@[simp] theorem setF_msi (s : State) (f : Fld) (v : Nat) : (setF s f v).msi = s.msi := rfl
@[simp] theorem setF_time (s : State) (f : Fld) (v : Nat) : (setF s f v).time = s.time := rfl
@[simp] theorem setF_err (s : State) (f : Fld) (v : Nat) : (setF s f v).err = s.err := rfl
@[simp] theorem setF_jnl (s : State) (f : Fld) (v : Nat) : (setF s f v).jnl = s.jnl := rfl
@[simp] theorem setF_pat (s : State) (f : Fld) (v : Nat) : (setF s f v).pat = s.pat := rfl
@[simp] theorem setF_seq (s : State) (f : Fld) (v : Nat) : (setF s f v).seq = s.seq := rfl
@[simp] theorem setF_bst (s : State) (f : Fld) (v : Nat) : (setF s f v).bst = s.bst := rfl
@[simp] theorem setF_asc (s : State) (f : Fld) (v : Nat) : (setF s f v).asc = s.asc := rfl
@[simp] theorem setF_geo (s : State) (f : Fld) (v : Nat) : (setF s f v).geo = s.geo := rfl
@[simp] theorem setF_rte (s : State) (f : Fld) (v : Nat) : (setF s f v).rte = s.rte := rfl
@[simp] theorem setF_flt (s : State) (f : Fld) (v : Nat) : (setF s f v).flt = s.flt := rfl
@[simp] theorem setF_rnd (s : State) (f : Fld) (v : Nat) : (setF s f v).rnd = s.rnd := rfl
@[simp] theorem setF_str (s : State) (f : Fld) (v : Nat) : (setF s f v).str = s.str := rfl
@[simp] theorem setF_apd (s : State) (f : Fld) (v : Nat) : (setF s f v).apd = s.apd := rfl
@[simp] theorem setF_pdm (s : State) (f : Fld) (v : Nat) : (setF s f v).pdm = s.pdm := rfl
@[simp] theorem setF_cap (s : State) (f : Fld) (v : Nat) : (setF s f v).cap = s.cap := rfl
@[simp] theorem setF_dac (s : State) (f : Fld) (v : Nat) : (setF s f v).dac = s.dac := rfl
@[simp] theorem setF_pwr (s : State) (f : Fld) (v : Nat) : (setF s f v).pwr = s.pwr := rfl
@[simp] theorem setF_fab (s : State) (f : Fld) (v : Nat) : (setF s f v).fab = s.fab := rfl
@[simp] theorem setF_net (s : State) (f : Fld) (v : Nat) : (setF s f v).net = s.net := rfl
@[simp] theorem setF_intake (s : State) (f : Fld) (v : Nat) : (setF s f v).intake = s.intake := rfl
@[simp] theorem setF_flk (s : State) (f : Fld) (v : Nat) : (setF s f v).flk = s.flk := rfl
@[simp] theorem setF_clm (s : State) (f : Fld) (v : Nat) : (setF s f v).clm = s.clm := rfl
@[simp] theorem setF_hier (s : State) (f : Fld) (v : Nat) : (setF s f v).hier = s.hier := rfl
@[simp] theorem setF_rdata (s : State) (f : Fld) (v : Nat) : (setF s f v).rdata = s.rdata := rfl
@[simp] theorem setF_freeCtr (s : State) (f : Fld) (v : Nat) : (setF s f v).freeCtr = s.freeCtr := rfl
@[simp] theorem setF_pending (s : State) (f : Fld) (v : Nat) : (setF s f v).pending = s.pending := rfl

@[simp] theorem wrByte_regs (s : State) (a : Nat) (v : Byte) : (wrByte s a v).regs = s.regs := rfl
@[simp] theorem wrByte_live (s : State) (a : Nat) (v : Byte) : (wrByte s a v).live = s.live := rfl
@[simp] theorem wrByte_msi (s : State) (a : Nat) (v : Byte) : (wrByte s a v).msi = s.msi := rfl
@[simp] theorem wrByte_time (s : State) (a : Nat) (v : Byte) : (wrByte s a v).time = s.time := rfl
@[simp] theorem wrByte_err (s : State) (a : Nat) (v : Byte) : (wrByte s a v).err = s.err := rfl
@[simp] theorem wrByte_jnl (s : State) (a : Nat) (v : Byte) : (wrByte s a v).jnl = s.jnl := rfl
@[simp] theorem wrByte_pat (s : State) (a : Nat) (v : Byte) : (wrByte s a v).pat = s.pat := rfl
@[simp] theorem wrByte_seq (s : State) (a : Nat) (v : Byte) : (wrByte s a v).seq = s.seq := rfl
@[simp] theorem wrByte_bst (s : State) (a : Nat) (v : Byte) : (wrByte s a v).bst = s.bst := rfl
@[simp] theorem wrByte_asc (s : State) (a : Nat) (v : Byte) : (wrByte s a v).asc = s.asc := rfl
@[simp] theorem wrByte_geo (s : State) (a : Nat) (v : Byte) : (wrByte s a v).geo = s.geo := rfl
@[simp] theorem wrByte_rte (s : State) (a : Nat) (v : Byte) : (wrByte s a v).rte = s.rte := rfl
@[simp] theorem wrByte_flt (s : State) (a : Nat) (v : Byte) : (wrByte s a v).flt = s.flt := rfl
@[simp] theorem wrByte_rnd (s : State) (a : Nat) (v : Byte) : (wrByte s a v).rnd = s.rnd := rfl
@[simp] theorem wrByte_str (s : State) (a : Nat) (v : Byte) : (wrByte s a v).str = s.str := rfl
@[simp] theorem wrByte_apd (s : State) (a : Nat) (v : Byte) : (wrByte s a v).apd = s.apd := rfl
@[simp] theorem wrByte_pdm (s : State) (a : Nat) (v : Byte) : (wrByte s a v).pdm = s.pdm := rfl
@[simp] theorem wrByte_cap (s : State) (a : Nat) (v : Byte) : (wrByte s a v).cap = s.cap := rfl
@[simp] theorem wrByte_dac (s : State) (a : Nat) (v : Byte) : (wrByte s a v).dac = s.dac := rfl
@[simp] theorem wrByte_pwr (s : State) (a : Nat) (v : Byte) : (wrByte s a v).pwr = s.pwr := rfl
@[simp] theorem wrByte_fab (s : State) (a : Nat) (v : Byte) : (wrByte s a v).fab = s.fab := rfl
@[simp] theorem wrByte_net (s : State) (a : Nat) (v : Byte) : (wrByte s a v).net = s.net := rfl
@[simp] theorem wrByte_intake (s : State) (a : Nat) (v : Byte) : (wrByte s a v).intake = s.intake := rfl
@[simp] theorem wrByte_flk (s : State) (a : Nat) (v : Byte) : (wrByte s a v).flk = s.flk := rfl
@[simp] theorem wrByte_clm (s : State) (a : Nat) (v : Byte) : (wrByte s a v).clm = s.clm := rfl
@[simp] theorem wrByte_hier (s : State) (a : Nat) (v : Byte) : (wrByte s a v).hier = s.hier := rfl
@[simp] theorem wrByte_rdata (s : State) (a : Nat) (v : Byte) : (wrByte s a v).rdata = s.rdata := rfl
@[simp] theorem wrByte_freeCtr (s : State) (a : Nat) (v : Byte) : (wrByte s a v).freeCtr = s.freeCtr := rfl
@[simp] theorem wrByte_pending (s : State) (a : Nat) (v : Byte) : (wrByte s a v).pending = s.pending := rfl

@[simp] theorem freeNat_regs (s : State) (w : Nat) : (freeNat s w).2.regs = s.regs := rfl
@[simp] theorem freeNat_live (s : State) (w : Nat) : (freeNat s w).2.live = s.live := rfl
@[simp] theorem freeNat_mem (s : State) (w : Nat) : (freeNat s w).2.mem = s.mem := rfl
@[simp] theorem freeNat_msi (s : State) (w : Nat) : (freeNat s w).2.msi = s.msi := rfl
@[simp] theorem freeNat_time (s : State) (w : Nat) : (freeNat s w).2.time = s.time := rfl
@[simp] theorem freeNat_err (s : State) (w : Nat) : (freeNat s w).2.err = s.err := rfl
@[simp] theorem freeNat_jnl (s : State) (w : Nat) : (freeNat s w).2.jnl = s.jnl := rfl
@[simp] theorem freeNat_pat (s : State) (w : Nat) : (freeNat s w).2.pat = s.pat := rfl
@[simp] theorem freeNat_seq (s : State) (w : Nat) : (freeNat s w).2.seq = s.seq := rfl
@[simp] theorem freeNat_bst (s : State) (w : Nat) : (freeNat s w).2.bst = s.bst := rfl
@[simp] theorem freeNat_asc (s : State) (w : Nat) : (freeNat s w).2.asc = s.asc := rfl
@[simp] theorem freeNat_geo (s : State) (w : Nat) : (freeNat s w).2.geo = s.geo := rfl
@[simp] theorem freeNat_rte (s : State) (w : Nat) : (freeNat s w).2.rte = s.rte := rfl
@[simp] theorem freeNat_flt (s : State) (w : Nat) : (freeNat s w).2.flt = s.flt := rfl
@[simp] theorem freeNat_rnd (s : State) (w : Nat) : (freeNat s w).2.rnd = s.rnd := rfl
@[simp] theorem freeNat_str (s : State) (w : Nat) : (freeNat s w).2.str = s.str := rfl
@[simp] theorem freeNat_apd (s : State) (w : Nat) : (freeNat s w).2.apd = s.apd := rfl
@[simp] theorem freeNat_pdm (s : State) (w : Nat) : (freeNat s w).2.pdm = s.pdm := rfl
@[simp] theorem freeNat_cap (s : State) (w : Nat) : (freeNat s w).2.cap = s.cap := rfl
@[simp] theorem freeNat_dac (s : State) (w : Nat) : (freeNat s w).2.dac = s.dac := rfl
@[simp] theorem freeNat_pwr (s : State) (w : Nat) : (freeNat s w).2.pwr = s.pwr := rfl
@[simp] theorem freeNat_fab (s : State) (w : Nat) : (freeNat s w).2.fab = s.fab := rfl
@[simp] theorem freeNat_net (s : State) (w : Nat) : (freeNat s w).2.net = s.net := rfl
@[simp] theorem freeNat_intake (s : State) (w : Nat) : (freeNat s w).2.intake = s.intake := rfl
@[simp] theorem freeNat_flk (s : State) (w : Nat) : (freeNat s w).2.flk = s.flk := rfl
@[simp] theorem freeNat_clm (s : State) (w : Nat) : (freeNat s w).2.clm = s.clm := rfl
@[simp] theorem freeNat_hier (s : State) (w : Nat) : (freeNat s w).2.hier = s.hier := rfl
@[simp] theorem freeNat_rdata (s : State) (w : Nat) : (freeNat s w).2.rdata = s.rdata := rfl
@[simp] theorem freeNat_pending (s : State) (w : Nat) : (freeNat s w).2.pending = s.pending := rfl

end Sys2Proof.Machine
end

