-- ==== Sys2Proof/Laws/Tables.lean ====
section
/-! SUPPORT. Sparse tables: a read after a write, and that a write keeps the canonical form. -/

namespace Sys2Proof

variable {α : Type}

theorem aGet_aErase_self (d : Nat → α) (l : Tbl α) (k : Nat) : aGet d (aErase l k) k = d k := by
  induction l with
  | nil => rfl
  | cons p t ih =>
    simp only [aErase]
    split
    · exact ih
    · simp only [aGet, if_neg ‹_›, ih]

theorem aGet_aErase_of_ne (d : Nat → α) (l : Tbl α) {k j : Nat} (h : j ≠ k) : aGet d (aErase l k) j = aGet d l j := by
  induction l with
  | nil => rfl
  | cons p t ih =>
    simp only [aErase]
    split
    · subst k; simp only [aGet, if_neg h, ih]
    · simp only [aGet, ih]

theorem aGet_aInsert_self (d : Nat → α) (l : Tbl α) (k : Nat) (v : α) : aGet d (aInsert l k v) k = v := by
  induction l with
  | nil => simp [aInsert, aGet]
  | cons p t ih =>
    simp only [aInsert]
    split
    · simp [aGet]
    · split
      · simp [aGet]
      · simp only [aGet, if_neg ‹_›, ih]

theorem aGet_aInsert_of_ne (d : Nat → α) (l : Tbl α) {k j : Nat} (v : α) (h : j ≠ k) :
    aGet d (aInsert l k v) j = aGet d l j := by
  induction l with
  | nil => simp [aInsert, aGet, h]
  | cons p t ih =>
    simp only [aInsert]
    split
    · simp [aGet, h]
    · split
      · subst k; simp [aGet, h]
      · simp only [aGet, ih]

variable [DecidableEq α]

/-- A read after a write of the same key gives the value written. -/
@[simp] theorem aGet_aSet_self (d : Nat → α) (l : Tbl α) (k : Nat) (v : α) : aGet d (aSet d l k v) k = v := by
  unfold aSet
  split
  · rw [aGet_aErase_self, ‹v = d k›]
  · exact aGet_aInsert_self d l k v

/-- A write leaves every other key alone. -/
theorem aGet_aSet_of_ne (d : Nat → α) (l : Tbl α) {k j : Nat} (v : α) (h : j ≠ k) :
    aGet d (aSet d l k v) j = aGet d l j := by
  unfold aSet
  split
  · exact aGet_aErase_of_ne d l h
  · exact aGet_aInsert_of_ne d l v h

/-- Either case at once. -/
theorem aGet_aSet (d : Nat → α) (l : Tbl α) (k j : Nat) (v : α) :
    aGet d (aSet d l k v) j = if j = k then v else aGet d l j := by
  split
  · subst k; exact aGet_aSet_self d l j v
  · exact aGet_aSet_of_ne d l v ‹_›

theorem aWfFrom_mono (d : Nat → α) {a b : Nat} (h : a ≤ b) (l : Tbl α) (w : aWfFrom d b l = true) : aWfFrom d a l = true := by
  cases l with
  | nil => rfl
  | cons p t =>
    simp only [aWfFrom, Bool.and_eq_true, decide_eq_true_eq] at w ⊢
    exact ⟨⟨le_trans h w.1.1, w.1.2⟩, w.2⟩

theorem aWfFrom_aErase (d : Nat → α) (k : Nat) (l : Tbl α) :
    ∀ a, aWfFrom d a l = true → aWfFrom d a (aErase l k) = true := by
  induction l with
  | nil => intro a h; exact h
  | cons p t ih =>
    intro a h
    simp only [aWfFrom, Bool.and_eq_true, decide_eq_true_eq] at h
    simp only [aErase]
    split
    · exact aWfFrom_mono d (by omega) _ (ih _ h.2)
    · simp only [aWfFrom, Bool.and_eq_true, decide_eq_true_eq]
      exact ⟨h.1, ih _ h.2⟩

theorem aWfFrom_aInsert (d : Nat → α) (k : Nat) (v : α) (hv : v ≠ d k) (l : Tbl α) :
    ∀ a, a ≤ k → aWfFrom d a l = true → aWfFrom d a (aInsert l k v) = true := by
  induction l with
  | nil => intro a ha _; simp [aInsert, aWfFrom, ha, hv]
  | cons p t ih =>
    intro a ha h
    simp only [aWfFrom, Bool.and_eq_true, decide_eq_true_eq] at h
    simp only [aInsert]
    split
    · simp only [aWfFrom, Bool.and_eq_true, decide_eq_true_eq]
      exact ⟨⟨ha, by simp [hv]⟩, ⟨by omega, h.1.2⟩, h.2⟩
    · split
      · subst k
        simp only [aWfFrom, Bool.and_eq_true, decide_eq_true_eq]
        exact ⟨⟨ha, by simp [hv]⟩, h.2⟩
      · simp only [aWfFrom, Bool.and_eq_true, decide_eq_true_eq]
        exact ⟨h.1, ih _ (by omega) h.2⟩

/-- A write keeps the canonical form. -/
theorem aWf_aSet (d : Nat → α) (l : Tbl α) (k : Nat) (v : α) (h : aWf d l = true) : aWf d (aSet d l k v) = true := by
  unfold aSet aWf
  split
  · exact aWfFrom_aErase d k l 0 h
  · exact aWfFrom_aInsert d k v ‹_› l 0 (Nat.zero_le k) h

end Sys2Proof
end

