-- ==== Sys2Proof/Laws/Ops.lean ====
section
/-! SUPPORT. Each shared operation over registers and memory, once: what a read after it gives, and that memory and
registers keep their canonical form. -/

namespace Sys2Proof

/-- A field after it is set: the value cut to the field's width. -/
theorem bits_putBits (w hi lo v : Nat) (h : lo ≤ hi) : bits (putBits w hi lo v) hi lo = v % 2 ^ (hi + 1 - lo) := by
  unfold bits putBits
  have e : 2 ^ (hi + 1) = 2 ^ lo * 2 ^ (hi + 1 - lo) := by rw [← Nat.pow_add]; congr 1; omega
  have a : w / 2 ^ (hi + 1) * 2 ^ (hi + 1) + v % 2 ^ (hi + 1 - lo) * 2 ^ lo + w % 2 ^ lo =
      w % 2 ^ lo + 2 ^ lo * (v % 2 ^ (hi + 1 - lo) + 2 ^ (hi + 1 - lo) * (w / 2 ^ (hi + 1))) := by
    generalize w / 2 ^ (hi + 1) = q
    rw [e]; ring
  rw [a, Nat.add_mul_div_left _ _ (Nat.two_pow_pos lo), Nat.div_eq_of_lt (Nat.mod_lt _ (Nat.two_pow_pos lo)), Nat.zero_add,
    Nat.add_mul_mod_self_left, Nat.mod_mod]

/-- A field of a register word after it is set, for a field inside the word. -/
theorem fget_fput (w : Word) (hi lo v : Nat) (h : lo ≤ hi) (h32 : hi < 32) :
    fget (fput w hi lo v) hi lo = v % 2 ^ (hi + 1 - lo) := by
  have key := bits_putBits w.toNat hi lo v h
  unfold fget fput
  rw [BitVec.toNat_ofNat]
  unfold bits at key ⊢
  rw [← key]
  have e : 2 ^ 32 = 2 ^ lo * (2 ^ (hi + 1 - lo) * 2 ^ (31 - hi)) := by
    rw [← Nat.pow_add, ← Nat.pow_add]; congr 1; omega
  rw [e, Nat.mod_mul_right_div_self, Nat.mod_mul_right_mod]

namespace Machine

@[simp] theorem rd_wr_self (s : State) (o : Nat) (v : Word) : rd (wr s o v) o = v := aGet_aSet_self _ _ _ _

theorem rd_wr_of_ne (s : State) {o p : Nat} (v : Word) (h : p ≠ o) : rd (wr s o v) p = rd s p := aGet_aSet_of_ne _ _ _ h

theorem rd_wr (s : State) (o p : Nat) (v : Word) : rd (wr s o v) p = if p = o then v else rd s p := aGet_aSet _ _ _ _ _

theorem rdN_wrN_self (s : State) (o v : Nat) : rdN (wrN s o v) o = v % 2 ^ 32 := by simp [rdN, wrN]

theorem rd_setF_of_ne (s : State) (f : Fld) (v : Nat) {p : Nat} (h : p ≠ f.off) : rd (setF s f v) p = rd s p :=
  rd_wr_of_ne s _ h

/-- A field reads as it was set, cut to its width. -/
theorem getF_setF_self (s : State) (f : Fld) (v : Nat) (h : f.lo ≤ f.hi) (h32 : f.hi < 32) :
    getF (setF s f v) f = v % 2 ^ (f.hi + 1 - f.lo) := by
  unfold getF setF
  rw [rd_wr_self]
  exact fget_fput _ _ _ _ h h32

/-- Setting a field leaves the fields of other registers alone. -/
theorem getF_setF_of_ne (s : State) (f g : Fld) (v : Nat) (h : g.off ≠ f.off) : getF (setF s f v) g = getF s g := by
  unfold getF
  rw [rd_setF_of_ne s f v h]

/-- A counter rises by n and stops at 0xFFFF_FFFF (R19). -/
theorem rdN_cntAdd_self (s : State) (o n : Nat) : rdN (cntAdd s o n) o = min (rdN s o + n) 0xFFFFFFFF := by
  unfold cntAdd
  rw [rdN_wrN_self]
  exact Nat.mod_eq_of_lt (by omega)

@[simp] theorem rdByte_wrByte_self (s : State) (a : Nat) (v : Byte) : rdByte (wrByte s a v) a = v := aGet_aSet_self _ _ _ _

theorem rdByte_wrByte_of_ne (s : State) {a b : Nat} (v : Byte) (h : b ≠ a) : rdByte (wrByte s a v) b = rdByte s b :=
  aGet_aSet_of_ne _ _ _ h

/-- A block write leaves the bytes outside it alone. -/
theorem rdByte_wrBytes_outside (bs : List Byte) :
    ∀ (s : State) (a b : Nat), b < a ∨ a + bs.length ≤ b → rdByte (wrBytes s a bs) b = rdByte s b := by
  induction bs with
  | nil => intro s a b _; rfl
  | cons x t ih =>
    intro s a b h
    simp only [List.length_cons] at h
    simp only [wrBytes]
    rw [ih _ _ _ (by omega), rdByte_wrByte_of_ne _ _ (by omega)]

/-- Memory operations keep memory's canonical form. -/
theorem wf_wrByte (s : State) (a : Nat) (v : Byte) (h : Memory.wf s.mem = true) : Memory.wf (wrByte s a v).mem = true :=
  aWf_aSet _ _ _ _ h

theorem wf_wrBytes (bs : List Byte) : ∀ (s : State) (a : Nat), Memory.wf s.mem = true → Memory.wf (wrBytes s a bs).mem = true := by
  induction bs with
  | nil => intro s a h; exact h
  | cons x t ih => intro s a h; exact ih _ _ (wf_wrByte s a x h)

theorem wf_wrPackedFrom (base w0 : Nat) (bs : List Byte) :
    ∀ (s : State) (k : Nat), Memory.wf s.mem = true → Memory.wf (wrPackedFrom s base w0 k bs).mem = true := by
  induction bs with
  | nil => intro s k h; exact h
  | cons x t ih => intro s k h; exact ih _ _ (wf_wrByte s _ x h)

theorem wf_wrPacked (s : State) (base w0 : Nat) (bs : List Byte) (h : Memory.wf s.mem = true) :
    Memory.wf (wrPacked s base w0 bs).mem = true := wf_wrPackedFrom base w0 bs s 0 h

/-- Register writes keep the register file's canonical form. -/
theorem wf_wr (s : State) (o : Nat) (v : Word) (h : aWf regReset s.regs = true) : aWf regReset (wr s o v).regs = true :=
  aWf_aSet _ _ _ _ h

/-- Memory after a reset holds its canonical form. -/
theorem wf_reset : Memory.wf State.reset.mem = true := rfl

end Machine

end Sys2Proof
end

