-- ==== Sys2Proof/Laws/Flags.lean ====
section
/-! SUPPORT. What journalling and reporting can do: they change registers, the error engine and the journal, and nothing
else. -/

namespace Sys2Proof.Machine

/-- Of the state, only registers, error engine and journal may differ. -/
def LogsOnly (s t : State) : Prop := ∃ r e j, t = { s with regs := r, err := e, jnl := j }

theorem LogsOnly.refl (s : State) : LogsOnly s s := ⟨s.regs, s.err, s.jnl, rfl⟩

theorem LogsOnly.trans {s t u : State} (a : LogsOnly s t) (b : LogsOnly t u) : LogsOnly s u := by
  obtain ⟨r, e, j, rfl⟩ := a
  obtain ⟨r', e', j', rfl⟩ := b
  exact ⟨r', e', j', rfl⟩

/-- A part the log does not hold reads as before. -/
theorem LogsOnly.mem {s t : State} (h : LogsOnly s t) : t.mem = s.mem := by
  obtain ⟨r, e, j, rfl⟩ := h; rfl

theorem LogsOnly.pending {s t : State} (h : LogsOnly s t) : t.pending = s.pending := by
  obtain ⟨r, e, j, rfl⟩ := h; rfl

theorem logsOnly_wr (s : State) (o : Nat) (v : Word) : LogsOnly s (wr s o v) := ⟨_, s.err, s.jnl, rfl⟩

theorem logsOnly_setF (s : State) (f : Fld) (v : Nat) : LogsOnly s (setF s f v) := ⟨_, s.err, s.jnl, rfl⟩

theorem logsOnly_setBit (s : State) (f : Fld) (i : Nat) : LogsOnly s (setBit s f i) := ⟨_, s.err, s.jnl, rfl⟩

theorem logsOnly_cnt (s : State) (o : Nat) : LogsOnly s (cnt s o) := ⟨_, s.err, s.jnl, rfl⟩

theorem logsOnly_freeze (why : Freeze) (s : State) : LogsOnly s (jnlFreezeNow why s) := ⟨s.regs, s.err, _, rfl⟩

theorem logsOnly_err (s : State) (e : ErrState) : LogsOnly s { s with err := e } := ⟨s.regs, e, s.jnl, rfl⟩

theorem logsOnly_foldl {α : Type} (f : State → α → State) (hf : ∀ s a, LogsOnly s (f s a)) (l : List α) :
    ∀ s, LogsOnly s (l.foldl f s) := by
  induction l with
  | nil => exact LogsOnly.refl
  | cons a t ih => intro s; exact (hf s a).trans (ih _)

theorem logsOnly_jnlAppend (e : JEntry) (s : State) : LogsOnly s (jnlAppend e s) := by
  unfold jnlAppend
  by_cases h : 4096 ≤ s.jnl.entries.length
  · simp only [if_pos h]
    split
    · exact ⟨_, s.err, _, rfl⟩
    · split <;> exact ⟨_, s.err, _, rfl⟩
  · simp only [if_neg h]
    split
    · exact ⟨_, s.err, _, rfl⟩
    · split <;> exact ⟨_, s.err, _, rfl⟩

/-- Recording a change. -/
theorem logsOnly_journal (src : Src) (kind addr value msi : Nat) (s : State) : LogsOnly s (journal src kind addr value msi s) := by
  unfold journal
  split
  · exact logsOnly_cnt s _
  · exact logsOnly_jnlAppend _ s

theorem logsOnly_enterSafeState (s : State) : LogsOnly s (enterSafeState s) := by
  have step : ∀ (t : State) (n : Nat),
      LogsOnly t (if getF t (F.DAC_CSTATE_STATE n) = 0 then t
        else setBit (setF (setF t (F.DAC_CSTATE_STATE n) 6) (F.DAC_CSTATE_LPZ n) 0) F.DAC_STAT_FAULT_CODE) := by
    intro t n
    split
    · exact LogsOnly.refl t
    · exact ((logsOnly_setF t _ _).trans (logsOnly_setF _ _ _)).trans (logsOnly_setBit _ _ _)
  unfold enterSafeState forNat
  dsimp only
  refine LogsOnly.trans ?_ (logsOnly_foldl _ step _ _)
  split
  · exact LogsOnly.refl s
  · exact ((logsOnly_setF s _ _).trans (logsOnly_setF _ _ _)).trans (logsOnly_journal _ _ _ _ _ _)

theorem logsOnly_onPresent (e : ErrEntry) (s : State) : LogsOnly s (onPresent e s) := by
  unfold onPresent
  split
  · refine (logsOnly_setBit s F.ERR_STAT_FATAL 0).trans ?_
    dsimp only
    refine LogsOnly.trans (t := if getF (setBit s F.ERR_STAT_FATAL) F.ERR_FATAL_CODE = 0
      then setF (setBit s F.ERR_STAT_FATAL) F.ERR_FATAL_CODE (errCode e.err) else setBit s F.ERR_STAT_FATAL) ?_ ?_
    · split
      · exact logsOnly_setF _ _ _
      · exact LogsOnly.refl _
    · exact ((logsOnly_err _ _).trans (logsOnly_freeze .byFatal _)).trans (logsOnly_enterSafeState _)
  · split
    · dsimp only
      split
      · exact logsOnly_freeze _ _
      · exact ⟨s.regs, s.err, _, rfl⟩
    · exact LogsOnly.refl s

theorem logsOnly_arrive (e : ErrEntry) (s : State) : LogsOnly s (arrive e s).1 := by
  unfold arrive
  split
  · exact (logsOnly_err s _).trans (logsOnly_onPresent e _)
  · split
    · exact logsOnly_err s _
    · split
      · dsimp only
        split
        · exact logsOnly_setF s _ _
        · exact LogsOnly.refl s
      · split
        · exact ((logsOnly_err s _).trans (logsOnly_err _ _)).trans (logsOnly_onPresent e _)
        · dsimp only [fifoAppend]
          split
          · exact logsOnly_err s _
          · exact (logsOnly_setBit s _ _).trans (logsOnly_cnt _ _)

theorem logsOnly_arriveOvf (e : ErrEntry) (s : State) : LogsOnly s (arriveOvf e s) := by
  have h := logsOnly_arrive e s
  unfold arriveOvf
  cases ha : arrive e s with
  | mk t dropped =>
    rw [ha] at h
    cases dropped with
    | false => exact h
    | true =>
      dsimp only
      split
      · exact h
      · exact h.trans (logsOnly_arrive _ t)

/-- Raising an error. -/
theorem logsOnly_raise (e : Err) (src : Nat) (s : State) : LogsOnly s (raise e src s) := by
  unfold raise
  dsimp only
  cases errTie e src with
  | none => exact logsOnly_arriveOvf _ s
  | some f =>
    dsimp only
    generalize (if f.hi = f.lo then 0 else src) = i
    split
    · exact logsOnly_setBit s _ _
    · exact (logsOnly_setBit s _ _).trans (logsOnly_arriveOvf _ _)

/-- Ignoring a write. -/
theorem logsOnly_writeIgnored (s : State) : LogsOnly s (writeIgnored s) := logsOnly_raise _ _ s

end Sys2Proof.Machine
end

