-- ==== Sys2Proof/WellFormed.lean ====
section
/-! DEFINITION. Which commands are well formed: whose operands have a value the block can meet.  A register offset is a
multiple of 4 (R17), a lane carries 16 words of 32 bits a block, a claim word has 16 bits, and so on.  The machine gives an
ill-formed command a meaning too; nothing rests on it. -/

namespace Sys2Proof

/-- An offset of a register. -/
def aligned (off : BitVec 24) : Bool := off.toNat % 4 == 0

/-- A signed number of w bits. -/
def inSigned (w : Nat) (x : Int) : Bool := -(2 : Int) ^ (w - 1) ≤ x && x < (2 : Int) ^ (w - 1)

/-- Sixteen samples of w bits for each of the named sources, each named once. -/
def samplesWf (n w : Nat) (l : List (Nat × List Int)) : Bool :=
  l.all (fun x => x.1 < n && x.2.length == 16 && x.2.all (inSigned w)) && decide ((l.map (·.1)).Nodup)

/-- Sixteen frames of at most 256 samples for each of the named PDM data pins, each named once (R325). -/
def pinsWf (l : List (Nat × List Nat)) : Bool :=
  l.all (fun x => x.1 < 16 && x.2.length == 16 && x.2.all (· < 2 ^ 256)) && decide ((l.map (·.1)).Nodup)

/-- What comes with a strobe: 64 lanes of 32 slots, 16 PDM data pins, 17 tiles. -/
def StrobeIn.wf (x : StrobeIn) : Bool :=
  samplesWf 2048 32 x.lanes && pinsWf x.pins && x.ends.all (·.1 < 17) && x.slotMiss.all (·.1 < 17) &&
  x.atMiss.all (· < 17)

/-- A bus transaction moves at least one byte; a write moves its data. -/
def BusAcc.wf (x : BusAcc) : Bool := if x.write then x.len == x.data.length && 0 < x.len else x.data.isEmpty && 0 < x.len

/-- A frame is no empty one, and the receive FIFO's two parts hold at most their sizes (R267). -/
def RxIn.wf (x : RxIn) : Bool := 0 < x.bytes.length && x.fifoStream ≤ 32768 && x.fifoRing ≤ 65536

/-- A biphase frame's samples have 24 bits and its rate is one of five (R317). -/
def BpFrame.wf (f : BpFrame) : Bool := 1 ≤ f.rate && f.rate ≤ 5 && inSigned 24 f.a.audio && inSigned 24 f.b.audio

/-- A claim word has 16 bits, its CRC 8 (R357). -/
def ClaimRead.wf (r : ClaimRead) : Bool := (match r.word with | some w => decide (w < 65536) | none => true) && r.crc < 256

/-- There are two lanes; MAGIC has 16 bits and TYPE 8, frame numbers have 32 bits and block numbers 64 (R367). -/
def FlkFrame.wf (f : FlkFrame) : Bool :=
  f.lane < 2 && f.magic < 2 ^ 16 && f.type < 2 ^ 8 && f.lseq < 2 ^ 32 && f.block < 2 ^ 64

/-- A command is well formed. -/
def Instr.wf : Instr → Bool
  | .blockStrobe inp => inp.wf
  | .registerWrite _ off _ => aligned off
  | .statW1cWrite off _ => aligned off
  | .rclRead off => aligned off
  | .msiLoRead => true
  | .tbNsRead _ => true
  | .errMsiLoRead => true
  | .busMatrixAccess x => x.wf
  | .tileOverrun _ unwritten _ => unwritten.all (· < 1344)
  | .tileFail _ => true
  | .seqHandoverGo _ _ => true
  | .handoverSweep => true
  | .handoverSwitch => true
  | .patLoad _ => true
  | .patLoadSlot _ _ => true
  | .patLoadDone => true
  | .patArm _ => true
  | .armDone => true
  | .patPour _ => true
  | .pourStrobe => true
  | .patStop _ => true
  | .stopStrobe => true
  | .patternStopped => true
  | .patDiscard _ => true
  | .patAmend _ => true
  | .amendStageCheck => true
  | .amendApply => true
  | .patStore _ _ => true
  | .storeDone => true
  | .patErase _ _ => true
  | .patAuto _ _ _ => true
  | .autoPour => true
  | .coefConversionDone => true
  | .fallbackSwitch => true
  | .shedApply => true
  | .metadataFrameCheck _ => true
  | .recordJudge => true
  | .recordLateRefuse _ => true
  | .ackFrameSend => true
  | .hqTailWrite _ => true
  | .hqBaseWrite _ _ => true
  | .objCmdReseq _ _ => true
  | .objCmdFlush _ _ => true
  | .objCmdAct _ => true
  | .geoOverrun _ => true
  | .geoUnitFail _ => true
  | .gChange => true
  | .silenceHoldReached _ => true
  | .scalePeriodEnd => true
  | .scaleXfadeEnd => true
  | .rcXfadeEnd _ => true
  | .rteCommit _ => true
  | .rteCopy _ => true
  | .rteCancel _ => true
  | .rteValidationDone => true
  | .rteCommitApply => true
  | .rteXfDone => true
  | .tbCfgWrite _ _ _ => true
  | .tbStep _ _ => true
  | .tbStepApply _ => true
  | .ptpMeasWrite _ _ _ => true
  | .refEdge _ _ => true
  | .refEdgeTimeout _ => true
  | .ptpSyncTimeout _ => true
  | .ptpAnnounceTimeout _ => true
  | .mediaSeat => true
  | .mlRequalLock => true
  | .ppsOutSecond => true
  | .rxFrame _ inp => inp.wf
  | .linkDown _ => true
  | .linkUp _ _ _ => true
  | .rxRingTailWrite _ _ _ => true
  | .txRingTailWrite _ _ _ => true
  | .ringCfgWrite _ _ _ _ _ _ => true
  | .txFrame _ _ _ => true
  | .txTailTimeout _ _ => true
  | .gclCommit _ _ => true
  | .gclCancel _ _ => true
  | .gclApply _ => true
  | .gclEntryAdvance _ => true
  | .lpiEnter _ _ => true
  | .lpiWake _ => true
  | .streamPacketRx _ => true
  | .strRxEnable _ _ => true
  | .strRxDisable _ _ => true
  | .strTxEnable _ _ => true
  | .strTxDisable _ _ => true
  | .strRxTimeout _ => true
  | .claimHoldTimeout _ => true
  | .heldPacketExpire _ => true
  | .apdGroupEnable _ _ => true
  | .apdGroupDisable _ _ => true
  | .slaveFsEdge _ _ _ => true
  | .slaveFsTimeout _ => true
  | .laneMaskWrite _ _ _ => true
  | .laneMaskTransfer _ => true
  | .csCommit _ _ => true
  | .csTransfer _ => true
  | .biphaseFrameRx _ f => f.wf
  | .biphaseLockLoss _ => true
  | .pdmSync _ => true
  | .micsyncEdge _ => true
  | .decimatorReset => true
  | .micIdle _ => true
  | .micResume _ => true
  | .capStart _ => true
  | .capStop _ => true
  | .capCancel _ => true
  | .capRunStart => true
  | .capEnd => true
  | .dacUnderrun _ => true
  | .dacUrFault _ => true
  | .dacForce _ _ => true
  | .dacClear _ _ => true
  | .dacPowerUpLoad => true
  | .dacCfgWrite _ _ _ => true
  | .dacSpanStart _ => true
  | .dacSpanSwitch _ => true
  | .dacSettleDone _ => true
  | .clmCfgWrite _ _ => true
  | .clmDrill _ => true
  | .clmRenorm _ => true
  | .clmForceActive _ => true
  | .clmYield _ => true
  | .flkResync _ => true
  | .claimFrameStart => true
  | .claimDecisionPoint a b => a.wf && b.wf
  | .listenEnd => true
  | .drillExecute => true
  | .autoDrill => true
  | .renormApply => true
  | .flaskFrameRx f => f.wf
  | .helloRx => true
  | .heartbeatRx => true
  | .silenceRx => true
  | .mirrorRx => true
  | .commitRx => true
  | .confirmRx => true
  | .discardRx => true
  | .mirrorDeadline => true
  | .snapReqRx => true
  | .snapDataRx => true
  | .snapEndRx => true
  | .snapAbortRx => true
  | .joinPour => true
  | .shadowEnd => true
  | .convTimeout => true
  | .resyncRetry => true
  | .flaskLinkStale => true
  | .flaskLaneDown _ => true
  | .flaskLaneUp _ => true
  | .ladleRecRx => true
  | .ladleAckRx => true
  | .ladleDecideRx => true
  | .ladleUndecided => true
  | .ladleHbRx => true
  | .workerHbTimeout _ => true
  | .managerHbTimeout => true
  | .joinReqSend => true
  | .joinReqRx => true
  | .joinDataRx => true
  | .joinEndRx => true
  | .joinTimeout => true
  | .syncInEdge stamp => stamp < 2 ^ 64
  | .errAckWrite _ => true
  | .jnlFreeze _ => true
  | .jnlResume _ => true
  | .jnlSelWrite _ _ => true
  | .jnlFreezeTimeout => true
  | .startupSelfTest => true
  | .startupSelfTestDone runs => runs.all (fun x => x.1 < 26 && x.2.1 < 2 ^ 64 && x.2.2 < 2 ^ 64) && decide ((runs.map (·.1)).Nodup)
  | .quenchSliceStart busy => decide busy.Nodup
  | .sliceTestRunEnd _ => true
  | .srSliceEnd _ => true
  | .bstClearMap _ => true
  | .bstMark _ _ => true
  | .faultMapWriteDone => true
  | .mtxCmdReset _ _ => true
  | .ccRunWrite _ _ => true
  | .ccKick _ _ _ => true
  | .watchdogExpiry _ => true
  | .coreException _ => true
  | .mailboxDoorbell _ _ _ => true
  | .mailboxDone _ _ => true
  | .dmaTailWrite _ _ => true
  | .dmaDescriptorDone d _ _ => d.length == 32
  | .spiWrite _ _ => true
  | .spiRead _ _ _ => true
  | .mgmtFrameRx _ => true
  | .mgmtRead32 _ => true
  | .mgmtWrite32 _ _ => true
  | .bootLoad => true
  | .bootLoadDone _ => true
  | .nvmProgram _ _ => true
  | .nvmProgramDone _ => true
  | .powerOn => true
  | .powerDown => true
  | .resetPin => true
  | .sysRstCore => true
  | .sysRstFull => true
  | .perst => true
  | .pcieLinkReset => true
  | .corePllLock _ => true
  | .dramReady => true
  | .supplyDip => true
  | .refclkFail _ => true
  | .thermalSample _ _ => true
  | .thermalShutdown => true
  | .thermalRelease => true
  | .testEnAssert => true
  | .testEnRelease => true

end Sys2Proof
end

