-- ==== Sys2Proof/Tests/Slice0.lean ====
section
/-! SUPPORT. The package's own tests.  First, for each check of WellFormed, a command that it refuses.  Then the manual's
worked examples: each expected value is the manual's.  Last, for each statement with hypotheses, a state and operands that
meet all of them together. -/

open Sys2Proof Sys2Proof.Machine

namespace Sys2Proof.Tests

/-! ### WellFormed refuses -/

/-- A strobe that brings nothing. -/
def quiet : StrobeIn :=
  { refCycles := 0, lanes := [], pins := [], ends := [], slotMiss := [], atMiss := [], eccCorr := 0, eccUnc := [] }

/-- A bus read of four bytes. -/
def read4 : BusAcc :=
  { master := 0, write := false, bar2 := false, addr := 0x10000000, len := 4, data := [], full := true, keep := 1, unc := [],
    corr := 0 }

/-- A line that carries no frame. -/
def noWord : ClaimRead := { word := none, crc := 0, drive := false, eof := false, stuck := false, skew := false }

/-- A good biphase frame of zeros at 48 kHz. -/
def frame48 : BpFrame := { valid := true, z := false, rate := 3, a := ⟨0, false, false, false, true⟩, b := ⟨0, false, false, false, true⟩ }

/-- A SNAP_REQ on lane 0. -/
def request : FlkFrame := { lane := 0, magic := flkMagic, type := 0x20, reserved := 0, crcOk := true, lseq := 0, block := 0, payload := .snapReq }

/-- A good frame on lane 0 with a number and a payload. -/
def frameOf (n : Nat) (x : FlkPayload) : FlkFrame := { request with type := flkType x, lseq := n, payload := x }

theorem test_wf_admits : Instr.wf (.blockStrobe quiet) = true ∧ Instr.wf (.busMatrixAccess read4) = true ∧
    Instr.wf (.claimDecisionPoint noWord noWord) = true ∧ Instr.wf (.biphaseFrameRx 0 frame48) = true ∧
    Instr.wf (.flaskFrameRx request) = true ∧ Instr.wf (.registerWrite .pcie 0x000004 0) = true := by decide
theorem test_wf_register_offset : Instr.wf (.registerWrite .pcie 0x000002 0) = false := by decide
theorem test_wf_w1c_offset : Instr.wf (.statW1cWrite 0x000001 0) = false := by decide
theorem test_wf_rcl_offset : Instr.wf (.rclRead 0x000003) = false := by decide
theorem test_wf_lane_index : Instr.wf (.blockStrobe { quiet with lanes := [(2048, List.replicate 16 0)] }) = false := by decide
theorem test_wf_lane_length : Instr.wf (.blockStrobe { quiet with lanes := [(0, [0])] }) = false := by decide
theorem test_wf_lane_width : Instr.wf (.blockStrobe { quiet with lanes := [(0, List.replicate 16 (2 ^ 31))] }) = false := by
  decide
theorem test_wf_lane_twice :
    Instr.wf (.blockStrobe { quiet with lanes := [(0, List.replicate 16 0), (0, List.replicate 16 0)] }) = false := by decide
theorem test_wf_mic_index : Instr.wf (.blockStrobe { quiet with pins := [(16, List.replicate 16 0)] }) = false := by decide
theorem test_wf_end_tile : Instr.wf (.blockStrobe { quiet with ends := [(17, 0)] }) = false := by decide
theorem test_wf_slot_tile : Instr.wf (.blockStrobe { quiet with slotMiss := [(17, 1)] }) = false := by decide
theorem test_wf_at_tile : Instr.wf (.blockStrobe { quiet with atMiss := [17] }) = false := by decide
theorem test_wf_bus_nothing : Instr.wf (.busMatrixAccess { read4 with len := 0 }) = false := by decide
theorem test_wf_bus_write_length : Instr.wf (.busMatrixAccess { read4 with write := true, data := [0] }) = false := by decide
theorem test_wf_bus_read_data : Instr.wf (.busMatrixAccess { read4 with data := [0] }) = false := by decide
theorem test_wf_overrun_channel : Instr.wf (.tileOverrun 0 [1344] 0) = false := by decide
theorem test_wf_frame_empty : Instr.wf (.rxFrame 0 { bytes := [], stamp := 0, fifoRing := 0, fifoStream := 0 }) = false := by
  decide
theorem test_wf_frame_fifo :
    Instr.wf (.rxFrame 0 { bytes := [0], stamp := 0, fifoRing := 0, fifoStream := 32769 }) = false ∧
    Instr.wf (.rxFrame 0 { bytes := [0], stamp := 0, fifoRing := 65537, fifoStream := 0 }) = false := by decide
theorem test_wf_biphase_rate : Instr.wf (.biphaseFrameRx 0 { frame48 with rate := 6 }) = false := by decide
theorem test_wf_biphase_sample : Instr.wf (.biphaseFrameRx 0 { frame48 with a := ⟨2 ^ 23, false, false, false, true⟩ }) = false := by
  decide
theorem test_wf_claim_word : Instr.wf (.claimDecisionPoint { noWord with word := some 65536 } noWord) = false := by decide
theorem test_wf_claim_crc : Instr.wf (.claimDecisionPoint noWord { noWord with crc := 256 }) = false := by decide
theorem test_wf_flask_lane : Instr.wf (.flaskFrameRx { request with lane := 2 }) = false := by decide
theorem test_wf_flask_number : Instr.wf (.flaskFrameRx { request with lseq := 2 ^ 32 }) = false := by decide
theorem test_wf_flask_block : Instr.wf (.flaskFrameRx { request with block := 2 ^ 64 }) = false := by decide
theorem test_wf_stamp : Instr.wf (.syncInEdge (2 ^ 64)) = false := by decide
theorem test_wf_region : Instr.wf (.startupSelfTestDone [(26, 0, 0)]) = false := by decide
theorem test_wf_region_twice : Instr.wf (.startupSelfTestDone [(1, 0, 0), (1, 0, 0)]) = false := by decide
theorem test_wf_slice_twice : Instr.wf (.quenchSliceStart [1, 1]) = false := by decide
theorem test_wf_descriptor : Instr.wf (.dmaDescriptorDone [0] [] []) = false := by decide

/-! ### The manual's examples -/

/-- R16: +0.5 then -0.5 in one word. -/
theorem test_pack_pair : packPair (2 ^ 30) (-(2 ^ 30)) = 0xFC0000000040000000 := by decide

/-- R447: page p resets to 0x1000 + p, so BAR2 shows DRAM. -/
theorem test_reset_pages : rd State.reset (R.SYS_PAGE 0) = 0x1000 ∧ rd State.reset (R.SYS_PAGE 15) = 0x100F ∧
    rd State.reset (R.SYS_PAGE 16) = 0 := by decide

set_option maxRecDepth 10000 in
/-- R65: the check value over "123456789". -/
theorem test_crc32c : crc32c [0x31, 0x32, 0x33, 0x34, 0x35, 0x36, 0x37, 0x38, 0x39] = 0xE3069283 := by decide

/-- R61: c = 1,000,000, lead 1, LATE_GRACE 4, EARLY_WIN 6,000. -/
theorem test_judge_window : judgeApply 16000040 1000000 1 4 6000 = .inWindow 1000003 := by decide
theorem test_judge_grace : judgeApply 15999990 1000000 1 4 6000 = .grace 1000001 := by decide
theorem test_judge_late : judgeApply 15999900 1000000 1 4 6000 = .late := by decide
theorem test_judge_early : judgeApply 16096016 1000000 1 4 6000 = .early := by decide

/-- R62: fields 0x0000_0040 and 0xFFFF_FF00 against 0xFFFF_FFF0. -/
theorem test_compact_wrap : cmpDiff 0x40 0xFFFFFFF0 = 80 ∧ cmpDiff 0xFFFFFF00 0xFFFFFFF0 = -240 := by decide

/-- R66: slot of s1.34 that holds 0.5. -/
theorem test_gain_slot : slotS [0, 0, 0, 0, 2, 0, 0, 0] 0 = some (2 ^ 33) := by decide

/-- The record of the example of R118: object 17, linear, SEQ 901, MSI 48,000,000, gain 1.0, (2.5, 4, 1.5) m, -1 m/s. -/
def record17 : List Byte :=
  [0x11, 0, 1, 0, 0, 0, 0, 0, 0x85, 3, 0, 0, 0, 0x6C, 0xDC, 2] ++ List.replicate 16 0 ++
  [0, 0, 0, 0, 4, 0, 0, 0, 0, 0, 0x40, 1, 0, 0, 0, 0, 0, 0, 0, 2, 0, 0, 0, 0, 0, 0, 0xC0, 0, 0, 0, 0, 0,
   0, 0, 0, 0xFE, 0xFF, 0xFF, 0xFF, 0xFF] ++ List.replicate 40 0

theorem test_record :
    (recOf record17).obj = 17 ∧ (recOf record17).seq = 901 ∧ (recOf record17).ns = 48000000 ∧
    (recOf record17).gain = 2 ^ 34 ∧ (recOf record17).p = ⟨0x1400000, 0x2000000, 0xC00000⟩ ∧
    (recOf record17).v.x = -(2 ^ 25) ∧ checkRecord record17 true = .none := by decide

/-- The bring-up example: -1 m/s is +1 m/s there, from x = -2 m; after 96,000 frames at 96 kHz x = -1 m. -/
theorem test_trajectory : trajComp 96000 96000 (-(2 ^ 24)) (2 ^ 25) 0 = -(2 ^ 23) := by decide

/-- R357, R364 and the example of R286: the word of epoch 5, rank 2. -/
theorem test_claim_word : claimWordOf true 5 2 = 0x8052 ∧ claimWordOf true 1 2 = 0x8012 := by decide

/-- R286: the extension of that word: ID 3, ten bytes, channels 0 and 2 silent. -/
theorem test_extension :
    extElement 3 11 [0x39, 0x80, 0x52, 0, 0, 0, 0, 0, 0, 0, 5, 0] = some [0x80, 0x52, 0, 0, 0, 0, 0, 0, 0, 5] := by decide

/-- R282: 40 channels of L24, untagged IPv4 with the extension: 1,514 bytes; the bring-up example's six: 290 bytes. -/
theorem test_frame_size : frameSize 1 false true false 40 12 = 1514 ∧ frameSize 1 false true false 6 12 = 290 := by decide

/-- R212: with three active objects g_as is 1/3 of unity, rounded; the scale of four is 1/4. -/
theorem test_scale : scaleOf 3 = 5726623061 ∧ scaleOf 4 = 2 ^ 32 := by decide

/-- R208: one sample of 1.0 three frames ahead governs the gain of the first frame by 1/4 of the way down. -/
theorem test_limiter :
    limGain (2 ^ 34) 0 ([2 ^ 34, 2 ^ 34, 2 ^ 34, 8589934592] ++ List.replicate 12 (2 ^ 34)) = 15032385536 := by decide

/-! The example of the error engine (R408, R409): eight events and five acknowledgements. -/

/-- The engine's current code, its count, the codes on the stack (top first) and in the FIFO, and FAULT_N. -/
def engine (s : State) : Option (Nat × Nat) × List Nat × List Nat × Bool :=
  (s.err.current.map (fun e => (errCode e.err, e.count)), s.err.stack.map (fun e => errCode e.err),
   s.err.fifo.map (fun e => errCode e.err), faultNLow s)

/-- The start-up hold on FAULT_N has ended. -/
def started : State := { State.reset with err := { ErrState.reset with startupHold := false } }

/-- The first four events, and all six. -/
def afterFour : State := raise .seqOverrun 7 (raise .spkClip 12 (raise .strRxLost 5 (raise .netRxTrunc 2 started)))
def afterSix : State := raise .seqTileFail 7 (raise .seqOverrun 7 afterFour)

theorem test_engine_low : engine (raise .spkClip 12 (raise .strRxLost 5 (raise .netRxTrunc 2 started))) =
    (some (0x7001, 1), [0x6002], [0x4004], false) := by decide
theorem test_engine_fault : engine afterFour = (some (0x0301, 1), [0x7001, 0x6002], [0x4004], true) := by decide
theorem test_engine_again : engine afterSix = (some (0x0301, 2), [0x7001, 0x6002], [0x4004, 0x0307], true) := by decide
set_option maxRecDepth 10000 in
theorem test_engine_pre_empts : engine (acknowledge afterSix) = (some (0x0307, 1), [0x7001, 0x6002], [0x4004], true) := by decide
set_option maxRecDepth 10000 in
theorem test_engine_resumes : engine (acknowledge (acknowledge afterSix)) = (some (0x7001, 1), [0x6002], [0x4004], false) := by
  decide
set_option maxRecDepth 10000 in
theorem test_engine_device : engine (autoAck (acknowledge (acknowledge (acknowledge afterSix)))) =
    (some (0x4004, 1), [], [], false) := by decide

/-! ### The hypotheses of the statements are met -/

/-- An answer is the one that a comparison finds. -/
theorem ok_of_match {α β : Type} [DecidableEq β] (x : Except α β) (y : β)
    (h : (match x with
      | .ok z => decide (z = y)
      | .error _ => false) = true) : x = .ok y := by
  cases x with
  | ok z => exact congrArg _ (of_decide_eq_true h)
  | error e => cases h

/-- The hypotheses of EmptyQueueRunsOneFrame, clause 1, are met together. -/
theorem witness_EmptyQueueRunsOneFrame_1 :
    ∃ (s : State),
      (s.pending = []) ∧ (clocked s = true) ∧ (s.msi % 16 ≠ 15) :=
  ⟨{ State.reset with pwr := { PwrState.reset with pll := true } }, by decide⟩

/-- The hypotheses of EmptyQueueRunsOneFrame, clause 2, are met together. -/
theorem witness_EmptyQueueRunsOneFrame_2 :
    ∃ (s : State),
      (s.pending = []) ∧ (clocked s = false ∨ s.msi % 16 = 15) :=
  ⟨State.reset, by decide⟩

/-- The hypotheses of StepKeepsCanonicalForm, clause 1, are met together. -/
theorem witness_StepKeepsCanonicalForm_1 :
    ∃ (s : State) (t : State),
      (s.canonical = true) ∧ (step s = .next t) :=
  ⟨State.reset, State.reset, by decide, rfl⟩

/-- The hypotheses of RegisterWriteReadBack, clause 2, are met together. -/
theorem witness_RegisterWriteReadBack_2 :
    ∃ (s : State),
      (s.canonical = true) :=
  ⟨State.reset, by decide⟩

/-- The hypotheses of RegisterWriteReadBack, clause 3, are met together. -/
theorem witness_RegisterWriteReadBack_3 :
    ∃ (f : Fld),
      (f.lo ≤ f.hi ∧ f.hi < 32) :=
  ⟨⟨0x10000, 31, 0⟩, by decide⟩

/-- The hypotheses of ByteWriteReadBack, clause 2, are met together. -/
theorem witness_ByteWriteReadBack_2 :
    ∃ (s : State),
      (s.canonical = true) :=
  ⟨State.reset, by decide⟩

/-- The hypotheses of StatusBitsClearByOnes, clause 1, are met together. -/
theorem witness_StatusBitsClearByOnes_1 :
    ∃ (off : BitVec 24) (r : RegRow),
      (regRow off.toNat = some r) ∧ (off.toNat ≠ R.ERR_STAT) :=
  ⟨BitVec.ofNat 24 R.TSU_STAT, (regRow R.TSU_STAT).get (by decide), by decide⟩

/-- The hypotheses of StatusBitsClearByOnes, clause 3, are met together. -/
theorem witness_StatusBitsClearByOnes_3 :
    ∃ (off : BitVec 24),
      (off.toNat ∈ [R.MTX_ERR_CNT, R.MTX_ABORT_CNT, R.BST_FAIL_CNT, R.BST_SLICE_CNT, R.BST_TRANS_CNT, R.BST_ABORT_CNT, R.BST_HOT_CNT, R.JNL_MISSED, R.JNL_WRAP_CNT, R.ERR_LOST, R.ERR_ECC_UNC_CNT]) :=
  ⟨BitVec.ofNat 24 R.ERR_LOST, by decide⟩

/-- The hypotheses of StatusBitsClearByOnes, clause 4, are met together. -/
theorem witness_StatusBitsClearByOnes_4 :
    ∃ (off : BitVec 24) (s : State) (r : RegRow),
      (regRow off.toNat = some r ∧ r.rcl ≠ 0 ∧ realOff s off.toNat = off.toNat) ∧ (off.toNat ≠ R.SYS_TEMP_MAX) :=
  ⟨BitVec.ofNat 24 R.ERR_LOST, State.reset, (regRow R.ERR_LOST).get (by decide), by decide⟩

/-- The hypotheses of StatusBitsClearByOnes, clause 5, are met together. -/
theorem witness_StatusBitsClearByOnes_5 :
    ∃ (s : State),
      (realOff s R.SYS_TEMP_MAX = R.SYS_TEMP_MAX) :=
  ⟨State.reset, by decide⟩

/-- The hypotheses of LowWordReadsLatchHighWord, clause 3, are met together. -/
theorem witness_LowWordReadsLatchHighWord_3 :
    ∃ (n : Fin 4) (s : State) (sec : Nat) (ns : Nat) (fr : Nat),
      (getF s (F.TSU_TB_CFG_FMT n.val) = 0) ∧ (ns < 1000000000 ∧ fr < 2 ^ 16 ∧ sec < 2 ^ 48) ∧ (tbNow s n.val = ((sec : Int) * 1000000000 + ns) * nsUnit + (fr : Int) * 2 ^ 32) :=
  ⟨0, State.reset, 0, 0, 0, by decide⟩

/-- The hypotheses of ErrorArrivalTable, clause 1, are met together. -/
theorem witness_ErrorArrivalTable_1 :
    ∃ (s : State),
      (s.err.current = none) :=
  ⟨State.reset, by decide⟩

set_option maxRecDepth 100000 in
/-- The hypotheses of ErrorArrivalTable, clause 2, are met together. -/
theorem witness_ErrorArrivalTable_2 :
    ∃ (e : ErrEntry) (c : ErrEntry) (s : State),
      (s.err.current = some c) ∧ (errCode c.err = errCode e.err) :=
  ⟨{ err := .netRxTrunc, src := 2, msi := 0, count := 1, superseded := false }, { err := .netRxTrunc, src := 2, msi := 0, count := 1, superseded := false }, { State.reset with err := { ErrState.reset with current := some { err := .netRxTrunc, src := 2, msi := 0, count := 1, superseded := false } } }, by decide⟩

set_option maxRecDepth 100000 in
/-- The hypotheses of ErrorArrivalTable, clause 3, are met together. -/
theorem witness_ErrorArrivalTable_3 :
    ∃ (e : ErrEntry) (c : ErrEntry) (s : State),
      (s.err.current = some c) ∧ (errCode c.err ≠ errCode e.err) ∧ (errSev e.err = .fatal ∧ errSev c.err = .fatal) :=
  ⟨{ err := .sysSupply, src := 0, msi := 0, count := 1, superseded := false }, { err := .sysClkFail, src := 0, msi := 0, count := 1, superseded := false }, { State.reset with err := { ErrState.reset with current := some { err := .sysClkFail, src := 0, msi := 0, count := 1, superseded := false } } }, by decide⟩

set_option maxRecDepth 100000 in
/-- The hypotheses of ErrorArrivalTable, clause 4, are met together. -/
theorem witness_ErrorArrivalTable_4 :
    ∃ (e : ErrEntry) (c : ErrEntry) (s : State),
      (s.err.current = some c) ∧ (errCode c.err ≠ errCode e.err) ∧ (entSev c < entSev e) ∧ (errSev e.err ≠ .fatal) :=
  ⟨{ err := .strRxLost, src := 5, msi := 0, count := 1, superseded := false }, { err := .netRxTrunc, src := 2, msi := 0, count := 1, superseded := false }, { State.reset with err := { ErrState.reset with current := some { err := .netRxTrunc, src := 2, msi := 0, count := 1, superseded := false } } }, by decide⟩

set_option maxRecDepth 100000 in
/-- The hypotheses of ErrorArrivalTable, clause 5, are met together. -/
theorem witness_ErrorArrivalTable_5 :
    ∃ (e : ErrEntry) (c : ErrEntry) (s : State),
      (s.err.current = some c) ∧ (errSev e.err = .fatal ∧ errSev c.err ≠ .fatal) :=
  ⟨{ err := .sysClkFail, src := 0, msi := 0, count := 1, superseded := false }, { err := .netRxTrunc, src := 2, msi := 0, count := 1, superseded := false }, { State.reset with err := { ErrState.reset with current := some { err := .netRxTrunc, src := 2, msi := 0, count := 1, superseded := false } } }, by decide⟩

set_option maxRecDepth 100000 in
/-- The hypotheses of ErrorArrivalTable, clause 6, are met together. -/
theorem witness_ErrorArrivalTable_6 :
    ∃ (e : ErrEntry) (c : ErrEntry) (s : State),
      (s.err.current = some c) ∧ (errCode c.err ≠ errCode e.err) ∧ (entSev e ≤ entSev c) ∧ (errSev e.err ≠ .fatal) ∧ (32 ≤ s.err.fifo.length) :=
  ⟨{ err := .spkClip, src := 12, msi := 0, count := 1, superseded := false }, { err := .strRxLost, src := 5, msi := 0, count := 1, superseded := false }, { State.reset with err := { ErrState.reset with current := some { err := .strRxLost, src := 5, msi := 0, count := 1, superseded := false }, fifo := List.replicate 32 { err := .spkClip, src := 11, msi := 0, count := 1, superseded := false } } }, by decide⟩

set_option maxRecDepth 100000 in
/-- The hypotheses of ErrorArrivalTable, clause 7, are met together. -/
theorem witness_ErrorArrivalTable_7 :
    ∃ (e : ErrEntry) (c : ErrEntry) (s : State),
      (s.err.current = some c) ∧ (errCode c.err ≠ errCode e.err) ∧ (entSev e ≤ entSev c) ∧ (errSev e.err ≠ .fatal) ∧ (s.err.fifo.length < 32) :=
  ⟨{ err := .spkClip, src := 12, msi := 0, count := 1, superseded := false }, { err := .strRxLost, src := 5, msi := 0, count := 1, superseded := false }, { State.reset with err := { ErrState.reset with current := some { err := .strRxLost, src := 5, msi := 0, count := 1, superseded := false } } }, by decide⟩

set_option maxRecDepth 100000 in
/-- The hypotheses of ErrorAcknowledgement, clause 1, are met together. -/
theorem witness_ErrorAcknowledgement_1 :
    ∃ (code : BitVec 32) (s : State) (c : ErrEntry),
      (s.err.current = some c) ∧ (errCode c.err = code.toNat % 2 ^ 16 ∧ errSev c.err ≠ .fatal) ∧ (s.err.stack = [] ∧ s.err.fifo = []) :=
  ⟨BitVec.ofNat 32 (errCode .netRxTrunc), { State.reset with err := { ErrState.reset with current := some { err := .netRxTrunc, src := 2, msi := 0, count := 1, superseded := false } } }, { err := .netRxTrunc, src := 2, msi := 0, count := 1, superseded := false }, by decide⟩

set_option maxRecDepth 100000 in
/-- The hypotheses of ErrorAcknowledgement, clause 2, are met together. -/
theorem witness_ErrorAcknowledgement_2 :
    ∃ (code : BitVec 32) (s : State) (c : ErrEntry) (b : ErrEntry) (l : List ErrEntry),
      (s.err.current = some c) ∧ (errCode c.err = code.toNat % 2 ^ 16 ∧ errSev c.err ≠ .fatal) ∧ (s.err.stack = [] ∧ bestOf s.err.fifo = some (b, l)) :=
  ⟨BitVec.ofNat 32 (errCode .strRxLost), { State.reset with err := { ErrState.reset with current := some { err := .strRxLost, src := 5, msi := 0, count := 1, superseded := false }, fifo := [{ err := .spkClip, src := 12, msi := 0, count := 1, superseded := false }, { err := .sysThermWarn, src := 0, msi := 0, count := 1, superseded := false }] } }, { err := .strRxLost, src := 5, msi := 0, count := 1, superseded := false }, { err := .sysThermWarn, src := 0, msi := 0, count := 1, superseded := false }, [{ err := .spkClip, src := 12, msi := 0, count := 1, superseded := false }], by decide⟩

set_option maxRecDepth 100000 in
/-- The hypotheses of ErrorAcknowledgement, clause 3, are met together. -/
theorem witness_ErrorAcknowledgement_3 :
    ∃ (code : BitVec 32) (s : State) (c : ErrEntry) (top : ErrEntry) (b : ErrEntry) (rest : List ErrEntry) (l : List ErrEntry),
      (s.err.current = some c) ∧ (errCode c.err = code.toNat % 2 ^ 16 ∧ errSev c.err ≠ .fatal) ∧ (s.err.stack = top :: rest ∧ bestOf s.err.fifo = some (b, l)) ∧ (entSev top < entSev b ∧ errSev b.err ≠ .fatal) :=
  ⟨BitVec.ofNat 32 (errCode .strRxLost), { State.reset with err := { ErrState.reset with current := some { err := .strRxLost, src := 5, msi := 0, count := 1, superseded := false }, stack := [{ err := .spkClip, src := 11, msi := 0, count := 1, superseded := false }], fifo := [{ err := .spkClip, src := 12, msi := 0, count := 1, superseded := false }, { err := .sysThermWarn, src := 0, msi := 0, count := 1, superseded := false }] } }, { err := .strRxLost, src := 5, msi := 0, count := 1, superseded := false }, { err := .spkClip, src := 11, msi := 0, count := 1, superseded := false }, { err := .sysThermWarn, src := 0, msi := 0, count := 1, superseded := false }, [], [{ err := .spkClip, src := 12, msi := 0, count := 1, superseded := false }], by decide⟩

set_option maxRecDepth 100000 in
/-- The hypotheses of ErrorAcknowledgement, clause 4, are met together. -/
theorem witness_ErrorAcknowledgement_4 :
    ∃ (code : BitVec 32) (s : State) (c : ErrEntry) (top : ErrEntry) (rest : List ErrEntry),
      (s.err.current = some c) ∧ (errCode c.err = code.toNat % 2 ^ 16 ∧ errSev c.err ≠ .fatal) ∧ (s.err.stack = top :: rest ∧ top.superseded = false) ∧ (s.err.fifo.all (fun e => decide (entSev e ≤ entSev top)) = true) :=
  ⟨BitVec.ofNat 32 (errCode .strRxLost), { State.reset with err := { ErrState.reset with current := some { err := .strRxLost, src := 5, msi := 0, count := 1, superseded := false }, stack := [{ err := .netRxTrunc, src := 2, msi := 0, count := 1, superseded := false }], fifo := [{ err := .spkClip, src := 12, msi := 0, count := 1, superseded := false }] } }, { err := .strRxLost, src := 5, msi := 0, count := 1, superseded := false }, { err := .netRxTrunc, src := 2, msi := 0, count := 1, superseded := false }, [], by decide⟩

set_option maxRecDepth 100000 in
/-- The hypotheses of ErrorAcknowledgement, clause 5, are met together. -/
theorem witness_ErrorAcknowledgement_5 :
    ∃ (code : BitVec 32) (s : State) (c : ErrEntry) (top : ErrEntry),
      (s.err.current = some c) ∧ (errCode c.err = code.toNat % 2 ^ 16 ∧ errSev c.err ≠ .fatal) ∧ (s.err.stack = [top] ∧ top.superseded = true ∧ s.err.fifo = []) :=
  ⟨BitVec.ofNat 32 (errCode .strRxLost), { State.reset with err := { ErrState.reset with current := some { err := .strRxLost, src := 5, msi := 0, count := 1, superseded := false }, stack := [{ err := .netRxTrunc, src := 2, msi := 0, count := 1, superseded := true }] } }, { err := .strRxLost, src := 5, msi := 0, count := 1, superseded := false }, { err := .netRxTrunc, src := 2, msi := 0, count := 1, superseded := true }, by decide⟩

set_option maxRecDepth 100000 in
/-- The hypotheses of ErrorAcknowledgement, clause 6, are met together. -/
theorem witness_ErrorAcknowledgement_6 :
    ∃ (s : State) (c : ErrEntry),
      (s.err.current = some c) ∧ (errSev c.err = .fatal) :=
  ⟨{ State.reset with err := { ErrState.reset with current := some { err := .sysClkFail, src := 0, msi := 0, count := 1, superseded := false }, fatal := true } }, { err := .sysClkFail, src := 0, msi := 0, count := 1, superseded := false }, by decide⟩

/-- The hypotheses of JournalFreezesAndResumes, clause 1, are met together. -/
theorem witness_JournalFreezesAndResumes_1 :
    ∃ (s : State),
      (s.jnl.frozen = none) :=
  ⟨State.reset, by decide⟩

/-- The hypotheses of JournalFreezesAndResumes, clause 2, are met together. -/
theorem witness_JournalFreezesAndResumes_2 :
    ∃ (s : State) (f : Freeze),
      (s.jnl.frozen = some f ∧ f ≠ .byFatal) :=
  ⟨{ State.reset with jnl := { Journal.reset with frozen := some .byWrite } }, .byWrite, by decide⟩

/-- The hypotheses of JournalFreezesAndResumes, clause 3, are met together. -/
theorem witness_JournalFreezesAndResumes_3 :
    ∃ (via : Src) (s : State) (c : Instr),
      (s.jnl.frozen = some .byFatal ∧ (c = .jnlFreeze via ∨ c = .jnlResume via)) :=
  ⟨.pcie, { State.reset with jnl := { Journal.reset with frozen := some .byFatal } }, .jnlResume .pcie, by decide⟩

set_option maxRecDepth 100000 in
/-- The hypotheses of JournalFreezesAndResumes, clause 4, are met together. -/
theorem witness_JournalFreezesAndResumes_4 :
    ∃ (via : Src) (serial : BitVec 32) (s : State) (e : JEntry),
      ((journalReg via R.JNL_SEL serial s).jnl.entries.find? (fun x => x.serial == serial.toNat) = some e) ∧ (e.msi < 2 ^ 64 ∧ e.src < 16 ∧ e.kind < 16 ∧ e.addr < 2 ^ 24 ∧ e.value < 2 ^ 32) :=
  ⟨.spi, 7#32, { State.reset with jnl := { Journal.reset with frozen := some .byWrite, entries := [⟨7, 16, 1, 0, 0x10804, 5⟩] } }, ⟨7, 16, 1, 0, 0x10804, 5⟩, by decide⟩

/-- The hypotheses of JournalFreezesAndResumes, clause 5, are met together. -/
theorem witness_JournalFreezesAndResumes_5 :
    ∃ (via : Src) (serial : BitVec 32) (s : State),
      ((journalReg via R.JNL_SEL serial s).jnl.entries.find? (fun x => x.serial == serial.toNat) = none) :=
  ⟨.spi, 7#32, { State.reset with jnl := { Journal.reset with frozen := some .byWrite } }, by decide⟩

/-- The hypotheses of JournalFreezesAndResumes, clause 6, are met together. -/
theorem witness_JournalFreezesAndResumes_6 :
    ∃ (s : State) (f : Freeze),
      (s.jnl.frozen = some f ∧ f ≠ .byFatal) ∧ (s.jnl.since + getF s F.JNL_CFG_FRZ_MAX * fsInt s ≤ s.msi) :=
  ⟨{ State.reset with msi := 5760000, jnl := { Journal.reset with frozen := some .byError } }, .byError, by decide⟩

/-- The hypotheses of JournalFreezesAndResumes, clause 7, are met together. -/
theorem witness_JournalFreezesAndResumes_7 :
    ∃ (s : State) (f : Freeze),
      (s.jnl.frozen = some f) :=
  ⟨{ State.reset with jnl := { Journal.reset with frozen := some .byFatal } }, .byFatal, by decide⟩

/-- The hypotheses of RegisterWriteByAccessType, clause 1, are met together. -/
theorem witness_RegisterWriteByAccessType_1 :
    ∃ (off : BitVec 24) (v : Word),
      (off.toNat ∈ [R.ERR_CFG, R.JNL_CFG, R.SYS_THERM_CFG, R.BST_CFG, R.TSU_CFG, R.TSU_ML_CFG]) ∧ (rangeOk off.toNat v = true) :=
  ⟨BitVec.ofNat 24 R.ERR_CFG, 0x00640022#32, by decide⟩

/-- The hypotheses of RegisterWriteByAccessType, clause 2, are met together. -/
theorem witness_RegisterWriteByAccessType_2 :
    ∃ (off : BitVec 24) (v : Word),
      (off.toNat ∈ [R.ERR_CFG, R.JNL_CFG, R.SYS_THERM_CFG, R.BST_CFG, R.TSU_CFG, R.TSU_ML_CFG]) ∧ (rangeOk off.toNat v = false) :=
  ⟨BitVec.ofNat 24 R.ERR_CFG, 0x00640023#32, by decide⟩

/-- The hypotheses of RegisterWriteByAccessType, clause 3, are met together. -/
theorem witness_RegisterWriteByAccessType_3 :
    ∃ (off : BitVec 24) (s : State),
      (off.toNat ∈ [R.TSU_TB_CFG 0, R.TSU_TB_CFG 3, R.TSU_MEPOCH_LO, R.TSU_MEPOCH_HI, R.HIER_LADDR, R.OBJ_HQ_BASE]) ∧ (running s = true) :=
  ⟨BitVec.ofNat 24 (R.TSU_TB_CFG 3), setF State.reset F.PAT_STATE_LIVE 1, by decide⟩

/-- The hypotheses of RegisterWriteByAccessType, clause 4, are met together. -/
theorem witness_RegisterWriteByAccessType_4 :
    ∃ (off : BitVec 24) (v : Word) (s : State),
      (off.toNat ∈ [R.GEO_GUARD, R.SPK_CFG, R.RND_CFG]) ∧ (rangeOk off.toNat v = true) ∧ (isPair s = false) :=
  ⟨BitVec.ofNat 24 R.GEO_GUARD, 0x10000#32, State.reset, by decide⟩

/-- The hypotheses of RegisterWriteByAccessType, clause 5, are met together. -/
theorem witness_RegisterWriteByAccessType_5 :
    ∃ (off : BitVec 24) (v : Word) (s : State),
      (off.toNat ∈ [R.GEO_GUARD, R.SPK_CFG, R.RND_CFG]) ∧ (isPassive s = true ∧ writeChanges off.toNat v s = true) :=
  ⟨BitVec.ofNat 24 R.GEO_GUARD, 0x10000#32, setF (setF State.reset F.CLM_CFG_EN 1) F.CLM_STATE_ROLE 2, by decide⟩

/-- The hypotheses of RegisterWriteByAccessType, clause 6, are met together. -/
theorem witness_RegisterWriteByAccessType_6 :
    ∃ (off : BitVec 24),
      (regRow off.toNat = none) :=
  ⟨0x00FFF0#24, by decide⟩

set_option maxRecDepth 100000 in
/-- The hypotheses of MemoryTransactionsAtSram, clause 1, are met together. -/
theorem witness_MemoryTransactionsAtSram_1 :
    ∃ (x : BusAcc) (s : State),
      (x.write = true ∧ x.bar2 = false ∧ x.corr = 0) ∧ (0 < x.data.length ∧ x.data.length ≤ x.keep) ∧ (sramBase ≤ x.addr.toNat ∧ x.addr.toNat + x.data.length ≤ sramBase + 0x200000) ∧ (s.bst.held.contains x.master.val = false) :=
  ⟨{ master := 4, write := true, bar2 := false, full := true, addr := 0x10000000#40, data := [1#8], keep := 1, len := 0, corr := 0, unc := [] }, State.reset, by decide⟩

set_option maxRecDepth 100000 in
/-- The hypotheses of MemoryTransactionsAtSram, clause 2, are met together. -/
theorem witness_MemoryTransactionsAtSram_2 :
    ∃ (x : BusAcc) (s : State),
      (x.write = false ∧ x.bar2 = false ∧ x.corr = 0 ∧ x.unc = []) ∧ (0 < x.len ∧ sramBase ≤ x.addr.toNat ∧ x.addr.toNat + x.len ≤ sramBase + 0x200000) ∧ (s.bst.held.contains x.master.val = false) :=
  ⟨{ master := 4, write := false, bar2 := false, full := true, addr := 0x10000000#40, data := [], keep := 0, len := 4, corr := 0, unc := [] }, State.reset, by decide⟩

/-- The hypotheses of MemoryTransactionsAtSram, clause 3, are met together. -/
theorem witness_MemoryTransactionsAtSram_3 :
    ∃ (addr : BitVec 40) (s : State),
      (sramBase ≤ addr.toNat ∧ addr.toNat + 4 ≤ sramBase + 0x200000 ∧ s.bst.held.contains 4 = false) :=
  ⟨0x10000000#40, State.reset, by decide⟩

/-- The hypotheses of MemoryTransactionsAtSram, clause 4, are met together. -/
theorem witness_MemoryTransactionsAtSram_4 :
    ∃ (addr : BitVec 40) (wait : Nat) (s : State),
      (sramBase ≤ addr.toNat ∧ addr.toNat + 4 ≤ sramBase + 0x200000 ∧ wait < 64 ∧ s.bst.held.contains 4 = false) :=
  ⟨0x10000000#40, 8, State.reset, by decide⟩

/-- The hypotheses of MemoryTransactionsAtSram, clause 5, are met together. -/
theorem witness_MemoryTransactionsAtSram_5 :
    ∃ (addr : BitVec 40),
      (sramBase ≤ addr.toNat ∧ addr.toNat + 4 ≤ sramBase + 0x200000) :=
  ⟨0x10000000#40, by decide⟩

/-- The hypotheses of MemoryTransactionsAtSram, clause 6, are met together. -/
theorem witness_MemoryTransactionsAtSram_6 :
    ∃ (addr : BitVec 40),
      (sramBase ≤ addr.toNat ∧ addr.toNat + 4 ≤ sramBase + 0x200000) :=
  ⟨0x10000000#40, by decide⟩

set_option maxRecDepth 100000 in
/-- The hypotheses of MemoryTransactionsAtSram, clause 7, are met together. -/
theorem witness_MemoryTransactionsAtSram_7 :
    ∃ (frame : List Byte) (s : State),
      (cc2Runs s = true) ∧ (mgmtOk frame = true) :=
  ⟨let b := leBytes 2 0x474D ++ [1#8, 0#8] ++ leBytes 2 1 ++ leBytes 10 0 ++ [1#8, 0#8, 0#8] ++ leBytes 5 0x10000000 ++ leBytes 8 0; b ++ leBytes 4 (crc32c b), setF State.reset F.CC_RUN_RUN 15, by decide⟩

set_option maxRecDepth 100000 in
/-- The hypotheses of BusErrorResponses, clause 1, are met together. -/
theorem witness_BusErrorResponses_1 :
    ∃ (x : BusAcc) (s : State),
      (x.write = true ∧ x.bar2 = false ∧ x.corr = 0 ∧ 0 < x.data.length) ∧ (inRegs x.addr.toNat x.data.length = false ∧ locOf s x.addr.toNat = none) ∧ (s.bst.held.contains x.master.val = false) :=
  ⟨{ master := 4, write := true, bar2 := false, full := true, addr := 0x30000000#40, data := [1#8], keep := 1, len := 0, corr := 0, unc := [] }, State.reset, by decide⟩

set_option maxRecDepth 100000 in
/-- The hypotheses of BusErrorResponses, clause 2, are met together. -/
theorem witness_BusErrorResponses_2 :
    ∃ (x : BusAcc) (s : State),
      (x.write = false ∧ x.bar2 = false ∧ x.corr = 0 ∧ 0 < x.len) ∧ (inRegs x.addr.toNat x.len = false ∧ locOf s x.addr.toNat = none) ∧ (s.bst.held.contains x.master.val = false) :=
  ⟨{ master := 4, write := false, bar2 := false, full := true, addr := 0x30000000#40, data := [], keep := 0, len := 4, corr := 0, unc := [] }, State.reset, by decide⟩

/-- The hypotheses of MastersAndCoresRestart, clause 1, are met together. -/
theorem witness_MastersAndCoresRestart_1 :
    ∃ (m : Fin 16),
      ((4 ≤ m.val ∧ m.val ≤ 9) ∨ m.val = 11) :=
  ⟨4, by decide⟩

/-- The hypotheses of MastersAndCoresRestart, clause 2, are met together. -/
theorem witness_MastersAndCoresRestart_2 :
    ∃ (m : Fin 16),
      (m.val < 4 ∨ m.val = 10 ∨ 12 ≤ m.val) :=
  ⟨12, by decide⟩

/-- The hypotheses of MastersAndCoresRestart, clause 3, are met together. -/
theorem witness_MastersAndCoresRestart_3 :
    ∃ (run : Fin 16) (n : Fin 4) (s : State),
      (bit (getF s F.CC_RUN_RUN) n.val = false) ∧ (bit run.val n.val = true) :=
  ⟨15, 1, State.reset, by decide⟩

/-- The hypotheses of MastersAndCoresRestart, clause 4, are met together. -/
theorem witness_MastersAndCoresRestart_4 :
    ∃ (run : Fin 16) (n : Fin 4) (s : State),
      (bit (getF s F.CC_RUN_RUN) n.val = true) ∧ (bit run.val n.val = false) :=
  ⟨13, 1, setF State.reset F.CC_RUN_RUN 15, by decide⟩

/-- The hypotheses of MastersAndCoresRestart, clause 6, are met together. -/
theorem witness_MastersAndCoresRestart_6 :
    ∃ (n : Fin 4) (s : State),
      (getF s F.CC_WDT_MS ≠ 0 ∧ bit (getF s F.CC_RUN_RUN) n.val = true) ∧ (aGet (fun _ => 0) s.fab.kickAt n.val + msFrames s (getF s F.CC_WDT_MS) ≤ s.msi + 1) :=
  ⟨1, { setF (setF State.reset F.CC_RUN_RUN 15) F.CC_WDT_MS 1 with msi := 96 }, by decide⟩

/-- The hypotheses of MastersAndCoresRestart, clause 7, are met together. -/
theorem witness_MastersAndCoresRestart_7 :
    ∃ (n : Fin 4) (s : State),
      (bit (getF s F.CC_RUN_RUN) n.val = true ∧ s.fab.stopped.contains n.val = false) :=
  ⟨1, setF State.reset F.CC_RUN_RUN 15, by decide⟩

/-- The hypotheses of MailboxAndDmaMove, clause 1, are met together. -/
theorem witness_MailboxAndDmaMove_1 :
    ∃ (n : Fin 4) (s : State),
      (mbBusy s n.val = false) :=
  ⟨2, State.reset, by decide⟩

/-- The hypotheses of MailboxAndDmaMove, clause 2, are met together. -/
theorem witness_MailboxAndDmaMove_2 :
    ∃ (n : Fin 4) (seq : BitVec 16) (s : State),
      (mbBusy s n.val = true ∧ getF s (F.CC_DB_SEQ n.val) = seq.toNat) :=
  ⟨2, 0#16, setF State.reset (F.CC_MBSTAT_STATE 2) 1, by decide⟩

/-- The hypotheses of MailboxAndDmaMove, clause 3, are met together. -/
theorem witness_MailboxAndDmaMove_3 :
    ∃ (v : Word) (s : State),
      ((v.toNat % 8192 + 8192 - getF s F.SYS_DMA_HEAD_HEAD) % 8192 ≤ getF s F.SYS_DMA_SIZE_SIZE) :=
  ⟨0#32, State.reset, by decide⟩

set_option maxRecDepth 100000 in
/-- The hypotheses of MailboxAndDmaMove, clause 4, are met together. -/
theorem witness_MailboxAndDmaMove_4 :
    ∃ (d : List Byte) (s : State),
      (getF s F.SYS_DMA_HEAD_HEAD ≠ getF s F.SYS_DMA_TAIL_TAIL ∧ getF s F.SYS_DMA_SIZE_SIZE ≠ 0) ∧ (s.bst.held.contains 4 = false ∧ bit (getF s F.BST_MAP_MAP) 20 = false) ∧ (dmaOk s d = true ∧ bit (leAt d 13 1) 0 = true) ∧ (sramBase ≤ leAt d 8 5 ∧ leAt d 8 5 + leAt d 16 4 ≤ sramBase + 0x200000) :=
  ⟨leBytes 8 0 ++ leBytes 5 0x10000000 ++ [1#8, 0#8, 0#8] ++ leBytes 4 4 ++ leBytes 12 0, setF (setF State.reset F.SYS_DMA_TAIL_TAIL 1) F.SYS_DMA_SIZE_SIZE 16, by decide⟩

/-- The hypotheses of MailboxAndDmaMove, clause 5, are met together. -/
theorem witness_MailboxAndDmaMove_5 :
    ∃ (d : List Byte) (s : State),
      (getF s F.SYS_DMA_HEAD_HEAD ≠ getF s F.SYS_DMA_TAIL_TAIL ∧ getF s F.SYS_DMA_SIZE_SIZE ≠ 0) ∧ (s.bst.held.contains 4 = false ∧ bit (getF s F.BST_MAP_MAP) 20 = false) ∧ (dmaOk s d = false) :=
  ⟨[], setF (setF State.reset F.SYS_DMA_TAIL_TAIL 1) F.SYS_DMA_SIZE_SIZE 16, by decide⟩

set_option maxRecDepth 100000 in
/-- The hypotheses of BootAndNvmCommands, clause 1, are met together. -/
theorem witness_BootAndNvmCommands_1 :
    ∃ (s : State) (b : Bool),
      (s.pwr.pll = true ∧ s.fab.boot = 0) ∧ (bootInForce s = some b) :=
  ⟨{ wrBytes (wrBytes State.reset (nvmBase + 0x100000) (leBytes 4 0x544F4246 ++ leBytes 4 1 ++ leBytes 4 8 ++ leBytes 44 0 ++ leBytes 4 (crc32c (leBytes 8 0)))) (nvmBase + 0x100000 + 60) (leBytes 4 (crc32c (leBytes 4 0x544F4246 ++ leBytes 4 1 ++ leBytes 4 8 ++ leBytes 44 0 ++ leBytes 4 (crc32c (leBytes 8 0))))) with pwr := { PwrState.reset with pll := true } }, false, by decide⟩

/-- The hypotheses of BootAndNvmCommands, clause 2, are met together. -/
theorem witness_BootAndNvmCommands_2 :
    ∃ (s : State),
      (s.pwr.pll = true ∧ s.fab.boot = 0) ∧ (bootInForce s = none) :=
  ⟨{ State.reset with pwr := { PwrState.reset with pll := true } }, by decide⟩

/-- The hypotheses of BootAndNvmCommands, clause 3, are met together. -/
theorem witness_BootAndNvmCommands_3 :
    ∃ (s : State) (b : Bool) (gen : Nat) (len : Nat),
      (s.fab.boot = 1 ∧ s.fab.bootCopy = (b, gen, len) ∧ 0 < len ∧ len ≤ 0x200000) :=
  ⟨{ State.reset with fab := { FabState.reset with boot := 1, bootCopy := (false, 1, 8) } }, false, 1, 8, by decide⟩

/-- The hypotheses of BootAndNvmCommands, clause 4, are met together. -/
theorem witness_BootAndNvmCommands_4 :
    ∃ (s : State),
      (s.fab.boot = 1) :=
  ⟨{ State.reset with fab := { FabState.reset with boot := 1 } }, by decide⟩

/-- The hypotheses of BootAndNvmCommands, clause 5, are met together. -/
theorem witness_BootAndNvmCommands_5 :
    ∃ (area : Fin 4) (s : State),
      (nvmReason s area.val = 0) :=
  ⟨0, State.reset, by decide⟩

/-- The hypotheses of BootAndNvmCommands, clause 6, are met together. -/
theorem witness_BootAndNvmCommands_6 :
    ∃ (area : Fin 4) (s : State),
      (nvmReason s area.val ≠ 0) :=
  ⟨3, State.reset, by decide⟩

/-- The hypotheses of BootAndNvmCommands, clause 7, are met together. -/
theorem witness_BootAndNvmCommands_7 :
    ∃ (s : State) (area : Fin 3) (src : Nat) (len : Nat),
      (s.fab.nvm = some (area.val, src, len)) ∧ (len ≤ (nvmArea area.val).2) :=
  ⟨{ State.reset with fab := { FabState.reset with nvm := some (0, 0, 0) } }, 0, 0, 0, by decide⟩

/-- The hypotheses of BootAndNvmCommands, clause 8, are met together. -/
theorem witness_BootAndNvmCommands_8 :
    ∃ (s : State) (area : Fin 3) (src : Nat) (len : Nat),
      (s.fab.nvm = some (area.val, src, len)) :=
  ⟨{ State.reset with fab := { FabState.reset with nvm := some (0, 0, 0) } }, 0, 0, 0, by decide⟩

/-- The hypotheses of TimeBaseConfigured, clause 1, are met together. -/
theorem witness_TimeBaseConfigured_1 :
    ∃ (n : Fin 4) (v : Word) (s : State),
      (running s = false) ∧ (tbCfgOk v = true) ∧ (fget v 31 29 ≠ getF s (F.TSU_TB_CFG_SRC n.val) ∨ fget v 25 24 ≠ getF s (F.TSU_TB_CFG_PORT n.val) ∨ fget v 22 22 ≠ getF s (F.TSU_TB_CFG_WRATE n.val)) :=
  ⟨1, 0x40000000#32, State.reset, by decide⟩

/-- The hypotheses of TimeBaseConfigured, clause 2, are met together. -/
theorem witness_TimeBaseConfigured_2 :
    ∃ (n : Fin 4) (v : Word) (s : State),
      (running s = false) ∧ (tbCfgOk v = true) ∧ (fget v 31 29 = getF s (F.TSU_TB_CFG_SRC n.val) ∧ fget v 25 24 = getF s (F.TSU_TB_CFG_PORT n.val) ∧ fget v 22 22 = getF s (F.TSU_TB_CFG_WRATE n.val)) :=
  ⟨1, 0x100#32, State.reset, by decide⟩

/-- The hypotheses of TimeBaseConfigured, clause 3, are met together. -/
theorem witness_TimeBaseConfigured_3 :
    ∃ (v : Word) (s : State),
      (running s = true ∨ tbCfgOk v = false) :=
  ⟨0xE0000000#32, State.reset, by decide⟩

/-- The hypotheses of TimeBaseStepsAtStrobe, clause 2, are met together. -/
theorem witness_TimeBaseStepsAtStrobe_2 :
    ∃ (n : Fin 4) (s : State),
      ((tbOf s n.val).hostStep.isSome = true ∨ (tbOf s n.val).servoStep.isSome = true) :=
  ⟨2, tbMod 2 (fun x => { x with hostStep := some 5 }) State.reset, by decide⟩

/-- The hypotheses of EdgeReferenceJudged, clause 1, are met together. -/
theorem witness_EdgeReferenceJudged_1 :
    ∃ (pin : RefPin) (n : Fin 4) (s : State),
      (getF s (F.TSU_TB_CFG_SRC n.val) = pinSrc pin) ∧ ((pinOf s (pinSrc pin)).lastEdge = none) :=
  ⟨.wclkIn, 3, setF State.reset (F.TSU_TB_CFG_SRC 3) 2, by decide⟩

set_option maxRecDepth 100000 in
/-- The hypotheses of EdgeReferenceJudged, clause 2, are met together. -/
theorem witness_EdgeReferenceJudged_2 :
    ∃ (pin : RefPin) (stamp : BitVec 64) (n : Fin 4) (s : State) (prev : Nat),
      (getF s (F.TSU_TB_CFG_SRC n.val) = pinSrc pin) ∧ ((pinOf s (pinSrc pin)).lastEdge = some prev) ∧ (withinPpm (stamp.toNat - prev) (nominalRate s n.val) 125000 = true) :=
  ⟨.wclkIn, 133333#64, 3, setF { State.reset with time := { TimeState.reset with pins := [(2, { RefPinSt.init with lastEdge := some 0 })] } } (F.TSU_TB_CFG_SRC 3) 2, 0, by decide⟩

set_option maxRecDepth 100000 in
/-- The hypotheses of EdgeReferenceJudged, clause 3, are met together. -/
theorem witness_EdgeReferenceJudged_3 :
    ∃ (pin : RefPin) (stamp : BitVec 64) (n : Fin 4) (s : State) (prev : Nat),
      (getF s (F.TSU_TB_CFG_SRC n.val) = pinSrc pin) ∧ ((pinOf s (pinSrc pin)).lastEdge = some prev) ∧ (withinPpm (stamp.toNat - prev) (nominalRate s n.val) 125000 = false) :=
  ⟨.wclkIn, 500#64, 3, setF { State.reset with time := { TimeState.reset with pins := [(2, { RefPinSt.init with lastEdge := some 0 })] } } (F.TSU_TB_CFG_SRC 3) 2, 0, by decide⟩

/-- The hypotheses of EdgeReferenceJudged, clause 4, are met together. -/
theorem witness_EdgeReferenceJudged_4 :
    ∃ (stamp : BitVec 64) (s : State) (prev : Nat),
      ((pinOf s 3).lastEdge = some prev) ∧ (withinPpm (stamp.toNat - prev) 1 125000 = true) :=
  ⟨6400000000#64, { State.reset with time := { TimeState.reset with pins := [(3, { RefPinSt.init with lastEdge := some 0 })] } }, 0, by decide⟩

/-- The hypotheses of EdgeReferenceJudged, clause 5, are met together. -/
theorem witness_EdgeReferenceJudged_5 :
    ∃ (stamp : BitVec 64) (s : State),
      ((pinOf s 3).lastEdge.all (fun p => !withinPpm (stamp.toNat - p) 1 125000) = true) :=
  ⟨500#64, { State.reset with time := { TimeState.reset with pins := [(3, { RefPinSt.init with lastEdge := some 0 })] } }, by decide⟩

/-- The hypotheses of EdgeReferenceJudged, clause 6, are met together. -/
theorem witness_EdgeReferenceJudged_6 :
    ∃ (n : Fin 4) (s : State),
      (getF s (F.TSU_TB_CFG_SRC n.val) = 2 ∨ getF s (F.TSU_TB_CFG_SRC n.val) = 3) ∧ ((tbOf s n.val).lost = false ∧ tbState s n.val = 2) :=
  ⟨1, setF (setF State.reset (F.TSU_TB_CFG_SRC 1) 3) (F.TSU_TB_STATE_STATE 1) 2, by decide⟩

/-- The hypotheses of PtpMeasurementSteersServo, clause 1, are met together. -/
theorem witness_PtpMeasurementSteersServo_1 :
    ∃ (n : Fin 4) (offset : BitVec 32) (s : State),
      (getF s (F.TSU_TB_CFG_SRC n.val) = 1 ∧ getF s (F.TSU_TB_STATE_CONFLICT n.val) = 0) ∧ (tbState s n.val = 2 ∧ offset.toInt.natAbs ≤ stepThr s n.val) :=
  ⟨0, 256#32, setF (setF State.reset (F.TSU_TB_CFG_SRC 0) 1) (F.TSU_TB_STATE_STATE 0) 2, by decide⟩

/-- The hypotheses of PtpMeasurementSteersServo, clause 2, are met together. -/
theorem witness_PtpMeasurementSteersServo_2 :
    ∃ (n : Fin 4) (offset : BitVec 32) (s : State),
      (getF s (F.TSU_TB_CFG_SRC n.val) = 1 ∧ getF s (F.TSU_TB_STATE_CONFLICT n.val) = 0) ∧ (tbState s n.val = 1 ∧ stepThr s n.val < offset.toInt.natAbs) :=
  ⟨0, 0x40000000#32, setF (setF State.reset (F.TSU_TB_CFG_SRC 0) 1) (F.TSU_TB_STATE_STATE 0) 1, by decide⟩

/-- The hypotheses of PtpMeasurementSteersServo, clause 3, are met together. -/
theorem witness_PtpMeasurementSteersServo_3 :
    ∃ (n : Fin 4) (s : State),
      (getF s (F.TSU_TB_CFG_SRC n.val) = 1) ∧ ((tbOf s n.val).lost = false ∧ tbState s n.val = 2) :=
  ⟨1, setF (setF State.reset (F.TSU_TB_CFG_SRC 1) 1) (F.TSU_TB_STATE_STATE 1) 2, by decide⟩

/-- The hypotheses of PtpMeasurementSteersServo, clause 4, are met together. -/
theorem witness_PtpMeasurementSteersServo_4 :
    ∃ (n : Fin 4) (s : State),
      (getF s (F.TSU_TB_CFG_SRC n.val) = 1) ∧ ((tbOf s n.val).lost = false ∧ tbState s n.val = 2) :=
  ⟨1, setF (setF State.reset (F.TSU_TB_CFG_SRC 1) 1) (F.TSU_TB_STATE_STATE 1) 2, by decide⟩

/-- The hypotheses of MediaCountSeatsAndRuns, clause 1, are met together. -/
theorem witness_MediaCountSeatsAndRuns_1 :
    ∃ (s : State),
      (running s = false ∧ syncSeats s = false) ∧ (getF s F.TSU_ML_STATE_STATE = 0 ∧ tbUsable s (followTb s) = true) :=
  ⟨State.reset, by decide⟩

/-- The hypotheses of MediaCountSeatsAndRuns, clause 2, are met together. -/
theorem witness_MediaCountSeatsAndRuns_2 :
    ∃ (s : State),
      (getF s F.TSU_ML_STATE_STATE = 3 ∧ 200000000 ≤ s.time.mlGood) :=
  ⟨setF { State.reset with time := { TimeState.reset with mlGood := 200000000 } } F.TSU_ML_STATE_STATE 3, by decide⟩

/-- The hypotheses of MediaCountSeatsAndRuns, clause 3, are met together. -/
theorem witness_MediaCountSeatsAndRuns_3 :
    ∃ (s : State),
      (getF s F.TSU_CFG_PPS_OUT_EN = 1 ∧ tbUsable s (getF s F.TSU_CFG_PPS_TB) = true) ∧ (0 < getF s F.TSU_CFG_PPS_WIDTH) :=
  ⟨setF (setF State.reset F.TSU_CFG_PPS_WIDTH 1) F.TSU_CFG_PPS_OUT_EN 1, by decide⟩

/-- The hypotheses of MediaCountSeatsAndRuns, clause 4, are met together. -/
theorem witness_MediaCountSeatsAndRuns_4 :
    ∃ (s : State),
      (clocked s = true) :=
  ⟨{ State.reset with pwr := { PwrState.reset with pll := true } }, by decide⟩

/-- The hypotheses of MediaCountSeatsAndRuns, clause 5, are met together. -/
theorem witness_MediaCountSeatsAndRuns_5 :
    ∃ (s : State),
      (clocked s = false) :=
  ⟨State.reset, by decide⟩

/-- The hypotheses of CoreResetsKeepConverter, clause 4, are met together. -/
theorem witness_CoreResetsKeepConverter_4 :
    ∃ (s : State),
      (s.pwr.testEn = true) :=
  ⟨{ State.reset with pwr := { PwrState.reset with testEn := true } }, by decide⟩

/-- The hypotheses of LinksClocksAndThermal, clause 3, are met together. -/
theorem witness_LinksClocksAndThermal_3 :
    ∃ (s : State),
      (coreHeld s = false) ∧ (s.pwr.pll = false ∧ s.pwr.clkFail = false) :=
  ⟨State.reset, by decide⟩

/-- The hypotheses of LinksClocksAndThermal, clause 4, are met together. -/
theorem witness_LinksClocksAndThermal_4 :
    ∃ (s : State),
      (s.pwr.pll = true) :=
  ⟨{ State.reset with pwr := { PwrState.reset with pll := true } }, by decide⟩

/-- The hypotheses of LinksClocksAndThermal, clause 6, are met together. -/
theorem witness_LinksClocksAndThermal_6 :
    ∃ (core : BitVec 16) (s : State),
      (s.pwr.warn = false) ∧ ((8 * getF s F.SYS_THERM_CFG_WARN : Int) ≤ core.toInt) :=
  ⟨840#16, State.reset, by decide⟩

/-- The hypotheses of LinksClocksAndThermal, clause 8, are met together. -/
theorem witness_LinksClocksAndThermal_8 :
    ∃ (s : State),
      (s.pwr.testEn = true) :=
  ⟨{ State.reset with pwr := { PwrState.reset with testEn := true } }, by decide⟩

/-- The hypotheses of FatalEventsEnterSafeState, clause 1, are met together. -/
theorem witness_FatalEventsEnterSafeState_1 :
    ∃ (s : State),
      (noFatal s = true) ∧ (getF s F.ERR_FATAL_CODE = 0) :=
  ⟨State.reset, by decide⟩

/-- The hypotheses of FatalEventsEnterSafeState, clause 2, are met together. -/
theorem witness_FatalEventsEnterSafeState_2 :
    ∃ (s : State),
      (noFatal s = true) ∧ (getF s F.ERR_FATAL_CODE = 0) :=
  ⟨State.reset, by decide⟩

/-- The hypotheses of StartupTestAndFaultMap, clause 1, are met together. -/
theorem witness_StartupTestAndFaultMap_1 :
    ∃ (s : State),
      (s.pwr.pll = true ∧ s.err.startupHold = true ∧ getF s F.BST_STATE_STATE = 0) :=
  ⟨{ State.reset with pwr := { PwrState.reset with pll := true } }, by decide⟩

/-- The hypotheses of StartupTestAndFaultMap, clause 2, are met together. -/
theorem witness_StartupTestAndFaultMap_2 :
    ∃ (s : State),
      (getF s F.BST_STATE_STATE = 1) :=
  ⟨setF State.reset F.BST_STATE_STATE 1, by decide⟩

/-- The hypotheses of StartupTestAndFaultMap, clause 3, are met together. -/
theorem witness_StartupTestAndFaultMap_3 :
    ∃ (r : Fin 32) (s : State),
      (20 ≤ r.val ∧ r.val < 26) ∧ (bit (getF s F.BST_MAP_MAP) r.val = false) :=
  ⟨20, State.reset, by decide⟩

/-- The hypotheses of StartupTestAndFaultMap, clause 4, are met together. -/
theorem witness_StartupTestAndFaultMap_4 :
    ∃ (r : Fin 32) (s : State),
      (17 ≤ r.val ∧ r.val < 20) ∧ (bit (getF s F.BST_MAP_MAP) r.val = false) :=
  ⟨18, State.reset, by decide⟩

/-- The hypotheses of StartupTestAndFaultMap, clause 5, are met together. -/
theorem witness_StartupTestAndFaultMap_5 :
    ∃ (r : Fin 32) (s : State) (q : Nat),
      (r.val < 17 ∧ tileSeat s r.val = some q ∧ (tileRun s r.val).lost = false) ∧ (bit (getF s F.BST_MAP_MAP) r.val = false) :=
  ⟨5, seatTile false 3 5 0 State.reset, 3, by decide⟩

/-- The hypotheses of StartupTestAndFaultMap, clause 6, are met together. -/
theorem witness_StartupTestAndFaultMap_6 :
    ∃ (r : Fin 32) (s : State),
      (26 ≤ r.val ∨ bit (getF s F.BST_MAP_MAP) r.val = true) :=
  ⟨30, State.reset, by decide⟩

/-- The hypotheses of StartupTestAndFaultMap, clause 7, are met together. -/
theorem witness_StartupTestAndFaultMap_7 :
    ∃ (s : State),
      (running s = false) :=
  ⟨State.reset, by decide⟩

/-- The hypotheses of StartupTestAndFaultMap, clause 8, are met together. -/
theorem witness_StartupTestAndFaultMap_8 :
    ∃ (s : State),
      (running s = true) :=
  ⟨setF State.reset F.PAT_STATE_LIVE 1, by decide⟩

/-- The hypotheses of StartupTestAndFaultMap, clause 9, are met together. -/
theorem witness_StartupTestAndFaultMap_9 :
    ∃ (s : State) (m : Nat),
      (s.bst.mapWrite = some m ∧ m < 2 ^ 26) :=
  ⟨{ State.reset with bst := { BstState.reset with mapWrite := some 5 } }, 5, by decide⟩

set_option maxRecDepth 100000 in
/-- The hypotheses of StartupTestAndFaultMap, clause 10, are met together. -/
theorem witness_StartupTestAndFaultMap_10 :
    ∃ (busy : List (Fin 4)) (s : State) (r : Nat),
      (sliceMay s = true ∧ pickRegion s (busy.map (fun p => p.val)) = some r ∧ coolEnough s = true ∧ 20 ≤ r) :=
  ⟨[], setF (setF (setF { State.reset with msi := 16 * 2000000, pat := { PatState.reset with pouredAt := some 0 } } F.PAT_STATE_LIVE 1) F.BST_CFG_EN 1) F.BST_CFG_SR_EN 1, 20, by decide⟩

/-- The hypotheses of StartupTestAndFaultMap, clause 11, are met together. -/
theorem witness_StartupTestAndFaultMap_11 :
    ∃ (misr : BitVec 64) (s : State) (r : Nat) (since : Nat),
      (s.bst.slice = some (r, since) ∧ s.bst.retest = false ∧ 20 ≤ r ∧ r < 26 ∧ getF s F.BST_STATE_STATE = 5) ∧ (misrOk r misr.toNat = true) :=
  ⟨Config.signature 20, setF { State.reset with bst := { BstState.reset with slice := some (20, 0) } } F.BST_STATE_STATE 5, 20, 0, by decide, by simp [misrOk, Nat.mod_eq_of_lt (Config.signature 20).isLt]⟩

/-- The hypotheses of StartupTestAndFaultMap, clause 12, are met together. -/
theorem witness_StartupTestAndFaultMap_12 :
    ∃ (s : State) (r : Nat) (since : Nat),
      (s.bst.slice = some (r, since) ∧ 20 ≤ r ∧ r < 26 ∧ getF s F.BST_STATE_STATE = 6) :=
  ⟨setF { State.reset with bst := { BstState.reset with slice := some (20, 0) } } F.BST_STATE_STATE 6, 20, 0, by decide⟩

set_option maxRecDepth 100000 in
/-- The hypotheses of QuenchSliceRuns, clause 1, are met together. -/
theorem witness_QuenchSliceRuns_1 :
    ∃ (busy : List (Fin 4)) (s : State) (r : Nat),
      (sliceMay s = true ∧ pickRegion s (busy.map (fun p => p.val)) = some r) ∧ (coolEnough s = false) :=
  ⟨[], setF (setF (setF (setF { State.reset with msi := 16 * 2000000, pat := { PatState.reset with pouredAt := some 0 } } F.PAT_STATE_LIVE 1) F.BST_CFG_EN 1) F.BST_CFG_SR_EN 1) F.SYS_TEMP_CORE 800, 20, by decide⟩

set_option maxRecDepth 100000 in
/-- The hypotheses of QuenchSliceRuns, clause 2, are met together. -/
theorem witness_QuenchSliceRuns_2 :
    ∃ (busy : List (Fin 4)) (s : State) (r : Nat),
      (sliceMay s = true ∧ pickRegion s (busy.map (fun p => p.val)) = some r) ∧ (coolEnough s = true ∧ 20 ≤ r) :=
  ⟨[], setF (setF (setF { State.reset with msi := 16 * 2000000, pat := { PatState.reset with pouredAt := some 0 } } F.PAT_STATE_LIVE 1) F.BST_CFG_EN 1) F.BST_CFG_SR_EN 1, 20, by decide⟩

set_option maxRecDepth 100000 in
/-- The hypotheses of QuenchSliceRuns, clause 3, are met together. -/
theorem witness_QuenchSliceRuns_3 :
    ∃ (busy : List (Fin 4)) (s : State) (r : Nat),
      (sliceMay s = true ∧ pickRegion s (busy.map (fun p => p.val)) = some r) ∧ (coolEnough s = true ∧ 17 ≤ r ∧ r < 20) :=
  ⟨[], setF (setF (setF (setF (setF (setF (setF { State.reset with msi := 16 * 2000000, pat := { PatState.reset with pouredAt := some 0 } } F.PAT_STATE_LIVE 1) F.BST_CFG_EN 1) F.BST_CFG_GEO_EN 1) F.GEO_UNITS_SPARE_PRESENT 1) F.GEO_UNITS_SPARE 2) F.GEO_UNITS_WA 0) F.GEO_UNITS_WB 1, 17, by decide⟩

set_option maxRecDepth 100000 in
/-- The hypotheses of QuenchSliceRuns, clause 4, are met together. -/
theorem witness_QuenchSliceRuns_4 :
    ∃ (busy : List (Fin 4)) (s : State) (r : Nat) (q : Nat),
      (sliceMay s = true ∧ pickRegion s (busy.map (fun p => p.val)) = some r) ∧ (coolEnough s = true ∧ r < 17 ∧ sliceSeat s r = some q) :=
  ⟨[], setF (setF (setF (setF (seatTile false 3 5 0 { State.reset with msi := 16 * 2000000, pat := { PatState.reset with pouredAt := some 0 } }) F.PAT_STATE_LIVE 1) F.BST_CFG_EN 1) F.BST_CFG_TILE_EN 1) F.SEQ_SPARE_PRESENT 1, 5, 3, by decide⟩

/-- The hypotheses of QuenchSliceRuns, clause 5, are met together. -/
theorem witness_QuenchSliceRuns_5 :
    ∃ (s : State) (r : Nat) (since : Nat),
      (s.bst.slice = some (r, since) ∧ s.bst.retest = false) ∧ (20 ≤ r ∧ r < 26 ∧ getF s F.BST_STATE_STATE = 5) :=
  ⟨setF { State.reset with bst := { BstState.reset with slice := some (20, 0) } } F.BST_STATE_STATE 5, 20, 0, by decide⟩

/-- The hypotheses of QuenchSliceRuns, clause 6, are met together. -/
theorem witness_QuenchSliceRuns_6 :
    ∃ (s : State) (r : Nat) (since : Nat),
      (s.bst.slice = some (r, since) ∧ r < 20 ∧ s.bst.retest = false) ∧ (due s (since + runBlocks s r) = true ∧ getF s F.BST_STATE_STATE = 3) :=
  ⟨setF { State.reset with msi := 16 * 400, bst := { BstState.reset with slice := some (5, 0) } } F.BST_STATE_STATE 3, 5, 0, by decide⟩

/-- The hypotheses of QuenchSliceRuns, clause 7, are met together. -/
theorem witness_QuenchSliceRuns_7 :
    ∃ (s : State) (r : Nat) (since : Nat),
      (s.bst.slice = some (r, since) ∧ s.bst.retest = true ∧ r < 26) ∧ (due s (if r < 20 then since + runBlocks s r else dueBlk s) = true) ∧ (getF s F.BST_STATE_STATE = 4) :=
  ⟨setF { State.reset with bst := { BstState.reset with slice := some (20, 0), retest := true } } F.BST_STATE_STATE 4, 20, 0, by decide⟩

/-- The hypotheses of QuenchSliceRuns, clause 8, are met together. -/
theorem witness_QuenchSliceRuns_8 :
    ∃ (s : State) (r : Nat) (since : Nat),
      (s.bst.slice = some (r, since) ∧ 20 ≤ r ∧ r < 26) ∧ (getF s F.BST_STATE_STATE = 6) :=
  ⟨setF { State.reset with bst := { BstState.reset with slice := some (20, 0) } } F.BST_STATE_STATE 6, 20, 0, by decide⟩

/-- The hypotheses of MicrophonesResetAndIdle, clause 2, are met together. -/
theorem witness_MicrophonesResetAndIdle_2 :
    ∃ (highCycles : BitVec 32) (s : State),
      (getF s F.PDM_CFG_SYNC_DIR = 0 ∧ getF s F.PDM_CFG_SYNC_IN_EN = 1) ∧ (4 ≤ highCycles.toNat) :=
  ⟨4#32, setF (setF State.reset F.PDM_CFG_SYNC_IN_EN 1) F.PDM_CFG_SYNC_DIR 0, by decide⟩

/-- The hypotheses of MicrophonesResetAndIdle, clause 3, are met together. -/
theorem witness_MicrophonesResetAndIdle_3 :
    ∃ (highCycles : BitVec 32) (s : State),
      (getF s F.PDM_CFG_SYNC_DIR = 0 ∧ getF s F.PDM_CFG_SYNC_IN_EN = 1) ∧ (highCycles.toNat < 4) :=
  ⟨3#32, setF (setF State.reset F.PDM_CFG_SYNC_IN_EN 1) F.PDM_CFG_SYNC_DIR 0, by decide⟩

/-- The hypotheses of MicrophonesResetAndIdle, clause 4, are met together. -/
theorem witness_MicrophonesResetAndIdle_4 :
    ∃ (s : State) (r : Nat),
      (s.pdm.resets.find? (fun k => due s k) = some r) ∧ (16 * r < 2 ^ 64) :=
  ⟨{ State.reset with pdm := { State.reset.pdm with resets := [1] } }, 1, by decide⟩

/-- The hypotheses of MicrophonesResetAndIdle, clause 5, are met together. -/
theorem witness_MicrophonesResetAndIdle_5 :
    ∃ (s : State) (m : Nat) (ms : List Nat),
      (s.pdm.resets.find? (fun k => due s k) = none ∧ s.pdm.mics = m :: ms) ∧ (16 * dueBlk s < 2 ^ 64) :=
  ⟨{ State.reset with pdm := { State.reset.pdm with mics := [3] } }, 3, [], by decide⟩

/-- The hypotheses of MicrophonesResetAndIdle, clause 6, are met together. -/
theorem witness_MicrophonesResetAndIdle_6 :
    ∃ (m : Fin 32) (s : State),
      (micOn s m.val = true ∧ micIdle s m.val = false) :=
  ⟨9, setF (setF State.reset (F.PDM_MIC_EN 9) 1) (F.PDM_CLKCFG_EN 1) 1, by decide⟩

/-- The hypotheses of MicrophonesResetAndIdle, clause 7, are met together. -/
theorem witness_MicrophonesResetAndIdle_7 :
    ∃ (m : Fin 32) (s : State),
      (micIdle s m.val = true) :=
  ⟨9, wrN State.reset R.PDM_IDLE 512, by decide⟩

/-- The hypotheses of CaptureCommandsAndRun, clause 1, are met together. -/
theorem witness_CaptureCommandsAndRun_1 :
    ∃ (s : State),
      (isPair s = false ∧ s.cap = none) ∧ ((getF s F.CAP_STATE_STATE = 0 ∨ getF s F.CAP_STATE_STATE = 3) ∧ isLate s (16 * capBlock s) = false ∧ capRangeOk s = true) :=
  ⟨wrN (wrN State.reset R.CAP_LEN 16) R.CAP_MSI_LO 32, by decide⟩

/-- The hypotheses of CaptureCommandsAndRun, clause 2, are met together. -/
theorem witness_CaptureCommandsAndRun_2 :
    ∃ (s : State),
      (isPair s = false) ∧ (getF s F.CAP_STATE_STATE = 1 ∨ getF s F.CAP_STATE_STATE = 2) :=
  ⟨setF State.reset F.CAP_STATE_STATE 1, by decide⟩

/-- The hypotheses of CaptureCommandsAndRun, clause 3, are met together. -/
theorem witness_CaptureCommandsAndRun_3 :
    ∃ (s : State),
      (isPair s = false ∧ s.cap = none) ∧ (getF s F.CAP_STATE_STATE = 0 ∨ getF s F.CAP_STATE_STATE = 3) ∧ (isLate s (16 * capBlock s) = true ∨ capRangeOk s = false) :=
  ⟨State.reset, by decide⟩

/-- The hypotheses of CaptureCommandsAndRun, clause 4, are met together. -/
theorem witness_CaptureCommandsAndRun_4 :
    ∃ (s : State) (c : CapRun),
      (isPair s = false ∧ s.cap = some c) ∧ (isLate s (16 * capBlock s) = false) :=
  ⟨{ wrN State.reset R.CAP_MSI_LO 32 with cap := some (capOpen .pcie 1 true (capVals State.reset)) }, capOpen .pcie 1 true (capVals State.reset), by decide⟩

/-- The hypotheses of CaptureCommandsAndRun, clause 5, are met together. -/
theorem witness_CaptureCommandsAndRun_5 :
    ∃ (s : State),
      (isPair s = false) ∧ (isLate s (16 * capBlock s) = true) :=
  ⟨State.reset, by decide⟩

/-- The hypotheses of CaptureCommandsAndRun, clause 6, are met together. -/
theorem witness_CaptureCommandsAndRun_6 :
    ∃ (s : State) (c : CapRun),
      (isPair s = false ∧ s.cap = some c) ∧ (getF s F.CAP_STATE_STATE = 1 ∧ inTime s c.k = true) :=
  ⟨setF { State.reset with cap := some (capOpen .pcie 1 true (capVals State.reset)) } F.CAP_STATE_STATE 1, capOpen .pcie 1 true (capVals State.reset), by decide⟩

/-- The hypotheses of CaptureCommandsAndRun, clause 7, are met together. -/
theorem witness_CaptureCommandsAndRun_7 :
    ∃ (s : State),
      (isPair s = false) ∧ (getF s F.CAP_STATE_STATE ≠ 1 ∨ s.cap.all (fun c => !inTime s c.k) = true) :=
  ⟨State.reset, by decide⟩

/-- The hypotheses of CaptureCommandsAndRun, clause 8, are met together. -/
theorem witness_CaptureCommandsAndRun_8 :
    ∃ (s : State) (c : CapRun),
      (s.cap = some c ∧ c.decided = true) ∧ (getF s F.CAP_STATE_STATE = 1 ∧ due s (c.k + 1) = true) :=
  ⟨setF { State.reset with cap := some (capOpen .pcie 0 true (capVals State.reset)) } F.CAP_STATE_STATE 1, capOpen .pcie 0 true (capVals State.reset), by decide⟩

/-- The hypotheses of CaptureCommandsAndRun, clause 9, are met together. -/
theorem witness_CaptureCommandsAndRun_9 :
    ∃ (s : State) (c : CapRun),
      (s.cap = some c) ∧ (getF s F.CAP_STATE_STATE = 2 ∧ capOver s c = true) :=
  ⟨setF { State.reset with cap := some (capOpen .pcie 0 true (capVals State.reset)) } F.CAP_STATE_STATE 2, capOpen .pcie 0 true (capVals State.reset), by decide⟩

/-- The hypotheses of HandoverMovesSeat, clause 1, are met together. -/
theorem witness_HandoverMovesSeat_1 :
    ∃ (q : Fin 16) (s : State) (t0 : Fin 17),
      (seatTileOf s (fbSeats s) q.val = some t0.val) ∧ (blk s + 34 ≤ ceil16 (rd64 s R.SEQ_HO_MSI_LO R.SEQ_HO_MSI_HI)) ∧ (s.seq.ho = none ∧ getF s F.SEQ_SPARE_PRESENT = 1) :=
  ⟨3, wrN (setF (setF (seatTile false 3 5 0 State.reset) F.SEQ_SPARE_PRESENT 1) F.SEQ_SPARE_SPARE 16) R.SEQ_HO_MSI_LO 544, 5, by decide⟩

/-- The hypotheses of HandoverMovesSeat, clause 2, are met together. -/
theorem witness_HandoverMovesSeat_2 :
    ∃ (q : Fin 16) (s : State) (t0 : Fin 17),
      (seatTileOf s (fbSeats s) q.val = some t0.val) ∧ (ceil16 (rd64 s R.SEQ_HO_MSI_LO R.SEQ_HO_MSI_HI) < blk s + 34) :=
  ⟨3, wrN (seatTile false 3 5 0 State.reset) R.SEQ_HO_MSI_LO 528, 5, by decide⟩

set_option maxRecDepth 100000 in
/-- The hypotheses of HandoverMovesSeat, clause 3, are met together. -/
theorem witness_HandoverMovesSeat_3 :
    ∃ (q : Fin 16) (s : State) (t0 : Fin 17),
      (seatTileOf s (fbSeats s) q.val = some t0.val) ∧ (blk s + 34 ≤ ceil16 (rd64 s R.SEQ_HO_MSI_LO R.SEQ_HO_MSI_HI)) ∧ (s.seq.ho ≠ none) :=
  ⟨3, wrN (seatTile false 3 5 0 { State.reset with seq := { SeqState.reset with ho := some ⟨4, 6, 16, 90, 0, false, false, false, false⟩ } }) R.SEQ_HO_MSI_LO 544, 5, by decide⟩

/-- The hypotheses of HandoverMovesSeat, clause 4, are met together. -/
theorem witness_HandoverMovesSeat_4 :
    ∃ (q : Fin 16) (s : State),
      (seatTileOf s (fbSeats s) q.val = none ∨ (blk s + 34 ≤ ceil16 (rd64 s R.SEQ_HO_MSI_LO R.SEQ_HO_MSI_HI) ∧ s.seq.ho = none ∧ getF s F.SEQ_SPARE_PRESENT = 0)) :=
  ⟨3, wrN (seatTile false 3 5 0 (setF State.reset F.SEQ_SPARE_PRESENT 0)) R.SEQ_HO_MSI_LO 544, by decide⟩

set_option maxRecDepth 100000 in
/-- The hypotheses of HandoverMovesSeat, clause 5, are met together. -/
theorem witness_HandoverMovesSeat_5 :
    ∃ (s : State) (h : Handover),
      (s.seq.ho = some h ∧ h.at_ ≤ blk s + 1 ∧ h.swept = false) ∧ (h.src < 17 ∧ h.dst < 17 ∧ h.src ≠ h.dst) ∧ ((hoTable s h.seat).persistBase + (hoTable s h.seat).persistLen ≤ 0x80000) :=
  ⟨{ State.reset with seq := { SeqState.reset with ho := some ⟨3, 5, 16, 1, 0, false, false, false, false⟩ } }, ⟨3, 5, 16, 1, 0, false, false, false, false⟩, by decide⟩

set_option maxRecDepth 100000 in
/-- The hypotheses of HandoverMovesSeat, clause 6, are met together. -/
theorem witness_HandoverMovesSeat_6 :
    ∃ (s : State) (h : Handover),
      (s.seq.ho = some h ∧ due s h.at_ = true ∧ (h.struck = false ∨ h.loss = true)) ∧ (h.src < 17 ∧ h.dst < 17 ∧ h.src ≠ h.dst ∧ h.seat < 16) ∧ ((hoTable s h.seat).persistBase + (hoTable s h.seat).persistLen ≤ 0x80000) :=
  ⟨{ State.reset with seq := { SeqState.reset with ho := some ⟨3, 5, 16, 1, 0, false, false, true, false⟩ } }, ⟨3, 5, 16, 1, 0, false, false, true, false⟩, by decide⟩

set_option maxRecDepth 100000 in
/-- The hypotheses of HandoverMovesSeat, clause 8, are met together. -/
theorem witness_HandoverMovesSeat_8 :
    ∃ (s : State) (h : Handover),
      (s.seq.ho = some h ∧ due s h.at_ = true ∧ h.loss = false ∧ h.test = false ∧ h.struck = false) ∧ (h.src < 17 ∧ h.dst < 17 ∧ h.src ≠ h.dst) :=
  ⟨{ State.reset with seq := { SeqState.reset with ho := some ⟨3, 5, 16, 1, 0, false, false, true, false⟩ } }, ⟨3, 5, 16, 1, 0, false, false, true, false⟩, by decide⟩

/-- The hypotheses of HandoverMovesSeat, clause 9, are met together. -/
theorem witness_HandoverMovesSeat_9 :
    ∃ (s : State) (h : Handover),
      (s.seq.ho = some h ∧ due s h.at_ = true ∧ h.loss = false ∧ h.test = true ∧ h.struck = false) ∧ (h.src < 17 ∧ h.dst < 17 ∧ h.src ≠ h.dst) :=
  ⟨{ State.reset with seq := { SeqState.reset with ho := some ⟨3, 5, 16, 1, 0, true, false, true, false⟩ } }, ⟨3, 5, 16, 1, 0, true, false, true, false⟩, by decide⟩

/-- The hypotheses of HandoverMovesSeat, clause 10, are met together. -/
theorem witness_HandoverMovesSeat_10 :
    ∃ (s : State) (h : Handover),
      (s.seq.ho = some h ∧ due s h.at_ = true ∧ h.loss = true) ∧ (h.src < 17 ∧ h.dst < 17 ∧ h.src ≠ h.dst) :=
  ⟨{ State.reset with seq := { SeqState.reset with ho := some ⟨3, 5, 16, 1, 0, false, true, true, false⟩ } }, ⟨3, 5, 16, 1, 0, false, true, true, false⟩, by decide⟩

/-- The hypotheses of HandoverMovesSeat, clause 11, are met together. -/
theorem witness_HandoverMovesSeat_11 :
    ∃ (s : State) (h : Handover),
      (s.seq.ho = some h ∧ due s h.at_ = true ∧ h.loss = false ∧ h.struck = true) ∧ (h.src < 17 ∧ h.dst < 17 ∧ h.src ≠ h.dst ∧ tileUsable s h.dst = true) :=
  ⟨{ State.reset with seq := { SeqState.reset with ho := some ⟨3, 5, 16, 1, 0, false, false, true, true⟩ } }, ⟨3, 5, 16, 1, 0, false, false, true, true⟩, by decide⟩

/-- The hypotheses of TileLossesAndFallback, clause 1, are met together. -/
theorem witness_TileLossesAndFallback_1 :
    ∃ (t0 : Fin 17) (s : State) (q : Nat),
      (running s = true ∧ tileSeat s t0.val = some q) :=
  ⟨5, setF (seatTile false 3 5 0 State.reset) F.PAT_STATE_LIVE 1, 3, by decide⟩

set_option maxRecDepth 100000 in
/-- The hypotheses of TileLossesAndFallback, clause 2, are met together. -/
theorem witness_TileLossesAndFallback_2 :
    ∃ (t0 : Fin 17) (s : State) (q : Nat),
      (running s = true ∧ tileSeat s t0.val = some q ∧ fbSeats s = false) ∧ ((tileRun s t0.val).lost = false ∧ getF s F.SEQ_CFG_OVR_LIMIT ≤ (tileRun s t0.val).bad) ∧ (getF s F.SEQ_SPARE_PRESENT = 1 ∧ tileUsable s (getF s F.SEQ_SPARE_SPARE) = true ∧ s.bst.slice.all (fun x => decide (17 ≤ x.1)) = true) :=
  ⟨5, setF (setF (setF (tileMod 5 (fun r => { r with bad := 3 }) (seatTile false 3 5 0 State.reset)) F.PAT_STATE_LIVE 1) F.SEQ_SPARE_PRESENT 1) F.SEQ_SPARE_SPARE 16, 3, by decide⟩

/-- The hypotheses of TileLossesAndFallback, clause 3, are met together. -/
theorem witness_TileLossesAndFallback_3 :
    ∃ (t0 : Fin 17) (s : State) (q : Nat),
      (running s = true ∧ tileSeat s t0.val = some q ∧ fbSeats s = false) ∧ ((tileRun s t0.val).lost = false ∧ getF s F.SEQ_CFG_OVR_LIMIT ≤ (tileRun s t0.val).bad) ∧ (getF s F.SEQ_SPARE_PRESENT = 0 ∧ s.bst.slice.all (fun x => decide (17 ≤ x.1)) = true) :=
  ⟨5, setF (setF (tileMod 5 (fun r => { r with bad := 3 }) (seatTile false 3 5 0 State.reset)) F.PAT_STATE_LIVE 1) F.SEQ_SPARE_PRESENT 0, 3, by decide⟩

/-- The hypotheses of TileLossesAndFallback, clause 4, are met together. -/
theorem witness_TileLossesAndFallback_4 :
    ∃ (s : State) (f : Nat),
      (s.seq.fallbackAt = some f ∧ due s f = true) :=
  ⟨setF { State.reset with seq := { SeqState.reset with fallbackAt := some 1 } } F.PAT_STATE_LIVE 1, 1, by decide⟩

/-- The hypotheses of TileLossesAndFallback, clause 5, are met together. -/
theorem witness_TileLossesAndFallback_5 :
    ∃ (s : State) (q : Nat) (qs : List Nat),
      (s.seq.shedSeats = q :: qs) ∧ (((livePat s).shedYield && standbyReady s) = false) :=
  ⟨{ State.reset with seq := { SeqState.reset with shedSeats := [4, 7] } }, 4, [7], by decide⟩

set_option maxRecDepth 100000 in
/-- The hypotheses of TileLossesAndFallback, clause 6, are met together. -/
theorem witness_TileLossesAndFallback_6 :
    ∃ (s : State) (q : Nat) (qs : List Nat),
      (s.seq.shedSeats = q :: qs) ∧ ((livePat s).shedYield = true ∧ standbyReady s = true) :=
  ⟨(let p : Pattern := { Pattern.empty with shedYield := true }; let s := setF (setF (setF (setF { State.reset with pat := { PatState.reset with live := some p }, seq := { SeqState.reset with shedSeats := [4] }, flk := { FlkState.reset with peerReady := 6 } } F.CLM_CFG_EN 1) F.CLM_STATE_ROLE 3) F.FLK_STATE_LINK 1) F.PAT_STATE_LIVE 2; s), 4, [], by decide⟩

set_option maxRecDepth 100000 in
/-- The hypotheses of TileLossesAndFallback, clause 7, are met together. -/
theorem witness_TileLossesAndFallback_7 :
    ∃ (u : Fin 3) (s : State),
      (running s = true ∧ getL s F.GEO_CFG_OVR_LIMIT ≤ aGet (fun _ => 0) s.geo.misses u.val) ∧ ((getF s F.GEO_UNITS_WA = u.val ∨ getF s F.GEO_UNITS_WB = u.val) ∧ getF s F.GEO_UNITS_SPARE_PRESENT = 1) ∧ (s.bst.slice.all (fun x => decide (x.1 < 17 ∨ 20 ≤ x.1)) = true ∧ bit (getF s F.BST_MAP_MAP) (17 + u.val) = false) :=
  ⟨0, setF (setF (setF (setF (setF { State.reset with geo := { GeoState.reset with misses := [(0, 9)] } } F.PAT_STATE_LIVE 1) F.GEO_UNITS_WA 0) F.GEO_UNITS_WB 1) F.GEO_UNITS_SPARE 2) F.GEO_UNITS_SPARE_PRESENT 1, by decide⟩

/-- The hypotheses of DacUnderrunForceAndClear, clause 1, are met together. -/
theorem witness_DacUnderrunForceAndClear_1 :
    ∃ (n : Fin 32) (s : State),
      (dacSt s n.val = 2 ∧ (dacOf s n.val).queue = []) ∧ ((dacOf s n.val).urBlock ≠ some (blk s)) :=
  ⟨7, setF State.reset (F.DAC_CSTATE_STATE 7) 2, by decide⟩

/-- The hypotheses of DacUnderrunForceAndClear, clause 2, are met together. -/
theorem witness_DacUnderrunForceAndClear_2 :
    ∃ (n : Fin 32) (s : State),
      (dacSt s n.val = 2 ∧ (dacOf s n.val).queue = []) ∧ ((dacOf s n.val).urBlock = some (blk s)) :=
  ⟨7, dacMod 7 (fun x => { x with urBlock := some 0 }) (setF State.reset (F.DAC_CSTATE_STATE 7) 2), by decide⟩

/-- The hypotheses of DacUnderrunForceAndClear, clause 3, are met together. -/
theorem witness_DacUnderrunForceAndClear_3 :
    ∃ (n : Fin 32) (s : State),
      (dacSt s n.val = 2) ∧ (getL s (F.DAC_FAULT_UR_LIM n.val) ≤ (dacOf s n.val).urRun ∧ 0 < (dacOf s n.val).urRun) :=
  ⟨7, dacMod 7 (fun x => { x with urRun := 16 }) (setF State.reset (F.DAC_CSTATE_STATE 7) 2), by decide⟩

/-- The hypotheses of DacUnderrunForceAndClear, clause 4, are met together. -/
theorem witness_DacUnderrunForceAndClear_4 :
    ∃ (n : Fin 32) (s : State) (k : Nat),
      ((dacOf s n.val).forceAt = some k ∧ k ≤ blk s ∧ (dacOf s n.val).clearAt = none) ∧ (dacSt s n.val ≠ 0 ∧ dacSt s n.val ≠ 5 ∧ s.err.fatal = false ∧ dacNoDrive s (dacOf s n.val) = false) :=
  ⟨7, dacMod 7 (fun x => { x with forceAt := some 0 }) (setF State.reset (F.DAC_CSTATE_STATE 7) 2), 0, by decide⟩

/-- The hypotheses of DacSpanSequence, clause 1, are met together. -/
theorem witness_DacSpanSequence_1 :
    ∃ (n : Fin 32) (v : Word) (s : State),
      (dacSt s n.val = 1 ∨ dacSt s n.val = 2) ∧ (fget v 2 2 = 0 ∨ fget v 1 0 < 2) ∧ (fget v 1 0 ≠ (dacOf s n.val).spanNow ∨ fget v 2 2 ≠ (dacOf s n.val).modeNow) :=
  ⟨4, 3#32, setF State.reset (F.DAC_CSTATE_STATE 4) 1, by decide⟩

/-- The hypotheses of DacSpanSequence, clause 2, are met together. -/
theorem witness_DacSpanSequence_2 :
    ∃ (n : Fin 32) (v : Word) (s : State),
      (dacSt s n.val = 0) ∧ (fget v 2 2 = 0 ∨ fget v 1 0 < 2) :=
  ⟨4, 3#32, State.reset, by decide⟩

/-- The hypotheses of DacSpanSequence, clause 3, are met together. -/
theorem witness_DacSpanSequence_3 :
    ∃ (v : Word),
      (fget v 2 2 = 1 ∧ 2 ≤ fget v 1 0) :=
  ⟨7#32, by decide⟩

/-- The hypotheses of DacSpanSequence, clause 4, are met together. -/
theorem witness_DacSpanSequence_4 :
    ∃ (n : Fin 32) (s : State) (sp : Nat) (md : Nat) (k : Nat),
      ((dacOf s n.val).want = some (sp, md, some k) ∧ due s k = true) ∧ ((dacSt s n.val = 1 ∨ dacSt s n.val = 2 ∨ (dacSt s n.val = 4 ∧ dacSpanDone (dacOf s n.val) = true)) ∧ (dacOf s n.val).settling = none) :=
  ⟨4, dacMod 4 (fun x => { x with want := some (3, 0, some 1) }) (setF State.reset (F.DAC_CSTATE_STATE 4) 1), 3, 0, 1, by decide⟩

/-- The hypotheses of DacSpanSequence, clause 5, are met together. -/
theorem witness_DacSpanSequence_5 :
    ∃ (n : Fin 32) (s : State) (sp : Nat) (md : Nat) (k : Option Nat),
      ((dacOf s n.val).act = .start ∧ (dacOf s n.val).want = some (sp, md, k) ∧ spanMayStart s n.val = true) ∧ ((dacOf s n.val).clearAt = none ∧ (dacOf s n.val).forceAt = none ∧ s.err.fatal = false ∧ dacNoDrive s (dacOf s n.val) = false) :=
  ⟨4, dacMod 4 (fun x => { x with act := .start, want := some (3, 0, some 1) }) (setF State.reset (F.DAC_CSTATE_STATE 4) 1), 3, 0, some 1, by decide⟩

/-- The hypotheses of DacSpanSequence, clause 6, are met together. -/
theorem witness_DacSpanSequence_6 :
    ∃ (n : Fin 32) (s : State) (b : Nat) (sp : Nat) (md : Nat),
      ((dacOf s n.val).span = some (b, sp, md) ∧ due s (b + 4) = true) ∧ (dacSt s n.val = 4 ∧ (dacOf s n.val).settling = none) :=
  ⟨4, { dacMod 4 (fun x => { x with span := some (1, 3, 0) }) (setF State.reset (F.DAC_CSTATE_STATE 4) 4) with msi := 80 }, 1, 3, 0, by decide⟩

/-- The hypotheses of DacSpanSequence, clause 7, are met together. -/
theorem witness_DacSpanSequence_7 :
    ∃ (n : Fin 32) (s : State) (b : Nat) (sp : Nat) (md : Nat),
      ((dacOf s n.val).act = .switch ∧ (dacOf s n.val).span = some (b, sp, md) ∧ dacSt s n.val = 4 ∧ (dacOf s n.val).settling = none) ∧ ((dacOf s n.val).clearAt = none ∧ (dacOf s n.val).forceAt = none ∧ s.err.fatal = false ∧ dacNoDrive s (dacOf s n.val) = false) :=
  ⟨4, { dacMod 4 (fun x => { x with act := .switch, span := some (1, 3, 0) }) (setF State.reset (F.DAC_CSTATE_STATE 4) 4) with msi := 80 }, 1, 3, 0, by decide⟩

/-- The hypotheses of DacSpanSequence, clause 8, are met together. -/
theorem witness_DacSpanSequence_8 :
    ∃ (n : Fin 32) (s : State),
      ((dacOf s n.val).settling = some .clear ∨ (dacOf s n.val).settling = some .span) :=
  ⟨4, dacMod 4 (fun x => { x with settling := some .span }) State.reset, by decide⟩

/-- The hypotheses of DacSpanSequence, clause 9, are met together. -/
theorem witness_DacSpanSequence_9 :
    ∃ (n : Fin 32) (s : State),
      ((dacOf s n.val).settling = some .powerUp) :=
  ⟨4, dacMod 4 (fun x => { x with settling := some .powerUp }) State.reset, by decide⟩

/-- The hypotheses of DacSpanSequence, clause 10, are met together. -/
theorem witness_DacSpanSequence_10 :
    ∃ (s : State),
      (s.pwr.dacAwait = true ∧ s.pwr.good = true ∧ s.pwr.hot = false ∧ s.pwr.testEn = false) :=
  ⟨State.reset, by decide⟩

/-- The hypotheses of PortGroupsAndMasks, clause 1, are met together. -/
theorem witness_PortGroupsAndMasks_1 :
    ∃ (g : Fin 16) (s : State),
      (getF s (F.APD_GCTL_EN g.val) = 0) ∧ (apdRefusal s g.val = none) :=
  ⟨3, State.reset, by decide⟩

/-- The hypotheses of PortGroupsAndMasks, clause 2, are met together. -/
theorem witness_PortGroupsAndMasks_2 :
    ∃ (g : Fin 16) (s : State) (r : Nat) (l : Nat),
      (getF s (F.APD_GCTL_EN g.val) = 0) ∧ (apdRefusal s g.val = some (r, l)) :=
  ⟨3, setF State.reset (F.APD_GCFG_SW 3) 3, 7, 0, by decide⟩

/-- The hypotheses of PortGroupsAndMasks, clause 3, are met together. -/
theorem witness_PortGroupsAndMasks_3 :
    ∃ (g : Fin 16) (s : State),
      (getF s (F.APD_GCTL_EN g.val) = 1) :=
  ⟨3, setF State.reset (F.APD_GCTL_EN 3) 1, by decide⟩

/-- The hypotheses of PortGroupsAndMasks, clause 4, are met together. -/
theorem witness_PortGroupsAndMasks_4 :
    ∃ (g : Fin 16) (stamp : BitVec 64) (s : State) (prev : Nat),
      (grpOn s g.val = true ∧ isMaster s g.val = false) ∧ ((grpOf s g.val).lastEdge = some prev) ∧ (withinPpm (stamp.toNat - prev) (grpRate s g.val) 125000 = false) :=
  ⟨3, 500#64, grpMod 3 (fun x => { x with lastEdge := some 0 }) (setF (setF State.reset (F.APD_GCFG_MASTER 3) 0) (F.APD_GCTL_EN 3) 1), 0, by decide⟩

set_option maxRecDepth 100000 in
/-- The hypotheses of PortGroupsAndMasks, clause 5, are met together. -/
theorem witness_PortGroupsAndMasks_5 :
    ∃ (g : Fin 16) (stamp : BitVec 64) (bclks : BitVec 16) (s : State) (prev : Nat),
      (grpOn s g.val = true ∧ isMaster s g.val = false) ∧ ((grpOf s g.val).lastEdge = some prev) ∧ (withinPpm (stamp.toNat - prev) (grpRate s g.val) 125000 = true ∧ bclks.toNat ≠ grpBits s g.val) :=
  ⟨3, 133333#64, 63#16, grpMod 3 (fun x => { x with lastEdge := some 0 }) (setF (setF (setF State.reset (F.APD_GCFG_RATE 3) 0) (F.APD_GCFG_MASTER 3) 0) (F.APD_GCTL_EN 3) 1), 0, by decide⟩

set_option maxRecDepth 100000 in
/-- The hypotheses of PortGroupsAndMasks, clause 6, are met together. -/
theorem witness_PortGroupsAndMasks_6 :
    ∃ (g : Fin 16) (stamp : BitVec 64) (bclks : BitVec 16) (s : State) (prev : Nat),
      (grpOn s g.val = true ∧ isMaster s g.val = false) ∧ ((grpOf s g.val).lastEdge = some prev) ∧ (withinPpm (stamp.toNat - prev) (grpRate s g.val) 125000 = true ∧ bclks.toNat = grpBits s g.val) :=
  ⟨3, 133333#64, BitVec.ofNat 16 (grpBits (setF (setF (setF State.reset (F.APD_GCFG_RATE 3) 0) (F.APD_GCFG_MASTER 3) 0) (F.APD_GCTL_EN 3) 1) 3), grpMod 3 (fun x => { x with lastEdge := some 0 }) (setF (setF (setF State.reset (F.APD_GCFG_RATE 3) 0) (F.APD_GCFG_MASTER 3) 0) (F.APD_GCTL_EN 3) 1), 0, by decide⟩

/-- The hypotheses of PortGroupsAndMasks, clause 7, are met together. -/
theorem witness_PortGroupsAndMasks_7 :
    ∃ (g : Fin 16) (s : State),
      (grpOn s g.val = true ∧ isMaster s g.val = false) ∧ ((grpOf s g.val).lastEdge = none) :=
  ⟨3, setF (setF State.reset (F.APD_GCFG_MASTER 3) 0) (F.APD_GCTL_EN 3) 1, by decide⟩

/-- The hypotheses of PortGroupsAndMasks, clause 8, are met together. -/
theorem witness_PortGroupsAndMasks_8 :
    ∃ (g : Fin 16) (s : State),
      (grpOn s g.val = true ∧ isMaster s g.val = false) ∧ (((getF s (F.APD_GSTATE_STATE g.val) = 1 ∨ getF s (F.APD_GSTATE_STATE g.val) = 2) ∧ (grpOf s g.val).lost = false) ∨ getF s (F.APD_GSTATE_STATE g.val) = 4) :=
  ⟨3, setF (setF (setF State.reset (F.APD_GCFG_MASTER 3) 0) (F.APD_GCTL_EN 3) 1) (F.APD_GSTATE_STATE 3) 2, by decide⟩

/-- The hypotheses of PortGroupsAndMasks, clause 9, are met together. -/
theorem witness_PortGroupsAndMasks_9 :
    ∃ (l : Fin 64) (s : State),
      (grpOn s (l.val / 4) = true) :=
  ⟨13, setF State.reset (F.APD_GCTL_EN 3) 1, by decide⟩

/-- The hypotheses of PortGroupsAndMasks, clause 10, are met together. -/
theorem witness_PortGroupsAndMasks_10 :
    ∃ (l : Fin 64) (s : State),
      (grpOn s (l.val / 4) = false) :=
  ⟨13, State.reset, by decide⟩

/-- The hypotheses of PortGroupsAndMasks, clause 11, are met together. -/
theorem witness_PortGroupsAndMasks_11 :
    ∃ (l : Fin 64) (s : State),
      (getF s (F.APD_LSTATE_PEND l.val) = 1 ∧ grpOn s (l.val / 4) = true) ∧ (getF s (F.APD_GSTATE_STATE (l.val / 4)) ≠ 0) ∧ (getF s (F.APD_GSTATE_STATE (l.val / 4)) = 3 → (grpOf s (l.val / 4)).lost = false ∧ (grpOf s (l.val / 4)).rejects = 0) :=
  ⟨13, setF (setF (setF State.reset (F.APD_GCTL_EN 3) 1) (F.APD_GSTATE_STATE 3) 2) (F.APD_LSTATE_PEND 13) 1, by decide⟩

set_option maxRecDepth 100000 in
/-- The hypotheses of BiphaseLanesAndStatus, clause 1, are met together. -/
theorem witness_BiphaseLanesAndStatus_1 :
    ∃ (l : Fin 64) (f : BpFrame) (s : State),
      (grpOn s (l.val / 4) = true ∧ laneBi s l.val = true ∧ laneOut s l.val = false) ∧ (f.valid = false) :=
  ⟨13, { valid := false, z := false, rate := 0, a := ⟨0, false, false, false, true⟩, b := ⟨0, false, false, false, true⟩ }, setF (setF State.reset (F.APD_GCTL_EN 3) 1) (F.APD_LCFG_BIPHASE 13) 1, by decide⟩

set_option maxRecDepth 100000 in
/-- The hypotheses of BiphaseLanesAndStatus, clause 2, are met together. -/
theorem witness_BiphaseLanesAndStatus_2 :
    ∃ (l : Fin 64) (f : BpFrame) (s : State),
      (grpOn s (l.val / 4) = true ∧ laneBi s l.val = true ∧ laneOut s l.val = false) ∧ (f.valid = true ∧ getF s (F.APD_LSTATE_BP_LOCK l.val) = 0) :=
  ⟨13, { valid := true, z := true, rate := 0, a := ⟨5, false, false, false, true⟩, b := ⟨6, false, false, false, true⟩ }, setF (setF State.reset (F.APD_GCTL_EN 3) 1) (F.APD_LCFG_BIPHASE 13) 1, by decide⟩

set_option maxRecDepth 100000 in
/-- The hypotheses of BiphaseLanesAndStatus, clause 3, are met together. -/
theorem witness_BiphaseLanesAndStatus_3 :
    ∃ (l : Fin 64) (f : BpFrame) (s : State),
      (grpOn s (l.val / 4) = true ∧ laneBi s l.val = true ∧ laneOut s l.val = false) ∧ (f.valid = true ∧ getF s (F.APD_LSTATE_BP_LOCK l.val) = 1) :=
  ⟨13, { valid := true, z := true, rate := 0, a := ⟨5, false, false, false, true⟩, b := ⟨6, false, false, false, false⟩ }, setF (setF (setF State.reset (F.APD_GCTL_EN 3) 1) (F.APD_LCFG_BIPHASE 13) 1) (F.APD_LSTATE_BP_LOCK 13) 1, by decide⟩

set_option maxRecDepth 100000 in
/-- The hypotheses of BiphaseLanesAndStatus, clause 4, are met together. -/
theorem witness_BiphaseLanesAndStatus_4 :
    ∃ (l : Fin 64) (f : BpFrame) (s : State),
      (grpOn s (l.val / 4) = true ∧ laneBi s l.val = true ∧ laneOut s l.val = false) ∧ (f.valid = true ∧ getF s (F.APD_LSTATE_BP_LOCK l.val) = 1) ∧ (subHeld s l.val f.a = false ∧ subHeld s l.val f.b = false) ∧ (f.z = true ∨ (laneOf s l.val).cs.all (fun r => decide (r.length < 191)) = true) :=
  ⟨13, { valid := true, z := true, rate := 0, a := ⟨5, false, false, false, true⟩, b := ⟨6, false, false, false, true⟩ }, setF (setF (setF State.reset (F.APD_GCTL_EN 3) 1) (F.APD_LCFG_BIPHASE 13) 1) (F.APD_LSTATE_BP_LOCK 13) 1, by decide⟩

/-- The hypotheses of BiphaseLanesAndStatus, clause 5, are met together. -/
theorem witness_BiphaseLanesAndStatus_5 :
    ∃ (l : Fin 64) (s : State),
      (getF s (F.APD_LSTATE_BP_LOCK l.val) = 1 ∧ 4 ≤ (laneOf s l.val).bad) :=
  ⟨13, laneMod 13 (fun x => { x with bad := 4 }) (setF State.reset (F.APD_LSTATE_BP_LOCK 13) 1), by decide⟩

set_option maxRecDepth 100000 in
/-- The hypotheses of BiphaseLanesAndStatus, clause 7, are met together. -/
theorem witness_BiphaseLanesAndStatus_7 :
    ∃ (l : Fin 64) (s : State) (q : Nat) (ws : List Nat),
      ((laneOf s l.val).csPend = some q ∧ q ≤ s.msi ∧ s.msi % 192 = 0) ∧ (grpOn s (l.val / 4) = true ∧ laneOut s l.val = true ∧ laneBi s l.val = true) ∧ (ws = (List.range 24).map (fun j => rdN s (R.APD_CSTX l.val j))) :=
  ⟨13, { laneMod 13 (fun x => { x with csPend := some 2 }) (setF (setF (setF (setF State.reset (F.APD_LCFG_CRCC 13) 0) (F.APD_GCTL_EN 3) 1) (F.APD_LCFG_BIPHASE 13) 1) (F.APD_LCFG_DIR 13) 1) with msi := 192 }, 2, List.replicate 24 0, by decide⟩

/-- The hypotheses of ClaimFramesDecideRoles, clause 1, are met together. -/
theorem witness_ClaimFramesDecideRoles_1 :
    ∃ (s : State),
      (isPair s = true) :=
  ⟨setF State.reset F.CLM_CFG_EN 1, by decide⟩

/-- The hypotheses of ClaimFramesDecideRoles, clause 2, are met together. -/
theorem witness_ClaimFramesDecideRoles_2 :
    ∃ (w : Nat) (s : State),
      (isActive s = true ∧ s.clm.sending = some w ∧ w < 2 ^ 16 ∧ s.clm.yieldAt = none) ∧ (lineState s false = 0 ∧ lineState s true = 0 ∧ mismatch s w = false) :=
  ⟨0x8010, setF (setF { State.reset with clm := { ClaimState.reset with sending := some 0x8010, armed := true } } F.CLM_CFG_EN 1) F.CLM_STATE_ROLE 3, by decide⟩

set_option maxRecDepth 100000 in
/-- The hypotheses of ClaimFramesDecideRoles, clause 3, are met together. -/
theorem witness_ClaimFramesDecideRoles_3 :
    ∃ (own : Nat) (w : Nat) (s : State),
      (isActive s = true ∧ s.clm.sending = some own ∧ own < w ∧ w < 2 ^ 16 ∧ wordActive w = true) ∧ (lineState s false = 0 ∧ lineState s true = 0 ∧ mismatch s w = false) :=
  ⟨0x8010, 0x8020, setF (setF { State.reset with clm := { ClaimState.reset with sending := some 0x8010, armed := true } } F.CLM_CFG_EN 1) F.CLM_STATE_ROLE 3, by decide⟩

set_option maxRecDepth 100000 in
/-- The hypotheses of ClaimFramesDecideRoles, clause 4, are met together. -/
theorem witness_ClaimFramesDecideRoles_4 :
    ∃ (w : Nat) (s : State),
      (isStandby s = true ∧ s.clm.sending = some w ∧ w < 2 ^ 15 ∧ s.flk.held = []) ∧ (lineState s false = 0 ∧ lineState s true = 0 ∧ mismatch s w = false) ∧ ((getF s F.CLM_CFG_TKO_N ≤ s.clm.wins + 1 ∧ sync s = 6 ∧ running s = true ∧ mediaLocked s = true) ∨ s.clm.force.any (fun b => decide (b < blk s)) = true) :=
  ⟨0x10, setF (setF { State.reset with msi := 160, clm := { ClaimState.reset with sending := some 0x10, armed := true, force := some 3 } } F.CLM_CFG_EN 1) F.CLM_STATE_ROLE 2, by decide⟩

/-- The hypotheses of ClaimFramesDecideRoles, clause 5, are met together. -/
theorem witness_ClaimFramesDecideRoles_5 :
    ∃ (s : State),
      (isPair s = true ∧ getF s F.CLM_STATE_ROLE = 1 ∧ due s (s.clm.listenAt + 64) = true ∧ linesDead s = false) :=
  ⟨{ setF (setF State.reset F.CLM_CFG_EN 1) F.CLM_STATE_ROLE 1 with msi := 16 * 63 }, by decide⟩

/-- The hypotheses of ClaimCommandsAccepted, clause 1, are met together. -/
theorem witness_ClaimCommandsAccepted_1 :
    ∃ (v : Word) (s : State),
      (getF s F.CLM_CFG_EN = 0 ∧ running s = false) ∧ (rangeOk R.CLM_CFG v = true ∧ fget v 31 31 = 1) :=
  ⟨0x80030000#32, State.reset, by decide⟩

/-- The hypotheses of ClaimCommandsAccepted, clause 2, are met together. -/
theorem witness_ClaimCommandsAccepted_2 :
    ∃ (v : Word) (s : State),
      (running s = false ∧ rangeOk R.CLM_CFG v = false) :=
  ⟨0x80000000#32, State.reset, by decide⟩

set_option maxRecDepth 100000 in
/-- The hypotheses of ClaimCommandsAccepted, clause 3, are met together. -/
theorem witness_ClaimCommandsAccepted_3 :
    ∃ (s : State),
      (isActive s = true ∧ flkUp s = true ∧ s.flk.peerReady = 6) ∧ (s.clm.drill = none ∧ s.clm.drillRun = none ∧ isLate s (rd64 s R.CLM_MSI_LO R.CLM_MSI_HI) = false) :=
  ⟨wrN (setF (setF (setF { State.reset with flk := { FlkState.reset with peerReady := 6 } } F.CLM_CFG_EN 1) F.CLM_STATE_ROLE 3) F.FLK_STATE_LINK 1) R.CLM_MSI_LO 160, by decide⟩

set_option maxRecDepth 100000 in
/-- The hypotheses of ClaimCommandsAccepted, clause 4, are met together. -/
theorem witness_ClaimCommandsAccepted_4 :
    ∃ (s : State),
      (isActive s = true ∧ flkUp s = true ∧ s.flk.peerReady = 6) ∧ (s.clm.renorm = none ∧ isLate s (rd64 s R.CLM_MSI_LO R.CLM_MSI_HI) = false) :=
  ⟨wrN (setF (setF (setF { State.reset with flk := { FlkState.reset with peerReady := 6 } } F.CLM_CFG_EN 1) F.CLM_STATE_ROLE 3) F.FLK_STATE_LINK 1) R.CLM_MSI_LO 160, by decide⟩

/-- The hypotheses of ClaimCommandsAccepted, clause 5, are met together. -/
theorem witness_ClaimCommandsAccepted_5 :
    ∃ (s : State) (r : Nat),
      (isPassive s = false) ∧ (pairRefusal (s.clm.drill.isSome || s.clm.drillRun.isSome) s = some r ∨ (pairRefusal (s.clm.drill.isSome || s.clm.drillRun.isSome) s = none ∧ isLate s (rd64 s R.CLM_MSI_LO R.CLM_MSI_HI) = true ∧ r = 1)) :=
  ⟨State.reset, 5, by decide⟩

/-- The hypotheses of ClaimCommandsAccepted, clause 6, are met together. -/
theorem witness_ClaimCommandsAccepted_6 :
    ∃ (s : State) (r : Nat),
      (isPassive s = false) ∧ (pairRefusal s.clm.renorm.isSome s = some r ∨ (pairRefusal s.clm.renorm.isSome s = none ∧ isLate s (rd64 s R.CLM_MSI_LO R.CLM_MSI_HI) = true ∧ r = 1)) :=
  ⟨State.reset, 5, by decide⟩

/-- The hypotheses of ClaimCommandsAccepted, clause 8, are met together. -/
theorem witness_ClaimCommandsAccepted_8 :
    ∃ (via : Src) (c : Instr) (s : State),
      (isPassive s = true ∧ (c = .clmDrill via ∨ c = .clmRenorm via)) :=
  ⟨.pcie, .clmRenorm .pcie, setF (setF State.reset F.CLM_CFG_EN 1) F.CLM_STATE_ROLE 2, by decide⟩

/-- The hypotheses of ClaimCommandsAccepted, clause 9, are met together. -/
theorem witness_ClaimCommandsAccepted_9 :
    ∃ (s : State),
      (isStandby s = true ∧ running s = true ∧ mediaLocked s = true) ∧ (activeRecently s = false ∧ s.clm.force = none) :=
  ⟨setF (setF (setF (setF (setF State.reset F.CLM_CFG_EN 1) F.CLM_STATE_ROLE 2) F.PAT_STATE_LIVE 1) F.TSU_ML_STATE_SEATED 1) F.TSU_ML_STATE_STATE 1, by decide⟩

/-- The hypotheses of ClaimCommandsAccepted, clause 10, are met together. -/
theorem witness_ClaimCommandsAccepted_10 :
    ∃ (s : State),
      (isStandby s = false ∨ running s = false ∨ mediaLocked s = false ∨ activeRecently s = true ∨ s.clm.force ≠ none) :=
  ⟨State.reset, by decide⟩

/-- The hypotheses of ClaimCommandsAccepted, clause 11, are met together. -/
theorem witness_ClaimCommandsAccepted_11 :
    ∃ (s : State),
      (isActive s = true ∧ flkUp s = true ∧ s.flk.peerReady = 6) :=
  ⟨setF (setF (setF { State.reset with flk := { FlkState.reset with peerReady := 6 } } F.CLM_CFG_EN 1) F.CLM_STATE_ROLE 3) F.FLK_STATE_LINK 1, by decide⟩

/-- The hypotheses of ClaimCommandsAccepted, clause 12, are met together. -/
theorem witness_ClaimCommandsAccepted_12 :
    ∃ (s : State),
      (isActive s = false ∨ flkUp s = false ∨ s.flk.peerReady ≠ 6) :=
  ⟨State.reset, by decide⟩

/-- The hypotheses of DrillSwapsUnits, clause 1, are met together. -/
theorem witness_DrillSwapsUnits_1 :
    ∃ (s : State) (d : Nat),
      (s.clm.drill = some d ∧ s.clm.drillFinal = true ∧ due s (d - 1) = true ∧ due s d = false) ∧ (isStandby s = true) :=
  ⟨setF (setF { State.reset with clm := { ClaimState.reset with drill := some 2, drillFinal := true } } F.CLM_CFG_EN 1) F.CLM_STATE_ROLE 2, 2, by decide⟩

/-- The hypotheses of DrillSwapsUnits, clause 2, are met together. -/
theorem witness_DrillSwapsUnits_2 :
    ∃ (s : State) (d : Nat),
      (s.clm.drill = some d ∧ s.clm.drillFinal = true ∧ due s d = true ∧ due s (d + 1) = false) ∧ (isActive s = true) :=
  ⟨setF (setF { State.reset with clm := { ClaimState.reset with drill := some 1, drillFinal := true } } F.CLM_CFG_EN 1) F.CLM_STATE_ROLE 3, 1, by decide⟩

/-- The hypotheses of DrillSwapsUnits, clause 3, are met together. -/
theorem witness_DrillSwapsUnits_3 :
    ∃ (s : State) (d : Nat),
      (s.clm.drill = some d ∧ s.clm.drillFinal = true ∧ due s (d + 1) = true ∧ linesDead s = false) ∧ (isActive s = true) :=
  ⟨setF (setF { State.reset with clm := { ClaimState.reset with drill := some 0, drillFinal := true } } F.CLM_CFG_EN 1) F.CLM_STATE_ROLE 3, 0, by decide⟩

/-- The hypotheses of DrillSwapsUnits, clause 4, are met together. -/
theorem witness_DrillSwapsUnits_4 :
    ∃ (s : State) (d : Nat),
      (s.clm.drill = some d ∧ s.clm.drillFinal = true ∧ due s (d + 1) = true ∧ linesDead s = false) ∧ (isStandby s = true ∧ s.flk.held = []) :=
  ⟨setF (setF { State.reset with clm := { ClaimState.reset with drill := some 0, drillFinal := true } } F.CLM_CFG_EN 1) F.CLM_STATE_ROLE 2, 0, by decide⟩

set_option maxRecDepth 100000 in
/-- The hypotheses of DrillSwapsUnits, clause 5, are met together. -/
theorem witness_DrillSwapsUnits_5 :
    ∃ (s : State),
      (getF s F.CLM_CFG_DRILL_INT ≠ 0 ∧ standbyReady s = true ∧ s.clm.drill = none) ∧ (s.clm.drillBase * 16 + getF s F.CLM_CFG_DRILL_INT * 3600 * fsInt s ≤ s.msi) :=
  ⟨{ setF (setF (setF (setF { State.reset with flk := { FlkState.reset with peerReady := 6 } } F.CLM_CFG_EN 1) F.CLM_STATE_ROLE 3) F.FLK_STATE_LINK 1) F.CLM_CFG_DRILL_INT 1 with msi := 345600000 }, by decide⟩

/-- The hypotheses of DrillSwapsUnits, clause 6, are met together. -/
theorem witness_DrillSwapsUnits_6 :
    ∃ (s : State) (r : Nat),
      (s.clm.renorm = some r ∧ s.clm.renormFinal = true ∧ due s r = true) :=
  ⟨{ State.reset with clm := { ClaimState.reset with renorm := some 1, renormFinal := true } }, 1, by decide⟩

/-- The hypotheses of HostQueueAndObjectCommands, clause 1, are met together. -/
theorem witness_HostQueueAndObjectCommands_1 :
    ∃ (v : Word) (s : State),
      ((v.toNat % 32768 + 32768 - getF s F.OBJ_HQ_DONE_INDEX) % 32768 ≤ 16384) :=
  ⟨16384#32, State.reset, by decide⟩

/-- The hypotheses of HostQueueAndObjectCommands, clause 2, are met together. -/
theorem witness_HostQueueAndObjectCommands_2 :
    ∃ (v : Word) (s : State),
      (16384 < (v.toNat % 32768 + 32768 - getF s F.OBJ_HQ_DONE_INDEX) % 32768) :=
  ⟨16385#32, State.reset, by decide⟩

/-- The hypotheses of HostQueueAndObjectCommands, clause 3, are met together. -/
theorem witness_HostQueueAndObjectCommands_3 :
    ∃ (s : State),
      (running s = false) :=
  ⟨State.reset, by decide⟩

/-- The hypotheses of HostQueueAndObjectCommands, clause 4, are met together. -/
theorem witness_HostQueueAndObjectCommands_4 :
    ∃ (s : State),
      (running s = true) :=
  ⟨setF State.reset F.PAT_STATE_LIVE 1, by decide⟩

/-- The hypotheses of HostQueueAndObjectCommands, clause 5, are met together. -/
theorem witness_HostQueueAndObjectCommands_5 :
    ∃ (s : State),
      (isPair s = false) :=
  ⟨State.reset, by decide⟩

/-- The hypotheses of HostQueueAndObjectCommands, clause 6, are met together. -/
theorem witness_HostQueueAndObjectCommands_6 :
    ∃ (s : State),
      (isPair s = false) :=
  ⟨State.reset, by decide⟩

/-- The hypotheses of HostQueueAndObjectCommands, clause 7, are met together. -/
theorem witness_HostQueueAndObjectCommands_7 :
    ∃ (via : Src) (o : Fin 2048) (c : Instr) (op : Nat) (s : State),
      (isActive s = true ∧ flkUp s = true) ∧ ((c = .objCmdReseq via o ∧ op = 1) ∨ (c = .objCmdFlush via o ∧ op = 2)) :=
  ⟨.pcie, 7, .objCmdFlush .pcie 7, 2, setF (setF (setF State.reset F.CLM_CFG_EN 1) F.CLM_STATE_ROLE 3) F.FLK_STATE_LINK 1, by decide⟩

/-- The hypotheses of HostQueueAndObjectCommands, clause 8, are met together. -/
theorem witness_HostQueueAndObjectCommands_8 :
    ∃ (via : Src) (o : Fin 2048) (c : Instr) (s : State),
      (isPassive s = true) ∧ (c = .objCmdReseq via o ∨ c = .objCmdFlush via o) :=
  ⟨.pcie, 7, .objCmdFlush .pcie 7, setF (setF State.reset F.CLM_CFG_EN 1) F.CLM_STATE_ROLE 2, by decide⟩

/-- The hypotheses of HostQueueAndObjectCommands, clause 9, are met together. -/
theorem witness_HostQueueAndObjectCommands_9 :
    ∃ (o : Fin 2048) (s : State) (k : Nat),
      ((objOf s o.val).cmd = some (1, k) ∧ due s k = true ∧ anyPending (objOf s o.val) = false) :=
  ⟨7, objMod 7 (fun x => { x with cmd := some (1, 1), seqValid := true }) State.reset, 1, by decide⟩

/-- The hypotheses of HostQueueAndObjectCommands, clause 10, are met together. -/
theorem witness_HostQueueAndObjectCommands_10 :
    ∃ (o : Fin 2048) (s : State) (k : Nat),
      ((objOf s o.val).cmd = some (2, k) ∧ due s k = true ∧ anyPending (objOf s o.val) = false) ∧ ((objOf s o.val).queue ≠ []) :=
  ⟨7, objMod 7 (fun x => { x with cmd := some (2, 1), queue := [⟨⟨recOf [], 5, 80, false⟩, false, false, none, false, 0, [], 4, []⟩] }) State.reset, 1, by decide⟩

set_option maxRecDepth 100000 in
/-- The hypotheses of RecordsJudgedAndAnswered, clause 1, are met together. -/
theorem witness_RecordsJudgedAndAnswered_1 :
    ∃ (s : State) (b : List Byte) (e : Nat) (origin : Int),
      (s.intake.used < 2048 ∧ s.err.fatal = false ∧ nextSource s = some 4) ∧ (rdPacked s dramBase (getF s F.OBJ_HQ_BASE_BASE + 16 * (getF s F.OBJ_HQ_HEAD_INDEX % 16384)) 112 = b) ∧ (checkRecord b (getF s F.TSU_MEDIA_CFG_CMP == 1) = .none ∧ running s = true) ∧ ((objOf s (recOf b).obj).st = 1 ∨ (objOf s (recOf b).obj).st = 2) ∧ (isPair s = false ∧ isWorker s = false ∧ isManager s = false) ∧ (seqFate (objOf s (recOf b).obj) (recOf b).seq = .new false false) ∧ ((objOf s (recOf b).obj).queue = [] ∧ (objOf s (recOf b).obj).cur = none) ∧ (recordTime s (recOf b) (getF s F.TSU_MEDIA_CFG_CMP == 1) = .ok (e, origin, false)) :=
  ⟨{ setF (setF State.reset F.PAT_STATE_LIVE 1) F.OBJ_HQ_TAIL_INDEX 1 with intake := { State.reset.intake with objs := [(0, { ObjSt.init with st := 1 })], turn := 3 } }, List.replicate 112 0, 0, 0, by decide, by decide, by decide, by decide, by decide, by decide, by decide, ok_of_match _ _ (by decide)⟩

set_option maxRecDepth 100000 in
/-- The hypotheses of RecordsJudgedAndAnswered, clause 2, are met together. -/
theorem witness_RecordsJudgedAndAnswered_2 :
    ∃ (s : State) (b : List Byte) (why : RecReason),
      (s.intake.used < 2048 ∧ s.err.fatal = false ∧ nextSource s = some 4) ∧ (rdPacked s dramBase (getF s F.OBJ_HQ_BASE_BASE + 16 * (getF s F.OBJ_HQ_HEAD_INDEX % 16384)) 112 = b) ∧ (checkRecord b (getF s F.TSU_MEDIA_CFG_CMP == 1) = why ∧ why ≠ .none) :=
  ⟨wrByte (setF State.reset F.OBJ_HQ_TAIL_INDEX 1) 0x1000000001 8, [0, 8] ++ List.replicate 110 0, .objRange, by decide⟩

set_option maxRecDepth 100000 in
/-- The hypotheses of RecordsJudgedAndAnswered, clause 3, are met together. -/
theorem witness_RecordsJudgedAndAnswered_3 :
    ∃ (o : Fin 2048) (s : State) (q : QEnt),
      ((objOf s o.val).queue = [q] ∧ q.pending = true ∧ q.src < 5 ∧ q.item = none ∧ q.litem = 0 ∧ q.acks = []) ∧ (due s q.seg.e = true) :=
  ⟨7, objMod 7 (fun x => { x with queue := [⟨⟨recOf [], 1, 16, false⟩, true, false, none, false, 0, [], 4, []⟩] }) State.reset, ⟨⟨recOf [], 1, 16, false⟩, true, false, none, false, 0, [], 4, []⟩, by decide⟩

set_option maxRecDepth 100000 in
/-- The hypotheses of RecordsJudgedAndAnswered, clause 4, are met together. -/
theorem witness_RecordsJudgedAndAnswered_4 :
    ∃ (p : Fin 4) (s : State) (n : Nat) (sport : Nat) (dport : Nat) (u : List Byte),
      ((aGet (fun _ => none) s.intake.cur p.val).isSome = false ∧ moabyCount s p.val = some n) ∧ (bit (moabyWord s p.val (n - 1)) 47 = false) ∧ ((parseFrame (moabyBytes s p.val n)).udp = some (sport, dport, u)) ∧ (0x10 ≤ leAt u 3 1 ∧ leAt u 3 1 ≤ 0x1F ∧ frameCheck u (getF s F.TSU_MEDIA_CFG_CMP) = 0) :=
  ⟨2, setF (wrWord72 (wrPacked State.reset poolBase 100 (udpFrame State.reset 2 false 0 5 6 7 (moabyFrame State.reset 0x14 1 0 0 9 (List.replicate 8 1)))) poolBase 0 (100 + 78 * 2 ^ 32 + 2 ^ 46)) (F.NET_RR_HEAD_INDEX 2 1) 1, 1, 6, 7, moabyFrame State.reset 0x14 1 0 0 9 (List.replicate 8 1), by decide⟩

set_option maxRecDepth 100000 in
/-- The hypotheses of RecordsJudgedAndAnswered, clause 5, are met together. -/
theorem witness_RecordsJudgedAndAnswered_5 :
    ∃ (p : Fin 4) (s : State) (n : Nat) (sport : Nat) (dport : Nat) (u : List Byte),
      ((aGet (fun _ => none) s.intake.cur p.val).isSome = false ∧ moabyCount s p.val = some n) ∧ (bit (moabyWord s p.val (n - 1)) 47 = false ∧ judgesOwn s = true) ∧ ((parseFrame (moabyBytes s p.val n)).udp = some (sport, dport, u)) ∧ (leAt u 3 1 = 1 ∧ frameCheck u (getF s F.TSU_MEDIA_CFG_CMP) = 0) :=
  ⟨2, setF (wrWord72 (wrPacked State.reset poolBase 100 (udpFrame State.reset 2 false 0 5 6 7 (moabyFrame State.reset 1 1 0 0 9 (List.replicate 112 0)))) poolBase 0 (100 + 182 * 2 ^ 32 + 2 ^ 46)) (F.NET_RR_HEAD_INDEX 2 1) 1, 1, 6, 7, moabyFrame State.reset 1 1 0 0 9 (List.replicate 112 0), by decide⟩

set_option maxRecDepth 100000 in
/-- The hypotheses of RecordsJudgedAndAnswered, clause 6, are met together. -/
theorem witness_RecordsJudgedAndAnswered_6 :
    ∃ (s : State) (j : AckJob),
      (s.intake.jobs.find? jobDone = some j ∧ j.asked = true) ∧ (getF s F.OBJ_CFG_ACK_EN = 1 ∧ s.err.fatal = false ∧ linkUp s j.port = true) :=
  ⟨{ setF (setF State.reset F.OBJ_CFG_ACK_EN 1) (F.NET_LINK_STATE 2) 2 with intake := { State.reset.intake with jobs := [⟨1, 2, false, 5, 6, 7, 8, 0, 9, true, []⟩] } }, ⟨1, 2, false, 5, 6, 7, 8, 0, 9, true, []⟩, by decide⟩

/-- The hypotheses of RouteTablesCommit, clause 1, are met together. -/
theorem witness_RouteTablesCommit_1 :
    ∃ (s : State),
      (isPassive s = false ∧ running s = true ∧ rtePending s = false) ∧ (isLate s (rd64 s R.RTE_MSI_LO R.RTE_MSI_HI) = false ∧ getF s F.RTE_SHD_COUNT_COUNT ≤ 143392) :=
  ⟨wrN (setF State.reset F.PAT_STATE_LIVE 1) R.RTE_MSI_LO 16, by decide⟩

/-- The hypotheses of RouteTablesCommit, clause 2, are met together. -/
theorem witness_RouteTablesCommit_2 :
    ∃ (s : State),
      (isPassive s = false) ∧ (running s = false ∨ rtePending s = true ∨ isLate s (rd64 s R.RTE_MSI_LO R.RTE_MSI_HI) = true ∨ 143392 < getF s F.RTE_SHD_COUNT_COUNT) :=
  ⟨State.reset, by decide⟩

/-- The hypotheses of RouteTablesCommit, clause 3, are met together. -/
theorem witness_RouteTablesCommit_3 :
    ∃ (s : State) (c : RouteCmt) (tbl : List RouteEnt),
      (s.rte.cmt = some c ∧ c.validated = false ∧ c.endBlock ≤ blk s ∧ s.err.fatal = false ∧ isActive s = false) ∧ (shadowCheck s (getF s F.RTE_SHD_COUNT_COUNT) 0 [] = .ok tbl) ∧ ((nonLockedOf s tbl).length ≤ 2048) :=
  ⟨{ State.reset with rte := { State.reset.rte with cmt := some ⟨.pcie, 9, 0, false, false⟩ } }, ⟨.pcie, 9, 0, false, false⟩, [], by decide, rfl, by decide⟩

set_option maxRecDepth 100000 in
/-- The hypotheses of RouteTablesCommit, clause 4, are met together. -/
theorem witness_RouteTablesCommit_4 :
    ∃ (s : State) (c : RouteCmt) (why : Nat) (i : Nat),
      (s.rte.cmt = some c ∧ c.validated = false ∧ c.endBlock ≤ blk s ∧ s.err.fatal = false) ∧ (shadowCheck s (getF s F.RTE_SHD_COUNT_COUNT) 0 [] = .error (why, i)) ∧ (why < 256) :=
  ⟨{ setF (wrWord72 State.reset poolBase 0x240000 (2 ^ 40)) F.RTE_SHD_COUNT_COUNT 1 with rte := { State.reset.rte with cmt := some ⟨.pcie, 9, 0, false, false⟩ } }, ⟨.pcie, 9, 0, false, false⟩, 4, 0, by decide, rfl, by decide⟩

/-- The hypotheses of RouteTablesCommit, clause 5, are met together. -/
theorem witness_RouteTablesCommit_5 :
    ∃ (s : State) (c : RouteCmt),
      (s.rte.cmt = some c ∧ c.accepted = true ∧ due s c.k = true ∧ s.rte.mirrored = none) :=
  ⟨{ State.reset with rte := { State.reset.rte with cmt := some ⟨.pcie, 1, 0, true, true⟩ } }, ⟨.pcie, 1, 0, true, true⟩, by decide⟩

/-- The hypotheses of RouteTablesCommit, clause 6, are met together. -/
theorem witness_RouteTablesCommit_6 :
    ∃ (s : State),
      (s.rte.doneAt.any (due s) = true) :=
  ⟨{ State.reset with rte := { State.reset.rte with doneAt := [1] } }, by decide⟩

/-- The hypotheses of RouteTablesCommit, clause 7, are met together. -/
theorem witness_RouteTablesCommit_7 :
    ∃ (s : State),
      (isPassive s = false ∧ s.rte.cmt = none) :=
  ⟨State.reset, by decide⟩

/-- The hypotheses of RouteCancelRule, clause 1, are met together. -/
theorem witness_RouteCancelRule_1 :
    ∃ (s : State) (c : RouteCmt),
      (isPassive s = false ∧ s.rte.cmt = some c ∧ blk s + leadCmd s ≤ c.k) ∧ ((isActive s && c.validated) = false) :=
  ⟨{ State.reset with rte := { State.reset.rte with cmt := some ⟨.pcie, 1, 0, true, true⟩ } }, ⟨.pcie, 1, 0, true, true⟩, by decide⟩

/-- The hypotheses of RouteCancelRule, clause 2, are met together. -/
theorem witness_RouteCancelRule_2 :
    ∃ (s : State) (c : RouteCmt),
      (isPassive s = false ∧ s.rte.cmt = some c ∧ c.k < blk s + leadCmd s) :=
  ⟨{ State.reset with rte := { State.reset.rte with cmt := some ⟨.pcie, 0, 0, true, true⟩ } }, ⟨.pcie, 0, 0, true, true⟩, by decide⟩

/-- The hypotheses of RouteCancelRule, clause 3, are met together. -/
theorem witness_RouteCancelRule_3 :
    ∃ (s : State),
      (isPassive s = false ∧ rtePending s = false) :=
  ⟨State.reset, by decide⟩

/-- The hypotheses of RouteCancelRule, clause 4, are met together. -/
theorem witness_RouteCancelRule_4 :
    ∃ (s : State) (k : Nat) (tbl : List RouteEnt),
      (isPassive s = false ∧ isActive s = false ∧ s.rte.cmt = none ∧ s.rte.mirrored = some (k, tbl) ∧ blk s + leadCmd s ≤ k) :=
  ⟨{ State.reset with rte := { State.reset.rte with mirrored := some (1, []) } }, 1, [], by decide⟩

set_option maxRecDepth 100000 in
/-- The hypotheses of RouteCancelRule, clause 5, are met together. -/
theorem witness_RouteCancelRule_5 :
    ∃ (s : State) (c : RouteCmt),
      (s.rte.cmt = some c ∧ blk s + leadCmd s ≤ c.k ∧ isActive s = true ∧ c.validated = true ∧ flkUp s = true) :=
  ⟨{ setF (setF (setF State.reset F.CLM_CFG_EN 1) F.CLM_STATE_ROLE 3) F.FLK_STATE_LINK 1 with rte := { State.reset.rte with cmt := some ⟨.pcie, 5, 0, true, true⟩ } }, ⟨.pcie, 5, 0, true, true⟩, by decide⟩

set_option maxRecDepth 100000 in
/-- The hypotheses of RenderEventsAtBoundaries, clause 1, are met together. -/
theorem witness_RenderEventsAtBoundaries_1 :
    ∃ (j : Fin 1024) (s : State) (first : Nat) (len : Nat),
      ((coefOf s j.val).xf = some (first, len) ∧ due s (coefEnd s j.val first len) = true) :=
  ⟨5, { setF State.reset F.TSU_MEDIA_CFG_RATE 1 with msi := 160, flt := { State.reset.flt with coef := [(5, { CoefSet.init with xf := some (1, 4) })] } }, 1, 4, by decide⟩

set_option maxRecDepth 100000 in
/-- The hypotheses of RenderEventsAtBoundaries, clause 2, are met together. -/
theorem witness_RenderEventsAtBoundaries_2 :
    ∃ (ch : Fin 3072) (s : State),
      (2048 ≤ ch.val ∧ getL s (F.VSPK_CCFG_SIL_EN (ch.val - 2048)) = 1) ∧ (silHold s (getL s (F.VSPK_CSIL_HOLD (ch.val - 2048))) ≤ (chanOf s (ch.val - 2048)).silCount) :=
  ⟨2053, { State.reset with live := aSet regReset State.reset.live (R.VSPK_CCFG 5) (fput 0 (F.VSPK_CCFG_SIL_EN 5).hi (F.VSPK_CCFG_SIL_EN 5).lo 1), rnd := { State.reset.rnd with chans := [(5, { ChanRender.init with silCount := 2 ^ 40 })] } }, by decide⟩

/-- The hypotheses of RenderEventsAtBoundaries, clause 3, are met together. -/
theorem witness_RenderEventsAtBoundaries_3 :
    ∃ (ch : Fin 3072) (s : State),
      (ch.val < 2048 ∧ getL s F.SPK_OSIL_CFG_EN = 1) :=
  ⟨5, { State.reset with live := aSet regReset State.reset.live R.SPK_OSIL_CFG (fput 0 F.SPK_OSIL_CFG_EN.hi F.SPK_OSIL_CFG_EN.lo 1) }, by decide⟩

/-- The hypotheses of RenderEventsAtBoundaries, clause 4, are met together. -/
theorem witness_RenderEventsAtBoundaries_4 :
    ∃ (h : Fin 2048) (s : State) (x : GeoTgt),
      ((geoOf s h.val).next = some x) :=
  ⟨5, geoMod 5 (fun g => { g with next := some { GeoTgt.zero with d := 7 } }) State.reset, { GeoTgt.zero with d := 7 }, by decide⟩

/-- The hypotheses of RenderEventsAtBoundaries, clause 5, are met together. -/
theorem witness_RenderEventsAtBoundaries_5 :
    ∃ (s : State) (g : Nat) (q : Nat),
      (s.geo.gNext = some (g, q) ∧ due s q = true) :=
  ⟨{ State.reset with geo := { State.reset.geo with gNext := some (4, 1) } }, 4, 1, by decide⟩

/-- The hypotheses of RenderEventsAtBoundaries, clause 6, are met together. -/
theorem witness_RenderEventsAtBoundaries_6 :
    ∃ (s : State),
      (s.asc.phase = 1 ∨ s.asc.phase = 3) ∧ (s.asc.hold = false ∧ s.asc.stop + 2 ≤ blk s) :=
  ⟨{ State.reset with msi := 160, asc := { State.reset.asc with phase := 1, stop := 7 } }, by decide⟩

/-- The hypotheses of RenderEventsAtBoundaries, clause 7, are met together. -/
theorem witness_RenderEventsAtBoundaries_7 :
    ∃ (s : State),
      (s.asc.phase = 2 ∧ s.asc.start + 66 ≤ blk s) :=
  ⟨{ State.reset with msi := 1600, asc := { State.reset.asc with phase := 2, start := 7 } }, by decide⟩

/-- The hypotheses of FramesReceivedIntoRings, clause 1, are met together. -/
theorem witness_FramesReceivedIntoRings_1 :
    ∃ (p : Fin 4) (inp : RxIn) (s : State),
      (getF s (F.NET_CFG_MODE p.val) ≠ 0 ∧ linkUp s p.val = true ∧ inp.bytes.length ≤ 63) :=
  ⟨2, ⟨[], 0, 0, 0⟩, setF (setF State.reset (F.NET_CFG_MODE 2) 4) (F.NET_LINK_STATE 2) 2, by decide⟩

set_option maxRecDepth 100000 in
/-- The hypotheses of FramesReceivedIntoRings, clause 2, are met together. -/
theorem witness_FramesReceivedIntoRings_2 :
    ∃ (p : Fin 4) (r : Fin 4) (inp : RxIn) (s : State) (u : State) (b : List Byte),
      (getF s (F.NET_CFG_MODE p.val) ≠ 0 ∧ linkUp s p.val = true) ∧ (64 ≤ inp.bytes.length ∧ inp.bytes.length ≤ getF s (F.NET_MAXFRM_MAXFRM p.val) ∧ fcsOk inp.bytes = true) ∧ (addressOk s p.val (beAt inp.bytes 0 6) = true ∧ bit (getF s F.BST_MAP_MAP) (21 + p.val) = false) ∧ (u = cnt s (R.NET_RX_FRAMES p.val) ∧ b = inp.bytes.take (inp.bytes.length - 4)) ∧ (classify u p.val (parseFrame b) = .ring r.val ∧ getF s (F.NET_RR_CFG_SIZE p.val r.val) ≠ 0) ∧ (inp.fifoRing + b.length ≤ 65536 ∧ b.length ≤ bufBytes s p.val r.val ∧ b.length < 4096) ∧ (rrFree s p.val r.val ≠ 0 ∧ getF s (F.NET_RR_STATE_NOBUF p.val r.val) = 0) :=
  ⟨2, 2, ⟨List.replicate 12 255 ++ [0x88, 0xCC] ++ List.replicate 46 0 ++ leBytes 4 (crc32 (List.replicate 12 255 ++ [0x88, 0xCC] ++ List.replicate 46 0)), 0, 0, 0⟩, setF (setF (setF (setF State.reset (F.NET_CFG_MODE 2) 4) (F.NET_LINK_STATE 2) 2) (F.NET_RR_CFG_SIZE 2 2) 16) (F.NET_RR_TAIL_INDEX 2 2) 16, cnt (setF (setF (setF (setF State.reset (F.NET_CFG_MODE 2) 4) (F.NET_LINK_STATE 2) 2) (F.NET_RR_CFG_SIZE 2 2) 16) (F.NET_RR_TAIL_INDEX 2 2) 16) (R.NET_RX_FRAMES 2), List.replicate 12 255 ++ [0x88, 0xCC] ++ List.replicate 46 0, by decide⟩

/-- The hypotheses of FramesReceivedIntoRings, clause 3, are met together. -/
theorem witness_FramesReceivedIntoRings_3 :
    ∃ (p : Fin 4) (badSpeed : Bool) (anDone : Bool) (s : State),
      (getF s (F.NET_CFG_MODE p.val) ≠ 0 ∧ linkUp s p.val = false ∧ (getF s (F.NET_CFG_MODE p.val) = 5 → badSpeed = false)) ∧ (getF s (F.NET_CFG_MODE p.val) = 4 → getF s (F.NET_CFG_AN_EN p.val) = 1 → anDone = true) :=
  ⟨2, false, true, setF State.reset (F.NET_CFG_MODE 2) 5, by decide⟩

/-- The hypotheses of FramesReceivedIntoRings, clause 4, are met together. -/
theorem witness_FramesReceivedIntoRings_4 :
    ∃ (p : Fin 4) (s : State),
      (getF s (F.NET_CFG_MODE p.val) = 5 ∧ linkUp s p.val = false) :=
  ⟨2, setF State.reset (F.NET_CFG_MODE 2) 5, by decide⟩

/-- The hypotheses of FramesReceivedIntoRings, clause 5, are met together. -/
theorem witness_FramesReceivedIntoRings_5 :
    ∃ (p : Fin 4) (s : State),
      (linkUp s p.val = true ∧ (∀ x, x ∈ (portOf s p.val).streams → x.ctx < 256) ∧ (∀ x, (portOf s p.val).sending = some x → 4 ≤ x.1)) :=
  ⟨2, setF State.reset (F.NET_LINK_STATE 2) 2, by decide, (fun x hx => by cases hx), (fun x hx => by cases hx)⟩

/-- The hypotheses of FramesReceivedIntoRings, clause 6, are met together. -/
theorem witness_FramesReceivedIntoRings_6 :
    ∃ (p : Fin 4) (s : State) (r : Nat) (n : Nat) (stop : Nat),
      (linkUp s p.val = true ∧ (portOf s p.val).sending = some (r, n, stop) ∧ r < 4 ∧ nowStamp s < stop) ∧ ((portOf s p.val).streams = [] ∧ (portOf s p.val).acks = [] ∧ (portOf s p.val).ladle = []) :=
  ⟨2, portMod 2 (fun q => { q with sending := some (1, 1, 100) }) (setF State.reset (F.NET_LINK_STATE 2) 2), 1, 1, 100, by decide⟩

/-- The hypotheses of FramesReceivedIntoRings, clause 7, are met together. -/
theorem witness_FramesReceivedIntoRings_7 :
    ∃ (p : Fin 4) (r : Fin 4) (v : Word) (s : State),
      (r.val ≠ 1) ∧ ((v.toNat % 8192 + 8192 - getF s (F.NET_RR_HEAD_INDEX p.val r.val)) % 8192 ≤ getF s (F.NET_RR_CFG_SIZE p.val r.val)) :=
  ⟨2, 3, 8#32, setF State.reset (F.NET_RR_CFG_SIZE 2 3) 16, by decide⟩

/-- The hypotheses of FramesReceivedIntoRings, clause 9, are met together. -/
theorem witness_FramesReceivedIntoRings_9 :
    ∃ (r : Fin 4) (v : Word) (s : State),
      (running s = false ∧ r.val ≠ 1 ∧ ringSizeOk (fget v 12 0) = true ∧ fget v 18 16 ≤ 3) :=
  ⟨3, 64#32, State.reset, by decide⟩

/-- The hypotheses of FramesReceivedIntoRings, clause 10, are met together. -/
theorem witness_FramesReceivedIntoRings_10 :
    ∃ (s : State),
      (running s = false) :=
  ⟨State.reset, by decide⟩

/-- The hypotheses of FramesReceivedIntoRings, clause 11, are met together. -/
theorem witness_FramesReceivedIntoRings_11 :
    ∃ (s : State),
      (running s = true) :=
  ⟨setF State.reset F.PAT_STATE_LIVE 1, by decide⟩

/-- The hypotheses of FramesSentAndGated, clause 1, are met together. -/
theorem witness_FramesSentAndGated_1 :
    ∃ (p : Fin 4) (r : Fin 4) (v : Word) (s : State),
      ((v.toNat % 8192 + 8192 - getF s (F.NET_TR_HEAD_INDEX p.val r.val)) % 8192 ≤ getF s (F.NET_TR_CFG_SIZE p.val r.val)) :=
  ⟨2, 3, 8#32, setF State.reset (F.NET_TR_CFG_SIZE 2 3) 16, by decide⟩

/-- The hypotheses of FramesSentAndGated, clause 2, are met together. -/
theorem witness_FramesSentAndGated_2 :
    ∃ (p : Fin 4) (stamp : BitVec 64) (s : State) (x : TxItem),
      (s.err.fatal = false ∧ bit (getF s F.BST_MAP_MAP) (21 + p.val) = false) ∧ ((portOf s p.val).streams = [] ∧ (portOf s p.val).ladle = [] ∧ (portOf s p.val).acks = [x] ∧ x.tc < 8) ∧ ((List.range 4).all (fun r => trAvail s p.val r == 0) = true ∧ getF s (F.NET_GCL_STATE_OPER_EN p.val) = 0) ∧ (linkUp s p.val = true ∧ gateOpen s = true ∧ getF s (F.NET_LINK_TX_LPI p.val) = 0) ∧ ((portOf s p.val).sending = none ∧ wakingAt s p.val stamp.toNat = false) :=
  ⟨2, 0, portMod 2 (fun q => { q with acks := [⟨3, 256, [1]⟩] }) (setF State.reset (F.NET_LINK_STATE 2) 2), ⟨3, 256, [1]⟩, by decide⟩

set_option maxRecDepth 100000 in
/-- The hypotheses of FramesSentAndGated, clause 3, are met together. -/
theorem witness_FramesSentAndGated_3 :
    ∃ (p : Fin 4) (r : Fin 4) (s : State) (i : Nat) (at_ : Nat),
      ((portOf s p.val).inside.find? (fun x => x.1 == r.val) = some (r.val, i, at_) ∧ at_ + 16 < s.msi) ∧ (trInside s p.val r.val = some i ∧ (trCount s p.val r.val).isSome = true) :=
  ⟨2, 3, { portMod 2 (fun q => { q with inside := [(3, 1, 0)] }) (setF (setF (wrWord72 State.reset dramBase 0 (2 ^ 46)) (F.NET_TR_CFG_SIZE 2 3) 16) (F.NET_TR_TAIL_INDEX 2 3) 2) with msi := 17 }, 1, 0, by decide⟩

/-- The hypotheses of FramesSentAndGated, clause 4, are met together. -/
theorem witness_FramesSentAndGated_4 :
    ∃ (p : Fin 4) (r : Fin 4) (s : State) (i : Nat) (at_ : Nat),
      ((portOf s p.val).inside.find? (fun x => x.1 == r.val) = some (r.val, i, at_) ∧ at_ + 16 < s.msi) ∧ (trInside s p.val r.val = some i ∧ trCount s p.val r.val = none) :=
  ⟨2, 3, { portMod 2 (fun q => { q with inside := [(3, 0, 0)] }) (setF State.reset (F.NET_TR_TAIL_INDEX 2 3) 1) with msi := 17 }, 0, 0, by decide⟩

/-- The hypotheses of FramesSentAndGated, clause 5, are met together. -/
theorem witness_FramesSentAndGated_5 :
    ∃ (p : Fin 4) (s : State),
      (isLate s (rd64 s (R.NET_GCL_MSI_LO p.val) (R.NET_GCL_MSI_HI p.val)) = false) ∧ ((portOf s p.val).gclPend = none ∧ gclRangeOk s p.val = true) :=
  ⟨2, setF (setF (setF (wrN State.reset (R.NET_GCL_MSI_LO 2) 16) (F.NET_GCL_CTL_LEN 2) 1) (F.NET_GCL_CYCLE_CYCLE 2) 1000) (F.NET_GCL_SHD_INTERVAL 2 0) 5, by decide⟩

/-- The hypotheses of FramesSentAndGated, clause 6, are met together. -/
theorem witness_FramesSentAndGated_6 :
    ∃ (p : Fin 4) (s : State) (k : Nat),
      ((portOf s p.val).gclPend = some k ∧ inTime s k = true) :=
  ⟨2, portMod 2 (fun q => { q with gclPend := some 9 }) State.reset, 9, by decide⟩

/-- The hypotheses of FramesSentAndGated, clause 7, are met together. -/
theorem witness_FramesSentAndGated_7 :
    ∃ (p : Fin 4) (s : State) (k : Nat),
      ((portOf s p.val).gclPend = some k ∧ due s k = true ∧ getF s (F.NET_GCL_CTL_LEN p.val) ≤ 256) :=
  ⟨2, setF (portMod 2 (fun q => { q with gclPend := some 1 }) State.reset) (F.NET_GCL_CTL_LEN 2) 2, 1, by decide⟩

/-- The hypotheses of FramesSentAndGated, clause 8, are met together. -/
theorem witness_FramesSentAndGated_8 :
    ∃ (p : Fin 4) (s : State),
      (getF s (F.NET_GCL_STATE_OPER_EN p.val) = 1 ∧ (portOf s p.val).operLen ≤ 256) ∧ (getF s (F.NET_GCL_STATE_ENTRY p.val) + 1 < (portOf s p.val).operLen) ∧ ((portOf s p.val).entryAt + getF s (F.NET_GCL_OPER_INTERVAL p.val (getF s (F.NET_GCL_STATE_ENTRY p.val))) < (portOf s p.val).operCycle) :=
  ⟨2, setF (setF (portMod 2 (fun q => { q with operLen := 3 }) State.reset) (F.NET_GCL_OPER_INTERVAL 2 0) 50) (F.NET_GCL_STATE_OPER_EN 2) 1, by decide⟩

/-- The hypotheses of FramesSentAndGated, clause 9, are met together. -/
theorem witness_FramesSentAndGated_9 :
    ∃ (p : Fin 4) (s : State),
      (getF s (F.NET_GCL_STATE_OPER_EN p.val) = 1 ∧ (portOf s p.val).operLen ≤ getF s (F.NET_GCL_STATE_ENTRY p.val) + 1) :=
  ⟨2, setF State.reset (F.NET_GCL_STATE_OPER_EN 2) 1, by decide⟩

/-- The hypotheses of FramesSentAndGated, clause 10, are met together. -/
theorem witness_FramesSentAndGated_10 :
    ∃ (p : Fin 4) (cycleNs : BitVec 64) (s : State),
      (3 ≤ getF s (F.NET_CFG_MODE p.val) ∧ getF s (F.NET_CFG_MODE p.val) ≤ 5 ∧ getF s (F.NET_CFG_LPI_EN p.val) = 1) ∧ (linkUp s p.val = true ∧ getF s (F.NET_LINK_TX_LPI p.val) = 0 ∧ txEmpty s p.val = true ∧ lpiClear s p.val cycleNs.toNat = true) :=
  ⟨2, 0, setF (setF (setF State.reset (F.NET_CFG_MODE 2) 4) (F.NET_LINK_STATE 2) 2) (F.NET_CFG_LPI_EN 2) 1, by decide⟩

/-- The hypotheses of FramesSentAndGated, clause 11, are met together. -/
theorem witness_FramesSentAndGated_11 :
    ∃ (p : Fin 4) (s : State),
      (getF s (F.NET_LINK_TX_LPI p.val) = 1) ∧ ((if getF s (F.NET_GCL_STATE_OPER_EN p.val) = 1 then opensSoon s p.val (queuedClasses s p.val ||| getF s (F.NET_EEE_WAKE_TCS p.val)) else queuedClasses s p.val != 0) = true) :=
  ⟨2, portMod 2 (fun q => { q with acks := [⟨3, 256, [1]⟩] }) (setF State.reset (F.NET_LINK_TX_LPI 2) 1), by decide⟩

set_option maxRecDepth 100000 in
/-- The hypotheses of StreamContextsTakePackets, clause 1, are met together. -/
theorem witness_StreamContextsTakePackets_1 :
    ∃ (c : Fin 256) (s : State),
      (isPair s = false ∧ getF s (F.STR_RX_CTL_EN c.val) = 0 ∧ getF s (F.STR_RX_STATE_STATE c.val) = 0) ∧ (rxRefusal s c.val = none) :=
  ⟨3, State.reset, by decide⟩

/-- The hypotheses of StreamContextsTakePackets, clause 2, are met together. -/
theorem witness_StreamContextsTakePackets_2 :
    ∃ (c : Fin 256) (s : State) (r : Nat),
      (isPair s = false ∧ getF s (F.STR_RX_CTL_EN c.val) = 0 ∧ getF s (F.STR_RX_STATE_STATE c.val) = 0) ∧ (rxRefusal s c.val = some r) :=
  ⟨3, setF State.reset (F.STR_RX_LINK_L 3) 1, 5, by decide⟩

/-- The hypotheses of StreamContextsTakePackets, clause 3, are met together. -/
theorem witness_StreamContextsTakePackets_3 :
    ∃ (c : Fin 256) (s : State),
      (isPair s = false ∧ getF s (F.STR_RX_CTL_EN c.val) = 1) :=
  ⟨3, setF State.reset (F.STR_RX_CTL_EN 3) 1, by decide⟩

set_option maxRecDepth 100000 in
/-- The hypotheses of StreamContextsTakePackets, clause 4, are met together. -/
theorem witness_StreamContextsTakePackets_4 :
    ∃ (c : Fin 256) (s : State),
      (isPair s = false ∧ getF s (F.STR_TX_CTL_EN c.val) = 0 ∧ getF s (F.STR_TX_STATE_STATE c.val) = 0) ∧ (txRefusal s c.val = none) :=
  ⟨3, State.reset, by decide⟩

/-- The hypotheses of StreamContextsTakePackets, clause 5, are met together. -/
theorem witness_StreamContextsTakePackets_5 :
    ∃ (c : Fin 256) (s : State),
      (isPair s = false ∧ getF s (F.STR_TX_CTL_EN c.val) = 1) :=
  ⟨3, setF State.reset (F.STR_TX_CTL_EN 3) 1, by decide⟩

set_option maxRecDepth 100000 in
/-- The hypotheses of StreamContextsTakePackets, clause 6, are met together. -/
theorem witness_StreamContextsTakePackets_6 :
    ∃ (c : Fin 256) (s : State) (a : StrArrival) (rest : List StrArrival) (p : StrPkt) (first : Int) (less : Int),
      (aGet (fun _ => []) s.net.arrivals c.val = a :: rest ∧ getF s (F.STR_RX_STATE_STATE c.val) ≠ 0) ∧ (a.leg = false ∧ parsePkt s c.val (parseFrame a.bytes) = some p) ∧ (getF s (F.STR_RX_CFG_CLAIM_EN c.val) = 0 ∧ (rxOf s c.val).seqA = none ∧ (rxOf s c.val).frames = []) ∧ (first = sourceTime s c.val p.ts + rxSpan s c.val + 16 * getF s (F.STR_RX_LINK_L c.val) + 32 ∧ less = (if ctxNonLocked s c.val then 0 else 32)) ∧ ((16 * (blk s + 1) : Int) ≤ first - less ∧ first - less + rxSpan s c.val - 1 < (s.msi : Int) + bufFrames s ∧ 1 ≤ rxSpan s c.val) :=
  ⟨3, { setF (setF (setF (setF (setF State.reset (F.STR_RX_CFG_RATE 3) 1) (F.STR_RX_STATE_STATE 3) 1) (F.STR_RX_CFG_FMT 3) 0) (F.STR_RX_HDR_PT 3) 0) (F.STR_RX_CFG_CH 3) 0 with net := { State.reset.net with arrivals := [(3, [⟨false, udpFrame State.reset 0 false 0 0 0 0 ([0x80, 0, 0, 5, 0, 0, 0, 100, 0, 0, 0, 0] ++ List.replicate 24 0)⟩])] } }, ⟨false, udpFrame State.reset 0 false 0 0 0 0 ([0x80, 0, 0, 5, 0, 0, 0, 100, 0, 0, 0, 0] ++ List.replicate 24 0)⟩, [], { seq := 5, ts := 100, claim := 0, silent := 0, payload := List.replicate 24 0 }, 176, 32, by decide⟩

/-- The hypotheses of StreamContextsTakePackets, clause 7, are met together. -/
theorem witness_StreamContextsTakePackets_7 :
    ∃ (c : Fin 256) (s : State),
      (getF s (F.STR_RX_STATE_STATE c.val) = 2 ∧ tmoOver s c.val (rxOf s c.val).last = true) :=
  ⟨3, setF State.reset (F.STR_RX_STATE_STATE 3) 2, by decide⟩

/-- The hypotheses of StreamContextsTakePackets, clause 8, are met together. -/
theorem witness_StreamContextsTakePackets_8 :
    ∃ (c : Fin 256) (s : State),
      (tmoOver s c.val (rxOf s c.val).lastHeld = true) :=
  ⟨3, setF State.reset (F.STR_RX_STATE_HELD 3) 7, by decide⟩

/-- The hypotheses of StreamContextsTakePackets, clause 9, are met together. -/
theorem witness_StreamContextsTakePackets_9 :
    ∃ (c : Fin 256) (s : State),
      ((txOf s c.val).held.filter (fun p => p.built + 2 ≤ blk s + 1) ≠ []) :=
  ⟨3, { txMod 3 (fun x => { x with held := [⟨0, 0, 5, 0, []⟩] }) State.reset with msi := 160 }, by decide⟩

/-- The hypotheses of PatternsLoadAndArm, clause 1, are met together. -/
theorem witness_PatternsLoadAndArm_1 :
    ∃ (s : State),
      (loaderBusy s = false ∧ loaderOut s = false) ∧ (stg s = 0 ∨ stg s = 3) :=
  ⟨State.reset, by decide⟩

/-- The hypotheses of PatternsLoadAndArm, clause 2, are met together. -/
theorem witness_PatternsLoadAndArm_2 :
    ∃ (k : Fin 4) (s : State),
      (loaderBusy s = false ∧ loaderOut s = false ∧ getF s (F.PAT_SLOT_VALID k.val) ≠ 0) ∧ (stg s = 0 ∨ stg s = 3) :=
  ⟨2, setF State.reset (F.PAT_SLOT_VALID 2) 1, by decide⟩

/-- The hypotheses of PatternsLoadAndArm, clause 3, are met together. -/
theorem witness_PatternsLoadAndArm_3 :
    ∃ (s : State) (bs : List Byte) (len : Nat),
      (loadStream s = some (bs, len)) :=
  ⟨{ State.reset with pat := { PatState.reset with busy := some (.load 5 0) } }, rdPacked State.reset dramBase 5 64, 0, by decide⟩

/-- The hypotheses of PatternsLoadAndArm, clause 4, are met together. -/
theorem witness_PatternsLoadAndArm_4 :
    ∃ (s : State),
      (loaderBusy s = false ∧ loaderOut s = false ∧ stg s = 2 ∧ running s = true) :=
  ⟨setF (setF State.reset F.PAT_STATE_LIVE 1) F.PAT_STATE_STG 2, by decide⟩

/-- The hypotheses of PatternsLoadAndArm, clause 5, are met together. -/
theorem witness_PatternsLoadAndArm_5 :
    ∃ (s : State),
      (loaderBusy s = false ∧ loaderOut s = false ∧ stg s = 2 ∧ running s = false) ∧ ((stagedPat s).regset = [] ∧ s.pat.live = none) :=
  ⟨setF State.reset F.PAT_STATE_STG 2, by decide⟩

/-- The hypotheses of PatternsLoadAndArm, clause 6, are met together. -/
theorem witness_PatternsLoadAndArm_6 :
    ∃ (s : State),
      (s.pat.busy = some .arm) :=
  ⟨{ State.reset with pat := { PatState.reset with busy := some .arm } }, by decide⟩

set_option maxRecDepth 100000 in
/-- The hypotheses of PoursStopsAndDiscards, clause 1, are met together. -/
theorem witness_PoursStopsAndDiscards_1 :
    ∃ (s : State),
      (isPair s = false ∧ loaderBusy s = false ∧ stg s = 5 ∧ mediaLocked s = true) ∧ (blk s + 1 ≤ pourCut s (stagedPat s) (ceil16 (rd64 s R.PAT_MSI_LO R.PAT_MSI_HI))) ∧ ((stagedPat s).mtb = followTb s ∨ tbUsable s (stagedPat s).mtb = true) :=
  ⟨{ setF (setF (setF (wrN State.reset R.PAT_MSI_LO 160) F.PAT_STATE_STG 5) F.TSU_ML_STATE_SEATED 1) F.TSU_ML_STATE_STATE 2 with pat := { PatState.reset with staged := some { Pattern.empty with rate := 1 } } }, by decide⟩

/-- The hypotheses of PoursStopsAndDiscards, clause 2, are met together. -/
theorem witness_PoursStopsAndDiscards_2 :
    ∃ (s : State),
      (isPair s = false ∧ loaderBusy s = false ∧ running s = true ∧ s.pat.stop = none ∧ s.pat.pour = none) ∧ (isLate s (rd64 s R.PAT_MSI_LO R.PAT_MSI_HI) = false) :=
  ⟨setF (wrN State.reset R.PAT_MSI_LO 160) F.PAT_STATE_LIVE 1, by decide⟩

/-- The hypotheses of PoursStopsAndDiscards, clause 3, are met together. -/
theorem witness_PoursStopsAndDiscards_3 :
    ∃ (s : State),
      (s.pat.pour = none) :=
  ⟨State.reset, by decide⟩

/-- The hypotheses of PoursStopsAndDiscards, clause 4, are met together. -/
theorem witness_PoursStopsAndDiscards_4 :
    ∃ (s : State) (p : PourPend),
      (isPair s = false ∧ running s = false ∧ s.pat.pour = some p ∧ inTime s p.cut = true) :=
  ⟨{ State.reset with pat := { PatState.reset with pour := some ⟨9, 9, .pcie, true⟩ } }, ⟨9, 9, .pcie, true⟩, by decide⟩

set_option maxRecDepth 100000 in
/-- The hypotheses of AmendmentsStageAndApply, clause 1, are met together. -/
theorem witness_AmendmentsStageAndApply_1 :
    ∃ (via : Src) (s : State) (u : State) (bs : List Byte) (p : Pattern),
      (isPair s = false ∧ s.pat.amend = none ∧ loaderBusy s = false ∧ loaderOut s = false ∧ running s = true) ∧ (isLate s (rd64 s R.PAT_MSI_LO R.PAT_MSI_HI) = false ∧ blk s + 2 ≤ ceil16 (rd64 s R.PAT_MSI_LO R.PAT_MSI_HI)) ∧ (bs = rdPacked s dramBase (rdN s R.PAT_SRC) (max (rdN s R.PAT_LEN) 32) ∧ u = journalReg via R.PAT_CMD 7 s) ∧ (amendCheck u bs (rdN s R.PAT_LEN) = .ok p) ∧ (p.coefs = none ∧ amendClash u p = false ∧ getF s F.PAT_STATE_AMD_PEND = 0 ∧ s.err.fatal = false) :=
  ⟨.pcie, setF (wrN (wrN (wrPacked State.reset dramBase 0 ([70, 77, 65, 77, 1, 1, 32, 0, 48, 0, 0, 0, 7] ++ List.replicate 15 0 ++ [17, 25, 235, 45, 255, 255] ++ List.replicate 10 0 ++ [54, 210, 201, 232])) R.PAT_LEN 48) R.PAT_MSI_LO 160) F.PAT_STATE_LIVE 1, journalReg .pcie R.PAT_CMD 7 (setF (wrN (wrN (wrPacked State.reset dramBase 0 ([70, 77, 65, 77, 1, 1, 32, 0, 48, 0, 0, 0, 7] ++ List.replicate 15 0 ++ [17, 25, 235, 45, 255, 255] ++ List.replicate 10 0 ++ [54, 210, 201, 232])) R.PAT_LEN 48) R.PAT_MSI_LO 160) F.PAT_STATE_LIVE 1), [70, 77, 65, 77, 1, 1, 32, 0, 48, 0, 0, 0, 7] ++ List.replicate 15 0 ++ [17, 25, 235, 45, 255, 255] ++ List.replicate 10 0 ++ [54, 210, 201, 232], { Pattern.empty with totalLen := 48, totalCrc := 3905540662 }, by decide, by decide, by decide, ok_of_match _ _ (by decide), by decide⟩

/-- The hypotheses of AmendmentsStageAndApply, clause 2, are met together. -/
theorem witness_AmendmentsStageAndApply_2 :
    ∃ (s : State) (j : ConvJob),
      (s.pat.conv = some j ∧ j.endBlock ≤ blk s ∧ s.pat.amend = none) :=
  ⟨{ State.reset with pat := { PatState.reset with conv := some ⟨[3], 0, true, 0⟩ } }, ⟨[3], 0, true, 0⟩, by decide⟩

set_option maxRecDepth 100000 in
/-- The hypotheses of AmendmentsStageAndApply, clause 3, are met together. -/
theorem witness_AmendmentsStageAndApply_3 :
    ∃ (s : State) (j : ConvJob) (a : AmendPend),
      (s.pat.conv = some j ∧ j.endBlock ≤ blk s ∧ s.pat.amend = some a ∧ a.decided = true ∧ blk s + 2 ≤ a.block) ∧ (getF s F.PAT_STATE_AMD_PEND = 0 ∧ s.err.fatal = false) :=
  ⟨{ State.reset with pat := { PatState.reset with conv := some ⟨[3], 0, true, 0⟩, amend := some ⟨9, 5, 1, .pcie, true, Pattern.empty, false⟩ } }, ⟨[3], 0, true, 0⟩, ⟨9, 5, 1, .pcie, true, Pattern.empty, false⟩, by decide⟩

set_option maxRecDepth 100000 in
/-- The hypotheses of AmendmentsStageAndApply, clause 4, are met together. -/
theorem witness_AmendmentsStageAndApply_4 :
    ∃ (s : State) (a : AmendPend),
      (s.pat.amend = some a ∧ due s (a.block - 1) = true ∧ (a.staged && a.decided) = false ∧ s.flk.undecided = []) :=
  ⟨{ State.reset with pat := { PatState.reset with amend := some ⟨2, 5, 1, .pcie, true, Pattern.empty, false⟩ } }, ⟨2, 5, 1, .pcie, true, Pattern.empty, false⟩, by decide⟩

set_option maxRecDepth 100000 in
/-- The hypotheses of AmendmentsStageAndApply, clause 5, are met together. -/
theorem witness_AmendmentsStageAndApply_5 :
    ∃ (s : State) (a : AmendPend),
      (s.pat.amend = some a ∧ due s a.block = true ∧ getF s F.PAT_STATE_AMD_PEND = 1) :=
  ⟨{ setF State.reset F.PAT_STATE_AMD_PEND 1 with pat := { PatState.reset with amend := some ⟨1, 5, 1, .pcie, true, Pattern.empty, true⟩ } }, ⟨1, 5, 1, .pcie, true, Pattern.empty, true⟩, by decide⟩

/-- The hypotheses of SlotsStoreAndAutoPour, clause 1, are met together. -/
theorem witness_SlotsStoreAndAutoPour_1 :
    ∃ (s : State),
      (loaderBusy s = false ∧ loaderOut s = false ∧ s.pat.stagedBytes.length ≤ 13 * 1048576) ∧ (stg s = 2 ∨ stg s = 5) :=
  ⟨setF State.reset F.PAT_STATE_STG 2, by decide⟩

/-- The hypotheses of SlotsStoreAndAutoPour, clause 2, are met together. -/
theorem witness_SlotsStoreAndAutoPour_2 :
    ∃ (s : State) (k : Fin 4),
      (s.pat.busy = some (.store k.val) ∧ s.pat.stagedBytes.length ≤ 13 * 1048576) :=
  ⟨{ State.reset with pat := { PatState.reset with busy := some (.store 2), stagedBytes := [1, 2] } }, 2, by decide⟩

/-- The hypotheses of SlotsStoreAndAutoPour, clause 3, are met together. -/
theorem witness_SlotsStoreAndAutoPour_3 :
    ∃ (s : State),
      (loaderBusy s = false) :=
  ⟨State.reset, by decide⟩

/-- The hypotheses of SlotsStoreAndAutoPour, clause 4, are met together. -/
theorem witness_SlotsStoreAndAutoPour_4 :
    ∃ (s : State),
      (loaderBusy s = false) :=
  ⟨State.reset, by decide⟩

/-- The hypotheses of SlotsStoreAndAutoPour, clause 5, are met together. -/
theorem witness_SlotsStoreAndAutoPour_5 :
    ∃ (s : State),
      (loaderBusy s = false) :=
  ⟨State.reset, by decide⟩

set_option maxRecDepth 100000 in
/-- The hypotheses of SlotsStoreAndAutoPour, clause 6, are met together. -/
theorem witness_SlotsStoreAndAutoPour_6 :
    ∃ (s : State) (k : Nat),
      (autoSlot s = some k ∧ s.pat.autoDone = false ∧ running s = false ∧ getF s (F.PAT_SLOT_VALID k) = 1) ∧ (s.err.startupHold = false ∧ mediaLocked s = true ∧ loaderBusy s = false ∧ loaderOut s = false ∧ stg s = 0) :=
  ⟨{ setF (setF (setF (setF State.reset (F.PAT_SLOT_AUTO 2) 1) (F.PAT_SLOT_VALID 2) 1) F.TSU_ML_STATE_SEATED 1) F.TSU_ML_STATE_STATE 2 with err := { State.reset.err with startupHold := false } }, 2, by decide⟩

set_option maxRecDepth 100000 in
/-- The hypotheses of PourAndStopTakeEffect, clause 1, are met together. -/
theorem witness_PourAndStopTakeEffect_1 :
    ∃ (s : State) (p : PourPend),
      (s.pat.pour = some p ∧ p.decided = true ∧ s.flk.join = none ∧ due s p.cut = true ∧ s.err.fatal = false) ∧ (running s = false ∧ s.pat.regsetDone = true ∧ s.pat.stop = none) ∧ (pourRate s (stagedPat s) = false ∧ (stagedPat s).mtb = followTb s) :=
  ⟨{ State.reset with pat := { PatState.reset with pour := some ⟨1, 1, .pcie, true⟩, staged := some { Pattern.empty with rate := 1 }, regsetDone := true } }, ⟨1, 1, .pcie, true⟩, by decide⟩

/-- The hypotheses of PourAndStopTakeEffect, clause 2, are met together. -/
theorem witness_PourAndStopTakeEffect_2 :
    ∃ (s : State) (k : StopPend),
      (s.pat.stop = some k ∧ k.decided = true ∧ k.begun = false ∧ due s k.block = true) :=
  ⟨{ State.reset with pat := { PatState.reset with stop := some ⟨1, .pcie, true, false⟩ } }, ⟨1, .pcie, true, false⟩, by decide⟩

/-- The hypotheses of PourAndStopTakeEffect, clause 3, are met together. -/
theorem witness_PourAndStopTakeEffect_3 :
    ∃ (s : State) (k : StopPend),
      (s.pat.stop = some k ∧ k.begun = true ∧ due s (k.block + 6) = true) :=
  ⟨{ State.reset with pat := { PatState.reset with stop := some ⟨1, .pcie, true, true⟩ }, msi := 160 }, ⟨1, .pcie, true, true⟩, by decide⟩

set_option maxRecDepth 100000 in
/-- The hypotheses of PourAndStopTakeEffect, clause 4, are met together. -/
theorem witness_PourAndStopTakeEffect_4 :
    ∃ (s : State) (j : Nat) (p : PourPend),
      (s.flk.join = some j ∧ s.pat.pour = some p ∧ due s p.cut = true ∧ s.pat.regsetDone = true) ∧ (s.flk.snap = [] ∧ s.flk.replay = [] ∧ s.flk.held = []) :=
  ⟨{ State.reset with pat := { PatState.reset with pour := some ⟨1, 1, .pcie, true⟩, regsetDone := true }, flk := { State.reset.flk with join := some 1 } }, 1, ⟨1, 1, .pcie, true⟩, by decide⟩

/-- The hypotheses of ResetCauseRule, clause 2, are met together. -/
theorem witness_ResetCauseRule_2 :
    ∃ (c : Instr) (own : Fld),
      ((c, own) ∈ [(.resetPin, F.SYS_RST_CAUSE_PIN), (.sysRstCore, F.SYS_RST_CAUSE_SW_CORE), (.sysRstFull, F.SYS_RST_CAUSE_SW_FULL), (.thermalShutdown, F.SYS_RST_CAUSE_THERM)]) :=
  ⟨.resetPin, F.SYS_RST_CAUSE_PIN, by decide⟩

/-- The hypotheses of FlaskFramesAndPeer, clause 1, are met together. -/
theorem witness_FlaskFramesAndPeer_1 :
    ∃ (f : FlkFrame) (s : State),
      (isPair s = true ∧ (if f.lane = 0 then getF s F.FLK_STATE_LANE0 else getF s F.FLK_STATE_LANE1) = 1 ∧ frameOk f = false) :=
  ⟨{ frameOf 5 .snapReq with crcOk := false }, setF (setF State.reset F.CLM_CFG_EN 1) F.FLK_STATE_LANE0 1, by decide⟩

/-- The hypotheses of FlaskFramesAndPeer, clause 2, are met together. -/
theorem witness_FlaskFramesAndPeer_2 :
    ∃ (f : FlkFrame) (s : State),
      (isPair s = true ∧ (if f.lane = 0 then getF s F.FLK_STATE_LANE0 else getF s F.FLK_STATE_LANE1) = 1 ∧ frameOk f = true) ∧ (flkUp s = true ∧ s.flk.ahead = [] ∧ f.lseq = (s.flk.rxLseq + 1) % 2 ^ 32) :=
  ⟨(frameOf 1 .snapReq), setF (setF (setF State.reset F.CLM_CFG_EN 1) F.FLK_STATE_LANE0 1) F.FLK_STATE_LINK 1, by decide⟩

/-- The hypotheses of FlaskFramesAndPeer, clause 3, are met together. -/
theorem witness_FlaskFramesAndPeer_3 :
    ∃ (f : FlkFrame) (s : State),
      (isPair s = true ∧ (if f.lane = 0 then getF s F.FLK_STATE_LANE0 else getF s F.FLK_STATE_LANE1) = 1 ∧ frameOk f = true) ∧ (flkUp s = true ∧ s.flk.ahead = [] ∧ lseqAfter f.lseq s.flk.rxLseq = true ∧ f.lseq ≠ (s.flk.rxLseq + 1) % 2 ^ 32) :=
  ⟨(frameOf 2 .snapReq), setF (setF (setF State.reset F.CLM_CFG_EN 1) F.FLK_STATE_LANE0 1) F.FLK_STATE_LINK 1, by decide⟩

set_option maxRecDepth 100000 in
/-- The hypotheses of FlaskFramesAndPeer, clause 4, are met together. -/
theorem witness_FlaskFramesAndPeer_4 :
    ∃ (s : State) (f : FlkFrame) (rest : List FlkFrame) (rank : Nat) (rev : Nat) (patId : Nat) (crc : Nat) (role : Nat) (ep : Nat),
      (s.flk.inbox = f :: rest ∧ f.payload = .hello rank rev patId crc role ep ∧ (isStandby s = false ∨ role = s.flk.peerRole)) :=
  ⟨{ State.reset with flk := { FlkState.reset with inbox := [(frameOf 1 (.hello 1 2 3 4 3 6))] } }, (frameOf 1 (.hello 1 2 3 4 3 6)), [], 1, 2, 3, 4, 3, 6, by decide⟩

set_option maxRecDepth 100000 in
/-- The hypotheses of FlaskFramesAndPeer, clause 5, are met together. -/
theorem witness_FlaskFramesAndPeer_5 :
    ∃ (s : State) (f : FlkFrame) (rest : List FlkFrame) (h : Heartbeat),
      (s.flk.inbox = f :: rest ∧ f.payload = .heartbeat h ∧ isStandby s = false) :=
  ⟨{ State.reset with flk := { FlkState.reset with inbox := [(frameOf 1 (.heartbeat ⟨5, 3, 6, none, 0, [], [], 0, [], [], 0, 0⟩))] } }, (frameOf 1 (.heartbeat ⟨5, 3, 6, none, 0, [], [], 0, [], [], 0, 0⟩)), [], ⟨5, 3, 6, none, 0, [], [], 0, [], [], 0, 0⟩, by decide⟩

set_option maxRecDepth 100000 in
/-- The hypotheses of FlaskFramesAndPeer, clause 6, are met together. -/
theorem witness_FlaskFramesAndPeer_6 :
    ∃ (s : State) (f : FlkFrame) (rest : List FlkFrame) (h : Heartbeat) (d : Int),
      (s.flk.inbox = f :: rest ∧ f.payload = .heartbeat h ∧ isStandby s = true ∧ sync s = 5 ∧ h.role = s.flk.peerRole) ∧ (h.scale = none ∧ h.tbs = [] ∧ h.confirms = [] ∧ h.discards = []) ∧ (d = h.stamp - (tbOf s (followTb s)).time / 2 ^ 32 - ((f.block : Int) - blk s) * blockSpan s) ∧ (d.natAbs ≤ 2000 * 2 ^ 16 ∧ ((f.block : Int) - blk s).natAbs ≤ 1) ∧ (digestDiff s (f.block - 4) h.digests = some 0 ∧ 63 ≤ s.flk.equalRun) :=
  ⟨{ setF (setF (setF State.reset F.CLM_CFG_EN 1) F.CLM_STATE_ROLE 2) F.FLK_STATE_SYNC 5 with flk := { FlkState.reset with peerRole := 3, equalRun := 63, digests := [(0, [])], inbox := [(frameOf 1 (.heartbeat ⟨5, 3, 6, none, 0, [], [], 0, [], [], 0, 0⟩))] } }, (frameOf 1 (.heartbeat ⟨5, 3, 6, none, 0, [], [], 0, [], [], 0, 0⟩)), [], ⟨5, 3, 6, none, 0, [], [], 0, [], [], 0, 0⟩, 0, by decide⟩

/-- The hypotheses of FlaskFramesAndPeer, clause 7, are met together. -/
theorem witness_FlaskFramesAndPeer_7 :
    ∃ (s : State),
      (flkUp s = true ∧ 3 ≤ s.flk.hbMiss ∧ isStandby s = false) :=
  ⟨{ setF State.reset F.FLK_STATE_LINK 1 with flk := { FlkState.reset with hbMiss := 3 } }, by decide⟩

set_option maxRecDepth 100000 in
/-- The hypotheses of FlaskFramesAndPeer, clause 8, are met together. -/
theorem witness_FlaskFramesAndPeer_8 :
    ∃ (s : State),
      (flkUp s = true ∧ 3 ≤ s.flk.hbMiss ∧ isStandby s = true ∧ sync s = 6) :=
  ⟨{ setF (setF (setF (setF State.reset F.CLM_CFG_EN 1) F.CLM_STATE_ROLE 2) F.FLK_STATE_SYNC 6) F.FLK_STATE_LINK 1 with flk := { FlkState.reset with hbMiss := 3 } }, by decide⟩

/-- The hypotheses of FlaskFramesAndPeer, clause 9, are met together. -/
theorem witness_FlaskFramesAndPeer_9 :
    ∃ (lane : Fin 2) (s : State),
      (getF s (if lane.val = 0 then F.FLK_STATE_LANE0 else F.FLK_STATE_LANE1) = 1) :=
  ⟨1, setF State.reset F.FLK_STATE_LANE1 1, by decide⟩

set_option maxRecDepth 100000 in
/-- The hypotheses of MirroredItemsDecide, clause 1, are met together. -/
theorem witness_MirroredItemsDecide_1 :
    ∃ (s : State) (f : FlkFrame) (rest : List FlkFrame) (id : Nat) (off : Nat) (v : Nat),
      (s.flk.inbox = f :: rest ∧ f.payload = .mirror [(id, .regWrite off v)] ∧ isStandby s = true ∧ heldOf s id = none) :=
  ⟨{ setF (setF State.reset F.CLM_CFG_EN 1) F.CLM_STATE_ROLE 2 with flk := { FlkState.reset with inbox := [(frameOf 1 (.mirror [(7, .regWrite 16 5)]))] } }, (frameOf 1 (.mirror [(7, .regWrite 16 5)])), [], 7, 16, 5, by decide⟩

set_option maxRecDepth 100000 in
/-- The hypotheses of MirroredItemsDecide, clause 2, are met together. -/
theorem witness_MirroredItemsDecide_2 :
    ∃ (s : State) (f : FlkFrame) (rest : List FlkFrame) (id : Nat) (k : Nat),
      (s.flk.inbox = f :: rest ∧ f.payload = .mirror [(id, .stop k)] ∧ isStandby s = true ∧ heldOf s id = none ∧ k ≤ blk s) :=
  ⟨{ setF (setF State.reset F.CLM_CFG_EN 1) F.CLM_STATE_ROLE 2 with flk := { FlkState.reset with inbox := [(frameOf 1 (.mirror [(7, .stop 0)]))] } }, (frameOf 1 (.mirror [(7, .stop 0)])), [], 7, 0, by decide⟩

set_option maxRecDepth 100000 in
/-- The hypotheses of MirroredItemsDecide, clause 3, are met together. -/
theorem witness_MirroredItemsDecide_3 :
    ∃ (s : State) (f : FlkFrame) (rest : List FlkFrame) (id : Nat) (k : Nat),
      (s.flk.inbox = f :: rest ∧ f.payload = .mirror [(id, .stop k)] ∧ isStandby s = true ∧ heldOf s id = none ∧ blk s < k) ∧ (running s = true) :=
  ⟨{ setF (setF (setF State.reset F.CLM_CFG_EN 1) F.CLM_STATE_ROLE 2) F.PAT_STATE_LIVE 1 with flk := { FlkState.reset with inbox := [(frameOf 1 (.mirror [(7, .stop 9)]))] } }, (frameOf 1 (.mirror [(7, .stop 9)])), [], 7, 9, by decide⟩

set_option maxRecDepth 100000 in
/-- The hypotheses of MirroredItemsDecide, clause 4, are met together. -/
theorem witness_MirroredItemsDecide_4 :
    ∃ (s : State) (f : FlkFrame) (rest : List FlkFrame) (id : Nat) (off : Nat) (v : Nat) (dl : Option Nat),
      (s.flk.inbox = f :: rest ∧ f.payload = .commit [id] [] ∧ isActive s = true ∧ id ≠ 0) ∧ (undecidedOf s id = some ⟨id, .regWrite off v, dl⟩) :=
  ⟨{ setF (setF State.reset F.CLM_CFG_EN 1) F.CLM_STATE_ROLE 3 with flk := { FlkState.reset with inbox := [(frameOf 1 (.commit [7] []))], undecided := [⟨7, .regWrite 16 5, none⟩] } }, (frameOf 1 (.commit [7] [])), [], 7, 16, 5, none, by decide⟩

set_option maxRecDepth 100000 in
/-- The hypotheses of MirroredItemsDecide, clause 5, are met together. -/
theorem witness_MirroredItemsDecide_5 :
    ∃ (s : State) (f : FlkFrame) (rest : List FlkFrame) (id : Nat) (r : Nat) (k : Nat) (dl : Option Nat) (p : StopPend),
      (s.flk.inbox = f :: rest ∧ f.payload = .commit [] [(id, r)] ∧ isActive s = true) ∧ (undecidedOf s id = some ⟨id, .stop k, dl⟩ ∧ s.pat.stop = some p) :=
  ⟨{ setF (setF State.reset F.CLM_CFG_EN 1) F.CLM_STATE_ROLE 3 with flk := { FlkState.reset with inbox := [(frameOf 1 (.commit [] [(7, 0)]))], undecided := [⟨7, .stop 9, none⟩] }, pat := { PatState.reset with stop := some ⟨9, .pcie, false, false⟩ } }, (frameOf 1 (.commit [] [(7, 0)])), [], 7, 0, 9, none, ⟨9, .pcie, false, false⟩, by decide⟩

set_option maxRecDepth 100000 in
/-- The hypotheses of MirroredItemsDecide, clause 6, are met together. -/
theorem witness_MirroredItemsDecide_6 :
    ∃ (s : State) (f : FlkFrame) (rest : List FlkFrame) (id : Nat) (b : Nat) (off : Nat) (v : Nat),
      (s.flk.inbox = f :: rest ∧ f.payload = .confirm [(id, b)] ∧ isStandby s = true ∧ id ≠ 0 ∧ running s = true ∧ sync s ≠ 2 ∧ sync s ≠ 3) ∧ (heldOf s id = some ⟨id, .regWrite off v, false, none⟩) :=
  ⟨{ setF (setF (setF State.reset F.CLM_CFG_EN 1) F.CLM_STATE_ROLE 2) F.PAT_STATE_LIVE 1 with flk := { FlkState.reset with inbox := [(frameOf 1 (.confirm [(7, 3)]))], held := [⟨7, .regWrite 16 5, false, none⟩] } }, (frameOf 1 (.confirm [(7, 3)])), [], 7, 3, 16, 5, by decide⟩

set_option maxRecDepth 100000 in
/-- The hypotheses of MirroredItemsDecide, clause 7, are met together. -/
theorem witness_MirroredItemsDecide_7 :
    ∃ (s : State) (f : FlkFrame) (rest : List FlkFrame) (id : Nat) (k : Nat),
      (s.flk.inbox = f :: rest ∧ f.payload = .discard [id] ∧ isStandby s = true ∧ heldOf s id = some ⟨id, .stop k, false, none⟩) :=
  ⟨{ setF (setF State.reset F.CLM_CFG_EN 1) F.CLM_STATE_ROLE 2 with flk := { FlkState.reset with inbox := [(frameOf 1 (.discard [7]))], held := [⟨7, .stop 5, false, none⟩] } }, (frameOf 1 (.discard [7])), [], 7, 5, by decide⟩

set_option maxRecDepth 100000 in
/-- The hypotheses of MirroredItemsDecide, clause 8, are met together. -/
theorem witness_MirroredItemsDecide_8 :
    ∃ (s : State) (id : Nat) (k : Nat) (d : Nat) (p : StopPend),
      (s.flk.undecided = [⟨id, .stop k, some d⟩] ∧ due s d = true ∧ s.pat.stop = some p) :=
  ⟨{ State.reset with flk := { FlkState.reset with undecided := [⟨7, .stop 2, some 1⟩] }, pat := { PatState.reset with stop := some ⟨2, .pcie, false, false⟩ } }, 7, 2, 1, ⟨2, .pcie, false, false⟩, by decide⟩

set_option maxRecDepth 100000 in
/-- The hypotheses of MirroredItemsDecide, clause 9, are met together. -/
theorem witness_MirroredItemsDecide_9 :
    ∃ (s : State) (f : FlkFrame) (rest : List FlkFrame) (objs : List (Nat × Nat)) (outs : List (Nat × Nat)) (b : Nat) (own : SilNote),
      (s.flk.inbox = f :: rest ∧ f.payload = .silence objs outs ∧ s.flk.silenceFor = some b ∧ isStandby s = true) ∧ (b ≤ f.block ∧ s.flk.silOwn.find? (fun n => n.block == f.block) = some own) :=
  ⟨{ setF (setF State.reset F.CLM_CFG_EN 1) F.CLM_STATE_ROLE 2 with flk := { FlkState.reset with silenceFor := some 0, silOwn := [⟨0, [], []⟩], inbox := [(frameOf 1 (.silence [] []))] } }, (frameOf 1 (.silence [] [])), [], [], [], 0, ⟨0, [], []⟩, by decide⟩

/-- The hypotheses of StandbyResynchronises, clause 1, are met together. -/
theorem witness_StandbyResynchronises_1 :
    ∃ (s : State),
      (isStandby s = true ∧ sync s = 8) :=
  ⟨setF (setF (setF State.reset F.CLM_CFG_EN 1) F.CLM_STATE_ROLE 2) F.FLK_STATE_SYNC 8, by decide⟩

/-- The hypotheses of StandbyResynchronises, clause 2, are met together. -/
theorem witness_StandbyResynchronises_2 :
    ∃ (s : State),
      ((isStandby s && sync s == 8) = false) :=
  ⟨State.reset, by decide⟩

set_option maxRecDepth 100000 in
/-- The hypotheses of StandbyResynchronises, clause 3, are met together. -/
theorem witness_StandbyResynchronises_3 :
    ∃ (s : State) (f : FlkFrame) (rest : List FlkFrame),
      (s.flk.inbox = f :: rest ∧ f.payload = .snapReq ∧ isActive s = true) :=
  ⟨{ setF (setF State.reset F.CLM_CFG_EN 1) F.CLM_STATE_ROLE 3 with flk := { FlkState.reset with inbox := [(frameOf 1 .snapReq)] } }, (frameOf 1 .snapReq), [], by decide⟩

set_option maxRecDepth 100000 in
/-- The hypotheses of StandbyResynchronises, clause 4, are met together. -/
theorem witness_StandbyResynchronises_4 :
    ∃ (s : State) (f : FlkFrame) (rest : List FlkFrame) (parts : List SnapPart),
      (s.flk.inbox = f :: rest ∧ f.payload = .snapData parts ∧ sync s = 2) :=
  ⟨{ setF State.reset F.FLK_STATE_SYNC 2 with flk := { FlkState.reset with inbox := [(frameOf 1 (.snapData [.epoch 5]))] } }, (frameOf 1 (.snapData [.epoch 5])), [], [.epoch 5], by decide⟩

/-- The hypotheses of StandbyResynchronises, clause 5, are met together. -/
theorem witness_StandbyResynchronises_5 :
    ∃ (s : State) (f : FlkFrame) (rest : List FlkFrame) (b : Nat),
      (s.flk.inbox = f :: rest ∧ f.payload = .snapEnd b ∧ sync s = 2) :=
  ⟨{ setF State.reset F.FLK_STATE_SYNC 2 with flk := { FlkState.reset with inbox := [(frameOf 1 (.snapEnd 5))] } }, (frameOf 1 (.snapEnd 5)), [], 5, by decide⟩

/-- The hypotheses of StandbyResynchronises, clause 6, are met together. -/
theorem witness_StandbyResynchronises_6 :
    ∃ (s : State) (f : FlkFrame) (rest : List FlkFrame),
      (s.flk.inbox = f :: rest ∧ f.payload = .snapAbort ∧ s.flk.join = none) ∧ (sync s = 2 ∨ sync s = 3) :=
  ⟨{ setF State.reset F.FLK_STATE_SYNC 2 with flk := { FlkState.reset with inbox := [(frameOf 1 .snapAbort)] } }, (frameOf 1 .snapAbort), [], by decide⟩

/-- The hypotheses of StandbyResynchronises, clause 7, are met together. -/
theorem witness_StandbyResynchronises_7 :
    ∃ (s : State),
      (isStandby s = true ∧ sync s = 4 ∧ due s (s.flk.syncSince + (if rate96 s then 10240 else 11264)) = true) :=
  ⟨{ setF (setF (setF State.reset F.CLM_CFG_EN 1) F.CLM_STATE_ROLE 2) F.FLK_STATE_SYNC 4 with msi := 180000 }, by decide⟩

/-- The hypotheses of StandbyResynchronises, clause 8, are met together. -/
theorem witness_StandbyResynchronises_8 :
    ∃ (s : State),
      (isStandby s = true ∧ sync s = 5 ∧ s.flk.join = none) ∧ (s.flk.syncSince * 16 + getF s F.FLK_CFG_CONV_TMO * fsInt s ≤ s.msi + 16) :=
  ⟨{ setF (setF (setF State.reset F.CLM_CFG_EN 1) F.CLM_STATE_ROLE 2) F.FLK_STATE_SYNC 5 with msi := 96000 * 4096 }, by decide⟩

/-- The hypotheses of StandbyResynchronises, clause 9, are met together. -/
theorem witness_StandbyResynchronises_9 :
    ∃ (s : State),
      (isStandby s = true ∧ sync s = 8 ∧ flkUp s = true ∧ s.flk.syncSince * 16 + fsInt s ≤ s.msi + 16) :=
  ⟨{ setF (setF (setF (setF State.reset F.CLM_CFG_EN 1) F.CLM_STATE_ROLE 2) F.FLK_STATE_SYNC 8) F.FLK_STATE_LINK 1 with msi := 96000 }, by decide⟩

set_option maxRecDepth 100000 in
/-- The hypotheses of LadleRecordsAndBeats, clause 1, are met together. -/
theorem witness_LadleRecordsAndBeats_1 :
    ∃ (s : State) (port : Nat) (n : Nat) (src : Nat) (b : List Byte) (e : List Byte) (rest : List (Nat × Nat × Nat × List Byte)) (g : Seg) (l : Nat),
      (s.intake.ladleIn = (port, n, src, b) :: rest ∧ port < 4 ∧ leAt b 3 1 = 0x10 ∧ leAt b 4 2 = 1 ∧ e = (b.drop 24).take 128) ∧ (isWorker s = true ∧ isPair s = false ∧ getF s F.HIER_STATE_STATE = 2 ∧ running s = true) ∧ (s.hier.manager = none ∨ s.hier.manager = some src) ∧ (ladleSeg s (leAt b 6 1 == 1) e = (g, l) ∧ s.hier.answers.find? (fun a => a.1 == l) = none) ∧ ((objOf s g.rcd.obj).st ≠ 0 ∧ (objOf s g.rcd.obj).queue = [] ∧ (objOf s g.rcd.obj).history = [] ∧ blk s < g.e) :=
  ⟨{ setF (setF (setF State.reset F.HIER_CFG_ROLE 2) F.HIER_STATE_STATE 2) F.PAT_STATE_LIVE 1 with intake := { State.reset.intake with ladleIn := [(0, 2, 5, [0, 0, 0, 16, 1, 0, 1] ++ List.replicate 129 0 ++ [9] ++ List.replicate 15 0)], objs := [(0, { ObjSt.init with st := 1 })] } }, 0, 2, 5, [0, 0, 0, 16, 1, 0, 1] ++ List.replicate 129 0 ++ [9] ++ List.replicate 15 0, List.replicate 112 0 ++ [9] ++ List.replicate 15 0, [], (ladleSeg State.reset true (List.replicate 112 0 ++ [9] ++ List.replicate 15 0)).1, 0, by decide⟩

set_option maxRecDepth 100000 in
/-- The hypotheses of LadleRecordsAndBeats, clause 2, are met together. -/
theorem witness_LadleRecordsAndBeats_2 :
    ∃ (s : State) (port : Nat) (n : Nat) (src : Nat) (obj : Nat) (w : Nat) (b : List Byte) (rest : List (Nat × Nat × Nat × List Byte)) (o : ObjSt) (q : QEnt),
      (s.intake.ladleIn = (port, n, src, b) :: rest ∧ port < 4 ∧ leAt b 3 1 = 0x11 ∧ leAt b 4 2 = 1) ∧ (isManager s = true ∧ isPair s = false ∧ s.err.fatal = false ∧ s.intake.objs = [(obj, o)] ∧ o.queue = [q]) ∧ (q.pending = true ∧ q.removed = false ∧ q.item = none ∧ q.needed = [w] ∧ q.src ≠ 6 ∧ q.acks = [] ∧ q.seg.unprot = false) ∧ (leAt ((b.drop 24).take 8) 0 4 = q.litem ∧ q.litem ≠ 0 ∧ q.litem ≠ 0xFFFFFFFF) ∧ (leAt ((b.drop 24).take 8) 4 1 = w ∧ leAt ((b.drop 24).take 8) 5 1 = 1) :=
  ⟨{ setF State.reset F.HIER_CFG_ROLE 1 with intake := { State.reset.intake with ladleIn := [(0, 2, 5, [0, 0, 0, 17, 1, 0, 1] ++ List.replicate 17 0 ++ [7, 0, 0, 0, 3, 1, 0, 0])], objs := [(4, { ObjSt.init with st := 1, queue := [⟨⟨recOf [], 9, 144, false⟩, true, false, none, false, 7, [3], 4, []⟩] })] } }, 0, 2, 5, 4, 3, [0, 0, 0, 17, 1, 0, 1] ++ List.replicate 17 0 ++ [7, 0, 0, 0, 3, 1, 0, 0], [], { ObjSt.init with st := 1, queue := [⟨⟨recOf [], 9, 144, false⟩, true, false, none, false, 7, [3], 4, []⟩] }, ⟨⟨recOf [], 9, 144, false⟩, true, false, none, false, 7, [3], 4, []⟩, by decide⟩

set_option maxRecDepth 100000 in
/-- The hypotheses of LadleRecordsAndBeats, clause 3, are met together. -/
theorem witness_LadleRecordsAndBeats_3 :
    ∃ (s : State) (port : Nat) (n : Nat) (src : Nat) (obj : Nat) (v : Nat) (b : List Byte) (rest : List (Nat × Nat × Nat × List Byte)) (o : ObjSt) (q : QEnt),
      (s.intake.ladleIn = (port, n, src, b) :: rest ∧ port < 4 ∧ leAt b 3 1 = 0x12 ∧ leAt b 4 2 = 1) ∧ (isWorker s = true ∧ isPair s = false ∧ s.hier.forwarded = [] ∧ s.intake.objs = [(obj, o)] ∧ o.queue = [q]) ∧ (s.hier.manager = none ∨ s.hier.manager = some src) ∧ (q.pending = true ∧ q.removed = false ∧ q.item = none ∧ q.acks = [] ∧ q.seg.unprot = false ∧ blk s ≤ q.seg.e) ∧ (leAt ((b.drop 24).take 8) 0 4 = q.litem ∧ q.litem ≠ 0 ∧ leAt ((b.drop 24).take 8) 4 1 = v) :=
  ⟨{ setF State.reset F.HIER_CFG_ROLE 2 with intake := { State.reset.intake with ladleIn := [(0, 2, 5, [0, 0, 0, 18, 1, 0, 1] ++ List.replicate 17 0 ++ [7, 0, 0, 0, 1, 0, 0, 0])], objs := [(4, { ObjSt.init with st := 1, queue := [⟨⟨recOf [], 9, 144, false⟩, true, false, none, false, 7, [], 6, []⟩] })] } }, 0, 2, 5, 4, 1, [0, 0, 0, 18, 1, 0, 1] ++ List.replicate 17 0 ++ [7, 0, 0, 0, 1, 0, 0, 0], [], { ObjSt.init with st := 1, queue := [⟨⟨recOf [], 9, 144, false⟩, true, false, none, false, 7, [], 6, []⟩] }, ⟨⟨recOf [], 9, 144, false⟩, true, false, none, false, 7, [], 6, []⟩, by decide⟩

set_option maxRecDepth 100000 in
/-- The hypotheses of LadleRecordsAndBeats, clause 4, are met together. -/
theorem witness_LadleRecordsAndBeats_4 :
    ∃ (s : State) (obj : Nat) (o : ObjSt) (q : QEnt),
      (isWorker s = true ∧ s.intake.objs = [(obj, o)] ∧ o.queue = [q] ∧ q.pending = true ∧ q.src = 6 ∧ q.item = none) ∧ (due s (q.seg.e + 64) = true) :=
  ⟨{ setF State.reset F.HIER_CFG_ROLE 2 with msi := 3200, intake := { State.reset.intake with objs := [(4, { ObjSt.init with st := 1, queue := [⟨⟨recOf [], 9, 144, false⟩, true, false, none, false, 7, [], 6, []⟩] })] } }, 4, { ObjSt.init with st := 1, queue := [⟨⟨recOf [], 9, 144, false⟩, true, false, none, false, 7, [], 6, []⟩] }, ⟨⟨recOf [], 9, 144, false⟩, true, false, none, false, 7, [], 6, []⟩, by decide⟩

set_option maxRecDepth 100000 in
/-- The hypotheses of LadleRecordsAndBeats, clause 5, are met together. -/
theorem witness_LadleRecordsAndBeats_5 :
    ∃ (s : State) (port : Nat) (n : Nat) (src : Nat) (b : List Byte) (rest : List (Nat × Nat × Nat × List Byte)),
      (s.intake.ladleIn = (port, n, src, b) :: rest ∧ port < 4 ∧ leAt b 3 1 = 0x13 ∧ leAt ((b.drop 24).take 64) 1 1 = 1) ∧ (isWorker s = true ∧ isPair s = false ∧ s.hier.manager = none ∧ getF s F.HIER_STATE_STATE = 3) ∧ (bit (leAt ((b.drop 24).take 64) 48 2) (getF s F.HIER_CFG_UNIT) = true) :=
  ⟨{ setF (setF (setF State.reset F.HIER_CFG_ROLE 2) F.HIER_CFG_UNIT 3) F.HIER_STATE_STATE 3 with intake := { State.reset.intake with ladleIn := [(0, 2, 5, [0, 0, 0, 19, 1, 0, 1] ++ List.replicate 18 0 ++ [1] ++ List.replicate 46 0 ++ [8] ++ List.replicate 15 0)] } }, 0, 2, 5, [0, 0, 0, 19, 1, 0, 1] ++ List.replicate 18 0 ++ [1] ++ List.replicate 46 0 ++ [8] ++ List.replicate 15 0, [], by decide⟩

/-- The hypotheses of LadleRecordsAndBeats, clause 6, are met together. -/
theorem witness_LadleRecordsAndBeats_6 :
    ∃ (w : Fin 16) (s : State),
      (isManager s = true ∧ isPair s = false ∧ 1 ≤ w.val ∧ s.intake.objs = []) ∧ (getF s (F.HIER_WSTATE_STATE w.val) = 1 ∨ getF s (F.HIER_WSTATE_STATE w.val) = 2) ∧ (getF s F.HIER_CFG_HB_TO ≤ getF s (F.HIER_WSTATE_MISSED w.val)) :=
  ⟨3, setF (setF (setF State.reset F.HIER_CFG_ROLE 1) (F.HIER_WSTATE_STATE 3) 2) (F.HIER_WSTATE_MISSED 3) 300, by decide⟩

/-- The hypotheses of LadleRecordsAndBeats, clause 7, are met together. -/
theorem witness_LadleRecordsAndBeats_7 :
    ∃ (s : State) (m : Nat),
      (isWorker s = true ∧ s.hier.manager = some m ∧ getF s F.HIER_CFG_HB_TO ≤ s.hier.missed) ∧ (getF s F.HIER_STATE_STATE = 1 ∨ getF s F.HIER_STATE_STATE = 2) :=
  ⟨{ setF (setF State.reset F.HIER_CFG_ROLE 2) F.HIER_STATE_STATE 2 with hier := { State.reset.hier with manager := some 5, missed := 300 } }, 5, by decide⟩

/-- The hypotheses of JoinsAndSyncChain, clause 1, are met together. -/
theorem witness_JoinsAndSyncChain_1 :
    ∃ (s : State),
      (isWorker s = true ∧ isPair s = false ∧ getF s F.HIER_STATE_STATE = 1 ∧ s.hier.holdoff ≤ s.msi ∧ s.hier.reqAt = none) ∧ (linkUp s (getF s F.HIER_CFG_PORT) = true) :=
  ⟨setF (setF (setF State.reset F.HIER_CFG_ROLE 2) F.HIER_STATE_STATE 1) (F.NET_LINK_STATE 0) 2, by decide⟩

set_option maxRecDepth 100000 in
/-- The hypotheses of JoinsAndSyncChain, clause 2, are met together. -/
theorem witness_JoinsAndSyncChain_2 :
    ∃ (s : State) (port : Nat) (n : Nat) (src : Nat) (w : Nat) (b : List Byte) (rest : List (Nat × Nat × Nat × List Byte)),
      (s.intake.ladleIn = (port, n, src, b) :: rest ∧ port < 4 ∧ leAt b 3 1 = 0x14 ∧ leAt b 24 1 = w) ∧ (isManager s = true ∧ isPair s = false ∧ 1 ≤ w ∧ w ≤ 15 ∧ bit (rdN s R.HIER_WMASK) w = true) ∧ ((workerOf s w).patId.isSome = true ∧ (workerOf s w).rate = b2n (rate96 s)) :=
  ⟨{ wrN (setF State.reset F.HIER_CFG_ROLE 1) R.HIER_WMASK 0xFFFE with intake := { State.reset.intake with ladleIn := [(0, 2, 5, [0, 0, 0, 20, 1] ++ List.replicate 19 0 ++ [3])] }, hier := { State.reset.hier with workers := [(3, { WorkerSt.init with patId := some 9, rate := 1 })] } }, 0, 2, 5, 3, [0, 0, 0, 20, 1] ++ List.replicate 19 0 ++ [3], [], by decide⟩

set_option maxRecDepth 100000 in
/-- The hypotheses of JoinsAndSyncChain, clause 3, are met together. -/
theorem witness_JoinsAndSyncChain_3 :
    ∃ (s : State) (port : Nat) (n : Nat) (src : Nat) (w : Nat) (b : List Byte) (rest : List (Nat × Nat × Nat × List Byte)),
      (s.intake.ladleIn = (port, n, src, b) :: rest ∧ port < 4 ∧ leAt b 3 1 = 0x14 ∧ leAt b 24 1 = w) ∧ (isManager s = true ∧ isPair s = false ∧ 1 ≤ w ∧ w ≤ 15 ∧ bit (rdN s R.HIER_WMASK) w = true) ∧ ((workerOf s w).patId.isSome = true ∧ (workerOf s w).rate ≠ b2n (rate96 s)) :=
  ⟨{ wrN (setF State.reset F.HIER_CFG_ROLE 1) R.HIER_WMASK 0xFFFE with intake := { State.reset.intake with ladleIn := [(0, 2, 5, [0, 0, 0, 20, 1] ++ List.replicate 19 0 ++ [3])] }, hier := { State.reset.hier with workers := [(3, { WorkerSt.init with patId := some 9, rate := 0 })] } }, 0, 2, 5, 3, [0, 0, 0, 20, 1] ++ List.replicate 19 0 ++ [3], [], by decide⟩

set_option maxRecDepth 100000 in
/-- The hypotheses of JoinsAndSyncChain, clause 4, are met together. -/
theorem witness_JoinsAndSyncChain_4 :
    ∃ (s : State) (port : Nat) (n : Nat) (src : Nat) (b : List Byte) (e : List Byte) (rest : List (Nat × Nat × Nat × List Byte)),
      (s.intake.ladleIn = (port, n, src, b) :: rest ∧ port < 4 ∧ leAt b 3 1 = 0x15 ∧ leAt b 4 2 = 1 ∧ e = (b.drop 24).take 128 ∧ leAt e 124 1 = 1) ∧ (isPair s = false ∧ collecting s = true) ∧ (s.hier.joinSeq = none ∨ s.hier.joinSeq = some (leAt b 16 4)) ∧ (s.hier.manager = none ∨ s.hier.manager = some src) :=
  ⟨{ setF (setF State.reset F.HIER_CFG_ROLE 2) F.HIER_STATE_STATE 1 with hier := { State.reset.hier with reqAt := some 0 }, intake := { State.reset.intake with ladleIn := [(0, 2, 5, [0, 0, 0, 21, 1] ++ List.replicate 143 0 ++ [1, 0, 0, 0])] } }, 0, 2, 5, [0, 0, 0, 21, 1] ++ List.replicate 143 0 ++ [1, 0, 0, 0], List.replicate 124 0 ++ [1, 0, 0, 0], [], by decide⟩

set_option maxRecDepth 100000 in
/-- The hypotheses of JoinsAndSyncChain, clause 5, are met together. -/
theorem witness_JoinsAndSyncChain_5 :
    ∃ (s : State) (port : Nat) (n : Nat) (src : Nat) (b : List Byte) (rest : List (Nat × Nat × Nat × List Byte)),
      (s.intake.ladleIn = (port, n, src, b) :: rest ∧ port < 4 ∧ leAt b 3 1 = 0x16 ∧ bit (leAt b 32 2) (getF s F.HIER_CFG_UNIT) = true) ∧ (collecting s = true) ∧ (s.hier.joinSeq = none ∨ s.hier.joinSeq = some (leAt b 16 4)) ∧ (s.hier.manager = none ∨ s.hier.manager = some src) :=
  ⟨{ setF (setF (setF State.reset F.HIER_CFG_ROLE 2) F.HIER_CFG_UNIT 3) F.HIER_STATE_STATE 1 with hier := { State.reset.hier with reqAt := some 0 }, intake := { State.reset.intake with ladleIn := [(0, 2, 5, [0, 0, 0, 22, 1] ++ List.replicate 27 0 ++ [8, 0])] } }, 0, 2, 5, [0, 0, 0, 22, 1] ++ List.replicate 27 0 ++ [8, 0], [], by decide⟩

/-- The hypotheses of JoinsAndSyncChain, clause 6, are met together. -/
theorem witness_JoinsAndSyncChain_6 :
    ∃ (s : State) (m : Nat),
      (s.hier.joinSince = some m ∧ isWorker s = true ∧ getF s F.HIER_STATE_STATE = 1 ∧ s.hier.installed = false ∧ s.hier.joinEnd = none) ∧ (m + 2 * fsInt s ≤ s.msi + 16) :=
  ⟨{ setF (setF State.reset F.HIER_CFG_ROLE 2) F.HIER_STATE_STATE 1 with msi := 200000, hier := { State.reset.hier with joinSince := some 0 } }, 0, by decide⟩

/-- The hypotheses of JoinsAndSyncChain, clause 7, are met together. -/
theorem witness_JoinsAndSyncChain_7 :
    ∃ (stamp : Nat) (s : State) (period : Int) (x : Int) (d : Int),
      (getF s F.HIER_CFG_SYNC_EN = 1 ∧ syncSeats s = false ∧ period = 256 * secUnit / fsInt s) ∧ (x = tbAt s (followTb s) stamp - getF s F.HIER_SYNC_CFG_DLY * nsUnit - (tbOf s (followTb s)).time + (blk s % 16 : Nat) * (period / 16)) ∧ (d = (if period < 2 * x then x - period else x) ∧ d.natAbs ≤ getF s F.HIER_SYNC_CFG_LIM * nsUnit) :=
  ⟨0, setF State.reset F.HIER_CFG_SYNC_EN 1, 256 * secUnit / 96000, 0, 0, by decide⟩

/-- The hypotheses of JoinsAndSyncChain, clause 8, are met together. -/
theorem witness_JoinsAndSyncChain_8 :
    ∃ (s : State),
      (syncSeats s = true ∧ running s = false ∧ getF s F.TSU_ML_STATE_STATE = 0 ∧ tbUsable s (followTb s) = true) :=
  ⟨setF (setF State.reset F.HIER_CFG_SYNC_EN 1) F.HIER_CFG_SYNC_SEAT 1, by decide⟩

end Sys2Proof.Tests
end

section
/-! SUPPORT. Effects that leave the queue of commands alone and keep canonical form (R17, R35, R436): the relation, and what keeps
it when a state is put together from others. -/

namespace Sys2Proof.Machine

structure Kept (s₀ t : State) : Prop where
  queue : t.pending = s₀.pending
  form : s₀.canonical = true → t.canonical = true

variable {s₀ s t : State}

theorem kept_refl (s : State) : Kept s s := ⟨rfl, id⟩

/-- Canonical form speaks of registers, live copies and memory alone: any other part may change. -/
theorem kept_with {msi time err jnl pat seq bst asc geo rte flt rnd str apd pdm cap dac pwr fab net intake flk clm hier}
    {rdata freeCtr} (h : Kept s₀ s) :
    Kept s₀ { s with msi := msi, time := time, err := err, jnl := jnl, pat := pat, seq := seq, bst := bst, asc := asc,
                     geo := geo, rte := rte, flt := flt, rnd := rnd, str := str, apd := apd, pdm := pdm, cap := cap,
                     dac := dac, pwr := pwr, fab := fab, net := net, intake := intake, flk := flk, clm := clm,
                     hier := hier, rdata := rdata, freeCtr := freeCtr } := ⟨h.queue, h.form⟩

theorem canonical_iff (s : State) : s.canonical = true ↔
    aWf regReset s.regs = true ∧ aWf regReset s.live = true ∧ aWf memDefault s.mem = true := by
  simp only [State.canonical, Memory.wf, Bool.and_eq_true, and_assoc]

/-- Entries taken out of a table leave its canonical form. -/
theorem aWfFrom_filter {α} [DecidableEq α] (d : Nat → α) (p : Nat × α → Bool) (l : Tbl α) :
    ∀ a, aWfFrom d a l = true → aWfFrom d a (l.filter p) = true := by
  induction l with
  | nil => exact fun _ h => h
  | cons e t ih =>
    intro a h
    simp only [aWfFrom, Bool.and_eq_true, decide_eq_true_eq] at h
    rw [List.filter_cons]
    split
    · simp only [aWfFrom, Bool.and_eq_true, decide_eq_true_eq]
      exact ⟨h.1, ih _ h.2⟩
    · exact aWfFrom_mono d (by omega) _ (ih _ h.2)

theorem aWf_filter {α} [DecidableEq α] (d : Nat → α) (p : Nat × α → Bool) (l : Tbl α) (h : aWf d l = true) :
    aWf d (l.filter p) = true :=
  aWfFrom_filter d p l 0 h

theorem kept_withRegs {regs} (h : Kept s₀ s) (hr : aWf regReset s.regs = true → aWf regReset regs = true) :
    Kept s₀ { s with regs := regs } := by
  refine ⟨h.queue, fun c => ?_⟩
  obtain ⟨cr, cl, cm⟩ := (canonical_iff s).1 (h.form c)
  exact (canonical_iff _).2 ⟨hr cr, cl, cm⟩

theorem kept_withLive {live} (h : Kept s₀ s) (hl : aWf regReset s.live = true → aWf regReset live = true) :
    Kept s₀ { s with live := live } := by
  refine ⟨h.queue, fun c => ?_⟩
  obtain ⟨cr, cl, cm⟩ := (canonical_iff s).1 (h.form c)
  exact (canonical_iff _).2 ⟨cr, hl cl, cm⟩

theorem kept_withMem {mem} (h : Kept s₀ s) (hm : aWf memDefault s.mem = true → aWf memDefault mem = true) :
    Kept s₀ { s with mem := mem } := by
  refine ⟨h.queue, fun c => ?_⟩
  obtain ⟨cr, cl, cm⟩ := (canonical_iff s).1 (h.form c)
  exact (canonical_iff _).2 ⟨cr, cl, hm cm⟩

theorem kept_ite {c : Prop} [Decidable c] (hs : Kept s₀ s) (ht : Kept s₀ t) : Kept s₀ (if c then s else t) := by
  split <;> assumption

theorem kept_ite_fst {α} {c : Prop} [Decidable c] {x y : State × α} (hx : Kept s₀ x.1) (hy : Kept s₀ y.1) :
    Kept s₀ (if c then x else y).1 := by
  split <;> assumption

theorem kept_ite_snd {α} {c : Prop} [Decidable c] {x y : α × State} (hx : Kept s₀ x.2) (hy : Kept s₀ y.2) :
    Kept s₀ (if c then x else y).2 := by
  split <;> assumption

theorem kept_foldl_fst {α β} {f : State × β → α → State × β} {x : State × β} (h : Kept s₀ x.1)
    (hf : ∀ x a, Kept s₀ x.1 → Kept s₀ (f x a).1) (l : List α) : Kept s₀ (l.foldl f x).1 :=
  List.foldlRecOn l f (motive := fun x => Kept s₀ x.1) h fun x hx a _ => hf x a hx

theorem kept_fst {α} {x : State × α} {a : α} (h : Kept s₀ x.1) (e : x = (t, a)) : Kept s₀ t := by subst e; exact h

theorem kept_snd {α} {x : α × State} {a : α} (h : Kept s₀ x.2) (e : x = (a, t)) : Kept s₀ t := by subst e; exact h

theorem kept_foldl {α} {f : State → α → State} (h : Kept s₀ s) (hf : ∀ x a, Kept s₀ x → Kept s₀ (f x a)) (l : List α) :
    Kept s₀ (l.foldl f s) :=
  List.foldlRecOn l f h fun x hx a _ => hf x a hx

theorem kept_forNat {n : Nat} {f : Nat → State → State} (h : Kept s₀ s) (hf : ∀ i x, Kept s₀ x → Kept s₀ (f i x)) :
    Kept s₀ (forNat n f s) :=
  kept_foldl h (fun x i => hf i x) _

theorem kept_forEach {α} {l : List α} {f : α → State → State} (h : Kept s₀ s) (hf : ∀ a x, Kept s₀ x → Kept s₀ (f a x)) :
    Kept s₀ (forEach l f s) :=
  kept_foldl h (fun x a => hf a x) _

theorem kept_when {c : Bool} {f : State → State} (h : Kept s₀ s) (hf : ∀ x, Kept s₀ x → Kept s₀ (f x)) :
    Kept s₀ (when c f s) := by
  unfold when
  exact kept_ite (hf s h) h

/-- A command answers a next state, and that state is `Kept`. -/
def KeptOut (s₀ : State) (o : Out) : Prop := ∃ t, o = .next t ∧ Kept s₀ t

theorem keptOut_next (h : Kept s₀ t) : KeptOut s₀ (.next t) := ⟨t, rfl, h⟩

theorem keptOut_ite {c : Prop} [Decidable c] {o p : Out} (ho : KeptOut s₀ o) (hp : KeptOut s₀ p) :
    KeptOut s₀ (if c then o else p) := by
  split <;> assumption

end Sys2Proof.Machine
end

section
/-! SUPPORT. Every function that the meanings of the commands are built of leaves the queue alone and keeps canonical form: one
lemma for each, in the order of the model's files.  A proof follows the branches of its function and names the functions called.

`kept_rteValidated`, `kept_netEffect`, `kept_apdLaneEffect` and `kept_netWrite` put the function's body in place of its name as one
lambda term: against a match that stands alone the kernel would evaluate the match's subject, down to the tables of registers. -/

namespace Sys2Proof.Machine

variable {s₀ s t : State}

/-! ### Registers, memory and free values -/

theorem kept_wr {off v} (h : Kept s₀ s) : Kept s₀ (wr s off v) := kept_withRegs h (aWf_aSet _ _ _ _)

theorem kept_wrN {off v} (h : Kept s₀ s) : Kept s₀ (wrN s off v) := kept_wr h

theorem kept_setF {f v} (h : Kept s₀ s) : Kept s₀ (setF s f v) := kept_wr h

theorem kept_wr64 {lo hi v} (h : Kept s₀ s) : Kept s₀ (wr64 s lo hi v) := kept_wrN (kept_wrN h)

theorem kept_cntAdd {off n} (h : Kept s₀ s) : Kept s₀ (cntAdd s off n) := kept_wrN h

theorem kept_cnt {off} (h : Kept s₀ s) : Kept s₀ (cnt s off) := kept_cntAdd h

theorem kept_setBit {f i} (h : Kept s₀ s) : Kept s₀ (setBit s f i) := kept_setF h

theorem kept_latch {off v} (h : Kept s₀ s) : Kept s₀ (latch s off v) := kept_wrN h

theorem kept_freeNat {w} (h : Kept s₀ s) : Kept s₀ (freeNat s w).2 := kept_with h

theorem kept_wrByte {a v} (h : Kept s₀ s) : Kept s₀ (wrByte s a v) := kept_withMem h (aWf_aSet _ _ _ _)

theorem kept_wrBytes {a bs} (h : Kept s₀ s) : Kept s₀ (wrBytes s a bs) := by
  induction bs generalizing s a with
  | nil => exact h
  | cons b bs ih => exact ih (kept_wrByte h)

theorem kept_wrWord72 {base i w} (h : Kept s₀ s) : Kept s₀ (wrWord72 s base i w) := kept_wrBytes h

theorem kept_wrPackedFrom {base w0 k bs} (h : Kept s₀ s) : Kept s₀ (wrPackedFrom s base w0 k bs) := by
  induction bs generalizing s k with
  | nil => exact h
  | cons b bs ih => exact ih (kept_wrByte h)

theorem kept_wrPacked {base w0 bs} (h : Kept s₀ s) : Kept s₀ (wrPacked s base w0 bs) := kept_wrPackedFrom h

/-! ### The error engine and the journal -/

theorem kept_jnlFreezeNow {why} (h : Kept s₀ s) : Kept s₀ (jnlFreezeNow why s) := kept_with h

theorem kept_jnlAppend {e} (h : Kept s₀ s) : Kept s₀ (jnlAppend e s) := by
  unfold jnlAppend
  extract_lets _ _ s1
  have h1 : Kept s₀ s1 := kept_with (kept_ite (kept_cnt h) h)
  split
  · exact h1
  · exact kept_ite (kept_jnlFreezeNow h1) (kept_with h1)

theorem kept_journal {src kind addr value msi} (h : Kept s₀ s) : Kept s₀ (journal src kind addr value msi s) := by
  unfold journal
  split
  · exact kept_cnt h
  · exact kept_jnlAppend h

theorem kept_journalReg {via off v} (h : Kept s₀ s) : Kept s₀ (journalReg via off v s) := kept_journal h

theorem kept_enterSafeState (h : Kept s₀ s) : Kept s₀ (enterSafeState s) := by
  unfold enterSafeState
  exact kept_forNat (kept_ite h (kept_journal (kept_setF (kept_setF h)))) (fun _ _ h1 => kept_ite h1 (kept_setBit
    (kept_setF (kept_setF h1))))

theorem kept_onPresent {e} (h : Kept s₀ s) : Kept s₀ (onPresent e s) := by
  unfold onPresent
  exact kept_ite (kept_enterSafeState (kept_jnlFreezeNow (kept_with (kept_ite (kept_setF (kept_setBit h))
    (kept_setBit h))))) (kept_ite (kept_ite (kept_jnlFreezeNow h) (kept_with h)) h)

theorem kept_present {e} (h : Kept s₀ s) : Kept s₀ (present e s) := kept_onPresent (kept_with h)

theorem kept_fifoAppend {e} (h : Kept s₀ s) : Kept s₀ (fifoAppend e s) :=
  kept_ite (kept_with h) (kept_cnt (kept_setBit h))

theorem kept_arrive {e} (h : Kept s₀ s) : Kept s₀ (arrive e s).1 := by
  unfold arrive
  split
  · exact kept_present h
  · refine kept_ite_fst (kept_with h) ?_
    exact kept_ite_fst (kept_ite (kept_setF h) h) (kept_ite_fst (kept_present (kept_with h)) (kept_fifoAppend h))

theorem kept_arriveOvf {e} (h : Kept s₀ s) : Kept s₀ (arriveOvf e s) := by
  unfold arriveOvf
  split
  · rename_i e1
    have h1 := kept_fst (kept_arrive h) e1
    exact h1
  · rename_i e2
    have h2 := kept_fst (kept_arrive h) e2
    exact kept_ite h2 (kept_arrive h2)

theorem kept_raise {e src} (h : Kept s₀ s) : Kept s₀ (raise e src s) := by
  unfold raise
  extract_lets
  split
  · exact kept_arriveOvf h
  · exact kept_ite (kept_setBit h) (kept_arriveOvf (kept_setBit h))

theorem kept_writeIgnored (h : Kept s₀ s) : Kept s₀ (writeIgnored s) := kept_raise h

theorem kept_chooseNext {stack} (h : Kept s₀ s) : Kept s₀ (chooseNext stack s) := by
  induction stack generalizing s with
  | nil =>
    unfold chooseNext
    split
    · exact kept_with h
    · exact kept_present (kept_with h)
  | cons top rest ih =>
    unfold chooseNext
    extract_lets resume
    have hr : Kept s₀ (resume s) := kept_ite (ih (kept_cnt h)) (kept_with h)
    split
    · exact hr
    · exact kept_ite (kept_present (kept_with h)) hr

theorem kept_acknowledge (h : Kept s₀ s) : Kept s₀ (acknowledge s) := by
  unfold acknowledge
  split
  · exact h
  · exact kept_ite h (kept_chooseNext h)

theorem kept_autoAck (h : Kept s₀ s) : Kept s₀ (autoAck s) := by
  unfold autoAck
  split
  · exact h
  · exact kept_ite (kept_acknowledge h) h

theorem kept_w1cClear {off v} (h : Kept s₀ s) : Kept s₀ (w1cClear off v s) := by
  unfold w1cClear
  split
  · exact h
  · exact kept_with (kept_wr h)

theorem kept_jnlSelect {serial} (h : Kept s₀ s) : Kept s₀ (jnlSelect serial s) := by
  unfold jnlSelect
  split
  · exact kept_wrN (kept_wrN (kept_wr64 h))
  · exact kept_wrN (kept_wrN (kept_wr64 h))

theorem keptOut_execErrAckWrite {code} (h : Kept s₀ s) : KeptOut s₀ (execErrAckWrite code s) := by
  unfold execErrAckWrite
  refine keptOut_next ?_
  split
  · exact kept_writeIgnored h
  · exact kept_ite (kept_acknowledge h) (kept_writeIgnored h)

theorem keptOut_execErrMsiLoRead (h : Kept s₀ s) : KeptOut s₀ (execErrMsiLoRead s) :=
  keptOut_next (kept_with (kept_latch h))

theorem keptOut_execJnlFreeze {via} (h : Kept s₀ s) : KeptOut s₀ (execJnlFreeze via s) := by
  unfold execJnlFreeze
  extract_lets
  refine keptOut_next ?_
  split
  · exact kept_journalReg h
  · exact kept_jnlFreezeNow (kept_journalReg h)

theorem keptOut_execJnlResume {via} (h : Kept s₀ s) : KeptOut s₀ (execJnlResume via s) := by
  unfold execJnlResume
  refine keptOut_next ?_
  split
  · exact kept_journalReg h
  · exact kept_journalReg (kept_with h)

theorem keptOut_execJnlSelWrite {via serial} (h : Kept s₀ s) : KeptOut s₀ (execJnlSelWrite via serial s) :=
  keptOut_next (kept_jnlSelect (kept_wr (kept_journalReg h)))

theorem keptOut_execJnlFreezeTimeout (h : Kept s₀ s) : KeptOut s₀ (execJnlFreezeTimeout s) := by
  unfold execJnlFreezeTimeout
  refine keptOut_next ?_
  split
  · exact h
  · exact h
  · exact kept_ite (kept_with h) h

theorem keptOut_execStatW1cWrite {off v} (h : Kept s₀ s) : KeptOut s₀ (execStatW1cWrite off v s) :=
  keptOut_next (kept_w1cClear h)

theorem kept_eccCorrectable {n} (h : Kept s₀ s) : Kept s₀ (eccCorrectable n s) := by
  unfold eccCorrectable
  extract_lets _ _ _ s1
  have h1 : Kept s₀ s1 := kept_with (kept_cntAdd h)
  exact kept_ite (kept_raise h1) h1

theorem kept_eccWindow {frames} (h : Kept s₀ s) : Kept s₀ (eccWindow frames s) :=
  kept_ite (kept_with h) (kept_with h)

theorem kept_eccRecord {addr} (h : Kept s₀ s) : Kept s₀ (eccRecord addr s) := kept_cnt (kept_wrN (kept_wrN h))

theorem kept_mbAbandon {n} (h : Kept s₀ s) : Kept s₀ (mbAbandon n s) := kept_ite (kept_raise (kept_setF h)) h

theorem kept_masterReset {m} (h : Kept s₀ s) : Kept s₀ (masterReset m s) := by
  unfold masterReset
  extract_lets s1
  have h1 : Kept s₀ s1 := kept_raise (kept_cnt h)
  exact kept_ite (kept_mbAbandon h1) h1

/-! ### Sending over the Flask link and mirroring -/

theorem kept_flkSend {x} (h : Kept s₀ s) : Kept s₀ (flkSend x s) := kept_ite h (kept_with h)

theorem kept_countUnprot (h : Kept s₀ s) : Kept s₀ (countUnprot s) := kept_cnt h

theorem kept_takeItemId (h : Kept s₀ s) : Kept s₀ (takeItemId s).2 := kept_with h

theorem kept_mirrorSend {it deadline} (h : Kept s₀ s) : Kept s₀ (mirrorSend it deadline s).2 := by
  unfold mirrorSend
  split
  rename_i e1
  have h1 := kept_snd (kept_takeItemId h) e1
  exact kept_ite (kept_flkSend (kept_cnt (kept_with h1))) (kept_with h1)

theorem kept_mirrorCommand {it deadline} (h : Kept s₀ s) : Kept s₀ (mirrorCommand it deadline s).2 :=
  kept_ite_snd h (kept_ite_snd (kept_mirrorSend h) (kept_setBit (kept_countUnprot h)))

theorem kept_mirrorUntimed {it} (h : Kept s₀ s) : Kept s₀ (mirrorUntimed it s).2 :=
  kept_ite_snd h (kept_ite_snd (kept_mirrorSend h) (kept_countUnprot h))

theorem kept_mirrorResend (h : Kept s₀ s) : Kept s₀ (mirrorResend s) := kept_ite (kept_flkSend h) h

theorem kept_dropItem {id} (h : Kept s₀ s) : Kept s₀ (dropItem id s) := kept_with h

theorem kept_flkConfirm {id block} (h : Kept s₀ s) : Kept s₀ (flkConfirm id block s) := kept_flkSend (kept_with h)

theorem kept_flkDiscard {id} (h : Kept s₀ s) : Kept s₀ (flkDiscard id s) := kept_flkSend (kept_with h)

theorem kept_seqAhead {it} (h : Kept s₀ s) : Kept s₀ (seqAhead it s) := by
  unfold seqAhead
  split
  · exact kept_ite (kept_mirrorSend h) h
  · exact h

theorem kept_mirrorWrite {it} (h : Kept s₀ s) : Kept s₀ (mirrorWrite it s).2 := by
  unfold mirrorWrite
  refine kept_ite_snd h ?_
  refine kept_ite_snd (kept_mirrorSend (kept_seqAhead h)) ?_
  split
  rename_i e1
  have h1 := kept_snd (kept_takeItemId (kept_countUnprot h)) e1
  exact kept_with h1

theorem kept_renderWrite {apply via off v} (happly : ∀ x, Kept s₀ x → Kept s₀ (apply x)) (h : Kept s₀ s) :
    Kept s₀ (renderWrite apply via off v s) := by
  unfold renderWrite
  extract_lets
  refine kept_ite (happly _ (kept_journalReg h)) ?_
  refine kept_ite (kept_writeIgnored (kept_journalReg h)) ?_
  split
  rename_i e1
  have h1 := kept_snd (kept_mirrorWrite (kept_journalReg h)) e1
  exact kept_ite h1 (happly _ h1)

/-! ### Automatic scaling -/

theorem kept_ascEnter {a} (h : Kept s₀ s) : Kept s₀ (ascEnter a s) := kept_raise (kept_cnt (kept_with h))

theorem kept_ascTrigger {cause first stop hold} (h : Kept s₀ s) :
    Kept s₀ (ascTrigger cause first stop hold s) := by
  unfold ascTrigger
  extract_lets
  split
  · exact kept_ascEnter h
  · exact kept_with h
  · exact kept_ascEnter h
  · exact kept_with h

theorem kept_recoveryEvent {cause t enable} (h : Kept s₀ s) : Kept s₀ (recoveryEvent cause t enable s) :=
  kept_ite (kept_ascTrigger h) h

theorem kept_recoverTakeover {t} (h : Kept s₀ s) : Kept s₀ (recoverTakeover t s) := kept_recoveryEvent h

theorem kept_recoverClock {t} (h : Kept s₀ s) : Kept s₀ (recoverClock t s) := kept_recoveryEvent h

theorem kept_recoverHandover {t} (h : Kept s₀ s) : Kept s₀ (recoverHandover t s) := kept_recoveryEvent h

theorem kept_recoverFallback {t} (h : Kept s₀ s) : Kept s₀ (recoverFallback t s) := kept_recoveryEvent h

theorem kept_ascPour {p} (h : Kept s₀ s) : Kept s₀ (ascPour p s) := kept_ascEnter h

theorem keptOut_execScalePeriodEnd (h : Kept s₀ s) : KeptOut s₀ (execScalePeriodEnd s) :=
  keptOut_next (kept_ite (kept_with h) h)

theorem keptOut_execScaleXfadeEnd (h : Kept s₀ s) : KeptOut s₀ (execScaleXfadeEnd s) :=
  keptOut_next (kept_ite (kept_setBit (kept_with h)) h)

/-! ### Capture and stimulus -/

theorem kept_capResult {cmd reason} (h : Kept s₀ s) : Kept s₀ (capResult cmd reason s) := kept_setF (kept_setF h)

theorem kept_capRefuse {cmd reason} (h : Kept s₀ s) : Kept s₀ (capRefuse cmd reason s) :=
  kept_raise (kept_capResult h)

theorem kept_capStartAccept (h : Kept s₀ s) : Kept s₀ (capStartAccept s) := by
  unfold capStartAccept
  split
  · exact h
  · exact kept_with (kept_capResult (kept_setF (kept_wrN h)))

theorem keptOut_execCapStart {via} (h : Kept s₀ s) : KeptOut s₀ (execCapStart via s) := by
  unfold execCapStart
  extract_lets
  refine keptOut_next ?_
  refine kept_ite (kept_writeIgnored (kept_journalReg h)) ?_
  refine kept_ite (kept_capRefuse (kept_journalReg h)) ?_
  refine kept_ite (kept_capRefuse (kept_journalReg h)) ?_
  refine kept_ite (kept_capRefuse (kept_journalReg h)) ?_
  split
  rename_i e1
  have h1 := kept_snd (kept_mirrorCommand (kept_with (kept_journalReg h))) e1
  exact kept_ite h1 (kept_capStartAccept h1)

theorem kept_capStopAccept {k2} (h : Kept s₀ s) : Kept s₀ (capStopAccept k2 s) := kept_capResult (kept_with h)

theorem keptOut_execCapStop {via} (h : Kept s₀ s) : KeptOut s₀ (execCapStop via s) := by
  unfold execCapStop
  extract_lets
  refine keptOut_next ?_
  refine kept_ite (kept_writeIgnored (kept_journalReg h)) ?_
  refine kept_ite (kept_capRefuse (kept_journalReg h)) ?_
  split
  rename_i e1
  have h1 := kept_snd (kept_mirrorCommand (kept_journalReg h)) e1
  exact kept_ite h1 (kept_capStopAccept h1)

theorem kept_capCancelAccept (h : Kept s₀ s) : Kept s₀ (capCancelAccept s) :=
  kept_with (kept_capResult (kept_setF h))

theorem keptOut_execCapCancel {via} (h : Kept s₀ s) : KeptOut s₀ (execCapCancel via s) := by
  unfold execCapCancel
  extract_lets
  refine keptOut_next ?_
  refine kept_ite (kept_writeIgnored (kept_journalReg h)) ?_
  split
  · exact kept_capRefuse (kept_journalReg h)
  · refine kept_ite (kept_capRefuse (kept_journalReg h)) ?_
    split
    rename_i e1
    have h1 := kept_snd (kept_mirrorCommand (kept_journalReg h)) e1
    exact kept_ite h1 (kept_capCancelAccept h1)

theorem keptOut_execCapRunStart (h : Kept s₀ s) : KeptOut s₀ (execCapRunStart s) := by
  unfold execCapRunStart
  refine keptOut_next ?_
  split
  · exact h
  · extract_lets s1
    have h1 : Kept s₀ s1 := kept_setBit (kept_setF h)
    exact kept_ite (kept_ite (kept_ascTrigger h1) h1) h

theorem kept_capFinish {c} (h : Kept s₀ s) : Kept s₀ (capFinish c s) := by
  unfold capFinish
  extract_lets s1 s2
  have h1 : Kept s₀ s1 := kept_setBit (kept_setF h)
  have h2 : Kept s₀ s2 := kept_ite (kept_raise h1) h1
  exact kept_with (kept_ite (kept_with h2) h2)

theorem keptOut_execCapEnd (h : Kept s₀ s) : KeptOut s₀ (execCapEnd s) := by
  unfold execCapEnd
  refine keptOut_next ?_
  split
  · exact h
  · exact kept_ite (kept_capFinish h) h

theorem kept_capPour {p gains} (h : Kept s₀ s) : Kept s₀ (capPour p gains s) := by
  unfold capPour
  split
  · exact h
  · exact kept_ite (kept_with h) (kept_raise (kept_with (kept_capResult (kept_setF h))))

theorem kept_capWrite {n xs} (h : Kept s₀ s) : Kept s₀ (capWrite n xs s) := by
  unfold capWrite
  split
  · exact h
  · exact kept_ite h (kept_wrN (kept_forNat h (fun _ _ h1 => kept_forNat h1 (fun _ _ h2 => kept_wrWord72 h2))))

theorem kept_stimSamples {n} (h : Kept s₀ s) : Kept s₀ (stimSamples n s).2 := by
  unfold stimSamples
  split
  · exact h
  · refine kept_ite_snd h ?_
    split
    exact kept_with h

/-! ### Filter sets and gains -/

theorem kept_peqMod {key f} (h : Kept s₀ s) : Kept s₀ (peqMod key f s) := kept_with h

theorem kept_peqMove {kind id bands k xf} (h : Kept s₀ s) : Kept s₀ (peqMove kind id bands k xf s) := kept_peqMod h

theorem kept_gainMove {kind id target k xf} (h : Kept s₀ s) : Kept s₀ (gainMove kind id target k xf s) :=
  kept_with h

theorem kept_coefMod {j f} (h : Kept s₀ s) : Kept s₀ (coefMod j f s) := kept_with h

theorem keptOut_execRcXfadeEnd {j} (h : Kept s₀ s) : KeptOut s₀ (execRcXfadeEnd j s) := by
  unfold execRcXfadeEnd
  refine keptOut_next ?_
  split
  · exact kept_ite (kept_setBit (kept_coefMod h)) h
  · exact h

/-! ### Time bases and the media loop -/

theorem kept_tbMod {n f} (h : Kept s₀ s) : Kept s₀ (tbMod n f s) := kept_with h

theorem kept_fadjSet {n stamp v} (h : Kept s₀ s) : Kept s₀ (fadjSet n stamp v s) := kept_wr (kept_tbMod h)

theorem kept_tbNsRead {n} (h : Kept s₀ s) : Kept s₀ (tbNsRead n s) :=
  kept_with (kept_latch (kept_latch (kept_latch h)))

theorem kept_epochLoad (h : Kept s₀ s) : Kept s₀ (epochLoad s) := kept_with h

theorem kept_judgePhase (h : Kept s₀ s) : Kept s₀ (judgePhase s) :=
  kept_ite (kept_raise (kept_with h)) (kept_with h)

theorem kept_showPhase (h : Kept s₀ s) : Kept s₀ (showPhase s) := kept_wrN h

theorem kept_seatAt {d} (h : Kept s₀ s) : Kept s₀ (seatAt d s) := kept_showPhase (kept_with h)

theorem kept_tbEnter {n st} (h : Kept s₀ s) : Kept s₀ (tbEnter n st s) := by
  unfold tbEnter
  extract_lets _ s1 _ _ s2
  have h1 : Kept s₀ s1 := kept_ite (kept_setF (kept_setF h)) (kept_setF h)
  have h2 : Kept s₀ s2 := kept_tbMod (kept_ite (kept_with h1) h1)
  exact kept_ite (kept_ite (kept_setF h2) (kept_ite (kept_setF (kept_with h2)) h2)) h2

theorem kept_restartGood {n} (h : Kept s₀ s) : Kept s₀ (restartGood n s) := kept_tbMod h

theorem kept_refLoss {n} (h : Kept s₀ s) : Kept s₀ (refLoss n s) := by
  unfold refLoss
  extract_lets _ _ s1
  have h1 : Kept s₀ s1 := kept_tbMod (kept_raise (kept_cnt (kept_restartGood h)))
  refine kept_ite (kept_restartGood h) ?_
  split
  · exact kept_tbEnter h1
  · exact kept_tbEnter (kept_fadjSet h1)
  · exact kept_tbEnter h1
  · exact h1

theorem kept_refQualified {n} (h : Kept s₀ s) : Kept s₀ (refQualified n s) := by
  unfold refQualified
  extract_lets _ _ _ s1
  have h1 : Kept s₀ s1 := kept_raise (kept_tbEnter (kept_setF (kept_tbMod h)))
  exact kept_ite (kept_recoverClock h1) h1

theorem kept_servo {n stamp e tNs} (h : Kept s₀ s) : Kept s₀ (servo n stamp e tNs s) :=
  kept_fadjSet (kept_wrN (kept_tbMod h))

theorem kept_lockWindow {n inside} (h : Kept s₀ s) : Kept s₀ (lockWindow n inside s) :=
  kept_ite (kept_tbEnter (kept_setF (kept_tbMod (kept_tbMod h)))) (kept_tbMod h)

theorem kept_noteMeasure {n stamp} (h : Kept s₀ s) : Kept s₀ (noteMeasure n stamp s) := kept_tbMod h

theorem kept_servoStep {n e} (h : Kept s₀ s) : Kept s₀ (servoStep n e s) := kept_tbMod h

theorem kept_measure {n stamp e tNs inside} (h : Kept s₀ s) : Kept s₀ (measure n stamp e tNs inside s) := by
  unfold measure
  extract_lets _ _ s1
  have h1 : Kept s₀ s1 := kept_tbMod (kept_raise (kept_cnt h))
  refine kept_ite (kept_servoStep h) ?_
  exact kept_ite (kept_ite (kept_servoStep h1) h1) (kept_lockWindow (kept_noteMeasure (kept_servo (kept_tbMod h))))

theorem kept_edgeAccepted {n stamp interval} (h : Kept s₀ s) : Kept s₀ (edgeAccepted n stamp interval s) := by
  unfold edgeAccepted
  extract_lets _ _ _ _ s1
  have h1 : Kept s₀ s1 := kept_tbMod (kept_tbMod h)
  refine kept_ite ?_ (kept_measure (kept_tbMod h))
  split
  · exact kept_tbMod (kept_tbMod h)
  · exact kept_ite (kept_ite (kept_refQualified h1) (kept_tbMod h1)) h1

theorem kept_edgeRejected {n} (h : Kept s₀ s) : Kept s₀ (edgeRejected n s) := by
  unfold edgeRejected
  extract_lets _ s1
  have h1 : Kept s₀ s1 := kept_restartGood (kept_tbMod (kept_raise (kept_cnt h)))
  exact kept_ite (kept_refLoss (kept_tbMod h1)) h1

theorem kept_edgeFor {n stamp pin} (h : Kept s₀ s) : Kept s₀ (edgeFor n stamp pin s) := by
  unfold edgeFor
  extract_lets
  split
  · exact kept_tbMod h
  · extract_lets _ _ s1
    have h1 : Kept s₀ s1 := kept_ite (kept_edgeAccepted (kept_tbMod h)) (kept_edgeRejected (kept_tbMod h))
    exact kept_ite (kept_raise (kept_setF (kept_wrN h1))) h1

theorem kept_ppsiStamp {stamp} (h : Kept s₀ s) : Kept s₀ (ppsiStamp stamp s) :=
  kept_setBit (kept_wrN (kept_wrN (kept_wrN (kept_wrN h))))

theorem keptOut_execRefEdge {pin stamp} (h : Kept s₀ s) : KeptOut s₀ (execRefEdge pin stamp s) := by
  unfold execRefEdge
  extract_lets
  refine keptOut_next ?_
  split
  · refine kept_ite (kept_ppsiStamp (kept_forNat (kept_with h) (fun _ _ h1 => kept_ite (kept_edgeFor h1) h1))) ?_
    exact kept_forNat (kept_with h) (fun _ _ h2 => kept_ite (kept_edgeFor h2) h2)
  · exact kept_forNat (kept_with h) (fun _ _ h3 => kept_ite (kept_edgeFor h3) h3)

theorem keptOut_execRefEdgeTimeout {n} (h : Kept s₀ s) : KeptOut s₀ (execRefEdgeTimeout n s) :=
  keptOut_next (kept_ite (kept_refLoss h) h)

theorem kept_ptpQualify {n e tNs} (h : Kept s₀ s) : Kept s₀ (ptpQualify n e tNs s) := by
  unfold ptpQualify
  extract_lets
  split
  · exact kept_tbMod (kept_tbMod h)
  · exact kept_ite (kept_tbMod h) (kept_ite (kept_refQualified (kept_tbMod h)) (kept_tbMod (kept_tbMod h)))

theorem kept_ptpMeas {n e tNs} (h : Kept s₀ s) : Kept s₀ (ptpMeas n e tNs s) := by
  unfold ptpMeas
  extract_lets _ s1
  have h1 : Kept s₀ s1 := kept_setF (kept_tbMod h)
  exact kept_ite h (kept_ite (kept_ptpQualify h1) (kept_measure (kept_tbMod h1)))

theorem keptOut_execPtpMeasWrite {n offset intervalNs} (h : Kept s₀ s) :
    KeptOut s₀ (execPtpMeasWrite n offset intervalNs s) :=
  keptOut_next (kept_ptpMeas h)

theorem keptOut_execPtpSyncTimeout {n} (h : Kept s₀ s) : KeptOut s₀ (execPtpSyncTimeout n s) :=
  keptOut_next (kept_ite (kept_refLoss h) h)

theorem keptOut_execPtpAnnounceTimeout {n} (h : Kept s₀ s) : KeptOut s₀ (execPtpAnnounceTimeout n s) :=
  keptOut_next (kept_ite (kept_refLoss (kept_setF h)) h)

theorem kept_judgeConflicts {written} (h : Kept s₀ s) : Kept s₀ (judgeConflicts written s) := by
  unfold judgeConflicts
  extract_lets _ s1
  have h1 : Kept s₀ s1 := kept_forNat (kept_setF h) (fun _ _ h2 => kept_ite (kept_setF h2) h2)
  exact kept_ite (kept_raise (kept_setF h1)) h1

theorem kept_tbCfgApply {n v} (h : Kept s₀ s) : Kept s₀ (tbCfgApply n v s) :=
  kept_ite (kept_wr h) (kept_tbEnter (kept_judgeConflicts (kept_setF (kept_tbMod (kept_wr h)))))

theorem kept_tbCfgWrite {via n v} (h : Kept s₀ s) : Kept s₀ (tbCfgWrite via n v s) := by
  unfold tbCfgWrite
  refine kept_ite (kept_raise (kept_journalReg h)) ?_
  exact kept_ite (kept_tbCfgApply (kept_journalReg h)) (kept_writeIgnored (kept_journalReg h))

theorem keptOut_execTbCfgWrite {via n v} (h : Kept s₀ s) : KeptOut s₀ (execTbCfgWrite via n v s) :=
  keptOut_next (kept_tbCfgWrite h)

theorem kept_tbStepCmd {via n} (h : Kept s₀ s) : Kept s₀ (tbStepCmd via n s) := kept_tbMod (kept_journalReg h)

theorem keptOut_execTbStep {via n} (h : Kept s₀ s) : KeptOut s₀ (execTbStep via n s) :=
  keptOut_next (kept_tbStepCmd h)

theorem kept_applyStep {n d} (h : Kept s₀ s) : Kept s₀ (applyStep n d s) := kept_raise (kept_tbMod h)

theorem kept_tbStepApply {n} (h : Kept s₀ s) : Kept s₀ (tbStepApply n s) := by
  unfold tbStepApply
  extract_lets _ _ s1 s2
  have h1 : Kept s₀ s1 := by
    unfold s1
    split
    · exact kept_applyStep (kept_tbMod h)
    · exact kept_tbMod h
  have h2 : Kept s₀ s2 := by
    unfold s2
    split
    · exact kept_applyStep h1
    · exact h1
  exact kept_showPhase h2

theorem keptOut_execTbStepApply {n} (h : Kept s₀ s) : KeptOut s₀ (execTbStepApply n s) :=
  keptOut_next (kept_tbStepApply h)

theorem kept_loopSeated (h : Kept s₀ s) : Kept s₀ (loopSeated s) :=
  kept_setBit (kept_setF (kept_setF (kept_wrN (kept_setF h))))

theorem keptOut_execMediaSeat (h : Kept s₀ s) : KeptOut s₀ (execMediaSeat s) :=
  keptOut_next (kept_ite (kept_loopSeated (kept_seatAt (kept_epochLoad h))) h)

theorem keptOut_execMlRequalLock (h : Kept s₀ s) : KeptOut s₀ (execMlRequalLock s) :=
  keptOut_next (kept_ite (kept_setF h) h)

theorem kept_loopStep {refCycles} (h : Kept s₀ s) : Kept s₀ (loopStep refCycles s) := by
  unfold loopStep
  extract_lets
  split
  rename_i e1
  have h1 := kept_snd (kept_freeNat h) e1
  extract_lets _ _ _ _ _ _ _ _ s1
  have h2 : Kept s₀ s1 := kept_setF (kept_wrN h1)
  exact kept_with (kept_ite (kept_raise h2) h2)

theorem kept_loopFollow (h : Kept s₀ s) : Kept s₀ (loopFollow s) :=
  kept_ite (kept_setF (kept_setF h)) (kept_setF h)

theorem kept_holdSeconds {n refCycles} (h : Kept s₀ s) : Kept s₀ (holdSeconds n refCycles s) :=
  kept_ite (kept_setF (kept_tbMod h)) h

theorem kept_strobeTime {refCycles} (h : Kept s₀ s) : Kept s₀ (strobeTime refCycles s) := by
  unfold strobeTime
  extract_lets _ _ _ s1 s2 _ s3 _ _ s4
  have h1 : Kept s₀ s1 := kept_with (kept_eccWindow h)
  have h2 : Kept s₀ s2 := kept_forNat h1 (fun _ _ hx => kept_holdSeconds (kept_tbMod hx))
  have h3 : Kept s₀ s3 := kept_with h2
  have h4 : Kept s₀ s4 := kept_loopFollow (kept_judgePhase (kept_showPhase (kept_loopStep h3)))
  split
  · exact kept_ite (kept_with h4) h4
  · exact h4

theorem keptOut_execPpsOutSecond (h : Kept s₀ s) : KeptOut s₀ (execPpsOutSecond s) :=
  keptOut_next (kept_ite (kept_with h) h)

theorem keptOut_execMsiLoRead (h : Kept s₀ s) : KeptOut s₀ (execMsiLoRead s) :=
  keptOut_next (kept_with (kept_latch h))

theorem keptOut_execTbNsRead {n} (h : Kept s₀ s) : KeptOut s₀ (execTbNsRead n s) := keptOut_next (kept_tbNsRead h)

/-! ### Ethernet ports -/

theorem kept_portMod {p f} (h : Kept s₀ s) : Kept s₀ (portMod p f s) := kept_with h

theorem kept_rrShow {p r} (h : Kept s₀ s) : Kept s₀ (rrShow p r s) := kept_setF h

theorem kept_rrWriteOne {p r n trunc f stamp bytes i} (h : Kept s₀ s) :
    Kept s₀ (rrWriteOne p r n trunc f stamp bytes i s) :=
  kept_wrWord72 (kept_wrWord72 (kept_wrPacked h))

theorem kept_rrNobuf {p r} (h : Kept s₀ s) : Kept s₀ (rrNobuf p r s) := kept_raise (kept_cnt (kept_setF h))

theorem kept_rrPlace {p r f stamp bytes} (h : Kept s₀ s) : Kept s₀ (rrPlace p r f stamp bytes s) := by
  unfold rrPlace
  extract_lets _ _ _ _ _ _ _ _ _ s1
  have h1 : Kept s₀ s1 := kept_setF (kept_forNat (kept_setF h) (fun _ _ h2 => kept_rrWriteOne h2))
  exact kept_ite (kept_rrNobuf h) (kept_rrShow (kept_ite (kept_raise (kept_cnt (kept_setF h1))) h1))

theorem kept_rxDeliver {p inp bytes} (h : Kept s₀ s) : Kept s₀ (rxDeliver p inp bytes s) := by
  unfold rxDeliver
  extract_lets
  refine kept_ite (kept_cnt h) ?_
  split
  · exact kept_cnt h
  · exact kept_cnt h
  · exact kept_ite (kept_raise (kept_cnt h)) (kept_with h)
  · exact kept_ite (kept_cnt h) (kept_ite (kept_cnt h) (kept_rrPlace h))
  · exact kept_cnt h

theorem keptOut_execRxFrame {p inp} (h : Kept s₀ s) : KeptOut s₀ (execRxFrame p inp s) := by
  unfold execRxFrame
  refine keptOut_next ?_
  refine kept_ite h ?_
  refine kept_ite (kept_ite (kept_portMod (kept_cnt h)) h) ?_
  refine kept_ite (kept_cnt h) ?_
  exact kept_ite (kept_cnt h) (kept_ite (kept_cnt h) (kept_ite (kept_cnt h) (kept_rxDeliver (kept_cnt h))))

theorem kept_rrTailApply {p r v} (h : Kept s₀ s) : Kept s₀ (rrTailApply p r v s) :=
  kept_ite h (kept_ite (kept_raise h) (kept_rrShow (kept_setF h)))

theorem keptOut_execRxRingTailWrite {p r v} (h : Kept s₀ s) : KeptOut s₀ (execRxRingTailWrite p r v s) :=
  keptOut_next (kept_rrTailApply h)

theorem kept_moabyForget {p} (h : Kept s₀ s) : Kept s₀ (moabyForget p s) := kept_with h

theorem kept_layRing1 {p} (h : Kept s₀ s) : Kept s₀ (layRing1 p s) :=
  kept_setF (kept_setF (kept_forNat (kept_moabyForget h) (fun _ _ h1 => kept_wrWord72 (kept_wrWord72 h1))))

theorem kept_ringCfgApply {p r tx isBase v} (h : Kept s₀ s) : Kept s₀ (ringCfgApply p r tx isBase v s) := by
  unfold ringCfgApply
  extract_lets s1 s2
  have h1 : Kept s₀ s1 := by
    unfold s1
    split
    · exact kept_wr h
    · exact kept_wr h
    · exact kept_wr h
    · exact kept_wr h
  have h2 : Kept s₀ s2 := kept_setF (kept_setF h1)
  exact kept_ite (kept_portMod (kept_setF (kept_setF h1))) (kept_rrShow (kept_ite (kept_layRing1 h2) h2))

theorem kept_ringCfgWrite {via p r tx isBase v} (h : Kept s₀ s) :
    Kept s₀ (ringCfgWrite via p r tx isBase v s) := by
  unfold ringCfgWrite
  refine kept_ite (kept_raise (kept_journalReg h)) ?_
  exact kept_ite (kept_writeIgnored (kept_journalReg h)) (kept_ringCfgApply (kept_journalReg h))

theorem keptOut_execRingCfgWrite {via p r tx isBase v} (h : Kept s₀ s) :
    KeptOut s₀ (execRingCfgWrite via p r tx isBase v s) :=
  keptOut_next (kept_ringCfgWrite h)

theorem kept_trComplete {p r n reason} (h : Kept s₀ s) : Kept s₀ (trComplete p r n reason s) :=
  kept_portMod (kept_setF (kept_forNat h (fun _ _ h1 => kept_wrWord72 h1)))

theorem kept_trRefuse {p r n why} (h : Kept s₀ s) : Kept s₀ (trRefuse p r n why s) :=
  kept_raise (kept_trComplete (kept_cnt h))

theorem kept_trTailApply {p r v} (h : Kept s₀ s) : Kept s₀ (trTailApply p r v s) :=
  kept_ite (kept_raise h) (kept_portMod (kept_setF h))

theorem keptOut_execTxRingTailWrite {p r v} (h : Kept s₀ s) : KeptOut s₀ (execTxRingTailWrite p r v s) :=
  keptOut_next (kept_trTailApply h)

theorem keptOut_execTxTailTimeout {p r} (h : Kept s₀ s) : KeptOut s₀ (execTxTailTimeout p r s) := by
  unfold execTxTailTimeout
  refine keptOut_next ?_
  split
  · exact h
  · exact kept_ite (kept_ite (kept_trRefuse h) (kept_portMod h)) h

theorem kept_takeHead {p tc src} (h : Kept s₀ s) : Kept s₀ (takeHead p tc src s) := by
  unfold takeHead
  split
  · split
    · exact h
    · exact kept_portMod (kept_cnt h)
  · exact kept_portMod h
  · exact kept_portMod h
  · exact h

theorem kept_txStamp {p src stamp} (h : Kept s₀ s) : Kept s₀ (txStamp p src stamp s) :=
  kept_ite h (kept_ite (kept_wrWord72 (kept_wrWord72 h)) h)

theorem kept_txStart {p tc src stamp b} (h : Kept s₀ s) : Kept s₀ (txStart p tc src stamp b s) :=
  kept_portMod (kept_takeHead (kept_txStamp (kept_cnt h)))

theorem kept_txSettle {p now} (h : Kept s₀ s) : Kept s₀ (txSettle p now s) := by
  unfold txSettle
  split
  · exact h
  · exact kept_ite (kept_ite (kept_trComplete (kept_portMod h)) (kept_portMod h)) h

theorem kept_dropStreams {p bad counter err} (h : Kept s₀ s) : Kept s₀ (dropStreams p bad counter err s) :=
  kept_forEach (kept_portMod h) (fun _ _ h1 => kept_ite (kept_raise (kept_cnt h1)) (kept_cnt h1))

theorem kept_dropNofit {p} (h : Kept s₀ s) : Kept s₀ (dropNofit p s) :=
  kept_portMod (kept_dropStreams (kept_cntAdd (kept_dropStreams h)))

theorem kept_txFrame {p cycleNs stamp} (h : Kept s₀ s) : Kept s₀ (txFrame p cycleNs stamp s) := by
  unfold txFrame
  extract_lets s1
  have h1 : Kept s₀ s1 := kept_dropNofit (kept_txSettle h)
  split
  · exact kept_trRefuse h1
  · refine kept_ite h1 ?_
    split
    · exact h1
    · exact kept_txStart h1

theorem keptOut_execTxFrame {p cycleNs stamp} (h : Kept s₀ s) : KeptOut s₀ (execTxFrame p cycleNs stamp s) :=
  keptOut_next (kept_ite h (kept_txFrame h))

theorem kept_queueAck {p tc b} (h : Kept s₀ s) : Kept s₀ (queueAck p tc b s) :=
  kept_ite (kept_portMod h) (kept_cnt h)

theorem kept_queueLadle {p tc b} (h : Kept s₀ s) : Kept s₀ (queueLadle p tc b s) :=
  kept_ite (kept_portMod h) (kept_cnt h)

theorem kept_txCut {p} (h : Kept s₀ s) : Kept s₀ (txCut p s) := by
  unfold txCut
  extract_lets _ s1
  have h1 : Kept s₀ s1 := kept_portMod (kept_txSettle h)
  split
  · exact kept_txSettle h
  · exact kept_ite (kept_trRefuse h1) h1

theorem kept_portLost {p} (h : Kept s₀ s) : Kept s₀ (portLost p s) := by
  unfold portLost
  refine kept_raise ?_
  refine kept_cnt ?_
  refine kept_portMod ?_
  exact kept_cntAdd (kept_dropStreams (kept_setF (kept_setF (kept_setF (kept_setF (kept_setF (kept_txCut h)))))))

theorem keptOut_execLinkDown {p} (h : Kept s₀ s) : KeptOut s₀ (execLinkDown p s) :=
  keptOut_next (kept_ite (kept_portLost h) h)

theorem kept_modeApply {p was} (h : Kept s₀ s) : Kept s₀ (modeApply p was s) :=
  kept_ite h (kept_ite (kept_portLost h) (kept_setF h))

theorem keptOut_execLinkUp {p badSpeed anDone} (h : Kept s₀ s) : KeptOut s₀ (execLinkUp p badSpeed anDone s) := by
  unfold execLinkUp
  refine keptOut_next ?_
  refine kept_ite h ?_
  refine kept_ite (kept_setF (kept_ite (kept_portLost h) h)) ?_
  exact kept_ite h (kept_setBit (kept_setF (kept_setF (kept_setF (kept_setF (kept_portMod h))))))

theorem kept_gclResult {p cmd reason} (h : Kept s₀ s) : Kept s₀ (gclResult p cmd reason s) := by
  unfold gclResult
  extract_lets s1
  have h1 : Kept s₀ s1 := kept_setF (kept_setF h)
  exact kept_ite h1 (kept_raise h1)

theorem kept_gclCommit {via p} (h : Kept s₀ s) : Kept s₀ (gclCommit via p s) := by
  unfold gclCommit
  refine kept_ite (kept_gclResult (kept_journalReg h)) ?_
  refine kept_ite (kept_gclResult (kept_journalReg h)) ?_
  refine kept_ite (kept_gclResult (kept_journalReg h)) ?_
  exact kept_gclResult (kept_setF (kept_portMod (kept_journalReg h)))

theorem keptOut_execGclCommit {via p} (h : Kept s₀ s) : KeptOut s₀ (execGclCommit via p s) :=
  keptOut_next (kept_gclCommit h)

theorem kept_gclCancel {via p} (h : Kept s₀ s) : Kept s₀ (gclCancel via p s) := by
  unfold gclCancel
  extract_lets
  split
  · exact kept_gclResult (kept_journalReg h)
  · refine kept_ite (kept_gclResult (kept_setF (kept_portMod (kept_journalReg h)))) ?_
    exact kept_gclResult (kept_journalReg h)

theorem keptOut_execGclCancel {via p} (h : Kept s₀ s) : KeptOut s₀ (execGclCancel via p s) :=
  keptOut_next (kept_gclCancel h)

theorem kept_gclApply {p} (h : Kept s₀ s) : Kept s₀ (gclApply p s) :=
  kept_setBit (kept_portMod (kept_setF (kept_setF (kept_setF (kept_forNat h (fun _ _ h1 => kept_wr h1))))))

theorem keptOut_execGclApply {p} (h : Kept s₀ s) : KeptOut s₀ (execGclApply p s) := by
  unfold execGclApply
  refine keptOut_next ?_
  split
  · exact kept_ite (kept_gclApply h) h
  · exact h

theorem keptOut_execGclEntryAdvance {p} (h : Kept s₀ s) : KeptOut s₀ (execGclEntryAdvance p s) :=
  keptOut_next (kept_ite h (kept_ite (kept_setF (kept_portMod h)) (kept_setF (kept_portMod h))))

theorem keptOut_execLpiEnter {p cycleNs} (h : Kept s₀ s) : KeptOut s₀ (execLpiEnter p cycleNs s) :=
  keptOut_next (kept_ite (kept_cnt (kept_setF (kept_txSettle h))) (kept_txSettle h))

theorem keptOut_execLpiWake {p} (h : Kept s₀ s) : KeptOut s₀ (execLpiWake p s) :=
  keptOut_next (kept_ite (kept_portMod (kept_setF h)) h)

/-! ### Ladle frames -/

theorem kept_ladleSend {group ty count entries} (h : Kept s₀ s) : Kept s₀ (ladleSend group ty count entries s) :=
  kept_ite (kept_queueLadle (kept_with h)) (kept_with h)

theorem kept_ladleSendAll {group ty size most entries} (h : Kept s₀ s) :
    Kept s₀ (ladleSendAll group ty size most entries s) :=
  kept_forEach h (fun _ _ h1 => kept_ladleSend h1)

theorem kept_ladleOut {ty entries} (h : Kept s₀ s) : Kept s₀ (ladleOut ty entries s) := by
  unfold ladleOut
  split
  · exact kept_ladleSendAll h
  · exact kept_ladleSendAll h
  · exact kept_ladleSendAll h

theorem kept_ladlePut {ty entry} (h : Kept s₀ s) : Kept s₀ (ladlePut ty entry s) := by
  unfold ladlePut
  split
  · exact kept_ladleOut h
  · exact kept_with h

theorem kept_ladleOpen (h : Kept s₀ s) : Kept s₀ (ladleOpen s) := kept_with h

theorem kept_ladleFlush (h : Kept s₀ s) : Kept s₀ (ladleFlush s) := by
  unfold ladleFlush
  split
  · exact h
  · exact kept_forEach (kept_with h) (fun _ _ h1 => kept_ladleOut h1)

theorem kept_ladleBatch {f} (hf : ∀ x, Kept s₀ x → Kept s₀ (f x)) (h : Kept s₀ s) : Kept s₀ (ladleBatch f s) :=
  kept_ite (hf _ h) (kept_ladleFlush (hf _ (kept_ladleOpen h)))

theorem kept_ladleDecide {litem verdict reason} (h : Kept s₀ s) : Kept s₀ (ladleDecide litem verdict reason s) :=
  kept_ladlePut (kept_with h)

/-! ### Objects and metadata -/

theorem kept_objMod {o f} (h : Kept s₀ s) : Kept s₀ (objMod o f s) := kept_with h

theorem kept_hqAdvance {n} (h : Kept s₀ s) : Kept s₀ (hqAdvance n s) := by
  induction n generalizing s with
  | zero => exact h
  | succ n ih => exact kept_ite (ih (kept_with (kept_setF h))) h

theorem kept_hqResult {i v} (h : Kept s₀ s) : Kept s₀ (hqResult i v s) :=
  kept_hqAdvance (kept_with (kept_setBit (kept_wrWord72 h)))

theorem kept_jobVerdict {job pos v} (h : Kept s₀ s) : Kept s₀ (jobVerdict job pos v s) := kept_with h

theorem kept_giveVerdict {v r} (h : Kept s₀ s) : Kept s₀ (giveVerdict v r s) := by
  unfold giveVerdict
  split
  · exact kept_jobVerdict h
  · exact kept_hqResult h

theorem kept_recordReject {reason src obj} (h : Kept s₀ s) : Kept s₀ (recordReject reason src obj s) := by
  unfold recordReject
  exact kept_raise (kept_setF (kept_setF (kept_setF (kept_cnt h))))

theorem kept_rejectNow {reason src obj r} (h : Kept s₀ s) : Kept s₀ (rejectNow reason src obj r s) :=
  kept_giveVerdict (kept_recordReject h)

theorem kept_acceptRec {obj seq unprot} (h : Kept s₀ s) : Kept s₀ (acceptRec obj seq unprot s) := by
  unfold acceptRec
  extract_lets
  split
  · exact h
  · extract_lets _ _ _ s1 _ s2
    have h1 : Kept s₀ s1 := kept_cnt (kept_objMod h)
    have h2 : Kept s₀ s2 := kept_journal (kept_ite h1 (kept_setBit (kept_cntAdd h1)))
    exact kept_forEach (kept_ite (kept_raise (kept_setBit (kept_countUnprot h2))) h2) (fun _ _ h3 =>
      kept_giveVerdict h3)

theorem kept_dropRefused {obj seq} (h : Kept s₀ s) : Kept s₀ (dropRefused obj seq s) := kept_objMod h

theorem kept_refuseRec {obj seq reason} (h : Kept s₀ s) : Kept s₀ (refuseRec obj seq reason s) := by
  unfold refuseRec
  split
  · exact h
  · exact kept_forEach (kept_ite (kept_raise (kept_setF (kept_setF (kept_setF (kept_cnt (kept_dropRefused h))))))
      (kept_dropRefused h)) (fun _ _ h1 => kept_giveVerdict h1)

theorem kept_refuseEverywhere {obj seq reason tellStandby} (h : Kept s₀ s) :
    Kept s₀ (refuseEverywhere obj seq reason tellStandby s) := by
  unfold refuseEverywhere
  split
  · exact h
  · extract_lets s1
    have h1 : Kept s₀ s1 := by
      unfold s1
      split
      · exact kept_ite (kept_flkDiscard (kept_dropItem h)) (kept_dropItem h)
      · exact h
    exact kept_refuseRec (kept_ite h1 (kept_raise (kept_ladleDecide (kept_cnt h1))))

theorem kept_tryAccept {obj seq} (h : Kept s₀ s) : Kept s₀ (tryAccept obj seq s) := by
  unfold tryAccept
  split
  · exact h
  · extract_lets s1
    have h1 : Kept s₀ s1 := by
      unfold s1
      split
      · exact kept_flkConfirm h
      · exact h
    exact kept_ite h (kept_acceptRec (kept_ite h1 (kept_ladleDecide h1)))

theorem kept_enqueue {g again src ack unprot} (h : Kept s₀ s) : Kept s₀ (enqueue g again src ack unprot s) := by
  unfold enqueue
  extract_lets
  split
  rename_i s1 e1
  have h1 : Kept s₀ s1 := by
    split at e1
    · cases e1
      exact kept_ladlePut (kept_cnt (kept_wrN (kept_objMod h)))
    · cases e1
      exact kept_objMod h
  split
  rename_i s2 e2
  have h2 : Kept s₀ s2 := by
    split at e2
    · cases e2
      exact kept_mirrorSend h1
    · cases e2
      exact h1
  have h3 {o f} : Kept s₀ (objMod o f s2) := kept_objMod h2
  exact kept_ite (kept_acceptRec (kept_ite h3 (kept_ladleDecide h3))) (kept_tryAccept h3)

theorem kept_judgeNew {r compact again src ack} (h : Kept s₀ s) :
    Kept s₀ (judgeNew r compact again src ack s) := by
  unfold judgeNew
  split
  · exact kept_rejectNow (kept_cnt h)
  · extract_lets s1
    have h1 : Kept s₀ s1 := kept_ite (kept_cnt h) h
    refine kept_ite (kept_rejectNow h1) ?_
    exact kept_ite (kept_rejectNow (kept_raise h1)) (kept_ite (kept_rejectNow h1) (kept_enqueue h1))

theorem kept_judge {b compact src ack} (h : Kept s₀ s) : Kept s₀ (judge b compact src ack s) := by
  unfold judge
  extract_lets
  split
  · refine kept_ite (kept_rejectNow h) ?_
    refine kept_ite (kept_rejectNow h) ?_
    refine kept_ite (kept_rejectNow h) ?_
    refine kept_ite (kept_rejectNow h) ?_
    split
    · exact kept_rejectNow h
    · exact kept_giveVerdict (kept_cnt h)
    · exact kept_objMod (kept_cnt h)
    · exact kept_judgeNew (kept_ite (kept_cnt h) h)
  · exact kept_rejectNow h

theorem kept_moabyReturn {p n} (h : Kept s₀ s) : Kept s₀ (moabyReturn p n s) := kept_rrShow (kept_setF h)

theorem kept_frameBad {p code} (h : Kept s₀ s) : Kept s₀ (frameBad p code s) := by
  unfold frameBad
  exact kept_raise (kept_setF (kept_setF (kept_cnt h)))

theorem kept_frameTake {p n f mac b} (h : Kept s₀ s) : Kept s₀ (frameTake p n f mac b s) := kept_with h

theorem kept_frameAbandon {p} (h : Kept s₀ s) : Kept s₀ (frameAbandon p s) := by
  unfold frameAbandon
  split
  · exact h
  · exact kept_moabyReturn (kept_cnt (kept_with h))

theorem keptOut_execMetadataFrameCheck {p} (h : Kept s₀ s) : KeptOut s₀ (execMetadataFrameCheck p s) := by
  unfold execMetadataFrameCheck
  refine keptOut_next ?_
  refine kept_ite (kept_ite h (kept_frameAbandon h)) ?_
  split
  · exact h
  · refine kept_ite (kept_moabyReturn (kept_cnt h)) ?_
    refine kept_ite (kept_moabyReturn h) ?_
    exact kept_ite (kept_moabyReturn (kept_frameBad h)) (kept_ite (kept_with h) (kept_frameTake h))

theorem kept_judgePort {p} (h : Kept s₀ s) : Kept s₀ (judgePort p s) := by
  unfold judgePort
  split
  · exact h
  · split
    · exact h
    · extract_lets _ _ _ s1
      have h1 : Kept s₀ s1 := kept_judge (kept_with h)
      exact kept_ite (kept_moabyReturn h1) h1

theorem kept_judgeHq (h : Kept s₀ s) : Kept s₀ (judgeHq s) := kept_judge (kept_setF h)

theorem kept_judgeOne {src} (h : Kept s₀ s) : Kept s₀ (judgeOne src s) :=
  kept_ite (kept_judgeHq (kept_with h)) (kept_ite (kept_judgePort (kept_with h)) (kept_frameAbandon (kept_with h)))

theorem keptOut_execRecordJudge (h : Kept s₀ s) : KeptOut s₀ (execRecordJudge s) := by
  unfold execRecordJudge
  refine keptOut_next ?_
  split
  · exact h
  · extract_lets s1
    have h1 : Kept s₀ s1 := kept_judgeOne (kept_ladleOpen h)
    exact kept_ite (kept_judgeOne h) (kept_ite h1 (kept_ladleFlush h1))

theorem keptOut_execRecordLateRefuse {obj} (h : Kept s₀ s) : KeptOut s₀ (execRecordLateRefuse obj s) := by
  unfold execRecordLateRefuse
  refine keptOut_next ?_
  exact kept_ladleBatch (fun _ h1 => kept_forEach h1 (fun _ _ h2 => kept_refuseEverywhere (kept_ite (kept_cnt h2)
    h2))) h

theorem keptOut_execAckFrameSend (h : Kept s₀ s) : KeptOut s₀ (execAckFrameSend s) := by
  unfold execAckFrameSend
  refine keptOut_next ?_
  split
  · exact h
  · exact kept_ite (kept_queueAck (kept_with h)) (kept_with h)

theorem kept_hqTailWrite {v} (h : Kept s₀ s) : Kept s₀ (hqTailWrite v s) := kept_ite (kept_raise h) (kept_setF h)

theorem keptOut_execHqTailWrite {v} (h : Kept s₀ s) : KeptOut s₀ (execHqTailWrite v s) :=
  keptOut_next (kept_hqTailWrite h)

theorem kept_hqBaseApply {v} (h : Kept s₀ s) : Kept s₀ (hqBaseApply v s) :=
  kept_with (kept_setF (kept_setF (kept_setF (kept_wr h))))

theorem kept_hqBaseWrite {via v} (h : Kept s₀ s) : Kept s₀ (hqBaseWrite via v s) :=
  kept_ite (kept_raise (kept_journalReg h)) (kept_hqBaseApply (kept_journalReg h))

theorem keptOut_execHqBaseWrite {via v} (h : Kept s₀ s) : KeptOut s₀ (execHqBaseWrite via v s) :=
  keptOut_next (kept_hqBaseWrite h)

theorem kept_objCmdPlace {obj op k} (h : Kept s₀ s) : Kept s₀ (objCmdPlace obj op k s) := kept_objMod h

theorem kept_objCmd {via obj op} (h : Kept s₀ s) : Kept s₀ (objCmd via obj op s) := by
  unfold objCmd
  extract_lets
  refine kept_ite (kept_writeIgnored (kept_journalReg h)) ?_
  split
  rename_i e1
  have h1 := kept_snd (kept_mirrorUntimed (kept_journalReg h)) e1
  exact kept_ite h1 (kept_objCmdPlace h1)

theorem keptOut_execObjCmdReseq {via obj} (h : Kept s₀ s) : KeptOut s₀ (execObjCmdReseq via obj s) :=
  keptOut_next (kept_objCmd h)

theorem keptOut_execObjCmdFlush {via obj} (h : Kept s₀ s) : KeptOut s₀ (execObjCmdFlush via obj s) :=
  keptOut_next (kept_objCmd h)

theorem kept_objCmdEffect {obj op} (h : Kept s₀ s) : Kept s₀ (objCmdEffect obj op s) :=
  kept_ite (kept_objMod h) (kept_ite (kept_objMod h) (kept_setBit (kept_cntAdd (kept_objMod h))))

theorem keptOut_execObjCmdAct {obj} (h : Kept s₀ s) : KeptOut s₀ (execObjCmdAct obj s) := by
  unfold execObjCmdAct
  refine keptOut_next ?_
  split
  · exact h
  · exact kept_ite (kept_objCmdEffect (kept_objMod h)) h

theorem kept_segmentsAt {b} (h : Kept s₀ s) : Kept s₀ (segmentsAt b s) := kept_with h

theorem kept_segmentsCurrent (h : Kept s₀ s) : Kept s₀ (segmentsCurrent s) := kept_with (kept_segmentsAt h)

/-! ### Stream contexts -/

theorem kept_rxMod {c f} (h : Kept s₀ s) : Kept s₀ (rxMod c f s) := kept_with h

theorem kept_txMod {t f} (h : Kept s₀ s) : Kept s₀ (txMod t f s) := kept_with h

theorem kept_rxCtlApply {c v} (h : Kept s₀ s) : Kept s₀ (rxCtlApply c v s) := by
  unfold rxCtlApply
  extract_lets
  refine kept_ite ?_ (kept_ite h (kept_rxMod (kept_setF h)))
  refine kept_ite (kept_ite h (kept_writeIgnored h)) ?_
  split
  · exact kept_raise (kept_setF h)
  · exact kept_rxMod (kept_setF (kept_setF h))

theorem kept_txCtlApply {t v} (h : Kept s₀ s) : Kept s₀ (txCtlApply t v s) := by
  unfold txCtlApply
  extract_lets
  refine kept_ite ?_ (kept_ite h (kept_txMod (kept_setF h)))
  refine kept_ite (kept_ite h (kept_writeIgnored h)) ?_
  split
  · exact kept_raise (kept_setF h)
  · exact kept_txMod (kept_setF (kept_setF h))

theorem keptOut_execStrRxEnable {via c} (h : Kept s₀ s) : KeptOut s₀ (execStrRxEnable via c s) :=
  keptOut_next (kept_renderWrite (fun _ h1 => kept_rxCtlApply h1) h)

theorem keptOut_execStrRxDisable {via c} (h : Kept s₀ s) : KeptOut s₀ (execStrRxDisable via c s) :=
  keptOut_next (kept_renderWrite (fun _ h1 => kept_rxCtlApply h1) h)

theorem keptOut_execStrTxEnable {via t} (h : Kept s₀ s) : KeptOut s₀ (execStrTxEnable via t s) :=
  keptOut_next (kept_renderWrite (fun _ h1 => kept_txCtlApply h1) h)

theorem keptOut_execStrTxDisable {via t} (h : Kept s₀ s) : KeptOut s₀ (execStrTxDisable via t s) :=
  keptOut_next (kept_renderWrite (fun _ h1 => kept_txCtlApply h1) h)

theorem kept_legSeq {c legB seq modulus} (h : Kept s₀ s) : Kept s₀ (legSeq c legB seq modulus s) := by
  unfold legSeq
  extract_lets
  split
  · exact kept_rxMod h
  · exact kept_ite (kept_rxMod (kept_cntAdd h)) h

theorem kept_rxAdmitted {c legB p} (h : Kept s₀ s) : Kept s₀ (rxAdmitted c legB p s) :=
  kept_rxMod (kept_setF (kept_setF (kept_wrN (kept_wrN (kept_cnt h)))))

theorem kept_rxPlace {c legB beyond p} (h : Kept s₀ s) : Kept s₀ (rxPlace c legB beyond p s) := by
  unfold rxPlace rxPlace.raiseEarly
  extract_lets _ _ _ _ _ _ _ _ _ _ _ _ s2
  have h2 : Kept s₀ s2 := kept_ite (kept_rxMod h) (kept_rxAdmitted (kept_rxMod h))
  exact kept_ite (kept_setBit (kept_cnt h)) (kept_ite (kept_setBit (kept_cnt h2)) (kept_ite (kept_cnt h2) h2))

theorem kept_rxPacket {c a} (h : Kept s₀ s) : Kept s₀ (rxPacket c a s) := by
  unfold rxPacket
  split
  · exact kept_cnt h
  · refine kept_ite (kept_raise (kept_cnt (kept_legSeq h))) ?_
    exact kept_rxPlace (kept_ite (kept_setF (kept_legSeq h)) (kept_legSeq h))

theorem keptOut_execStreamPacketRx {c} (h : Kept s₀ s) : KeptOut s₀ (execStreamPacketRx c s) := by
  unfold execStreamPacketRx
  refine keptOut_next ?_
  split
  · exact h
  · exact kept_ite (kept_with h) (kept_rxPacket (kept_with h))

theorem keptOut_execStrRxTimeout {c} (h : Kept s₀ s) : KeptOut s₀ (execStrRxTimeout c s) :=
  keptOut_next (kept_ite (kept_raise (kept_setF h)) h)

theorem keptOut_execClaimHoldTimeout {c} (h : Kept s₀ s) : KeptOut s₀ (execClaimHoldTimeout c s) :=
  keptOut_next (kept_ite (kept_setF h) h)

theorem kept_freeSamples {n} (h : Kept s₀ s) : Kept s₀ (freeSamples n s).2 := by
  induction n generalizing s with
  | zero => exact h
  | succ n ih => exact ih (kept_freeNat (w := 36) h)

theorem kept_putIngest {src xs} (h : Kept s₀ s) : Kept s₀ (putIngest src xs s) := kept_with h

theorem kept_rxSamples {asrc sw locked silent} (h : Kept s₀ s) :
    Kept s₀ (rxSamples asrc sw locked silent s).2 := by
  unfold rxSamples
  refine kept_ite_snd h ?_
  refine kept_ite_snd h ?_
  split
  rename_i e1
  have h1 := kept_snd (kept_freeSamples h) e1
  refine kept_ite_snd h1 ?_
  split
  exact h1

theorem kept_rxIngest {c} (h : Kept s₀ s) : Kept s₀ (rxIngest c s) := by
  unfold rxIngest
  extract_lets
  refine kept_ite (kept_rxMod (kept_setF h)) ?_
  split
  split
  extract_lets _ _ s1
  have h1 : Kept s₀ s1 := kept_setF (kept_ite (kept_rxMod h) (kept_raise (kept_cntAdd (kept_rxMod h))))
  refine kept_forNat (kept_ite (kept_raise (kept_cnt h1)) h1) (fun _ _ h2 => ?_)
  refine kept_ite (kept_putIngest h2) ?_
  split
  rename_i e1
  have h3 := kept_snd (kept_rxSamples h2) e1
  exact kept_putIngest h3

theorem kept_rxStop {c} (h : Kept s₀ s) : Kept s₀ (rxStop c s) :=
  kept_rxMod (kept_setF (kept_setF (kept_setF (kept_setF h))))

theorem kept_rxBoundary {c} (h : Kept s₀ s) : Kept s₀ (rxBoundary c s) := by
  unfold rxBoundary
  extract_lets _ _ s1 _ s2 s3
  have h1 : Kept s₀ s1 := kept_ite (kept_rxStop h) h
  have h2 : Kept s₀ s2 := kept_ite (kept_rxMod (kept_setF h1)) h1
  have h3 : Kept s₀ s3 := kept_ite (kept_setF h2) h2
  exact kept_ite (kept_setF h3) h3

theorem kept_rxStrobe (h : Kept s₀ s) : Kept s₀ (rxStrobe s) :=
  kept_forEach (kept_with (kept_forEach h (fun _ _ h1 => kept_rxBoundary h1))) (fun _ _ h2 => kept_rxIngest h2)

theorem kept_chanMod {c f} (h : Kept s₀ s) : Kept s₀ (chanMod c f s) := kept_with h

theorem kept_cvtSat {n ch} (h : Kept s₀ s) : Kept s₀ (cvtSat n ch s) := kept_ite h (kept_raise (kept_cntAdd h))

theorem kept_txDrop {t} (h : Kept s₀ s) : Kept s₀ (txDrop t s) := kept_raise (kept_cnt h)

theorem kept_queuePort {t legB p} (h : Kept s₀ s) : Kept s₀ (queuePort t legB p s) := by
  unfold queuePort
  extract_lets _ _ _ s1
  have h1 : Kept s₀ s1 := by
    unfold s1
    split
    · exact h
    · exact kept_txDrop (kept_portMod h)
  exact kept_ite (kept_cnt h) (kept_ite (kept_txDrop h) (kept_portMod h1))

theorem kept_queuePkt {t p} (h : Kept s₀ s) : Kept s₀ (queuePkt t p s) :=
  kept_ite (kept_queuePort (kept_queuePort h)) (kept_queuePort h)

theorem kept_emitPkt {t frames} (h : Kept s₀ s) : Kept s₀ (emitPkt t frames s) := by
  unfold emitPkt
  extract_lets _ _ _ _ _ s1
  have h1 : Kept s₀ s1 := kept_txMod (kept_setF h)
  exact kept_ite (kept_queuePkt h1) (kept_txMod h1)

theorem kept_emitAll {t n} (h : Kept s₀ s) : Kept s₀ (emitAll t n s) := by
  induction n generalizing s with
  | zero => exact h
  | succ n ih => exact kept_ite h (ih (kept_emitPkt h))

theorem kept_txGather {t} (h : Kept s₀ s) : Kept s₀ (txGather t s) :=
  kept_emitAll (kept_txMod (kept_forEach h (fun _ _ h1 => kept_cvtSat h1)))

theorem kept_txStop {t} (h : Kept s₀ s) : Kept s₀ (txStop t s) := kept_txMod (kept_setF h)

theorem kept_txBoundary {t} (h : Kept s₀ s) : Kept s₀ (txBoundary t s) := by
  unfold txBoundary
  extract_lets _ _ s1
  have h1 : Kept s₀ s1 := kept_ite (kept_txStop h) h
  exact kept_ite (kept_txMod (kept_setF h1)) h1

theorem kept_txStrobe (h : Kept s₀ s) : Kept s₀ (txStrobe s) := by
  unfold txStrobe
  extract_lets _ s1
  have h1 : Kept s₀ s1 := kept_forEach h (fun _ _ h2 => kept_txBoundary h2)
  refine kept_ite (kept_forEach h1 (fun _ _ h3 => kept_txMod h3)) ?_
  exact kept_forEach h1 (fun _ _ h4 => kept_ite (kept_txGather h4) h4)

theorem kept_releaseHeld {since} (h : Kept s₀ s) : Kept s₀ (releaseHeld since s) :=
  kept_forEach h (fun _ _ h1 => kept_forEach (kept_setF (kept_txMod h1)) (fun _ _ h2 => kept_queuePkt h2))

theorem keptOut_execHeldPacketExpire {t} (h : Kept s₀ s) : KeptOut s₀ (execHeldPacketExpire t s) :=
  keptOut_next (kept_ite h (kept_setF (kept_cntAdd (kept_txMod h))))

/-! ### Geometry units -/

theorem kept_geoMod {h' f} (h : Kept s₀ s) : Kept s₀ (geoMod h' f s) := kept_with h

theorem kept_meshPromote {b} (h : Kept s₀ s) : Kept s₀ (meshPromote b s) :=
  kept_forEach (kept_with h) (fun _ _ h1 => kept_with h1)

theorem kept_geoKeep {h' fresh g} (h : Kept s₀ s) : Kept s₀ (geoKeep h' fresh g s) :=
  kept_ite (kept_with h) (kept_geoMod h)

theorem kept_clampReport {o n} (h : Kept s₀ s) : Kept s₀ (clampReport o n s) := by
  unfold clampReport
  extract_lets s1
  have h1 : Kept s₀ s1 := kept_cntAdd (kept_setBit h)
  exact kept_ite h1 (kept_raise (kept_objMod h1))

theorem kept_geoEvalSlot {b h'} (h : Kept s₀ s) : Kept s₀ (geoEvalSlot b h' s) := by
  unfold geoEvalSlot
  split
  split
  · exact h
  · extract_lets
    split
    · refine kept_ite h ?_
      split
      extract_lets s1
      have h1 : Kept s₀ s1 := kept_ite h (kept_clampReport h)
      split
      rename_i e1
      have h2 := kept_snd (kept_ite_snd (kept_freeNat h1) h1) e1
      extract_lets _ _ s2 s3 s4
      have h3 : Kept s₀ s2 := kept_ite (kept_raise (kept_cnt (kept_geoKeep h2))) (kept_geoKeep h2)
      have h4 : Kept s₀ s3 := kept_ite (kept_raise (kept_cnt h3)) h3
      have h5 : Kept s₀ s4 := kept_ite h4 (kept_raise (kept_cntAdd h4))
      exact kept_ite (kept_raise (kept_cnt h5)) h5
    · exact h

theorem kept_geoStrobe (h : Kept s₀ s) : Kept s₀ (geoStrobe s) := by
  unfold geoStrobe
  extract_lets _ _ _ _ s1
  have h1 : Kept s₀ s1 := kept_segmentsAt (kept_with h)
  exact kept_ite (kept_forEach (kept_meshPromote h1) (fun _ _ h2 => kept_geoEvalSlot h2)) h1

theorem keptOut_execGeoOverrun {h'} (h : Kept s₀ s) : KeptOut s₀ (execGeoOverrun h' s) := by
  unfold execGeoOverrun
  refine keptOut_next ?_
  split
  · exact h
  · exact kept_raise (kept_cnt (kept_with (kept_geoMod h)))

theorem keptOut_execGChange (h : Kept s₀ s) : KeptOut s₀ (execGChange s) := by
  unfold execGChange
  refine keptOut_next ?_
  split
  · exact h
  · exact kept_ite (kept_setBit (kept_setF (kept_with (kept_with h)))) h

/-! ### Audio port lanes -/

theorem kept_grpMod {g f} (h : Kept s₀ s) : Kept s₀ (grpMod g f s) := kept_with h

theorem kept_laneMod {l f} (h : Kept s₀ s) : Kept s₀ (laneMod l f s) := kept_with h

theorem kept_grpCtlApply {g v} (h : Kept s₀ s) : Kept s₀ (grpCtlApply g v s) := by
  unfold grpCtlApply
  extract_lets
  refine kept_ite ?_ (kept_ite h (kept_grpMod (kept_setF h)))
  refine kept_ite h ?_
  split
  · exact kept_raise (kept_setF (kept_setF h))
  · exact kept_grpMod (kept_setF (kept_setF (kept_setF h)))

theorem keptOut_execApdGroupEnable {via g} (h : Kept s₀ s) : KeptOut s₀ (execApdGroupEnable via g s) :=
  keptOut_next (kept_grpCtlApply (kept_journalReg h))

theorem keptOut_execApdGroupDisable {via g} (h : Kept s₀ s) : KeptOut s₀ (execApdGroupDisable via g s) :=
  keptOut_next (kept_grpCtlApply (kept_journalReg h))

theorem kept_showPend (h : Kept s₀ s) : Kept s₀ (showPend s) := kept_setF h

theorem kept_maskTransfer {l} (h : Kept s₀ s) : Kept s₀ (maskTransfer l s) :=
  kept_setBit (kept_showPend (kept_setF (kept_laneMod (kept_wr h))))

theorem kept_laneMaskApply {l v} (h : Kept s₀ s) : Kept s₀ (laneMaskApply l v s) := by
  unfold laneMaskApply
  extract_lets s1
  have h1 : Kept s₀ s1 := kept_showPend (kept_setF (kept_wr h))
  exact kept_ite h1 (kept_maskTransfer h1)

theorem keptOut_execLaneMaskWrite {via l v} (h : Kept s₀ s) : KeptOut s₀ (execLaneMaskWrite via l v s) :=
  keptOut_next (kept_laneMaskApply (kept_journalReg h))

theorem keptOut_execLaneMaskTransfer {l} (h : Kept s₀ s) : KeptOut s₀ (execLaneMaskTransfer l s) :=
  keptOut_next (kept_ite (kept_maskTransfer h) h)

theorem kept_showFill {g} (h : Kept s₀ s) : Kept s₀ (showFill g s) := kept_setF h

theorem kept_riserWrite {g f} (h : Kept s₀ s) : Kept s₀ (riserWrite g f s) := by
  unfold riserWrite
  extract_lets _ _ s1
  have h1 : Kept s₀ s1 := kept_grpMod (kept_ite (kept_raise (kept_cnt h)) h)
  exact kept_showFill (kept_ite (kept_setF h1) h1)

theorem kept_slotSats {g} (h : Kept s₀ s) : Kept s₀ (slotSats g s) :=
  kept_forEach h (fun _ _ h1 => kept_forNat h1 (fun _ _ h2 => kept_ite h2 (kept_cvtSat h2)))

theorem kept_lanePins {l} (h : Kept s₀ s) : Kept s₀ (lanePins l s) := kept_laneMod h

theorem kept_riserRead {g} (h : Kept s₀ s) : Kept s₀ (riserRead g s) := by
  unfold riserRead
  extract_lets s1
  have h1 : Kept s₀ s1 := by
    unfold s1
    refine kept_ite h ?_
    split
    · exact kept_raise (kept_cnt h)
    · exact kept_slotSats (kept_showFill (kept_grpMod h))
  exact kept_forEach h1 (fun _ _ h2 => kept_lanePins h2)

theorem kept_masterFrame {g} (h : Kept s₀ s) : Kept s₀ (masterFrame g s) :=
  kept_forEach (kept_slotSats (kept_grpMod (kept_setF h))) (fun _ _ h1 => kept_lanePins h1)

theorem kept_biphasePins {l} (h : Kept s₀ s) : Kept s₀ (biphasePins l s) := kept_laneMod h

theorem kept_biphaseOut {l} (h : Kept s₀ s) : Kept s₀ (biphaseOut l s) :=
  kept_biphasePins (kept_forNat h (fun _ _ h1 => kept_ite h1 (kept_cvtSat h1)))

theorem kept_laneNote {l} (h : Kept s₀ s) : Kept s₀ (laneNote l s) := kept_laneMod h

theorem kept_grpFrame {g} (h : Kept s₀ s) : Kept s₀ (grpFrame g s) := by
  unfold grpFrame
  extract_lets _ _ s1
  have h1 : Kept s₀ s1 := kept_forEach (kept_grpMod h) (fun _ _ h2 => kept_laneNote h2)
  refine kept_ite h ?_
  exact kept_forEach (kept_ite (kept_forEach h1 (fun _ _ h3 => kept_lanePins h3)) (kept_ite (kept_ite
    (kept_masterFrame h1) h1) (kept_ite (kept_riserWrite h1) h1))) (fun _ _ h4 => kept_biphaseOut h4)

theorem kept_apdFrame (h : Kept s₀ s) : Kept s₀ (apdFrame s) :=
  kept_forNat (kept_with h) (fun _ _ h1 => kept_grpFrame h1)

theorem kept_grpRun {g fadeIn} (h : Kept s₀ s) : Kept s₀ (grpRun g fadeIn s) :=
  kept_grpMod (kept_setF (kept_setF (kept_setF h)))

theorem kept_grpLoss {g gap} (h : Kept s₀ s) : Kept s₀ (grpLoss g gap s) := by
  unfold grpLoss
  extract_lets _ _ s1
  have h1 : Kept s₀ s1 := kept_grpMod (kept_raise (kept_cnt (kept_grpMod h)))
  exact kept_ite (kept_grpMod h) (kept_ite h1 (kept_grpMod (kept_setF h1)))

theorem kept_grpAccept {g stamp interval} (h : Kept s₀ s) : Kept s₀ (grpAccept g stamp interval s) := by
  unfold grpAccept
  extract_lets _ _ _ s1
  have h1 : Kept s₀ s1 := kept_grpMod (kept_grpMod h)
  refine kept_ite (kept_grpMod h) ?_
  split
  · exact kept_grpMod (kept_grpMod h)
  · exact kept_ite (kept_ite (kept_ite (kept_grpRun h1) (kept_raise (kept_grpRun h1))) (kept_grpMod h1)) h1

theorem kept_grpReject {g bclk} (h : Kept s₀ s) : Kept s₀ (grpReject g bclk s) := by
  unfold grpReject
  extract_lets _ s1
  have h1 : Kept s₀ s1 := kept_grpMod (kept_raise (kept_cnt h))
  exact kept_ite (kept_grpLoss h1) h1

theorem kept_showRate {g} (h : Kept s₀ s) : Kept s₀ (showRate g s) := by
  unfold showRate
  extract_lets
  split
  · exact h
  · exact kept_wrN h

theorem kept_estimateStep {g} (h : Kept s₀ s) : Kept s₀ (estimateStep g s) := by
  unfold estimateStep
  refine kept_ite h ?_
  split
  · exact h
  · exact kept_grpMod h

theorem kept_grpEdge {g stamp bclks} (h : Kept s₀ s) : Kept s₀ (grpEdge g stamp bclks s) := by
  unfold grpEdge
  extract_lets
  split
  · exact kept_grpMod (kept_grpMod h)
  · extract_lets _ _ _ s1
    have h1 : Kept s₀ s1 := kept_ite (kept_grpReject (kept_grpMod (kept_grpMod h))) (kept_ite (kept_grpReject
      (kept_grpMod (kept_grpMod h))) (kept_grpAccept (kept_grpMod (kept_grpMod h))))
    exact kept_showRate (kept_ite (kept_grpMod (kept_raise (kept_setF h1))) h1)

theorem keptOut_execSlaveFsEdge {g stamp bclks} (h : Kept s₀ s) : KeptOut s₀ (execSlaveFsEdge g stamp bclks s) :=
  keptOut_next (kept_ite (kept_riserRead (kept_grpEdge h)) h)

theorem keptOut_execSlaveFsTimeout {g} (h : Kept s₀ s) : KeptOut s₀ (execSlaveFsTimeout g s) :=
  keptOut_next (kept_ite (kept_grpLoss h) h)

theorem kept_loopUpdate {g} (h : Kept s₀ s) : Kept s₀ (loopUpdate g s) := by
  unfold loopUpdate
  extract_lets _ _ _ _ _ _ _ _ _ _ _ _ _ s1
  have h1 : Kept s₀ s1 := kept_setF (kept_setF (kept_grpMod h))
  exact kept_setF (kept_ite (kept_raise h1) h1)

theorem kept_laneRest {l} (h : Kept s₀ s) : Kept s₀ (laneRest l s) := kept_laneMod (kept_setF (kept_setF h))

theorem kept_grpBoundary {g} (h : Kept s₀ s) : Kept s₀ (grpBoundary g s) := by
  unfold grpBoundary
  extract_lets _ _ s1 s2
  have h1 : Kept s₀ s1 := kept_ite (kept_forEach (kept_setF (kept_setF (kept_setF (kept_grpMod h)))) (fun _ _ h2 =>
    kept_ite (kept_lanePins h2) (kept_laneRest h2))) h
  have h3 : Kept s₀ s2 := kept_ite (kept_setF (kept_grpMod h1)) h1
  exact kept_ite (kept_ite (kept_grpRun h3) (kept_ite (kept_setF h3) h3)) h3

theorem kept_apdRelease (h : Kept s₀ s) : Kept s₀ (apdRelease s) := kept_with h

theorem kept_apdStrobe (h : Kept s₀ s) : Kept s₀ (apdStrobe s) := by
  unfold apdStrobe
  extract_lets _ _ _ _ s1
  have h1 : Kept s₀ s1 := kept_with (kept_ite h (kept_apdRelease h))
  exact kept_forNat (kept_forNat (kept_ite (kept_forEach h1 (fun _ _ h2 => kept_lanePins h2)) h1) (fun _ _ h3 =>
    kept_grpBoundary h3)) (fun _ _ h4 => kept_ite (kept_loopUpdate (kept_estimateStep h4)) (kept_estimateStep h4))

theorem kept_apdTakeover (h : Kept s₀ s) : Kept s₀ (apdTakeover s) := kept_forNat h (fun _ _ h1 => kept_grpMod h1)

theorem kept_apdPour (h : Kept s₀ s) : Kept s₀ (apdPour s) :=
  kept_forNat h (fun _ _ h1 => kept_ite (kept_grpMod (kept_raise (kept_setF h1))) h1)

theorem kept_laneSamples {l slot words} (h : Kept s₀ s) : Kept s₀ (laneSamples l slot words s).2 := by
  unfold laneSamples
  extract_lets
  refine kept_ite_snd h ?_
  split
  rename_i e1
  have h1 := kept_snd (kept_ite_snd (kept_freeSamples h) h) e1
  exact h1

theorem kept_csTransfer {l} (h : Kept s₀ s) : Kept s₀ (csTransfer l s) := kept_laneMod h

theorem kept_csCommit {l} (h : Kept s₀ s) : Kept s₀ (csCommit l s) := kept_laneMod h

theorem keptOut_execCsCommit {via l} (h : Kept s₀ s) : KeptOut s₀ (execCsCommit via l s) :=
  keptOut_next (kept_csCommit (kept_journalReg h))

theorem keptOut_execCsTransfer {l} (h : Kept s₀ s) : KeptOut s₀ (execCsTransfer l s) := by
  unfold execCsTransfer
  refine keptOut_next ?_
  split
  · exact h
  · exact kept_ite (kept_biphasePins (kept_csTransfer h)) h

theorem kept_csReceived {l fs} (h : Kept s₀ s) : Kept s₀ (csReceived l fs s) :=
  kept_ite (kept_cnt h) (kept_setBit (kept_forNat h (fun _ _ h1 => kept_wrN h1)))

theorem kept_biphaseGood {l f} (h : Kept s₀ s) : Kept s₀ (biphaseGood l f s) := by
  unfold biphaseGood
  extract_lets s1 s2 s3 n s4 s5 e cs
  have h1 : Kept s₀ s1 := kept_laneMod h
  have h2 : Kept s₀ s2 := kept_ite (kept_laneMod (kept_setF (kept_setF h1))) h1
  have h4 : Kept s₀ s4 := kept_ite (kept_setF h2) (kept_raise (kept_cntAdd (kept_setF h2)))
  have h5 : Kept s₀ s5 := kept_laneMod h4
  refine kept_ite h2 ?_
  cases cs with
  | none => exact h5
  | some r => exact kept_ite (kept_csReceived (kept_laneMod h5)) (kept_laneMod h5)

theorem keptOut_execBiphaseFrameRx {l f} (h : Kept s₀ s) : KeptOut s₀ (execBiphaseFrameRx l f s) :=
  keptOut_next (kept_ite h (kept_ite (kept_biphaseGood h) (kept_laneMod h)))

theorem keptOut_execBiphaseLockLoss {l} (h : Kept s₀ s) : KeptOut s₀ (execBiphaseLockLoss l s) :=
  keptOut_next (kept_ite (kept_laneMod (kept_setF (kept_setF (kept_raise (kept_cnt h))))) h)

/-! ### Analogue output channels -/

theorem kept_dacMod {n f} (h : Kept s₀ s) : Kept s₀ (dacMod n f s) := kept_with h

theorem kept_dacEnter {n st} (h : Kept s₀ s) : Kept s₀ (dacEnter n st s) := kept_setF (kept_setF h)

theorem kept_dacShow {n} (h : Kept s₀ s) : Kept s₀ (dacShow n s) := kept_setF h

theorem kept_dacChanFrame {n} (h : Kept s₀ s) : Kept s₀ (dacChanFrame n s) :=
  kept_ite h (kept_dacMod (kept_ite h (kept_dacShow (kept_dacMod h))))

theorem kept_dacDiscard {n k} (h : Kept s₀ s) : Kept s₀ (dacDiscard n k s) :=
  kept_ite h (kept_raise (kept_cntAdd h))

theorem kept_dacLoad {n} (h : Kept s₀ s) : Kept s₀ (dacLoad n s) :=
  kept_ite h (kept_ite (kept_dacDiscard h) (kept_dacShow (kept_dacMod h)))

theorem kept_dacFrame (h : Kept s₀ s) : Kept s₀ (dacFrame s) :=
  kept_forNat (kept_ite (kept_forNat h (fun _ _ h1 => kept_dacLoad h1)) h) (fun _ _ h2 => kept_dacChanFrame h2)

theorem kept_dacDc {n} (h : Kept s₀ s) : Kept s₀ (dacDc n s) := kept_ite h (kept_dacMod h)

theorem kept_dacFault {n} (h : Kept s₀ s) : Kept s₀ (dacFault n s) := by
  unfold dacFault
  exact kept_raise (kept_dacEnter (kept_dacMod h))

theorem kept_dacClear {n} (h : Kept s₀ s) : Kept s₀ (dacClear n s) := kept_dacMod (kept_dacEnter h)

theorem kept_dacHiz {n} (h : Kept s₀ s) : Kept s₀ (dacHiz n s) := kept_dacEnter (kept_dacMod h)

theorem kept_dacSilence {n} (h : Kept s₀ s) : Kept s₀ (dacSilence n s) := by
  unfold dacSilence
  extract_lets
  split
  · exact kept_ite (kept_dacEnter (kept_dacMod h)) h
  · exact kept_ite h (kept_dacEnter (kept_dacMod h))
  · exact h

theorem kept_dacSpanStart {n sp md} (h : Kept s₀ s) : Kept s₀ (dacSpanStart n sp md s) :=
  kept_dacShow (kept_dacEnter (kept_dacMod (kept_dacDiscard h)))

theorem kept_dacSpanAct {n} (h : Kept s₀ s) : Kept s₀ (dacSpanAct n s) := by
  unfold dacSpanAct
  extract_lets
  split
  · exact kept_ite (kept_dacSpanStart (kept_dacMod h)) (kept_dacMod h)
  · exact kept_ite (kept_dacMod (kept_dacMod h)) (kept_dacMod h)
  · exact kept_dacMod h

theorem kept_dacStrobeCh {n} (h : Kept s₀ s) : Kept s₀ (dacStrobeCh n s) := by
  unfold dacStrobeCh
  extract_lets _ _ s1 s2 s3 _ s4 s5 s6 _ s7
  have h1 : Kept s₀ s1 := kept_ite (kept_dacHiz (kept_dacDc h)) (kept_dacDc h)
  have h2 : Kept s₀ s2 := kept_ite (kept_dacMod h1) h1
  have h3 : Kept s₀ s3 := kept_ite (kept_ite (kept_dacClear h2) (kept_dacMod h2)) h2
  have h4 : Kept s₀ s4 := kept_dacSpanAct (kept_ite (kept_dacMod (kept_ite h3 (kept_dacFault h3))) h3)
  have h5 : Kept s₀ s5 := by
    unfold s5
    split
    · exact kept_ite (kept_dacShow (kept_dacMod (kept_dacDiscard h4))) h4
    · exact h4
  have h6 : Kept s₀ s6 := kept_ite (kept_dacEnter h5) h5
  have h7 : Kept s₀ s7 := kept_ite (kept_dacEnter (kept_dacMod h6)) (kept_ite (kept_dacMod h6) h6)
  exact kept_ite (kept_dacMod (kept_dacDc h)) (kept_ite (kept_dacSilence h7) h7)

theorem kept_dacGateClosed (h : Kept s₀ s) : Kept s₀ (dacGateClosed s) :=
  kept_forNat h (fun _ _ h1 => kept_ite (kept_dacHiz h1) h1)

theorem kept_dacStrobe (h : Kept s₀ s) : Kept s₀ (dacStrobe s) := kept_forNat h (fun _ _ h1 => kept_dacStrobeCh h1)

theorem kept_dacStopped (h : Kept s₀ s) : Kept s₀ (dacStopped s) := by
  unfold dacStopped
  refine kept_forNat h (fun _ _ h1 => ?_)
  extract_lets s1
  have h2 : Kept s₀ s1 := kept_dacShow (kept_dacMod h1)
  exact kept_ite (kept_dacEnter (kept_dacMod h2)) h2

theorem keptOut_execDacUnderrun {n} (h : Kept s₀ s) : KeptOut s₀ (execDacUnderrun n s) :=
  keptOut_next (kept_ite (kept_raise (kept_cnt (kept_dacMod h))) h)

theorem kept_dacForce {n} (h : Kept s₀ s) : Kept s₀ (dacForce n s) := kept_dacMod h

theorem keptOut_execDacUrFault {n} (h : Kept s₀ s) : KeptOut s₀ (execDacUrFault n s) :=
  keptOut_next (kept_ite (kept_dacForce h) h)

theorem kept_dacClearCmd {n} (h : Kept s₀ s) : Kept s₀ (dacClearCmd n s) := kept_dacMod h

theorem keptOut_execDacForce {via n} (h : Kept s₀ s) : KeptOut s₀ (execDacForce via n s) :=
  keptOut_next (kept_dacForce (kept_journalReg h))

theorem keptOut_execDacClear {via n} (h : Kept s₀ s) : KeptOut s₀ (execDacClear via n s) :=
  keptOut_next (kept_dacClearCmd (kept_journalReg h))

theorem kept_wrN_live {off v} (h : Kept s₀ s) :
    Kept s₀ { wrN s off v with live := aSet regReset s.live off (BitVec.ofNat 32 v) } :=
  kept_withLive (kept_wrN h) (aWf_aSet _ _ _ _)

theorem kept_dacTakeRec {bs n} (h : Kept s₀ s) : Kept s₀ (dacTakeRec bs n s) :=
  kept_dacMod (kept_setF (kept_setF (kept_wrN_live (kept_wrN_live (kept_wrN_live h)))))

theorem keptOut_execDacPowerUpLoad (h : Kept s₀ s) : KeptOut s₀ (execDacPowerUpLoad s) := by
  unfold execDacPowerUpLoad
  refine keptOut_next ?_
  exact kept_ite (kept_ite (kept_forNat (kept_with h) (fun _ _ h1 => kept_dacTakeRec h1)) (kept_raise (kept_with
    h))) h

theorem kept_dacCfgApply {n v} (h : Kept s₀ s) : Kept s₀ (dacCfgApply n v s) := by
  unfold dacCfgApply
  refine kept_ite (kept_writeIgnored h) ?_
  refine kept_ite (kept_dacMod (kept_wr h)) ?_
  exact kept_ite (kept_dacMod (kept_wr h)) (kept_ite (kept_dacMod (kept_wr h)) (kept_dacMod (kept_wr h)))

theorem keptOut_execDacCfgWrite {via n v} (h : Kept s₀ s) : KeptOut s₀ (execDacCfgWrite via n v s) :=
  keptOut_next (kept_dacCfgApply (kept_journalReg h))

theorem keptOut_execDacSpanStart {n} (h : Kept s₀ s) : KeptOut s₀ (execDacSpanStart n s) := by
  unfold execDacSpanStart
  refine keptOut_next ?_
  split
  · exact kept_ite (kept_dacMod h) h
  · exact h

theorem keptOut_execDacSpanSwitch {n} (h : Kept s₀ s) : KeptOut s₀ (execDacSpanSwitch n s) := by
  unfold execDacSpanSwitch
  refine keptOut_next ?_
  split
  · exact kept_ite (kept_dacMod h) h
  · exact h

theorem kept_dacClaimed {n} (h : Kept s₀ s) : Kept s₀ (dacClaimed n s) :=
  kept_ite (kept_dacEnter (kept_dacMod h)) (kept_dacEnter (kept_dacMod h))

theorem kept_dacRelease {n why} (h : Kept s₀ s) : Kept s₀ (dacRelease n why s) := by
  unfold dacRelease
  extract_lets
  split
  · exact kept_ite (kept_dacMod (kept_dacEnter (kept_dacMod h))) (kept_dacHiz (kept_dacMod h))
  · exact kept_dacMod (kept_dacMod h)
  · exact kept_dacMod (kept_dacMod h)
  · exact kept_dacClaimed (kept_dacMod h)
  · exact kept_dacEnter (kept_dacMod (kept_dacMod h))

theorem keptOut_execDacSettleDone {n} (h : Kept s₀ s) : KeptOut s₀ (execDacSettleDone n s) := by
  unfold execDacSettleDone
  refine keptOut_next ?_
  split
  · exact kept_dacRelease h
  · exact h

theorem kept_dacFatal (h : Kept s₀ s) : Kept s₀ (dacFatal s) :=
  kept_forNat h (fun _ _ h1 => kept_ite (kept_dacMod h1) h1)

/-! ### PDM microphones -/

theorem kept_pdmAsk {k} (h : Kept s₀ s) : Kept s₀ (pdmAsk k s) := kept_ite (kept_with h) h

theorem keptOut_execPdmSync {via} (h : Kept s₀ s) : KeptOut s₀ (execPdmSync via s) :=
  keptOut_next (kept_pdmAsk (kept_journalReg h))

theorem keptOut_execMicsyncEdge {highCycles} (h : Kept s₀ s) : KeptOut s₀ (execMicsyncEdge highCycles s) :=
  keptOut_next (kept_ite h (kept_ite (kept_cnt h) (kept_pdmAsk h)))

theorem kept_micReset {mics frame} (h : Kept s₀ s) : Kept s₀ (micReset mics frame s) := kept_with h

theorem kept_decimReset {mics k} (h : Kept s₀ s) : Kept s₀ (decimReset mics k s) := by
  unfold decimReset
  extract_lets _ s1 _ s2
  have h1 : Kept s₀ s1 := kept_setBit (kept_wr64 (kept_micReset h))
  have h2 : Kept s₀ s2 := kept_ite (kept_with h1) h1
  exact kept_ite (kept_setBit h2) h2

theorem kept_decimResetAll {k} (h : Kept s₀ s) : Kept s₀ (decimResetAll k s) := kept_decimReset h

theorem keptOut_execDecimatorReset (h : Kept s₀ s) : KeptOut s₀ (execDecimatorReset s) := by
  unfold execDecimatorReset
  extract_lets
  refine keptOut_next ?_
  split
  · exact kept_with (kept_decimResetAll h)
  · exact kept_ite h (kept_with (kept_decimReset h))

theorem keptOut_execMicIdle {m} (h : Kept s₀ s) : KeptOut s₀ (execMicIdle m s) :=
  keptOut_next (kept_ite (kept_raise (kept_with (kept_wrN h))) h)

theorem keptOut_execMicResume {m} (h : Kept s₀ s) : KeptOut s₀ (execMicResume m s) :=
  keptOut_next (kept_ite (kept_with (kept_wrN h)) h)

theorem kept_micSamples {pins m} (h : Kept s₀ s) : Kept s₀ (micSamples pins m s) := by
  unfold micSamples
  extract_lets
  split
  exact kept_ite (kept_with h) (kept_raise (kept_cntAdd (kept_with h)))

theorem kept_pdmStrobe {pins} (h : Kept s₀ s) : Kept s₀ (pdmStrobe pins s) :=
  kept_forEach (kept_with h) (fun _ _ h1 => kept_micSamples h1)

/-! ### Routing -/

theorem kept_asrcAssign (h : Kept s₀ s) : Kept s₀ (asrcAssign s) :=
  kept_ite (kept_raise (kept_with h)) (kept_with h)

theorem kept_rteShow (h : Kept s₀ s) : Kept s₀ (rteShow s) := kept_setF (kept_setF h)

theorem kept_rteGoLive {k table} (h : Kept s₀ s) : Kept s₀ (rteGoLive k table s) :=
  kept_rteShow (kept_asrcAssign (kept_setF (kept_wr64 (kept_ite (kept_setBit (kept_with h)) (kept_with h)))))

theorem kept_putShadow {i r} (h : Kept s₀ s) : Kept s₀ (putShadow i r s) := kept_wrWord72 (kept_wrWord72 h)

theorem kept_shadowFromLive (h : Kept s₀ s) : Kept s₀ (shadowFromLive s) :=
  kept_setF (kept_foldl h (fun _ _ h1 => kept_putShadow h1) _)

theorem kept_rteResult {cmd reason} (h : Kept s₀ s) : Kept s₀ (rteResult cmd reason s) := kept_setF (kept_setF h)

theorem kept_rteRefuse {cmd reason} (h : Kept s₀ s) : Kept s₀ (rteRefuse cmd reason s) :=
  kept_raise (kept_cnt (kept_rteResult h))

theorem kept_rteIdle (h : Kept s₀ s) : Kept s₀ (rteIdle s) := kept_setF (kept_with h)

theorem kept_rteCmtRefuse {reason} (h : Kept s₀ s) : Kept s₀ (rteCmtRefuse reason s) :=
  kept_rteRefuse (kept_rteIdle h)

theorem kept_rteAccept (h : Kept s₀ s) : Kept s₀ (rteAccept s) := by
  unfold rteAccept
  split
  · exact h
  · exact kept_journal (kept_rteResult (kept_setBit (kept_cnt (kept_with h))))

theorem kept_rteMirror {x} (h : Kept s₀ s) : Kept s₀ (rteMirror x s) :=
  kept_ite (kept_setF (kept_with h)) (kept_with h)

theorem kept_rteCommit {via} (h : Kept s₀ s) : Kept s₀ (rteCommit via s) := by
  unfold rteCommit
  refine kept_ite (kept_writeIgnored h) ?_
  refine kept_ite (kept_rteRefuse h) ?_
  refine kept_ite (kept_rteRefuse h) ?_
  exact kept_ite (kept_rteRefuse h) (kept_ite (kept_rteRefuse h) (kept_setF (kept_with h)))

theorem keptOut_execRteCommit {via} (h : Kept s₀ s) : KeptOut s₀ (execRteCommit via s) :=
  keptOut_next (kept_rteCommit (kept_journalReg h))

theorem kept_rteCopy (h : Kept s₀ s) : Kept s₀ (rteCopy s) :=
  kept_ite (kept_writeIgnored h) (kept_ite (kept_rteRefuse h) (kept_rteResult (kept_shadowFromLive h)))

theorem keptOut_execRteCopy {via} (h : Kept s₀ s) : KeptOut s₀ (execRteCopy via s) :=
  keptOut_next (kept_rteCopy (kept_journalReg h))

theorem kept_rteCancelAccept (h : Kept s₀ s) : Kept s₀ (rteCancelAccept s) :=
  kept_rteResult (kept_rteMirror (kept_rteIdle h))

theorem kept_rteCancel (h : Kept s₀ s) : Kept s₀ (rteCancel s) := by
  unfold rteCancel
  refine kept_ite (kept_writeIgnored h) ?_
  split
  · exact kept_rteRefuse h
  · refine kept_ite (kept_rteRefuse h) ?_
    refine kept_ite ?_ (kept_rteCancelAccept h)
    split
    rename_i e1
    have h1 := kept_snd (kept_mirrorCommand h) e1
    exact kept_ite h1 (kept_rteCancelAccept h1)
  · refine kept_ite (kept_rteRefuse h) ?_
    refine kept_ite ?_ (kept_rteCancelAccept h)
    split
    rename_i e2
    have h2 := kept_snd (kept_mirrorCommand h) e2
    exact kept_ite h2 (kept_rteCancelAccept h2)

theorem keptOut_execRteCancel {via} (h : Kept s₀ s) : KeptOut s₀ (execRteCancel via s) :=
  keptOut_next (kept_rteCancel (kept_journalReg h))

theorem kept_rteValidated {c t} (h : Kept s₀ s) : Kept s₀ (rteValidated c t s) := by
  generalize hf : rteValidated = f
  delta rteValidated at hf
  subst hf
  beta_reduce
  generalize hu : setF { s with rte := { s.rte with cmt := some { c with validated := true } } } F.RTE_STATE_CMT 2 = u
  have hu : Kept s₀ u := hu ▸ kept_setF (kept_with h)
  extract_lets
  split
  rename_i e1
  have h1 := kept_snd (kept_mirrorCommand hu) e1
  exact kept_ite h1 (kept_rteAccept h1)

theorem keptOut_execRteValidationDone (h : Kept s₀ s) : KeptOut s₀ (execRteValidationDone s) := by
  unfold execRteValidationDone
  refine keptOut_next ?_
  split
  · exact h
  · refine kept_ite h ?_
    split
    · exact kept_rteCmtRefuse (kept_setF h)
    · exact kept_ite (kept_rteCmtRefuse h) (kept_rteValidated h)

theorem keptOut_execRteCommitApply (h : Kept s₀ s) : KeptOut s₀ (execRteCommitApply s) := by
  unfold execRteCommitApply
  extract_lets s1
  have h1 : Kept s₀ s1 := by
    unfold s1
    split
    · exact h
    · exact kept_ite h (kept_ite (kept_rteGoLive (kept_rteIdle h)) (kept_rteCmtRefuse h))
  refine keptOut_next ?_
  split
  · exact h1
  · exact kept_ite (kept_rteGoLive (kept_rteMirror h1)) h1

theorem keptOut_execRteXfDone (h : Kept s₀ s) : KeptOut s₀ (execRteXfDone s) :=
  keptOut_next (kept_ite (kept_rteShow (kept_setBit (kept_with h))) h)

theorem kept_rteSupersede {p} (h : Kept s₀ s) : Kept s₀ (rteSupersede p s) := by
  unfold rteSupersede
  extract_lets _ s1
  have h1 : Kept s₀ s1 := by
    unfold s1
    split
    · exact kept_ite (kept_setBit (kept_cnt (kept_rteResult (kept_rteIdle h)))) h
    · exact h
  split
  · exact kept_ite (kept_setBit (kept_cnt (kept_rteResult (kept_rteMirror h1)))) h1
  · exact h1

theorem kept_rtePour {p pat} (h : Kept s₀ s) : Kept s₀ (rtePour p pat s) :=
  kept_rteShow (kept_asrcAssign (kept_shadowFromLive
    (kept_withLive (kept_wr64 (kept_setF (kept_setF (kept_with h)))) (aWf_aSet _ _ _ _))))

/-! ### Effects of register writes -/

theorem kept_plainWrite {off v} (h : Kept s₀ s) : Kept s₀ (plainWrite off v s) := by
  unfold plainWrite
  split
  · exact h
  · exact kept_wr h

theorem kept_enterListen (h : Kept s₀ s) : Kept s₀ (enterListen s) :=
  kept_with (kept_setF (kept_setF (kept_setF (kept_setF h))))

theorem kept_pairLeft (h : Kept s₀ s) : Kept s₀ (pairLeft s) :=
  kept_ite (kept_raise (kept_setF (kept_with (kept_ite (kept_setF (kept_with h)) h)))) h

theorem kept_clmCfgApply {v} (h : Kept s₀ s) : Kept s₀ (clmCfgApply v s) := by
  unfold clmCfgApply
  refine kept_ite (kept_enterListen (kept_plainWrite h)) ?_
  refine kept_ite (kept_setF (kept_setF (kept_setF (kept_setF (kept_pairLeft (kept_plainWrite h)))))) ?_
  exact kept_plainWrite h

theorem kept_showMembers (h : Kept s₀ s) : Kept s₀ (showMembers s) := kept_setF h

theorem kept_workerAbsent {w} (h : Kept s₀ s) : Kept s₀ (workerAbsent w s) := kept_with (kept_wrN h)

theorem kept_hierCfgApply {v} (h : Kept s₀ s) : Kept s₀ (hierCfgApply v s) := by
  unfold hierCfgApply
  extract_lets _ _ _ _ _ _ s1
  have h1 : Kept s₀ s1 := kept_setF (kept_with (kept_forNat (kept_plainWrite h) (fun _ _ h2 => kept_workerAbsent
    h2)))
  exact kept_ite (kept_plainWrite h) (kept_ite (kept_showMembers h1) (kept_setF h1))

theorem kept_wmaskApply {v} (h : Kept s₀ s) : Kept s₀ (wmaskApply v s) := by
  unfold wmaskApply
  extract_lets _ s1
  have h1 : Kept s₀ s1 := kept_forNat (kept_plainWrite h) (fun _ _ h2 => kept_ite h2 (kept_workerAbsent h2))
  exact kept_ite (kept_showMembers h1) h1

theorem kept_tsuEffect {off v} (h : Kept s₀ s) : Kept s₀ (tsuEffect off v s) := by
  unfold tsuEffect
  split
  · exact kept_tbCfgApply h
  · exact kept_ite (kept_writeIgnored h) (kept_fadjSet (kept_when h (fun _ h1 => kept_writeIgnored h1)))
  · exact kept_ite (kept_with (kept_plainWrite h)) (kept_plainWrite h)

theorem kept_netEffect {off v} (h : Kept s₀ s) : Kept s₀ (netEffect off v s) := by
  generalize hf : netEffect = f
  delta netEffect at hf
  subst hf
  beta_reduce
  extract_lets
  split
  · exact kept_ringCfgApply h
  · exact kept_ringCfgApply h
  · exact kept_ringCfgApply h
  · exact kept_ringCfgApply h
  · split
    · exact kept_rrTailApply h
    · exact kept_trTailApply h
    · exact kept_ite (kept_modeApply (kept_masterReset (kept_plainWrite h))) (kept_plainWrite h)

theorem kept_strEffect {off v} (h : Kept s₀ s) : Kept s₀ (strEffect off v s) := by
  unfold strEffect
  split
  · exact kept_rxCtlApply h
  · exact kept_txCtlApply h
  · exact kept_ite (kept_writeIgnored h) (kept_plainWrite h)

theorem kept_apdGroupEffect {off v} (h : Kept s₀ s) : Kept s₀ (apdGroupEffect off v s) := by
  unfold apdGroupEffect
  exact kept_ite (kept_grpCtlApply h) (kept_ite (kept_writeIgnored h) (kept_plainWrite h))

theorem kept_apdLaneEffect {off v} (h : Kept s₀ s) : Kept s₀ (apdLaneEffect off v s) := by
  generalize hf : apdLaneEffect = f
  delta apdLaneEffect at hf
  subst hf
  beta_reduce
  extract_lets +onlyGivenNames l
  split
  · extract_lets s1
    have h1 : Kept s₀ s1 := kept_when h (fun _ h1 => kept_csCommit h1)
    exact kept_ite (kept_ite h1 (kept_writeIgnored h1)) (kept_plainWrite h1)
  · exact kept_laneMaskApply h
  · exact kept_plainWrite h

theorem kept_apdEffect {off v} (h : Kept s₀ s) : Kept s₀ (apdEffect off v s) :=
  kept_ite (kept_apdGroupEffect h) (kept_ite (kept_apdLaneEffect h) (kept_plainWrite h))

theorem kept_regEffect {off v} (h : Kept s₀ s) : Kept s₀ (regEffect off v s) := by
  unfold regEffect
  refine kept_ite (kept_tsuEffect h) ?_
  refine kept_ite (kept_clmCfgApply h) ?_
  refine kept_ite (kept_hierCfgApply h) ?_
  refine kept_ite (kept_wmaskApply h) ?_
  refine kept_ite (kept_hqBaseApply h) ?_
  refine kept_ite (kept_writeIgnored h) ?_
  refine kept_ite (kept_netEffect h) ?_
  refine kept_ite (kept_strEffect h) ?_
  refine kept_ite (kept_apdEffect h) ?_
  refine kept_ite (kept_wrN (kept_wrN (kept_plainWrite h))) ?_
  split
  · exact kept_dacCfgApply h
  · exact kept_ite h (kept_plainWrite h)
  · exact kept_plainWrite h

theorem kept_applyReg {off v} (h : Kept s₀ s) : Kept s₀ (applyReg off v s) :=
  kept_ite (kept_regEffect h) (kept_writeIgnored h)

theorem aWf_foldl_aSet {α : Type} [DecidableEq α] (d : Nat → α) (f : Nat → α) (offs : List Nat) (l : Tbl α)
    (h : aWf d l = true) : aWf d (offs.foldl (fun t off => aSet d t off (f off)) l) = true :=
  List.foldlRecOn offs _ (motive := fun t => aWf d t = true) h fun t ht off _ => aWf_aSet d t off (f off) ht

theorem kept_takeShadows (h : Kept s₀ s) : Kept s₀ (takeShadows s) :=
  kept_withLive h (fun hl => aWf_foldl_aSet _ _ _ _ (aWf_foldl_aSet _ _ _ _ hl))

theorem kept_regWrite {via addr v} (h : Kept s₀ s) : Kept s₀ (regWrite via addr v s) := by
  unfold regWrite
  extract_lets
  split
  · exact h
  · refine kept_ite (kept_journalReg h) ?_
    refine kept_ite (kept_raise (kept_journalReg h)) ?_
    refine kept_ite (kept_applyReg (kept_journalReg h)) ?_
    refine kept_ite (kept_writeIgnored (kept_journalReg h)) ?_
    split
    rename_i e1
    have h1 := kept_snd (kept_mirrorWrite (kept_journalReg h)) e1
    exact kept_ite h1 (kept_applyReg h1)

/-! ### The Pattern loader -/

theorem kept_patResult {cmd reason amd} (h : Kept s₀ s) : Kept s₀ (patResult cmd reason amd s) :=
  kept_setF (kept_setF (kept_setF h))

theorem kept_patRefuse {cmd r amd} (h : Kept s₀ s) : Kept s₀ (patRefuse cmd r amd s) :=
  kept_raise (kept_patResult h)

theorem kept_patDone (h : Kept s₀ s) : Kept s₀ (patDone s) := kept_setBit h

theorem kept_superseded {cmd amd} (h : Kept s₀ s) : Kept s₀ (superseded cmd amd s) :=
  kept_raise (kept_patResult (kept_cnt h))

theorem kept_setStg {v} (h : Kept s₀ s) : Kept s₀ (setStg v s) := kept_setF h

theorem kept_showBusy (h : Kept s₀ s) : Kept s₀ (showBusy s) := kept_setF h

theorem kept_journalPat {via cmd slot id msi} (h : Kept s₀ s) : Kept s₀ (journalPat via cmd slot id msi s) :=
  kept_journal h

theorem kept_showStaged (h : Kept s₀ s) : Kept s₀ (showStaged s) := by
  unfold showStaged
  split
  · exact kept_wrN (kept_wr64 h)
  · exact kept_wrN (kept_wr64 h)

theorem kept_stagingEmpty (h : Kept s₀ s) : Kept s₀ (stagingEmpty s) :=
  kept_showBusy (kept_showStaged (kept_setStg (kept_with h)))

theorem kept_slotSave {k} (h : Kept s₀ s) : Kept s₀ (slotSave k s) := kept_wrBytes h

theorem kept_convStart {p cs} (h : Kept s₀ s) : Kept s₀ (convStart p cs s) := kept_with h

theorem kept_convToSeats (h : Kept s₀ s) : Kept s₀ (convToSeats s) := by
  unfold convToSeats
  split
  · exact h
  · exact kept_ite h (kept_with h)

theorem kept_regsetWrite {rec_} (h : Kept s₀ s) : Kept s₀ (regsetWrite rec_ s) := by
  unfold regsetWrite
  refine kept_ite (kept_when (kept_plainWrite h) (fun _ h1 => kept_csCommit h1)) ?_
  exact kept_ite (kept_ite (kept_plainWrite h) (kept_writeIgnored h)) (kept_applyReg h)

theorem kept_ctxOff {ctx} (h : Kept s₀ s) : Kept s₀ (ctxOff ctx s) := by
  unfold ctxOff
  split
  · exact kept_rxMod (kept_setF (kept_wrN h))
  · exact kept_txMod (kept_setF (kept_wrN h))

theorem kept_regsetApply {old new} (h : Kept s₀ s) : Kept s₀ (regsetApply old new s) :=
  kept_forEach (kept_forEach h (fun _ _ h1 => kept_ctxOff h1)) (fun _ _ h2 => kept_regsetWrite h2)

theorem kept_loadStart {cmd op via} (h : Kept s₀ s) : Kept s₀ (loadStart cmd op via s) :=
  kept_ite (kept_patRefuse h) (kept_showBusy (kept_setStg (kept_patResult (kept_with h))))

theorem keptOut_execPatLoad {via} (h : Kept s₀ s) : KeptOut s₀ (execPatLoad via s) :=
  keptOut_next (kept_loadStart (kept_journalReg h))

theorem keptOut_execPatLoadSlot {via slot} (h : Kept s₀ s) : KeptOut s₀ (execPatLoadSlot via slot s) := by
  unfold execPatLoadSlot
  refine keptOut_next ?_
  refine kept_ite (kept_patRefuse (kept_journalReg h)) ?_
  exact kept_ite (kept_patRefuse (kept_journalReg h)) (kept_loadStart (kept_journalReg h))

theorem kept_showVerr {e} (h : Kept s₀ s) : Kept s₀ (showVerr e s) := kept_wrN (kept_setF (kept_setF h))

theorem keptOut_execPatLoadDone (h : Kept s₀ s) : KeptOut s₀ (execPatLoadDone s) := by
  unfold execPatLoadDone
  refine keptOut_next ?_
  split
  · exact h
  · extract_lets
    split
    · extract_lets _ s1
      have h1 : Kept s₀ s1 := by
        unfold s1
        split
        · exact kept_convStart (kept_with (kept_with h))
        · exact kept_with (kept_with h)
      exact kept_patDone (kept_showBusy (kept_showStaged (kept_setStg h1)))
    · exact kept_raise (kept_showVerr (kept_showBusy (kept_showStaged (kept_setStg (kept_with (kept_with h))))))

theorem kept_armStart {via} (h : Kept s₀ s) : Kept s₀ (armStart via s) := by
  unfold armStart
  extract_lets _ _ s1
  have h1 : Kept s₀ s1 := kept_showBusy (kept_setStg (kept_patResult (kept_with h)))
  refine kept_ite (kept_patRefuse h) ?_
  exact kept_ite (kept_patRefuse h) (kept_ite (kept_patRefuse h) (kept_ite h1 (kept_with (kept_regsetApply h1))))

theorem keptOut_execPatArm {via} (h : Kept s₀ s) : KeptOut s₀ (execPatArm via s) :=
  keptOut_next (kept_armStart (kept_journalReg h))

theorem kept_writeSteps {t b i steps} (h : Kept s₀ s) : Kept s₀ (writeSteps t b i steps s) := kept_wrBytes h

theorem kept_writeTable {t b tab} (h : Kept s₀ s) : Kept s₀ (writeTable t b tab s) := by
  unfold writeTable
  extract_lets
  split
  · exact kept_ite (kept_writeSteps (kept_writeSteps h)) (kept_writeSteps h)
  · exact kept_writeSteps h

theorem kept_copyTables {p} (h : Kept s₀ s) : Kept s₀ (copyTables p s) := by
  unfold copyTables
  extract_lets
  refine kept_forNat h (fun _ _ h1 => ?_)
  split
  · exact kept_writeTable h1
  · exact h1

theorem keptOut_execArmDone (h : Kept s₀ s) : KeptOut s₀ (execArmDone s) := by
  unfold execArmDone
  refine keptOut_next ?_
  split
  · exact kept_loopFollow (kept_patDone (kept_showBusy (kept_setStg (kept_copyTables (kept_with h)))))
  · exact h

theorem kept_pourAccept (h : Kept s₀ s) : Kept s₀ (pourAccept s) := by
  unfold pourAccept
  split
  · exact h
  · exact kept_journalPat (kept_patDone (kept_patResult (kept_with h)))

theorem kept_dacRedo {n codes} (h : Kept s₀ s) : Kept s₀ (dacRedo n codes s) := kept_dacMod h

theorem kept_egressRestore (h : Kept s₀ s) : Kept s₀ (egressRestore s) :=
  kept_ite (kept_with h) (kept_forNat (kept_with h) (fun _ _ h1 => kept_ite h1 (kept_dacRedo h1)))

theorem kept_pourWithdraw (h : Kept s₀ s) : Kept s₀ (pourWithdraw s) := by
  unfold pourWithdraw
  split
  · exact h
  · extract_lets _ s1
    have h1 : Kept s₀ s1 := kept_setStg (kept_with h)
    exact kept_ite (kept_ite (kept_egressRestore (kept_with h1)) (kept_with h1)) h1

theorem kept_pourRefuse {r} (h : Kept s₀ s) : Kept s₀ (pourRefuse r s) := kept_patRefuse (kept_pourWithdraw h)

theorem kept_patPour {via m} (h : Kept s₀ s) : Kept s₀ (patPour via m s) := by
  unfold patPour
  extract_lets
  refine kept_ite (kept_writeIgnored h) ?_
  refine kept_ite (kept_patRefuse h) ?_
  refine kept_ite (kept_patRefuse h) ?_
  refine kept_ite (kept_patRefuse h) ?_
  refine kept_ite (kept_patRefuse h) ?_
  split
  rename_i e1
  have h1 := kept_snd (kept_mirrorCommand h) e1
  extract_lets _ s1
  have h2 : Kept s₀ s1 := kept_setStg (kept_with h1)
  exact kept_ite h2 (kept_pourAccept h2)

theorem keptOut_execPatPour {via} (h : Kept s₀ s) : KeptOut s₀ (execPatPour via s) :=
  keptOut_next (kept_patPour (kept_journalReg h))

theorem kept_stopAccept (h : Kept s₀ s) : Kept s₀ (stopAccept s) := by
  unfold stopAccept
  split
  · exact h
  · extract_lets _ s1 s2
    have h1 : Kept s₀ s1 := kept_setF (kept_with h)
    have h2 : Kept s₀ s2 := by
      unfold s2
      split
      · exact kept_ite (kept_pourWithdraw h1) h1
      · exact h1
    exact kept_journalPat (kept_patDone (kept_patResult h2))

theorem kept_stopRefuse {r} (h : Kept s₀ s) : Kept s₀ (stopRefuse r s) := kept_patRefuse (kept_with h)

theorem kept_patStop {via} (h : Kept s₀ s) : Kept s₀ (patStop via s) := by
  unfold patStop
  extract_lets
  refine kept_ite (kept_writeIgnored h) ?_
  refine kept_ite (kept_patRefuse h) ?_
  refine kept_ite (kept_patRefuse h) ?_
  refine kept_ite (kept_patRefuse h) ?_
  refine kept_ite (kept_patRefuse h) ?_
  split
  rename_i e1
  have h1 := kept_snd (kept_mirrorCommand h) e1
  exact kept_ite (kept_with h1) (kept_stopAccept (kept_with h1))

theorem keptOut_execPatStop {via} (h : Kept s₀ s) : KeptOut s₀ (execPatStop via s) :=
  keptOut_next (kept_patStop (kept_journalReg h))

theorem kept_discardAccept {via} (h : Kept s₀ s) : Kept s₀ (discardAccept via s) := by
  unfold discardAccept
  split
  · exact h
  · exact kept_journalPat (kept_patDone (kept_patResult (kept_pourWithdraw h)))

theorem kept_discardRefuse (h : Kept s₀ s) : Kept s₀ (discardRefuse s) := kept_patRefuse h

theorem kept_patDiscard {via} (h : Kept s₀ s) : Kept s₀ (patDiscard via s) := by
  unfold patDiscard
  split
  · refine kept_ite (kept_writeIgnored h) ?_
    refine kept_ite (kept_discardRefuse h) ?_
    refine kept_ite (kept_discardAccept h) ?_
    split
    rename_i e1
    have h1 := kept_snd (kept_mirrorCommand h) e1
    exact kept_ite h1 (kept_discardAccept h1)
  · exact kept_journalPat (kept_patDone (kept_patResult (kept_setF (kept_stagingEmpty h))))

theorem keptOut_execPatDiscard {via} (h : Kept s₀ s) : KeptOut s₀ (execPatDiscard via s) :=
  keptOut_next (kept_patDiscard (kept_journalReg h))

theorem kept_amendTry (h : Kept s₀ s) : Kept s₀ (amendTry s) := by
  unfold amendTry
  split
  · exact h
  · exact kept_ite (kept_journal (kept_patResult (kept_showBusy (kept_setF h)))) h

theorem kept_amendDrop (h : Kept s₀ s) : Kept s₀ (amendDrop s) := kept_showBusy (kept_setF (kept_with h))

theorem kept_amendRefuse {r} (h : Kept s₀ s) : Kept s₀ (amendRefuse r s) := by
  unfold amendRefuse
  split
  · exact h
  · exact kept_patRefuse (kept_amendDrop h)

theorem kept_amendStage {via k amd xf decided p} (h : Kept s₀ s) :
    Kept s₀ (amendStage via k amd xf decided p s) := by
  unfold amendStage
  extract_lets _ _ s1 s2
  have h1 : Kept s₀ s1 := kept_showBusy (kept_with h)
  have h2 : Kept s₀ s2 := by
    unfold s2
    split
    · exact h1
    · exact kept_forEach (kept_convStart h1) (fun _ _ h3 => kept_coefMod h3)
  exact kept_amendTry h2

theorem kept_patAmend {via} (h : Kept s₀ s) : Kept s₀ (patAmend via s) := by
  unfold patAmend
  extract_lets
  refine kept_ite (kept_writeIgnored h) ?_
  refine kept_ite (kept_patRefuse h) ?_
  refine kept_ite (kept_patRefuse h) ?_
  refine kept_ite (kept_patRefuse h) ?_
  split
  · exact kept_patRefuse (kept_raise (kept_showVerr h))
  · refine kept_ite (kept_patRefuse h) ?_
    split
    rename_i e1
    have h1 := kept_snd (kept_mirrorCommand h) e1
    exact kept_amendStage h1

theorem keptOut_execPatAmend {via} (h : Kept s₀ s) : KeptOut s₀ (execPatAmend via s) :=
  keptOut_next (kept_patAmend (kept_journalReg h))

theorem kept_convKeep (h : Kept s₀ s) : Kept s₀ (convKeep s) := by
  unfold convKeep
  split
  · exact h
  · exact kept_forEach h (fun _ _ h1 => kept_coefMod h1)

theorem keptOut_execCoefConversionDone (h : Kept s₀ s) : KeptOut s₀ (execCoefConversionDone s) := by
  unfold execCoefConversionDone
  refine keptOut_next ?_
  split
  · exact h
  · extract_lets _ _ s1
    have h1 : Kept s₀ s1 := kept_convKeep (kept_with h)
    refine kept_ite h ?_
    split
    · exact h1
    · exact kept_amendTry (kept_with h1)

theorem kept_withdrawItem {pick} (h : Kept s₀ s) : Kept s₀ (withdrawItem pick s) := by
  unfold withdrawItem
  split
  · exact h
  · exact kept_flkDiscard (kept_dropItem (kept_cnt h))

theorem keptOut_execAmendStageCheck (h : Kept s₀ s) : KeptOut s₀ (execAmendStageCheck s) := by
  unfold execAmendStageCheck
  refine keptOut_next ?_
  split
  · exact h
  · exact kept_ite h (kept_amendRefuse (kept_withdrawItem h))

theorem kept_amendLayouts {k ls} (h : Kept s₀ s) : Kept s₀ (amendLayouts k ls s) :=
  kept_forEach h (fun _ _ h1 => kept_with h1)

theorem kept_amendLive {a} (h : Kept s₀ s) : Kept s₀ (amendLive a s) := by
  unfold amendLive
  extract_lets _ _ s1
  have h1 : Kept s₀ s1 := by
    unfold s1
    split
    · exact kept_rteGoLive (kept_amendLayouts h)
    · exact kept_amendLayouts h
  exact kept_forEach (kept_forEach (kept_forEach h1 (fun _ _ h2 => kept_gainMove h2)) (fun _ _ h3 => kept_peqMove
    h3)) (fun _ _ h4 => kept_coefMod h4)

theorem keptOut_execAmendApply (h : Kept s₀ s) : KeptOut s₀ (execAmendApply s) := by
  unfold execAmendApply
  refine keptOut_next ?_
  split
  · exact h
  · exact kept_ite (kept_setBit (kept_amendLive (kept_setF (kept_with h)))) h

theorem keptOut_execPatStore {via slot} (h : Kept s₀ s) : KeptOut s₀ (execPatStore via slot s) := by
  unfold execPatStore
  refine keptOut_next ?_
  refine kept_ite (kept_patRefuse (kept_journalReg h)) ?_
  refine kept_ite (kept_patRefuse (kept_journalReg h)) ?_
  refine kept_ite (kept_patRefuse (kept_journalReg h)) ?_
  refine kept_journalPat ?_
  exact kept_showBusy (kept_patResult (kept_slotSave (kept_setF (kept_setF (kept_with (kept_journalReg h))))))

theorem keptOut_execStoreDone (h : Kept s₀ s) : KeptOut s₀ (execStoreDone s) := by
  unfold execStoreDone
  refine keptOut_next ?_
  split
  · refine kept_patDone ?_
    refine kept_showBusy ?_
    exact kept_setF (kept_slotSave (kept_with (kept_setF (kept_setF (kept_wrBytes (kept_wrBytes h))))))
  · exact h

theorem keptOut_execPatErase {via slot} (h : Kept s₀ s) : KeptOut s₀ (execPatErase via slot s) := by
  unfold execPatErase
  refine keptOut_next ?_
  refine kept_ite (kept_patRefuse (kept_journalReg h)) ?_
  exact kept_journalPat (kept_patDone (kept_patResult (kept_slotSave (kept_setF (kept_journalReg h)))))

theorem keptOut_execPatAuto {via slot en} (h : Kept s₀ s) : KeptOut s₀ (execPatAuto via slot en s) := by
  unfold execPatAuto
  refine keptOut_next ?_
  refine kept_ite (kept_patRefuse (kept_journalReg h)) ?_
  refine kept_patDone ?_
  refine kept_patResult ?_
  refine kept_ite (kept_forNat (kept_journalReg h) (fun _ _ h1 => kept_slotSave (kept_setF h1))) ?_
  exact kept_slotSave (kept_setF (kept_journalReg h))

theorem kept_autoEnd (h : Kept s₀ s) : Kept s₀ (autoEnd s) := kept_with h

theorem kept_autoStep {k lock} (h : Kept s₀ s) : Kept s₀ (autoStep k lock s) := by
  unfold autoStep
  refine kept_ite h ?_
  split
  · exact kept_loadStart h
  · exact kept_armStart h
  · exact kept_autoEnd (kept_patPour h)
  · exact kept_autoEnd h
  · exact h

theorem keptOut_execAutoPour (h : Kept s₀ s) : KeptOut s₀ (execAutoPour s) := by
  unfold execAutoPour
  refine keptOut_next ?_
  split
  · exact h
  · exact kept_ite h (kept_autoStep (kept_with h))

/-! ### The render pipeline -/

theorem kept_slotMod {h' f} (h : Kept s₀ s) : Kept s₀ (slotMod h' f s) := kept_with h

theorem kept_lineWrite {h' n xs} (h : Kept s₀ s) : Kept s₀ (lineWrite h' n xs s) :=
  kept_forNat h (fun _ _ h1 => kept_wrWord72 h1)

theorem kept_poolClear {w n} (h : Kept s₀ s) : Kept s₀ (poolClear w n s) := kept_withMem h (aWf_filter _ _ _)

theorem kept_accStore {t q sums counts} (h : Kept s₀ s) : Kept s₀ (accStore t q sums counts s) := by
  unfold accStore
  exact kept_forEach (kept_forEach (kept_poolClear (kept_poolClear h)) (fun _ _ h1 => kept_forNat h1 (fun _ _ h2 =>
    kept_wrWord72 h2))) (fun _ _ h3 => kept_wrWord72 h3)

theorem kept_accWrite {t q a} (h : Kept s₀ s) : Kept s₀ (accWrite t q a s) :=
  kept_ite (kept_accStore h) (kept_raise (kept_cntAdd (kept_accStore h)))

theorem kept_sampleSat {n} (h : Kept s₀ s) : Kept s₀ (sampleSat n s) := kept_ite h (kept_raise (kept_cntAdd h))

theorem kept_slotPair {n q sends lost h' x} (h : Kept s₀ x.1) : Kept s₀ (slotPair n q sends lost h' x).1 := by
  unfold slotPair
  extract_lets
  split
  · exact h
  · split
    extract_lets s1
    have h1 : Kept s₀ s1 := kept_ite h (kept_lineWrite h)
    split
    split
    extract_lets
    split
    exact kept_slotMod (kept_sampleSat (kept_ite h1 (kept_raise (kept_cnt h1))))

theorem kept_slotRebind {n} (h : Kept s₀ s) : Kept s₀ (slotRebind n s) := by
  unfold slotRebind
  refine kept_forEach h (fun _ _ h1 => ?_)
  split
  · exact kept_ite (kept_with (kept_slotMod h1)) h1
  · exact h1

theorem kept_windowTable {n q h'} (h : Kept s₀ s) : Kept s₀ (windowTable n q h' s) := by
  unfold windowTable
  split
  · exact h
  · exact kept_forEach h (fun _ _ h1 => kept_wrWord72 h1)

theorem kept_seatPair {n q sends beds lost} (h : Kept s₀ s) : Kept s₀ (seatPair n q sends beds lost s) := by
  unfold seatPair
  extract_lets
  split
  rename_i e1
  have h1 := kept_fst (kept_foldl_fst (kept_forEach h (fun _ _ h2 => kept_windowTable h2)) (fun _ _ h3 =>
    kept_slotPair h3) _) e1
  exact kept_accWrite (kept_with h1)

theorem kept_lineKeep {n} (h : Kept s₀ s) : Kept s₀ (lineKeep n s) := kept_with h

theorem kept_lineRestore {n h'} (h : Kept s₀ s) : Kept s₀ (lineRestore n h' s) :=
  kept_forEach h (fun _ _ h1 => kept_wrWord72 h1)

theorem kept_pairStage {n} (h : Kept s₀ s) : Kept s₀ (pairStage n s) :=
  kept_slotRebind (kept_forNat (kept_lineKeep h) (fun _ _ h1 => kept_ite (kept_accWrite h1) (kept_seatPair h1)))

theorem kept_sourceSamples {inp stim src} (h : Kept s₀ s) : Kept s₀ (sourceSamples inp stim src s).2 := by
  unfold sourceSamples
  refine kept_ite_snd h ?_
  exact kept_ite_snd (kept_laneSamples h) (kept_ite_snd h (kept_ite_snd h (kept_ite_snd h (kept_ite_snd h h))))

theorem kept_gather {inp stim ns} (h : Kept s₀ s) : Kept s₀ (gather inp stim ns s).2 := by
  induction ns generalizing s with
  | nil => exact h
  | cons n ns ih => exact ih (kept_sourceSamples h)

theorem kept_slotInput {n inputs h'} (h : Kept s₀ s) : Kept s₀ (slotInput n inputs h' s) := by
  unfold slotInput
  extract_lets
  split
  · exact h
  · extract_lets
    split
    exact kept_sampleSat (kept_slotMod (kept_ite h (kept_raise (kept_cntAdd h))))

theorem kept_unslottedSums {inputs} (h : Kept s₀ s) : Kept s₀ (unslottedSums inputs s) :=
  kept_forEach h (fun _ _ h1 => kept_ite h1 (kept_raise (kept_cntAdd h1)))

theorem kept_capTail {inp} (h : Kept s₀ s) : Kept s₀ (capTail inp s) := by
  unfold capTail
  split
  · exact h
  · split
    · exact h
    · extract_lets
      split
      rename_i e1
      have h1 := kept_snd (kept_stimSamples (kept_with h)) e1
      split
      rename_i e2
      have h2 := kept_snd (kept_gather h1) e2
      exact kept_with (kept_capWrite (kept_with h2))

theorem kept_sprueStage {n inp} (h : Kept s₀ s) : Kept s₀ (sprueStage n inp s) := by
  unfold sprueStage
  split
  rename_i e1
  have h1 := kept_snd (kept_stimSamples h) e1
  extract_lets
  split
  rename_i e2
  have h2 := kept_snd (kept_gather h1) e2
  exact kept_capWrite (kept_unslottedSums (kept_forEach (kept_with h2) (fun _ _ h3 => kept_slotInput h3)))

/-! ### The speaker stages and egress -/

theorem kept_chanStages {t q c x} (h : Kept s₀ x.1) : Kept s₀ (chanStages t q c x).1 := by
  unfold chanStages
  extract_lets
  split
  extract_lets _ _ s1 s2 s3 s4
  have h1 : Kept s₀ s1 := kept_ite (kept_chanMod h) (kept_raise (kept_cntAdd (kept_chanMod h)))
  have h2 : Kept s₀ s2 := kept_ite h1 (kept_raise (kept_cntAdd h1))
  have h3 : Kept s₀ s3 := kept_ite h2 (kept_raise (kept_cntAdd h2))
  have h4 : Kept s₀ s4 := kept_ite h3 (kept_raise (kept_cntAdd h3))
  exact kept_ite (kept_wrN h4) h4

theorem kept_bassClear {t q} (h : Kept s₀ s) : Kept s₀ (bassClear t q s) := kept_withMem h (aWf_filter _ _ _)

theorem kept_bassWrite {t q b} (h : Kept s₀ s) : Kept s₀ (bassWrite t q b s) :=
  kept_forEach (kept_bassClear h) (fun _ _ h1 => kept_forNat h1 (fun _ _ h2 => kept_wrWord72 h2))

theorem kept_seatSpeaker {t q} (h : Kept s₀ s) : Kept s₀ (seatSpeaker t q s).1 := by
  unfold seatSpeaker
  refine kept_ite_fst (kept_bassWrite (kept_forEach h (fun _ _ h1 => kept_chanMod h1))) ?_
  split
  rename_i e1
  have h2 := kept_fst (kept_foldl_fst h (fun _ _ h3 => kept_chanStages h3) _) e1
  exact kept_bassWrite h2

theorem kept_speakerStages {t} (h : Kept s₀ s) : Kept s₀ (speakerStages t s) := by
  unfold speakerStages
  split
  rename_i e1
  have h1 := kept_fst (kept_foldl_fst h (fun _ _ hx => by exact kept_seatSpeaker hx) _) e1
  exact kept_ite (kept_cnt (kept_setBit h1)) h1

theorem kept_rotateOut {t} (h : Kept s₀ s) : Kept s₀ (rotateOut t s) := kept_with h

theorem keptOut_execSilenceHoldReached {ch} (h : Kept s₀ s) : KeptOut s₀ (execSilenceHoldReached ch s) := by
  unfold execSilenceHoldReached
  refine keptOut_next ?_
  exact kept_ite (kept_forEach h (fun _ _ h1 => kept_ite (kept_slotMod h1) h1)) (kept_ite (kept_chanMod h) h)

theorem kept_renderPour {p pat} (h : Kept s₀ s) : Kept s₀ (renderPour p pat s) := kept_with h

/-! ### Tiles, seats and handovers -/

theorem kept_tileMod {t f} (h : Kept s₀ s) : Kept s₀ (tileMod t f s) := kept_with h

theorem kept_setTile {t st} (h : Kept s₀ s) : Kept s₀ (setTile t st s) := kept_setF h

theorem kept_seatTile {fb q t bank} (h : Kept s₀ s) : Kept s₀ (seatTile fb q t bank s) :=
  kept_setF (kept_setF (kept_setF (kept_setTile (kept_ite (kept_setF (kept_setF h)) (kept_setF (kept_setF h))))))

theorem kept_showSpare {t} (h : Kept s₀ s) : Kept s₀ (showSpare t s) := by
  unfold showSpare
  split
  · exact kept_setF (kept_setF h)
  · exact kept_setF (kept_setF h)

theorem kept_showUsable (h : Kept s₀ s) : Kept s₀ (showUsable s) := kept_setF h

theorem kept_noSpare (h : Kept s₀ s) : Kept s₀ (noSpare s) := kept_ite (kept_raise h) h

theorem kept_markRegion {r} (h : Kept s₀ s) : Kept s₀ (markRegion r s) := by
  unfold markRegion
  extract_lets _ _ s1
  have h1 : Kept s₀ s1 := kept_setBit (kept_with (kept_setF h))
  exact kept_ite (kept_showUsable (kept_setTile h1)) h1

theorem kept_clearSeats (h : Kept s₀ s) : Kept s₀ (clearSeats s) := by
  unfold clearSeats
  exact kept_forNat (kept_forNat (kept_forNat h (fun _ _ h1 => kept_wrN h1)) (fun _ _ h2 => kept_wrN h2)) (fun _ _
    h3 => kept_ite (kept_setF h3) (kept_setTile h3))

theorem kept_assignSeats (h : Kept s₀ s) : Kept s₀ (assignSeats s) := by
  unfold assignSeats
  refine kept_showSpare ?_
  exact kept_foldl (kept_showUsable (kept_clearSeats h)) (fun _ _ h1 => kept_ite (kept_seatTile h1) (kept_setTile
    h1)) _

theorem kept_assignGeo (h : Kept s₀ s) : Kept s₀ (assignGeo s) := by
  unfold assignGeo
  split
  · exact kept_setF (kept_setF (kept_setF (kept_setF h)))
  · exact kept_setF (kept_setF (kept_setF h))
  · exact kept_setF (kept_setF (kept_setF h))
  · exact kept_dacFatal (kept_raise (kept_setF h))

theorem kept_hoStrike {t} (h : Kept s₀ s) : Kept s₀ (hoStrike t s) := kept_with h

theorem kept_fadeAt {q t} (h : Kept s₀ s) : Kept s₀ (fadeAt q t s) := kept_with h

theorem kept_slotMissed {t a} (h : Kept s₀ s) : Kept s₀ (slotMissed t a s) := kept_ite h (kept_wrBytes h)

theorem kept_pairRedo {run missed} (h : Kept s₀ s) : Kept s₀ (pairRedo run missed s) := by
  unfold pairRedo
  extract_lets _ _ _ _ _ _ _ old new
  have hn : Kept s₀ new := kept_seatPair (kept_forEach (kept_with h) (fun _ _ h1 => kept_lineRestore h1))
  have hm : Kept s₀ { s with mem := new.mem } := by
    refine ⟨h.queue, fun c => ?_⟩
    obtain ⟨cr, cl, _⟩ := (canonical_iff s).1 (h.form c)
    obtain ⟨_, _, cm⟩ := (canonical_iff new).1 (hn.form c)
    exact (canonical_iff _).2 ⟨cr, cl, cm⟩
  exact kept_ite h (kept_with (s := { s with mem := new.mem }) hm)

theorem kept_tileCheck {inp t} (h : Kept s₀ s) : Kept s₀ (tileCheck inp t s) := by
  unfold tileCheck
  split
  · exact h
  · extract_lets _ _ _ _ _ _ _ s1 s2 s3 _ s4
    have h1 : Kept s₀ s1 := kept_setF (kept_setF h)
    have h2 : Kept s₀ s2 := kept_ite (kept_raise h1) h1
    have h3 : Kept s₀ s3 := kept_ite h (kept_ite (kept_hoStrike (kept_raise (kept_cnt h2))) h2)
    have h4 : Kept s₀ s4 := kept_ite h3 (kept_hoStrike (kept_raise (kept_cntAdd (kept_pairRedo (kept_forEach h3
      (fun _ _ h5 => kept_slotMissed h5))))))
    exact kept_tileMod (kept_ite (kept_hoStrike (kept_raise h4)) h4)

theorem kept_slotAbandon {h'} (h : Kept s₀ s) : Kept s₀ (slotAbandon h' s) := by
  unfold slotAbandon
  split
  rename_i e1
  have h1 := kept_snd (kept_freeNat h) e1
  exact kept_slotMod h1

theorem kept_chanAbandon {b c} (h : Kept s₀ s) : Kept s₀ (chanAbandon b c s) := by
  unfold chanAbandon
  split
  rename_i e1
  have h1 := kept_snd (kept_freeNat h) e1
  exact kept_chanMod h1

theorem kept_tileOverrun {t unwritten claims} (h : Kept s₀ s) : Kept s₀ (tileOverrun t unwritten claims s) := by
  unfold tileOverrun
  split
  · exact h
  · extract_lets _ s1
    have h1 : Kept s₀ s1 := kept_setF (kept_raise (kept_cnt h))
    refine kept_tileMod ?_
    refine kept_fadeAt ?_
    exact kept_forEach (kept_forEach (kept_forEach (kept_accStore (kept_forEach (kept_forEach (kept_hoStrike
      (kept_ite h1 (kept_raise (kept_cntAdd h1)))) (fun _ _ h2 => kept_slotMissed h2)) (fun _ _ h3 =>
      kept_lineRestore h3))) (fun _ _ h4 => kept_wrWord72 (kept_forNat h4 (fun _ _ h5 => kept_wrWord72 h5)))) (fun
      _ _ h6 => kept_slotAbandon h6)) (fun _ _ h7 => kept_chanAbandon h7)

theorem keptOut_execTileOverrun {t unwritten claims} (h : Kept s₀ s) :
    KeptOut s₀ (execTileOverrun t unwritten claims s) :=
  keptOut_next (kept_ite (kept_tileOverrun h) h)

theorem kept_showHo {st h'} (h : Kept s₀ s) : Kept s₀ (showHo st h' s) :=
  kept_setF (kept_setF (kept_setF (kept_setF (kept_setF h))))

theorem kept_hoStart {h'} (h : Kept s₀ s) : Kept s₀ (hoStart h' s) := kept_setTile (kept_showHo (kept_with h))

theorem kept_sliceEnd (h : Kept s₀ s) : Kept s₀ (sliceEnd s) := kept_with (kept_setF (kept_setF h))

theorem kept_hoAbort {reason b h'} (h : Kept s₀ s) : Kept s₀ (hoAbort reason b h' s) := by
  unfold hoAbort
  extract_lets _ _ s1 s2 s3
  have h1 : Kept s₀ s1 := kept_setF (kept_setF (kept_with h))
  have h2 : Kept s₀ s2 := kept_raise (kept_ite (kept_setTile h1) h1)
  have h3 : Kept s₀ s3 := kept_ite (kept_sliceEnd h2) h2
  exact kept_ite h3 (kept_recoverHandover h3)

theorem kept_seqHandoverGo {q} (h : Kept s₀ s) : Kept s₀ (seqHandoverGo q s) := by
  unfold seqHandoverGo
  extract_lets
  split
  · exact kept_setF h
  · exact kept_ite (kept_setF h) (kept_ite (kept_setF h) (kept_ite (kept_setF h) (kept_hoStart h)))

theorem keptOut_execSeqHandoverGo {via q} (h : Kept s₀ s) : KeptOut s₀ (execSeqHandoverGo via q s) :=
  keptOut_next (kept_seqHandoverGo (kept_journalReg h))

theorem kept_copyWords {dst src n} (h : Kept s₀ s) : Kept s₀ (copyWords dst src n s) := kept_wrBytes h

theorem kept_hoCopy {h'} (h : Kept s₀ s) : Kept s₀ (hoCopy h' s) := kept_copyWords h

theorem kept_hoLoad (h : Kept s₀ s) : Kept s₀ (hoLoad s) := by
  unfold hoLoad
  split
  · exact h
  · extract_lets
    refine kept_ite h ?_
    refine kept_ite ?_ (kept_copyWords h)
    refine kept_ite h ?_
    split
    · exact kept_ite (kept_writeSteps (kept_writeSteps h)) (kept_writeSteps h)
    · exact kept_writeSteps h

theorem keptOut_execHandoverSweep (h : Kept s₀ s) : KeptOut s₀ (execHandoverSweep s) := by
  unfold execHandoverSweep
  refine keptOut_next ?_
  split
  · exact h
  · exact kept_ite h (kept_setTile (kept_setF (kept_hoCopy (kept_with h))))

theorem kept_hoTakeBack {u} (h : Kept s₀ s) : Kept s₀ (hoTakeBack u s) :=
  kept_with (kept_forEach h (fun _ _ h1 => kept_wr h1))

theorem kept_hoSwitch {h'} (h : Kept s₀ s) : Kept s₀ (hoSwitch h' s) := by
  unfold hoSwitch
  extract_lets _ _ _ _ _ _ _ _ _ s1
  have h1 : Kept s₀ s1 := kept_setF (kept_with (kept_tileMod (kept_tileMod (kept_setF (kept_setF (kept_seatTile
    (kept_setF (kept_hoCopy h))))))))
  refine kept_ite (kept_setBit (kept_fadeAt (kept_with (kept_noSpare (kept_showSpare (kept_markRegion h1)))))) ?_
  exact kept_ite (kept_setF (kept_with (kept_showSpare (kept_setTile h1)))) (kept_showSpare (kept_setTile h1))

theorem keptOut_execHandoverSwitch (h : Kept s₀ s) : KeptOut s₀ (execHandoverSwitch s) := by
  unfold execHandoverSwitch
  refine keptOut_next ?_
  split
  · exact h
  · refine kept_ite h ?_
    refine kept_ite (kept_hoSwitch h) ?_
    exact kept_ite (kept_hoAbort h) (kept_ite (kept_setBit (kept_hoSwitch h)) (kept_with (kept_hoSwitch h)))

theorem kept_hoSettle {u} (h : Kept s₀ s) : Kept s₀ (hoSettle u s) :=
  kept_ite (kept_hoAbort (kept_hoTakeBack h)) (kept_setBit h)

theorem kept_sliceDrop (h : Kept s₀ s) : Kept s₀ (sliceDrop s) := by
  unfold sliceDrop
  split
  · exact h
  · exact kept_ite (kept_raise (kept_cnt (kept_sliceEnd (kept_showSpare (kept_setTile h))))) h

theorem kept_stagedDrop (h : Kept s₀ s) : Kept s₀ (stagedDrop s) :=
  kept_ite (kept_setBit (kept_patResult (kept_stagingEmpty (kept_pourWithdraw h)))) h

theorem kept_toFallback {t} (h : Kept s₀ s) : Kept s₀ (toFallback t s) := by
  unfold toFallback
  extract_lets s1
  have h1 : Kept s₀ s1 := kept_noSpare (kept_showSpare (kept_stagedDrop (kept_markRegion h)))
  exact kept_ite (kept_with h1) (kept_assignSeats h1)

theorem kept_lossHandover {t q} (h : Kept s₀ s) : Kept s₀ (lossHandover t q s) := by
  unfold lossHandover
  extract_lets s1
  have h1 : Kept s₀ s1 := by
    unfold s1
    split
    · exact kept_hoAbort h
    · exact h
  exact kept_hoStart (kept_convToSeats h1)

theorem kept_seatLost {t q} (h : Kept s₀ s) : Kept s₀ (seatLost t q s) := by
  unfold seatLost
  extract_lets _ _ _ s1
  have h1 : Kept s₀ s1 := kept_ite (kept_with (kept_tileMod h)) (kept_tileMod h)
  refine kept_ite (kept_ite (kept_with (kept_markRegion h1)) (kept_assignSeats (kept_markRegion h1))) ?_
  exact kept_ite (kept_ite (kept_lossHandover (kept_sliceDrop h1)) (kept_noSpare (kept_showSpare (kept_seatTile
    (kept_markRegion (kept_copyWords (kept_sliceDrop h1))))))) (kept_toFallback (kept_sliceDrop h1))

theorem kept_tileLost {t} (h : Kept s₀ s) : Kept s₀ (tileLost t s) := by
  unfold tileLost
  refine kept_ite h ?_
  split
  · exact kept_seatLost h
  · extract_lets s1 s2
    have h1 : Kept s₀ s1 := by
      unfold s1
      split
      · exact kept_ite (kept_hoAbort h) h
      · exact h
    have h2 : Kept s₀ s2 := by
      unfold s2
      split
      · exact kept_ite (kept_sliceEnd h1) h1
      · exact h1
    exact kept_noSpare (kept_showSpare (kept_markRegion (kept_ite (kept_convToSeats h2) h2)))

theorem kept_ranNow (h : Kept s₀ s) : Kept s₀ (ranNow s) := kept_with h

theorem kept_tileChecks {inp} (h : Kept s₀ s) : Kept s₀ (tileChecks inp s) := by
  unfold tileChecks
  extract_lets s1
  have h1 : Kept s₀ s1 := kept_forNat h (fun _ _ h2 => kept_tileCheck h2)
  split
  · exact kept_hoSettle (kept_with h1)
  · exact h1

theorem kept_seqStrobe {inp} (h : Kept s₀ s) : Kept s₀ (seqStrobe inp s) := by
  unfold seqStrobe
  exact kept_forNat (kept_hoLoad (kept_ranNow (kept_tileChecks h))) (fun _ _ h1 => kept_ite h1 (kept_ite
    (kept_tileLost h1) h1))

theorem keptOut_execTileFail {t} (h : Kept s₀ s) : KeptOut s₀ (execTileFail t s) :=
  keptOut_next (kept_ite (kept_tileLost (kept_raise h)) h)

theorem kept_runnerStruck {t} (h : Kept s₀ s) : Kept s₀ (runnerStruck t s) :=
  kept_hoStrike (kept_ite h (kept_tileMod h))

theorem kept_shedObj {o} (h : Kept s₀ s) : Kept s₀ (shedObj o s) := kept_setF (kept_objMod h)

theorem kept_shedPlace {dead k d} (h : Kept s₀ s) : Kept s₀ (shedPlace dead k d s) := by
  unfold shedPlace
  split
  · exact kept_shedObj h
  · exact kept_shedObj (kept_slotMod h)

theorem kept_shedSeats {qs} (h : Kept s₀ s) : Kept s₀ (shedSeats qs s) := by
  unfold shedSeats
  refine kept_raise ?_
  refine kept_setF ?_
  refine kept_with ?_
  exact kept_forEach (kept_forEach (kept_forEach h (fun _ _ h1 => kept_slotMod h1)) (fun _ _ h2 => kept_shedPlace
    h2)) (fun _ _ h3 => kept_wrN h3)

theorem kept_shedAction {qs} (h : Kept s₀ s) : Kept s₀ (shedAction qs s) :=
  kept_ite (kept_with h) (kept_shedSeats h)

theorem keptOut_execShedApply (h : Kept s₀ s) : KeptOut s₀ (execShedApply s) :=
  keptOut_next (kept_ite h (kept_shedAction (kept_with h)))

theorem kept_renderRestart {f} (h : Kept s₀ s) : Kept s₀ (renderRestart f s) := kept_with h

theorem kept_showTables {p} (h : Kept s₀ s) : Kept s₀ (showTables p s) := by
  unfold showTables
  extract_lets _ _ s1
  have h1 : Kept s₀ s1 := by
    unfold s1
    refine kept_forNat h (fun _ _ h2 => ?_)
    split
    · exact kept_setF h2
    · exact h2
  exact kept_setF (kept_setF h1)

theorem kept_fallbackSeats (h : Kept s₀ s) : Kept s₀ (fallbackSeats s) := by
  unfold fallbackSeats
  refine kept_showTables ?_
  refine kept_with ?_
  refine kept_showUsable ?_
  exact kept_foldl (kept_clearSeats h) (fun _ _ h1 => kept_ite (kept_seatTile (kept_writeTable h1)) h1) _

theorem keptOut_execFallbackSwitch (h : Kept s₀ s) : KeptOut s₀ (execFallbackSwitch s) := by
  unfold execFallbackSwitch
  refine keptOut_next ?_
  split
  · exact h
  · extract_lets _ _ s1 s2
    have h1 : Kept s₀ s1 := by
      unfold s1
      split
      · exact kept_hoAbort (kept_with h)
      · exact kept_with h
    have h2 : Kept s₀ s2 := kept_renderRestart (kept_fallbackSeats h1)
    exact kept_ite h (kept_recoverFallback (kept_raise (kept_ite h2 (kept_setF h2))))

theorem kept_doubleG (h : Kept s₀ s) : Kept s₀ (doubleG s) := kept_ite (kept_with h) h

theorem kept_geoSliceDrop (h : Kept s₀ s) : Kept s₀ (geoSliceDrop s) := by
  unfold geoSliceDrop
  split
  · exact kept_ite (kept_raise (kept_cnt (kept_sliceEnd (kept_setF (kept_setF h))))) h
  · exact h

theorem kept_geoShare {u v} (h : Kept s₀ s) : Kept s₀ (geoShare u v s) := by
  unfold geoShare
  extract_lets s1
  have h1 : Kept s₀ s1 := kept_ite (kept_setF h) h
  exact kept_ite (kept_setF h1) h1

theorem kept_geoLost {u} (h : Kept s₀ s) : Kept s₀ (geoLost u s) := by
  unfold geoLost
  extract_lets _ _ s1 s2
  have h1 : Kept s₀ s1 := by
    unfold s1
    split
    · exact kept_ite (kept_sliceEnd h) h
    · exact h
  have h2 : Kept s₀ s2 := kept_markRegion (kept_geoSliceDrop h)
  refine kept_ite h ?_
  refine kept_ite (kept_markRegion (kept_ite (kept_setF h1) h1)) ?_
  refine kept_ite (kept_setF (kept_geoShare h2)) ?_
  exact kept_ite (kept_doubleG (kept_geoShare h2)) (kept_dacFatal (kept_raise h2))

theorem keptOut_execGeoUnitFail {u} (h : Kept s₀ s) : KeptOut s₀ (execGeoUnitFail u s) :=
  keptOut_next (kept_ite (kept_geoLost (kept_raise h)) h)

/-! ### The Flask link -/

theorem kept_syncEnter {v} (h : Kept s₀ s) : Kept s₀ (syncEnter v s) := kept_setF (kept_with h)

theorem kept_snapDrop (h : Kept s₀ s) : Kept s₀ (snapDrop s) := kept_with (kept_ite (kept_pourWithdraw h) h)

theorem kept_notReady {reason} (h : Kept s₀ s) : Kept s₀ (notReady reason s) := by
  unfold notReady
  extract_lets _ s1
  have h1 : Kept s₀ s1 := kept_setF (kept_syncEnter (kept_snapDrop h))
  exact kept_ite (kept_raise h1) h1

theorem kept_syncInterrupt (h : Kept s₀ s) : Kept s₀ (syncInterrupt s) := kept_ite (kept_notReady h) h

theorem kept_ladleAnswer {litem status reason} (h : Kept s₀ s) : Kept s₀ (ladleAnswer litem status reason s) :=
  kept_ladlePut (kept_with h)

theorem kept_clmResult {cmd reason} (h : Kept s₀ s) : Kept s₀ (clmResult cmd reason s) := kept_setF (kept_setF h)

theorem kept_clmRefuse {cmd reason} (h : Kept s₀ s) : Kept s₀ (clmRefuse cmd reason s) :=
  kept_setBit (kept_clmResult h)

theorem kept_itemRefuse {it r} (h : Kept s₀ s) : Kept s₀ (itemRefuse it r s) := by
  unfold itemRefuse
  split
  · dsimp only
    split
    · exact kept_ite (kept_ladleAnswer (kept_refuseEverywhere h)) (kept_refuseEverywhere h)
    · exact kept_refuseEverywhere h
  · exact kept_ite h (kept_rteCmtRefuse h)
  · exact kept_rteRefuse h
  · exact kept_amendRefuse h
  · exact kept_ite h (kept_pourRefuse h)
  · exact kept_ite h (kept_stopRefuse h)
  · exact kept_patRefuse h
  · exact kept_capRefuse (kept_with h)
  · exact kept_capRefuse h
  · exact kept_capRefuse h
  · exact kept_clmRefuse (kept_with h)
  · exact kept_clmRefuse (kept_with h)
  · exact h
  · exact h
  · exact h

theorem kept_untimedApply {it} (h : Kept s₀ s) : Kept s₀ (untimedApply it s) := by
  unfold untimedApply
  split
  · exact kept_applyReg h
  · exact kept_objCmdPlace h
  · exact kept_ite h (kept_setF h)
  · exact h

theorem kept_holdApply {id it b} (h : Kept s₀ s) : Kept s₀ (holdApply id it b s) := by
  unfold holdApply
  split
  · exact kept_objCmdPlace h
  · exact kept_with h

theorem kept_itemAccept {id it} (h : Kept s₀ s) : Kept s₀ (itemAccept id it s) := by
  have hc {n} : Kept s₀ (flkConfirm id n s) := kept_flkConfirm h
  unfold itemAccept
  split
  · dsimp only
    split
    · exact kept_ite (kept_ladleAnswer (kept_objMod h)) (kept_tryAccept (kept_objMod h))
    · exact kept_objMod h
  · exact kept_rteAccept hc
  · exact kept_rteCancelAccept hc
  · exact kept_amendTry (kept_with hc)
  · exact kept_pourAccept hc
  · exact kept_stopAccept hc
  · exact kept_discardAccept hc
  · exact kept_capStartAccept hc
  · exact kept_capStopAccept hc
  · exact kept_capCancelAccept hc
  · exact kept_clmResult (kept_with hc)
  · exact kept_clmResult (kept_with hc)
  · exact kept_holdApply hc

theorem kept_stageRec {src item litem needed g} (h : Kept s₀ s) : Kept s₀ (stageRec src item litem needed g s) :=
  kept_objMod h

theorem kept_itemStage {id it} (h : Kept s₀ s) : Kept s₀ (itemStage id it s) := by
  unfold itemStage
  refine kept_ite ?_ ?_
  · split
    · exact kept_setStg (kept_with h)
    · exact h
  · split
    · exact kept_stageRec (kept_ite (kept_wrN h) h)
    · split
      · exact kept_amendStage h
      · exact h
    · exact kept_setStg (kept_with h)
    · exact kept_with h
    · exact kept_ite h (kept_with h)
    · exact h

theorem kept_itemFinal {it b} (h : Kept s₀ s) : Kept s₀ (itemFinal it b s) := by
  unfold itemFinal
  split
  · exact kept_acceptRec h
  · exact kept_rteMirror (kept_journal h)
  · exact kept_rteMirror h
  · exact kept_amendTry (kept_with h)
  · exact kept_pourAccept (kept_with h)
  · exact kept_stopAccept h
  · exact kept_discardAccept h
  · exact kept_capStartAccept h
  · exact kept_capStopAccept h
  · exact kept_capCancelAccept h
  · exact kept_with h
  · exact kept_with h
  · exact kept_holdApply h

theorem kept_itemDrop {it} (h : Kept s₀ s) : Kept s₀ (itemDrop it s) := by
  unfold itemDrop
  split
  · exact kept_dropRefused h
  · exact kept_amendDrop h
  · exact kept_pourWithdraw h
  · exact kept_with h
  · exact kept_with h
  · exact h

theorem kept_heldErase {id} (h : Kept s₀ s) : Kept s₀ (heldErase id s) := kept_with h

theorem kept_confirmItem {dec id b} (h : Kept s₀ s) : Kept s₀ (confirmItem dec id b s) := by
  unfold confirmItem
  split
  · exact h
  · extract_lets _ _ s1
    have h1 : Kept s₀ s1 := kept_ite (kept_with (kept_heldErase h)) (kept_heldErase h)
    refine kept_ite (kept_itemFinal h1) ?_
    split
    · exact kept_itemFinal h1
    · exact h1

theorem kept_discardItem {id} (h : Kept s₀ s) : Kept s₀ (discardItem id s) := by
  unfold discardItem
  split
  · exact h
  · exact kept_itemDrop (kept_heldErase h)

theorem kept_commitReady {s'} (hs1 : Kept s₀ s') : Kept s₀ (commitReady s s') := kept_ite hs1 (kept_flkSend hs1)

theorem kept_mirrorTake {x a} (h : Kept s₀ a.1) : Kept s₀ (mirrorTake x a).1 := by
  obtain ⟨s, held, refused⟩ := a
  have hs {f} : Kept s₀ (itemStage x.1 x.2 { s with flk := f }) := kept_itemStage (kept_with h)
  unfold mirrorTake
  dsimp only
  split
  · exact kept_ite_fst h h
  · split
    · exact h
    · exact kept_ite_fst hs hs

theorem kept_takeFrame {α} {pick : FlkPayload → Option α} {a f} (h : Kept s₀ s)
    (e : takeFrame pick s = some (a, f, t)) : Kept s₀ t := by
  unfold takeFrame at e
  split at e
  · cases e
  · obtain ⟨_, _, e⟩ := Option.map_eq_some_iff.1 e
    cases e
    exact kept_with h

theorem kept_drainAhead {n} (h : Kept s₀ s) : Kept s₀ (drainAhead n s) := by
  induction n generalizing s with
  | zero => exact h
  | succ n ih =>
    unfold drainAhead
    split
    · exact h
    · exact ih (kept_with h)

theorem kept_heartbeatSeen {f} (h : Kept s₀ s) : Kept s₀ (heartbeatSeen f s) := by
  unfold heartbeatSeen
  split
  · exact kept_with h
  · exact h

theorem keptOut_execFlaskFrameRx {f} (h : Kept s₀ s) : KeptOut s₀ (execFlaskFrameRx f s) := by
  unfold execFlaskFrameRx
  refine keptOut_next ?_
  refine kept_ite h ?_
  refine kept_ite (kept_cnt h) ?_
  exact kept_ite (kept_ite h (kept_with h)) (kept_ite h (kept_drainAhead (kept_with (kept_heartbeatSeen h))))

theorem keptOut_execHelloRx (h : Kept s₀ s) : KeptOut s₀ (execHelloRx s) := by
  unfold execHelloRx
  extract_lets
  refine keptOut_next ?_
  split
  · exact h
  · rename_i e1
    have h1 := kept_takeFrame h e1
    extract_lets _ _ s1
    have h2 : Kept s₀ s1 := kept_with (kept_ite (kept_syncInterrupt h1) h1)
    exact kept_ite (kept_raise h2) h2

theorem kept_heartbeatSkew {block stamp} (h : Kept s₀ s) : Kept s₀ (heartbeatSkew block stamp s) := by
  unfold heartbeatSkew
  extract_lets _ _ _ s1
  have h1 : Kept s₀ s1 := kept_raise (kept_wrN h)
  exact kept_ite (kept_ite (kept_notReady h1) h1) (kept_wrN h)

theorem kept_adoptFadj {n r} (h : Kept s₀ s) : Kept s₀ (adoptFadj n r s) := kept_ite (kept_fadjSet h) h

theorem kept_heartbeatDigest {block ds} (h : Kept s₀ s) : Kept s₀ (heartbeatDigest block ds s) := by
  unfold heartbeatDigest
  split
  · exact h
  · exact kept_ite (kept_setBit (kept_syncEnter (kept_with h))) (kept_with h)
  · extract_lets _ _ s1
    have h1 : Kept s₀ s1 := kept_raise (kept_cnt (kept_wrN (kept_with h)))
    exact kept_ite (kept_ite (kept_notReady h1) h1) (kept_with h)

theorem kept_joinAt {j} (h : Kept s₀ s) : Kept s₀ (joinAt j s) :=
  kept_ite (kept_setStg (kept_with (kept_wr64 (kept_with h)))) h

theorem kept_takeConfirm {dec c} (h : Kept s₀ s) : Kept s₀ (takeConfirm dec c s) :=
  kept_ite (kept_joinAt h) (kept_confirmItem h)

theorem keptOut_execHeartbeatRx (h : Kept s₀ s) : KeptOut s₀ (execHeartbeatRx s) := by
  unfold execHeartbeatRx
  extract_lets
  refine keptOut_next ?_
  split
  · exact h
  · rename_i e1
    have h1 := kept_takeFrame h e1
    extract_lets s1 _ _ _ _ s2 s3 s4
    have h2 : Kept s₀ s1 := kept_setF (kept_setF h1)
    have h3 : Kept s₀ s2 := kept_heartbeatSkew (kept_with (kept_ite (kept_syncInterrupt h2) h2))
    have h4 : Kept s₀ s3 := kept_ite (kept_foldl h3 (fun _ _ h5 => kept_adoptFadj h5) _) h3
    have h6 : Kept s₀ s4 := by
      unfold s4
      split
      · exact kept_ascTrigger h4
      · exact h4
    refine kept_heartbeatDigest ?_
    exact kept_ite (kept_forEach (kept_forEach h6 (fun _ _ h7 => kept_takeConfirm h7)) (fun _ _ h8 =>
      kept_discardItem h8)) h6

theorem keptOut_execSilenceRx (h : Kept s₀ s) : KeptOut s₀ (execSilenceRx s) := by
  unfold execSilenceRx
  extract_lets
  refine keptOut_next ?_
  split
  · exact h
  · rename_i e1
    have h1 := kept_takeFrame h e1
    split
    · exact kept_ite h1 (kept_with h1)
    · exact h1

theorem keptOut_execMirrorRx (h : Kept s₀ s) : KeptOut s₀ (execMirrorRx s) := by
  unfold execMirrorRx
  extract_lets
  refine keptOut_next ?_
  split
  · exact h
  · rename_i e1
    have h1 := kept_takeFrame h e1
    refine kept_ite h1 ?_
    split
    rename_i e2
    have h2 := kept_fst (kept_foldl_fst h1 (fun _ _ h3 => kept_mirrorTake h3) _) e2
    exact kept_ite (kept_with h2) (kept_flkSend (kept_with h2))

theorem keptOut_execCommitRx (h : Kept s₀ s) : KeptOut s₀ (execCommitRx s) := by
  unfold execCommitRx
  extract_lets
  refine keptOut_next ?_
  split
  · exact h
  · rename_i e1
    have h1 := kept_takeFrame h e1
    refine kept_ite h1 ?_
    refine kept_ladleBatch (fun _ h2 => ?_) h1
    extract_lets s1
    have h3 : Kept s₀ s1 := by
      unfold s1
      refine kept_forEach h2 (fun _ _ h4 => ?_)
      refine kept_ite (kept_ite (kept_flkConfirm (kept_with h4)) h4) ?_
      split
      · exact kept_itemAccept (kept_dropItem h4)
      · exact h4
    refine kept_forEach h3 (fun _ _ h5 => ?_)
    split
    · exact kept_itemRefuse (kept_dropItem h5)
    · exact h5

theorem keptOut_execConfirmRx (h : Kept s₀ s) : KeptOut s₀ (execConfirmRx s) := by
  unfold execConfirmRx
  extract_lets
  refine keptOut_next ?_
  split
  · exact h
  · rename_i e1
    have h1 := kept_takeFrame h e1
    exact kept_ite h1 (kept_forEach h1 (fun _ _ h2 => kept_takeConfirm h2))

theorem keptOut_execDiscardRx (h : Kept s₀ s) : KeptOut s₀ (execDiscardRx s) := by
  unfold execDiscardRx
  extract_lets
  refine keptOut_next ?_
  split
  · exact h
  · rename_i e1
    have h1 := kept_takeFrame h e1
    exact kept_ite (kept_forEach h1 (fun _ _ h2 => kept_discardItem h2)) h1

theorem keptOut_execMirrorDeadline (h : Kept s₀ s) : KeptOut s₀ (execMirrorDeadline s) :=
  keptOut_next (kept_forEach h (fun _ _ h1 => kept_itemRefuse (kept_flkDiscard (kept_dropItem (kept_cnt h1)))))

theorem keptOut_execSnapReqRx (h : Kept s₀ s) : KeptOut s₀ (execSnapReqRx s) := by
  unfold execSnapReqRx
  extract_lets
  refine keptOut_next ?_
  split
  · exact h
  · rename_i e1
    have h1 := kept_takeFrame h e1
    exact kept_ite (kept_with h1) h1

theorem keptOut_execSnapDataRx (h : Kept s₀ s) : KeptOut s₀ (execSnapDataRx s) := by
  unfold execSnapDataRx
  extract_lets
  refine keptOut_next ?_
  split
  · exact h
  · rename_i e1
    have h1 := kept_takeFrame h e1
    exact kept_ite (kept_with h1) h1

theorem keptOut_execSnapEndRx (h : Kept s₀ s) : KeptOut s₀ (execSnapEndRx s) := by
  unfold execSnapEndRx
  extract_lets
  refine keptOut_next ?_
  split
  · exact h
  · rename_i e1
    have h1 := kept_takeFrame h e1
    exact kept_ite (kept_flkSend (kept_syncEnter (kept_with h1))) h1

theorem keptOut_execSnapAbortRx (h : Kept s₀ s) : KeptOut s₀ (execSnapAbortRx s) := by
  unfold execSnapAbortRx
  extract_lets
  refine keptOut_next ?_
  split
  · exact h
  · rename_i e1
    have h1 := kept_takeFrame h e1
    exact kept_syncInterrupt h1

theorem kept_epochTake {e} (h : Kept s₀ s) : Kept s₀ (epochTake e s) :=
  kept_ite (kept_raise (kept_with h)) (kept_with h)

theorem kept_snapInstall {x} (h : Kept s₀ s) : Kept s₀ (snapInstall x s) := by
  unfold snapInstall
  split
  · exact kept_objMod h
  · refine kept_rteShow ?_
    exact kept_asrcAssign (kept_foldl (kept_setF (kept_setF (kept_with h))) (fun _ _ h1 => kept_putShadow h1) _)
  · exact kept_peqMod h
  · exact kept_coefMod h
  · exact kept_with h
  · exact kept_with (kept_with h)
  · exact h
  · exact h
  · exact kept_epochTake h
  · exact kept_itemFinal h

theorem kept_snapRegs {parts} (h : Kept s₀ s) : Kept s₀ (snapRegs parts s) := by
  have hf {p q} : Kept s₀ { s with regs := s.regs.filter p, live := s.live.filter q } :=
    kept_withLive (kept_withRegs h (aWf_filter _ _ _)) (aWf_filter _ _ _)
  exact kept_forEach (kept_forEach hf (fun _ _ h1 => kept_wrN_live h1)) (fun _ _ h2 => kept_strEffect h2)

theorem kept_txCount {t m} (h : Kept s₀ s) : Kept s₀ (txCount t m s) := kept_txMod (kept_setF h)

theorem kept_snapSeq {x} (h : Kept s₀ s) : Kept s₀ (snapSeq x s) := by
  unfold snapSeq
  split
  · extract_lets
    split
    · exact kept_ite (kept_txMod (kept_setF (kept_setF h))) (kept_setF h)
    · exact kept_setF h
  · exact h

theorem kept_replayCtl {off v b} (h : Kept s₀ s) : Kept s₀ (replayCtl off v b s) := by
  unfold replayCtl
  extract_lets
  split
  · exact kept_ite (kept_rxCtlApply h) (kept_rxStop (kept_rxCtlApply h))
  · extract_lets _ s1
    have h1 : Kept s₀ s1 := kept_txCtlApply (kept_ite (kept_txCount h) h)
    exact kept_ite (kept_txStop h1) (kept_ite (kept_txMod (kept_setF h1)) h1)
  · exact h

theorem kept_replayItem {r} (h : Kept s₀ s) : Kept s₀ (replayItem r s) := by
  unfold replayItem
  split
  · refine kept_ite (kept_holdApply h) ?_
    exact kept_ite (kept_replayCtl (kept_journalReg h)) (kept_applyReg (kept_journalReg h))
  · exact kept_ite (kept_holdApply h) (kept_untimedApply h)
  · exact kept_holdApply h
  · exact kept_itemFinal (kept_itemStage h)

theorem kept_txCatchUp (h : Kept s₀ s) : Kept s₀ (txCatchUp s) :=
  kept_forEach h (fun _ _ h1 => kept_ite (kept_txCount h1) h1)

theorem kept_snapReplay {parts} (h : Kept s₀ s) : Kept s₀ (snapReplay parts s) := by
  unfold snapReplay
  exact kept_forEach (kept_txCatchUp (kept_forEach (kept_forEach h (fun _ _ h1 => kept_snapSeq h1)) (fun _ _ h2 =>
    kept_replayItem h2))) (fun _ _ h3 => kept_itemStage h3)

theorem keptOut_execShadowEnd (h : Kept s₀ s) : KeptOut s₀ (execShadowEnd s) :=
  keptOut_next (kept_ite (kept_with (kept_syncEnter h)) h)

theorem keptOut_execConvTimeout (h : Kept s₀ s) : KeptOut s₀ (execConvTimeout s) :=
  keptOut_next (kept_ite (kept_notReady h) h)

theorem keptOut_execResyncRetry (h : Kept s₀ s) : KeptOut s₀ (execResyncRetry s) :=
  keptOut_next (kept_ite (kept_syncEnter h) h)

theorem keptOut_execFlkResync {via} (h : Kept s₀ s) : KeptOut s₀ (execFlkResync via s) :=
  keptOut_next (kept_ite (kept_syncEnter (kept_journalReg h)) (kept_setBit (kept_journalReg h)))

theorem kept_linkLost (h : Kept s₀ s) : Kept s₀ (linkLost s) := by
  unfold linkLost
  extract_lets s1
  have h1 : Kept s₀ s1 := kept_raise (kept_setF h)
  refine kept_ite (kept_with h1) ?_
  split
  · exact kept_syncEnter h1
  · exact kept_notReady h1
  · exact kept_notReady h1
  · exact kept_notReady h1
  · exact kept_notReady h1
  · exact h1

theorem keptOut_execFlaskLinkStale (h : Kept s₀ s) : KeptOut s₀ (execFlaskLinkStale s) :=
  keptOut_next (kept_ite (kept_linkLost h) h)

theorem keptOut_execFlaskLaneDown {lane} (h : Kept s₀ s) : KeptOut s₀ (execFlaskLaneDown lane s) :=
  keptOut_next (kept_ite h (kept_raise (kept_setF h)))

theorem keptOut_execFlaskLaneUp {lane} (h : Kept s₀ s) : KeptOut s₀ (execFlaskLaneUp lane s) :=
  keptOut_next (kept_setF h)

theorem kept_linkStrobe (h : Kept s₀ s) : Kept s₀ (linkStrobe s) := by
  unfold linkStrobe
  extract_lets _ _ _ _ s1
  have h1 : Kept s₀ s1 := kept_with (kept_ite (kept_cnt (kept_setF h)) (kept_setF h))
  exact kept_ite (kept_ite (kept_syncEnter (kept_setF h1)) (kept_setF h1)) h1

theorem kept_syncStrobe (h : Kept s₀ s) : Kept s₀ (syncStrobe s) := by
  unfold syncStrobe
  extract_lets
  refine kept_ite (kept_ite (kept_notReady h) h) ?_
  split
  · exact kept_ite (kept_flkSend (kept_syncEnter (kept_cnt (kept_snapDrop h)))) h
  · exact kept_ite h (kept_notReady h)
  · exact kept_ite h (kept_notReady h)
  · exact h

theorem kept_snapStrobe (h : Kept s₀ s) : Kept s₀ (snapStrobe s) :=
  kept_ite (kept_flkSend (kept_flkSend (kept_with h))) h

theorem kept_heldStrobe (h : Kept s₀ s) : Kept s₀ (heldStrobe s) := by
  unfold heldStrobe
  extract_lets
  refine kept_forEach (kept_with h) (fun _ _ h1 => ?_)
  extract_lets s1
  have h2 : Kept s₀ s1 := by
    unfold s1
    split
    · exact kept_ite (kept_journalReg h1) h1
    · exact h1
  exact kept_untimedApply h2

theorem kept_flkStrobe (h : Kept s₀ s) : Kept s₀ (flkStrobe s) := by
  unfold flkStrobe
  extract_lets _ _ _ _ _ _ s1 _ _ _ s2
  have h1 : Kept s₀ s1 := kept_with (kept_syncStrobe (kept_linkStrobe (kept_with h)))
  have h2 : Kept s₀ s2 := kept_with (kept_flkSend (kept_ite h1 (kept_flkSend h1)))
  exact kept_ite (kept_with h) (kept_mirrorResend (kept_snapStrobe (kept_ite (kept_flkSend h2) h2)))

/-! ### Manager and workers -/

theorem kept_ladleTake {ty f} (h : Kept s₀ s) (e : ladleTake ty s = some (f, t)) : Kept s₀ t := by
  unfold ladleTake at e
  split at e
  · cases e
  · split at e
    · cases e
      exact kept_moabyReturn (kept_with h)
    · cases e

theorem kept_hierBad (h : Kept s₀ s) : Kept s₀ (hierBad s) := kept_cnt h

theorem kept_workerStage {g l} (h : Kept s₀ s) : Kept s₀ (workerStage g l s) := by
  unfold workerStage
  refine kept_ite ?_ (kept_ite (kept_ite (kept_ladleAnswer h) (kept_ladleAnswer (kept_stageRec h)))
    (kept_ladleAnswer (kept_stageRec h)))
  split
  rename_i e1
  have h1 := kept_snd (kept_mirrorSend h) e1
  exact kept_stageRec h1

theorem kept_workerRecord {g l} (h : Kept s₀ s) : Kept s₀ (workerRecord g l s) := by
  unfold workerRecord
  extract_lets
  split
  · exact kept_ladleAnswer h
  · refine kept_ite (kept_ladleAnswer h) ?_
    refine kept_ite (kept_ladleAnswer h) ?_
    refine kept_ite (kept_ladleAnswer h) ?_
    refine kept_ite (kept_ladleAnswer h) ?_
    split
    · exact kept_ite (kept_objMod h) (kept_ladleAnswer (kept_objMod h))
    · exact kept_ite (kept_ladleAnswer h) (kept_workerStage h)

theorem kept_keepForwarded {g l} (h : Kept s₀ s) : Kept s₀ (keepForwarded g l s) := kept_ite (kept_with h) h

theorem keptOut_execLadleRecRx (h : Kept s₀ s) : KeptOut s₀ (execLadleRecRx s) := by
  unfold execLadleRecRx
  refine keptOut_next ?_
  split
  · exact h
  · rename_i e1
    have h1 := kept_ladleTake h e1
    refine kept_ite (kept_hierBad h1) ?_
    refine kept_ite h1 ?_
    refine kept_ladleBatch (fun _ h2 => ?_) h1
    refine kept_forEach h2 (fun _ _ h3 => ?_)
    split
    exact kept_workerRecord (kept_keepForwarded h3)

theorem kept_workerConfirm {obj q} (h : Kept s₀ s) : Kept s₀ (workerConfirm obj q s) := by
  unfold workerConfirm
  extract_lets _ _ s1 _ _ s2
  have h1 : Kept s₀ s1 := by
    unfold s1
    split
    · exact kept_flkConfirm (kept_dropItem h)
    · exact h
  have h2 : Kept s₀ s2 := kept_acceptRec (kept_ite (kept_objMod h1) h1)
  exact kept_ite (kept_raise (kept_cnt h2)) h2

theorem kept_workerDiscard {obj q} (h : Kept s₀ s) : Kept s₀ (workerDiscard obj q s) := by
  unfold workerDiscard
  extract_lets s1
  have h1 : Kept s₀ s1 := by
    unfold s1
    split
    · exact kept_flkDiscard (kept_dropItem h)
    · exact h
  exact kept_dropRefused h1

theorem keptOut_execLadleDecideRx (h : Kept s₀ s) : KeptOut s₀ (execLadleDecideRx s) := by
  unfold execLadleDecideRx
  refine keptOut_next ?_
  split
  · exact h
  · rename_i e1
    have h1 := kept_ladleTake h e1
    refine kept_ite (kept_hierBad h1) ?_
    refine kept_ite h1 ?_
    refine kept_forEach h1 (fun _ _ h2 => ?_)
    extract_lets _ _ _ s1
    have h3 : Kept s₀ s1 := kept_ite (kept_with h2) h2
    split
    · exact h3
    · exact kept_ite (kept_workerConfirm h3) (kept_workerDiscard h3)

theorem kept_hierJoining (h : Kept s₀ s) : Kept s₀ (hierJoining s) := kept_setF (kept_with h)

theorem keptOut_execLadleUndecided (h : Kept s₀ s) : KeptOut s₀ (execLadleUndecided s) := by
  unfold execLadleUndecided
  refine keptOut_next ?_
  exact kept_ite (kept_hierJoining (kept_raise (kept_forEach (kept_with h) (fun _ _ h1 => kept_flkDiscard
    (kept_dropItem h1))))) h

theorem kept_needDrop {w obj q} (h : Kept s₀ s) : Kept s₀ (needDrop w obj q s) := by
  unfold needDrop
  extract_lets
  refine kept_ite h ?_
  refine kept_ite (kept_objMod h) ?_
  refine kept_ite (kept_tryAccept (kept_objMod h)) ?_
  split
  · exact kept_flkSend (kept_objMod h)
  · exact kept_objMod h

theorem kept_needDropAll {w} (h : Kept s₀ s) : Kept s₀ (needDropAll w s) :=
  kept_forEach h (fun _ _ h1 => kept_needDrop h1)

theorem kept_workerMod {w f} (h : Kept s₀ s) : Kept s₀ (workerMod w f s) := kept_with h

theorem kept_ackTake {b} (h : Kept s₀ s) : Kept s₀ (ackTake b s) := by
  unfold ackTake
  extract_lets _ _ _ _ _ s1
  have h1 : Kept s₀ s1 := kept_ite (kept_with h) h
  refine kept_ite (kept_ite (kept_workerMod h) h) ?_
  split
  · exact kept_commitReady h1
  · exact kept_ite h1 (kept_ite (kept_ite (kept_refuseEverywhere h1) h1) (kept_needDrop h1))

theorem keptOut_execLadleAckRx (h : Kept s₀ s) : KeptOut s₀ (execLadleAckRx s) := by
  unfold execLadleAckRx
  refine keptOut_next ?_
  split
  · exact h
  · rename_i e1
    have h1 := kept_ladleTake h e1
    refine kept_ite (kept_hierBad h1) ?_
    exact kept_ladleBatch (fun _ h2 => kept_forEach h2 (fun _ _ h3 => kept_ackTake h3)) h1

theorem kept_workerLost {w reason} (h : Kept s₀ s) : Kept s₀ (workerLost w reason s) := by
  unfold workerLost
  refine kept_showMembers ?_
  refine kept_ladleBatch (fun _ h1 => kept_needDropAll h1) ?_
  exact kept_raise (kept_cnt (kept_workerMod (kept_setF (kept_setF h))))

theorem kept_workerRateRefused {w} (h : Kept s₀ s) : Kept s₀ (workerRateRefused w s) :=
  kept_setF (kept_setF (kept_workerMod h))

theorem keptOut_execWorkerHbTimeout {w} (h : Kept s₀ s) : KeptOut s₀ (execWorkerHbTimeout w s) :=
  keptOut_next (kept_ite (kept_workerLost h) h)

theorem kept_workerBeat {b} (h : Kept s₀ s) : Kept s₀ (workerBeat b s) := by
  unfold workerBeat
  extract_lets
  refine kept_ite h ?_
  split
  · exact kept_ite (kept_showMembers (kept_workerRateRefused (kept_workerMod h))) (kept_workerMod h)
  · refine kept_ite (kept_workerMod h) ?_
    refine kept_ite (kept_workerLost (kept_workerMod h)) ?_
    exact kept_ite (kept_workerLost (kept_workerMod h)) (kept_workerMod h)

theorem kept_standbyMembers {b} (h : Kept s₀ s) : Kept s₀ (standbyMembers b s) := by
  unfold standbyMembers
  refine kept_commitReady ?_
  refine kept_showMembers ?_
  exact kept_forNat h (fun _ _ h1 => kept_ite (kept_setF h1) (kept_ite (kept_needDropAll (kept_setF h1)) h1))

theorem kept_managerBeat {f b} (h : Kept s₀ s) : Kept s₀ (managerBeat f b s) := by
  unfold managerBeat
  extract_lets _ _ _ _ s1
  have h1 : Kept s₀ s1 := kept_setF (kept_with h)
  refine kept_ite (kept_hierBad h) ?_
  refine kept_ite (kept_ite (kept_setF (kept_with h1)) h1) ?_
  split
  · exact kept_ite (kept_setF (kept_with h1)) h1
  · exact kept_ite h1 (kept_hierJoining h1)
  · exact kept_ite (kept_setF (kept_with h1)) (kept_hierJoining h1)
  · exact h1

theorem keptOut_execLadleHbRx (h : Kept s₀ s) : KeptOut s₀ (execLadleHbRx s) := by
  unfold execLadleHbRx
  refine keptOut_next ?_
  split
  · exact h
  · rename_i e1
    have h1 := kept_ladleTake h e1
    refine kept_ite (kept_workerBeat h1) ?_
    exact kept_ite (kept_managerBeat h1) (kept_ite (kept_standbyMembers h1) (kept_hierBad h1))

theorem keptOut_execManagerHbTimeout (h : Kept s₀ s) : KeptOut s₀ (execManagerHbTimeout s) :=
  keptOut_next (kept_ite (kept_raise (kept_setF (kept_with h))) h)

theorem keptOut_execJoinReqSend (h : Kept s₀ s) : KeptOut s₀ (execJoinReqSend s) :=
  keptOut_next (kept_ite (kept_ladleSend (kept_with h)) h)

theorem keptOut_execJoinReqRx (h : Kept s₀ s) : KeptOut s₀ (execJoinReqRx s) := by
  unfold execJoinReqRx
  refine keptOut_next ?_
  split
  · exact h
  · rename_i e1
    have h1 := kept_ladleTake h e1
    refine kept_ite (kept_hierBad h1) ?_
    refine kept_ite h1 ?_
    exact kept_ite (kept_setF h1) (kept_showMembers (kept_workerMod (kept_setF (kept_setF (kept_setF h1)))))

theorem kept_joinAbort (h : Kept s₀ s) : Kept s₀ (joinAbort s) := kept_raise (kept_with h)

theorem kept_joinEntry {compact b} (h : Kept s₀ s) : Kept s₀ (joinEntry compact b s) := by
  unfold joinEntry
  split
  · exact kept_with h
  · exact kept_with h
  · exact h

theorem keptOut_execJoinDataRx (h : Kept s₀ s) : KeptOut s₀ (execJoinDataRx s) := by
  unfold execJoinDataRx
  refine keptOut_next ?_
  split
  · exact h
  · rename_i e1
    have h1 := kept_ladleTake h e1
    refine kept_ite (kept_hierBad h1) ?_
    refine kept_ite h1 ?_
    exact kept_ite (kept_joinAbort h1) (kept_forEach (kept_with h1) (fun _ _ h2 => kept_joinEntry h2))

theorem keptOut_execJoinEndRx (h : Kept s₀ s) : KeptOut s₀ (execJoinEndRx s) := by
  unfold execJoinEndRx
  refine keptOut_next ?_
  split
  · exact h
  · rename_i e1
    have h1 := kept_ladleTake h e1
    refine kept_ite (kept_hierBad h1) ?_
    exact kept_ite h1 (kept_ite (kept_joinAbort h1) (kept_ite (kept_with h1) (kept_with h1)))

theorem keptOut_execJoinTimeout (h : Kept s₀ s) : KeptOut s₀ (execJoinTimeout s) := by
  unfold execJoinTimeout
  refine keptOut_next ?_
  split
  · exact kept_ite (kept_joinAbort h) h
  · exact h

theorem kept_joinObject {x} (h : Kept s₀ s) : Kept s₀ (joinObject x s) := kept_ite h (kept_objMod h)

theorem kept_joinReplay {x} (h : Kept s₀ s) : Kept s₀ (joinReplay x s) := by
  unfold joinReplay
  extract_lets _ _ _ _ s1
  have h1 : Kept s₀ s1 := kept_ite h (kept_stageRec h)
  refine kept_ite h ?_
  split
  · exact kept_ite (kept_workerConfirm h1) (kept_workerDiscard h1)
  · exact h1

theorem kept_joinInstall (h : Kept s₀ s) : Kept s₀ (joinInstall s) := by
  unfold joinInstall
  refine kept_ladleSend ?_
  refine kept_with ?_
  exact kept_forEach (kept_forEach h (fun _ _ h1 => kept_joinObject h1)) (fun _ _ h2 => kept_joinReplay h2)

theorem kept_joinSnapshot (h : Kept s₀ s) : Kept s₀ (joinSnapshot s) :=
  kept_ite h (kept_forEach (kept_ladleSend (kept_ladleSendAll h)) (fun _ _ h1 => kept_workerMod h1))

theorem kept_managerStrobe (h : Kept s₀ s) : Kept s₀ (managerStrobe s) := by
  unfold managerStrobe
  refine kept_joinSnapshot ?_
  exact kept_forNat (kept_ladleSendAll (kept_with (kept_ladleSendAll (kept_cntAdd (kept_showMembers (kept_forEach
    (kept_forEach h (fun _ _ h1 => kept_workerRateRefused h1)) (fun _ _ h2 => kept_cnt (kept_setBit (kept_workerMod
    (kept_setF (kept_setF h2))))))))))) (fun _ _ h3 => kept_ite (kept_workerMod (kept_setF h3)) h3)

theorem kept_workerStrobe (h : Kept s₀ s) : Kept s₀ (workerStrobe s) :=
  kept_ladleSendAll (kept_with (kept_ite (kept_joinInstall h) h))

theorem kept_hierStrobe (h : Kept s₀ s) : Kept s₀ (hierStrobe s) := by
  unfold hierStrobe
  extract_lets s1
  have h1 : Kept s₀ s1 := kept_ite (kept_workerStrobe h) (kept_ite (kept_managerStrobe h) h)
  exact kept_ite h (kept_ite h1 (kept_ladleSend h1))

theorem kept_managerTakeover {final} (h : Kept s₀ s) : Kept s₀ (managerTakeover final s) := by
  unfold managerTakeover
  refine kept_ite h ?_
  refine kept_setF ?_
  exact kept_ladleBatch (fun _ h1 => kept_forEach h1 (fun _ _ h2 => kept_ladleDecide h2)) (kept_ladleSendAll h)

theorem keptOut_execSyncInEdge {stamp} (h : Kept s₀ s) : KeptOut s₀ (execSyncInEdge stamp s) := by
  unfold execSyncInEdge
  extract_lets _ _ _ _ _ _ _ _ s1
  have h1 : Kept s₀ s1 := kept_wrN (kept_ite (kept_loopSeated (kept_seatAt (kept_epochLoad h))) h)
  exact keptOut_next (kept_ite h (kept_ite (kept_raise h1) h1))

/-! ### The claim bus -/

theorem kept_showWord (h : Kept s₀ s) : Kept s₀ (showWord s) := kept_setF h

theorem kept_roleChange {role t} (h : Kept s₀ s) : Kept s₀ (roleChange role t s) :=
  kept_journal (kept_showWord (kept_setF h))

theorem kept_raiseEpoch (h : Kept s₀ s) : Kept s₀ (raiseEpoch s) :=
  kept_ite (kept_raise (kept_with h)) (kept_with h)

theorem kept_judgeLine {b bad} (h : Kept s₀ s) : Kept s₀ (judgeLine b bad s) := by
  unfold judgeLine
  extract_lets _ _ _ _ _ _ s1 s2
  have h1 : Kept s₀ s1 := kept_setF (kept_ite (kept_with h) (kept_with h))
  have h2 : Kept s₀ s2 := kept_ite (kept_cnt h1) h1
  exact kept_ite (kept_raise h2) h2

theorem kept_takeoverItems (h : Kept s₀ s) : Kept s₀ (takeoverItems s).1 := by
  have hs {flk} : Kept s₀ { s with flk := flk } := kept_with h
  unfold takeoverItems
  refine kept_foldl_fst hs (fun x p hx => ?_) _
  obtain ⟨s1, done⟩ := x
  dsimp only
  split
  · exact kept_ite_fst (kept_objMod hx) (kept_itemFinal hx)
  · exact kept_itemFinal hx

theorem kept_renormSuperseded (h : Kept s₀ s) : Kept s₀ (renormSuperseded s) :=
  kept_ite (kept_clmRefuse (kept_with h)) h

theorem kept_gateDecide {won} (h : Kept s₀ s) : Kept s₀ (gateDecide won s) := by
  unfold gateDecide
  refine kept_ite h ?_
  refine kept_ite (kept_releaseHeld (kept_setF h)) ?_
  exact kept_ite (kept_apdRelease (kept_dacGateClosed (kept_setF h))) (kept_setF h)

theorem kept_becomeActive {won} (h : Kept s₀ s) : Kept s₀ (becomeActive won s) := by
  unfold becomeActive
  extract_lets
  split
  rename_i e1
  have h1 := kept_fst (kept_takeoverItems (kept_syncInterrupt h)) e1
  extract_lets _ _ _ _ _ _ s1 s2
  have h2 : Kept s₀ s1 := kept_apdTakeover (kept_managerTakeover (kept_gateDecide (kept_setF (kept_with
    (kept_roleChange (kept_snapDrop (kept_with (kept_raiseEpoch (kept_renormSuperseded h1)))))))))
  have h3 : Kept s₀ s2 := kept_raise (kept_cnt h2)
  exact kept_ite h2 (kept_recoverTakeover (kept_ite (kept_setBit h3) h3))

theorem kept_refuseUndecided (h : Kept s₀ s) : Kept s₀ (refuseUndecided s) :=
  kept_ladleBatch (fun _ h1 => kept_forEach h1 (fun _ _ h2 => kept_itemRefuse (kept_dropItem h2))) h

theorem kept_standbyNotReady (h : Kept s₀ s) : Kept s₀ (standbyNotReady s) :=
  kept_syncEnter (kept_roleChange (kept_with (kept_with (kept_refuseUndecided h))))

theorem keptOut_execClaimFrameStart (h : Kept s₀ s) : KeptOut s₀ (execClaimFrameStart s) :=
  keptOut_next (kept_ite (kept_with h) h)

theorem kept_decideStandby {won top} (h : Kept s₀ s) : Kept s₀ (decideStandby won top s) := by
  unfold decideStandby
  extract_lets s1
  have h1 : Kept s₀ s1 := kept_ite (kept_showWord (kept_epochTake h)) h
  exact kept_ite (kept_becomeActive h1) h1

theorem kept_decideActive {own words} (h : Kept s₀ s) : Kept s₀ (decideActive own words s) :=
  kept_ite (kept_raise (kept_standbyNotReady h)) (kept_ite (kept_roleChange (kept_with h)) h)

theorem kept_decideRole {won own words clean} (h : Kept s₀ s) : Kept s₀ (decideRole won own words clean s) := by
  unfold decideRole
  extract_lets
  split
  · exact kept_with h
  · exact kept_decideStandby h
  · exact kept_decideActive h
  · split
    · exact kept_ite (kept_standbyNotReady h) h
    · exact h
  · exact h

theorem keptOut_execClaimDecisionPoint {a b} (h : Kept s₀ s) : KeptOut s₀ (execClaimDecisionPoint a b s) := by
  unfold execClaimDecisionPoint
  extract_lets _ _ _ _ _ s1 _ _ s2 _ _ _ _ _ _ s3 _ s4
  have h1 : Kept s₀ s1 := kept_setF (kept_setF (kept_judgeLine (kept_judgeLine h)))
  have h2 : Kept s₀ s2 := kept_ite (kept_raise (kept_cnt h1)) h1
  have h3 : Kept s₀ s3 := kept_with (kept_ite (kept_raise h2) h2)
  have h4 : Kept s₀ s4 := kept_ite (kept_with h3) h3
  exact keptOut_next (kept_ite h (kept_ite h4 (kept_gateDecide (kept_decideRole h4))))

theorem keptOut_execListenEnd (h : Kept s₀ s) : KeptOut s₀ (execListenEnd s) := by
  unfold execListenEnd
  extract_lets _ _ s1
  have h1 : Kept s₀ s1 := kept_roleChange (kept_epochTake (kept_with h))
  exact keptOut_next (kept_ite (kept_ite (kept_syncEnter h1) (kept_syncEnter h1)) h)

theorem kept_claimStrobe (h : Kept s₀ s) : Kept s₀ (claimStrobe s) :=
  kept_ite (kept_with h) (kept_setF (kept_with h))

theorem keptOut_execClmCfgWrite {via v} (h : Kept s₀ s) : KeptOut s₀ (execClmCfgWrite via v s) :=
  keptOut_next (kept_regWrite h)

theorem keptOut_execClmDrill {via} (h : Kept s₀ s) : KeptOut s₀ (execClmDrill via s) := by
  unfold execClmDrill
  extract_lets
  refine keptOut_next ?_
  refine kept_ite (kept_writeIgnored (kept_journalReg h)) ?_
  split
  · exact kept_clmRefuse (kept_journalReg h)
  · exact kept_ite (kept_clmRefuse (kept_journalReg h)) (kept_mirrorCommand (kept_with (kept_journalReg h)))

theorem keptOut_execClmRenorm {via} (h : Kept s₀ s) : KeptOut s₀ (execClmRenorm via s) := by
  unfold execClmRenorm
  extract_lets
  refine keptOut_next ?_
  refine kept_ite (kept_writeIgnored (kept_journalReg h)) ?_
  split
  · exact kept_clmRefuse (kept_journalReg h)
  · exact kept_ite (kept_clmRefuse (kept_journalReg h)) (kept_mirrorCommand (kept_with (kept_journalReg h)))

theorem keptOut_execClmForceActive {via} (h : Kept s₀ s) : KeptOut s₀ (execClmForceActive via s) := by
  unfold execClmForceActive
  refine keptOut_next ?_
  refine kept_ite (kept_clmRefuse (kept_journalReg h)) ?_
  refine kept_ite (kept_clmRefuse (kept_journalReg h)) ?_
  refine kept_ite (kept_clmRefuse (kept_journalReg h)) ?_
  refine kept_ite (kept_clmRefuse (kept_journalReg h)) ?_
  exact kept_ite (kept_clmRefuse (kept_journalReg h)) (kept_clmResult (kept_with (kept_journalReg h)))

theorem keptOut_execClmYield {via} (h : Kept s₀ s) : KeptOut s₀ (execClmYield via s) := by
  unfold execClmYield
  refine keptOut_next ?_
  refine kept_ite (kept_clmRefuse (kept_journalReg h)) ?_
  refine kept_ite (kept_clmRefuse (kept_journalReg h)) ?_
  exact kept_ite (kept_clmRefuse (kept_journalReg h)) (kept_clmResult (kept_with (kept_journalReg h)))

theorem kept_drillPrepare {d} (h : Kept s₀ s) : Kept s₀ (drillPrepare d s) :=
  kept_forNat (kept_with h) (fun _ _ h1 => kept_ite (kept_dacMod h1) h1)

theorem kept_drillFade {d} (h : Kept s₀ s) : Kept s₀ (drillFade d s) :=
  kept_with (kept_forNat (kept_with h) (fun _ _ h1 => kept_ite (kept_dacMod h1) h1))

theorem kept_lanesRestore (h : Kept s₀ s) : Kept s₀ (lanesRestore s) := kept_with h

theorem kept_drillOut (h : Kept s₀ s) : Kept s₀ (drillOut s) :=
  kept_lanesRestore (kept_syncEnter (kept_setF (kept_roleChange (kept_with h))))

theorem kept_drillCancel (h : Kept s₀ s) : Kept s₀ (drillCancel s) :=
  kept_dacGateClosed (kept_with (kept_forNat (kept_with h) (fun _ _ h1 => kept_ite (kept_dacMod h1) h1)))

theorem kept_drillIn (h : Kept s₀ s) : Kept s₀ (drillIn s) := by
  unfold drillIn
  extract_lets
  split
  rename_i e1
  have h1 := kept_fst (kept_takeoverItems (kept_setF (kept_with (kept_setF (kept_roleChange (kept_raiseEpoch
    (kept_with h))))))) e1
  exact kept_recoverTakeover (kept_apdTakeover (kept_managerTakeover h1))

theorem keptOut_execDrillExecute (h : Kept s₀ s) : KeptOut s₀ (execDrillExecute s) := by
  unfold execDrillExecute
  refine keptOut_next ?_
  split
  · exact h
  · refine kept_ite h ?_
    refine kept_ite (kept_ite (kept_drillCancel h) (kept_ite (kept_drillOut h) (kept_ite (kept_drillIn h) h))) ?_
    exact kept_ite (kept_ite (kept_drillFade h) h) (kept_ite (kept_ite (kept_drillPrepare h) h) h)

theorem keptOut_execAutoDrill (h : Kept s₀ s) : KeptOut s₀ (execAutoDrill s) :=
  keptOut_next (kept_ite (kept_mirrorCommand (kept_with h)) h)

theorem keptOut_execRenormApply (h : Kept s₀ s) : KeptOut s₀ (execRenormApply s) := by
  unfold execRenormApply
  refine keptOut_next ?_
  split
  · exact kept_ite (kept_showWord (kept_with h)) h
  · exact h

/-! ### The control fabric -/

theorem kept_locWrite {l a v} (h : Kept s₀ s) : Kept s₀ (locWrite l a v s) :=
  kept_ite h (kept_foldl h (fun _ _ h1 => kept_wrByte h1) _)

theorem kept_beatWrite {a bs} (h : Kept s₀ s) : Kept s₀ (beatWrite a bs s) := by
  unfold beatWrite
  extract_lets
  refine kept_ite (kept_raise h) ?_
  refine kept_foldl h (fun _ _ h1 => ?_) _
  split
  · exact kept_locWrite h1
  · exact h1

theorem kept_burstWrite {n keep fuel a bs} (h : Kept s₀ s) : Kept s₀ (burstWrite n keep fuel a bs s) := by
  induction fuel generalizing s keep a bs with
  | zero => exact h
  | succ fuel ih =>
    unfold burstWrite
    refine kept_ite h ?_
    split
    · exact h
    · exact ih (kept_beatWrite h)

theorem kept_busErr {f m a} (h : Kept s₀ s) : Kept s₀ (busErr f m a s) := by
  unfold busErr
  extract_lets _ _ _ s1
  have h1 : Kept s₀ s1 := kept_with (kept_wrN (kept_wrN (kept_wrN (kept_cnt h))))
  split
  · exact kept_raise h1
  · exact kept_raise h1

theorem kept_busEcc {m a} (h : Kept s₀ s) : Kept s₀ (busEcc m a s) := by
  unfold busEcc
  extract_lets s1
  have h1 : Kept s₀ s1 := kept_eccRecord (kept_busErr h)
  split
  · exact kept_ite (kept_dacFatal (kept_raise h1)) (kept_raise h1)
  · exact h1

theorem kept_memWrite {m a keep bs} (h : Kept s₀ s) : Kept s₀ (memWrite m a keep bs s) := by
  unfold memWrite
  split
  · exact kept_busErr h
  · split
    · exact kept_burstWrite (kept_with h)
    · exact h

theorem kept_memRead {m a len unc} (h : Kept s₀ s) : Kept s₀ (memRead m a len unc s) := by
  unfold memRead
  extract_lets
  split
  · exact kept_with (kept_busErr h)
  · exact kept_with (kept_busEcc h)
  · exact kept_with (kept_with h)

theorem keptOut_execMtxCmdReset {via m} (h : Kept s₀ s) : KeptOut s₀ (execMtxCmdReset via m s) :=
  keptOut_next (kept_ite (kept_masterReset (kept_journalReg h)) (kept_writeIgnored (kept_journalReg h)))

theorem kept_coreStart {n} (h : Kept s₀ s) : Kept s₀ (coreStart n s) := kept_with h

theorem keptOut_execCcRunWrite {via run} (h : Kept s₀ s) : KeptOut s₀ (execCcRunWrite via run s) := by
  unfold execCcRunWrite
  refine keptOut_next ?_
  exact kept_forNat (kept_wrN (kept_journalReg h)) (fun _ _ h1 => kept_ite (kept_masterReset (kept_with h1))
    (kept_ite (kept_coreStart h1) h1))

theorem keptOut_execCcKick {via n v} (h : Kept s₀ s) : KeptOut s₀ (execCcKick via n v s) :=
  keptOut_next (kept_with (kept_journalReg h))

theorem keptOut_execWatchdogExpiry {n} (h : Kept s₀ s) : KeptOut s₀ (execWatchdogExpiry n s) :=
  keptOut_next (kept_ite (kept_coreStart (kept_raise (kept_masterReset h))) h)

theorem keptOut_execCoreException {n} (h : Kept s₀ s) : KeptOut s₀ (execCoreException n s) :=
  keptOut_next (kept_ite (kept_mbAbandon (kept_raise (kept_with h))) h)

theorem kept_signal {v} (h : Kept s₀ s) : Kept s₀ (signal v s) := kept_with h

theorem keptOut_execMailboxDoorbell {via n seq} (h : Kept s₀ s) : KeptOut s₀ (execMailboxDoorbell via n seq s) :=
  keptOut_next (kept_ite (kept_writeIgnored h) (kept_setF (kept_setF (kept_wrN h))))

theorem keptOut_execMailboxDone {n seq} (h : Kept s₀ s) : KeptOut s₀ (execMailboxDone n seq s) :=
  keptOut_next (kept_ite (kept_signal (kept_setBit (kept_setF (kept_wrN h)))) (kept_wrN h))

theorem keptOut_execDmaTailWrite {via v} (h : Kept s₀ s) : KeptOut s₀ (execDmaTailWrite via v s) :=
  keptOut_next (kept_ite (kept_writeIgnored h) (kept_setF h))

theorem kept_dmaDone {d status} (h : Kept s₀ s) : Kept s₀ (dmaDone d status s) := by
  unfold dmaDone
  extract_lets _ _ s1
  have h1 : Kept s₀ s1 := kept_setF (kept_with h)
  exact kept_ite (kept_signal h1) h1

theorem keptOut_execDmaDescriptorDone {d host unc} (h : Kept s₀ s) :
    KeptOut s₀ (execDmaDescriptorDone d host unc s) := by
  unfold execDmaDescriptorDone
  refine keptOut_next ?_
  refine kept_ite h ?_
  refine kept_ite (kept_dmaDone h) ?_
  exact kept_ite (kept_dmaDone h) (kept_dmaDone (kept_ite (kept_memRead h) (kept_memWrite h)))

theorem kept_nvmErase {area} (h : Kept s₀ s) : Kept s₀ (nvmErase area s) :=
  kept_ite (kept_withMem h (aWf_filter _ _ _)) (kept_wrBytes h)

theorem keptOut_execNvmProgram {via area} (h : Kept s₀ s) : KeptOut s₀ (execNvmProgram via area s) := by
  unfold execNvmProgram
  extract_lets _ _ s1
  have h1 : Kept s₀ s1 := kept_setF (kept_journalReg h)
  exact keptOut_next (kept_ite (kept_raise h1) (kept_nvmErase (kept_with (kept_setF h1))))

theorem keptOut_execNvmProgramDone {bad} (h : Kept s₀ s) : KeptOut s₀ (execNvmProgramDone bad s) := by
  unfold execNvmProgramDone
  refine keptOut_next ?_
  split
  · exact h
  · extract_lets _ s1
    have h1 : Kept s₀ s1 := kept_setF (kept_with h)
    exact kept_ite (kept_raise (kept_setBit h1)) (kept_setBit (kept_wrBytes h1))

theorem keptOut_execBootLoad (h : Kept s₀ s) : KeptOut s₀ (execBootLoad s) := by
  unfold execBootLoad
  refine keptOut_next ?_
  refine kept_ite h ?_
  split
  · exact kept_with h
  · exact kept_with h

theorem kept_bootEnd {b gen len} (h : Kept s₀ s) : Kept s₀ (bootEnd b gen len s) := by
  unfold bootEnd
  extract_lets _ _ _ _ s1
  have h1 : Kept s₀ s1 := kept_coreStart (kept_coreStart (kept_coreStart (kept_wrN (kept_wrN (kept_setF (kept_with
    (kept_wrBytes h)))))))
  exact kept_ite (kept_raise h1) h1

theorem keptOut_execBootLoadDone {bad} (h : Kept s₀ s) : KeptOut s₀ (execBootLoadDone bad s) := by
  unfold execBootLoadDone
  refine keptOut_next ?_
  refine kept_ite h ?_
  split
  exact kept_ite (kept_raise (kept_with h)) (kept_bootEnd h)

/-! ### Pour and stop -/

theorem kept_dropTransfers (h : Kept s₀ s) : Kept s₀ (dropTransfers s) :=
  kept_forEach h (fun _ _ h1 => kept_raise (kept_cnt (kept_wr h1)))

theorem kept_dropMirrored {k} (h : Kept s₀ s) : Kept s₀ (dropMirrored k s) :=
  kept_ite (kept_with h) (kept_raise (kept_cntAdd (kept_with h)))

theorem kept_discardDue {k} (h : Kept s₀ s) : Kept s₀ (discardDue k s) := by
  unfold discardDue
  extract_lets s1
  have h1 : Kept s₀ s1 := by
    unfold s1
    split
    · exact kept_ite (kept_superseded (kept_amendDrop h)) h
    · exact h
  exact kept_ite (kept_dropMirrored (kept_dropTransfers (kept_rteSupersede h1))) (kept_rteSupersede h1)

theorem kept_rebaseUnits {b m} (h : Kept s₀ s) : Kept s₀ (rebaseUnits b m s) := kept_with (kept_with (kept_with h))

theorem kept_txRestart {q} (h : Kept s₀ s) : Kept s₀ (txRestart q s) :=
  kept_forEach h (fun _ _ h1 => kept_txMod h1)

theorem kept_rebase {db dm} (h : Kept s₀ s) : Kept s₀ (rebase db dm s) := kept_rebaseUnits (kept_with h)

theorem kept_loopSwitch {newTb} (h : Kept s₀ s) : Kept s₀ (loopSwitch newTb s) := by
  unfold loopSwitch
  split
  rename_i e1
  have h1 := kept_snd (kept_freeNat h) e1
  exact kept_loopSeated (kept_ite (kept_wrN h1) h1)

theorem kept_reseat {new} (h : Kept s₀ s) : Kept s₀ (reseat new s).2 := by
  unfold reseat
  refine kept_loopSwitch ?_
  exact kept_txRestart (kept_with (kept_with (kept_with (kept_rebase (kept_setF (kept_setF (kept_epochLoad h)))))))

theorem kept_objectsPour {new} (h : Kept s₀ s) : Kept s₀ (objectsPour new s) := by
  unfold objectsPour
  extract_lets _ s1
  have h1 : Kept s₀ s1 := kept_forEach h (fun _ _ h2 => kept_forEach h2 (fun _ _ h3 => kept_ite (kept_dropRefused
    h3) (kept_refuseEverywhere h3)))
  exact kept_with (kept_ite h1 (kept_cntAdd h1))

theorem kept_banksFlip (h : Kept s₀ s) : Kept s₀ (banksFlip s) := by
  unfold banksFlip
  extract_lets
  refine kept_forNat h (fun _ _ h1 => ?_)
  split
  · exact kept_setF h1
  · exact h1

theorem kept_geoPour {q new} (h : Kept s₀ s) : Kept s₀ (geoPour q new s) :=
  kept_withLive (kept_setF (kept_wrN (kept_with h))) (aWf_aSet _ _ _ _)

theorem kept_gclPour {new} (h : Kept s₀ s) : Kept s₀ (gclPour new s) :=
  kept_forNat h (fun _ _ h1 => kept_ite (kept_gclApply h1) h1)

theorem kept_hoPour {q} (h : Kept s₀ s) : Kept s₀ (hoPour q s) := by
  unfold hoPour
  extract_lets s1
  have h1 : Kept s₀ s1 := by
    unfold s1
    split
    · exact kept_ite (kept_hoTakeBack h) h
    · exact h
  split
  · exact kept_ite (kept_setTile (kept_setF (kept_with h1))) h1
  · exact h1

theorem kept_showLive {q new} (h : Kept s₀ s) : Kept s₀ (showLive q new s) := by
  unfold showLive
  refine kept_setBit ?_
  exact kept_setF (kept_setF (kept_setF (kept_setF (kept_setF (kept_setF (kept_wr64 (kept_wrN (kept_wr64 h))))))))

theorem kept_hierPour {oldId new} (h : Kept s₀ s) : Kept s₀ (hierPour oldId new s) :=
  kept_ite (kept_setF h) (kept_ite (kept_ite (kept_with h) (kept_hierJoining (kept_with h))) h)

theorem kept_pairPour {mirrored} (h : Kept s₀ s) : Kept s₀ (pairPour mirrored s) := by
  unfold pairPour
  refine kept_ite (kept_ite (kept_flkSend (kept_with h)) h) ?_
  exact kept_ite (kept_ite (kept_notReady h) (kept_syncEnter (kept_snapDrop h))) h

theorem kept_pourNow (h : Kept s₀ s) : Kept s₀ (pourNow s) := by
  unfold pourNow
  split
  · exact h
  · extract_lets _ _ _ _ _ s1
    have h1 : Kept s₀ s1 := by
      unfold s1
      split
      · exact kept_ite (kept_superseded (kept_discardDue h)) (kept_discardDue h)
      · exact kept_discardDue h
    split
    rename_i e1
    have h2 := kept_snd (kept_ite_snd (kept_reseat (kept_capPour h1)) (kept_capPour h1)) e1
    extract_lets _ _ _ _ _ s2 _ _ _ _ _ _ _ _ _ s3
    have h3 : Kept s₀ s2 := kept_stagingEmpty (kept_showTables (kept_showLive (kept_banksFlip (kept_objectsPour
      (kept_with h2)))))
    have h4 : Kept s₀ s3 := kept_hierPour (kept_hoPour (kept_apdPour (kept_decimResetAll (kept_with (kept_ascPour
      (kept_rtePour (kept_renderPour (kept_geoPour (kept_with (kept_gclPour (kept_ite h3 (kept_regsetApply
      h3))))))))))))
    exact kept_ite (kept_shedAction h4) h4

theorem keptOut_execPourStrobe (h : Kept s₀ s) : KeptOut s₀ (execPourStrobe s) := by
  unfold execPourStrobe
  refine keptOut_next ?_
  split
  · exact kept_ite (kept_pairPour (kept_pourNow h)) h
  · exact h

theorem keptOut_execJoinPour (h : Kept s₀ s) : KeptOut s₀ (execJoinPour s) := by
  unfold execJoinPour
  refine keptOut_next ?_
  split
  · exact kept_ite (kept_with (kept_syncEnter (kept_with (kept_snapReplay (kept_snapRegs (kept_forEach
      (kept_pourNow h) (fun _ _ h1 => kept_snapInstall h1))))))) h
  · exact h

theorem keptOut_execStopStrobe (h : Kept s₀ s) : KeptOut s₀ (execStopStrobe s) := by
  unfold execStopStrobe
  refine keptOut_next ?_
  split
  · exact kept_ite (kept_discardDue (kept_with h)) h
  · exact h

theorem keptOut_execPatternStopped (h : Kept s₀ s) : KeptOut s₀ (execPatternStopped s) := by
  unfold execPatternStopped
  refine keptOut_next ?_
  split
  · extract_lets _ _ _ _ _ s1
    have h1 : Kept s₀ s1 := kept_setF (kept_wrN (kept_wr64 (kept_setBit (kept_setF (kept_setF (kept_with h))))))
    exact kept_ite (kept_loopFollow (kept_dacStopped (kept_with (kept_ite (kept_setF h1) h1)))) h
  · exact h

/-! ### Self-test -/

theorem kept_showTest {result r misr} (h : Kept s₀ s) : Kept s₀ (showTest result r misr s) :=
  kept_wr64 (kept_wrN h)

theorem kept_testedAt {r k} (h : Kept s₀ s) : Kept s₀ (testedAt r k s) := kept_with h

theorem kept_regionFail {r} (h : Kept s₀ s) : Kept s₀ (regionFail r s) := by
  unfold regionFail
  extract_lets s1
  have h1 : Kept s₀ s1 := kept_raise (kept_cnt (kept_markRegion h))
  exact kept_ite (kept_masterReset h1) h1

theorem kept_loadMap (h : Kept s₀ s) : Kept s₀ (loadMap s) := by
  unfold loadMap
  split
  · exact kept_wrN (kept_wrN (kept_with h))
  · exact h

theorem keptOut_execStartupSelfTest (h : Kept s₀ s) : KeptOut s₀ (execStartupSelfTest s) := by
  unfold execStartupSelfTest
  extract_lets _ s1
  have h1 : Kept s₀ s1 := kept_ite (kept_raise (kept_setF h)) (kept_setF h)
  exact keptOut_next (kept_ite h (kept_ite h1 (kept_raise h1)))

theorem kept_startupRegion {runs r} (h : Kept s₀ s) : Kept s₀ (startupRegion runs r s) := by
  unfold startupRegion
  refine kept_ite h ?_
  split
  · exact kept_showTest h
  · refine kept_ite (kept_showTest h) ?_
    exact kept_ite (kept_raise (kept_cnt (kept_showTest h))) (kept_regionFail (kept_showTest h))

theorem keptOut_execStartupSelfTestDone {runs} (h : Kept s₀ s) : KeptOut s₀ (execStartupSelfTestDone runs s) := by
  unfold execStartupSelfTestDone
  refine keptOut_next ?_
  refine kept_ite h ?_
  refine kept_with ?_
  refine kept_setBit ?_
  refine kept_setF ?_
  refine kept_noSpare ?_
  refine kept_assignGeo ?_
  refine kept_assignSeats ?_
  exact kept_forNat (kept_forNat h (fun _ _ h1 => kept_startupRegion h1)) (fun _ _ h2 => kept_testedAt h2)

theorem kept_showSlice {st r} (h : Kept s₀ s) : Kept s₀ (showSlice st r s) := kept_setF (kept_setF h)

theorem kept_sliceStart {r} (h : Kept s₀ s) : Kept s₀ (sliceStart r s) := by
  unfold sliceStart
  extract_lets
  refine kept_ite ?_ (kept_ite (kept_showSlice (kept_with (kept_setF (kept_geoShare h)))) (kept_showSlice
    (kept_with h)))
  split
  · exact kept_showSlice (kept_hoStart h)
  · exact h

theorem keptOut_execQuenchSliceStart {busy} (h : Kept s₀ s) : KeptOut s₀ (execQuenchSliceStart busy s) := by
  unfold execQuenchSliceStart
  refine keptOut_next ?_
  split
  · exact kept_ite (kept_sliceStart h) (kept_cnt h)
  · exact h

theorem kept_sliceOver {r k} (h : Kept s₀ s) : Kept s₀ (sliceOver r k s) :=
  kept_with (kept_sliceEnd (kept_testedAt (kept_setBit (kept_cnt h))))

theorem kept_slicePass {r k} (h : Kept s₀ s) : Kept s₀ (slicePass r k s) := by
  unfold slicePass
  refine kept_ite (kept_sliceOver (kept_showSpare (kept_setTile h))) ?_
  exact kept_ite (kept_sliceOver (kept_setF (kept_setF h))) (kept_showSlice h)

theorem keptOut_execSliceTestRunEnd {misr} (h : Kept s₀ s) : KeptOut s₀ (execSliceTestRunEnd misr s) := by
  unfold execSliceTestRunEnd
  refine keptOut_next ?_
  split
  · exact h
  · extract_lets _ _ _ _ _ s1
    have h1 : Kept s₀ s1 := kept_regionFail (kept_showTest h)
    refine kept_ite h ?_
    refine kept_ite (kept_slicePass (kept_ite (kept_raise (kept_cnt (kept_showTest h))) (kept_showTest h))) ?_
    refine kept_ite (kept_showSlice (kept_with (kept_wr64 h))) ?_
    exact kept_sliceOver (kept_ite (kept_noSpare (kept_showSpare h1)) h1)

theorem keptOut_execSrSliceEnd {bad} (h : Kept s₀ s) : KeptOut s₀ (execSrSliceEnd bad s) := by
  unfold execSrSliceEnd
  refine keptOut_next ?_
  split
  · exact h
  · exact kept_ite h (kept_sliceOver (kept_ite (kept_masterReset (kept_raise (kept_markRegion h))) h))

theorem kept_sliceFatal (h : Kept s₀ s) : Kept s₀ (sliceFatal s) := by
  unfold sliceFatal
  split
  · exact kept_ite (kept_raise (kept_cnt (kept_sliceEnd (kept_with h)))) h
  · exact h
  · exact kept_raise (kept_cnt (kept_sliceEnd h))

theorem keptOut_execBstClearMap {via} (h : Kept s₀ s) : KeptOut s₀ (execBstClearMap via s) :=
  keptOut_next (kept_ite (kept_writeIgnored (kept_journalReg h)) (kept_with (kept_journalReg h)))

theorem keptOut_execBstMark {via r} (h : Kept s₀ s) : KeptOut s₀ (execBstMark via r s) := by
  unfold execBstMark
  refine keptOut_next ?_
  refine kept_ite (kept_journalReg h) ?_
  refine kept_ite (kept_tileLost (kept_journalReg h)) ?_
  exact kept_ite (kept_geoLost (kept_journalReg h)) (kept_masterReset (kept_markRegion (kept_journalReg h)))

theorem keptOut_execFaultMapWriteDone (h : Kept s₀ s) : KeptOut s₀ (execFaultMapWriteDone s) := by
  unfold execFaultMapWriteDone
  refine keptOut_next ?_
  split
  · exact h
  · exact kept_wrN (kept_with (kept_wrBytes h))

/-! ### Resets, supplies and clocks -/

theorem kept_loadSlots (h : Kept s₀ s) : Kept s₀ (loadSlots s) := kept_forNat h (fun _ _ h1 => kept_wrN h1)

/-- Registers and their live copies start empty, and of memory the NVM alone stays. -/
theorem kept_nvmAlone (h : Kept s₀ s) :
    Kept s₀ { State.reset with mem := nvmCells s.mem, pending := s.pending } := by
  refine ⟨h.queue, fun c => ?_⟩
  obtain ⟨_, _, cm⟩ := (canonical_iff s).1 (h.form c)
  exact (canonical_iff _).2 ⟨rfl, rfl, aWf_filter _ _ _ cm⟩

theorem kept_coreDie (h : Kept s₀ s) : Kept s₀ (coreDie s) :=
  kept_loadSlots (kept_loadMap (kept_wr (kept_wr (kept_wr (kept_with (kept_nvmAlone h))))))

theorem kept_keepDac {n} (h : Kept s₀ t) : Kept s₀ (keepDac s n t) := by
  have hk {t off v} (h : Kept s₀ t) : Kept s₀ { wr t off v with live := aSet regReset t.live off v } :=
    kept_withLive (kept_wr h) (aWf_aSet _ _ _ _)
  exact kept_setF (kept_dacMod (kept_setF (kept_setF (hk (hk (hk h))))))

theorem kept_coreReset (h : Kept s₀ s) : Kept s₀ (coreReset s) :=
  kept_forNat (kept_with (kept_wr (kept_coreDie h))) (fun _ _ h1 => kept_keepDac h1)

theorem kept_resetBy {full cause} (h : Kept s₀ s) : Kept s₀ (resetBy full cause s) :=
  kept_setBit (kept_ite (kept_coreDie h) (kept_coreReset h))

theorem keptOut_execPowerOn (h : Kept s₀ s) : KeptOut s₀ (execPowerOn s) := by
  unfold execPowerOn
  split
  rename_i e1
  have h1 := kept_snd (kept_freeNat h) e1
  exact keptOut_next (kept_wrN (kept_coreDie (kept_with h1)))

theorem keptOut_execPowerDown (h : Kept s₀ s) : KeptOut s₀ (execPowerDown s) :=
  keptOut_next (kept_with (kept_coreDie (kept_with h)))

theorem keptOut_execResetPin (h : Kept s₀ s) : KeptOut s₀ (execResetPin s) := keptOut_next (kept_resetBy h)

theorem keptOut_execSysRstCore (h : Kept s₀ s) : KeptOut s₀ (execSysRstCore s) := keptOut_next (kept_resetBy h)

theorem keptOut_execSysRstFull (h : Kept s₀ s) : KeptOut s₀ (execSysRstFull s) := keptOut_next (kept_resetBy h)

theorem keptOut_execPerst (h : Kept s₀ s) : KeptOut s₀ (execPerst s) :=
  keptOut_next (kept_wrN (kept_wrN (kept_masterReset h)))

theorem keptOut_execPcieLinkReset (h : Kept s₀ s) : KeptOut s₀ (execPcieLinkReset s) :=
  keptOut_next (kept_masterReset h)

theorem keptOut_execCorePllLock {pcieRef} (h : Kept s₀ s) : KeptOut s₀ (execCorePllLock pcieRef s) :=
  keptOut_next (kept_ite h (kept_setF (kept_setF (kept_setF (kept_setF (kept_coreStart (kept_with h)))))))

theorem keptOut_execDramReady (h : Kept s₀ s) : KeptOut s₀ (execDramReady s) :=
  keptOut_next (kept_ite (kept_setF h) h)

theorem kept_raiseFatal {e} (h : Kept s₀ s) : Kept s₀ (raiseFatal e s) :=
  kept_sliceFatal (kept_dacFatal (kept_raise h))

theorem keptOut_execSupplyDip (h : Kept s₀ s) : KeptOut s₀ (execSupplyDip s) := keptOut_next (kept_raiseFatal h)

theorem keptOut_execRefclkFail {unlock} (h : Kept s₀ s) : KeptOut s₀ (execRefclkFail unlock s) := by
  unfold execRefclkFail
  extract_lets _ _ _ _ _ s1
  have h1 : Kept s₀ s1 := kept_setF (kept_with (kept_apdRelease (kept_setF h)))
  exact keptOut_next (kept_raiseFatal (kept_ite (kept_setF h1) h1))

theorem kept_thermAct {core} (h : Kept s₀ s) : Kept s₀ (thermAct core s) := by
  unfold thermAct
  extract_lets _ _ _ _ _ s1 s2 s3 _ s4
  have h1 : Kept s₀ s1 := kept_setF (kept_with h)
  have h2 : Kept s₀ s2 := kept_ite (kept_raise h1) h1
  have h3 : Kept s₀ s3 := kept_ite (kept_raise h2) h2
  have h4 : Kept s₀ s4 := kept_ite (kept_with h3) h3
  exact kept_ite (kept_raiseFatal h4) h4

theorem keptOut_execThermalSample {core conv} (h : Kept s₀ s) : KeptOut s₀ (execThermalSample core conv s) :=
  keptOut_next (kept_thermAct (kept_setF (kept_setF (kept_setF (kept_setF h)))))

theorem keptOut_execThermalShutdown (h : Kept s₀ s) : KeptOut s₀ (execThermalShutdown s) :=
  keptOut_next (kept_resetBy (kept_with h))

theorem keptOut_execThermalRelease (h : Kept s₀ s) : KeptOut s₀ (execThermalRelease s) :=
  keptOut_next (kept_with h)

theorem kept_clampAll {on} (h : Kept s₀ s) : Kept s₀ (clampAll on s) :=
  kept_forNat h (fun _ _ h1 => kept_ite (kept_dacMod h1) (kept_ite (kept_dacMod h1) h1))

theorem keptOut_execTestEnAssert (h : Kept s₀ s) : KeptOut s₀ (execTestEnAssert s) :=
  keptOut_next (kept_clampAll (kept_coreReset (kept_with h)))

theorem keptOut_execTestEnRelease (h : Kept s₀ s) : KeptOut s₀ (execTestEnRelease s) :=
  keptOut_next (kept_ite (kept_clampAll (kept_with h)) h)

/-! ### The block strobe and media frames -/

theorem kept_frameWork (h : Kept s₀ s) : Kept s₀ (frameWork s) :=
  kept_apdFrame (kept_dacFrame (kept_forNat h (fun _ _ h1 => kept_txSettle h1)))

theorem kept_frameTick (h : Kept s₀ s) : Kept s₀ (frameTick s) := kept_frameWork (kept_with (kept_eccWindow h))

theorem kept_idleTick (h : Kept s₀ s) : Kept s₀ (idleTick s) := kept_ite (kept_frameTick h) h

theorem kept_eccHit {a} (h : Kept s₀ s) : Kept s₀ (eccHit a s) := by
  unfold eccHit
  refine kept_ite (kept_raiseFatal (kept_eccRecord h)) ?_
  refine kept_ite (kept_runnerStruck (kept_raise (kept_eccRecord h))) ?_
  exact kept_raise (kept_wrWord72 (kept_ite (kept_hoStrike (kept_eccRecord h)) (kept_eccRecord h)))

theorem kept_blockTick (h : Kept s₀ s) : Kept s₀ (blockTick s) :=
  kept_ite (kept_signal (kept_with h)) (kept_with h)

theorem kept_renderBlock {inp} (h : Kept s₀ s) : Kept s₀ (renderBlock inp s) := by
  unfold renderBlock
  extract_lets _ _ _ s1 s2 _ _ s3
  have h1 : Kept s₀ s1 := kept_pdmStrobe (kept_with h)
  have h2 : Kept s₀ s2 := kept_ite (kept_pairStage h1) h1
  have h3 : Kept s₀ s3 := kept_flkStrobe (kept_rotateOut (kept_rxStrobe (kept_asrcAssign (kept_ite (kept_sprueStage
    h2) (kept_capTail h2)))))
  exact kept_txStrobe (kept_ite (kept_speakerStages h3) h3)

theorem kept_boundaryWork (h : Kept s₀ s) : Kept s₀ (boundaryWork s) := by
  unfold boundaryWork
  extract_lets _ s1
  have h1 : Kept s₀ s1 := kept_setF (kept_takeShadows (kept_heldStrobe (kept_ite h (kept_geoStrobe h))))
  exact kept_segmentsCurrent (kept_hierStrobe (kept_claimStrobe (kept_ite (kept_rteShow h1) h1)))

theorem kept_blockChecks {inp} (h : Kept s₀ s) : Kept s₀ (blockChecks inp s) :=
  kept_seqStrobe (kept_forEach (kept_eccCorrectable h) (fun _ _ h1 => kept_eccHit h1))

theorem kept_finishBlock (h : Kept s₀ s) : Kept s₀ (finishBlock s) :=
  kept_forNat h (fun _ _ h1 => kept_frameTick h1)

theorem kept_blockStrobe {inp} (h : Kept s₀ s) : Kept s₀ (blockStrobe inp s) := by
  unfold blockStrobe
  extract_lets _ _ s1
  have h1 : Kept s₀ s1 := kept_boundaryWork (kept_blockChecks (kept_blockTick (kept_autoAck (kept_strobeTime
    (kept_finishBlock (kept_ladleFlush h))))))
  refine kept_frameWork ?_
  refine kept_apdStrobe ?_
  exact kept_dacStrobe (kept_ite (kept_sliceFatal (kept_dacFatal (kept_flkStrobe h1))) (kept_renderBlock h1))

theorem keptOut_execBlockStrobe {inp} (h : Kept s₀ s) : KeptOut s₀ (execBlockStrobe inp s) :=
  keptOut_next (kept_ite (kept_blockStrobe h) h)

/-! ### Accesses from an interface -/

theorem kept_after {o} (ho : KeptOut s₀ o) : Kept s₀ (after s o) := by
  obtain ⟨t, rfl, ht⟩ := ho
  exact ht

theorem kept_sysWrite {via off v} (h : Kept s₀ s) : Kept s₀ (sysWrite via off v s) := by
  unfold sysWrite
  exact kept_ite (kept_ite (kept_after (keptOut_execSysRstCore h)) (kept_ite (kept_after (keptOut_execSysRstFull
    h)) (kept_writeIgnored (kept_journalReg h)))) (kept_ite (kept_after (keptOut_execDmaTailWrite h))
    (kept_regWrite h))

theorem kept_errWrite {via off v} (h : Kept s₀ s) : Kept s₀ (errWrite via off v s) := by
  unfold errWrite
  refine kept_ite (kept_after (keptOut_execErrAckWrite h)) ?_
  refine kept_ite (kept_after (keptOut_ite (keptOut_execJnlFreeze h) (keptOut_execJnlResume h))) ?_
  exact kept_ite (kept_after (keptOut_execJnlSelWrite h)) (kept_regWrite h)

theorem kept_patWrite {via v} (h : Kept s₀ s) : Kept s₀ (patWrite via v s) := by
  unfold patWrite
  extract_lets
  split
  · exact kept_after (keptOut_execPatLoad h)
  · exact kept_after (keptOut_execPatLoadSlot h)
  · exact kept_after (keptOut_execPatArm h)
  · exact kept_after (keptOut_execPatPour h)
  · exact kept_after (keptOut_execPatStop h)
  · exact kept_after (keptOut_execPatDiscard h)
  · exact kept_after (keptOut_execPatAmend h)
  · exact kept_after (keptOut_execPatStore h)
  · exact kept_after (keptOut_execPatErase h)
  · exact kept_after (keptOut_execPatAuto h)
  · exact kept_journalReg h

theorem kept_tsuWrite {via off v} (h : Kept s₀ s) : Kept s₀ (tsuWrite via off v s) := by
  unfold tsuWrite
  split
  · exact kept_after (keptOut_execPtpMeasWrite h)
  · exact kept_ite (kept_after (keptOut_execTbStep h)) (kept_journalReg h)
  · exact kept_regWrite h

theorem kept_bstWrite {via v} (h : Kept s₀ s) : Kept s₀ (bstWrite via v s) := by
  unfold bstWrite
  split
  · exact kept_after (keptOut_execBstClearMap h)
  · exact kept_after (keptOut_execBstMark h)
  · exact kept_journalReg h

theorem kept_clmWrite {via v} (h : Kept s₀ s) : Kept s₀ (clmWrite via v s) := by
  unfold clmWrite
  split
  · exact kept_after (keptOut_execClmDrill h)
  · exact kept_after (keptOut_execClmRenorm h)
  · exact kept_after (keptOut_execClmForceActive h)
  · exact kept_after (keptOut_execClmYield h)
  · exact kept_journalReg h

theorem kept_objWrite {via off v} (h : Kept s₀ s) : Kept s₀ (objWrite via off v s) := by
  unfold objWrite
  extract_lets
  refine kept_ite ?_ (kept_ite (kept_after (keptOut_execHqTailWrite h)) (kept_ite (kept_after
    (keptOut_execHqBaseWrite h)) (kept_regWrite h)))
  split
  · exact kept_after (keptOut_execObjCmdReseq h)
  · exact kept_after (keptOut_execObjCmdFlush h)
  · exact kept_journalReg h

theorem kept_rteWrite {via v} (h : Kept s₀ s) : Kept s₀ (rteWrite via v s) := by
  unfold rteWrite
  split
  · exact kept_after (keptOut_execRteCommit h)
  · exact kept_after (keptOut_execRteCopy h)
  · exact kept_after (keptOut_execRteCancel h)
  · exact kept_journalReg h

theorem kept_netWrite {via off v} (h : Kept s₀ s) : Kept s₀ (netWrite via off v s) := by
  generalize hf : netWrite = f
  delta netWrite at hf
  subst hf
  beta_reduce
  extract_lets
  split
  · exact kept_after (keptOut_execRxRingTailWrite h)
  · exact kept_after (keptOut_execTxRingTailWrite h)
  · refine kept_ite ?_ (kept_regWrite h)
    split
    · exact kept_after (keptOut_execGclCommit h)
    · exact kept_after (keptOut_execGclCancel h)
    · exact kept_journalReg h

theorem kept_capWriteCmd {via v} (h : Kept s₀ s) : Kept s₀ (capWriteCmd via v s) := by
  unfold capWriteCmd
  split
  · exact kept_after (keptOut_execCapStart h)
  · exact kept_after (keptOut_execCapStop h)
  · exact kept_after (keptOut_execCapCancel h)
  · exact kept_journalReg h

theorem kept_dacWrite {via v} (h : Kept s₀ s) : Kept s₀ (dacWrite via v s) := by
  unfold dacWrite
  extract_lets
  split
  · exact kept_after (keptOut_execDacForce h)
  · exact kept_after (keptOut_execDacClear h)
  · exact kept_journalReg h

theorem kept_ccWrite {via off v} (h : Kept s₀ s) : Kept s₀ (ccWrite via off v s) := by
  unfold ccWrite
  refine kept_ite (kept_after (keptOut_execCcRunWrite h)) ?_
  refine kept_ite (kept_with (kept_regWrite h)) ?_
  refine kept_ite (kept_ite (kept_plainWrite h) (kept_regWrite h)) ?_
  refine kept_ite (kept_after (keptOut_execCcKick h)) ?_
  refine kept_ite (kept_after (keptOut_execMailboxDoorbell h)) ?_
  exact kept_ite (kept_after (keptOut_execMailboxDone h)) (kept_ite (kept_writeIgnored h) (kept_plainWrite h))

theorem kept_cmdWrite {via off v} (h : Kept s₀ s) : Kept s₀ (cmdWrite via off v s) := by
  unfold cmdWrite
  refine kept_ite (kept_ite (kept_after (keptOut_execSeqHandoverGo h)) (kept_journalReg h)) ?_
  refine kept_ite (kept_after (keptOut_execMtxCmdReset h)) ?_
  refine kept_ite (kept_ite (kept_after (keptOut_execFlkResync h)) (kept_journalReg h)) ?_
  refine kept_ite (kept_ite (kept_after (keptOut_execPdmSync h)) (kept_journalReg h)) ?_
  exact kept_ite (kept_ite (kept_after (keptOut_execNvmProgram h)) (kept_journalReg h)) (kept_regWrite h)

theorem kept_busWrite {via off v} (h : Kept s₀ s) : Kept s₀ (busWrite via off v s) := by
  unfold busWrite
  split
  · exact h
  · refine kept_ite (kept_w1cClear h) ?_
    refine kept_ite (kept_sysWrite h) ?_
    refine kept_ite (kept_errWrite h) ?_
    refine kept_ite (kept_patWrite h) ?_
    refine kept_ite (kept_tsuWrite h) ?_
    refine kept_ite (kept_bstWrite h) ?_
    refine kept_ite (kept_clmWrite h) ?_
    refine kept_ite (kept_objWrite h) ?_
    refine kept_ite (kept_rteWrite h) ?_
    refine kept_ite (kept_netWrite h) ?_
    exact kept_ite (kept_capWriteCmd h) (kept_ite (kept_dacWrite h) (kept_ite (kept_ccWrite h) (kept_cmdWrite h)))

theorem keptOut_execRegisterWrite {via off v} (h : Kept s₀ s) : KeptOut s₀ (execRegisterWrite via off v s) :=
  keptOut_next (kept_busWrite h)

theorem kept_rclAfter {addr} (h : Kept s₀ s) : Kept s₀ (rclAfter addr s) := by
  unfold rclAfter
  extract_lets
  split
  · exact h
  · exact kept_ite h (kept_ite (kept_wr h) (kept_wr h))

theorem kept_busRead {addr} (h : Kept s₀ s) : Kept s₀ (busRead addr s) := by
  unfold busRead
  refine kept_ite (kept_after (keptOut_execMsiLoRead h)) ?_
  refine kept_ite (kept_after (keptOut_execErrMsiLoRead h)) ?_
  split
  · exact kept_tbNsRead h
  · exact kept_rclAfter (kept_with h)

theorem keptOut_execRclRead {off} (h : Kept s₀ s) : KeptOut s₀ (execRclRead off s) := keptOut_next (kept_busRead h)

theorem kept_regBeats {x a} (h : Kept s₀ s) : Kept s₀ (regBeats x a s) := by
  unfold regBeats
  extract_lets _ _ _ _ _ s1
  have h1 : Kept s₀ s1 := kept_with (kept_with h)
  refine kept_ite (kept_ite (kept_raise h1) h1) ?_
  refine kept_ite (kept_foldl (kept_with h) (fun _ _ h2 => kept_busWrite h2) _) ?_
  exact kept_forNat (kept_with (kept_with h)) (fun _ _ h3 => kept_with (kept_busRead h3))

theorem keptOut_execBusMatrixAccess {x} (h : Kept s₀ s) : KeptOut s₀ (execBusMatrixAccess x s) := by
  unfold execBusMatrixAccess
  refine keptOut_next ?_
  refine kept_ite h ?_
  refine kept_ite (kept_regBeats h) ?_
  exact kept_ite (kept_memWrite (kept_eccCorrectable h)) (kept_memRead (kept_eccCorrectable h))

theorem kept_wordAccess {via m w a} (h : Kept s₀ s) : Kept s₀ (wordAccess via m w a s) := by
  unfold wordAccess
  extract_lets
  refine kept_ite ?_ ?_
  · refine kept_ite (kept_ite (kept_raise (kept_with h)) (kept_with (kept_with h))) ?_
    split
    · exact kept_busWrite (kept_with h)
    · exact kept_busRead (kept_with h)
  · split
    · exact kept_memWrite h
    · exact kept_memRead h

theorem keptOut_execSpiWrite {addr data} (h : Kept s₀ s) : KeptOut s₀ (execSpiWrite addr data s) := by
  unfold execSpiWrite
  extract_lets s1
  have h1 : Kept s₀ s1 := kept_foldl h (fun _ _ h2 => kept_wordAccess h2) _
  exact keptOut_next (kept_ite h (kept_ite h1 (kept_raise h1)))

theorem keptOut_execSpiRead {addr words wait} (h : Kept s₀ s) : KeptOut s₀ (execSpiRead addr words wait s) := by
  unfold execSpiRead
  refine keptOut_next ?_
  refine kept_ite (kept_with (kept_with h)) ?_
  exact kept_forNat (kept_with (kept_with h)) (fun _ _ h1 => kept_with (kept_wordAccess h1))

theorem keptOut_execMgmtRead32 {addr} (h : Kept s₀ s) : KeptOut s₀ (execMgmtRead32 addr s) :=
  keptOut_next (kept_wordAccess h)

theorem keptOut_execMgmtWrite32 {addr v} (h : Kept s₀ s) : KeptOut s₀ (execMgmtWrite32 addr v s) :=
  keptOut_next (kept_wordAccess h)

theorem kept_mgmtOp {op} (h : Kept s₀ s) : Kept s₀ (mgmtOp op s).1 := by
  unfold mgmtOp
  dsimp only
  split
  · dsimp only
    exact kept_wordAccess h
  · dsimp only
    exact kept_wordAccess h
  · exact h

theorem keptOut_execMgmtFrameRx {frame} (h : Kept s₀ s) : KeptOut s₀ (execMgmtFrameRx frame s) := by
  unfold execMgmtFrameRx
  refine keptOut_next (kept_ite h ?_)
  split
  rename_i e1
  have h1 := kept_fst (kept_foldl_fst h (fun _ _ hx => by exact kept_mgmtOp hx) _) e1
  exact kept_with h1

end Sys2Proof.Machine
end

section
/-! SUPPORT. Every command, and every step, keeps canonical form. -/

namespace Sys2Proof.Machine

variable {s₀ s t : State}

/-- Every command answers a next state, leaves the queue alone and keeps canonical form. -/
theorem keptOut_exec (i : Instr) (h : Kept s₀ s) : KeptOut s₀ (exec i s) := by
  cases i with
  | blockStrobe => exact keptOut_execBlockStrobe h
  | registerWrite => exact keptOut_execRegisterWrite h
  | statW1cWrite => exact keptOut_execStatW1cWrite h
  | rclRead => exact keptOut_execRclRead h
  | msiLoRead => exact keptOut_execMsiLoRead h
  | tbNsRead => exact keptOut_execTbNsRead h
  | errMsiLoRead => exact keptOut_execErrMsiLoRead h
  | busMatrixAccess => exact keptOut_execBusMatrixAccess h
  | tileOverrun => exact keptOut_execTileOverrun h
  | tileFail => exact keptOut_execTileFail h
  | seqHandoverGo => exact keptOut_execSeqHandoverGo h
  | handoverSweep => exact keptOut_execHandoverSweep h
  | handoverSwitch => exact keptOut_execHandoverSwitch h
  | patLoad => exact keptOut_execPatLoad h
  | patLoadSlot => exact keptOut_execPatLoadSlot h
  | patLoadDone => exact keptOut_execPatLoadDone h
  | patArm => exact keptOut_execPatArm h
  | armDone => exact keptOut_execArmDone h
  | patPour => exact keptOut_execPatPour h
  | pourStrobe => exact keptOut_execPourStrobe h
  | patStop => exact keptOut_execPatStop h
  | stopStrobe => exact keptOut_execStopStrobe h
  | patternStopped => exact keptOut_execPatternStopped h
  | patDiscard => exact keptOut_execPatDiscard h
  | patAmend => exact keptOut_execPatAmend h
  | amendStageCheck => exact keptOut_execAmendStageCheck h
  | amendApply => exact keptOut_execAmendApply h
  | patStore => exact keptOut_execPatStore h
  | storeDone => exact keptOut_execStoreDone h
  | patErase => exact keptOut_execPatErase h
  | patAuto => exact keptOut_execPatAuto h
  | autoPour => exact keptOut_execAutoPour h
  | coefConversionDone => exact keptOut_execCoefConversionDone h
  | fallbackSwitch => exact keptOut_execFallbackSwitch h
  | shedApply => exact keptOut_execShedApply h
  | metadataFrameCheck => exact keptOut_execMetadataFrameCheck h
  | recordJudge => exact keptOut_execRecordJudge h
  | recordLateRefuse => exact keptOut_execRecordLateRefuse h
  | ackFrameSend => exact keptOut_execAckFrameSend h
  | hqTailWrite => exact keptOut_execHqTailWrite h
  | hqBaseWrite => exact keptOut_execHqBaseWrite h
  | objCmdReseq => exact keptOut_execObjCmdReseq h
  | objCmdFlush => exact keptOut_execObjCmdFlush h
  | objCmdAct => exact keptOut_execObjCmdAct h
  | geoOverrun => exact keptOut_execGeoOverrun h
  | geoUnitFail => exact keptOut_execGeoUnitFail h
  | gChange => exact keptOut_execGChange h
  | silenceHoldReached => exact keptOut_execSilenceHoldReached h
  | scalePeriodEnd => exact keptOut_execScalePeriodEnd h
  | scaleXfadeEnd => exact keptOut_execScaleXfadeEnd h
  | rcXfadeEnd => exact keptOut_execRcXfadeEnd h
  | rteCommit => exact keptOut_execRteCommit h
  | rteCopy => exact keptOut_execRteCopy h
  | rteCancel => exact keptOut_execRteCancel h
  | rteValidationDone => exact keptOut_execRteValidationDone h
  | rteCommitApply => exact keptOut_execRteCommitApply h
  | rteXfDone => exact keptOut_execRteXfDone h
  | tbCfgWrite => exact keptOut_execTbCfgWrite h
  | tbStep => exact keptOut_execTbStep h
  | tbStepApply => exact keptOut_execTbStepApply h
  | ptpMeasWrite => exact keptOut_execPtpMeasWrite h
  | refEdge => exact keptOut_execRefEdge h
  | refEdgeTimeout => exact keptOut_execRefEdgeTimeout h
  | ptpSyncTimeout => exact keptOut_execPtpSyncTimeout h
  | ptpAnnounceTimeout => exact keptOut_execPtpAnnounceTimeout h
  | mediaSeat => exact keptOut_execMediaSeat h
  | mlRequalLock => exact keptOut_execMlRequalLock h
  | ppsOutSecond => exact keptOut_execPpsOutSecond h
  | rxFrame => exact keptOut_execRxFrame h
  | linkDown => exact keptOut_execLinkDown h
  | linkUp => exact keptOut_execLinkUp h
  | rxRingTailWrite => exact keptOut_execRxRingTailWrite h
  | txRingTailWrite => exact keptOut_execTxRingTailWrite h
  | ringCfgWrite => exact keptOut_execRingCfgWrite h
  | txFrame => exact keptOut_execTxFrame h
  | txTailTimeout => exact keptOut_execTxTailTimeout h
  | gclCommit => exact keptOut_execGclCommit h
  | gclCancel => exact keptOut_execGclCancel h
  | gclApply => exact keptOut_execGclApply h
  | gclEntryAdvance => exact keptOut_execGclEntryAdvance h
  | lpiEnter => exact keptOut_execLpiEnter h
  | lpiWake => exact keptOut_execLpiWake h
  | streamPacketRx => exact keptOut_execStreamPacketRx h
  | strRxEnable => exact keptOut_execStrRxEnable h
  | strRxDisable => exact keptOut_execStrRxDisable h
  | strTxEnable => exact keptOut_execStrTxEnable h
  | strTxDisable => exact keptOut_execStrTxDisable h
  | strRxTimeout => exact keptOut_execStrRxTimeout h
  | claimHoldTimeout => exact keptOut_execClaimHoldTimeout h
  | heldPacketExpire => exact keptOut_execHeldPacketExpire h
  | apdGroupEnable => exact keptOut_execApdGroupEnable h
  | apdGroupDisable => exact keptOut_execApdGroupDisable h
  | slaveFsEdge => exact keptOut_execSlaveFsEdge h
  | slaveFsTimeout => exact keptOut_execSlaveFsTimeout h
  | laneMaskWrite => exact keptOut_execLaneMaskWrite h
  | laneMaskTransfer => exact keptOut_execLaneMaskTransfer h
  | csCommit => exact keptOut_execCsCommit h
  | csTransfer => exact keptOut_execCsTransfer h
  | biphaseFrameRx => exact keptOut_execBiphaseFrameRx h
  | biphaseLockLoss => exact keptOut_execBiphaseLockLoss h
  | pdmSync => exact keptOut_execPdmSync h
  | micsyncEdge => exact keptOut_execMicsyncEdge h
  | decimatorReset => exact keptOut_execDecimatorReset h
  | micIdle => exact keptOut_execMicIdle h
  | micResume => exact keptOut_execMicResume h
  | capStart => exact keptOut_execCapStart h
  | capStop => exact keptOut_execCapStop h
  | capCancel => exact keptOut_execCapCancel h
  | capRunStart => exact keptOut_execCapRunStart h
  | capEnd => exact keptOut_execCapEnd h
  | dacUnderrun => exact keptOut_execDacUnderrun h
  | dacUrFault => exact keptOut_execDacUrFault h
  | dacForce => exact keptOut_execDacForce h
  | dacClear => exact keptOut_execDacClear h
  | dacPowerUpLoad => exact keptOut_execDacPowerUpLoad h
  | dacCfgWrite => exact keptOut_execDacCfgWrite h
  | dacSpanStart => exact keptOut_execDacSpanStart h
  | dacSpanSwitch => exact keptOut_execDacSpanSwitch h
  | dacSettleDone => exact keptOut_execDacSettleDone h
  | clmCfgWrite => exact keptOut_execClmCfgWrite h
  | clmDrill => exact keptOut_execClmDrill h
  | clmRenorm => exact keptOut_execClmRenorm h
  | clmForceActive => exact keptOut_execClmForceActive h
  | clmYield => exact keptOut_execClmYield h
  | flkResync => exact keptOut_execFlkResync h
  | claimFrameStart => exact keptOut_execClaimFrameStart h
  | claimDecisionPoint => exact keptOut_execClaimDecisionPoint h
  | listenEnd => exact keptOut_execListenEnd h
  | drillExecute => exact keptOut_execDrillExecute h
  | autoDrill => exact keptOut_execAutoDrill h
  | renormApply => exact keptOut_execRenormApply h
  | flaskFrameRx => exact keptOut_execFlaskFrameRx h
  | helloRx => exact keptOut_execHelloRx h
  | heartbeatRx => exact keptOut_execHeartbeatRx h
  | silenceRx => exact keptOut_execSilenceRx h
  | mirrorRx => exact keptOut_execMirrorRx h
  | commitRx => exact keptOut_execCommitRx h
  | confirmRx => exact keptOut_execConfirmRx h
  | discardRx => exact keptOut_execDiscardRx h
  | mirrorDeadline => exact keptOut_execMirrorDeadline h
  | snapReqRx => exact keptOut_execSnapReqRx h
  | snapDataRx => exact keptOut_execSnapDataRx h
  | snapEndRx => exact keptOut_execSnapEndRx h
  | snapAbortRx => exact keptOut_execSnapAbortRx h
  | joinPour => exact keptOut_execJoinPour h
  | shadowEnd => exact keptOut_execShadowEnd h
  | convTimeout => exact keptOut_execConvTimeout h
  | resyncRetry => exact keptOut_execResyncRetry h
  | flaskLinkStale => exact keptOut_execFlaskLinkStale h
  | flaskLaneDown => exact keptOut_execFlaskLaneDown h
  | flaskLaneUp => exact keptOut_execFlaskLaneUp h
  | ladleRecRx => exact keptOut_execLadleRecRx h
  | ladleAckRx => exact keptOut_execLadleAckRx h
  | ladleDecideRx => exact keptOut_execLadleDecideRx h
  | ladleUndecided => exact keptOut_execLadleUndecided h
  | ladleHbRx => exact keptOut_execLadleHbRx h
  | workerHbTimeout => exact keptOut_execWorkerHbTimeout h
  | managerHbTimeout => exact keptOut_execManagerHbTimeout h
  | joinReqSend => exact keptOut_execJoinReqSend h
  | joinReqRx => exact keptOut_execJoinReqRx h
  | joinDataRx => exact keptOut_execJoinDataRx h
  | joinEndRx => exact keptOut_execJoinEndRx h
  | joinTimeout => exact keptOut_execJoinTimeout h
  | syncInEdge => exact keptOut_execSyncInEdge h
  | errAckWrite => exact keptOut_execErrAckWrite h
  | jnlFreeze => exact keptOut_execJnlFreeze h
  | jnlResume => exact keptOut_execJnlResume h
  | jnlSelWrite => exact keptOut_execJnlSelWrite h
  | jnlFreezeTimeout => exact keptOut_execJnlFreezeTimeout h
  | startupSelfTest => exact keptOut_execStartupSelfTest h
  | startupSelfTestDone => exact keptOut_execStartupSelfTestDone h
  | quenchSliceStart => exact keptOut_execQuenchSliceStart h
  | sliceTestRunEnd => exact keptOut_execSliceTestRunEnd h
  | srSliceEnd => exact keptOut_execSrSliceEnd h
  | bstClearMap => exact keptOut_execBstClearMap h
  | bstMark => exact keptOut_execBstMark h
  | faultMapWriteDone => exact keptOut_execFaultMapWriteDone h
  | mtxCmdReset => exact keptOut_execMtxCmdReset h
  | ccRunWrite => exact keptOut_execCcRunWrite h
  | ccKick => exact keptOut_execCcKick h
  | watchdogExpiry => exact keptOut_execWatchdogExpiry h
  | coreException => exact keptOut_execCoreException h
  | mailboxDoorbell => exact keptOut_execMailboxDoorbell h
  | mailboxDone => exact keptOut_execMailboxDone h
  | dmaTailWrite via => exact keptOut_execDmaTailWrite (via := via) h
  | dmaDescriptorDone => exact keptOut_execDmaDescriptorDone h
  | spiWrite => exact keptOut_execSpiWrite h
  | spiRead => exact keptOut_execSpiRead h
  | mgmtFrameRx => exact keptOut_execMgmtFrameRx h
  | mgmtRead32 => exact keptOut_execMgmtRead32 h
  | mgmtWrite32 => exact keptOut_execMgmtWrite32 h
  | bootLoad => exact keptOut_execBootLoad h
  | bootLoadDone => exact keptOut_execBootLoadDone h
  | nvmProgram => exact keptOut_execNvmProgram h
  | nvmProgramDone => exact keptOut_execNvmProgramDone h
  | powerOn => exact keptOut_execPowerOn h
  | powerDown => exact keptOut_execPowerDown h
  | resetPin => exact keptOut_execResetPin h
  | sysRstCore => exact keptOut_execSysRstCore h
  | sysRstFull => exact keptOut_execSysRstFull h
  | perst => exact keptOut_execPerst h
  | pcieLinkReset => exact keptOut_execPcieLinkReset h
  | corePllLock => exact keptOut_execCorePllLock h
  | dramReady => exact keptOut_execDramReady h
  | supplyDip => exact keptOut_execSupplyDip h
  | refclkFail => exact keptOut_execRefclkFail h
  | thermalSample => exact keptOut_execThermalSample h
  | thermalShutdown => exact keptOut_execThermalShutdown h
  | thermalRelease => exact keptOut_execThermalRelease h
  | testEnAssert => exact keptOut_execTestEnAssert h
  | testEnRelease => exact keptOut_execTestEnRelease h

/-- With a command waiting, the step is that command's on the queue's rest; with none, a media frame's. -/
theorem canonical_of_step (h : s.canonical = true) (e : step s = .next t) : t.canonical = true := by
  unfold step at e
  split at e
  · cases e
    exact (kept_idleTick (kept_refl s)).form h
  · rename_i i rest _
    obtain ⟨u, hu, k⟩ := keptOut_exec i (kept_refl { s with pending := rest })
    rw [hu] at e
    cases e
    exact k.form h

/-- Settles O4: a step is a command or a media frame, and every function that these call keeps canonical form. -/
theorem stepKeepsCanonicalForm : Obligations.StepKeepsCanonicalForm := by
  unfold Obligations.StepKeepsCanonicalForm
  exact fun _ _ h e => canonical_of_step h e

end Sys2Proof.Machine
end

section
/-! SUPPORT. Frames: which registers and bytes an effect leaves alone (R17, R19), and the rules for writes of registers, fields and
counters. -/

namespace Sys2Proof.Machine

variable {offs : List Nat} {s t u : State}

theorem sameMem_of_mem (h : t.mem = s.mem) : SameMem s t := by
  intro a
  unfold rdByte
  rw [h]

theorem KeptBut.refl (offs : List Nat) (s : State) : KeptBut offs s s := fun _ _ => rfl

theorem KeptBut.trans (h : KeptBut offs s t) (h' : KeptBut offs t u) : KeptBut offs s u :=
  fun o ho => (h' o ho).trans (h o ho)

theorem KeptBut.of_regs (h : KeptBut offs s t) (e : u.regs = t.regs) : KeptBut offs s u := by
  intro o ho
  rw [← h o ho]
  unfold rd
  rw [e]

theorem KeptBut.mono {offs' : List Nat} (h : KeptBut offs s t) (sub : offs ⊆ offs') : KeptBut offs' s t :=
  fun o ho => h o fun m => ho (sub m)

theorem KeptBut.wr {o : Nat} {v : Word} (h : KeptBut offs s t) (ho : o ∈ offs) : KeptBut offs s (wr t o v) := by
  intro p hp
  rw [rd_wr_of_ne t v (ne_of_mem_of_not_mem ho hp).symm, h p hp]

theorem KeptBut.setF {f : Fld} {v : Nat} (h : KeptBut offs s t) (ho : f.off ∈ offs) : KeptBut offs s (setF t f v) := h.wr ho

theorem KeptBut.setBit {f : Fld} {i : Nat} (h : KeptBut offs s t) (ho : f.off ∈ offs) : KeptBut offs s (setBit t f i) :=
  h.wr ho

theorem KeptBut.cntAdd {o n : Nat} (h : KeptBut offs s t) (ho : o ∈ offs) : KeptBut offs s (cntAdd t o n) := h.wr ho

theorem KeptBut.ite {p : Prop} [Decidable p] (h : KeptBut offs s t) (h' : KeptBut offs s u) :
    KeptBut offs s (if p then t else u) := by
  split
  · exact h
  · exact h'

theorem KeptBut.forNat {n : Nat} {f : Nat → State → State} (h : KeptBut offs s t)
    (hf : ∀ i < n, ∀ u, KeptBut offs s u → KeptBut offs s (f i u)) : KeptBut offs s (forNat n f t) := by
  unfold Machine.forNat
  refine List.foldlRecOn (motive := KeptBut offs s) _ _ h ?_
  intro u hu i hi
  exact hf i (List.mem_range.mp hi) u hu

theorem KeptBut.getF {f : Fld} (h : KeptBut offs s t) (hf : f.off ∉ offs) : getF t f = getF s f := by
  unfold Machine.getF
  rw [h _ hf]

end Sys2Proof.Machine
end

section
/-! SUPPORT. Registers, fields, counters and bytes read back as written (O7, O8). -/

namespace Sys2Proof.Machine

/-- Settles O7: a table of registers answers what was put last under an offset; a counter is a register written with its sum. -/
theorem registerWriteReadBack : Obligations.RegisterWriteReadBack := by
  unfold Obligations.RegisterWriteReadBack
  refine ⟨?_, ?_, ?_, ?_⟩
  · exact fun s a b v => ⟨rd_wr s a b v, sameMem_of_mem rfl⟩
  · exact fun s a v h => (kept_wr (kept_refl s)).form h
  · rintro s f v ⟨hlo, hhi⟩
    exact ⟨getF_setF_self s f v hlo hhi, (KeptBut.refl _ s).setF (by simp)⟩
  · exact fun s off n => ⟨rdN_cntAdd_self s off n, (KeptBut.refl _ s).cntAdd (by simp)⟩

theorem rdByte_wrByte (s : State) (a b : Nat) (v : Byte) :
    rdByte (wrByte s a v) b = if b = a then v else rdByte s b := aGet_aSet _ _ _ _ _

theorem regs_wrBytes (bs : List Byte) : ∀ (s : State) (a : Nat), (wrBytes s a bs).regs = s.regs := by
  induction bs with
  | nil => exact fun _ _ => rfl
  | cons x bs ih => exact fun s a => ih (wrByte s a x) (a + 1)

/-- A block write puts its i-th byte at the i-th address from the first on.  The first byte is not written over by the rest, which
lies behind it. -/
theorem rdByte_wrBytes (bs : List Byte) : ∀ (s : State) (a b : Nat),
    rdByte (wrBytes s a bs) b = if a ≤ b ∧ b < a + bs.length then (bs[b - a]?).getD 0 else rdByte s b := by
  induction bs with
  | nil =>
    intro s a b
    rw [if_neg (by simp)]
    rfl
  | cons x bs ih =>
    intro s a b
    rw [wrBytes, ih, rdByte_wrByte, List.length_cons]
    obtain hlt | rfl | hgt := Nat.lt_trichotomy b a
    · rw [if_neg (by omega), if_neg (by omega), if_neg (by omega)]
    · simp
    · obtain ⟨k, rfl⟩ : ∃ k, b = a + 1 + k := ⟨b - (a + 1), by omega⟩
      rw [if_neg (by omega : a + 1 + k ≠ a), Nat.add_sub_cancel_left, show a + 1 + k - a = k + 1 by omega,
        List.getElem?_cons_succ]
      exact if_congr (by omega) rfl rfl

/-- Settles O8: a table of bytes answers what was put last at an address, and a string is one byte after another. -/
theorem byteWriteReadBack : Obligations.ByteWriteReadBack := by
  unfold Obligations.ByteWriteReadBack
  refine ⟨?_, ?_, ?_⟩
  · exact fun s a b v => ⟨rdByte_wrByte s a b v, (KeptBut.refl _ s).of_regs rfl⟩
  · exact fun s a v h => (kept_wrByte (kept_refl s)).form h
  · exact fun s a b bs => ⟨rdByte_wrBytes bs s a b, (KeptBut.refl _ s).of_regs (regs_wrBytes bs s a)⟩

end Sys2Proof.Machine
end

section
/-! SUPPORT. Bits and fields of words. -/

namespace Sys2Proof.Machine

theorem bit_toNat (w : Word) (i : Nat) : bit w.toNat i = w.getLsbD i := by
  rw [← BitVec.testBit_toNat, Nat.testBit_eq_decide_div_mod_eq]
  rfl

theorem fget_one_bit (w : Word) (i : Nat) : fget w i i = (w.getLsbD i).toNat := by
  unfold fget bits
  rw [Nat.add_sub_cancel_left, ← BitVec.testBit_toNat, Nat.toNat_testBit, Nat.pow_one]

theorem getLsbD_and_not (a b : Word) (i : Nat) : (a &&& ~~~ b).getLsbD i = (a.getLsbD i && !b.getLsbD i) := by
  rw [BitVec.getLsbD_and, BitVec.getLsbD_not]
  by_cases h : i < 32
  · simp [h]
  · simp [BitVec.getLsbD_of_ge a i (by omega)]

theorem fget_eq_extractLsb' (w : Word) (hi lo : Nat) : fget w hi lo = (w.extractLsb' lo (hi + 1 - lo)).toNat := by
  rw [BitVec.extractLsb'_toNat, Nat.shiftRight_eq_div_pow]
  rfl

/-- A mask that holds all bits of a field leaves the field alone. -/
theorem fget_and_of_allOnes {m : Word} {hi lo : Nat} (h : m.extractLsb' lo (hi + 1 - lo) = BitVec.allOnes _) (w : Word) :
    fget (w &&& m) hi lo = fget w hi lo := by
  rw [fget_eq_extractLsb', fget_eq_extractLsb', BitVec.extractLsb'_and, h, BitVec.and_allOnes]

end Sys2Proof.Machine
end

section
/-! SUPPORT. Writes of ones that clear and reads that clear, each by the row of its register (R20, R409, R505) (O9). -/

namespace Sys2Proof.Machine

variable {s : State} {off : Nat} {r : RegRow}

/-- The bits that a write of v clears at a register with the row r: its W1C bits written as one, but for ERR_STAT.FATAL. -/
def clearMask (off : Nat) (r : RegRow) (v : Word) : Word :=
  if off = R.ERR_STAT then (v &&& BitVec.ofNat 32 r.w1c) &&& 0xFFFFFFF7#32 else v &&& BitVec.ofNat 32 r.w1c

/-- The error stack once the status bits m at off are cleared. -/
def supersedeTied (off : Nat) (m : Word) (stack : List ErrEntry) : List ErrEntry :=
  stack.map (fun e => if tiedTo off m e then { e with superseded := true } else e)

theorem superseded_of_mem_supersedeTied {m : Word} {stack : List ErrEntry} {e : ErrEntry} (he : e ∈ supersedeTied off m stack)
    (htied : tiedTo off m e = true) : e.superseded = true := by
  obtain ⟨e₀, -, rfl⟩ := List.mem_map.mp he
  by_cases h : tiedTo off m e₀ = true
  · rw [if_pos h]
  · rw [if_neg h] at htied
    contradiction

/-- An entry that reports one of some bits reports one of any more. -/
theorem tiedTo_mono {a b : Word} (h : ∀ i, a.getLsbD i = true → b.getLsbD i = true) {e : ErrEntry}
    (ha : tiedTo off a e = true) : tiedTo off b e = true := by
  unfold tiedTo at ha ⊢
  split at ha
  · contradiction
  · rw [Bool.and_eq_true, bit_toNat] at ha ⊢
    exact ⟨ha.1, h _ ha.2⟩

theorem w1cClear_eq (h : regRow off = some r) (v : Word) (s : State) :
    w1cClear off v s = { wr s off (rd s off &&& ~~~ clearMask off r v) with
      err := { s.err with stack := supersedeTied off (clearMask off r v) s.err.stack } } := by
  unfold w1cClear
  rw [h]
  rfl

theorem rd_w1cClear (h : regRow off = some r) (v : Word) (s : State) :
    rd (w1cClear off v s) off = rd s off &&& ~~~ clearMask off r v := by
  rw [w1cClear_eq h]
  exact rd_wr_self s off _

theorem superseded_w1cClear (h : regRow off = some r) {v : Word} {s : State} {e : ErrEntry}
    (he : e ∈ (w1cClear off v s).err.stack) (htied : tiedTo off (clearMask off r v) e = true) : e.superseded = true := by
  rw [w1cClear_eq h] at he
  exact superseded_of_mem_supersedeTied he htied

theorem frame_w1cClear (h : regRow off = some r) (v : Word) (s : State) :
    Frame [off] s (w1cClear off v s)
      { s with regs := (w1cClear off v s).regs, err := { s.err with stack := (w1cClear off v s).err.stack } } := by
  rw [w1cClear_eq h]
  exact ⟨rfl, ((KeptBut.refl [off] s).wr (List.mem_singleton_self off)).of_regs rfl, sameMem_of_mem rfl⟩

/-- The row of ERR_STAT: FATAL, OVF and two more bits, all W1C. -/
theorem exists_regRow_errStat : ∃ r, regRow R.ERR_STAT = some r ∧ r.w1c = 15 := ⟨_, rfl, rfl⟩

theorem eq_of_inst_eq_some {base stride count n : Nat} (h : inst base stride count off = some n) :
    n < count ∧ off = base + stride * n := by
  unfold inst at h
  split at h
  · obtain ⟨hle, hmod, hlt⟩ := ‹_ ∧ _›
    obtain rfl := Option.some.inj h
    have := Nat.mul_div_cancel' (Nat.dvd_of_mod_eq_zero hmod)
    exact ⟨hlt, by omega⟩
  · contradiction

/-- The offsets whose read latches more than it answers. -/
def latchingReads : List Nat := [R.TSU_MSI_LO, R.ERR_CUR_MSI_LO] ++ (List.range 4).map R.TSU_TB_NS

theorem rcl_eq_zero_of_latchingReads : ∀ o ∈ latchingReads, ∀ r, regRow o = some r → r.rcl = 0 := by decide

theorem notLatching_of_rcl (h : regRow off = some r) (hrcl : r.rcl ≠ 0) : off ∉ latchingReads :=
  fun hm => hrcl (rcl_eq_zero_of_latchingReads off hm r h)

/-- A read that latches nothing answers the register and clears what a read clears of it. -/
theorem busRead_of_notLatching (hlatch : off ∉ latchingReads) (s : State) :
    busRead off s = rclAfter off { s with rdata := BitVec.ofNat 32 (readReg s off) } := by
  have hmsi : off ≠ R.TSU_MSI_LO := by rintro rfl; exact hlatch (by decide)
  have herr : off ≠ R.ERR_CUR_MSI_LO := by rintro rfl; exact hlatch (by decide)
  have htb : inst (R.TSU_TB_NS 0) 64 4 off = none := by
    rw [Option.eq_none_iff_forall_ne_some]
    intro n hn
    obtain ⟨hlt, rfl⟩ := eq_of_inst_eq_some hn
    refine hlatch (List.mem_append_right _ (List.mem_map.mpr ⟨n, List.mem_range.mpr hlt, ?_⟩))
    unfold R.TSU_TB_NS
    omega
  unfold busRead
  rw [if_neg hmsi, if_neg herr, htb]

/-- A register after a read that clears: as it was where it is a counter and counters are held, else with the row's
read-to-clear bits at their reset value. -/
def clearedByRead (s : State) (off : Nat) (r : RegRow) : Word :=
  if getF s F.SYS_CTL_CNT_HOLD = 1 ∧ peakReg off = false then rd s off
  else (rd s off &&& ~~~ BitVec.ofNat 32 r.rcl) ||| (regReset off &&& BitVec.ofNat 32 r.rcl)

theorem rclAfter_of_regRow (h : regRow off = some r) (hreal : realOff s off = off) :
    rclAfter off s = if getF s F.SYS_CTL_CNT_HOLD = 1 ∧ peakReg off = false then s
      else if off = R.SYS_TEMP_MAX then wr s off (rd s R.SYS_TEMP)
      else wr s off ((rd s off &&& ~~~ BitVec.ofNat 32 r.rcl) ||| (regReset off &&& BitVec.ofNat 32 r.rcl)) := by
  unfold rclAfter
  dsimp only
  rw [hreal, h]
  simp only [Bool.not_eq_true']

theorem rd_rclAfter (h : regRow off = some r) (hreal : realOff s off = off) (hpeak : off ≠ R.SYS_TEMP_MAX) :
    rd (rclAfter off s) off = clearedByRead s off r := by
  rw [rclAfter_of_regRow h hreal, if_neg hpeak]
  unfold clearedByRead
  split
  · rfl
  · exact rd_wr_self s off _

/-- A clear by a read writes one register at most. -/
theorem rclAfter_eq_withRegs (h : regRow off = some r) (hreal : realOff s off = off) :
    rclAfter off s = { s with regs := (rclAfter off s).regs } ∧ KeptBut [off] s (rclAfter off s) := by
  have self := List.mem_singleton_self off
  rw [rclAfter_of_regRow h hreal]
  split
  · exact ⟨rfl, KeptBut.refl _ s⟩
  · split <;> exact ⟨rfl, (KeptBut.refl _ s).wr self⟩

theorem frame_busRead (h : regRow off = some r) (hlatch : off ∉ latchingReads) (hreal : realOff s off = off) :
    Frame [off] s (busRead off s) { s with regs := (busRead off s).regs, rdata := (busRead off s).rdata } := by
  rw [busRead_of_notLatching hlatch]
  obtain ⟨heq, hkept⟩ := rclAfter_eq_withRegs (s := { s with rdata := BitVec.ofNat 32 (readReg s off) }) h hreal
  rw [heq] at hkept ⊢
  exact ⟨rfl, hkept, sameMem_of_mem rfl⟩

theorem rdata_busRead (h : regRow off = some r) (hlatch : off ∉ latchingReads) (hreal : realOff s off = off) :
    (busRead off s).rdata = BitVec.ofNat 32 (readReg s off) := by
  rw [busRead_of_notLatching hlatch]
  obtain ⟨heq, -⟩ := rclAfter_eq_withRegs (s := { s with rdata := BitVec.ofNat 32 (readReg s off) }) h hreal
  rw [heq]

theorem rd_busRead (h : regRow off = some r) (hlatch : off ∉ latchingReads) (hreal : realOff s off = off)
    (hpeak : off ≠ R.SYS_TEMP_MAX) : rd (busRead off s) off = clearedByRead s off r := by
  rw [busRead_of_notLatching hlatch]
  exact rd_rclAfter (s := { s with rdata := BitVec.ofNat 32 (readReg s off) }) h hreal hpeak

/-- A read of the peak temperature starts it again from the present one; CNT_HOLD does not hold it. -/
theorem rd_rclAfter_sysTempMax (hoff : off = R.SYS_TEMP_MAX) (h : regRow off = some r) (hreal : realOff s off = off) :
    rd (rclAfter off s) off = rd s R.SYS_TEMP := by
  have hpeak : ¬ peakReg off = false := by
    rw [hoff]
    decide
  rw [rclAfter_of_regRow h hreal, if_neg fun held => hpeak held.2, if_pos hoff]
  exact rd_wr_self _ _ _

theorem rd_busRead_sysTempMax (hoff : off = R.SYS_TEMP_MAX) (h : regRow off = some r) (hlatch : off ∉ latchingReads)
    (hreal : realOff s off = off) : rd (busRead off s) off = rd s R.SYS_TEMP := by
  rw [busRead_of_notLatching hlatch]
  exact rd_rclAfter_sysTempMax (s := { s with rdata := BitVec.ofNat 32 (readReg s off) }) hoff h hreal

/-- The counters of the blocks MTX, BST, JNL and ERR. -/
def blockCounters : List Nat :=
  [R.MTX_ERR_CNT, R.MTX_ABORT_CNT, R.BST_FAIL_CNT, R.BST_SLICE_CNT, R.BST_TRANS_CNT, R.BST_ABORT_CNT, R.BST_HOT_CNT, R.JNL_MISSED,
    R.JNL_WRAP_CNT, R.ERR_LOST, R.ERR_ECC_UNC_CNT]

/-- All bits of a block counter are read-to-clear, none is write-only, and it starts at 0. -/
theorem row_of_blockCounters : ∀ off ∈ blockCounters,
    ((regRow off).map fun r => (r.rcl, r.wo)) = some (0xFFFFFFFF, 0) ∧ regReset off = 0 ∧ peakReg off = false ∧
    off ≠ R.SYS_TEMP_MAX := by decide

/-- No view is computed for the block counters. -/
theorem noView_of_blockCounters (s : State) : ∀ off ∈ blockCounters,
    systemRead s off = none ∧ unitRead s off = none ∧ renderRead s off = none ∧ realOff s off = off := by
  intro off h
  fin_cases h <;> exact ⟨rfl, rfl, rfl, rfl⟩

theorem readReg_of_noView (hs : systemRead s off = none) (hu : unitRead s off = none) (hr : renderRead s off = none)
    (hreal : realOff s off = off) (h : regRow off = some r) :
    readReg s off = (rd s off &&& ~~~ BitVec.ofNat 32 r.wo).toNat := by
  unfold readReg
  dsimp only
  rw [hs, hu, hr, hreal, h]

/-- A block counter reads as it counts, and a read clears it unless the counters are held. -/
theorem busRead_blockCounter (s : State) (h : off ∈ blockCounters) :
    (busRead off s).rdata = rd s off ∧
    rd (busRead off s) off = (if getF s F.SYS_CTL_CNT_HOLD = 1 then rd s off else 0) ∧
    Frame [off] s (busRead off s) { s with regs := (busRead off s).regs, rdata := (busRead off s).rdata } := by
  obtain ⟨hrow, hrst, hcnt, hpeak⟩ := row_of_blockCounters off h
  obtain ⟨hs, hu, hr, hreal⟩ := noView_of_blockCounters s off h
  obtain ⟨r, hrow, hcols⟩ := Option.map_eq_some_iff.mp hrow
  obtain ⟨hall, hwo⟩ := Prod.mk.inj hcols
  have hlatch := notLatching_of_rcl hrow (by omega)
  have hones : ∀ w : Word, w &&& 4294967295#32 = w := fun w => BitVec.and_allOnes
  refine ⟨?_, ?_, frame_busRead hrow hlatch hreal⟩
  · rw [rdata_busRead hrow hlatch hreal, readReg_of_noView hs hu hr hreal hrow, hwo]
    simp [hones]
  · rw [rd_busRead hrow hlatch hreal hpeak]
    unfold clearedByRead
    rw [hcnt, hrst, hall]
    simp

theorem exists_regRow_sysTempMax : ∃ r, regRow R.SYS_TEMP_MAX = some r := ⟨_, rfl⟩

/-- At ERR_STAT a write of ones clears OVF and the two bits by it, never FATAL. -/
theorem clearMask_errStat (hw : r.w1c = 15) (v : Word) : clearMask R.ERR_STAT r v = v &&& 7#32 := by
  unfold clearMask
  rw [if_pos rfl, hw, BitVec.and_assoc]
  rfl

/-- What a write of ones leaves of ERR_STAT, bit by bit. -/
theorem getLsbD_errStat_w1cClear (h : regRow R.ERR_STAT = some r) (hw : r.w1c = 15) (v : Word) (s : State) (i : Nat) :
    (rd (w1cClear R.ERR_STAT v s) R.ERR_STAT).getLsbD i =
      ((rd s R.ERR_STAT).getLsbD i && !(v.getLsbD i && (7#32).getLsbD i)) := by
  rw [rd_w1cClear h, clearMask_errStat hw, getLsbD_and_not, BitVec.getLsbD_and]

theorem getF_errStat_fatal_w1cClear (h : regRow R.ERR_STAT = some r) (hw : r.w1c = 15) (v : Word) (s : State) :
    getF (w1cClear R.ERR_STAT v s) F.ERR_STAT_FATAL = getF s F.ERR_STAT_FATAL := by
  unfold getF F.ERR_STAT_FATAL
  rw [fget_one_bit, fget_one_bit, getLsbD_errStat_w1cClear h hw, show (7#32).getLsbD 3 = false from rfl, Bool.and_false,
    Bool.not_false, Bool.and_true]

theorem getF_errStat_ovf_w1cClear (h : regRow R.ERR_STAT = some r) (hw : r.w1c = 15) (v : Word) (s : State) :
    getF (w1cClear R.ERR_STAT v s) F.ERR_STAT_OVF = if bit v.toNat 0 = true then 0 else getF s F.ERR_STAT_OVF := by
  unfold getF F.ERR_STAT_OVF
  rw [fget_one_bit, fget_one_bit, getLsbD_errStat_w1cClear h hw, show (7#32).getLsbD 0 = true from rfl, bit_toNat]
  cases v.getLsbD 0 <;> simp

/-- The bits that a write of ones has cleared are among those of its mask. -/
theorem clearMask_of_cleared (h : regRow off = some r) (v : Word) (s : State) (i : Nat)
    (hi : (rd s off &&& ~~~ rd (w1cClear off v s) off).getLsbD i = true) : (clearMask off r v).getLsbD i = true := by
  rw [rd_w1cClear h, getLsbD_and_not, getLsbD_and_not] at hi
  cases hm : (clearMask off r v).getLsbD i with
  | true => rfl
  | false => simp [hm] at hi

/-- Settles O9: a write clears by the mask of its row, and a read by the read-to-clear bits of its row. -/
theorem statusBitsClearByOnes : Obligations.StatusBitsClearByOnes := by
  unfold Obligations.StatusBitsClearByOnes
  refine ⟨?_, ?_, ?_, ?_, ?_⟩
  · intro off v s r hrow hne
    have hmask : clearMask off.toNat r v = v &&& BitVec.ofNat 32 r.w1c := if_neg hne
    rw [← hmask]
    exact ⟨_, rfl, rd_w1cClear hrow v s, fun e => superseded_w1cClear hrow, frame_w1cClear hrow v s⟩
  · intro v s
    obtain ⟨r, hrow, hw⟩ := exists_regRow_errStat
    have hovf := getF_errStat_ovf_w1cClear hrow hw v s
    refine ⟨_, rfl, getF_errStat_fatal_w1cClear hrow hw v s, ?_, ?_, ?_, frame_w1cClear hrow v s⟩
    · exact fun hv => hovf.trans (if_pos hv)
    · exact fun hv => hovf.trans (if_neg (Bool.eq_false_iff.mp hv))
    · exact fun e he htied => superseded_w1cClear hrow he (tiedTo_mono (clearMask_of_cleared hrow v s) htied)
  · exact fun off s h => ⟨_, rfl, busRead_blockCounter s h⟩
  · rintro off s r ⟨hrow, hrcl, hreal⟩ hpeak
    have hlatch := notLatching_of_rcl hrow hrcl
    exact ⟨_, rfl, rdata_busRead hrow hlatch hreal, rd_busRead hrow hlatch hreal hpeak, frame_busRead hrow hlatch hreal⟩
  · intro s hreal
    obtain ⟨r, hrow⟩ := exists_regRow_sysTempMax
    have hlatch : R.SYS_TEMP_MAX ∉ latchingReads := by decide
    exact ⟨_, rfl, rd_busRead_sysTempMax rfl hrow hlatch hreal, frame_busRead hrow hlatch hreal⟩

end Sys2Proof.Machine
end

section
/-! SUPPORT. What recording a change, and raising an error that is not fatal, leave alone (R407, R409, R416). -/

namespace Sys2Proof.Machine

variable {offs : List Nat} {s t : State} {e : Err}

theorem jnlAppend_eq_with (x : JEntry) (s : State) :
    ∃ j, jnlAppend x s = { (if 4096 ≤ s.jnl.entries.length then cnt s R.JNL_WRAP_CNT else s) with jnl := j } := by
  unfold jnlAppend
  dsimp only
  split
  · exact ⟨_, rfl⟩
  · split <;> exact ⟨_, rfl⟩

theorem err_journal (src : Src) (kind addr value msi : Nat) (s : State) : (journal src kind addr value msi s).err = s.err := by
  unfold journal
  split
  · rfl
  next =>
    obtain ⟨j, hj⟩ := jnlAppend_eq_with _ s
    rw [hj]
    split <;> rfl

/-- Recording a change counts at most: in JNL_MISSED where the journal is frozen, in JNL_WRAP_CNT where it is full. -/
theorem KeptBut.journal {src : Src} {kind addr value msi : Nat} (h : KeptBut offs s t) (hoffs : jnlRegs ⊆ offs) :
    KeptBut offs s (journal src kind addr value msi t) := by
  unfold Machine.journal
  split
  · exact h.cntAdd (hoffs (by decide))
  next =>
    obtain ⟨j, hj⟩ := jnlAppend_eq_with _ t
    rw [hj]
    exact KeptBut.of_regs (.ite (h.cntAdd (hoffs (by decide))) h) rfl

theorem keptBut_journalReg (via : Src) (off : Nat) (v : Word) (s : State) : KeptBut jnlRegs s (journalReg via off v s) :=
  (KeptBut.refl jnlRegs s).journal (List.Subset.refl _)

theorem logsOnly_journalReg (via : Src) (off : Nat) (v : Word) (s : State) : LogsOnly s (journalReg via off v s) :=
  logsOnly_journal _ _ _ _ _ s

/-- Of the state, recording a register write changes registers and journal at most. -/
theorem journalReg_eq_with (via : Src) (off : Nat) (v : Word) (s : State) :
    ∃ r j, journalReg via off v s = { s with regs := r, jnl := j } := by
  have herr : (journalReg via off v s).err = s.err := err_journal _ _ _ _ _ s
  obtain ⟨r, e, j, h⟩ := logsOnly_journalReg via off v s
  rw [h] at herr
  obtain rfl : e = s.err := herr
  exact ⟨r, j, h⟩

/-- Presenting an error that is not fatal touches the journal at most. -/
theorem onPresent_of_nonfatal {x : ErrEntry} (hx : errSev x.err ≠ .fatal) (s : State) :
    ∃ j, onPresent x s = { s with jnl := j } := by
  unfold onPresent
  rw [if_neg hx]
  split
  · dsimp only
    split
    · exact ⟨_, rfl⟩
    · exact ⟨_, rfl⟩
  · exact ⟨s.jnl, rfl⟩

theorem regs_present_of_nonfatal {x : ErrEntry} (hx : errSev x.err ≠ .fatal) (s : State) : (present x s).regs = s.regs := by
  obtain ⟨j, hj⟩ := onPresent_of_nonfatal hx { s with err := { s.err with current := some x, resumed := false } }
  unfold present
  rw [hj]

theorem current_present_of_nonfatal {x : ErrEntry} (hx : errSev x.err ≠ .fatal) (s : State) :
    (present x s).err.current = some x := by
  obtain ⟨j, hj⟩ := onPresent_of_nonfatal hx { s with err := { s.err with current := some x, resumed := false } }
  unfold present
  rw [hj]

theorem KeptBut.arrive {x : ErrEntry} (h : KeptBut offs s t) (hx : errSev x.err ≠ .fatal) (hoffs : errRegs ⊆ offs) :
    KeptBut offs s (arrive x t).1 := by
  unfold Machine.arrive
  split
  · exact h.of_regs (regs_present_of_nonfatal hx t)
  · split
    · exact h.of_regs rfl
    · rw [if_neg (by simp [hx])]
      split
      · exact h.of_regs (regs_present_of_nonfatal hx _)
      · unfold fifoAppend
        refine .ite (h.of_regs rfl) ((h.setBit ?_).cntAdd ?_)
        · exact hoffs (by decide)
        · exact hoffs (by decide)

theorem KeptBut.arriveOvf {x : ErrEntry} (h : KeptBut offs s t) (hx : errSev x.err ≠ .fatal) (hoffs : errRegs ⊆ offs) :
    KeptBut offs s (arriveOvf x t) := by
  have first := h.arrive hx hoffs
  unfold Machine.arriveOvf
  split
  next u heq =>
    rw [heq] at first
    exact first
  next u heq =>
    rw [heq] at first
    exact .ite first (first.arrive (show errSev .errOvf ≠ .fatal by decide) hoffs)

/-- Raising an error that is not fatal writes its status bit, and the FIFO's count and flag. -/
theorem KeptBut.raise {src : Nat} (h : KeptBut offs s t) (he : errSev e ≠ .fatal) (hoffs : errRegs ⊆ offs)
    (htie : ∀ f, errTie e src = some f → f.off ∈ offs) : KeptBut offs s (raise e src t) := by
  unfold Machine.raise
  dsimp only
  cases hf : errTie e src with
  | none => exact h.arriveOvf he hoffs
  | some f =>
    have hset := h.setBit (i := if f.hi = f.lo then 0 else src) (htie f hf)
    exact .ite hset (hset.arriveOvf he hoffs)

/-- An untied error that is not fatal is presented where none is current. -/
theorem current_raise_of_none {src : Nat} (hcur : s.err.current = none) (he : errSev e ≠ .fatal) (htie : errTie e src = none) :
    (raise e src s).err.current.map (fun x => x.err) = some e := by
  unfold raise
  dsimp only
  rw [htie]
  unfold arriveOvf arrive
  rw [hcur]
  dsimp only
  rw [current_present_of_nonfatal he]
  rfl

end Sys2Proof.Machine
end

section
/-! SUPPORT. A write of TSU_TBn_CFG (R18, R244, R245): what the new start of a time base sets and leaves alone (O20). -/

namespace Sys2Proof.Machine

variable {offs : List Nat} {s t u : State} {n : Nat} {v : Word}

/-- Of the state, only registers, time, error engine and journal may differ. -/
def TimeLogsOnly (s t : State) : Prop := t = { s with regs := t.regs, time := t.time, jnl := t.jnl, err := t.err }

theorem TimeLogsOnly.trans (a : TimeLogsOnly s t) (b : TimeLogsOnly t u) : TimeLogsOnly s u := by
  unfold TimeLogsOnly at a b ⊢
  rw [b, a]

theorem LogsOnly.timeLogsOnly (h : LogsOnly s t) : TimeLogsOnly s t := by
  obtain ⟨r, e, j, rfl⟩ := h
  rfl

theorem TimeLogsOnly.refl (s : State) : TimeLogsOnly s s := rfl

theorem TimeLogsOnly.setF {f : Fld} {v : Nat} (h : TimeLogsOnly s t) : TimeLogsOnly s (setF t f v) :=
  h.trans (logsOnly_setF t f v).timeLogsOnly

theorem TimeLogsOnly.withTime (m : TimeState) (h : TimeLogsOnly s t) : TimeLogsOnly s { t with time := m } := h.trans rfl

theorem TimeLogsOnly.tbMod {f : TimeBase → TimeBase} (h : TimeLogsOnly s t) : TimeLogsOnly s (tbMod n f t) := h.withTime _

theorem TimeLogsOnly.ite {p : Prop} [Decidable p] (h : TimeLogsOnly s t) (h' : TimeLogsOnly s u) :
    TimeLogsOnly s (if p then t else u) := by
  split
  · exact h
  · exact h'

theorem TimeLogsOnly.mem (h : TimeLogsOnly s t) : t.mem = s.mem := by
  rw [h]

theorem LogsOnly.time (h : LogsOnly s t) : t.time = s.time := by
  obtain ⟨r, e, j, rfl⟩ := h
  rfl

theorem tbOf_of_time (h : t.time = s.time) (m : Nat) : tbOf t m = tbOf s m := by
  unfold tbOf
  rw [h]

theorem tbOf_setF (s : State) (f : Fld) (v m : Nat) : tbOf (setF s f v) m = tbOf s m := rfl

theorem tbOf_tbMod (n : Nat) (f : TimeBase → TimeBase) (s : State) (m : Nat) :
    tbOf (tbMod n f s) m = if m = n then f (tbOf s n) else tbOf s m := aGet_aSet _ _ _ _ _

/-- The registers that the new start of a time base may write. -/
def tbStartRegs : List Nat := [R.TSU_ML_STATE, R.TSU_STAT] ++ (List.range 4).map R.TSU_TB_STATE ++ errRegs

theorem tbState_mem_tbStartRegs (h : n < 4) : R.TSU_TB_STATE n ∈ tbStartRegs :=
  List.mem_append_left _ (List.mem_append_right _ (List.mem_map_of_mem (List.mem_range.mpr h)))

theorem logsOnly_judgeConflicts (n : Nat) (s : State) : LogsOnly s (judgeConflicts n s) := by
  have clear : ∀ (u : State) (m : Nat),
      LogsOnly u (if m ≠ n ∧ getF u (F.TSU_TB_STATE_CONFLICT m) = 1 ∧ !ptpConflict u m then
        setF u (F.TSU_TB_STATE_CONFLICT m) 0 else u) := by
    intro u m
    split
    · exact logsOnly_setF u _ _
    · exact .refl u
  have cleared := (logsOnly_setF s (F.TSU_TB_STATE_CONFLICT n) 0).trans (logsOnly_foldl _ clear (List.range 4) _)
  unfold judgeConflicts
  dsimp only
  split
  · exact (cleared.trans (logsOnly_setF _ _ _)).trans (logsOnly_raise _ _ _)
  · exact cleared

theorem KeptBut.judgeConflicts (hn : n < 4) (h : KeptBut tbStartRegs s t) : KeptBut tbStartRegs s (judgeConflicts n t) := by
  have cleared := (h.setF (f := F.TSU_TB_STATE_CONFLICT n) (v := 0) (tbState_mem_tbStartRegs hn)).forNat (n := 4)
    (f := fun m u => if m ≠ n ∧ Machine.getF u (F.TSU_TB_STATE_CONFLICT m) = 1 ∧ !ptpConflict u m then
        Machine.setF u (F.TSU_TB_STATE_CONFLICT m) 0 else u)
    (fun m hm u hu => .ite (hu.setF (tbState_mem_tbStartRegs hm)) hu)
  unfold Machine.judgeConflicts
  refine .ite ((cleared.setF (tbState_mem_tbStartRegs hn)).raise (by decide) (by decide) ?_) cleared
  rintro f ⟨⟩
  decide

/-- What the entry into a state does to the registers of the time base and to PPS_OUT. -/
def enterState (n st : Nat) (s : State) : State :=
  let s := setF s (F.TSU_TB_STATE_STATE n) st
  let s := if st = 3 then setF s (F.TSU_TB_STATE_HOLD n) 0 else s
  if st ≠ 0 ∧ st ≠ 2 ∧ n = getF s F.TSU_CFG_PPS_TB then { s with time := { s.time with ppsHigh := none } } else s

/-- What the media loop does when the time base it follows enters a state. -/
def mediaLoopFollows (n st : Nat) (s : State) : State :=
  if n = followTb s ∧ getF s F.TSU_ML_STATE_STATE ≠ 0 then
    if st = 3 then setF s F.TSU_ML_STATE_STATE 2
    else if st = 4 then setF { s with time := { s.time with mlGood := 0 } } F.TSU_ML_STATE_STATE 3
    else s
  else s

theorem tbEnter_eq (n st : Nat) (s : State) :
    tbEnter n st s = mediaLoopFollows n st (tbMod n (fun t => { t with
      inWindow := 0, beyond := 0, holdCycles := if st = 3 then 0 else t.holdCycles }) (enterState n st s)) := rfl

theorem tbOf_enterState (n st : Nat) (s : State) (m : Nat) : tbOf (enterState n st s) m = tbOf s m := by
  have hold : ∀ u, tbOf (if st = 3 then setF u (F.TSU_TB_STATE_HOLD n) 0 else u) m = tbOf u m := by
    intro u
    split
    · exact tbOf_setF _ _ _ _
    · rfl
  have pps : ∀ (p : Prop) [Decidable p] (u : State),
      tbOf (if p then { u with time := { u.time with ppsHigh := none } } else u) m = tbOf u m := by
    intro p _ u
    split <;> rfl
  unfold enterState
  exact ((pps _ _).trans (hold _)).trans (tbOf_setF _ _ _ _)

theorem tbOf_mediaLoopFollows (n st : Nat) (s : State) (m : Nat) : tbOf (mediaLoopFollows n st s) m = tbOf s m := by
  unfold mediaLoopFollows
  split_ifs
  · exact tbOf_setF _ _ _ _
  · exact tbOf_setF _ _ _ _
  · rfl
  · rfl

theorem tbOf_tbEnter (n st : Nat) (s : State) (m : Nat) :
    tbOf (tbEnter n st s) m = if m = n then { tbOf s n with
      inWindow := 0, beyond := 0, holdCycles := if st = 3 then 0 else (tbOf s n).holdCycles } else tbOf s m := by
  rw [tbEnter_eq, tbOf_mediaLoopFollows, tbOf_tbMod, tbOf_enterState, tbOf_enterState]

theorem timeLogsOnly_tbEnter (n st : Nat) (s : State) : TimeLogsOnly s (tbEnter n st s) := by
  have entered : TimeLogsOnly s (enterState n st s) := by
    unfold enterState
    have set := (TimeLogsOnly.refl s).setF (f := F.TSU_TB_STATE_STATE n) (v := st)
    have held := TimeLogsOnly.ite (p := st = 3) (set.setF (f := F.TSU_TB_STATE_HOLD n) (v := 0)) set
    exact .ite (held.withTime _) held
  have follows : ∀ u, TimeLogsOnly s u → TimeLogsOnly s (mediaLoopFollows n st u) :=
    fun u hu => .ite (.ite hu.setF (.ite (hu.withTime _).setF hu)) hu
  exact follows _ entered.tbMod

/-- But for HOLDOVER, the entry into a state writes TSU_ML_STATE at most besides the field of the state. -/
theorem keptBut_tbEnter {st : Nat} (h3 : st ≠ 3) (s : State) :
    KeptBut [R.TSU_ML_STATE] (setF s (F.TSU_TB_STATE_STATE n) st) (tbEnter n st s) := by
  have entered : (enterState n st s).regs = (setF s (F.TSU_TB_STATE_STATE n) st).regs := by
    unfold enterState
    dsimp only
    rw [if_neg h3]
    split <;> rfl
  have follows : ∀ u, KeptBut [R.TSU_ML_STATE] (setF s (F.TSU_TB_STATE_STATE n) st) u →
      KeptBut [R.TSU_ML_STATE] (setF s (F.TSU_TB_STATE_STATE n) st) (mediaLoopFollows n st u) := by
    intro u hu
    have ml : F.TSU_ML_STATE_STATE.off ∈ [R.TSU_ML_STATE] := List.mem_singleton_self _
    exact .ite (.ite (hu.setF ml) (.ite ((hu.of_regs rfl).setF ml) hu)) hu
  rw [tbEnter_eq]
  exact follows _ (((KeptBut.refl _ _).of_regs entered).of_regs rfl)

theorem tbState_tbEnter {st : Nat} (hn : n < 4) (h3 : st ≠ 3) (h8 : st < 8) (s : State) : tbState (tbEnter n st s) n = st := by
  have hml : ∀ m < 4, (F.TSU_TB_STATE_STATE m).off ∉ [R.TSU_ML_STATE] := by decide
  unfold tbState
  rw [(keptBut_tbEnter h3 s).getF (hml n hn), getF_setF_self s _ st (show 29 ≤ 31 by decide) (show 31 < 32 by decide)]
  exact Nat.mod_eq_of_lt h8

/-- A time base that forgets its reference. -/
def forgetReference (t : TimeBase) : TimeBase :=
  { t with lastAccepted := none, rejects := 0, lost := false, goodStart := none, fadjHist := [], integ := ⟨0, 1⟩ }

/-- The new start of a time base under its present configuration, but for the state it enters. -/
def tbForget (n : Nat) (s : State) : State :=
  judgeConflicts n (setF (tbMod n forgetReference s) (F.TSU_TB_STATE_ROLE n) 0)

/-- The new start of a time base under its present configuration. -/
def tbRestart (n : Nat) (s : State) : State :=
  tbEnter n (if getF (tbForget n s) (F.TSU_TB_CFG_SRC n) = 0 then 0 else 1) (tbForget n s)

theorem tbOf_tbForget (n : Nat) (s : State) (m : Nat) :
    tbOf (tbForget n s) m = if m = n then forgetReference (tbOf s n) else tbOf s m := by
  unfold tbForget
  rw [tbOf_of_time (logsOnly_judgeConflicts n _).time, tbOf_setF, tbOf_tbMod]

theorem timeLogsOnly_tbForget (n : Nat) (s : State) : TimeLogsOnly s (tbForget n s) := by
  have reset : TimeLogsOnly s (setF (tbMod n forgetReference s) (F.TSU_TB_STATE_ROLE n) 0) := (TimeLogsOnly.refl s).tbMod.setF
  unfold tbForget
  exact reset.trans (logsOnly_judgeConflicts n _).timeLogsOnly

theorem keptBut_tbForget (hn : n < 4) (s : State) : KeptBut tbStartRegs s (tbForget n s) :=
  (((KeptBut.refl _ s).of_regs rfl).setF (tbState_mem_tbStartRegs hn)).judgeConflicts hn

theorem time_tbRestart (n : Nat) (s : State) (m : Nat) : (tbOf (tbRestart n s) m).time = (tbOf s m).time := by
  unfold tbRestart
  rw [tbOf_tbEnter, tbOf_tbForget, tbOf_tbForget]
  by_cases h : m = n
  · subst h
    simp [forgetReference]
  · simp [h]

theorem lastAccepted_tbRestart (n : Nat) (s : State) : (tbOf (tbRestart n s) n).lastAccepted = none := by
  unfold tbRestart
  rw [tbOf_tbEnter, tbOf_tbForget]
  simp [forgetReference]

theorem tbState_tbRestart (hn : n < 4) (s : State) :
    tbState (tbRestart n s) n = if getF s (F.TSU_TB_CFG_SRC n) = 0 then 0 else 1 := by
  have hcfg : ∀ m < 4, (F.TSU_TB_CFG_SRC m).off ∉ tbStartRegs := by decide
  unfold tbRestart
  rw [(keptBut_tbForget hn s).getF (hcfg n hn)]
  split
  · exact tbState_tbEnter hn (by decide) (by decide) _
  · exact tbState_tbEnter hn (by decide) (by decide) _

theorem keptBut_tbRestart (hn : n < 4) (s : State) : KeptBut tbStartRegs s (tbRestart n s) := by
  have h3 : (if getF (tbForget n s) (F.TSU_TB_CFG_SRC n) = 0 then 0 else 1) ≠ 3 := by split <;> decide
  have entered := keptBut_tbEnter (n := n) h3 (tbForget n s)
  exact ((keptBut_tbForget hn s).setF (tbState_mem_tbStartRegs hn)).trans (entered.mono (by decide))

theorem timeLogsOnly_tbRestart (n : Nat) (s : State) : TimeLogsOnly s (tbRestart n s) :=
  (timeLogsOnly_tbForget n s).trans (timeLogsOnly_tbEnter n _ _)

/-- The fields of a configuration word that decide whether a time base starts anew. -/
def tbKey (s : State) (n : Nat) : Nat × Nat × Nat :=
  (getF s (F.TSU_TB_CFG_SRC n), getF s (F.TSU_TB_CFG_PORT n), getF s (F.TSU_TB_CFG_WRATE n))

theorem tbCfgApply_eq (n : Nat) (v : Word) (s : State) :
    tbCfgApply n v s = if tbKey (wr s (R.TSU_TB_CFG n) (v &&& 0xFFC07F00#32)) n = tbKey s n
      then wr s (R.TSU_TB_CFG n) (v &&& 0xFFC07F00#32) else tbRestart n (wr s (R.TSU_TB_CFG n) (v &&& 0xFFC07F00#32)) := rfl

theorem tbKey_wr (n : Nat) (v : Word) (s : State) :
    tbKey (wr s (R.TSU_TB_CFG n) (v &&& 0xFFC07F00#32)) n = (fget v 31 29, fget v 25 24, fget v 22 22) := by
  unfold tbKey getF F.TSU_TB_CFG_SRC F.TSU_TB_CFG_PORT F.TSU_TB_CFG_WRATE
  dsimp only
  rw [rd_wr_self, fget_and_of_allOnes (by decide), fget_and_of_allOnes (by decide), fget_and_of_allOnes (by decide)]

theorem tbCfgApply_of_same (h : (fget v 31 29, fget v 25 24, fget v 22 22) = tbKey s n) :
    tbCfgApply n v s = wr s (R.TSU_TB_CFG n) (v &&& 0xFFC07F00#32) := by
  rw [tbCfgApply_eq, tbKey_wr, if_pos h]

theorem tbCfgApply_of_changed (h : (fget v 31 29, fget v 25 24, fget v 22 22) ≠ tbKey s n) :
    tbCfgApply n v s = tbRestart n (wr s (R.TSU_TB_CFG n) (v &&& 0xFFC07F00#32)) := by
  rw [tbCfgApply_eq, tbKey_wr, if_neg h]

/-- The registers that decide what a configuration write does are not the journal's. -/
theorem running_journalReg (via : Src) (off : Nat) (v : Word) (s : State) : running (journalReg via off v s) = running s := by
  unfold running
  rw [(keptBut_journalReg via off v s).getF (by decide)]

theorem tbCfg_notMem_jnlRegs (n : Fin 4) : R.TSU_TB_CFG n.val ∉ jnlRegs := by
  revert n
  decide

theorem tbKey_journalReg (via : Src) (off : Nat) (v : Word) (s : State) (n : Fin 4) :
    tbKey (journalReg via off v s) n.val = tbKey s n.val := by
  have kept := keptBut_journalReg via off v s
  have hcfg := tbCfg_notMem_jnlRegs n
  unfold tbKey
  rw [kept.getF hcfg, kept.getF hcfg, kept.getF hcfg]

/-- A configuration write that is taken. -/
theorem tbCfgWrite_of_ok (hrun : running s = false) (hok : tbCfgOk v = true) (via : Src) (n : Nat) :
    tbCfgWrite via n v s = tbCfgApply n v (journalReg via (R.TSU_TB_CFG n) v s) := by
  unfold tbCfgWrite
  dsimp only
  rw [running_journalReg, hrun, hok]
  rfl

/-- The errors of a write refused while a Pattern runs, or out of range, are notices with no status bit. -/
theorem refusal_untied (b : Bool) :
    errSev (if b then .errRwlWrite else .errWriteIgnored) ≠ .fatal ∧
    errTie (if b then .errRwlWrite else .errWriteIgnored) 0 = none := by
  cases b <;> decide

/-- A configuration write that is refused raises one error. -/
theorem tbCfgWrite_of_refused (h : running s = true ∨ tbCfgOk v = false) (via : Src) (n : Nat) :
    tbCfgWrite via n v s =
      raise (if running s then .errRwlWrite else .errWriteIgnored) 0 (journalReg via (R.TSU_TB_CFG n) v s) := by
  unfold tbCfgWrite
  dsimp only
  rw [running_journalReg]
  cases hrun : running s with
  | true => rfl
  | false =>
    have hok : tbCfgOk v = false := h.resolve_left (by simp [hrun])
    rw [hok]
    rfl

theorem rd_tbCfg_tbCfgWrite (hrun : running s = false) (hok : tbCfgOk v = true) (via : Src) (n : Fin 4) :
    rd (tbCfgWrite via n.val v s) (R.TSU_TB_CFG n.val) = v &&& 0xFFC07F00#32 := by
  have hcfg : ∀ n : Fin 4, R.TSU_TB_CFG n.val ∉ tbStartRegs := by decide
  rw [tbCfgWrite_of_ok hrun hok, tbCfgApply_eq]
  split
  · exact rd_wr_self _ _ _
  · exact (keptBut_tbRestart n.isLt _ _ (hcfg n)).trans (rd_wr_self _ _ _)

/-- The registers a configuration write may change when the time base starts anew. -/
def tbCfgRegs (n : Nat) : List Nat :=
  [R.TSU_TB_CFG n, R.TSU_ML_STATE, R.TSU_STAT] ++ (List.range 4).map R.TSU_TB_STATE ++ logRegs

theorem frame_tbRestart (via : Src) (n : Fin 4) (v w : Word) (s : State) :
    let t := tbRestart n.val (wr (journalReg via (R.TSU_TB_CFG n.val) v s) (R.TSU_TB_CFG n.val) w)
    Frame (tbCfgRegs n.val) s t { s with regs := t.regs, time := t.time, jnl := t.jnl, err := t.err } := by
  have hjnl : jnlRegs ⊆ tbCfgRegs n.val := by
    revert n
    decide
  have hstart : tbStartRegs ⊆ tbCfgRegs n.val := by
    revert n
    decide
  have hcfg : R.TSU_TB_CFG n.val ∈ tbCfgRegs n.val := List.mem_cons_self
  have written := ((keptBut_journalReg via (R.TSU_TB_CFG n.val) v s).mono hjnl).wr (v := w) hcfg
  have stored := (logsOnly_journalReg via (R.TSU_TB_CFG n.val) v s).trans (logsOnly_wr _ (R.TSU_TB_CFG n.val) w)
  have parts := stored.timeLogsOnly.trans (timeLogsOnly_tbRestart n.val _)
  exact ⟨parts, written.trans ((keptBut_tbRestart n.isLt _).mono hstart), sameMem_of_mem parts.mem⟩

/-- Settles O20: the write stores the fields it names, and with another source, port or rate the time base starts anew. -/
theorem timeBaseConfigured : Obligations.TimeBaseConfigured := by
  unfold Obligations.TimeBaseConfigured
  refine ⟨?_, ?_, ?_⟩
  · intro via n v s hrun hok hkey
    have changed : (fget v 31 29, fget v 25 24, fget v 22 22) ≠ tbKey (journalReg via (R.TSU_TB_CFG n.val) v s) n.val := by
      rw [tbKey_journalReg]
      intro heq
      obtain ⟨hsrc, hrest⟩ := Prod.mk.inj heq
      obtain ⟨hport, hrate⟩ := Prod.mk.inj hrest
      obtain h | h | h := hkey
      · exact h hsrc
      · exact h hport
      · exact h hrate
    have hrd := rd_tbCfg_tbCfgWrite hrun hok via n
    refine ⟨_, rfl, hrd, ?_⟩
    rw [tbCfgWrite_of_ok hrun hok, tbCfgApply_of_changed changed]
    refine ⟨?_, lastAccepted_tbRestart _ _, fun m => ?_, frame_tbRestart via n v _ s⟩
    · rw [tbState_tbRestart n.isLt, (Prod.mk.inj (tbKey_wr n.val v _)).1]
    · rw [time_tbRestart]
      exact congrArg TimeBase.time (tbOf_of_time ((logsOnly_journalReg _ _ _ s).trans (logsOnly_wr _ _ _)).time m)
  · rintro via n v s hrun hok ⟨hsrc, hport, hrate⟩
    have same : (fget v 31 29, fget v 25 24, fget v 22 22) = tbKey (journalReg via (R.TSU_TB_CFG n.val) v s) n.val := by
      rw [tbKey_journalReg, hsrc, hport, hrate]
      rfl
    have hrd := rd_tbCfg_tbCfgWrite hrun hok via n
    refine ⟨_, rfl, hrd, ?_⟩
    rw [tbCfgWrite_of_ok hrun hok, tbCfgApply_of_same same]
    have kept := keptBut_journalReg via (R.TSU_TB_CFG n.val) v s
    obtain ⟨r, j, heq⟩ := journalReg_eq_with via (R.TSU_TB_CFG n.val) v s
    rw [heq] at kept ⊢
    exact ⟨rfl, (kept.mono (List.subset_cons_self _ _)).wr List.mem_cons_self, sameMem_of_mem rfl⟩
  · intro via n v s href
    obtain ⟨hsev, htie⟩ := refusal_untied (running s)
    have kept : KeptBut logRegs s (tbCfgWrite via n.val v s) := by
      rw [tbCfgWrite_of_refused href]
      refine ((keptBut_journalReg via _ v s).mono (by decide)).raise hsev (by decide) fun f hf => ?_
      rw [htie] at hf
      contradiction
    have parts : LogsOnly s (tbCfgWrite via n.val v s) := by
      rw [tbCfgWrite_of_refused href]
      exact (logsOnly_journalReg via _ v s).trans (logsOnly_raise _ _ _)
    have hcfg : ∀ n : Fin 4, R.TSU_TB_CFG n.val ∉ logRegs := by decide
    refine ⟨_, rfl, kept _ (hcfg n), fun hcur => ?_, ?_, kept, sameMem_of_mem parts.mem⟩
    · rw [tbCfgWrite_of_refused href]
      exact current_raise_of_none ((congrArg ErrState.current (err_journal _ _ _ _ _ s)).trans hcur) hsev htie
    · obtain ⟨r, e, j, heq⟩ := parts
      rw [heq]

end Sys2Proof.Machine
end

section
/-! SUPPORT. What a step does with a command waiting (O1). -/

namespace Sys2Proof.Machine

theorem State.pending_push (s : State) (c : Instr) : (s.push c).pending = c :: s.pending := rfl

theorem State.push_with_pending (s : State) (c : Instr) (rest : List Instr) :
    { s.push c with pending := rest } = { s with pending := rest } := rfl

theorem step_of_pending_cons {s : State} {c : Instr} {rest : List Instr} (h : s.pending = c :: rest) :
    step s = exec c { s with pending := rest } := by
  unfold step
  rw [h]

/-- Settles O1: the step takes the command put in front, and the queue's rest is the queue that stood before. -/
theorem stepRunsFrontCommand : Obligations.StepRunsFrontCommand := by
  unfold Obligations.StepRunsFrontCommand
  intro c s
  calc step (s.push c)
      = exec c { s.push c with pending := s.pending } := step_of_pending_cons (s.pending_push c)
    _ = exec c s := congrArg (exec c) (s.push_with_pending c s.pending)

end Sys2Proof.Machine
end

section
/-! SUPPORT. Reads of a low word that latch the rest (R47, R242, R407) (O10). -/

namespace Sys2Proof.Machine

/-- A read that answers w and latches hi in the register at off. -/
theorem read_latching (s : State) (off hi w : Nat) :
    let t : State := { latch s off hi with rdata := BitVec.ofNat 32 w }
    t.rdata.toNat = w % 2 ^ 32 ∧ rdN t off = hi % 2 ^ 32 ∧
      Frame [off] s t { s with regs := t.regs, rdata := t.rdata } :=
  ⟨BitVec.toNat_ofNat _ _, rdN_wrN_self s off hi, rfl,
    ((KeptBut.refl _ s).wr (List.mem_singleton_self off)).of_regs rfl, sameMem_of_mem rfl⟩

/-- In the seconds view a time shows the seconds, nanoseconds and fraction it is composed of. -/
theorem viewTime_seconds {sec ns fr : Nat} (hns : ns < 1000000000) (hfr : fr < 2 ^ 16) (hsec : sec < 2 ^ 48) :
    viewTime false (((sec : Int) * 1000000000 + ns) * nsUnit + (fr : Int) * 2 ^ 32) =
      (ns, fr, sec % 2 ^ 32, sec / 2 ^ 32) := by
  have hwhole : ((((sec : Int) * 1000000000 + ns) * nsUnit + (fr : Int) * 2 ^ 32) / nsUnit).toNat = sec * 1000000000 + ns := by
    unfold nsUnit
    omega
  have hfrac : (((((sec : Int) * 1000000000 + ns) * nsUnit + (fr : Int) * 2 ^ 32) % nsUnit) / 2 ^ 32).toNat = fr := by
    unfold nsUnit
    omega
  unfold viewTime
  rw [hwhole, hfrac]
  simp only [Bool.false_eq_true, if_false, Prod.mk.injEq, true_and]
  omega

/-- Settles O10: each read answers the low word and writes the latches it names. -/
theorem lowWordReadsLatchHighWord : Obligations.LowWordReadsLatchHighWord := by
  unfold Obligations.LowWordReadsLatchHighWord
  refine ⟨?_, ?_, ?_⟩
  · exact fun s => ⟨_, rfl, read_latching s _ _ _⟩
  · exact fun s => ⟨_, rfl, read_latching s _ _ _⟩
  · rintro n s sec ns fr hfmt ⟨hns, hfr, hsec⟩ hnow
    have hview : viewTime (getF s (F.TSU_TB_CFG_FMT n.val) == 1) (tbNow s n.val) = (ns, fr, sec % 2 ^ 32, sec / 2 ^ 32) := by
      rw [hfmt, hnow]
      exact viewTime_seconds hns hfr hsec
    have hsf : R.TSU_TB_FRAC n.val ≠ R.TSU_TB_SLO n.val := by unfold R.TSU_TB_FRAC R.TSU_TB_SLO; omega
    have hhf : R.TSU_TB_FRAC n.val ≠ R.TSU_TB_SHI n.val := by unfold R.TSU_TB_FRAC R.TSU_TB_SHI; omega
    have hhs : R.TSU_TB_SLO n.val ≠ R.TSU_TB_SHI n.val := by unfold R.TSU_TB_SLO R.TSU_TB_SHI; omega
    have hread : tbNsRead n.val s = { latch (latch (latch s (R.TSU_TB_FRAC n.val) fr) (R.TSU_TB_SLO n.val) (sec % 2 ^ 32))
        (R.TSU_TB_SHI n.val) (sec / 2 ^ 32) with rdata := BitVec.ofNat 32 ns } := by
      unfold tbNsRead
      rw [hview]
    refine ⟨tbNsRead n.val s, rfl, ?_⟩
    rw [hread]
    refine ⟨?_, ?_, ?_, ?_, rfl, ?_, sameMem_of_mem rfl⟩
    · exact (BitVec.toNat_ofNat _ _).trans (Nat.mod_eq_of_lt (by omega))
    · refine (congrArg BitVec.toNat ((rd_wr_of_ne _ _ hhf).trans (rd_wr_of_ne _ _ hsf))).trans ?_
      exact (rdN_wrN_self _ _ _).trans (Nat.mod_eq_of_lt (by omega))
    · refine (congrArg BitVec.toNat (rd_wr_of_ne _ _ hhs)).trans ?_
      exact (rdN_wrN_self _ _ _).trans (Nat.mod_mod _ _)
    · exact (rdN_wrN_self _ _ _).trans (Nat.mod_eq_of_lt (by omega))
    · exact ((((KeptBut.refl _ s).wr (by simp)).wr (by simp)).wr (by simp)).of_regs rfl

end Sys2Proof.Machine
end

section
/-! SUPPORT. What reset leaves (R47, R89, R405, R417, R444, R464) (O6). -/

namespace Sys2Proof.Machine

/-- After reset no register has been written: each reads as its table gives it. -/
theorem rd_reset (off : Nat) : rd State.reset off = regReset off := rfl

theorem rdByte_reset (a : Nat) : rdByte State.reset a = memDefault a := rfl

theorem running_reset : running State.reset = false := by
  unfold running getF
  rw [rd_reset]
  decide

theorem isPair_reset : isPair State.reset = false := by
  unfold isPair getF
  rw [rd_reset]
  decide

/-- The start-up test holds FAULT_N low from reset on (R410). -/
theorem faultNLow_reset : faultNLow State.reset = true := by
  have hold : State.reset.err.startupHold = true := rfl
  unfold faultNLow
  rw [hold, Bool.or_true]

/-- Settles O6: reset writes no register and no byte, and every other part is empty. -/
theorem resetValuesOfSpec : Obligations.ResetValuesOfSpec := by
  unfold Obligations.ResetValuesOfSpec
  have hcfg : regReset R.ERR_CFG = 0x00640025#32 := by decide
  have hjnl : regReset R.JNL_CFG = 0x03C30000#32 := by decide
  exact ⟨hcfg, hjnl, rd_reset, rdByte_reset, rfl, rfl, running_reset, rfl, faultNLow_reset, rfl, rfl, isPair_reset, rfl⟩

end Sys2Proof.Machine
end

section
/-! SUPPORT. Fields apart from one another: a write of one leaves the other, in the same register or in another (R17). -/

namespace Sys2Proof

/-- Bits below the n-th are those of the number cut to n bits. -/
theorem bits_mod_two_pow (x : Nat) {hi n : Nat} (lo : Nat) (h : hi < n) : bits (x % 2 ^ n) hi lo = bits x hi lo := by
  unfold bits
  obtain hlt | hle := Nat.lt_or_ge hi lo
  · rw [show hi + 1 - lo = 0 by omega, Nat.pow_zero, Nat.mod_one, Nat.mod_one]
  · have e : 2 ^ n = 2 ^ lo * (2 ^ (hi + 1 - lo) * 2 ^ (n - (hi + 1))) := by
      rw [← Nat.mul_assoc, pow_mul_pow_sub 2 (by omega), pow_mul_pow_sub 2 (by omega)]
    rw [e, Nat.mod_mul_right_div_self, Nat.mod_mul_right_mod]

/-- Bits above a field do not see it. -/
theorem bits_putBits_above (w : Nat) {hi lo hi' lo' : Nat} (v : Nat) (hlo : lo ≤ hi) (h : hi < lo') :
    bits (putBits w hi lo v) hi' lo' = bits w hi' lo' := by
  have field : v % 2 ^ (hi + 1 - lo) * 2 ^ lo + w % 2 ^ lo < 2 ^ (hi + 1) := by
    have hv := Nat.mod_lt v (Nat.two_pow_pos (hi + 1 - lo))
    have hw := Nat.mod_lt w (Nat.two_pow_pos lo)
    calc v % 2 ^ (hi + 1 - lo) * 2 ^ lo + w % 2 ^ lo
        < v % 2 ^ (hi + 1 - lo) * 2 ^ lo + 2 ^ lo := by omega
      _ = (v % 2 ^ (hi + 1 - lo) + 1) * 2 ^ lo := by ring
      _ ≤ 2 ^ (hi + 1 - lo) * 2 ^ lo := Nat.mul_le_mul_right _ hv
      _ = 2 ^ (hi + 1) := pow_sub_mul_pow 2 (by omega)
  have upper : putBits w hi lo v / 2 ^ (hi + 1) = w / 2 ^ (hi + 1) := by
    unfold putBits
    rw [Nat.add_assoc, Nat.mul_comm, Nat.mul_add_div (Nat.two_pow_pos _), Nat.div_eq_of_lt field, Nat.add_zero]
  have split : 2 ^ lo' = 2 ^ (hi + 1) * 2 ^ (lo' - (hi + 1)) := (pow_mul_pow_sub 2 h).symm
  unfold bits
  rw [split, ← Nat.div_div_eq_div_mul, ← Nat.div_div_eq_div_mul, upper]

/-- Bits below a field do not see it. -/
theorem bits_putBits_below (w : Nat) {hi lo hi' : Nat} (lo' v : Nat) (hlo : lo ≤ hi) (h : hi' < lo) :
    bits (putBits w hi lo v) hi' lo' = bits w hi' lo' := by
  have lower : putBits w hi lo v % 2 ^ lo = w % 2 ^ lo := by
    have e : 2 ^ (hi + 1) = 2 ^ lo * 2 ^ (hi + 1 - lo) := (pow_mul_pow_sub 2 (by omega)).symm
    unfold putBits
    generalize w / 2 ^ (hi + 1) = q
    generalize v % 2 ^ (hi + 1 - lo) = x
    rw [e, show q * (2 ^ lo * 2 ^ (hi + 1 - lo)) + x * 2 ^ lo + w % 2 ^ lo =
      w % 2 ^ lo + 2 ^ lo * (q * 2 ^ (hi + 1 - lo) + x) by ring, Nat.add_mul_mod_self_left, Nat.mod_mod]
  rw [← bits_mod_two_pow _ lo' h, lower, bits_mod_two_pow _ lo' h]

theorem fget_fput_of_disjoint (w : Word) {hi lo hi' lo' : Nat} (v : Nat) (hlo : lo ≤ hi) (h32 : hi' < 32)
    (h : hi < lo' ∨ hi' < lo) : fget (fput w hi lo v) hi' lo' = fget w hi' lo' := by
  unfold fget fput
  rw [BitVec.toNat_ofNat, bits_mod_two_pow _ _ h32]
  obtain above | below := h
  · exact bits_putBits_above _ _ hlo above
  · exact bits_putBits_below _ _ _ hlo below

namespace Machine

/-- The field g lies in another register than f, or in other bits of it. -/
abbrev Apart (f g : Fld) : Prop := g.off ≠ f.off ∨ f.lo ≤ f.hi ∧ g.hi < 32 ∧ (f.hi < g.lo ∨ g.hi < f.lo)

theorem getF_setF_of_apart (s : State) {f g : Fld} (v : Nat) (h : Apart f g) : getF (setF s f v) g = getF s g := by
  obtain hne | ⟨hlo, h32, hdis⟩ := h
  · exact getF_setF_of_ne s f g v hne
  · by_cases hoff : g.off = f.off
    · unfold getF setF
      rw [hoff, rd_wr_self]
      exact fget_fput_of_disjoint _ v hlo h32 hdis
    · exact getF_setF_of_ne s f g v hoff

/-- A field holds any value that fits it. -/
theorem getF_setF_of_lt (s : State) (f : Fld) {v : Nat} (h : f.lo ≤ f.hi ∧ f.hi < 32) (hv : v < 2 ^ (f.hi + 1 - f.lo)) :
    getF (setF s f v) f = v :=
  (getF_setF_self s f v h.1 h.2).trans (Nat.mod_eq_of_lt hv)

theorem getF_lt (s : State) (f : Fld) : getF s f < 2 ^ (f.hi + 1 - f.lo) := Nat.mod_lt _ (Nat.two_pow_pos _)

theorem stBit_setBit (s : State) (f : Fld) (i : Nat) (h : f.lo + i < 32) : stBit (setBit s f i) f i = 1 :=
  getF_setF_of_lt s ⟨f.off, f.lo + i, f.lo + i⟩ ⟨Nat.le_refl _, h⟩ (by simp)

/-- Of the state, only registers may differ. -/
def RegsOnly (s t : State) : Prop := ∃ r, t = { s with regs := r }

variable {s t : State}

theorem RegsOnly.refl (s : State) : RegsOnly s s := ⟨s.regs, rfl⟩

theorem RegsOnly.wr {o : Nat} {v : Word} (h : RegsOnly s t) : RegsOnly s (wr t o v) := by
  obtain ⟨r, rfl⟩ := h
  exact ⟨_, rfl⟩

theorem RegsOnly.setF {f : Fld} {v : Nat} (h : RegsOnly s t) : RegsOnly s (setF t f v) := h.wr

theorem RegsOnly.setBit {f : Fld} {i : Nat} (h : RegsOnly s t) : RegsOnly s (setBit t f i) := h.setF

theorem RegsOnly.sameMem (h : RegsOnly s t) : SameMem s t := by
  obtain ⟨r, rfl⟩ := h
  exact sameMem_of_mem rfl

theorem RegsOnly.frame {offs : List Nat} (h : RegsOnly s t) (kept : KeptBut offs s t) :
    Frame offs s t { s with regs := t.regs } := by
  refine ⟨?_, kept, h.sameMem⟩
  obtain ⟨r, rfl⟩ := h
  rfl

theorem RegsOnly.ite {p : Prop} [Decidable p] {u : State} (h : RegsOnly s t) (h' : RegsOnly s u) :
    RegsOnly s (if p then t else u) := by
  split
  · exact h
  · exact h'

end Machine

end Sys2Proof
end

section
/-! SUPPORT. Effects that leave the media count where it stands: the frames played out and the stamp of the last strobe move with
it, in the media clock's own steps alone (R45, R47).  One lemma for each function of the block strobe, in the order of the model's
files; `h.f.g` reads "f, then g".  `CountKept.netEffect` and `CountKept.apdLaneEffect` put the function's body in place of its name as
one lambda term, as `kept_netEffect` does. -/

namespace Sys2Proof.Machine

/-- The counted MSI, the frames played out and the stamp of the strobe stand as they stood in s. -/
structure CountKept (s t : State) : Prop where
  msi : t.msi = s.msi
  frames : t.time.frames = s.time.frames
  ref : t.time.ref = s.time.ref

variable {s₀ s t : State}

theorem CountKept.refl (s : State) : CountKept s s := ⟨rfl, rfl, rfl⟩

/-- Any part of the state but the count and the time may change. -/
theorem CountKept.upd {regs live mem err jnl pat seq bst asc geo rte flt rnd str apd pdm cap dac pwr fab net intake flk clm hier}
    {rdata freeCtr pending} (h : CountKept s₀ s) :
    CountKept s₀ { s with regs := regs, live := live, mem := mem, err := err, jnl := jnl, pat := pat, seq := seq, bst := bst,
                          asc := asc, geo := geo, rte := rte, flt := flt, rnd := rnd, str := str, apd := apd, pdm := pdm,
                          cap := cap, dac := dac, pwr := pwr, fab := fab, net := net, intake := intake, flk := flk,
                          clm := clm, hier := hier, rdata := rdata, freeCtr := freeCtr, pending := pending } :=
  ⟨h.msi, h.frames, h.ref⟩

/-- Any part of the time may change but the frames and the stamp. -/
theorem CountKept.updTime {e since tb pins excess mlGood ppsHigh} (h : CountKept s₀ s) :
    CountKept s₀ { s with time := { s.time with e := e, since := since, tb := tb, pins := pins, excess := excess,
                                                mlGood := mlGood, ppsHigh := ppsHigh } } :=
  ⟨h.msi, h.frames, h.ref⟩

theorem CountKept.ite {c : Prop} [Decidable c] (hs : CountKept s₀ s) (ht : CountKept s₀ t) :
    CountKept s₀ (if c then s else t) := by
  split
  · exact hs
  · exact ht

theorem CountKept.ite_fst {α} {c : Prop} [Decidable c] {x y : State × α} (hx : CountKept s₀ x.1) (hy : CountKept s₀ y.1) :
    CountKept s₀ (if c then x else y).1 := by
  split
  · exact hx
  · exact hy

theorem CountKept.ite_snd {α} {c : Prop} [Decidable c] {x y : α × State} (hx : CountKept s₀ x.2) (hy : CountKept s₀ y.2) :
    CountKept s₀ (if c then x else y).2 := by
  split
  · exact hx
  · exact hy

theorem CountKept.foldl {α} {f : State → α → State} (h : CountKept s₀ s)
    (hf : ∀ x a, CountKept s₀ x → CountKept s₀ (f x a)) (l : List α) :
    CountKept s₀ (l.foldl f s) :=
  List.foldlRecOn l f h (fun x hx a _ => hf x a hx)

theorem CountKept.foldl_fst {α β} {f : State × β → α → State × β} {x : State × β} (h : CountKept s₀ x.1)
    (hf : ∀ x a, CountKept s₀ x.1 → CountKept s₀ (f x a).1) (l : List α) :
    CountKept s₀ (l.foldl f x).1 :=
  List.foldlRecOn l f (motive := fun x => CountKept s₀ x.1) h (fun x hx a _ => hf x a hx)

theorem CountKept.fst {α} {x : State × α} {a : α} (h : CountKept s₀ x.1) (e : x = (t, a)) : CountKept s₀ t := by
  subst e
  exact h

theorem CountKept.snd {α} {x : α × State} {a : α} (h : CountKept s₀ x.2) (e : x = (a, t)) : CountKept s₀ t := by
  subst e
  exact h

theorem CountKept.forNat {n : Nat} {f : Nat → State → State} (h : CountKept s₀ s)
    (hf : ∀ i x, CountKept s₀ x → CountKept s₀ (f i x)) :
    CountKept s₀ (forNat n f s) :=
  .foldl h (fun x i => hf i x) _

theorem CountKept.forEach {α} {l : List α} {f : α → State → State} (h : CountKept s₀ s)
    (hf : ∀ a x, CountKept s₀ x → CountKept s₀ (f a x)) :
    CountKept s₀ (forEach l f s) :=
  .foldl h (fun x a => hf a x) _

theorem CountKept.when {c : Bool} {f : State → State} (h : CountKept s₀ s)
    (hf : ∀ x, CountKept s₀ x → CountKept s₀ (f x)) :
    CountKept s₀ (when c f s) :=
  .ite (hf s h) h

theorem CountKept.logs (h : CountKept s₀ s) (l : LogsOnly s t) : CountKept s₀ t := by
  obtain ⟨r, e, j, rfl⟩ := l
  exact h.upd

/-! ### Registers, memory and free values -/

theorem CountKept.wr {off v} (h : CountKept s₀ s) : CountKept s₀ (wr s off v) := h.upd

theorem CountKept.wrN {off v} (h : CountKept s₀ s) : CountKept s₀ (wrN s off v) := h.wr

theorem CountKept.wrByte {a v} (h : CountKept s₀ s) : CountKept s₀ (wrByte s a v) := h.upd

theorem CountKept.setF {f v} (h : CountKept s₀ s) : CountKept s₀ (setF s f v) := h.wr

theorem CountKept.wr64 {lo hi v} (h : CountKept s₀ s) : CountKept s₀ (wr64 s lo hi v) := h.wrN.wrN

theorem CountKept.cntAdd {off n} (h : CountKept s₀ s) : CountKept s₀ (cntAdd s off n) := h.wrN

theorem CountKept.cnt {off} (h : CountKept s₀ s) : CountKept s₀ (cnt s off) := h.cntAdd

theorem CountKept.setBit {f i} (h : CountKept s₀ s) : CountKept s₀ (setBit s f i) := h.setF

theorem CountKept.freeNat {w} (h : CountKept s₀ s) : CountKept s₀ (freeNat s w).2 := h.upd

theorem CountKept.wrBytes {a bs} (h : CountKept s₀ s) : CountKept s₀ (wrBytes s a bs) := by
  induction bs generalizing s a with
  | nil => exact h
  | cons b bs ih => exact ih h.wrByte

theorem CountKept.wrWord72 {base i w} (h : CountKept s₀ s) : CountKept s₀ (wrWord72 s base i w) := h.wrBytes

/-! ### The error engine and the journal -/

theorem CountKept.raise {e src} (h : CountKept s₀ s) : CountKept s₀ (raise e src s) := h.logs (logsOnly_raise e src s)

theorem CountKept.journal {src kind addr value msi} (h : CountKept s₀ s) : CountKept s₀ (journal src kind addr value msi s) :=
  h.logs (logsOnly_journal src kind addr value msi s)

theorem CountKept.journalReg {via off v} (h : CountKept s₀ s) : CountKept s₀ (journalReg via off v s) := h.journal

theorem CountKept.present {e} (h : CountKept s₀ s) : CountKept s₀ (present e s) := h.upd.logs (logsOnly_onPresent e _)

theorem CountKept.writeIgnored (h : CountKept s₀ s) : CountKept s₀ (writeIgnored s) := h.raise

theorem CountKept.chooseNext {stack} (h : CountKept s₀ s) : CountKept s₀ (chooseNext stack s) := by
  induction stack generalizing s with
  | nil =>
    unfold Machine.chooseNext
    split
    · exact h.upd
    · exact h.upd.present
  | cons top rest ih =>
    unfold Machine.chooseNext
    extract_lets resume
    have hr : CountKept s₀ (resume s) := .ite (ih h.cnt) h.upd
    split
    · exact hr
    · exact .ite h.upd.present hr

theorem CountKept.acknowledge (h : CountKept s₀ s) : CountKept s₀ (acknowledge s) := by
  unfold Machine.acknowledge
  split
  · exact h
  · exact .ite h h.chooseNext

theorem CountKept.autoAck (h : CountKept s₀ s) : CountKept s₀ (autoAck s) := by
  unfold Machine.autoAck
  split
  · exact h
  · exact .ite h.acknowledge h

theorem CountKept.eccCorrectable {n} (h : CountKept s₀ s) : CountKept s₀ (eccCorrectable n s) := by
  unfold Machine.eccCorrectable
  extract_lets _ _ _ s1
  have h1 : CountKept s₀ s1 := h.cntAdd.upd
  exact .ite h1.raise h1

theorem CountKept.eccWindow {frames} (h : CountKept s₀ s) : CountKept s₀ (eccWindow frames s) := .ite h.upd h.upd

theorem CountKept.eccRecord {addr} (h : CountKept s₀ s) : CountKept s₀ (eccRecord addr s) := h.wrN.wrN.cnt

theorem CountKept.mbAbandon {n} (h : CountKept s₀ s) : CountKept s₀ (mbAbandon n s) := .ite h.setF.raise h

theorem CountKept.masterReset {m} (h : CountKept s₀ s) : CountKept s₀ (masterReset m s) := by
  unfold Machine.masterReset
  extract_lets s1
  have h1 : CountKept s₀ s1 := h.cnt.raise
  exact .ite h1.mbAbandon h1

/-! ### Sending over the Flask link and mirroring -/

theorem CountKept.flkSend {x} (h : CountKept s₀ s) : CountKept s₀ (flkSend x s) := .ite h h.upd

theorem CountKept.countUnprot (h : CountKept s₀ s) : CountKept s₀ (countUnprot s) := h.cnt

theorem CountKept.mirrorResend (h : CountKept s₀ s) : CountKept s₀ (mirrorResend s) := .ite h.flkSend h

theorem CountKept.dropItem {id} (h : CountKept s₀ s) : CountKept s₀ (dropItem id s) := h.upd

theorem CountKept.flkConfirm {id block} (h : CountKept s₀ s) : CountKept s₀ (flkConfirm id block s) := h.upd.flkSend

theorem CountKept.flkDiscard {id} (h : CountKept s₀ s) : CountKept s₀ (flkDiscard id s) := h.upd.flkSend

/-! ### Automatic scaling -/

theorem CountKept.ascEnter {a} (h : CountKept s₀ s) : CountKept s₀ (ascEnter a s) := h.upd.cnt.raise

theorem CountKept.ascTrigger {cause first stop hold} (h : CountKept s₀ s) :
    CountKept s₀ (ascTrigger cause first stop hold s) := by
  unfold Machine.ascTrigger
  extract_lets
  split
  · exact h.ascEnter
  · exact h.upd
  · exact h.ascEnter
  · exact h.upd

theorem CountKept.recoveryEvent {cause t enable} (h : CountKept s₀ s) : CountKept s₀ (recoveryEvent cause t enable s) :=
  .ite h.ascTrigger h

theorem CountKept.recoverHandover {t} (h : CountKept s₀ s) : CountKept s₀ (recoverHandover t s) := h.recoveryEvent

/-! ### Capture and stimulus -/

theorem CountKept.capWrite {n xs} (h : CountKept s₀ s) : CountKept s₀ (capWrite n xs s) := by
  unfold Machine.capWrite
  split
  · exact h
  · exact .ite h (.wrN (h.forNat fun _ _ h1 => h1.forNat fun _ _ h2 => h2.wrWord72))

theorem CountKept.stimSamples {n} (h : CountKept s₀ s) : CountKept s₀ (stimSamples n s).2 := by
  unfold Machine.stimSamples
  split
  · exact h
  · refine .ite_snd h ?_
    split
    exact h.upd

/-! ### Time bases and the media loop -/

theorem CountKept.tbMod {n f} (h : CountKept s₀ s) : CountKept s₀ (tbMod n f s) := h.updTime

theorem CountKept.fadjSet {n stamp v} (h : CountKept s₀ s) : CountKept s₀ (fadjSet n stamp v s) := h.tbMod.wr

theorem CountKept.judgePhase (h : CountKept s₀ s) : CountKept s₀ (judgePhase s) := .ite h.updTime.raise h.updTime

theorem CountKept.showPhase (h : CountKept s₀ s) : CountKept s₀ (showPhase s) := h.wrN

theorem CountKept.tbEnter {n st} (h : CountKept s₀ s) : CountKept s₀ (tbEnter n st s) := by
  unfold Machine.tbEnter
  extract_lets _ s1 _ _ s2
  have h1 : CountKept s₀ s1 := .ite h.setF.setF h.setF
  have h2 : CountKept s₀ s2 := .tbMod (.ite h1.updTime h1)
  exact .ite (.ite h2.setF (.ite h2.updTime.setF h2)) h2

theorem CountKept.judgeConflicts {written} (h : CountKept s₀ s) : CountKept s₀ (judgeConflicts written s) := by
  unfold Machine.judgeConflicts
  extract_lets _ s1
  have h1 : CountKept s₀ s1 := h.setF.forNat fun _ _ h2 => .ite h2.setF h2
  exact .ite h1.setF.raise h1

theorem CountKept.tbCfgApply {n v} (h : CountKept s₀ s) : CountKept s₀ (tbCfgApply n v s) :=
  .ite h.wr h.wr.tbMod.setF.judgeConflicts.tbEnter

theorem CountKept.loopStep {refCycles} (h : CountKept s₀ s) : CountKept s₀ (loopStep refCycles s) := by
  unfold Machine.loopStep
  extract_lets
  split
  rename_i e1
  have h1 := CountKept.snd h.freeNat e1
  extract_lets _ _ _ _ _ _ _ _ s1
  have h2 : CountKept s₀ s1 := h1.wrN.setF
  exact .updTime (.ite h2.raise h2)

theorem CountKept.loopFollow (h : CountKept s₀ s) : CountKept s₀ (loopFollow s) := .ite h.setF.setF h.setF

theorem CountKept.holdSeconds {n refCycles} (h : CountKept s₀ s) : CountKept s₀ (holdSeconds n refCycles s) := .ite h.tbMod.setF h

/-! ### Ethernet ports -/

theorem CountKept.portMod {p f} (h : CountKept s₀ s) : CountKept s₀ (portMod p f s) := h.upd

theorem CountKept.rrShow {p r} (h : CountKept s₀ s) : CountKept s₀ (rrShow p r s) := h.setF

theorem CountKept.rrTailApply {p r v} (h : CountKept s₀ s) : CountKept s₀ (rrTailApply p r v s) :=
  .ite h (.ite h.raise h.setF.rrShow)

theorem CountKept.moabyForget {p} (h : CountKept s₀ s) : CountKept s₀ (moabyForget p s) := h.upd

theorem CountKept.layRing1 {p} (h : CountKept s₀ s) : CountKept s₀ (layRing1 p s) :=
  .setF (.setF (h.moabyForget.forNat fun _ _ h1 => h1.wrWord72.wrWord72))

theorem CountKept.ringCfgApply {p r tx isBase v} (h : CountKept s₀ s) : CountKept s₀ (ringCfgApply p r tx isBase v s) := by
  unfold Machine.ringCfgApply
  extract_lets s1 s2
  have h1 : CountKept s₀ s1 := by
    unfold s1
    split
    · exact h.wr
    · exact h.wr
    · exact h.wr
    · exact h.wr
  have h2 : CountKept s₀ s2 := h1.setF.setF
  exact .ite h1.setF.setF.portMod (.rrShow (.ite h2.layRing1 h2))

theorem CountKept.trComplete {p r n reason} (h : CountKept s₀ s) : CountKept s₀ (trComplete p r n reason s) :=
  .portMod (.setF (h.forNat fun _ _ h1 => h1.wrWord72))

theorem CountKept.trRefuse {p r n why} (h : CountKept s₀ s) : CountKept s₀ (trRefuse p r n why s) := h.cnt.trComplete.raise

theorem CountKept.trTailApply {p r v} (h : CountKept s₀ s) : CountKept s₀ (trTailApply p r v s) := .ite h.raise h.setF.portMod

theorem CountKept.txSettle {p now} (h : CountKept s₀ s) : CountKept s₀ (txSettle p now s) := by
  unfold Machine.txSettle
  split
  · exact h
  · exact .ite (.ite h.portMod.trComplete h.portMod) h

theorem CountKept.dropStreams {p bad counter err} (h : CountKept s₀ s) : CountKept s₀ (dropStreams p bad counter err s) :=
  h.portMod.forEach fun _ _ h1 => .ite h1.cnt.raise h1.cnt

theorem CountKept.queueLadle {p tc b} (h : CountKept s₀ s) : CountKept s₀ (queueLadle p tc b s) := .ite h.portMod h.cnt

theorem CountKept.txCut {p} (h : CountKept s₀ s) : CountKept s₀ (txCut p s) := by
  unfold Machine.txCut
  extract_lets _ s1
  have h1 : CountKept s₀ s1 := h.txSettle.portMod
  split
  · exact h.txSettle
  · exact .ite h1.trRefuse h1

theorem CountKept.portLost {p} (h : CountKept s₀ s) : CountKept s₀ (portLost p s) := by
  unfold Machine.portLost
  refine .raise ?_
  refine .cnt ?_
  refine .portMod ?_
  exact h.txCut.setF.setF.setF.setF.setF.dropStreams.cntAdd

theorem CountKept.modeApply {p was} (h : CountKept s₀ s) : CountKept s₀ (modeApply p was s) := .ite h (.ite h.portLost h.setF)

/-! ### Ladle frames -/

theorem CountKept.ladleSend {group ty count entries} (h : CountKept s₀ s) : CountKept s₀ (ladleSend group ty count entries s) :=
  .ite h.upd.queueLadle h.upd

theorem CountKept.ladleSendAll {group ty size most entries} (h : CountKept s₀ s) :
    CountKept s₀ (ladleSendAll group ty size most entries s) :=
  h.forEach fun _ _ h1 => h1.ladleSend

theorem CountKept.ladleOut {ty entries} (h : CountKept s₀ s) : CountKept s₀ (ladleOut ty entries s) := by
  unfold Machine.ladleOut
  split
  · exact h.ladleSendAll
  · exact h.ladleSendAll
  · exact h.ladleSendAll

theorem CountKept.ladleFlush (h : CountKept s₀ s) : CountKept s₀ (ladleFlush s) := by
  unfold Machine.ladleFlush
  split
  · exact h
  · exact h.upd.forEach fun _ _ h1 => h1.ladleOut

/-! ### Objects and metadata -/

theorem CountKept.objMod {o f} (h : CountKept s₀ s) : CountKept s₀ (objMod o f s) := h.upd

theorem CountKept.hqAdvance {n} (h : CountKept s₀ s) : CountKept s₀ (hqAdvance n s) := by
  induction n generalizing s with
  | zero => exact h
  | succ n ih => exact .ite (ih h.setF.upd) h

theorem CountKept.hqResult {i v} (h : CountKept s₀ s) : CountKept s₀ (hqResult i v s) := h.wrWord72.setBit.upd.hqAdvance

theorem CountKept.jobVerdict {job pos v} (h : CountKept s₀ s) : CountKept s₀ (jobVerdict job pos v s) := h.upd

theorem CountKept.giveVerdict {v r} (h : CountKept s₀ s) : CountKept s₀ (giveVerdict v r s) := by
  unfold Machine.giveVerdict
  split
  · exact h.jobVerdict
  · exact h.hqResult

theorem CountKept.acceptRec {obj seq unprot} (h : CountKept s₀ s) : CountKept s₀ (acceptRec obj seq unprot s) := by
  unfold Machine.acceptRec
  extract_lets
  split
  · exact h
  · extract_lets _ _ _ s1 _ s2
    have h1 : CountKept s₀ s1 := h.objMod.cnt
    have h2 : CountKept s₀ s2 := .journal (.ite h1 h1.cntAdd.setBit)
    exact .forEach (.ite h2.countUnprot.setBit.raise h2) fun _ _ h3 => h3.giveVerdict

theorem CountKept.dropRefused {obj seq} (h : CountKept s₀ s) : CountKept s₀ (dropRefused obj seq s) := h.objMod

theorem CountKept.hqBaseApply {v} (h : CountKept s₀ s) : CountKept s₀ (hqBaseApply v s) := h.wr.setF.setF.setF.upd

theorem CountKept.objCmdPlace {obj op k} (h : CountKept s₀ s) : CountKept s₀ (objCmdPlace obj op k s) := h.objMod

theorem CountKept.segmentsAt {b} (h : CountKept s₀ s) : CountKept s₀ (segmentsAt b s) := h.upd

theorem CountKept.segmentsCurrent (h : CountKept s₀ s) : CountKept s₀ (segmentsCurrent s) := h.segmentsAt.upd

/-! ### Stream contexts -/

theorem CountKept.rxMod {c f} (h : CountKept s₀ s) : CountKept s₀ (rxMod c f s) := h.upd

theorem CountKept.txMod {t f} (h : CountKept s₀ s) : CountKept s₀ (txMod t f s) := h.upd

theorem CountKept.rxCtlApply {c v} (h : CountKept s₀ s) : CountKept s₀ (rxCtlApply c v s) := by
  unfold Machine.rxCtlApply
  extract_lets
  refine .ite ?_ (.ite h h.setF.rxMod)
  refine .ite (.ite h h.writeIgnored) ?_
  split
  · exact h.setF.raise
  · exact h.setF.setF.rxMod

theorem CountKept.txCtlApply {t v} (h : CountKept s₀ s) : CountKept s₀ (txCtlApply t v s) := by
  unfold Machine.txCtlApply
  extract_lets
  refine .ite ?_ (.ite h h.setF.txMod)
  refine .ite (.ite h h.writeIgnored) ?_
  split
  · exact h.setF.raise
  · exact h.setF.setF.txMod

theorem CountKept.freeSamples {n} (h : CountKept s₀ s) : CountKept s₀ (freeSamples n s).2 := by
  induction n generalizing s with
  | zero => exact h
  | succ n ih => exact ih (h.freeNat (w := 36))

theorem CountKept.putIngest {src xs} (h : CountKept s₀ s) : CountKept s₀ (putIngest src xs s) := h.upd

theorem CountKept.rxSamples {asrc sw locked silent} (h : CountKept s₀ s) :
    CountKept s₀ (rxSamples asrc sw locked silent s).2 := by
  unfold Machine.rxSamples
  refine .ite_snd h ?_
  refine .ite_snd h ?_
  split
  rename_i e1
  have h1 := CountKept.snd h.freeSamples e1
  refine .ite_snd h1 ?_
  split
  exact h1

theorem CountKept.rxIngest {c} (h : CountKept s₀ s) : CountKept s₀ (rxIngest c s) := by
  unfold Machine.rxIngest
  extract_lets
  refine .ite h.setF.rxMod ?_
  split
  split
  extract_lets _ _ s1
  have h1 : CountKept s₀ s1 := .setF (.ite h.rxMod h.rxMod.cntAdd.raise)
  refine .forNat (.ite h1.cnt.raise h1) fun _ _ h2 => ?_
  refine .ite h2.putIngest ?_
  split
  rename_i e1
  have h3 := CountKept.snd h2.rxSamples e1
  exact h3.putIngest

theorem CountKept.rxStop {c} (h : CountKept s₀ s) : CountKept s₀ (rxStop c s) := h.setF.setF.setF.setF.rxMod

theorem CountKept.rxBoundary {c} (h : CountKept s₀ s) : CountKept s₀ (rxBoundary c s) := by
  unfold Machine.rxBoundary
  extract_lets _ _ s1 _ s2 s3
  have h1 : CountKept s₀ s1 := .ite h.rxStop h
  have h2 : CountKept s₀ s2 := .ite h1.setF.rxMod h1
  have h3 : CountKept s₀ s3 := .ite h2.setF h2
  exact .ite h3.setF h3

theorem CountKept.rxStrobe (h : CountKept s₀ s) : CountKept s₀ (rxStrobe s) :=
  .forEach (.upd (h.forEach fun _ _ h1 => h1.rxBoundary)) fun _ _ h2 => h2.rxIngest

theorem CountKept.chanMod {c f} (h : CountKept s₀ s) : CountKept s₀ (chanMod c f s) := h.upd

theorem CountKept.cvtSat {n ch} (h : CountKept s₀ s) : CountKept s₀ (cvtSat n ch s) := .ite h h.cntAdd.raise

theorem CountKept.txDrop {t} (h : CountKept s₀ s) : CountKept s₀ (txDrop t s) := h.cnt.raise

theorem CountKept.queuePort {t legB p} (h : CountKept s₀ s) : CountKept s₀ (queuePort t legB p s) := by
  unfold Machine.queuePort
  extract_lets _ _ _ s1
  have h1 : CountKept s₀ s1 := by
    unfold s1
    split
    · exact h
    · exact h.portMod.txDrop
  exact .ite h.cnt (.ite h.txDrop h1.portMod)

theorem CountKept.queuePkt {t p} (h : CountKept s₀ s) : CountKept s₀ (queuePkt t p s) := .ite h.queuePort.queuePort h.queuePort

theorem CountKept.emitPkt {t frames} (h : CountKept s₀ s) : CountKept s₀ (emitPkt t frames s) := by
  unfold Machine.emitPkt
  extract_lets _ _ _ _ _ s1
  have h1 : CountKept s₀ s1 := h.setF.txMod
  exact .ite h1.queuePkt h1.txMod

theorem CountKept.emitAll {t n} (h : CountKept s₀ s) : CountKept s₀ (emitAll t n s) := by
  induction n generalizing s with
  | zero => exact h
  | succ n ih => exact .ite h (ih h.emitPkt)

theorem CountKept.txGather {t} (h : CountKept s₀ s) : CountKept s₀ (txGather t s) :=
  .emitAll (.txMod (h.forEach fun _ _ h1 => h1.cvtSat))

theorem CountKept.txStop {t} (h : CountKept s₀ s) : CountKept s₀ (txStop t s) := h.setF.txMod

theorem CountKept.txBoundary {t} (h : CountKept s₀ s) : CountKept s₀ (txBoundary t s) := by
  unfold Machine.txBoundary
  extract_lets _ _ s1
  have h1 : CountKept s₀ s1 := .ite h.txStop h
  exact .ite h1.setF.txMod h1

theorem CountKept.txStrobe (h : CountKept s₀ s) : CountKept s₀ (txStrobe s) := by
  unfold Machine.txStrobe
  extract_lets _ s1
  have h1 : CountKept s₀ s1 := h.forEach fun _ _ h2 => h2.txBoundary
  refine .ite (h1.forEach fun _ _ h3 => h3.txMod) ?_
  exact h1.forEach fun _ _ h4 => .ite h4.txGather h4

/-! ### Geometry units -/

theorem CountKept.geoMod {h' f} (h : CountKept s₀ s) : CountKept s₀ (geoMod h' f s) := h.upd

theorem CountKept.meshPromote {b} (h : CountKept s₀ s) : CountKept s₀ (meshPromote b s) := h.upd.forEach fun _ _ h1 => h1.upd

theorem CountKept.geoKeep {h' fresh g} (h : CountKept s₀ s) : CountKept s₀ (geoKeep h' fresh g s) := .ite h.upd h.geoMod

theorem CountKept.clampReport {o n} (h : CountKept s₀ s) : CountKept s₀ (clampReport o n s) := by
  unfold Machine.clampReport
  extract_lets s1
  have h1 : CountKept s₀ s1 := h.setBit.cntAdd
  exact .ite h1 h1.objMod.raise

theorem CountKept.geoEvalSlot {b h'} (h : CountKept s₀ s) : CountKept s₀ (geoEvalSlot b h' s) := by
  unfold Machine.geoEvalSlot
  split
  split
  · exact h
  · extract_lets
    split
    · refine .ite h ?_
      split
      extract_lets s1
      have h1 : CountKept s₀ s1 := .ite h h.clampReport
      split
      rename_i e1
      have h2 := CountKept.snd (.ite_snd h1.freeNat h1) e1
      extract_lets _ _ s2 s3 s4
      have h3 : CountKept s₀ s2 := .ite h2.geoKeep.cnt.raise h2.geoKeep
      have h4 : CountKept s₀ s3 := .ite h3.cnt.raise h3
      have h5 : CountKept s₀ s4 := .ite h4 h4.cntAdd.raise
      exact .ite h5.cnt.raise h5
    · exact h

theorem CountKept.geoStrobe (h : CountKept s₀ s) : CountKept s₀ (geoStrobe s) := by
  unfold Machine.geoStrobe
  extract_lets _ _ _ _ s1
  have h1 : CountKept s₀ s1 := h.upd.segmentsAt
  exact .ite (h1.meshPromote.forEach fun _ _ h2 => h2.geoEvalSlot) h1

/-! ### Audio port lanes -/

theorem CountKept.grpMod {g f} (h : CountKept s₀ s) : CountKept s₀ (grpMod g f s) := h.upd

theorem CountKept.laneMod {l f} (h : CountKept s₀ s) : CountKept s₀ (laneMod l f s) := h.upd

theorem CountKept.grpCtlApply {g v} (h : CountKept s₀ s) : CountKept s₀ (grpCtlApply g v s) := by
  unfold Machine.grpCtlApply
  extract_lets
  refine .ite ?_ (.ite h h.setF.grpMod)
  refine .ite h ?_
  split
  · exact h.setF.setF.raise
  · exact h.setF.setF.setF.grpMod

theorem CountKept.showPend (h : CountKept s₀ s) : CountKept s₀ (showPend s) := h.setF

theorem CountKept.maskTransfer {l} (h : CountKept s₀ s) : CountKept s₀ (maskTransfer l s) := h.wr.laneMod.setF.showPend.setBit

theorem CountKept.laneMaskApply {l v} (h : CountKept s₀ s) : CountKept s₀ (laneMaskApply l v s) := by
  unfold Machine.laneMaskApply
  extract_lets s1
  have h1 : CountKept s₀ s1 := h.wr.setF.showPend
  exact .ite h1 h1.maskTransfer

theorem CountKept.showFill {g} (h : CountKept s₀ s) : CountKept s₀ (showFill g s) := h.setF

theorem CountKept.riserWrite {g f} (h : CountKept s₀ s) : CountKept s₀ (riserWrite g f s) := by
  unfold Machine.riserWrite
  extract_lets _ _ s1
  have h1 : CountKept s₀ s1 := .grpMod (.ite h.cnt.raise h)
  exact .showFill (.ite h1.setF h1)

theorem CountKept.slotSats {g} (h : CountKept s₀ s) : CountKept s₀ (slotSats g s) :=
  h.forEach fun _ _ h1 => h1.forNat fun _ _ h2 => .ite h2 h2.cvtSat

theorem CountKept.lanePins {l} (h : CountKept s₀ s) : CountKept s₀ (lanePins l s) := h.laneMod

theorem CountKept.masterFrame {g} (h : CountKept s₀ s) : CountKept s₀ (masterFrame g s) :=
  h.setF.grpMod.slotSats.forEach fun _ _ h1 => h1.lanePins

theorem CountKept.biphasePins {l} (h : CountKept s₀ s) : CountKept s₀ (biphasePins l s) := h.laneMod

theorem CountKept.biphaseOut {l} (h : CountKept s₀ s) : CountKept s₀ (biphaseOut l s) :=
  .biphasePins (h.forNat fun _ _ h1 => .ite h1 h1.cvtSat)

theorem CountKept.laneNote {l} (h : CountKept s₀ s) : CountKept s₀ (laneNote l s) := h.laneMod

theorem CountKept.grpFrame {g} (h : CountKept s₀ s) : CountKept s₀ (grpFrame g s) := by
  unfold Machine.grpFrame
  extract_lets _ _ s1
  have h1 : CountKept s₀ s1 := h.grpMod.forEach fun _ _ h2 => h2.laneNote
  refine .ite h ?_
  refine .forEach (.ite ?_ (.ite (.ite h1.masterFrame h1) (.ite h1.riserWrite h1))) fun _ _ h3 => h3.biphaseOut
  exact h1.forEach fun _ _ h3 => h3.lanePins

theorem CountKept.apdFrame (h : CountKept s₀ s) : CountKept s₀ (apdFrame s) := h.upd.forNat fun _ _ h1 => h1.grpFrame

theorem CountKept.grpRun {g fadeIn} (h : CountKept s₀ s) : CountKept s₀ (grpRun g fadeIn s) := h.setF.setF.setF.grpMod

theorem CountKept.estimateStep {g} (h : CountKept s₀ s) : CountKept s₀ (estimateStep g s) := by
  unfold Machine.estimateStep
  refine .ite h ?_
  split
  · exact h
  · exact h.grpMod

theorem CountKept.loopUpdate {g} (h : CountKept s₀ s) : CountKept s₀ (loopUpdate g s) := by
  unfold Machine.loopUpdate
  extract_lets _ _ _ _ _ _ _ _ _ _ _ _ _ s1
  have h1 : CountKept s₀ s1 := h.grpMod.setF.setF
  exact .setF (.ite h1.raise h1)

theorem CountKept.laneRest {l} (h : CountKept s₀ s) : CountKept s₀ (laneRest l s) := h.setF.setF.laneMod

theorem CountKept.grpBoundary {g} (h : CountKept s₀ s) : CountKept s₀ (grpBoundary g s) := by
  unfold Machine.grpBoundary
  extract_lets _ _ s1 s2
  have h1 : CountKept s₀ s1 := .ite (h.grpMod.setF.setF.setF.forEach fun _ _ h2 => .ite h2.lanePins h2.laneRest) h
  have h3 : CountKept s₀ s2 := .ite h1.grpMod.setF h1
  exact .ite (.ite h3.grpRun (.ite h3.setF h3)) h3

theorem CountKept.apdRelease (h : CountKept s₀ s) : CountKept s₀ (apdRelease s) := h.upd

theorem CountKept.apdStrobe (h : CountKept s₀ s) : CountKept s₀ (apdStrobe s) := by
  unfold Machine.apdStrobe
  extract_lets _ _ _ _ s1
  have h1 : CountKept s₀ s1 := .upd (.ite h h.apdRelease)
  refine .forNat (.forNat (.ite (h1.forEach fun _ _ h2 => h2.lanePins) h1) fun _ _ h3 => h3.grpBoundary) fun _ _ h4 => ?_
  exact .ite h4.estimateStep.loopUpdate h4.estimateStep

theorem CountKept.laneSamples {l slot words} (h : CountKept s₀ s) : CountKept s₀ (laneSamples l slot words s).2 := by
  unfold Machine.laneSamples
  extract_lets
  refine .ite_snd h ?_
  split
  rename_i e1
  have h1 := CountKept.snd (.ite_snd h.freeSamples h) e1
  exact h1

theorem CountKept.csCommit {l} (h : CountKept s₀ s) : CountKept s₀ (csCommit l s) := h.laneMod

/-! ### Analogue output channels -/

theorem CountKept.dacMod {n f} (h : CountKept s₀ s) : CountKept s₀ (dacMod n f s) := h.upd

theorem CountKept.dacEnter {n st} (h : CountKept s₀ s) : CountKept s₀ (dacEnter n st s) := h.setF.setF

theorem CountKept.dacShow {n} (h : CountKept s₀ s) : CountKept s₀ (dacShow n s) := h.setF

theorem CountKept.dacChanFrame {n} (h : CountKept s₀ s) : CountKept s₀ (dacChanFrame n s) :=
  .ite h (.dacMod (.ite h h.dacMod.dacShow))

theorem CountKept.dacDiscard {n k} (h : CountKept s₀ s) : CountKept s₀ (dacDiscard n k s) := .ite h h.cntAdd.raise

theorem CountKept.dacLoad {n} (h : CountKept s₀ s) : CountKept s₀ (dacLoad n s) := .ite h (.ite h.dacDiscard h.dacMod.dacShow)

theorem CountKept.dacFrame (h : CountKept s₀ s) : CountKept s₀ (dacFrame s) :=
  .forNat (.ite (h.forNat fun _ _ h1 => h1.dacLoad) h) fun _ _ h2 => h2.dacChanFrame

theorem CountKept.dacDc {n} (h : CountKept s₀ s) : CountKept s₀ (dacDc n s) := .ite h h.dacMod

theorem CountKept.dacFault {n} (h : CountKept s₀ s) : CountKept s₀ (dacFault n s) := by
  unfold Machine.dacFault
  exact h.dacMod.dacEnter.raise

theorem CountKept.dacClear {n} (h : CountKept s₀ s) : CountKept s₀ (dacClear n s) := h.dacEnter.dacMod

theorem CountKept.dacHiz {n} (h : CountKept s₀ s) : CountKept s₀ (dacHiz n s) := h.dacMod.dacEnter

theorem CountKept.dacSilence {n} (h : CountKept s₀ s) : CountKept s₀ (dacSilence n s) := by
  unfold Machine.dacSilence
  extract_lets
  split
  · exact .ite h.dacMod.dacEnter h
  · exact .ite h h.dacMod.dacEnter
  · exact h

theorem CountKept.dacSpanStart {n sp md} (h : CountKept s₀ s) : CountKept s₀ (dacSpanStart n sp md s) :=
  h.dacDiscard.dacMod.dacEnter.dacShow

theorem CountKept.dacSpanAct {n} (h : CountKept s₀ s) : CountKept s₀ (dacSpanAct n s) := by
  unfold Machine.dacSpanAct
  extract_lets
  split
  · exact .ite h.dacMod.dacSpanStart h.dacMod
  · exact .ite h.dacMod.dacMod h.dacMod
  · exact h.dacMod

theorem CountKept.dacStrobeCh {n} (h : CountKept s₀ s) : CountKept s₀ (dacStrobeCh n s) := by
  unfold Machine.dacStrobeCh
  extract_lets _ _ s1 s2 s3 _ s4 s5 s6 _ s7
  have h1 : CountKept s₀ s1 := .ite h.dacDc.dacHiz h.dacDc
  have h2 : CountKept s₀ s2 := .ite h1.dacMod h1
  have h3 : CountKept s₀ s3 := .ite (.ite h2.dacClear h2.dacMod) h2
  have h4 : CountKept s₀ s4 := .dacSpanAct (.ite (.dacMod (.ite h3 h3.dacFault)) h3)
  have h5 : CountKept s₀ s5 := by
    unfold s5
    split
    · exact .ite h4.dacDiscard.dacMod.dacShow h4
    · exact h4
  have h6 : CountKept s₀ s6 := .ite h5.dacEnter h5
  have h7 : CountKept s₀ s7 := .ite h6.dacMod.dacEnter (.ite h6.dacMod h6)
  exact .ite h.dacDc.dacMod (.ite h7.dacSilence h7)

theorem CountKept.dacStrobe (h : CountKept s₀ s) : CountKept s₀ (dacStrobe s) := h.forNat fun _ _ h1 => h1.dacStrobeCh

theorem CountKept.dacCfgApply {n v} (h : CountKept s₀ s) : CountKept s₀ (dacCfgApply n v s) := by
  unfold Machine.dacCfgApply
  refine .ite h.writeIgnored ?_
  refine .ite h.wr.dacMod ?_
  exact .ite h.wr.dacMod (.ite h.wr.dacMod h.wr.dacMod)

theorem CountKept.dacFatal (h : CountKept s₀ s) : CountKept s₀ (dacFatal s) := h.forNat fun _ _ h1 => .ite h1.dacMod h1

/-! ### PDM microphones -/

theorem CountKept.micSamples {pins m} (h : CountKept s₀ s) : CountKept s₀ (micSamples pins m s) := by
  unfold Machine.micSamples
  extract_lets
  split
  exact .ite h.upd h.upd.cntAdd.raise

theorem CountKept.pdmStrobe {pins} (h : CountKept s₀ s) : CountKept s₀ (pdmStrobe pins s) :=
  h.upd.forEach fun _ _ h1 => h1.micSamples

/-! ### Routing -/

theorem CountKept.asrcAssign (h : CountKept s₀ s) : CountKept s₀ (asrcAssign s) := .ite h.upd.raise h.upd

theorem CountKept.rteShow (h : CountKept s₀ s) : CountKept s₀ (rteShow s) := h.setF.setF

/-! ### Effects of register writes -/

theorem CountKept.plainWrite {off v} (h : CountKept s₀ s) : CountKept s₀ (plainWrite off v s) := by
  unfold Machine.plainWrite
  split
  · exact h
  · exact h.wr

theorem CountKept.enterListen (h : CountKept s₀ s) : CountKept s₀ (enterListen s) := h.setF.setF.setF.setF.upd

theorem CountKept.pairLeft (h : CountKept s₀ s) : CountKept s₀ (pairLeft s) := .ite (.raise (.setF (.upd (.ite h.upd.setF h)))) h

theorem CountKept.clmCfgApply {v} (h : CountKept s₀ s) : CountKept s₀ (clmCfgApply v s) := by
  unfold Machine.clmCfgApply
  refine .ite h.plainWrite.enterListen ?_
  refine .ite h.plainWrite.pairLeft.setF.setF.setF.setF ?_
  exact h.plainWrite

theorem CountKept.showMembers (h : CountKept s₀ s) : CountKept s₀ (showMembers s) := h.setF

theorem CountKept.workerAbsent {w} (h : CountKept s₀ s) : CountKept s₀ (workerAbsent w s) := h.wrN.upd

theorem CountKept.hierCfgApply {v} (h : CountKept s₀ s) : CountKept s₀ (hierCfgApply v s) := by
  unfold Machine.hierCfgApply
  extract_lets _ _ _ _ _ _ s1
  have h1 : CountKept s₀ s1 := .setF (.upd (h.plainWrite.forNat fun _ _ h2 => h2.workerAbsent))
  exact .ite h.plainWrite (.ite h1.showMembers h1.setF)

theorem CountKept.wmaskApply {v} (h : CountKept s₀ s) : CountKept s₀ (wmaskApply v s) := by
  unfold Machine.wmaskApply
  extract_lets _ s1
  have h1 : CountKept s₀ s1 := h.plainWrite.forNat fun _ _ h2 => .ite h2 h2.workerAbsent
  exact .ite h1.showMembers h1

theorem CountKept.tsuEffect {off v} (h : CountKept s₀ s) : CountKept s₀ (tsuEffect off v s) := by
  unfold Machine.tsuEffect
  split
  · exact h.tbCfgApply
  · exact .ite h.writeIgnored (.fadjSet (.when h fun _ h1 => h1.writeIgnored))
  · exact .ite h.plainWrite.updTime h.plainWrite

theorem CountKept.netEffect {off v} (h : CountKept s₀ s) : CountKept s₀ (netEffect off v s) := by
  generalize hf : Machine.netEffect = f
  delta Machine.netEffect at hf
  subst hf
  beta_reduce
  extract_lets
  split
  · exact h.ringCfgApply
  · exact h.ringCfgApply
  · exact h.ringCfgApply
  · exact h.ringCfgApply
  · split
    · exact h.rrTailApply
    · exact h.trTailApply
    · exact .ite h.plainWrite.masterReset.modeApply h.plainWrite

theorem CountKept.strEffect {off v} (h : CountKept s₀ s) : CountKept s₀ (strEffect off v s) := by
  unfold Machine.strEffect
  split
  · exact h.rxCtlApply
  · exact h.txCtlApply
  · exact .ite h.writeIgnored h.plainWrite

theorem CountKept.apdGroupEffect {off v} (h : CountKept s₀ s) : CountKept s₀ (apdGroupEffect off v s) := by
  unfold Machine.apdGroupEffect
  exact .ite h.grpCtlApply (.ite h.writeIgnored h.plainWrite)

theorem CountKept.apdLaneEffect {off v} (h : CountKept s₀ s) : CountKept s₀ (apdLaneEffect off v s) := by
  generalize hf : Machine.apdLaneEffect = f
  delta Machine.apdLaneEffect at hf
  subst hf
  beta_reduce
  extract_lets +onlyGivenNames l
  split
  · extract_lets s1
    have h1 : CountKept s₀ s1 := .when h fun _ h1 => h1.csCommit
    exact .ite (.ite h1 h1.writeIgnored) h1.plainWrite
  · exact h.laneMaskApply
  · exact h.plainWrite

theorem CountKept.apdEffect {off v} (h : CountKept s₀ s) : CountKept s₀ (apdEffect off v s) :=
  .ite h.apdGroupEffect (.ite h.apdLaneEffect h.plainWrite)

theorem CountKept.regEffect {off v} (h : CountKept s₀ s) : CountKept s₀ (regEffect off v s) := by
  unfold Machine.regEffect
  refine .ite h.tsuEffect ?_
  refine .ite h.clmCfgApply ?_
  refine .ite h.hierCfgApply ?_
  refine .ite h.wmaskApply ?_
  refine .ite h.hqBaseApply ?_
  refine .ite h.writeIgnored ?_
  refine .ite h.netEffect ?_
  refine .ite h.strEffect ?_
  refine .ite h.apdEffect ?_
  refine .ite h.plainWrite.wrN.wrN ?_
  split
  · exact h.dacCfgApply
  · exact .ite h h.plainWrite
  · exact h.plainWrite

theorem CountKept.applyReg {off v} (h : CountKept s₀ s) : CountKept s₀ (applyReg off v s) := .ite h.regEffect h.writeIgnored

theorem CountKept.takeShadows (h : CountKept s₀ s) : CountKept s₀ (takeShadows s) := h.upd

/-! ### The Pattern loader -/

theorem CountKept.patResult {cmd reason amd} (h : CountKept s₀ s) : CountKept s₀ (patResult cmd reason amd s) := h.setF.setF.setF

theorem CountKept.setStg {v} (h : CountKept s₀ s) : CountKept s₀ (setStg v s) := h.setF

theorem CountKept.showBusy (h : CountKept s₀ s) : CountKept s₀ (showBusy s) := h.setF

theorem CountKept.showStaged (h : CountKept s₀ s) : CountKept s₀ (showStaged s) := by
  unfold Machine.showStaged
  split
  · exact h.wr64.wrN
  · exact h.wr64.wrN

theorem CountKept.stagingEmpty (h : CountKept s₀ s) : CountKept s₀ (stagingEmpty s) := h.upd.setStg.showStaged.showBusy

theorem CountKept.convToSeats (h : CountKept s₀ s) : CountKept s₀ (convToSeats s) := by
  unfold Machine.convToSeats
  split
  · exact h
  · exact .ite h h.upd

theorem CountKept.writeSteps {t b i steps} (h : CountKept s₀ s) : CountKept s₀ (writeSteps t b i steps s) := h.wrBytes

theorem CountKept.dacRedo {n codes} (h : CountKept s₀ s) : CountKept s₀ (dacRedo n codes s) := h.dacMod

theorem CountKept.egressRestore (h : CountKept s₀ s) : CountKept s₀ (egressRestore s) :=
  .ite h.upd (h.upd.forNat fun _ _ h1 => .ite h1 h1.dacRedo)

theorem CountKept.pourWithdraw (h : CountKept s₀ s) : CountKept s₀ (pourWithdraw s) := by
  unfold Machine.pourWithdraw
  split
  · exact h
  · extract_lets _ s1
    have h1 : CountKept s₀ s1 := h.upd.setStg
    exact .ite (.ite h1.upd.egressRestore h1.upd) h1

/-! ### The render pipeline -/

theorem CountKept.slotMod {h' f} (h : CountKept s₀ s) : CountKept s₀ (slotMod h' f s) := h.upd

theorem CountKept.lineWrite {h' n xs} (h : CountKept s₀ s) : CountKept s₀ (lineWrite h' n xs s) :=
  h.forNat fun _ _ h1 => h1.wrWord72

theorem CountKept.poolClear {w n} (h : CountKept s₀ s) : CountKept s₀ (poolClear w n s) := h.upd

theorem CountKept.accStore {t q sums counts} (h : CountKept s₀ s) : CountKept s₀ (accStore t q sums counts s) := by
  unfold Machine.accStore
  exact .forEach (h.poolClear.poolClear.forEach fun _ _ h1 => h1.forNat fun _ _ h2 => h2.wrWord72) fun _ _ h3 => h3.wrWord72

theorem CountKept.accWrite {t q a} (h : CountKept s₀ s) : CountKept s₀ (accWrite t q a s) :=
  .ite h.accStore h.accStore.cntAdd.raise

theorem CountKept.sampleSat {n} (h : CountKept s₀ s) : CountKept s₀ (sampleSat n s) := .ite h h.cntAdd.raise

theorem CountKept.slotPair {n q sends lost h' x} (h : CountKept s₀ x.1) : CountKept s₀ (slotPair n q sends lost h' x).1 := by
  unfold Machine.slotPair
  extract_lets
  split
  · exact h
  · split
    extract_lets s1
    have h1 : CountKept s₀ s1 := .ite h h.lineWrite
    split
    split
    extract_lets
    split
    exact .slotMod (.sampleSat (.ite h1 h1.cnt.raise))

theorem CountKept.slotRebind {n} (h : CountKept s₀ s) : CountKept s₀ (slotRebind n s) := by
  unfold Machine.slotRebind
  refine h.forEach fun _ _ h1 => ?_
  split
  · exact .ite h1.slotMod.upd h1
  · exact h1

theorem CountKept.windowTable {n q h'} (h : CountKept s₀ s) : CountKept s₀ (windowTable n q h' s) := by
  unfold Machine.windowTable
  split
  · exact h
  · exact h.forEach fun _ _ h1 => h1.wrWord72

theorem CountKept.seatPair {n q sends beds lost} (h : CountKept s₀ s) : CountKept s₀ (seatPair n q sends beds lost s) := by
  unfold Machine.seatPair
  extract_lets
  split
  rename_i e1
  have h1 := CountKept.fst (.foldl_fst (h.forEach fun _ _ h2 => h2.windowTable) (fun _ _ h3 => h3.slotPair) _) e1
  exact h1.upd.accWrite

theorem CountKept.lineKeep {n} (h : CountKept s₀ s) : CountKept s₀ (lineKeep n s) := h.upd

theorem CountKept.pairStage {n} (h : CountKept s₀ s) : CountKept s₀ (pairStage n s) :=
  .slotRebind (h.lineKeep.forNat fun _ _ h1 => .ite h1.accWrite h1.seatPair)

theorem CountKept.sourceSamples {inp stim src} (h : CountKept s₀ s) : CountKept s₀ (sourceSamples inp stim src s).2 := by
  unfold Machine.sourceSamples
  refine .ite_snd h ?_
  exact .ite_snd h.laneSamples (.ite_snd h (.ite_snd h (.ite_snd h (.ite_snd h h))))

theorem CountKept.gather {inp stim ns} (h : CountKept s₀ s) : CountKept s₀ (gather inp stim ns s).2 := by
  induction ns generalizing s with
  | nil => exact h
  | cons n ns ih => exact ih h.sourceSamples

theorem CountKept.slotInput {n inputs h'} (h : CountKept s₀ s) : CountKept s₀ (slotInput n inputs h' s) := by
  unfold Machine.slotInput
  extract_lets
  split
  · exact h
  · extract_lets
    split
    exact .sampleSat (.slotMod (.ite h h.cntAdd.raise))

theorem CountKept.unslottedSums {inputs} (h : CountKept s₀ s) : CountKept s₀ (unslottedSums inputs s) :=
  h.forEach fun _ _ h1 => .ite h1 h1.cntAdd.raise

theorem CountKept.capTail {inp} (h : CountKept s₀ s) : CountKept s₀ (capTail inp s) := by
  unfold Machine.capTail
  split
  · exact h
  · split
    · exact h
    · extract_lets
      split
      rename_i e1
      have h1 := CountKept.snd h.upd.stimSamples e1
      split
      rename_i e2
      have h2 := CountKept.snd h1.gather e2
      exact h2.upd.capWrite.upd

theorem CountKept.sprueStage {n inp} (h : CountKept s₀ s) : CountKept s₀ (sprueStage n inp s) := by
  unfold Machine.sprueStage
  split
  rename_i e1
  have h1 := CountKept.snd h.stimSamples e1
  extract_lets
  split
  rename_i e2
  have h2 := CountKept.snd h1.gather e2
  exact .capWrite (.unslottedSums (h2.upd.forEach fun _ _ h3 => h3.slotInput))

/-! ### The speaker stages and egress -/

theorem CountKept.chanStages {t q c x} (h : CountKept s₀ x.1) : CountKept s₀ (chanStages t q c x).1 := by
  unfold Machine.chanStages
  extract_lets
  split
  extract_lets _ _ s1 s2 s3 s4
  have h1 : CountKept s₀ s1 := .ite h.chanMod h.chanMod.cntAdd.raise
  have h2 : CountKept s₀ s2 := .ite h1 h1.cntAdd.raise
  have h3 : CountKept s₀ s3 := .ite h2 h2.cntAdd.raise
  have h4 : CountKept s₀ s4 := .ite h3 h3.cntAdd.raise
  exact .ite h4.wrN h4

theorem CountKept.bassClear {t q} (h : CountKept s₀ s) : CountKept s₀ (bassClear t q s) := h.upd

theorem CountKept.bassWrite {t q b} (h : CountKept s₀ s) : CountKept s₀ (bassWrite t q b s) :=
  h.bassClear.forEach fun _ _ h1 => h1.forNat fun _ _ h2 => h2.wrWord72

theorem CountKept.seatSpeaker {t q} (h : CountKept s₀ s) : CountKept s₀ (seatSpeaker t q s).1 := by
  unfold Machine.seatSpeaker
  refine .ite_fst (.bassWrite (h.forEach fun _ _ h1 => h1.chanMod)) ?_
  split
  rename_i e1
  have h2 := CountKept.fst (.foldl_fst h (fun _ _ h3 => h3.chanStages) _) e1
  exact h2.bassWrite

theorem CountKept.speakerStages {t} (h : CountKept s₀ s) : CountKept s₀ (speakerStages t s) := by
  unfold Machine.speakerStages
  split
  rename_i e1
  have h1 := CountKept.fst (.foldl_fst h (fun _ _ hx => by exact hx.seatSpeaker) _) e1
  exact .ite h1.setBit.cnt h1

theorem CountKept.rotateOut {t} (h : CountKept s₀ s) : CountKept s₀ (rotateOut t s) := h.upd

/-! ### Tiles, seats and handovers -/

theorem CountKept.tileMod {t f} (h : CountKept s₀ s) : CountKept s₀ (tileMod t f s) := h.upd

theorem CountKept.setTile {t st} (h : CountKept s₀ s) : CountKept s₀ (setTile t st s) := h.setF

theorem CountKept.seatTile {fb q t bank} (h : CountKept s₀ s) : CountKept s₀ (seatTile fb q t bank s) :=
  .setF (.setF (.setF (.setTile (.ite h.setF.setF h.setF.setF))))

theorem CountKept.showSpare {t} (h : CountKept s₀ s) : CountKept s₀ (showSpare t s) := by
  unfold Machine.showSpare
  split
  · exact h.setF.setF
  · exact h.setF.setF

theorem CountKept.showUsable (h : CountKept s₀ s) : CountKept s₀ (showUsable s) := h.setF

theorem CountKept.noSpare (h : CountKept s₀ s) : CountKept s₀ (noSpare s) := .ite h.raise h

theorem CountKept.markRegion {r} (h : CountKept s₀ s) : CountKept s₀ (markRegion r s) := by
  unfold Machine.markRegion
  extract_lets _ _ s1
  have h1 : CountKept s₀ s1 := h.setF.upd.setBit
  exact .ite h1.setTile.showUsable h1

theorem CountKept.clearSeats (h : CountKept s₀ s) : CountKept s₀ (clearSeats s) := by
  unfold Machine.clearSeats
  exact .forNat (.forNat (h.forNat fun _ _ h1 => h1.wrN) fun _ _ h2 => h2.wrN) fun _ _ h3 => .ite h3.setF h3.setTile

theorem CountKept.assignSeats (h : CountKept s₀ s) : CountKept s₀ (assignSeats s) := by
  unfold Machine.assignSeats
  refine .showSpare ?_
  exact .foldl h.clearSeats.showUsable (fun _ _ h1 => .ite h1.seatTile h1.setTile) _

theorem CountKept.hoStrike {t} (h : CountKept s₀ s) : CountKept s₀ (hoStrike t s) := h.upd

theorem CountKept.slotMissed {t a} (h : CountKept s₀ s) : CountKept s₀ (slotMissed t a s) := .ite h h.wrBytes

theorem CountKept.pairRedo {run missed} (h : CountKept s₀ s) : CountKept s₀ (pairRedo run missed s) := .ite h h.upd

theorem CountKept.tileCheck {inp t} (h : CountKept s₀ s) : CountKept s₀ (tileCheck inp t s) := by
  unfold Machine.tileCheck
  split
  · exact h
  · extract_lets _ _ _ _ _ _ _ s1 s2 s3 _ s4
    have h1 : CountKept s₀ s1 := h.setF.setF
    have h2 : CountKept s₀ s2 := .ite h1.raise h1
    have h3 : CountKept s₀ s3 := .ite h (.ite h2.cnt.raise.hoStrike h2)
    have h4 : CountKept s₀ s4 := .ite h3 (.hoStrike (.raise (.cntAdd (.pairRedo (h3.forEach fun _ _ h5 => h5.slotMissed)))))
    exact .tileMod (.ite h4.raise.hoStrike h4)

theorem CountKept.showHo {st h'} (h : CountKept s₀ s) : CountKept s₀ (showHo st h' s) := h.setF.setF.setF.setF.setF

theorem CountKept.hoStart {h'} (h : CountKept s₀ s) : CountKept s₀ (hoStart h' s) := h.upd.showHo.setTile

theorem CountKept.sliceEnd (h : CountKept s₀ s) : CountKept s₀ (sliceEnd s) := h.setF.setF.upd

theorem CountKept.hoAbort {reason b h'} (h : CountKept s₀ s) : CountKept s₀ (hoAbort reason b h' s) := by
  unfold Machine.hoAbort
  extract_lets _ _ s1 s2 s3
  have h1 : CountKept s₀ s1 := h.upd.setF.setF
  have h2 : CountKept s₀ s2 := .raise (.ite h1.setTile h1)
  have h3 : CountKept s₀ s3 := .ite h2.sliceEnd h2
  exact .ite h3 h3.recoverHandover

theorem CountKept.copyWords {dst src n} (h : CountKept s₀ s) : CountKept s₀ (copyWords dst src n s) := h.wrBytes

theorem CountKept.hoLoad (h : CountKept s₀ s) : CountKept s₀ (hoLoad s) := by
  unfold Machine.hoLoad
  split
  · exact h
  · extract_lets
    refine .ite h ?_
    refine .ite ?_ h.copyWords
    refine .ite h ?_
    split
    · exact .ite h.writeSteps.writeSteps h.writeSteps
    · exact h.writeSteps

theorem CountKept.hoTakeBack {u} (h : CountKept s₀ s) : CountKept s₀ (hoTakeBack u s) := .upd (h.forEach fun _ _ h1 => h1.wr)

theorem CountKept.hoSettle {u} (h : CountKept s₀ s) : CountKept s₀ (hoSettle u s) := .ite h.hoTakeBack.hoAbort h.setBit

theorem CountKept.sliceDrop (h : CountKept s₀ s) : CountKept s₀ (sliceDrop s) := by
  unfold Machine.sliceDrop
  split
  · exact h
  · exact .ite h.setTile.showSpare.sliceEnd.cnt.raise h

theorem CountKept.stagedDrop (h : CountKept s₀ s) : CountKept s₀ (stagedDrop s) :=
  .ite h.pourWithdraw.stagingEmpty.patResult.setBit h

theorem CountKept.toFallback {t} (h : CountKept s₀ s) : CountKept s₀ (toFallback t s) := by
  unfold Machine.toFallback
  extract_lets s1
  have h1 : CountKept s₀ s1 := h.markRegion.stagedDrop.showSpare.noSpare
  exact .ite h1.upd h1.assignSeats

theorem CountKept.lossHandover {t q} (h : CountKept s₀ s) : CountKept s₀ (lossHandover t q s) := by
  unfold Machine.lossHandover
  extract_lets s1
  have h1 : CountKept s₀ s1 := by
    unfold s1
    split
    · exact h.hoAbort
    · exact h
  exact h1.convToSeats.hoStart

theorem CountKept.seatLost {t q} (h : CountKept s₀ s) : CountKept s₀ (seatLost t q s) := by
  unfold Machine.seatLost
  extract_lets _ _ _ s1
  have h1 : CountKept s₀ s1 := .ite h.tileMod.upd h.tileMod
  refine .ite (.ite h1.markRegion.upd h1.markRegion.assignSeats) ?_
  exact .ite (.ite h1.sliceDrop.lossHandover h1.sliceDrop.copyWords.markRegion.seatTile.showSpare.noSpare) h1.sliceDrop.toFallback

theorem CountKept.tileLost {t} (h : CountKept s₀ s) : CountKept s₀ (tileLost t s) := by
  unfold Machine.tileLost
  refine .ite h ?_
  split
  · exact h.seatLost
  · extract_lets s1 s2
    have h1 : CountKept s₀ s1 := by
      unfold s1
      split
      · exact .ite h.hoAbort h
      · exact h
    have h2 : CountKept s₀ s2 := by
      unfold s2
      split
      · exact .ite h1.sliceEnd h1
      · exact h1
    exact .noSpare (.showSpare (.markRegion (.ite h2.convToSeats h2)))

theorem CountKept.ranNow (h : CountKept s₀ s) : CountKept s₀ (ranNow s) := h.upd

theorem CountKept.tileChecks {inp} (h : CountKept s₀ s) : CountKept s₀ (tileChecks inp s) := by
  unfold Machine.tileChecks
  extract_lets s1
  have h1 : CountKept s₀ s1 := h.forNat fun _ _ h2 => h2.tileCheck
  split
  · exact h1.upd.hoSettle
  · exact h1

theorem CountKept.seqStrobe {inp} (h : CountKept s₀ s) : CountKept s₀ (seqStrobe inp s) := by
  unfold Machine.seqStrobe
  exact h.tileChecks.ranNow.hoLoad.forNat fun _ _ h1 => .ite h1 (.ite h1.tileLost h1)

theorem CountKept.runnerStruck {t} (h : CountKept s₀ s) : CountKept s₀ (runnerStruck t s) := .hoStrike (.ite h h.tileMod)

/-! ### The Flask link -/

theorem CountKept.syncEnter {v} (h : CountKept s₀ s) : CountKept s₀ (syncEnter v s) := h.upd.setF

theorem CountKept.snapDrop (h : CountKept s₀ s) : CountKept s₀ (snapDrop s) := .upd (.ite h.pourWithdraw h)

theorem CountKept.notReady {reason} (h : CountKept s₀ s) : CountKept s₀ (notReady reason s) := by
  unfold Machine.notReady
  extract_lets _ s1
  have h1 : CountKept s₀ s1 := h.snapDrop.syncEnter.setF
  exact .ite h1.raise h1

theorem CountKept.untimedApply {it} (h : CountKept s₀ s) : CountKept s₀ (untimedApply it s) := by
  unfold Machine.untimedApply
  split
  · exact h.applyReg
  · exact h.objCmdPlace
  · exact .ite h h.setF
  · exact h

theorem CountKept.stageRec {src item litem needed g} (h : CountKept s₀ s) : CountKept s₀ (stageRec src item litem needed g s) :=
  h.objMod

theorem CountKept.linkStrobe (h : CountKept s₀ s) : CountKept s₀ (linkStrobe s) := by
  unfold Machine.linkStrobe
  extract_lets _ _ _ _ s1
  have h1 : CountKept s₀ s1 := .upd (.ite h.setF.cnt h.setF)
  exact .ite (.ite h1.setF.syncEnter h1.setF) h1

theorem CountKept.syncStrobe (h : CountKept s₀ s) : CountKept s₀ (syncStrobe s) := by
  unfold Machine.syncStrobe
  extract_lets
  refine .ite (.ite h.notReady h) ?_
  split
  · exact .ite h.snapDrop.cnt.syncEnter.flkSend h
  · exact .ite h h.notReady
  · exact .ite h h.notReady
  · exact h

theorem CountKept.snapStrobe (h : CountKept s₀ s) : CountKept s₀ (snapStrobe s) := .ite h.upd.flkSend.flkSend h

theorem CountKept.heldStrobe (h : CountKept s₀ s) : CountKept s₀ (heldStrobe s) := by
  unfold Machine.heldStrobe
  extract_lets
  refine h.upd.forEach fun _ _ h1 => ?_
  extract_lets s1
  have h2 : CountKept s₀ s1 := by
    unfold s1
    split
    · exact .ite h1.journalReg h1
    · exact h1
  exact h2.untimedApply

theorem CountKept.flkStrobe (h : CountKept s₀ s) : CountKept s₀ (flkStrobe s) := by
  unfold Machine.flkStrobe
  extract_lets _ _ _ _ _ _ s1 _ _ _ s2
  have h1 : CountKept s₀ s1 := h.upd.linkStrobe.syncStrobe.upd
  have h2 : CountKept s₀ s2 := .upd (.flkSend (.ite h1 h1.flkSend))
  exact .ite h.upd (.mirrorResend (.snapStrobe (.ite h2.flkSend h2)))

/-! ### Manager and workers -/

theorem CountKept.workerConfirm {obj q} (h : CountKept s₀ s) : CountKept s₀ (workerConfirm obj q s) := by
  unfold Machine.workerConfirm
  extract_lets _ _ s1 _ _ s2
  have h1 : CountKept s₀ s1 := by
    unfold s1
    split
    · exact h.dropItem.flkConfirm
    · exact h
  have h2 : CountKept s₀ s2 := .acceptRec (.ite h1.objMod h1)
  exact .ite h2.cnt.raise h2

theorem CountKept.workerDiscard {obj q} (h : CountKept s₀ s) : CountKept s₀ (workerDiscard obj q s) := by
  unfold Machine.workerDiscard
  extract_lets s1
  have h1 : CountKept s₀ s1 := by
    unfold s1
    split
    · exact h.dropItem.flkDiscard
    · exact h
  exact h1.dropRefused

theorem CountKept.workerMod {w f} (h : CountKept s₀ s) : CountKept s₀ (workerMod w f s) := h.upd

theorem CountKept.workerRateRefused {w} (h : CountKept s₀ s) : CountKept s₀ (workerRateRefused w s) := h.workerMod.setF.setF

theorem CountKept.joinObject {x} (h : CountKept s₀ s) : CountKept s₀ (joinObject x s) := .ite h h.objMod

theorem CountKept.joinReplay {x} (h : CountKept s₀ s) : CountKept s₀ (joinReplay x s) := by
  unfold Machine.joinReplay
  extract_lets _ _ _ _ s1
  have h1 : CountKept s₀ s1 := .ite h h.stageRec
  refine .ite h ?_
  split
  · exact .ite h1.workerConfirm h1.workerDiscard
  · exact h1

theorem CountKept.joinInstall (h : CountKept s₀ s) : CountKept s₀ (joinInstall s) := by
  unfold Machine.joinInstall
  refine .ladleSend ?_
  refine .upd ?_
  exact .forEach (h.forEach fun _ _ h1 => h1.joinObject) fun _ _ h2 => h2.joinReplay

theorem CountKept.joinSnapshot (h : CountKept s₀ s) : CountKept s₀ (joinSnapshot s) :=
  .ite h (h.ladleSendAll.ladleSend.forEach fun _ _ h1 => h1.workerMod)

theorem CountKept.managerStrobe (h : CountKept s₀ s) : CountKept s₀ (managerStrobe s) := by
  unfold Machine.managerStrobe
  refine .joinSnapshot ?_
  refine .forNat (.ladleSendAll (.upd (.ladleSendAll (.cntAdd (.showMembers ?_))))) fun _ _ h3 => .ite h3.setF.workerMod h3
  exact .forEach (h.forEach fun _ _ h1 => h1.workerRateRefused) fun _ _ h2 => h2.setF.setF.workerMod.setBit.cnt

theorem CountKept.workerStrobe (h : CountKept s₀ s) : CountKept s₀ (workerStrobe s) := .ladleSendAll (.upd (.ite h.joinInstall h))

theorem CountKept.hierStrobe (h : CountKept s₀ s) : CountKept s₀ (hierStrobe s) := by
  unfold Machine.hierStrobe
  extract_lets s1
  have h1 : CountKept s₀ s1 := .ite h.workerStrobe (.ite h.managerStrobe h)
  exact .ite h (.ite h1 h1.ladleSend)

/-! ### The claim bus -/

theorem CountKept.claimStrobe (h : CountKept s₀ s) : CountKept s₀ (claimStrobe s) := .ite h.upd h.upd.setF

/-! ### The control fabric -/

theorem CountKept.signal {v} (h : CountKept s₀ s) : CountKept s₀ (signal v s) := h.upd

theorem CountKept.sliceFatal (h : CountKept s₀ s) : CountKept s₀ (sliceFatal s) := by
  unfold Machine.sliceFatal
  split
  · exact .ite h.upd.sliceEnd.cnt.raise h
  · exact h
  · exact h.sliceEnd.cnt.raise

theorem CountKept.raiseFatal {e} (h : CountKept s₀ s) : CountKept s₀ (raiseFatal e s) := h.raise.dacFatal.sliceFatal

theorem CountKept.frameWork (h : CountKept s₀ s) : CountKept s₀ (frameWork s) :=
  .apdFrame (.dacFrame (h.forNat fun _ _ h1 => h1.txSettle))

theorem CountKept.eccHit {a} (h : CountKept s₀ s) : CountKept s₀ (eccHit a s) := by
  unfold Machine.eccHit
  refine .ite h.eccRecord.raiseFatal ?_
  refine .ite h.eccRecord.raise.runnerStruck ?_
  exact .raise (.wrWord72 (.ite h.eccRecord.hoStrike h.eccRecord))

theorem CountKept.blockTick (h : CountKept s₀ s) : CountKept s₀ (blockTick s) := .ite h.upd.signal h.upd

theorem CountKept.renderBlock {inp} (h : CountKept s₀ s) : CountKept s₀ (renderBlock inp s) := by
  unfold Machine.renderBlock
  extract_lets _ _ _ s1 s2 _ _ s3
  have h1 : CountKept s₀ s1 := h.upd.pdmStrobe
  have h2 : CountKept s₀ s2 := .ite h1.pairStage h1
  have h3 : CountKept s₀ s3 := .flkStrobe (.rotateOut (.rxStrobe (.asrcAssign (.ite h2.sprueStage h2.capTail))))
  exact .txStrobe (.ite h3.speakerStages h3)

theorem CountKept.boundaryWork (h : CountKept s₀ s) : CountKept s₀ (boundaryWork s) := by
  unfold Machine.boundaryWork
  extract_lets _ s1
  have h1 : CountKept s₀ s1 := .setF (.takeShadows (.heldStrobe (.ite h h.geoStrobe)))
  exact .segmentsCurrent (.hierStrobe (.claimStrobe (.ite h1.rteShow h1)))

theorem CountKept.blockChecks {inp} (h : CountKept s₀ s) : CountKept s₀ (blockChecks inp s) :=
  .seqStrobe (h.eccCorrectable.forEach fun _ _ h1 => h1.eccHit)

end Sys2Proof.Machine
end

section
/-! SUPPORT. The media count over frames and strobes (R45, R47, R55, R254, R258) (O2, O24). -/

namespace Sys2Proof.Machine

theorem forNat_succ (n : Nat) (f : Nat → State → State) (s : State) : forNat (n + 1) f s = f n (forNat n f s) := by
  unfold forNat
  rw [List.range_succ, List.foldl_append]
  rfl

/-- The state with the media count, the frames played out and the stamp of the strobe given. -/
def countAt (msi frames ref : Nat) (s : State) : State :=
  { s with msi := msi, time := { s.time with frames := frames, ref := ref } }

theorem countKept_frameTick (s : State) :
    CountKept (countAt (s.msi + 1) (s.time.frames + 1) s.time.ref s) (frameTick s) := by
  have ticked : CountKept (countAt (s.msi + 1) (s.time.frames + 1) s.time.ref s)
      { eccWindow 1 s with
        msi := s.msi + 1
        time := { s.time with frames := s.time.frames + 1, since := s.time.since + 1 } } := ⟨rfl, rfl, rfl⟩
  exact ticked.frameWork

/-- Frames played one after another move the count by their number. -/
theorem countKept_frameTicks (n : Nat) (s : State) :
    CountKept (countAt (s.msi + n) (s.time.frames + n) s.time.ref s) (forNat n (fun _ s => frameTick s) s) := by
  induction n with
  | zero => exact ⟨rfl, rfl, rfl⟩
  | succ n ih =>
    obtain ⟨hmsi, hframes, href⟩ := ih
    rw [forNat_succ]
    generalize forNat n (fun _ s => frameTick s) s = u at *
    have tick := countKept_frameTick u
    refine ⟨?_, ?_, tick.ref.trans href⟩
    · rw [tick.msi]
      exact congrArg (· + 1) hmsi
    · rw [tick.frames]
      exact congrArg (· + 1) hframes

/-- The strobe takes the count to the next block. -/
theorem countKept_strobeTime (refCycles : Nat) (s : State) :
    CountKept (countAt ((s.msi / 16 + 1) * 16) (s.time.frames + ((s.msi / 16 + 1) * 16 - s.msi))
      (s.time.ref + 32 * refCycles) s) (strobeTime refCycles s) := by
  unfold strobeTime
  extract_lets next s1 _ s2 s3 _ s4 s5 s6 s7
  have h1 : CountKept s s1 := (CountKept.refl s).eccWindow
  have h3 : CountKept s2 s3 := (CountKept.refl s2).forNat fun _ _ hx => hx.tbMod.holdSeconds
  have h4 : CountKept (countAt next (s.time.frames + (next - s.msi)) (s.time.ref + 32 * refCycles) s) s4 := by
    refine ⟨h3.msi, h3.frames.trans ?_, congrArg (· + 32 * refCycles) (h3.ref.trans h1.ref)⟩
    exact congrArg₂ (fun a b => a + (next - b)) h1.frames h1.msi
  have h7 : CountKept _ s7 := h4.loopStep.showPhase.judgePhase.loopFollow
  split
  · exact .ite h7.updTime h7
  · exact h7

/-- A block strobe plays out the block and begins the next one. -/
theorem countKept_blockStrobe (inp : StrobeIn) (s : State) :
    CountKept (countAt (16 * (blk s + 1)) (s.time.frames + (16 - s.msi % 16)) (s.time.ref + 32 * inp.refCycles) s)
      (blockStrobe inp s) := by
  have flushed := (CountKept.refl s).ladleFlush
  have finished : CountKept _ (finishBlock (ladleFlush s)) := countKept_frameTicks _ (ladleFlush s)
  have struck := countKept_strobeTime inp.refCycles (finishBlock (ladleFlush s))
  have timed : CountKept (countAt (16 * (blk s + 1)) (s.time.frames + (16 - s.msi % 16))
      (s.time.ref + 32 * inp.refCycles) s) (strobeTime inp.refCycles (finishBlock (ladleFlush s))) := by
    have hmsi : (finishBlock (ladleFlush s)).msi = s.msi + (15 - s.msi % 16) := by
      rw [finished.msi]
      exact congrArg (fun m => m + (15 - m % 16)) flushed.msi
    have hframes : (finishBlock (ladleFlush s)).time.frames = s.time.frames + (15 - s.msi % 16) := by
      rw [finished.frames]
      exact congrArg₂ (fun a m => a + (15 - m % 16)) flushed.frames flushed.msi
    refine ⟨struck.msi.trans ?_, struck.frames.trans ?_, struck.ref.trans ?_⟩
    · change ((finishBlock (ladleFlush s)).msi / 16 + 1) * 16 = 16 * (s.msi / 16 + 1)
      rw [hmsi]
      omega
    · change (finishBlock (ladleFlush s)).time.frames + (((finishBlock (ladleFlush s)).msi / 16 + 1) * 16 -
        (finishBlock (ladleFlush s)).msi) = s.time.frames + (16 - s.msi % 16)
      rw [hmsi, hframes]
      omega
    · exact congrArg (· + 32 * inp.refCycles) (finished.ref.trans flushed.ref)
  unfold blockStrobe
  extract_lets _ _ s1
  have h1 : CountKept _ s1 := timed.autoAck.blockTick.blockChecks.boundaryWork
  exact .frameWork (.apdStrobe (.dacStrobe (.ite h1.flkStrobe.dacFatal.sliceFatal h1.renderBlock)))

end Sys2Proof.Machine
end

section
/-! SUPPORT. Steps of the media clock: a frame, a seating, a second, a strobe (R45, R47, R55, R254, R258) (O2, O24). -/

namespace Sys2Proof.Machine

variable {s : State}

theorem step_of_pending_nil (h : s.pending = []) : step s = .next (idleTick s) := by
  unfold step
  rw [h]

theorem idleTick_inside (hclk : clocked s = true) (hin : s.msi % 16 ≠ 15) : idleTick s = frameTick s := by
  have hnext : ((s.msi + 1) % 16 != 0) = true := bne_iff_ne.mpr (by omega)
  unfold idleTick
  rw [hclk, hnext]
  rfl

theorem idleTick_waiting (h : clocked s = false ∨ s.msi % 16 = 15) : idleTick s = s := by
  unfold idleTick
  obtain hclk | hlast := h
  · rw [hclk]
    rfl
  · have hnext : ((s.msi + 1) % 16 != 0) = false := bne_eq_false_iff_eq.mpr (by omega)
    rw [hnext, Bool.and_false]
    rfl

/-- Settles O2: inside the block an idle step is one frame, which moves the count by one and the queue not at all. -/
theorem emptyQueueRunsOneFrame : Obligations.EmptyQueueRunsOneFrame := by
  unfold Obligations.EmptyQueueRunsOneFrame
  refine ⟨?_, ?_⟩
  · intro s hq hclk hin
    have tick := countKept_frameTick s
    have hmsi : (frameTick s).msi = s.msi + 1 := tick.msi
    have hblk : blk (frameTick s) = blk s := by
      unfold blk
      rw [hmsi]
      omega
    refine ⟨frameTick s, ?_, hmsi, hblk, (kept_frameTick (kept_refl s)).queue.trans hq, tick.frames⟩
    rw [step_of_pending_nil hq, idleTick_inside hclk hin]
  · intro s hq hwait
    rw [step_of_pending_nil hq, idleTick_waiting hwait]

/-- The state of the loop that the followed time base gives at a seating: HOLDOVER and REQUAL go with it, else LOCKED. -/
def seatedLoopState (tb : Nat) : Nat :=
  match tb with
  | 3 => 2
  | 4 => 3
  | _ => 1

theorem seatedLoopState_of_usable {n : Nat} (h : tbUsable s n = true) : seatedLoopState (tbState s n) = 1 := by
  unfold tbUsable at h
  rw [Bool.or_eq_true, beq_iff_eq, beq_iff_eq] at h
  obtain h | h := h <;> rw [h] <;> rfl

/-- The registers a seating writes. -/
def seatRegs : List Nat := [R.TSU_MPHASE, R.TSU_ML_STATE, R.TSU_ML_FREQ, R.TSU_STAT]

/-- A completed seating shows SEATED, the loop's state and LOCK. -/
theorem loopSeated_shows (s : State) :
    getF (loopSeated s) F.TSU_ML_STATE_SEATED = 1 ∧
    getF (loopSeated s) F.TSU_ML_STATE_STATE = seatedLoopState (tbState s (followTb s)) ∧
    stBit (loopSeated s) F.TSU_STAT_LOCK = 1 := by
  have hlt : seatedLoopState (tbState s (followTb s)) < 4 := by
    unfold seatedLoopState
    split <;> decide
  unfold loopSeated
  extract_lets f s1 s2
  have hstate : getF s1 F.TSU_ML_STATE_STATE = seatedLoopState (tbState s (followTb s)) :=
    getF_setF_of_lt s _ (by decide) hlt
  have hfreq : getF s2 F.TSU_ML_STATE_STATE = getF s1 F.TSU_ML_STATE_STATE := congrArg (fget · _ _) (rd_wr_of_ne s1 _ (by decide))
  refine ⟨?_, ?_, stBit_setBit _ _ 0 (by decide)⟩
  · rw [setBit, getF_setF_of_apart _ _ (by decide), getF_setF_of_apart _ _ (by decide), getF_setF_of_lt _ _ (by decide) (by decide)]
  · rw [setBit, getF_setF_of_apart _ _ (by decide), getF_setF_of_apart _ _ (by decide), getF_setF_of_apart _ _ (by decide), hfreq, hstate]

theorem regsOnly_loopSeated (s : State) : RegsOnly s (loopSeated s) := by
  unfold loopSeated
  exact (RegsOnly.refl s).setF.wr.setF.setF.setBit

theorem KeptBut.loopSeated {s₀ : State} (h : KeptBut seatRegs s₀ s) : KeptBut seatRegs s₀ (loopSeated s) :=
  ((((h.setF (by decide)).wr (by decide)).setF (by decide)).setF (by decide)).setBit (by decide)

theorem execMediaSeat_of_seatable (hrun : running s = false) (hsync : syncSeats s = false)
    (hacq : getF s F.TSU_ML_STATE_STATE = 0) (htb : tbUsable s (followTb s) = true) :
    execMediaSeat s = .next (loopSeated (seatAt (derivedMsi (epochLoad s)) (epochLoad s))) := by
  unfold execMediaSeat
  rw [hrun, hsync, hacq, htb]
  rfl

/-- The phase register is none of a time base's. -/
theorem tbState_seatAt (d : Int) (s : State) (n : Nat) : tbState (seatAt d s) n = tbState s n := by
  have hne : R.TSU_TB_STATE n ≠ R.TSU_MPHASE := by
    unfold R.TSU_TB_STATE R.TSU_MPHASE
    omega
  exact congrArg (fget · _ _) (rd_wr_of_ne _ _ hne)

/-- A seating changes no register that decides which time base the loop follows. -/
theorem followTb_seatAt (d : Int) (s : State) : followTb (seatAt d s) = followTb s := by
  have hrun : running (seatAt d s) = running s :=
    congrArg (fun w => fget w F.PAT_STATE_LIVE.hi F.PAT_STATE_LIVE.lo != 0) (rd_wr_of_ne _ _ (by decide))
  have hmtb : getF (seatAt d s) F.TSU_MEDIA_CFG_MTB = getF s F.TSU_MEDIA_CFG_MTB :=
    congrArg (fget · _ _) (rd_wr_of_ne _ _ (by decide))
  unfold followTb
  rw [hrun, hmtb]
  rfl

theorem mediaSeat_takes_derived (hrun : running s = false) (hsync : syncSeats s = false)
    (hacq : getF s F.TSU_ML_STATE_STATE = 0) (htb : tbUsable s (followTb s) = true) :
    ∃ t, exec .mediaSeat s = .next t ∧ t.time.e = rdS64 s R.TSU_MEPOCH_LO R.TSU_MEPOCH_HI ∧
      t.msi = code 64 (derivedAt (fsInt s) (rdS64 s R.TSU_MEPOCH_LO R.TSU_MEPOCH_HI) (tbNow s (followTb s))) ∧
      getF t F.TSU_ML_STATE_SEATED = 1 ∧ getF t F.TSU_ML_STATE_STATE = 1 ∧ stBit t F.TSU_STAT_LOCK = 1 ∧
      Frame seatRegs s t { s with regs := t.regs, msi := t.msi, time := t.time } := by
  refine ⟨_, execMediaSeat_of_seatable hrun hsync hacq htb, ?_⟩
  generalize hu : seatAt (derivedMsi (epochLoad s)) (epochLoad s) = u
  have hstate : seatedLoopState (tbState u (followTb u)) = 1 := by
    subst hu
    rw [followTb_seatAt, tbState_seatAt]
    exact seatedLoopState_of_usable htb
  have kept : KeptBut seatRegs s u := by
    subst hu
    exact ((KeptBut.refl _ s).of_regs rfl).wr (by decide)
  obtain ⟨hseated, hloop, hlock⟩ := loopSeated_shows u
  have hkept := kept.loopSeated
  obtain ⟨r, heq⟩ := regsOnly_loopSeated u
  rw [heq] at hseated hloop hlock hkept ⊢
  subst hu
  exact ⟨rfl, rfl, hseated, hloop.trans hstate, hlock, rfl, hkept, sameMem_of_mem rfl⟩

theorem execMlRequalLock_of_good (h : getF s F.TSU_ML_STATE_STATE = 3 ∧ 200000000 ≤ s.time.mlGood) :
    execMlRequalLock s = .next (setF s F.TSU_ML_STATE_STATE 1) :=
  congrArg _ (if_pos h)

theorem execPpsOutSecond_of_enabled (h : getF s F.TSU_CFG_PPS_OUT_EN = 1 ∧ tbUsable s (getF s F.TSU_CFG_PPS_TB) = true) :
    execPpsOutSecond s = .next { s with time := { s.time with
      ppsHigh := some (nowStamp s + getF s F.TSU_CFG_PPS_WIDTH * stampsPerMs) } } :=
  congrArg _ (if_pos h)

/-- A pulse that ends later is high. -/
theorem ppsOut_of_later {stop : Nat} (h : nowStamp s < stop) :
    ppsOut { s with time := { s.time with ppsHigh := some stop } } = true :=
  decide_eq_true h

/-- Settles O24: a seating writes the derived count, a strobe the next block's, and PPS_OUT ends later than it begins. -/
theorem mediaCountSeatsAndRuns : Obligations.MediaCountSeatsAndRuns := by
  unfold Obligations.MediaCountSeatsAndRuns
  refine ⟨?_, ?_, ?_, ?_, ?_⟩
  · rintro s ⟨hrun, hsync⟩ ⟨hacq, htb⟩
    exact mediaSeat_takes_derived hrun hsync hacq htb
  · intro s h
    exact ⟨_, execMlRequalLock_of_good h, getF_setF_of_lt s _ (by decide) (by decide),
      (RegsOnly.refl s).setF.frame ((KeptBut.refl _ s).setF (List.mem_singleton_self _))⟩
  · intro s h hwidth
    have hlater : nowStamp s < nowStamp s + getF s F.TSU_CFG_PPS_WIDTH * stampsPerMs :=
      Nat.lt_add_of_pos_right (Nat.mul_pos hwidth (by decide))
    exact ⟨_, execPpsOutSecond_of_enabled h, ppsOut_of_later hlater, rfl, rfl, (KeptBut.refl _ s).of_regs rfl,
      sameMem_of_mem rfl⟩
  · intro inp s hclk
    have struck := countKept_blockStrobe inp s
    refine ⟨blockStrobe inp s, ?_, struck.msi, struck.frames, struck.ref⟩
    exact congrArg _ (if_pos hclk)
  · intro inp s hclk
    exact congrArg _ (if_neg (Bool.eq_false_iff.mp hclk))

end Sys2Proof.Machine
end

section
/-! SUPPORT. A command recorded in the journal (R416): what is read of the state that it leaves. -/

namespace Sys2Proof.Machine

/-- t is s with a change recorded. -/
structure Noted (s t : State) : Prop where
  parts : ∃ r j, t = { s with regs := r, jnl := j }
  kept : KeptBut jnlRegs s t

theorem noted_journalReg (via : Src) (off : Nat) (v : Word) (s : State) : Noted s (journalReg via off v s) :=
  ⟨journalReg_eq_with via off v s, keptBut_journalReg via off v s⟩

variable {s t u : State}

theorem Noted.getF (h : Noted s t) (f : Fld) (hf : f.off ∉ jnlRegs) : getF t f = getF s f := h.kept.getF hf

theorem Noted.rdN (h : Noted s t) (o : Nat) (ho : o ∉ jnlRegs) : rdN t o = rdN s o := congrArg BitVec.toNat (h.kept o ho)

theorem Noted.msi (h : Noted s t) : t.msi = s.msi := by
  obtain ⟨r, j, rfl⟩ := h.parts
  rfl

theorem Noted.cap (h : Noted s t) : t.cap = s.cap := by
  obtain ⟨r, j, rfl⟩ := h.parts
  rfl

theorem Noted.pat (h : Noted s t) : t.pat = s.pat := by
  obtain ⟨r, j, rfl⟩ := h.parts
  rfl

theorem Noted.logsOnly (h : Noted s t) : LogsOnly s t := by
  obtain ⟨r, j, rfl⟩ := h.parts
  exact ⟨r, s.err, j, rfl⟩

theorem Noted.sameMem (h : Noted s t) : SameMem s t := sameMem_of_mem h.logsOnly.mem

theorem Noted.isPair (h : Noted s t) : isPair t = isPair s := congrArg (· == 1) (h.getF F.CLM_CFG_EN (by decide))

theorem Noted.inTime (h : Noted s t) (k : Nat) : inTime t k = inTime s k := by
  unfold Machine.inTime blk leadCmd
  rw [h.msi, h.isPair]

theorem Noted.isLate (h : Noted s t) (m : Nat) : isLate t m = isLate s m := by
  unfold Machine.isLate blk leadCmd
  rw [h.msi, h.isPair]

/-- Registers written after the record. -/
theorem Noted.frame_regs {offs : List Nat} (h : Noted s t) (hu : RegsOnly t u) (kept : KeptBut offs s u) :
    Frame offs s u { s with regs := u.regs, jnl := u.jnl } := by
  refine ⟨?_, kept, fun a => (hu.sameMem a).trans (h.sameMem a)⟩
  obtain ⟨r, j, rfl⟩ := h.parts
  obtain ⟨r', rfl⟩ := hu
  rfl

theorem isPassive_of_lone (h : isPair s = false) : isPassive s = false := by
  unfold isPassive
  rw [h, Bool.false_and]

/-- A lone unit mirrors nothing. -/
theorem mirrorCommand_of_lone (h : isPair s = false) (it : Item) (deadline : Nat) :
    mirrorCommand it deadline s = (false, s) := by
  have hactive : isActive s = false := by
    unfold isActive
    rw [h, Bool.false_and]
  unfold mirrorCommand
  rw [hactive]
  rfl

end Sys2Proof.Machine
end

section
/-! SUPPORT. What a trigger of automatic scaling changes (R211, R213). -/

namespace Sys2Proof.Machine

variable {s t : State}

/-- The registers that a period's start may write. -/
def ascRegs : List Nat := [R.SPK_ASC_CNT, R.SPK_STAT] ++ errRegs

/-- Of the state, only registers, error engine, journal and automatic scaling may differ. -/
def ScaleLogsOnly (s t : State) : Prop := ∃ r e j a, t = { s with regs := r, err := e, jnl := j, asc := a }

theorem scaleLogsOnly_ascEnter (a : Asc) (s : State) : ScaleLogsOnly s (ascEnter a s) := by
  obtain ⟨r, e, j, h⟩ := logsOnly_raise .spkScaleOn 0 (cnt { s with asc := a } R.SPK_ASC_CNT)
  exact ⟨r, e, j, a, h⟩

theorem scaleLogsOnly_ascTrigger (cause first stop : Nat) (hold : Bool) (s : State) :
    ScaleLogsOnly s (ascTrigger cause first stop hold s) := by
  unfold ascTrigger
  extract_lets a
  split
  · exact scaleLogsOnly_ascEnter _ s
  · exact ⟨_, _, _, _, rfl⟩
  · exact scaleLogsOnly_ascEnter _ s
  · exact ⟨_, _, _, _, rfl⟩

theorem keptBut_ascEnter (a : Asc) (s : State) : KeptBut ascRegs s (ascEnter a s) := by
  have counted : KeptBut ascRegs s (cnt { s with asc := a } R.SPK_ASC_CNT) := ((KeptBut.refl _ s).of_regs rfl).cntAdd (by decide)
  refine counted.raise (by decide) (by decide) ?_
  rintro f ⟨⟩
  decide

theorem keptBut_ascTrigger (cause first stop : Nat) (hold : Bool) (s : State) :
    KeptBut ascRegs s (ascTrigger cause first stop hold s) := by
  unfold ascTrigger
  extract_lets a
  split
  · exact keptBut_ascEnter _ s
  · exact (KeptBut.refl _ s).of_regs rfl
  · exact keptBut_ascEnter _ s
  · exact (KeptBut.refl _ s).of_regs rfl

end Sys2Proof.Machine
end

section
/-! SUPPORT. Capture commands on a lone unit, and a capture's run (R334, R335) (O32). -/

namespace Sys2Proof.Machine

variable {s t : State}

/-! ### Exchanging the capture: the registers stay -/

theorem getF_withCap (s : State) (c : Option CapRun) (f : Fld) : getF { s with cap := c } f = getF s f := rfl

theorem rdN_withCap (s : State) (c : Option CapRun) (o : Nat) : rdN { s with cap := c } o = rdN s o := rfl

theorem KeptBut.withCap {offs : List Nat} (h : KeptBut offs s t) (c : Option CapRun) : KeptBut offs s { t with cap := c } :=
  h.of_regs rfl

theorem RegsOnly.withCap {u : State} {c : Option CapRun} (h : RegsOnly { t with cap := c } u) (c' : Option CapRun) :
    RegsOnly { t with cap := c' } { u with cap := c' } := by
  obtain ⟨r, rfl⟩ := h
  exact ⟨r, rfl⟩

/-! ### The result of a command -/

theorem RegsOnly.capResult {cmd reason : Nat} (h : RegsOnly s t) : RegsOnly s (capResult cmd reason t) := h.setF.setF

theorem KeptBut.capResult {offs : List Nat} {cmd reason : Nat} (h : KeptBut offs s t) (ho : R.CAP_STATE ∈ offs) :
    KeptBut offs s (capResult cmd reason t) := (h.setF ho).setF ho

theorem capResult_shows {cmd reason : Nat} (hc : cmd < 16) (hr : reason < 256) (s : State) :
    getF (capResult cmd reason s) F.CAP_STATE_CMD = cmd ∧ getF (capResult cmd reason s) F.CAP_STATE_REASON = reason ∧
    getF (capResult cmd reason s) F.CAP_STATE_STATE = getF s F.CAP_STATE_STATE := by
  unfold capResult
  refine ⟨?_, getF_setF_of_lt _ _ (by decide) hr, ?_⟩
  · rw [getF_setF_of_apart _ _ (by decide), getF_setF_of_lt _ _ (by decide) hc]
  · rw [getF_setF_of_apart _ _ (by decide), getF_setF_of_apart _ _ (by decide)]

/-- The result of a command that also moves the capture's state. -/
theorem capResult_of_state_shows {n cmd reason : Nat} (hn : n < 4) (hc : cmd < 16) (hr : reason < 256) (s : State) :
    getF (capResult cmd reason (setF s F.CAP_STATE_STATE n)) F.CAP_STATE_STATE = n ∧
    getF (capResult cmd reason (setF s F.CAP_STATE_STATE n)) F.CAP_STATE_CMD = cmd ∧
    getF (capResult cmd reason (setF s F.CAP_STATE_STATE n)) F.CAP_STATE_REASON = reason := by
  obtain ⟨hcmd, hreason, hstate⟩ := capResult_shows hc hr (setF s F.CAP_STATE_STATE n)
  exact ⟨hstate.trans (getF_setF_of_lt _ _ (by decide) hn), hcmd, hreason⟩

/-- A refusal shows its command and reason, and leaves the capture as it was. -/
theorem capRefuse_spec {cmd reason : Nat} (hc : cmd < 16) (hr : reason < 256) (h : Noted s t) :
    getF (capRefuse cmd reason t) F.CAP_STATE_CMD = cmd ∧ getF (capRefuse cmd reason t) F.CAP_STATE_REASON = reason ∧
    getF (capRefuse cmd reason t) F.CAP_STATE_STATE = getF s F.CAP_STATE_STATE ∧
    Frame ([R.CAP_STATE, R.CAP_STAT] ++ logRegs) s (capRefuse cmd reason t) { s with
      regs := (capRefuse cmd reason t).regs, jnl := (capRefuse cmd reason t).jnl, err := (capRefuse cmd reason t).err } := by
  obtain ⟨hcmd, hreason, hstate⟩ := capResult_shows hc hr t
  have tie : ∀ f, errTie .pdmCapRefused 0 = some f → f.off = R.CAP_STAT := by rintro f ⟨⟩; rfl
  have raised : KeptBut (R.CAP_STAT :: errRegs) (capResult cmd reason t) (capRefuse cmd reason t) :=
    (KeptBut.refl _ _).raise (by decide) (by decide) fun f hf => by rw [tie f hf]; decide
  have kept : KeptBut ([R.CAP_STATE, R.CAP_STAT] ++ logRegs) s (capRefuse cmd reason t) :=
    ((h.kept.mono (by decide)).capResult (by decide)).trans (raised.mono (by decide))
  have parts : LogsOnly s (capRefuse cmd reason t) := by
    obtain ⟨r, hr⟩ := (RegsOnly.refl t).capResult (cmd := cmd) (reason := reason)
    have shown : LogsOnly t (capResult cmd reason t) := ⟨r, t.err, t.jnl, hr⟩
    exact (h.logsOnly.trans shown).trans (logsOnly_raise _ _ _)
  have hfield : ∀ f : Fld, f.off = R.CAP_STATE → getF (capRefuse cmd reason t) f = getF (capResult cmd reason t) f :=
    fun f hf => raised.getF (by rw [hf]; decide)
  refine ⟨(hfield _ rfl).trans hcmd, (hfield _ rfl).trans hreason, ?_, ?_, kept, sameMem_of_mem parts.mem⟩
  · rw [hfield _ rfl, hstate, h.getF _ (by decide)]
  · obtain ⟨r, e, j, heq⟩ := parts
    rw [heq]

/-! ### What a command is judged by, once it is recorded -/

theorem Noted.capBlock (h : Noted s t) : capBlock t = capBlock s := by
  unfold Machine.capBlock rd64
  rw [h.rdN _ (by decide), h.rdN _ (by decide)]

theorem Noted.capVals (h : Noted s t) : capVals t = capVals s := by
  unfold Machine.capVals
  rw [h.rdN R.CAP_BASE (by decide), h.rdN R.CAP_LEN (by decide), h.getF F.CAP_CFG_CH (by decide),
    h.getF F.CAP_CFG_MEAS (by decide),
    h.rdN R.CAP_STIM (by decide), h.rdN R.CAP_SWEEP_F1 (by decide), h.rdN R.CAP_SWEEP_F2 (by decide),
    h.rdN R.CAP_SWEEP_T (by decide)]

theorem Noted.rate96 (h : Noted s t) : rate96 t = rate96 s := congrArg (· == 1) (h.getF F.TSU_MEDIA_CFG_RATE (by decide))

theorem Noted.fsInt (h : Noted s t) : fsInt t = fsInt s := by
  unfold Machine.fsInt
  rw [h.rate96]

theorem Noted.running (h : Noted s t) : running t = running s := congrArg (· != 0) (h.getF F.PAT_STATE_LIVE (by decide))

theorem Noted.sweepOk (h : Noted s t) : sweepOk t = sweepOk s := by
  unfold Machine.sweepOk
  rw [h.rdN R.CAP_SWEEP_F1 (by decide), h.rdN R.CAP_SWEEP_F2 (by decide), h.rdN R.CAP_SWEEP_T (by decide),
    h.rdN R.CAP_LEN (by decide), h.fsInt]

theorem Noted.stimOk (h : Noted s t) : stimOk t = stimOk s := by
  unfold Machine.stimOk
  rw [h.getF F.CAP_STIM_LVL (by decide), h.getF F.CAP_STIM_TYPE (by decide), h.getF F.CAP_STIM_ORDER (by decide),
    h.getF F.CAP_STIM_REP (by decide), h.sweepOk]

theorem Noted.placedMeets (h : Noted s t) (lo len : Nat) : placedMeets t lo len = placedMeets s lo len := by
  unfold Machine.placedMeets
  rw [h.pat, h.rate96]

theorem Noted.capRangeOk (h : Noted s t) : capRangeOk t = capRangeOk s := by
  unfold Machine.capRangeOk
  rw [h.rdN R.CAP_LEN (by decide), h.rdN R.CAP_BASE (by decide), h.getF F.CAP_CFG_CH (by decide), h.fsInt, h.running, h.stimOk]
  simp only [h.placedMeets]

/-! ### START -/

/-- START finds a capture armed, running or awaiting its commit. -/
def capBusy (s : State) : Bool :=
  getF s F.CAP_STATE_STATE == 1 || getF s F.CAP_STATE_STATE == 2 || s.cap.any (fun c => !c.decided)

/-- What START does on a lone unit, once it is recorded: BUSY, LATE and RANGE in this order (log 64). -/
def loneCapStart (via : Src) (s : State) : State :=
  if capBusy s then capRefuse 1 1 s
  else if isLate s (16 * capBlock s) then capRefuse 1 2 s
  else if !capRangeOk s then capRefuse 1 3 s
  else capStartAccept { s with cap := some (capOpen via (capBlock s) false (capVals s)) }

theorem exec_capStart_of_lone (hp : isPair s = false) (via : Src) :
    exec (.capStart via) s = .next (loneCapStart via (journalReg via R.CAP_CMD 1#32 s)) := by
  change execCapStart via s = _
  unfold execCapStart
  have hp1 : isPair (journalReg via R.CAP_CMD 1#32 s) = false := (noted_journalReg via R.CAP_CMD 1#32 s).isPair.trans hp
  generalize journalReg via R.CAP_CMD 1#32 s = s1 at hp1 ⊢
  have hmirror : ∀ it k c, mirrorCommand it k { s1 with cap := c } = (false, { s1 with cap := c }) :=
    fun it k c => mirrorCommand_of_lone (s := { s1 with cap := c }) hp1 it k
  dsimp only
  rw [isPassive_of_lone hp1, hmirror]
  simp only [Bool.false_eq_true, if_false]
  unfold loneCapStart capBusy
  cases s1.cap <;> rfl

theorem Noted.capBusy (h : Noted s t) : capBusy t = capBusy s := by
  unfold Machine.capBusy
  rw [h.getF _ (by decide), h.cap]

theorem capBusy_of_idle (hcap : s.cap = none) (hstate : getF s F.CAP_STATE_STATE = 0 ∨ getF s F.CAP_STATE_STATE = 3) :
    capBusy s = false := by
  unfold capBusy
  rw [hcap]
  obtain h | h := hstate <;> rw [h] <;> rfl

theorem capBusy_of_taken (hstate : getF s F.CAP_STATE_STATE = 1 ∨ getF s F.CAP_STATE_STATE = 2) : capBusy s = true := by
  unfold capBusy
  obtain h | h := hstate <;> rw [h] <;> rfl

theorem loneCapStart_of_busy {via : Src} (h : capBusy s = true) : loneCapStart via s = capRefuse 1 1 s := if_pos h

theorem loneCapStart_of_refused {via : Src} (h : capBusy s = false)
    (hbad : isLate s (16 * capBlock s) = true ∨ capRangeOk s = false) :
    loneCapStart via s = capRefuse 1 (if isLate s (16 * capBlock s) then 2 else 3) s := by
  unfold loneCapStart
  rw [h]
  cases hlate : isLate s (16 * capBlock s) with
  | true => rfl
  | false =>
    rw [hbad.resolve_left (by rw [hlate]; decide)]
    rfl

theorem loneCapStart_of_accepted {via : Src} (h : capBusy s = false) (hlate : isLate s (16 * capBlock s) = false)
    (hrange : capRangeOk s = true) :
    loneCapStart via s = capStartAccept { s with cap := some (capOpen via (capBlock s) false (capVals s)) } := by
  unfold loneCapStart
  rw [h, hlate, hrange]
  rfl

/-- The capture exchanged and registers written after the record. -/
theorem Noted.frame_cap {offs : List Nat} {u : State} {c : Option CapRun} (h : Noted s t) (hu : RegsOnly { t with cap := c } u)
    (kept : KeptBut offs s u) : Frame offs s u { s with regs := u.regs, jnl := u.jnl, cap := u.cap } := by
  have hmem := hu.sameMem
  refine ⟨?_, kept, fun a => (hmem a).trans (h.sameMem a)⟩
  obtain ⟨r, j, rfl⟩ := h.parts
  obtain ⟨r', rfl⟩ := hu
  rfl

/-- An accepted START arms the capture at position 0. -/
theorem capStartAccept_spec (h : Noted s t) (c : CapRun) :
    let u := capStartAccept { t with cap := some c }
    u.cap = some { c with decided := true } ∧ getF u F.CAP_STATE_STATE = 1 ∧ getF u F.CAP_STATE_CMD = 1 ∧
    getF u F.CAP_STATE_REASON = 0 ∧ rdN u R.CAP_POS = 0 ∧
    Frame ([R.CAP_STATE, R.CAP_POS] ++ jnlRegs) s u { s with regs := u.regs, jnl := u.jnl, cap := u.cap } := by
  generalize hv : wrN { t with cap := some c } R.CAP_POS 0 = v
  have hpos : rdN v R.CAP_POS = 0 := by
    subst hv
    exact rdN_wrN_self _ _ _
  have parts : RegsOnly { t with cap := some c } v := by
    subst hv
    exact (RegsOnly.refl _).wr
  have kept : KeptBut ([R.CAP_STATE, R.CAP_POS] ++ jnlRegs) s v := by
    subst hv
    exact ((h.kept.mono (by decide)).of_regs rfl).wr (by decide)
  have heq : capStartAccept { t with cap := some c } =
      { capResult 1 0 (setF v F.CAP_STATE_STATE 1) with cap := some { c with decided := true } } := by
    subst hv
    rfl
  obtain ⟨hstate, hcmd, hreason⟩ :=
    capResult_of_state_shows (n := 1) (cmd := 1) (reason := 0) (by decide) (by decide) (by decide) v
  have hpos' : rdN (capResult 1 0 (setF v F.CAP_STATE_STATE 1)) R.CAP_POS = 0 := by
    have shown : KeptBut [R.CAP_STATE] v (capResult 1 0 (setF v F.CAP_STATE_STATE 1)) :=
      ((KeptBut.refl _ v).setF (by decide)).capResult (by decide)
    exact (congrArg BitVec.toNat (shown R.CAP_POS (by decide))).trans hpos
  have parts' := ((parts.setF (f := F.CAP_STATE_STATE) (v := 1)).capResult (cmd := 1) (reason := 0)).withCap
    (some { c with decided := true })
  have kept' := (kept.setF (f := F.CAP_STATE_STATE) (v := 1) (by decide)).capResult (cmd := 1) (reason := 0) (by decide)
  rw [heq]
  exact ⟨rfl, (getF_withCap _ _ _).trans hstate, (getF_withCap _ _ _).trans hcmd, (getF_withCap _ _ _).trans hreason,
    (rdN_withCap _ _ _).trans hpos', h.frame_cap parts' (kept'.withCap _)⟩

/-! ### STOP and CANCEL -/

/-- What STOP does on a lone unit, once it is recorded. -/
def loneCapStop (s : State) : State :=
  if isLate s (16 * capBlock s) then capRefuse 2 2 s else capStopAccept (capBlock s) s

theorem exec_capStop_of_lone (hp : isPair s = false) (via : Src) :
    exec (.capStop via) s = .next (loneCapStop (journalReg via R.CAP_CMD 2#32 s)) := by
  change execCapStop via s = _
  unfold execCapStop
  have hp1 : isPair (journalReg via R.CAP_CMD 2#32 s) = false := (noted_journalReg via R.CAP_CMD 2#32 s).isPair.trans hp
  dsimp only
  rw [isPassive_of_lone hp1, mirrorCommand_of_lone hp1]
  rfl

theorem loneCapStop_of_late (h : isLate s (16 * capBlock s) = true) : loneCapStop s = capRefuse 2 2 s := if_pos h

theorem loneCapStop_of_inTime (h : isLate s (16 * capBlock s) = false) : loneCapStop s = capStopAccept (capBlock s) s :=
  if_neg (by rw [h]; decide)

theorem capStopAccept_spec {c : CapRun} (h : Noted s t) (hcap : s.cap = some c) (k : Nat) :
    (capStopAccept k t).cap = some { c with stop := some (min (c.stop.getD k) k) } ∧
    getF (capStopAccept k t) F.CAP_STATE_CMD = 2 ∧ getF (capStopAccept k t) F.CAP_STATE_REASON = 0 ∧
    Frame (R.CAP_STATE :: jnlRegs) s (capStopAccept k t)
      { s with regs := (capStopAccept k t).regs, jnl := (capStopAccept k t).jnl, cap := (capStopAccept k t).cap } := by
  have hcap' : t.cap = some c := h.cap.trans hcap
  have heq : capStopAccept k t = capResult 2 0 { t with cap := some { c with stop := some (min (c.stop.getD k) k) } } := by
    unfold capStopAccept
    rw [hcap']
    rfl
  rw [heq]
  generalize hv : ({ t with cap := some { c with stop := some (min (c.stop.getD k) k) } } : State) = v
  obtain ⟨hcmd, hreason, -⟩ := capResult_shows (cmd := 2) (reason := 0) (by decide) (by decide) v
  have parts := (RegsOnly.refl v).capResult (cmd := 2) (reason := 0)
  have kept : KeptBut (R.CAP_STATE :: jnlRegs) s (capResult 2 0 v) := by
    subst hv
    exact ((h.kept.mono (by decide)).of_regs rfl).capResult (by decide)
  subst hv
  exact ⟨by obtain ⟨r, hr⟩ := parts; rw [hr], hcmd, hreason, h.frame_cap parts kept⟩

/-- A CANCEL of a capture that can be withdrawn. -/
theorem exec_capCancel_of_cancellable {c : CapRun} (hp : isPair s = false) (hcap : s.cap = some c)
    (hstate : getF s F.CAP_STATE_STATE = 1) (hin : inTime s c.k = true) (via : Src) :
    exec (.capCancel via) s = .next (capCancelAccept (journalReg via R.CAP_CMD 3#32 s)) := by
  change execCapCancel via s = _
  have noted := noted_journalReg via R.CAP_CMD 3#32 s
  have hp1 := noted.isPair.trans hp
  have hok : ¬(getF (journalReg via R.CAP_CMD 3#32 s) F.CAP_STATE_STATE ≠ 1 ∨
      (!inTime (journalReg via R.CAP_CMD 3#32 s) c.k) = true) := by
    rw [noted.getF _ (by decide), noted.inTime, hstate, hin]
    decide
  unfold execCapCancel
  dsimp only
  rw [isPassive_of_lone hp1, noted.cap, hcap]
  dsimp only
  rw [if_neg hok, mirrorCommand_of_lone hp1]
  rfl

/-- A CANCEL of any other is refused with reason 4. -/
theorem exec_capCancel_of_refused (hp : isPair s = false)
    (h : getF s F.CAP_STATE_STATE ≠ 1 ∨ s.cap.all (fun c => !inTime s c.k) = true) (via : Src) :
    exec (.capCancel via) s = .next (capRefuse 3 4 (journalReg via R.CAP_CMD 3#32 s)) := by
  change execCapCancel via s = _
  have noted := noted_journalReg via R.CAP_CMD 3#32 s
  have hp1 := noted.isPair.trans hp
  unfold execCapCancel
  dsimp only
  rw [isPassive_of_lone hp1, noted.cap]
  cases hcap : s.cap with
  | none => rfl
  | some c =>
    rw [hcap] at h
    have hno : getF (journalReg via R.CAP_CMD 3#32 s) F.CAP_STATE_STATE ≠ 1 ∨
        (!inTime (journalReg via R.CAP_CMD 3#32 s) c.k) = true := by
      rw [noted.getF _ (by decide), noted.inTime]
      exact h
    dsimp only
    rw [if_pos hno]
    rfl

theorem capCancelAccept_spec (h : Noted s t) :
    (capCancelAccept t).cap = none ∧ getF (capCancelAccept t) F.CAP_STATE_STATE = 0 ∧
    Frame (R.CAP_STATE :: jnlRegs) s (capCancelAccept t)
      { s with regs := (capCancelAccept t).regs, jnl := (capCancelAccept t).jnl, cap := (capCancelAccept t).cap } := by
  obtain ⟨hstate, -, -⟩ :=
    capResult_of_state_shows (n := 0) (cmd := 3) (reason := 0) (by decide) (by decide) (by decide) t
  have parts :=
    (((RegsOnly.refl t).setF (f := F.CAP_STATE_STATE) (v := 0)).capResult (cmd := 3) (reason := 0)).withCap (c := t.cap) none
  have kept := ((h.kept.mono (by decide)).setF (offs := R.CAP_STATE :: jnlRegs) (f := F.CAP_STATE_STATE) (v := 0)
    (by decide)).capResult (cmd := 3) (reason := 0) (by decide)
  have heq : capCancelAccept t = { capResult 3 0 (setF t F.CAP_STATE_STATE 0) with cap := none } := rfl
  rw [heq]
  exact ⟨rfl, (getF_withCap _ _ _).trans hstate, h.frame_cap parts (kept.withCap _)⟩

/-! ### The run of a capture -/

theorem exec_capRunStart_of_due {c : CapRun} (hcap : s.cap = some c) (hdec : c.decided = true)
    (hstate : getF s F.CAP_STATE_STATE = 1) (hdue : due s (c.k + 1) = true) :
    exec .capRunStart s = .next (if capScales (setBit (setF s F.CAP_STATE_STATE 2) F.CAP_STAT_STARTED) c
      then ascTrigger 2 c.k (c.k + 1) true (setBit (setF s F.CAP_STATE_STATE 2) F.CAP_STAT_STARTED)
      else setBit (setF s F.CAP_STATE_STATE 2) F.CAP_STAT_STARTED) := by
  change execCapRunStart s = _
  unfold execCapRunStart
  rw [hcap]
  exact congrArg _ (if_pos ⟨hstate, hdec, hdue⟩)

/-- A trigger of automatic scaling touches neither a capture nor what is shown of it. -/
theorem capture_kept_of_ascTrigger (p : Prop) [Decidable p] (k : Nat) (u : State) :
    let t := if p then ascTrigger 2 k (k + 1) true u else u
    t.cap = u.cap ∧ getF t F.CAP_STATE_STATE = getF u F.CAP_STATE_STATE ∧
    stBit t F.CAP_STAT_STARTED = stBit u F.CAP_STAT_STARTED ∧ SameMem u t := by
  intro t
  have kept : KeptBut ascRegs u t := .ite (keptBut_ascTrigger _ _ _ _ _) (.refl _ _)
  have parts : ScaleLogsOnly u t := by
    unfold t
    split
    · exact scaleLogsOnly_ascTrigger _ _ _ _ _
    · exact ⟨_, _, _, _, rfl⟩
  generalize t = t' at kept parts ⊢
  refine ⟨?_, kept.getF (by decide), kept.getF (by decide), ?_⟩
  · obtain ⟨r, e, j, a, rfl⟩ := parts
    rfl
  · obtain ⟨r, e, j, a, rfl⟩ := parts
    exact sameMem_of_mem rfl

/-- The start shows RUN and STARTED. -/
theorem capRunStart_spec {c : CapRun} (hcap : s.cap = some c) :
    let u := setBit (setF s F.CAP_STATE_STATE 2) F.CAP_STAT_STARTED
    let t := if capScales u c then ascTrigger 2 c.k (c.k + 1) true u else u
    t.cap = some c ∧ getF t F.CAP_STATE_STATE = 2 ∧ stBit t F.CAP_STAT_STARTED = 1 ∧ SameMem s t := by
  have hstate : getF (setBit (setF s F.CAP_STATE_STATE 2) F.CAP_STAT_STARTED) F.CAP_STATE_STATE = 2 :=
    (getF_setF_of_apart _ _ (by decide)).trans (getF_setF_of_lt _ _ (by decide) (by decide))
  have hstarted : stBit (setBit (setF s F.CAP_STATE_STATE 2) F.CAP_STAT_STARTED) F.CAP_STAT_STARTED = 1 :=
    stBit_setBit _ _ 0 (by decide)
  have parts : RegsOnly s (setBit (setF s F.CAP_STATE_STATE 2) F.CAP_STAT_STARTED) := (RegsOnly.refl s).setF.setBit
  generalize setBit (setF s F.CAP_STATE_STATE 2) F.CAP_STAT_STARTED = u at hstate hstarted parts ⊢
  intro u' t
  obtain ⟨tcap, tstate, tstarted, tmem⟩ := capture_kept_of_ascTrigger (capScales u c = true) c.k u
  refine ⟨tcap.trans ?_, tstate.trans hstate, tstarted.trans hstarted, fun a => (tmem a).trans (parts.sameMem a)⟩
  obtain ⟨r, rfl⟩ := parts
  exact hcap

theorem exec_capEnd_of_over {c : CapRun} (hcap : s.cap = some c) (hstate : getF s F.CAP_STATE_STATE = 2)
    (hover : capOver s c = true) : exec .capEnd s = .next (capFinish c s) := by
  change execCapEnd s = _
  unfold execCapEnd
  rw [hcap]
  exact congrArg _ (if_pos ⟨hstate, hover⟩)

/-- Raising a tied error that is not fatal writes its status bit, and the FIFO's count and flag. -/
theorem keptBut_raise_of_tie {e : Err} {src : Nat} {f : Fld} (he : errSev e ≠ .fatal) (htie : errTie e src = some f)
    (s : State) :
    KeptBut errRegs (setBit s f (if f.hi = f.lo then 0 else src)) (raise e src s) := by
  unfold raise
  rw [htie]
  exact .ite (.refl _ _) ((KeptBut.refl _ _).arriveOvf he (List.Subset.refl _))

/-- The error of a cut capture touches neither the capture nor what its end shows. -/
theorem capture_kept_of_raise_cut (p : Prop) [Decidable p] (u : State) :
    let t := if p then raise .pdmCapCut 0 u else u
    getF t F.CAP_STATE_STATE = getF u F.CAP_STATE_STATE ∧ stBit t F.CAP_STAT_DONE = stBit u F.CAP_STAT_DONE ∧
    SameMem u t := by
  intro t
  unfold t
  split
  · have kept := keptBut_raise_of_tie (src := 0) (show errSev .pdmCapCut ≠ .fatal by decide) (htie := rfl) u
    have apart : ∀ g : Fld, g.off ∉ errRegs → Apart F.CAP_STAT_CUT g → getF (raise .pdmCapCut 0 u) g = getF u g :=
      fun g hg h => (kept.getF hg).trans (getF_setF_of_apart u 1 h)
    exact ⟨apart _ (by decide) (by decide), apart _ (by decide) (by decide), sameMem_of_mem (logsOnly_raise _ _ u).mem⟩
  · exact ⟨rfl, rfl, fun _ => rfl⟩

/-- The end shows DONE. -/
theorem capFinish_spec (c : CapRun) (s : State) :
    (capFinish c s).cap = none ∧ getF (capFinish c s) F.CAP_STATE_STATE = 3 ∧ stBit (capFinish c s) F.CAP_STAT_DONE = 1 ∧
    SameMem s (capFinish c s) := by
  have hstate : getF (setBit (setF s F.CAP_STATE_STATE 3) F.CAP_STAT_DONE) F.CAP_STATE_STATE = 3 :=
    (getF_setF_of_apart _ _ (by decide)).trans (getF_setF_of_lt _ _ (by decide) (by decide))
  have hdone : stBit (setBit (setF s F.CAP_STATE_STATE 3) F.CAP_STAT_DONE) F.CAP_STAT_DONE = 1 := stBit_setBit _ _ 0 (by decide)
  have parts : RegsOnly s (setBit (setF s F.CAP_STATE_STATE 3) F.CAP_STAT_DONE) := (RegsOnly.refl s).setF.setBit
  unfold capFinish
  dsimp only
  generalize setBit (setF s F.CAP_STATE_STATE 3) F.CAP_STAT_DONE = u at hstate hdone parts ⊢
  obtain ⟨tstate, tdone, tmem⟩ := capture_kept_of_raise_cut (c.cut = true) u
  generalize (if c.cut = true then raise .pdmCapCut 0 u else u) = t at tstate tdone tmem ⊢
  have mem : SameMem s t := fun a => (tmem a).trans (parts.sameMem a)
  split
  · exact ⟨rfl, tstate.trans hstate, tdone.trans hdone, fun a => mem a⟩
  · exact ⟨rfl, tstate.trans hstate, tdone.trans hdone, fun a => mem a⟩

/-- Settles O32: on a lone unit each command is its record followed by its acceptance or refusal; the run's two commands are
judged by the state they find. -/
theorem captureCommandsAndRun : Obligations.CaptureCommandsAndRun := by
  unfold Obligations.CaptureCommandsAndRun
  refine ⟨?_, ?_, ?_, ?_, ?_, ?_, ?_, ?_, ?_⟩
  · rintro via s ⟨hp, hcap⟩ ⟨hstate, hlate, hrange⟩
    have noted := noted_journalReg via R.CAP_CMD 1#32 s
    refine ⟨_, exec_capStart_of_lone hp via, ?_⟩
    rw [loneCapStart_of_accepted (noted.capBusy.trans (capBusy_of_idle hcap hstate))
      (by rw [noted.capBlock, noted.isLate, hlate]) (noted.capRangeOk.trans hrange), noted.capBlock, noted.capVals]
    exact capStartAccept_spec noted _
  · rintro via s hp hstate
    have noted := noted_journalReg via R.CAP_CMD 1#32 s
    refine ⟨_, exec_capStart_of_lone hp via, ?_⟩
    rw [loneCapStart_of_busy (noted.capBusy.trans (capBusy_of_taken hstate))]
    exact (capRefuse_spec (by decide) (by decide) noted).2
  · rintro via s ⟨hp, hcap⟩ hstate hbad
    have noted := noted_journalReg via R.CAP_CMD 1#32 s
    refine ⟨_, exec_capStart_of_lone hp via, ?_⟩
    rw [loneCapStart_of_refused (noted.capBusy.trans (capBusy_of_idle hcap hstate))
      (by rw [noted.capBlock, noted.isLate, noted.capRangeOk]; exact hbad), noted.capBlock, noted.isLate]
    have small : (if isLate s (16 * capBlock s) = true then 2 else 3) < 256 := by split <;> decide
    exact (capRefuse_spec (by decide) small noted).2
  · rintro via s c ⟨hp, hcap⟩ hlate
    have noted := noted_journalReg via R.CAP_CMD 2#32 s
    refine ⟨_, exec_capStop_of_lone hp via, ?_⟩
    rw [loneCapStop_of_inTime (by rw [noted.capBlock, noted.isLate, hlate]), noted.capBlock]
    exact capStopAccept_spec noted hcap _
  · rintro via s hp hlate
    have noted := noted_journalReg via R.CAP_CMD 2#32 s
    refine ⟨_, exec_capStop_of_lone hp via, ?_⟩
    rw [loneCapStop_of_late (by rw [noted.capBlock, noted.isLate, hlate])]
    obtain ⟨hcmd, hreason, -, frame⟩ := capRefuse_spec (cmd := 2) (reason := 2) (by decide) (by decide) noted
    exact ⟨hcmd, hreason, frame⟩
  · rintro via s c ⟨hp, hcap⟩ ⟨hstate, hin⟩
    exact ⟨_, exec_capCancel_of_cancellable hp hcap hstate hin via,
      capCancelAccept_spec (noted_journalReg via R.CAP_CMD 3#32 s)⟩
  · rintro via s hp hno
    obtain ⟨hcmd, hreason, -, frame⟩ :=
      capRefuse_spec (cmd := 3) (reason := 4) (by decide) (by decide) (noted_journalReg via R.CAP_CMD 3#32 s)
    exact ⟨_, exec_capCancel_of_refused hp hno via, hcmd, hreason, frame⟩
  · rintro s c ⟨hcap, hdec⟩ ⟨hstate, hdue⟩
    exact ⟨_, exec_capRunStart_of_due hcap hdec hstate hdue, capRunStart_spec hcap⟩
  · rintro s c hcap ⟨hstate, hover⟩
    exact ⟨_, exec_capEnd_of_over hcap hstate hover, capFinish_spec c s⟩

end Sys2Proof.Machine
end

section
/-! SUPPORT. A copy of bytes from one place of memory to another, and the region that a handover copies (R108). -/

namespace Sys2Proof.Machine

variable {s : State}

theorem length_rdBytes (s : State) (n : Nat) : ∀ a, (rdBytes s a n).length = n := by
  induction n with
  | zero => exact fun _ => rfl
  | succ n ih => exact fun a => congrArg (· + 1) (ih (a + 1))

theorem getElem?_rdBytes (s : State) (n : Nat) : ∀ (a i : Nat), i < n → (rdBytes s a n)[i]? = some (rdByte s (a + i)) := by
  induction n with
  | zero => exact fun _ _ h => absurd h (Nat.not_lt_zero _)
  | succ n ih =>
    intro a i h
    cases i with
    | zero => rfl
    | succ i =>
      rw [rdBytes, List.getElem?_cons_succ, ih (a + 1) i (by omega), show a + 1 + i = a + (i + 1) by omega]

/-- Of the state, only the bytes of memory may differ. -/
theorem wrBytes_eq_with (bs : List Byte) : ∀ (s : State) (a : Nat), ∃ m, wrBytes s a bs = { s with mem := m } := by
  induction bs with
  | nil => exact fun s _ => ⟨s.mem, rfl⟩
  | cons b bs ih =>
    intro s a
    obtain ⟨m, hm⟩ := ih (wrByte s a b) (a + 1)
    exact ⟨m, hm⟩

theorem hoCopy_eq_with (h : Handover) (s : State) : ∃ m, hoCopy h s = { s with mem := m } := wrBytes_eq_with _ s _

theorem regs_hoCopy (h : Handover) (s : State) : (hoCopy h s).regs = s.regs := regs_wrBytes _ s _

/-- The receiving tile's region reads as the outgoing tile's did. -/
theorem rdByte_hoCopy_inside (h : Handover) (s : State) {b : Nat} (hb : b < 16 * (hoTable s h.seat).persistLen) :
    rdByte (hoCopy h s) (tileBase h.dst + 16 * (hoTable s h.seat).persistBase + b) =
      rdByte s (tileBase h.src + 16 * (hoTable s h.seat).persistBase + b) := by
  unfold hoCopy copyWords
  rw [rdByte_wrBytes, length_rdBytes, if_pos ⟨Nat.le_add_right _ _, Nat.add_lt_add_left hb _⟩, Nat.add_sub_cancel_left,
    getElem?_rdBytes s _ _ _ hb]
  rfl

/-- Every byte outside the receiving tile's region stays. -/
theorem rdByte_hoCopy_outside (h : Handover) (s : State) {a : Nat}
    (ha : a < tileBase h.dst + 16 * (hoTable s h.seat).persistBase ∨
      tileBase h.dst + 16 * ((hoTable s h.seat).persistBase + (hoTable s h.seat).persistLen) ≤ a) :
    rdByte (hoCopy h s) a = rdByte s a := by
  unfold hoCopy copyWords
  refine rdByte_wrBytes_outside _ _ _ _ ?_
  rw [length_rdBytes]
  omega

end Sys2Proof.Machine
end

section
/-! SUPPORT. The sequencer's registers: which of them a write of another leaves alone (R107, R108). -/

namespace Sys2Proof.Machine

variable {s t u : State} {offs : List Nat}

theorem seatReg_notMem {q : Nat} (hq : q < 16) (hoffs : ∀ o ∈ offs, o < 0x30040 ∨ 0x30080 ≤ o) :
    R.SEQ_SEAT q ∉ offs := by
  intro hm
  have := hoffs _ hm
  unfold R.SEQ_SEAT at this
  omega

theorem fseatReg_notMem {q : Nat} (hq : q < 16) (hoffs : ∀ o ∈ offs, o < 0x30080 ∨ 0x300C0 ≤ o) :
    R.SEQ_FSEAT q ∉ offs := by
  intro hm
  have := hoffs _ hm
  unfold R.SEQ_FSEAT at this
  omega

theorem tstatReg_notMem {t : Nat} (ht : t < 17) (hoffs : ∀ o ∈ offs, o < 0x30100 ∨ 0x30144 ≤ o) :
    R.SEQ_TSTAT t ∉ offs := by
  intro hm
  have := hoffs _ hm
  unfold R.SEQ_TSTAT at this
  omega

theorem tstatReg_ne {t t' : Nat} (h : t ≠ t') : R.SEQ_TSTAT t ≠ R.SEQ_TSTAT t' := by
  unfold R.SEQ_TSTAT
  omega

theorem tstatReg_ne_texpReg {t t' : Nat} (ht : t < 17) : R.SEQ_TSTAT t ≠ R.SEQ_TEXP t' := by
  unfold R.SEQ_TSTAT R.SEQ_TEXP
  omega

theorem seatReg_ne_tstatReg {q t : Nat} (hq : q < 16) : R.SEQ_SEAT q ≠ R.SEQ_TSTAT t := by
  unfold R.SEQ_SEAT R.SEQ_TSTAT
  omega

theorem seatReg_ne_texpReg {q t : Nat} (hq : q < 16) : R.SEQ_SEAT q ≠ R.SEQ_TEXP t := by
  unfold R.SEQ_SEAT R.SEQ_TEXP
  omega

/-- A register below the tiles' ones. -/
theorem low_ne_tstatReg {o t : Nat} (ho : o < 0x30100) : o ≠ R.SEQ_TSTAT t := by
  unfold R.SEQ_TSTAT
  omega

theorem high_ne_tstatReg {o t : Nat} (ht : t < 17) (ho : 0x30144 ≤ o) : o ≠ R.SEQ_TSTAT t := by
  unfold R.SEQ_TSTAT
  omega

theorem tileState_setTile {t st : Nat} (hst : st < 8) (s : State) : tileState (setTile t st s) t = st :=
  getF_setF_of_lt s (F.SEQ_TSTAT_STATE t) ⟨(by decide : 29 ≤ 31), (by decide : 31 < 32)⟩ hst

theorem tileState_of_kept (h : KeptBut offs s t) {i : Nat} (hi : R.SEQ_TSTAT i ∉ offs) : tileState t i = tileState s i :=
  h.getF hi

theorem tileSeat_of_kept (h : KeptBut offs s t) {i : Nat} (hi : R.SEQ_TSTAT i ∉ offs) : tileSeat t i = tileSeat s i := by
  unfold tileSeat
  rw [tileState_of_kept h hi, h.getF (f := F.SEQ_TSTAT_SEAT i) hi]

theorem fbSeats_of_kept (h : KeptBut offs s t) (hoffs : ∀ o ∈ offs, o < 0x30080 ∨ 0x300C0 ≤ o) :
    fbSeats t = fbSeats s := by
  unfold fbSeats
  rw [Bool.eq_iff_iff, List.any_eq_true, List.any_eq_true]
  refine exists_congr fun q => and_congr_right fun hq => ?_
  have hlt : q < 16 := (List.mem_range.mp hq).trans (by decide)
  rw [h.getF (f := F.SEQ_FSEAT_VALID q) (fseatReg_notMem hlt hoffs)]

end Sys2Proof.Machine
end

section
/-! SUPPORT. SEQ_HANDOVER_GO: what it is judged by, its start and its refusals (R108, R109) (O33). -/

namespace Sys2Proof.Machine

variable {s t u : State} {q t0 : Nat}

/-- The block that SEQ_HO_MSI names. -/
def hoBlock (s : State) : Nat := ceil16 (rd64 s R.SEQ_HO_MSI_LO R.SEQ_HO_MSI_HI)

theorem Noted.hoBlock (h : Noted s t) : hoBlock t = hoBlock s := by
  unfold Machine.hoBlock rd64
  rw [h.rdN _ (by decide), h.rdN _ (by decide)]

theorem Noted.blk (h : Noted s t) : blk t = blk s := congrArg (· / 16) h.msi

theorem Noted.seq (h : Noted s t) : t.seq = s.seq := by
  obtain ⟨r, j, rfl⟩ := h.parts
  rfl

theorem Noted.fbSeats (h : Noted s t) : fbSeats t = fbSeats s := fbSeats_of_kept h.kept (by decide)

theorem Noted.seatTileOf (h : Noted s t) (fb : Bool) (hq : q < 16) : seatTileOf t fb q = seatTileOf s fb q := by
  unfold Machine.seatTileOf
  rw [h.getF (F.SEQ_FSEAT_VALID q) (fseatReg_notMem hq (by decide)), h.getF (F.SEQ_FSEAT_TILE q) (fseatReg_notMem hq (by decide)),
    h.getF (F.SEQ_SEAT_VALID q) (seatReg_notMem hq (by decide)), h.getF (F.SEQ_SEAT_TILE q) (seatReg_notMem hq (by decide))]

/-- The tile of a seat under the tables that run. -/
theorem Noted.seated (h : Noted s t) (hq : q < 16) :
    Machine.seatTileOf t (Machine.fbSeats t) q = Machine.seatTileOf s (Machine.fbSeats s) q := by
  rw [h.fbSeats, h.seatTileOf _ hq]

/-- The handover that the command asks for. -/
def hoAsked (q t0 : Nat) (s : State) : Handover :=
  { seat := q, src := t0, dst := getF s F.SEQ_SPARE_SPARE, at_ := hoBlock s, cmd := blk s, test := false, loss := false,
    swept := false, struck := false }

theorem Noted.hoAsked (h : Noted s t) : hoAsked q t0 t = hoAsked q t0 s := by
  unfold Machine.hoAsked
  rw [h.hoBlock, h.blk, h.getF _ (by decide)]

theorem seqHandoverGo_of_vacant (hseat : seatTileOf s (fbSeats s) q = none) :
    seqHandoverGo q s = setF s F.SEQ_HO_STAT_REASON 3 := by
  unfold seqHandoverGo
  rw [hseat]

theorem seqHandoverGo_of_near (hseat : seatTileOf s (fbSeats s) q = some t0) (hnear : hoBlock s < blk s + 34) :
    seqHandoverGo q s = setF s F.SEQ_HO_STAT_REASON 1 := by
  unfold seqHandoverGo
  rw [hseat]
  exact if_pos hnear

theorem seqHandoverGo_of_busy (hseat : seatTileOf s (fbSeats s) q = some t0) (hfar : blk s + 34 ≤ hoBlock s)
    (hho : s.seq.ho.isSome = true) : seqHandoverGo q s = setF s F.SEQ_HO_STAT_REASON 2 := by
  unfold seqHandoverGo
  rw [hseat]
  exact (if_neg (Nat.not_lt.mpr hfar)).trans (if_pos hho)

theorem seqHandoverGo_of_bare (hseat : seatTileOf s (fbSeats s) q = some t0) (hfar : blk s + 34 ≤ hoBlock s)
    (hho : s.seq.ho = none) (hspare : getF s F.SEQ_SPARE_PRESENT = 0) :
    seqHandoverGo q s = setF s F.SEQ_HO_STAT_REASON 3 := by
  unfold seqHandoverGo
  rw [hseat]
  exact (if_neg (Nat.not_lt.mpr hfar)).trans ((if_neg (by rw [hho]; decide)).trans (if_pos hspare))

/-- A seat without a tile, or no spare: reason 3. -/
theorem seqHandoverGo_of_noTile (h : seatTileOf s (fbSeats s) q = none ∨
    (blk s + 34 ≤ hoBlock s ∧ s.seq.ho = none ∧ getF s F.SEQ_SPARE_PRESENT = 0)) :
    seqHandoverGo q s = setF s F.SEQ_HO_STAT_REASON 3 := by
  cases hseat : seatTileOf s (fbSeats s) q with
  | none => exact seqHandoverGo_of_vacant hseat
  | some t0 =>
    obtain ⟨hfar, hho, hspare⟩ := h.resolve_left (by rw [hseat]; exact Option.some_ne_none _)
    exact seqHandoverGo_of_bare hseat hfar hho hspare

theorem seqHandoverGo_of_accepted (hseat : seatTileOf s (fbSeats s) q = some t0) (hfar : blk s + 34 ≤ hoBlock s)
    (hho : s.seq.ho = none) (hspare : getF s F.SEQ_SPARE_PRESENT = 1) :
    seqHandoverGo q s = hoStart (hoAsked q t0 s) s := by
  unfold seqHandoverGo
  rw [hseat]
  exact (if_neg (Nat.not_lt.mpr hfar)).trans ((if_neg (by rw [hho]; decide)).trans (if_neg (by rw [hspare]; decide)))

/-- A refusal shows its reason and nothing else. -/
theorem hoRefusal_spec {n : Nat} (h : Noted s t) (hn : n < 256) :
    (setF t F.SEQ_HO_STAT_REASON n).seq = s.seq ∧ getF (setF t F.SEQ_HO_STAT_REASON n) F.SEQ_HO_STAT_REASON = n ∧
    getF (setF t F.SEQ_HO_STAT_REASON n) F.SEQ_HO_STAT_STATE = getF s F.SEQ_HO_STAT_STATE ∧
    Frame (R.SEQ_HO_STAT :: jnlRegs) s (setF t F.SEQ_HO_STAT_REASON n)
      { s with regs := (setF t F.SEQ_HO_STAT_REASON n).regs, jnl := (setF t F.SEQ_HO_STAT_REASON n).jnl } := by
  have kept : KeptBut (R.SEQ_HO_STAT :: jnlRegs) s (setF t F.SEQ_HO_STAT_REASON n) :=
    (h.kept.mono (List.subset_cons_self _ _)).setF (List.mem_cons_self ..)
  refine ⟨h.seq, getF_setF_of_lt t _ (by decide) hn, ?_, h.frame_regs (RegsOnly.refl t).setF kept⟩
  rw [getF_setF_of_apart t n (by decide), h.getF _ (by decide)]

/-- What the registers show of a handover. -/
theorem showHo_shows {st : Nat} {h : Handover} (hst : st < 16) (hseat : h.seat < 16) (hsrc : h.src < 32) (hdst : h.dst < 32)
    (s : State) :
    getF (showHo st h s) F.SEQ_HO_STAT_STATE = st ∧ getF (showHo st h s) F.SEQ_HO_STAT_SEAT = h.seat ∧
    getF (showHo st h s) F.SEQ_HO_STAT_FROM = h.src ∧ getF (showHo st h s) F.SEQ_HO_STAT_TO = h.dst ∧
    getF (showHo st h s) F.SEQ_HO_STAT_REASON = 0 := by
  unfold showHo
  refine ⟨?_, ?_, ?_, ?_, ?_⟩
  · rw [getF_setF_of_apart _ _ (by decide), getF_setF_of_apart _ _ (by decide), getF_setF_of_apart _ _ (by decide),
      getF_setF_of_apart _ _ (by decide), getF_setF_of_lt _ _ (by decide) hst]
  · rw [getF_setF_of_apart _ _ (by decide), getF_setF_of_apart _ _ (by decide), getF_setF_of_apart _ _ (by decide),
      getF_setF_of_lt _ _ (by decide) hseat]
  · rw [getF_setF_of_apart _ _ (by decide), getF_setF_of_apart _ _ (by decide), getF_setF_of_lt _ _ (by decide) hsrc]
  · rw [getF_setF_of_apart _ _ (by decide), getF_setF_of_lt _ _ (by decide) hdst]
  · exact getF_setF_of_lt _ _ (by decide) (by decide)

theorem RegsOnly.showHo {st : Nat} {h : Handover} (hu : RegsOnly s t) : RegsOnly s (showHo st h t) := hu.setF.setF.setF.setF.setF

theorem RegsOnly.setTile {i st : Nat} (hu : RegsOnly s t) : RegsOnly s (setTile i st t) := hu.setF

theorem KeptBut.showHo {offs : List Nat} {st : Nat} {h : Handover} (hk : KeptBut offs s t) (ho : R.SEQ_HO_STAT ∈ offs) :
    KeptBut offs s (showHo st h t) := ((((hk.setF ho).setF ho).setF ho).setF ho).setF ho

theorem KeptBut.setTile {offs : List Nat} {i st : Nat} (hk : KeptBut offs s t) (hi : R.SEQ_TSTAT i ∈ offs) :
    KeptBut offs s (setTile i st t) := hk.setF hi

/-- A handover put in force and registers written after the record. -/
theorem Noted.frame_ho {offs : List Nat} {h : Option Handover} (hn : Noted s t)
    (hu : RegsOnly { t with seq := { t.seq with ho := h } } u) (kept : KeptBut offs s u) :
    Frame offs s u { s with regs := u.regs, jnl := u.jnl, seq := { s.seq with ho := u.seq.ho } } := by
  have hmem := hu.sameMem
  refine ⟨?_, kept, fun a => (hmem a).trans (hn.sameMem a)⟩
  obtain ⟨r, j, rfl⟩ := hn.parts
  obtain ⟨r', rfl⟩ := hu
  rfl

theorem RegsOnly.ho (hu : RegsOnly s u) : u.seq.ho = s.seq.ho := by
  obtain ⟨r, rfl⟩ := hu
  rfl

/-- A handover begins. -/
theorem hoStart_spec {h : Handover} (hn : Noted s t) (hseat : h.seat < 16) (hsrc : h.src < 32) (hdst : h.dst < 32) :
    (hoStart h t).seq.ho = some h ∧ tileState (hoStart h t) h.dst = 3 ∧ getF (hoStart h t) F.SEQ_HO_STAT_STATE = 1 ∧
    getF (hoStart h t) F.SEQ_HO_STAT_SEAT = h.seat ∧ getF (hoStart h t) F.SEQ_HO_STAT_FROM = h.src ∧
    getF (hoStart h t) F.SEQ_HO_STAT_TO = h.dst ∧ getF (hoStart h t) F.SEQ_HO_STAT_REASON = 0 ∧
    Frame ([R.SEQ_HO_STAT, R.SEQ_TSTAT h.dst] ++ jnlRegs) s (hoStart h t)
      { s with regs := (hoStart h t).regs, jnl := (hoStart h t).jnl, seq := { s.seq with ho := (hoStart h t).seq.ho } } := by
  have parts : RegsOnly { t with seq := { t.seq with ho := some h } } (hoStart h t) := (RegsOnly.refl _).showHo.setTile
  have kept : KeptBut ([R.SEQ_HO_STAT, R.SEQ_TSTAT h.dst] ++ jnlRegs) s (hoStart h t) :=
    (((hn.kept.mono (List.subset_append_right _ _)).of_regs rfl).showHo (by simp)).setTile (by simp)
  obtain ⟨hstate, hseat', hfrom, hto, hreason⟩ :=
    showHo_shows (st := 1) (by decide) hseat hsrc hdst { t with seq := { t.seq with ho := some h } }
  have shown : ∀ f : Fld, f.off = R.SEQ_HO_STAT →
      getF (hoStart h t) f = getF (showHo 1 h { t with seq := { t.seq with ho := some h } }) f :=
    fun f hf => getF_setF_of_ne _ _ f 3 (by rw [hf]; exact low_ne_tstatReg (by decide))
  exact ⟨parts.ho, tileState_setTile (by decide) _, (shown _ rfl).trans hstate, (shown _ rfl).trans hseat',
    (shown _ rfl).trans hfrom, (shown _ rfl).trans hto, (shown _ rfl).trans hreason, hn.frame_ho parts kept⟩

end Sys2Proof.Machine
end

section
/-! SUPPORT. HANDOVER_SWEEP (R108, R109) (O33). -/

namespace Sys2Proof.Machine

variable {s t : State}

/-- The sweep of a handover. -/
def hoSweep (h : Handover) (s : State) : State :=
  setTile h.dst 4 (setF (hoCopy h { s with seq := { s.seq with ho := some h } }) F.SEQ_HO_STAT_STATE 2)

theorem exec_handoverSweep_of_due {h : Handover} (hho : s.seq.ho = some h) (hdue : h.at_ ≤ blk s + 1)
    (hswept : h.swept = false) :
    exec .handoverSweep s = .next (hoSweep { h with swept := true } s) := by
  change execHandoverSweep s = _
  unfold execHandoverSweep
  have hno : ¬((decide (blk s + 1 < h.at_) || h.swept) = true) := by
    rw [hswept]
    simpa using hdue
  rw [hho]
  exact congrArg _ (if_neg hno)

theorem keptBut_hoCopy (offs : List Nat) (h : Handover) (s : State) : KeptBut offs s (hoCopy h s) :=
  (KeptBut.refl offs s).of_regs (regs_hoCopy h s)

/-- The bytes of a state that differs from the copy's in registers only. -/
theorem rdByte_of_copied_inside {h : Handover} (hm : SameMem (hoCopy h s) t) {b : Nat}
    (hb : b < 16 * (hoTable s h.seat).persistLen) :
    rdByte t (tileBase h.dst + 16 * (hoTable s h.seat).persistBase + b) =
      rdByte s (tileBase h.src + 16 * (hoTable s h.seat).persistBase + b) :=
  (hm _).trans (rdByte_hoCopy_inside h s hb)

theorem rdByte_of_copied_outside {h : Handover} (hm : SameMem (hoCopy h s) t) {a : Nat}
    (ha : a < tileBase h.dst + 16 * (hoTable s h.seat).persistBase ∨
      tileBase h.dst + 16 * ((hoTable s h.seat).persistBase + (hoTable s h.seat).persistLen) ≤ a) :
    rdByte t a = rdByte s a :=
  (hm _).trans (rdByte_hoCopy_outside h s ha)

theorem regsOnly_hoSweep (h : Handover) (s : State) :
    RegsOnly (hoCopy h { s with seq := { s.seq with ho := some h } }) (hoSweep h s) := (RegsOnly.refl _).setF.setTile

theorem hoSweep_eq_with (h : Handover) (s : State) :
    hoSweep h s = { s with regs := (hoSweep h s).regs, mem := (hoSweep h s).mem,
                           seq := { s.seq with ho := (hoSweep h s).seq.ho } } ∧ (hoSweep h s).seq.ho = some h := by
  obtain ⟨r, hr⟩ := regsOnly_hoSweep h s
  obtain ⟨m, hm⟩ := hoCopy_eq_with h { s with seq := { s.seq with ho := some h } }
  rw [hr, hm]
  exact ⟨rfl, rfl⟩

theorem keptBut_hoSweep (h : Handover) (s : State) : KeptBut [R.SEQ_HO_STAT, R.SEQ_TSTAT h.dst] s (hoSweep h s) :=
  (((KeptBut.refl _ s).of_regs (regs_hoCopy h { s with seq := { s.seq with ho := some h } })).setF
    (by simp [F.SEQ_HO_STAT_STATE])).setTile (by simp)

theorem hoSweep_shows (h : Handover) (s : State) :
    tileState (hoSweep h s) h.dst = 4 ∧ getF (hoSweep h s) F.SEQ_HO_STAT_STATE = 2 := by
  refine ⟨tileState_setTile (by decide) _, ?_⟩
  unfold hoSweep setTile
  rw [getF_setF_of_ne _ _ _ _ (show R.SEQ_HO_STAT ≠ R.SEQ_TSTAT h.dst from low_ne_tstatReg (by decide))]
  exact getF_setF_of_lt _ _ (by decide) (by decide)

end Sys2Proof.Machine
end

section
/-! SUPPORT. HANDOVER_SWITCH (R108, R109): the switch in its parts (O33). -/

namespace Sys2Proof.Machine

variable {s t w : State} {h : Handover}

/-- The receiving tile takes the seat, and the outgoing tile's expected cycle. -/
def hoSeat (h : Handover) (s : State) : State :=
  seatTile (fbSeats s) h.seat h.dst (getF s (F.SEQ_TSTAT_BANK h.src))
    (setF s (F.SEQ_TEXP_END_CYCLE h.dst) (getF s (F.SEQ_TEXP_END_CYCLE h.src)))

/-- No handover is under way. -/
def hoEnded (s : State) : State := { s with seq := { s.seq with ho := none } }

/-- The outgoing tile leaves the seat, and the handover is over. -/
def hoLeave (h : Handover) (s : State) : State :=
  setF (hoEnded (tileMod h.dst (fun _ => TileRun.init)
    (tileMod h.src (fun r => { TileRun.init with overrun := r.overrun, stopped := r.stopped })
      (setF (setF s (F.SEQ_TSTAT_SEAT h.src) 0) (F.SEQ_TEXP_END_CYCLE h.src) 0)))) F.SEQ_HO_STAT_STATE 3

/-- The seat of a lost tile is no longer silenced. -/
def hoUnsilence (h : Handover) (s : State) : State :=
  { s with rnd := { s.rnd with zeroSeats := s.rnd.zeroSeats.filter (· != h.seat) } }

/-- What becomes of the outgoing tile. -/
def hoRetire (h : Handover) (s : State) : State :=
  if h.loss then
    setBit (fadeAt h.seat (h.at_ + 1) (hoUnsilence h (noSpare (showSpare none (markRegion h.src s))))) F.SEQ_STAT_HO_DONE
  else if h.test then
    setF { showSpare none (setTile h.src 5 s) with bst := { s.bst with slice := some (h.src, h.at_) } } F.BST_STATE_STATE 3
  else showSpare (some h.src) (setTile h.src 2 s)

theorem hoSwitch_eq (h : Handover) (s : State) : hoSwitch h s = hoRetire h (hoLeave h (hoSeat h (hoCopy h s))) := rfl

/-- The sequencer and memory stay. -/
def SameSeqMem (s t : State) : Prop := t.seq = s.seq ∧ t.mem = s.mem

theorem SameSeqMem.trans (h : SameSeqMem s t) (h' : SameSeqMem t w) : SameSeqMem s w :=
  ⟨h'.1.trans h.1, h'.2.trans h.2⟩

theorem LogsOnly.sameSeqMem (h : LogsOnly s t) : SameSeqMem s t := by
  obtain ⟨r, e, j, rfl⟩ := h
  exact ⟨rfl, rfl⟩

theorem RegsOnly.sameSeqMem (h : RegsOnly s t) : SameSeqMem s t := by
  obtain ⟨r, rfl⟩ := h
  exact ⟨rfl, rfl⟩

/-! ### The seat moves -/

theorem regsOnly_seatTile (fb : Bool) (q i bank : Nat) (s : State) : RegsOnly s (seatTile fb q i bank s) :=
  RegsOnly.setF (.setF (.setF (.setTile (.ite (.setF (.setF (.refl s))) (.setF (.setF (.refl s)))))))

/-- A tile that takes a seat shows it. -/
theorem tileSeat_seatTile {q : Nat} (hq : q < 16) (fb : Bool) (i bank : Nat) (s : State) :
    tileSeat (seatTile fb q i bank s) i = some q := by
  have hstate : tileState (seatTile fb q i bank s) i = 1 := by
    unfold seatTile tileState
    dsimp only
    rw [getF_setF_of_apart _ _ (.inr (by simp [F.SEQ_TSTAT_SEAT, F.SEQ_TSTAT_STATE])),
      getF_setF_of_apart _ _ (.inr (by simp [F.SEQ_TSTAT_FB, F.SEQ_TSTAT_STATE])),
      getF_setF_of_apart _ _ (.inr (by simp [F.SEQ_TSTAT_BANK, F.SEQ_TSTAT_STATE]))]
    exact tileState_setTile (by decide) _
  have hseat : getF (seatTile fb q i bank s) (F.SEQ_TSTAT_SEAT i) = q :=
    getF_setF_of_lt _ (F.SEQ_TSTAT_SEAT i) (by simp [F.SEQ_TSTAT_SEAT]) (by simpa [F.SEQ_TSTAT_SEAT] using hq)
  unfold tileSeat
  rw [if_pos hstate, hseat]

/-- With the primary tables the seat shows its tile. -/
theorem seat_seatTile {q i : Nat} (hq : q < 16) (hi : i < 17) (bank : Nat) (s : State) :
    getF (seatTile false q i bank s) (F.SEQ_SEAT_TILE q) = i ∧ getF (seatTile false q i bank s) (F.SEQ_SEAT_VALID q) = 1 := by
  have kept : KeptBut [R.SEQ_TSTAT i] (setF (setF s (F.SEQ_SEAT_VALID q) 1) (F.SEQ_SEAT_TILE q) i) (seatTile false q i bank s) :=
    KeptBut.setF (.setF (.setF (.setTile (.refl _ _) (List.mem_singleton_self _)) (List.mem_singleton_self _))
      (List.mem_singleton_self _)) (List.mem_singleton_self _)
  have away : R.SEQ_SEAT q ∉ [R.SEQ_TSTAT i] := by
    rw [List.mem_singleton]
    exact seatReg_ne_tstatReg hq
  constructor
  · rw [kept.getF (f := F.SEQ_SEAT_TILE q) away]
    exact getF_setF_of_lt _ (F.SEQ_SEAT_TILE q) (by simp [F.SEQ_SEAT_TILE]) (by simp [F.SEQ_SEAT_TILE]; omega)
  · rw [kept.getF (f := F.SEQ_SEAT_VALID q) away,
      getF_setF_of_apart _ _ (.inr (by simp [F.SEQ_SEAT_TILE, F.SEQ_SEAT_VALID]))]
    exact getF_setF_of_lt _ (F.SEQ_SEAT_VALID q) (by simp [F.SEQ_SEAT_VALID]) (by simp [F.SEQ_SEAT_VALID])

theorem RegsOnly.trans (h : RegsOnly s t) (h' : RegsOnly t w) : RegsOnly s w := by
  obtain ⟨r, rfl⟩ := h
  obtain ⟨r', rfl⟩ := h'
  exact ⟨r', rfl⟩

theorem regsOnly_hoSeat (h : Handover) (s : State) : RegsOnly s (hoSeat h s) :=
  (RegsOnly.refl s).setF.trans (regsOnly_seatTile _ _ _ _ _)

/-! ### The outgoing tile leaves -/

theorem hoEnded_ho (s : State) : (hoEnded s).seq.ho = none := rfl

theorem hoEnded_mem (s : State) : (hoEnded s).mem = s.mem := rfl

theorem tileMod_mem (i : Nat) (f : TileRun → TileRun) (s : State) : (tileMod i f s).mem = s.mem := rfl

theorem keptBut_hoLeave (h : Handover) (s : State) :
    KeptBut [R.SEQ_TSTAT h.src, R.SEQ_TEXP h.src, R.SEQ_HO_STAT] s (hoLeave h s) := by
  have cleared : KeptBut [R.SEQ_TSTAT h.src, R.SEQ_TEXP h.src, R.SEQ_HO_STAT] s
      (setF (setF s (F.SEQ_TSTAT_SEAT h.src) 0) (F.SEQ_TEXP_END_CYCLE h.src) 0) :=
    KeptBut.setF (.setF (.refl _ s) (by simp [F.SEQ_TSTAT_SEAT])) (by simp [F.SEQ_TEXP_END_CYCLE])
  exact KeptBut.setF (cleared.of_regs rfl) (by simp [F.SEQ_HO_STAT_STATE])

theorem hoLeave_shows (h : Handover) (s : State) :
    getF (hoLeave h s) F.SEQ_HO_STAT_STATE = 3 ∧ (hoLeave h s).seq.ho = none ∧ (hoLeave h s).mem = s.mem := by
  unfold hoLeave
  refine ⟨getF_setF_of_lt _ _ (by decide) (by decide), ?_, ?_⟩
  · rw [setF_seq, hoEnded_ho]
  · rw [setF_mem, hoEnded_mem, tileMod_mem, tileMod_mem, setF_mem, setF_mem]

/-! ### What becomes of the outgoing tile -/

theorem regsOnly_showSpare (i : Option Nat) (s : State) : RegsOnly s (showSpare i s) := by
  cases i with
  | none => exact (RegsOnly.refl s).setF.setF
  | some i => exact (RegsOnly.refl s).setF.setF

theorem KeptBut.showSpare {offs : List Nat} (hk : KeptBut offs s t) (hoffs : R.SEQ_SPARE ∈ offs) (i : Option Nat) :
    KeptBut offs s (showSpare i t) := by
  cases i with
  | none => exact (hk.setF hoffs).setF hoffs
  | some i => exact (hk.setF hoffs).setF hoffs

theorem showSpare_shows {i : Nat} (hi : i < 32) (s : State) :
    getF (showSpare (some i) s) F.SEQ_SPARE_SPARE = i ∧ getF (showSpare (some i) s) F.SEQ_SPARE_PRESENT = 1 := by
  refine ⟨getF_setF_of_lt _ _ (by decide) hi, ?_⟩
  unfold Machine.showSpare
  dsimp only
  rw [getF_setF_of_apart _ _ (by decide)]
  exact getF_setF_of_lt _ _ (by decide) (by decide)

theorem showSpare_none_shows (s : State) : getF (showSpare none s) F.SEQ_SPARE_PRESENT = 0 := by
  unfold Machine.showSpare
  dsimp only
  rw [getF_setF_of_apart _ _ (by decide)]
  exact getF_setF_of_lt _ _ (by decide) (by decide)

theorem logsOnly_noSpare (s : State) : LogsOnly s (noSpare s) := by
  unfold noSpare
  split
  · exact logsOnly_raise _ _ s
  · exact .refl s

theorem KeptBut.noSpare {offs : List Nat} (hk : KeptBut offs s t) (hoffs : R.BST_STAT :: errRegs ⊆ offs) :
    KeptBut offs s (noSpare t) := by
  refine .ite (hk.raise (by decide) (fun _ ho => hoffs (List.mem_cons_of_mem _ ho)) ?_) hk
  rintro f ⟨⟩
  exact hoffs (List.mem_cons_self ..)

theorem bit_or_two_pow (x : Nat) {i n : Nat} (h : i < n) : bit ((x ||| 2 ^ i) % 2 ^ n) i = true := by
  have hbit : ((x ||| 2 ^ i) % 2 ^ n).testBit i = true := by
    rw [Nat.testBit_mod_two_pow, Nat.testBit_or, Nat.testBit_two_pow_self, Bool.or_true, Bool.and_true]
    exact decide_eq_true h
  rw [Nat.testBit_eq_decide_div_mod_eq] at hbit
  unfold bit
  exact hbit

/-- The map to be written to NVM. -/
def mapToWrite (r : Nat) (s : State) : State :=
  { s with bst := { s.bst with mapWrite := some ((s.bst.mapWrite.getD (getF s F.BST_NVMAP_MAP)) ||| 2 ^ r) } }

/-- A region marked in the map, before its tile shows it. -/
def regionMarked (r : Nat) (s : State) : State :=
  setBit (mapToWrite r (setF s F.BST_MAP_MAP (getF s F.BST_MAP_MAP ||| 2 ^ r))) F.BST_STAT_MARKED

theorem markRegion_of_tile {r : Nat} (hr : r < 17) (s : State) :
    markRegion r s = showUsable (setTile r 6 (regionMarked r s)) := by
  unfold markRegion
  exact if_pos hr

theorem keptBut_mapToWrite (offs : List Nat) (r : Nat) (s : State) : KeptBut offs s (mapToWrite r s) :=
  (KeptBut.refl offs s).of_regs rfl

theorem sameSeqMem_mapToWrite (r : Nat) (s : State) : SameSeqMem s (mapToWrite r s) := ⟨rfl, rfl⟩

theorem keptBut_regionMarked (r : Nat) (s : State) :
    KeptBut [R.BST_STAT] (setF s F.BST_MAP_MAP (getF s F.BST_MAP_MAP ||| 2 ^ r)) (regionMarked r s) :=
  (keptBut_mapToWrite _ r _).setBit (by decide)

theorem sameSeqMem_regionMarked (r : Nat) (s : State) : SameSeqMem s (regionMarked r s) :=
  ((RegsOnly.refl s).setF.sameSeqMem.trans (sameSeqMem_mapToWrite r _)).trans ((RegsOnly.refl _).setBit.sameSeqMem)

/-- A tile marked unusable in the map shows it. -/
theorem markRegion_shows {r : Nat} (hr : r < 17) (s : State) :
    tileState (markRegion r s) r = 6 ∧ bit (getF (markRegion r s) F.BST_MAP_MAP) r = true := by
  have shown : KeptBut [R.SEQ_SPARE] (setTile r 6 (regionMarked r s)) (markRegion r s) := by
    rw [markRegion_of_tile hr]
    exact (KeptBut.refl _ _).setF (by decide)
  constructor
  · rw [tileState_of_kept shown (tstatReg_notMem hr (by decide)), tileState_setTile (by decide)]
  · have hmap : getF (setTile r 6 (regionMarked r s)) F.BST_MAP_MAP = getF (regionMarked r s) F.BST_MAP_MAP :=
      getF_setF_of_ne _ _ _ _ (high_ne_tstatReg hr (by decide))
    rw [shown.getF (by decide), hmap, (keptBut_regionMarked r s).getF (by decide), getF_setF_self _ _ _ (by decide) (by decide)]
    exact bit_or_two_pow _ (by show r < 26; omega)

end Sys2Proof.Machine
end

section
/-! SUPPORT. HANDOVER_SWITCH (R108, R109): what becomes of the outgoing tile (O33). -/

namespace Sys2Proof.Machine

variable {s t w : State} {h : Handover} {offs : List Nat}

theorem KeptBut.markRegion {r : Nat} (hk : KeptBut offs s t) (hr : r < 17)
    (hoffs : [R.BST_MAP, R.BST_STAT, R.SEQ_TSTAT r, R.SEQ_SPARE] ⊆ offs) : KeptBut offs s (markRegion r t) := by
  have mapped : KeptBut offs s (regionMarked r t) :=
    ((hk.setF (hoffs (by simp [F.BST_MAP_MAP]))).trans (keptBut_mapToWrite _ _ _)).setBit (hoffs (by simp [F.BST_STAT_MARKED]))
  rw [markRegion_of_tile hr]
  exact (mapped.setTile (hoffs (by simp))).setF (hoffs (by simp [F.SEQ_SPARE_USABLE]))

theorem sameSeqMem_markRegion {r : Nat} (hr : r < 17) (s : State) : SameSeqMem s (markRegion r s) := by
  rw [markRegion_of_tile hr]
  exact (sameSeqMem_regionMarked r s).trans (RegsOnly.refl _).setTile.setF.sameSeqMem

theorem KeptBut.hoUnsilence (hk : KeptBut offs s t) (h : Handover) : KeptBut offs s (hoUnsilence h t) := hk.of_regs rfl

theorem KeptBut.fadeAt (hk : KeptBut offs s t) (q k : Nat) : KeptBut offs s (fadeAt q k t) := hk.of_regs rfl

theorem KeptBut.withBst (hk : KeptBut offs s t) (b : BstState) : KeptBut offs s { t with bst := b } := hk.of_regs rfl

theorem sameSeqMem_withBst (s : State) (b : BstState) : SameSeqMem s { s with bst := b } := ⟨rfl, rfl⟩

theorem sameSeqMem_fadeIn (h : Handover) (q k : Nat) (s : State) : SameSeqMem s (fadeAt q k (hoUnsilence h s)) := ⟨rfl, rfl⟩

theorem hoRetire_of_loss (hl : h.loss = true) (s : State) : hoRetire h s =
    setBit (fadeAt h.seat (h.at_ + 1) (hoUnsilence h (noSpare (showSpare none (markRegion h.src s))))) F.SEQ_STAT_HO_DONE :=
  if_pos hl

theorem hoRetire_of_test (hl : h.loss = false) (ht : h.test = true) (s : State) : hoRetire h s =
    setF { showSpare none (setTile h.src 5 s) with bst := { s.bst with slice := some (h.src, h.at_) } } F.BST_STATE_STATE 3 := by
  unfold hoRetire
  rw [hl, ht]
  rfl

theorem hoRetire_of_commanded (hl : h.loss = false) (ht : h.test = false) (s : State) :
    hoRetire h s = showSpare (some h.src) (setTile h.src 2 s) := by
  unfold hoRetire
  rw [hl, ht]
  rfl

/-- The registers that show what becomes of the outgoing tile. -/
def retireRegs (h : Handover) : List Nat :=
  R.SEQ_TSTAT h.src :: ([R.SEQ_SPARE, R.SEQ_STAT, R.BST_MAP, R.BST_STAT, R.BST_STATE] ++ errRegs)

theorem keptBut_hoRetire (hsrc : h.src < 17) (s : State) : KeptBut (retireRegs h) s (hoRetire h s) := by
  have tile : R.SEQ_TSTAT h.src ∈ retireRegs h := List.mem_cons_self ..
  have other : ∀ o ∈ [R.SEQ_SPARE, R.SEQ_STAT, R.BST_MAP, R.BST_STAT, R.BST_STATE] ++ errRegs, o ∈ retireRegs h :=
    fun o ho => List.mem_cons_of_mem _ ho
  have spare : R.SEQ_SPARE ∈ retireRegs h := other _ (by decide)
  cases hl : h.loss with
  | true =>
    have marked : KeptBut (retireRegs h) s (markRegion h.src s) := (KeptBut.refl _ s).markRegion hsrc (by
      rintro o ho
      simp only [List.mem_cons, List.not_mem_nil, or_false] at ho
      obtain rfl | rfl | rfl | rfl := ho
      · exact other _ (by decide)
      · exact other _ (by decide)
      · exact tile
      · exact spare)
    have bare := (marked.showSpare spare none).noSpare (fun o ho => other o ((by decide : R.BST_STAT :: errRegs ⊆ _) ho))
    rw [hoRetire_of_loss hl]
    exact ((bare.hoUnsilence h).fadeAt _ _).setBit (other _ (by decide))
  | false =>
    cases ht : h.test with
    | true =>
      rw [hoRetire_of_test hl ht]
      exact ((((KeptBut.refl _ s).setTile tile).showSpare spare none).withBst _).setF (other _ (by decide))
    | false =>
      rw [hoRetire_of_commanded hl ht]
      exact ((KeptBut.refl _ s).setTile tile).showSpare spare _

theorem sameSeqMem_hoRetire (hsrc : h.src < 17) (s : State) : SameSeqMem s (hoRetire h s) := by
  have retiled : ∀ (st : Nat) (i : Option Nat), SameSeqMem s (showSpare i (setTile h.src st s)) :=
    fun st i => ((RegsOnly.refl s).setTile.trans (regsOnly_showSpare i _)).sameSeqMem
  cases hl : h.loss with
  | true =>
    rw [hoRetire_of_loss hl]
    have marked := (sameSeqMem_markRegion hsrc s).trans (regsOnly_showSpare none _).sameSeqMem
    exact ((marked.trans (logsOnly_noSpare _).sameSeqMem).trans (sameSeqMem_fadeIn _ _ _ _)).trans
      (RegsOnly.refl _).setBit.sameSeqMem
  | false =>
    cases ht : h.test with
    | true =>
      rw [hoRetire_of_test hl ht]
      exact ((retiled 5 none).trans (sameSeqMem_withBst _ _)).trans (RegsOnly.refl _).setF.sameSeqMem
    | false =>
      rw [hoRetire_of_commanded hl ht]
      exact retiled 2 _

/-- A commanded handover leaves the outgoing tile as the spare. -/
theorem hoRetire_commanded_shows (hl : h.loss = false) (ht : h.test = false) (hsrc : h.src < 17) (s : State) :
    tileState (hoRetire h s) h.src = 2 ∧ getF (hoRetire h s) F.SEQ_SPARE_SPARE = h.src ∧
    getF (hoRetire h s) F.SEQ_SPARE_PRESENT = 1 := by
  rw [hoRetire_of_commanded hl ht]
  refine ⟨?_, showSpare_shows (by omega) _⟩
  have shown : KeptBut [R.SEQ_SPARE] (setTile h.src 2 s) (showSpare (some h.src) (setTile h.src 2 s)) :=
    (KeptBut.refl _ _).showSpare (by decide) _
  rw [tileState_of_kept shown (tstatReg_notMem hsrc (by decide)), tileState_setTile (by decide)]

/-- A test handover leaves the outgoing tile to self-test, and no spare. -/
theorem hoRetire_test_shows (hl : h.loss = false) (ht : h.test = true) (hsrc : h.src < 17) (s : State) :
    tileState (hoRetire h s) h.src = 5 ∧ getF (hoRetire h s) F.SEQ_SPARE_PRESENT = 0 ∧
    (hoRetire h s).bst.slice = some (h.src, h.at_) ∧ getF (hoRetire h s) F.BST_STATE_STATE = 3 := by
  rw [hoRetire_of_test hl ht]
  have spared : KeptBut [R.BST_STATE] (showSpare none (setTile h.src 5 s))
      (setF { showSpare none (setTile h.src 5 s) with bst := { s.bst with slice := some (h.src, h.at_) } } F.BST_STATE_STATE 3) :=
    ((KeptBut.refl _ _).withBst _).setF (by decide)
  have tiled : KeptBut [R.SEQ_SPARE] (setTile h.src 5 s) (showSpare none (setTile h.src 5 s)) :=
    (KeptBut.refl _ _).showSpare (by decide) _
  refine ⟨?_, ?_, ?_, getF_setF_of_lt _ _ (by decide) (by decide)⟩
  · rw [tileState_of_kept spared (tstatReg_notMem hsrc (by decide)), tileState_of_kept tiled (tstatReg_notMem hsrc (by decide)),
      tileState_setTile (by decide)]
  · rw [spared.getF (by decide), showSpare_none_shows]
  · rw [setF_bst]

/-- The handover of a lost tile leaves it marked, and no spare. -/
theorem hoRetire_loss_shows (hl : h.loss = true) (hsrc : h.src < 17) (s : State) :
    tileState (hoRetire h s) h.src = 6 ∧ bit (getF (hoRetire h s) F.BST_MAP_MAP) h.src = true ∧
    getF (hoRetire h s) F.SEQ_SPARE_PRESENT = 0 ∧ stBit (hoRetire h s) F.SEQ_STAT_HO_DONE = 1 := by
  rw [hoRetire_of_loss hl]
  obtain ⟨htile, hmap⟩ := markRegion_shows hsrc s
  have bared : KeptBut (R.SEQ_STAT :: R.BST_STAT :: errRegs) (showSpare none (markRegion h.src s))
      (setBit (fadeAt h.seat (h.at_ + 1) (hoUnsilence h (noSpare (showSpare none (markRegion h.src s))))) F.SEQ_STAT_HO_DONE) :=
    ((((KeptBut.refl _ _).noSpare (List.subset_cons_self _ _)).hoUnsilence h).fadeAt _ _).setBit (by decide)
  have spared : KeptBut [R.SEQ_SPARE] (markRegion h.src s) (showSpare none (markRegion h.src s)) :=
    (KeptBut.refl _ _).showSpare (by decide) _
  refine ⟨?_, ?_, ?_, stBit_setBit _ _ 0 (by decide)⟩
  · rw [tileState_of_kept bared (tstatReg_notMem hsrc (by decide)),
      tileState_of_kept spared (tstatReg_notMem hsrc (by decide)), htile]
  · rw [bared.getF (by decide), spared.getF (by decide), hmap]
  · rw [bared.getF (by decide), showSpare_none_shows]

/-! ### The command -/

/-- How a switch is reported: at once, or by the strobe that is still to judge it. -/
def hoReport (h : Handover) (s t : State) : State :=
  if h.loss then t
  else if h.at_ ≤ blk s then setBit t F.SEQ_STAT_HO_DONE
  else { t with seq := { t.seq with hoUndo := some (hoMark h s) } }

theorem exec_handoverSwitch_of_sound (hho : s.seq.ho = some h) (hdue : due s h.at_ = true)
    (hs : h.struck = false ∨ h.loss = true) :
    exec .handoverSwitch s = .next (hoReport h s (hoSwitch h s)) := by
  change execHandoverSwitch s = _
  unfold execHandoverSwitch hoReport
  rw [hho]
  dsimp only
  rw [if_neg (by rw [hdue]; decide)]
  cases hl : h.loss with
  | true => rfl
  | false => rw [hs.resolve_right (by rw [hl]; decide)]; rfl

theorem exec_handoverSwitch_of_struck (hho : s.seq.ho = some h) (hdue : due s h.at_ = true) (hl : h.loss = false)
    (hs : h.struck = true) : exec .handoverSwitch s = .next (hoAbort 4 h.at_ h s) := by
  change execHandoverSwitch s = _
  unfold execHandoverSwitch
  rw [hho]
  dsimp only
  rw [if_neg (by rw [hdue]; decide), hl, hs, if_neg (by decide), if_pos rfl]

theorem keptBut_hoReport (h : Handover) (s t : State) : KeptBut [R.SEQ_STAT] t (hoReport h s t) :=
  .ite (.refl _ t) (.ite ((KeptBut.refl _ t).setBit (by decide)) ((KeptBut.refl _ t).of_regs rfl))

theorem hoReport_parts (h : Handover) (s t : State) :
    (hoReport h s t).seq.ho = t.seq.ho ∧ (hoReport h s t).mem = t.mem ∧ (hoReport h s t).bst = t.bst := by
  unfold hoReport
  split
  · exact ⟨rfl, rfl, rfl⟩
  · split
    · obtain ⟨r, hr⟩ := (RegsOnly.refl t).setBit (f := F.SEQ_STAT_HO_DONE) (i := 0)
      rw [hr]
      exact ⟨rfl, rfl, rfl⟩
    · exact ⟨rfl, rfl, rfl⟩

/-- A switch whose strobe has passed is done at once. -/
theorem hoReport_done (hl : h.loss = false) (hpast : h.at_ ≤ blk s) (t : State) :
    stBit (hoReport h s t) F.SEQ_STAT_HO_DONE = 1 := by
  unfold hoReport
  rw [hl, if_neg (by decide), if_pos hpast]
  exact stBit_setBit t _ 0 (by decide)

/-- The handover of a lost tile, and a switch whose strobe has passed, are done at once. -/
theorem hoReport_shows_done (hsrc : h.src < 17) (s : State) (hnow : h.loss = true ∨ h.at_ ≤ blk s) :
    stBit (hoReport h s (hoSwitch h s)) F.SEQ_STAT_HO_DONE = 1 := by
  cases hl : h.loss with
  | true =>
    unfold hoReport
    rw [if_pos hl, hoSwitch_eq]
    obtain ⟨-, -, -, hdone⟩ := hoRetire_loss_shows hl hsrc (hoLeave h (hoSeat h (hoCopy h s)))
    exact hdone
  | false => exact hoReport_done hl (hnow.resolve_left (by rw [hl]; decide)) _

/-- A switch ahead of its strobe can be taken back. -/
theorem hoReport_undo (hl : h.loss = false) (hahead : blk s < h.at_) (t : State) :
    (hoReport h s t).seq.hoUndo = some (hoMark h s) := by
  unfold hoReport
  rw [hl, if_neg (by decide), if_neg (by omega)]

/-- After the seat's move the switch writes the outgoing tile's registers and those that show the spare, the map and the
handover. -/
theorem keptBut_after_hoSeat (hsrc : h.src < 17) (s : State) :
    KeptBut (R.SEQ_TEXP h.src :: R.SEQ_HO_STAT :: retireRegs h) (hoSeat h (hoCopy h s)) (hoSwitch h s) := by
  rw [hoSwitch_eq]
  refine (KeptBut.mono (keptBut_hoLeave h _) ?_).trans ((keptBut_hoRetire hsrc _).mono ?_)
  · intro o ho
    simp only [List.mem_cons, List.not_mem_nil, or_false] at ho
    obtain rfl | rfl | rfl := ho <;> simp [retireRegs]
  · exact fun o ho => List.mem_cons_of_mem _ (List.mem_cons_of_mem _ ho)

theorem hoSwitch_mem (hsrc : h.src < 17) (s : State) : (hoSwitch h s).mem = (hoCopy h s).mem := by
  rw [hoSwitch_eq]
  obtain ⟨-, -, hleave⟩ := hoLeave_shows h (hoSeat h (hoCopy h s))
  exact (sameSeqMem_hoRetire hsrc _).2.trans (hleave.trans (regsOnly_hoSeat h _).sameSeqMem.2)

theorem hoSwitch_ho (hsrc : h.src < 17) (s : State) : (hoSwitch h s).seq.ho = none := by
  rw [hoSwitch_eq]
  obtain ⟨-, hho, -⟩ := hoLeave_shows h (hoSeat h (hoCopy h s))
  exact (congrArg SeqState.ho (sameSeqMem_hoRetire hsrc _).1).trans hho

theorem hoSwitch_shows_done (hsrc : h.src < 17) (s : State) : getF (hoSwitch h s) F.SEQ_HO_STAT_STATE = 3 := by
  rw [hoSwitch_eq]
  have away : R.SEQ_HO_STAT ∉ retireRegs h :=
    List.not_mem_cons_of_ne_of_not_mem (low_ne_tstatReg (by decide)) (by decide)
  obtain ⟨hstate, -, -⟩ := hoLeave_shows h (hoSeat h (hoCopy h s))
  exact ((keptBut_hoRetire hsrc _).getF (f := F.SEQ_HO_STAT_STATE) away).trans hstate

/-- The receiving tile has the seat. -/
theorem hoSwitch_seats (hsrc : h.src < 17) (hdst : h.dst < 17) (hne : h.src ≠ h.dst) (hq : h.seat < 16) (s : State) :
    tileSeat (hoSwitch h s) h.dst = some h.seat ∧
    (fbSeats s = false →
      getF (hoSwitch h s) (F.SEQ_SEAT_TILE h.seat) = h.dst ∧ getF (hoSwitch h s) (F.SEQ_SEAT_VALID h.seat) = 1) := by
  have kept := keptBut_after_hoSeat hsrc s
  have closed : ∀ o ∈ [R.SEQ_SPARE, R.SEQ_STAT, R.BST_MAP, R.BST_STAT, R.BST_STATE] ++ errRegs,
      (o < 0x30040 ∨ 0x30080 ≤ o) ∧ (o < 0x30100 ∨ 0x30144 ≤ o) := by decide
  have tile : R.SEQ_TSTAT h.dst ∉ R.SEQ_TEXP h.src :: R.SEQ_HO_STAT :: retireRegs h :=
    List.not_mem_cons_of_ne_of_not_mem (tstatReg_ne_texpReg hdst)
      (List.not_mem_cons_of_ne_of_not_mem (low_ne_tstatReg (by decide)).symm
        (List.not_mem_cons_of_ne_of_not_mem (tstatReg_ne hne.symm) (tstatReg_notMem hdst fun o ho => (closed o ho).2)))
  have seat : R.SEQ_SEAT h.seat ∉ R.SEQ_TEXP h.src :: R.SEQ_HO_STAT :: retireRegs h :=
    List.not_mem_cons_of_ne_of_not_mem (seatReg_ne_texpReg hq)
      (List.not_mem_cons_of_ne_of_not_mem (by unfold R.SEQ_SEAT R.SEQ_HO_STAT; omega)
        (List.not_mem_cons_of_ne_of_not_mem (seatReg_ne_tstatReg hq) (seatReg_notMem hq fun o ho => (closed o ho).1)))
  have fb : fbSeats (hoCopy h s) = fbSeats s := fbSeats_of_kept (keptBut_hoCopy [] h s) (by decide)
  refine ⟨(tileSeat_of_kept kept tile).trans (tileSeat_seatTile hq _ _ _ _), fun hprimary => ?_⟩
  rw [kept.getF (f := F.SEQ_SEAT_TILE h.seat) seat, kept.getF (f := F.SEQ_SEAT_VALID h.seat) seat]
  unfold hoSeat
  rw [fb, hprimary]
  exact seat_seatTile hq hdst _ _

/-! ### The strobe's judgement -/

theorem hoSettle_of_sound {u : HoUndo} (hs : u.h.struck = false) : hoSettle u s = setBit s F.SEQ_STAT_HO_DONE :=
  if_neg (by rw [hs]; decide)

theorem hoSettle_of_struck {u : HoUndo} (hs : u.h.struck = true) : hoSettle u s = hoAbort 4 u.h.at_ u.h (hoTakeBack u s) :=
  if_pos hs

end Sys2Proof.Machine
end

section
/-! SUPPORT. A handover that ends without a switch (R109) (O33). -/

namespace Sys2Proof.Machine

variable {s t w : State} {h : Handover} {offs : List Nat}

/-- The abort shown. -/
def hoFailed (reason : Nat) (s : State) : State :=
  setF (setF (hoEnded s) F.SEQ_HO_STAT_STATE 4) F.SEQ_HO_STAT_REASON reason

/-- The receiving tile is the spare again. -/
def hoGiveBack (h : Handover) (s : State) : State := if tileUsable s h.dst then setTile h.dst 2 s else s

/-- Self-test's slice ends with its handover, and the abort is a recovery event. -/
def hoRecover (b : Nat) (h : Handover) (s : State) : State := recoverHandover b (if h.test then sliceEnd s else s)

theorem hoAbort_eq (b : Nat) (h : Handover) (s : State) :
    hoAbort 4 b h s = hoRecover b h (raise .seqHoAbort h.src (hoGiveBack h (hoFailed 4 s))) := by
  unfold hoAbort
  exact if_neg (by decide)

theorem hoFailed_shows (s : State) :
    getF (hoFailed 4 s) F.SEQ_HO_STAT_STATE = 4 ∧ getF (hoFailed 4 s) F.SEQ_HO_STAT_REASON = 4 ∧
    (hoFailed 4 s).seq.ho = none ∧ (hoFailed 4 s).mem = s.mem := by
  unfold hoFailed
  refine ⟨?_, getF_setF_of_lt _ _ (by decide) (by decide), ?_, ?_⟩
  · rw [getF_setF_of_apart _ _ (by decide), getF_setF_of_lt _ _ (by decide) (by decide)]
  · rw [setF_seq, setF_seq, hoEnded_ho]
  · rw [setF_mem, setF_mem, hoEnded_mem]

theorem keptBut_hoFailed (reason : Nat) (s : State) : KeptBut [R.SEQ_HO_STAT] s (hoFailed reason s) :=
  KeptBut.setF (.setF ((KeptBut.refl _ s).of_regs rfl) (by decide)) (by decide)

theorem regsOnly_hoGiveBack (h : Handover) (s : State) : RegsOnly s (hoGiveBack h s) := .ite (RegsOnly.refl s).setTile (.refl s)

theorem keptBut_hoGiveBack (h : Handover) (s : State) : KeptBut [R.SEQ_TSTAT h.dst] s (hoGiveBack h s) :=
  .ite ((KeptBut.refl _ s).setTile (List.mem_singleton_self _)) (.refl _ s)

theorem tileState_hoGiveBack (hu : tileUsable s h.dst = true) : tileState (hoGiveBack h s) h.dst = 2 := by
  unfold hoGiveBack
  rw [if_pos hu, tileState_setTile (by decide)]

theorem keptBut_raise_hoAbort (src : Nat) (s : State) : KeptBut (R.SEQ_STAT :: errRegs) s (raise .seqHoAbort src s) := by
  refine (KeptBut.refl _ s).raise (by decide) (List.subset_cons_self _ _) ?_
  rintro f ⟨⟩
  exact List.mem_cons_self ..

theorem ScaleLogsOnly.sameSeqMem (h : ScaleLogsOnly s t) : SameSeqMem s t := by
  obtain ⟨r, e, j, a, rfl⟩ := h
  exact ⟨rfl, rfl⟩

theorem keptBut_sliceEnd (s : State) : KeptBut [R.BST_STATE] s (sliceEnd s) :=
  (KeptBut.setF (.setF (.refl _ s) (by decide)) (by decide)).withBst _

theorem sameSeqMem_sliceEnd (s : State) : SameSeqMem s (sliceEnd s) :=
  ((RegsOnly.refl s).setF.setF).sameSeqMem.trans (sameSeqMem_withBst _ _)

theorem keptBut_recoverHandover (b : Nat) (s : State) : KeptBut ascRegs s (recoverHandover b s) :=
  .ite (keptBut_ascTrigger _ _ _ _ s) (.refl _ s)

theorem sameSeqMem_recoverHandover (b : Nat) (s : State) : SameSeqMem s (recoverHandover b s) := by
  unfold recoverHandover recoveryEvent
  split
  · exact (scaleLogsOnly_ascTrigger _ _ _ _ s).sameSeqMem
  · exact ⟨rfl, rfl⟩

theorem keptBut_hoRecover (b : Nat) (h : Handover) (s : State) : KeptBut (R.BST_STATE :: ascRegs) s (hoRecover b h s) :=
  (KeptBut.ite ((keptBut_sliceEnd s).mono (by decide)) (.refl _ s)).trans
    ((keptBut_recoverHandover b _).mono (List.subset_cons_self _ _))

theorem sameSeqMem_hoRecover (b : Nat) (h : Handover) (s : State) : SameSeqMem s (hoRecover b h s) := by
  refine SameSeqMem.trans ?_ (sameSeqMem_recoverHandover b _)
  split
  · exact sameSeqMem_sliceEnd s
  · exact ⟨rfl, rfl⟩

/-- The registers that an abort writes beside SEQ_HO_STAT. -/
def abortRegs (h : Handover) : List Nat := R.SEQ_TSTAT h.dst :: R.SEQ_STAT :: R.BST_STATE :: ascRegs

/-- What follows the abort that the receiving tile returns from. -/
theorem keptBut_after_hoGiveBack (b src : Nat) (h : Handover) (s : State) :
    KeptBut (R.SEQ_STAT :: R.BST_STATE :: ascRegs) s (hoRecover b h (raise .seqHoAbort src s)) :=
  ((keptBut_raise_hoAbort src s).mono (by decide)).trans ((keptBut_hoRecover b h _).mono (by decide))

theorem keptBut_after_hoFailed (b : Nat) (h : Handover) (s : State) : KeptBut (abortRegs h) (hoFailed 4 s) (hoAbort 4 b h s) := by
  rw [hoAbort_eq]
  exact ((keptBut_hoGiveBack h _).mono (by simp [abortRegs])).trans
    ((keptBut_after_hoGiveBack b h.src h _).mono (List.subset_cons_self _ _))

theorem sameSeqMem_after_hoFailed (b : Nat) (h : Handover) (s : State) : SameSeqMem (hoFailed 4 s) (hoAbort 4 b h s) := by
  rw [hoAbort_eq]
  exact ((regsOnly_hoGiveBack h _).sameSeqMem.trans (logsOnly_raise _ _ _).sameSeqMem).trans (sameSeqMem_hoRecover b h _)

/-- An abort with reason 4 shows it and ends the handover. -/
theorem hoAbort_shows (b : Nat) (h : Handover) (s : State) :
    getF (hoAbort 4 b h s) F.SEQ_HO_STAT_STATE = 4 ∧ getF (hoAbort 4 b h s) F.SEQ_HO_STAT_REASON = 4 ∧
    (hoAbort 4 b h s).seq.ho = none ∧ (hoAbort 4 b h s).mem = s.mem := by
  have away : R.SEQ_HO_STAT ∉ abortRegs h := List.not_mem_cons_of_ne_of_not_mem (low_ne_tstatReg (by decide)) (by decide)
  have kept := keptBut_after_hoFailed b h s
  obtain ⟨seq, mem⟩ := sameSeqMem_after_hoFailed b h s
  obtain ⟨hstate, hreason, hho, hmem⟩ := hoFailed_shows s
  exact ⟨(kept.getF (f := F.SEQ_HO_STAT_STATE) away).trans hstate, (kept.getF (f := F.SEQ_HO_STAT_REASON) away).trans hreason,
    (congrArg SeqState.ho seq).trans hho, mem.trans hmem⟩

/-- The receiving tile, if usable, is the spare again. -/
theorem tileState_hoAbort (hdst : h.dst < 17) (hu : tileUsable s h.dst = true) (b : Nat) :
    tileState (hoAbort 4 b h s) h.dst = 2 := by
  have usable : tileUsable (hoFailed 4 s) h.dst = true := by
    unfold tileUsable
    rw [(keptBut_hoFailed 4 s).getF (by decide)]
    exact hu
  rw [hoAbort_eq, tileState_of_kept (keptBut_after_hoGiveBack b h.src h _) (tstatReg_notMem hdst (by decide)),
    tileState_hoGiveBack usable]

/-- No seat changes its tile. -/
theorem seat_hoAbort {q : Nat} (hq : q < 16) (b : Nat) (h : Handover) (s : State) :
    rd (hoAbort 4 b h s) (R.SEQ_SEAT q) = rd s (R.SEQ_SEAT q) := by
  have away : R.SEQ_SEAT q ∉ abortRegs h :=
    List.not_mem_cons_of_ne_of_not_mem (seatReg_ne_tstatReg hq) (seatReg_notMem hq (by decide))
  rw [keptBut_after_hoFailed b h s _ away, keptBut_hoFailed 4 s _ (seatReg_notMem hq (by decide))]

end Sys2Proof.Machine
end

section
namespace Sys2Proof.Machine

/-- Settles O33: the command is its record followed by its start or refusal; sweep and switch copy the region and then write
registers apart from those that they show; the switch is a move of the seat, then the leave and the retirement of the outgoing
tile. -/
theorem handoverMovesSeat : Obligations.HandoverMovesSeat := by
  unfold Obligations.HandoverMovesSeat
  refine ⟨?_, ?_, ?_, ?_, ?_, ?_, ?_, ?_, ?_, ?_, ?_⟩
  · rintro via q s t0 hseat hfar ⟨hho, hspare⟩
    have noted := noted_journalReg via R.SEQ_HO_CTL (BitVec.ofNat 32 (2 ^ 31 + q.val)) s
    refine ⟨_, rfl, ?_⟩
    rw [seqHandoverGo_of_accepted (t0 := t0.val) ((noted.seated q.isLt).trans hseat)
      (by rw [noted.blk, noted.hoBlock]; exact hfar)
      (by rw [noted.seq, hho]) (by rw [noted.getF _ (by decide), hspare]), noted.hoAsked]
    exact hoStart_spec noted q.isLt (by show t0.val < 32; omega) (getF_lt s _)
  · rintro via q s t0 hseat hnear
    have noted := noted_journalReg via R.SEQ_HO_CTL (BitVec.ofNat 32 (2 ^ 31 + q.val)) s
    refine ⟨_, rfl, ?_⟩
    rw [seqHandoverGo_of_near ((noted.seated q.isLt).trans hseat) (by rw [noted.blk, noted.hoBlock]; exact hnear)]
    exact hoRefusal_spec noted (by decide)
  · rintro via q s t0 hseat hfar hho
    have noted := noted_journalReg via R.SEQ_HO_CTL (BitVec.ofNat 32 (2 ^ 31 + q.val)) s
    refine ⟨_, rfl, ?_⟩
    rw [seqHandoverGo_of_busy ((noted.seated q.isLt).trans hseat) (by rw [noted.blk, noted.hoBlock]; exact hfar)
      (by rw [noted.seq]; exact Option.isSome_iff_ne_none.mpr hho)]
    exact hoRefusal_spec noted (by decide)
  · rintro via q s hno
    have noted := noted_journalReg via R.SEQ_HO_CTL (BitVec.ofNat 32 (2 ^ 31 + q.val)) s
    refine ⟨_, rfl, ?_⟩
    rw [seqHandoverGo_of_noTile (by rwa [noted.seated q.isLt, noted.blk, noted.hoBlock, noted.seq, noted.getF _ (by decide)])]
    exact hoRefusal_spec noted (by decide)
  · rintro s h ⟨hho, hdue, hswept⟩ - -
    obtain ⟨parts, hho'⟩ := hoSweep_eq_with { h with swept := true } s
    obtain ⟨htile, hstate⟩ := hoSweep_shows { h with swept := true } s
    have mem := (regsOnly_hoSweep { h with swept := true } s).sameMem
    exact ⟨_, exec_handoverSweep_of_due hho hdue hswept, hho', htile, hstate, fun b hb => rdByte_of_copied_inside mem hb,
      fun a ha => rdByte_of_copied_outside mem ha, parts,
      keptBut_hoSweep { h with swept := true } s⟩
  · rintro s h ⟨hho, hdue, hsound⟩ ⟨hsrc, hdst, hne, hq⟩ -
    obtain ⟨pho, pmem, -⟩ := hoReport_parts h s (hoSwitch h s)
    have kept := keptBut_hoReport h s (hoSwitch h s)
    obtain ⟨hseat, hprimary⟩ := hoSwitch_seats hsrc hdst hne hq s
    have mem : SameMem (hoCopy h s) (hoReport h s (hoSwitch h s)) := sameMem_of_mem (pmem.trans (hoSwitch_mem hsrc s))
    refine ⟨_, exec_handoverSwitch_of_sound hho hdue hsound, pho.trans (hoSwitch_ho hsrc s), ?_, fun hfb => ?_, ?_, ?_,
      fun ⟨hl, hahead⟩ => hoReport_undo hl hahead _, fun b hb => rdByte_of_copied_inside mem hb,
      fun a ha => rdByte_of_copied_outside mem ha⟩
    · rw [tileSeat_of_kept kept (tstatReg_notMem hdst (by decide)), hseat]
    · rw [kept.getF (f := F.SEQ_SEAT_TILE h.seat) (seatReg_notMem hq (by decide)),
        kept.getF (f := F.SEQ_SEAT_VALID h.seat) (seatReg_notMem hq (by decide))]
      exact hprimary hfb
    · rw [kept.getF (by decide), hoSwitch_shows_done hsrc]
    · exact hoReport_shows_done hsrc s
  · intro s u
    refine ⟨fun hsound => ?_, fun hstruck => ?_⟩
    · rw [hoSettle_of_sound hsound]
      exact stBit_setBit s _ 0 (by decide)
    · rw [hoSettle_of_struck hstruck]
      obtain ⟨hstate, hreason, hho, -⟩ := hoAbort_shows u.h.at_ u.h (hoTakeBack u s)
      exact ⟨hstate, hreason, hho⟩
  · rintro s h ⟨hho, hdue, hl, ht, hs⟩ ⟨hsrc, -, -⟩
    have kept := keptBut_hoReport h s (hoSwitch h s)
    refine ⟨_, exec_handoverSwitch_of_sound hho hdue (.inl hs), ?_⟩
    rw [tileState_of_kept kept (tstatReg_notMem hsrc (by decide)), kept.getF (by decide), kept.getF (by decide), hoSwitch_eq]
    exact hoRetire_commanded_shows hl ht hsrc _
  · rintro s h ⟨hho, hdue, hl, ht, hs⟩ ⟨hsrc, -, -⟩
    have kept := keptBut_hoReport h s (hoSwitch h s)
    obtain ⟨-, -, pbst⟩ := hoReport_parts h s (hoSwitch h s)
    refine ⟨_, exec_handoverSwitch_of_sound hho hdue (.inl hs), ?_⟩
    rw [tileState_of_kept kept (tstatReg_notMem hsrc (by decide)), kept.getF (by decide), kept.getF (by decide), pbst,
      hoSwitch_eq]
    exact hoRetire_test_shows hl ht hsrc _
  · rintro s h ⟨hho, hdue, hl⟩ ⟨hsrc, -, -⟩
    have kept := keptBut_hoReport h s (hoSwitch h s)
    refine ⟨_, exec_handoverSwitch_of_sound hho hdue (.inr hl), ?_⟩
    rw [tileState_of_kept kept (tstatReg_notMem hsrc (by decide)), kept.getF (by decide), kept.getF (by decide), hoSwitch_eq]
    obtain ⟨htile, hmap, hspare, -⟩ := hoRetire_loss_shows hl hsrc (hoLeave h (hoSeat h (hoCopy h s)))
    exact ⟨htile, hmap, hspare⟩
  · rintro s h ⟨hho, hdue, hl, hs⟩ ⟨hsrc, hdst, hne, hu⟩
    obtain ⟨hstate, hreason, hho', hmem⟩ := hoAbort_shows h.at_ h s
    exact ⟨_, exec_handoverSwitch_of_struck hho hdue hl hs, hho', tileState_hoAbort hdst hu _, hstate, hreason,
      fun q => seat_hoAbort q.isLt _ _ _, sameMem_of_mem hmem⟩

end Sys2Proof.Machine
end

section
/-! SUPPORT. TILE_OVERRUN of a block whose partial sums had all been written still takes the seat's bed contributions back (R105,
R238) (O34). -/

namespace Sys2Proof.Machine

variable {s : State} {t q : Nat}

theorem LogsOnly.rnd {u : State} (h : LogsOnly s u) : u.rnd = s.rnd := by
  obtain ⟨r, e, j, rfl⟩ := h
  rfl

theorem mem_poolClear (w n : Nat) (s : State) :
    (poolClear w n s).mem = s.mem.filter (fun c => !(poolBase + 16 * w ≤ c.1 && c.1 < poolBase + 16 * (w + n))) := rfl

/-- Without bed-free sums of the block the seat's partial sums and counts read zero. -/
theorem accStore_nil (b q : Nat) (s : State) :
    accStore b q [] [] s = poolClear (countWord b q 0) 1344 (poolClear (psumWord b q 0) 21504 s) := rfl

theorem mem_forEach {α : Type} {f : α → State → State} (hf : ∀ a u, (f a u).mem = u.mem) (l : List α) (s : State) :
    (forEach l f s).mem = s.mem := by
  unfold forEach
  exact List.foldlRecOn (motive := fun u => u.mem = s.mem) l _ rfl fun u hu a _ => (hf a u).trans hu

theorem mem_slotAbandon (h : Nat) (s : State) : (slotAbandon h s).mem = s.mem := by
  unfold slotAbandon
  split
  rename_i heq
  obtain ⟨-, rfl⟩ := Prod.mk.inj heq
  rfl

theorem mem_chanAbandon (b c : Nat) (s : State) : (chanAbandon b c s).mem = s.mem := by
  unfold chanAbandon
  split
  rename_i heq
  obtain ⟨-, rfl⟩ := Prod.mk.inj heq
  rfl

theorem rnd_hoStrike (t : Nat) (s : State) : (hoStrike t s).rnd = s.rnd := rfl

theorem mem_hoStrike (t : Nat) (s : State) : (hoStrike t s).mem = s.mem := rfl

theorem mem_fadeAt (q k : Nat) (s : State) : (fadeAt q k s).mem = s.mem := rfl

/-- A tile that has issued all its claims has none left. -/
theorem unissued_zero (run : RanTab) : unissued run 0 = [] := List.drop_length

/-- The overrun of a tile that has issued its claims and written its partial sums, in a block without bed-free sums: of memory, the
seat's partial sums and counts are zeroed. -/
theorem mem_tileOverrun_of_written (hseat : tileSeat s t = some q) (hbed : s.rnd.bedless = []) :
    (tileOverrun t [] 0 s).mem =
      (poolClear (countWord (blk s) q 0) 1344 (poolClear (psumWord (blk s) q 0) 21504 s)).mem := by
  unfold tileOverrun
  split
  next hnone =>
    rw [hseat] at hnone
    contradiction
  next q' hsome =>
    obtain rfl : q = q' := Option.some.inj (hseat.symm.trans hsome)
    extract_lets b s1 s2 gone s3 bare s4 s5 s6 s7
    have raised : LogsOnly s s1 := ((logsOnly_cnt s _).trans (logsOnly_raise _ _ _)).trans (logsOnly_setF _ _ _)
    have hgone : gone = [] := by
      unfold gone
      split
      · exact unissued_zero _
      · rfl
    have h3 : s3 = hoStrike t s1 := by
      unfold s3
      rw [hgone]
      rfl
    have hrnd : s3.rnd = s.rnd := by rw [h3, rnd_hoStrike, raised.rnd]
    have hbare : bare = ([], []) := by
      unfold bare
      rw [hrnd, hbed]
      rfl
    have h4 : s4 = accStore (blk s) q [] [] (hoStrike t s1) := by
      unfold s4
      rw [hbare, h3]
      rfl
    have h6 : s6.mem = s4.mem :=
      (mem_forEach (mem_chanAbandon b) _ s5).trans (mem_forEach mem_slotAbandon _ s4)
    rw [tileMod_mem, mem_fadeAt, h6, h4, accStore_nil, mem_poolClear, mem_poolClear, mem_hoStrike, raised.mem, mem_poolClear,
      mem_poolClear]

/-- The first byte of the partial sums that seat 3 writes in block 0. -/
def firstSumByte : Nat := poolBase + 16 * psumWord 0 3 0

/-- Tile 5 runs seat 3, which has written a partial sum that is not zero. -/
def seatWithSum : State := { setF (seatTile false 3 5 0 State.reset) F.PAT_STATE_LIVE 1 with mem := [(firstSumByte, 1)] }

theorem seatWithSum_runs : running seatWithSum = true ∧ tileSeat seatWithSum 5 = some 3 := by decide

theorem rdByte_seatWithSum : rdByte seatWithSum firstSumByte = 1 := by decide

theorem rdByte_tileOverrun_seatWithSum : rdByte (tileOverrun 5 [] 0 seatWithSum) firstSumByte = 0 := by
  have hmem : (tileOverrun 5 [] 0 seatWithSum).mem = [] := by
    rw [mem_tileOverrun_of_written seatWithSum_runs.2 rfl]
    decide
  unfold rdByte
  rw [hmem]
  decide

/-- Refutes O34: the overrun of a tile zeroes its seat's bed contributions to the partial sums, those that had been written among
them (R238), so a byte of memory changes though none was left unwritten. -/
theorem not_tileLossesAndFallback : ¬ Obligations.TileLossesAndFallback := by
  unfold Obligations.TileLossesAndFallback
  rintro ⟨overruns, -⟩
  obtain ⟨u, hu, -, -, -, -, -, sameMem⟩ := overruns 5 [] 0 seatWithSum 3 seatWithSum_runs
  have hexec : exec (.tileOverrun 5 [] 0) seatWithSum = .next (tileOverrun 5 [] 0 seatWithSum) :=
    congrArg Host.Outcome.next (if_pos seatWithSum_runs.1)
  obtain rfl : tileOverrun 5 [] 0 seatWithSum = u := Host.Outcome.next.inj (hexec.symm.trans hu)
  have same := sameMem rfl firstSumByte
  rw [rdByte_tileOverrun_seatWithSum, rdByte_seatWithSum] at same
  exact absurd same (by decide)

end Sys2Proof.Machine
end

section
/-! SUPPORT. The Pattern loader's registers: what each operation shows, and what it leaves alone (R76 to R79). -/

namespace Sys2Proof.Machine

variable {s t u : State} {offs : List Nat} {p : PatState}

/-! ### Exchanging the loader's state: registers and memory stay -/

theorem getF_withPat (s : State) (p : PatState) (f : Fld) : getF { s with pat := p } f = getF s f := rfl

theorem getF_journal (src : Src) (kind addr value msi : Nat) (s : State) {f : Fld} (hf : f.off ∉ jnlRegs) :
    getF (journal src kind addr value msi s) f = getF s f :=
  ((KeptBut.refl jnlRegs s).journal (List.Subset.refl _)).getF hf

theorem getF_journalPat (via : Src) (cmd slot id msi : Nat) (s : State) {f : Fld} (hf : f.off ∉ jnlRegs) :
    getF (journalPat via cmd slot id msi s) f = getF s f := getF_journal _ _ _ _ _ s hf

theorem rdN_setF (s : State) (f : Fld) (v : Nat) {o : Nat} (ho : o ≠ f.off) : rdN (setF s f v) o = rdN s o :=
  congrArg BitVec.toNat (rd_setF_of_ne s f v ho)

/-! ### PAT_RESULT -/

theorem getF_patResult (cmd reason amd : Nat) (s : State) {f : Fld} (hf : f.off ≠ R.PAT_RESULT) :
    getF (patResult cmd reason amd s) f = getF s f := by
  unfold patResult
  rw [getF_setF_of_ne _ _ _ _ hf, getF_setF_of_ne _ _ _ _ hf, getF_setF_of_ne _ _ _ _ hf]

theorem resultCmd_patResult {cmd : Nat} (reason amd : Nat) (hc : cmd < 16) (s : State) :
    getF (patResult cmd reason amd s) F.PAT_RESULT_CMD = cmd := by
  unfold patResult
  rw [getF_setF_of_apart _ _ (by decide), getF_setF_of_apart _ _ (by decide), getF_setF_of_lt _ _ (by decide) hc]

theorem resultReason_patResult {reason : Nat} (cmd amd : Nat) (hr : reason < 256) (s : State) :
    getF (patResult cmd reason amd s) F.PAT_RESULT_REASON = reason := by
  unfold patResult
  rw [getF_setF_of_apart _ _ (by decide), getF_setF_of_lt _ _ (by decide) hr]

theorem resultAmdId_patResult (cmd reason amd : Nat) (s : State) :
    getF (patResult cmd reason amd s) F.PAT_RESULT_AMD_ID = amd % 2 ^ 16 :=
  getF_setF_self _ _ _ (by decide) (by decide)

theorem reasonCode_lt (r : Reason) : reasonCode r < 256 := by cases r <;> decide

/-! ### PAT_STATE and PAT_STAT -/

theorem stg_setStg {v : Nat} (hv : v < 16) (s : State) : stg (setStg v s) = v := getF_setF_of_lt s _ (by decide) hv

theorem getF_setStg (v : Nat) (s : State) {f : Fld} (hf : Apart F.PAT_STATE_STG f) : getF (setStg v s) f = getF s f :=
  getF_setF_of_apart s v hf

theorem getF_showBusy (s : State) {f : Fld} (hf : Apart F.PAT_STATE_BUSY f) : getF (showBusy s) f = getF s f :=
  getF_setF_of_apart s _ hf

theorem busy_showBusy (s : State) : getF (showBusy s) F.PAT_STATE_BUSY = b2n (loaderBusy s) :=
  getF_setF_of_lt s _ (by decide) (by cases loaderBusy s <;> decide)

theorem loaderBusy_of_busy {op : LoaderOp} (h : s.pat.busy = some op) : loaderBusy s = true := by
  unfold loaderBusy
  rw [h]
  rfl

theorem getF_patDone (s : State) {f : Fld} (hf : f.off ≠ R.PAT_STAT) : getF (patDone s) f = getF s f :=
  getF_setF_of_ne s _ f 1 hf

theorem done_patDone (s : State) : stBit (patDone s) F.PAT_STAT_DONE = 1 := stBit_setBit s _ 0 (by decide)

/-! ### The identity of the staged Pattern -/

theorem rdN_wrN_of_ne (s : State) {o o' : Nat} (v : Nat) (h : o' ≠ o) : rdN (wrN s o v) o' = rdN s o' :=
  congrArg BitVec.toNat (rd_wr_of_ne s _ h)

theorem getF_wrN_of_ne (s : State) (o v : Nat) {f : Fld} (h : f.off ≠ o) : getF (wrN s o v) f = getF s f :=
  congrArg (fget · _ _) (rd_wr_of_ne s _ h)

/-- A number in a pair of registers reads as written, cut to 64 bits. -/
theorem rd64_wr64 (s : State) {lo hi : Nat} (v : Nat) (h : lo ≠ hi) : rd64 (wr64 s lo hi v) lo hi = v % 2 ^ 64 := by
  unfold rd64 wr64
  rw [rdN_wrN_of_ne _ _ h, rdN_wrN_self, rdN_wrN_self]
  omega

/-- The identity that the staging area shows, and its checksum. -/
def stagedIdent (s : State) : Nat × Nat := (s.pat.staged.map fun p => (p.patId, p.totalCrc)).getD (0, 0)

theorem showStaged_eq (s : State) :
    showStaged s = wrN (wr64 s R.PAT_STG_ID_LO R.PAT_STG_ID_HI (stagedIdent s).1) R.PAT_STG_CRC (stagedIdent s).2 := by
  unfold showStaged stagedIdent
  split <;> rename_i h <;> rw [h] <;> rfl

theorem getF_showStaged (s : State) {f : Fld} (hf : f.off ∉ [R.PAT_STG_ID_LO, R.PAT_STG_ID_HI, R.PAT_STG_CRC]) :
    getF (showStaged s) f = getF s f := by
  simp only [List.mem_cons, List.not_mem_nil, or_false, not_or] at hf
  obtain ⟨hlo, hhi, hcrc⟩ := hf
  rw [showStaged_eq, getF_wrN_of_ne _ _ _ hcrc]
  unfold wr64
  rw [getF_wrN_of_ne _ _ _ hhi, getF_wrN_of_ne _ _ _ hlo]

theorem rd64_of_kept (h : KeptBut offs s t) {lo hi : Nat} (hlo : lo ∉ offs) (hhi : hi ∉ offs) : rd64 t lo hi = rd64 s lo hi := by
  unfold rd64 rdN
  rw [h lo hlo, h hi hhi]

theorem stBit_of_kept (h : KeptBut offs s t) {f : Fld} (i : Nat) (hf : f.off ∉ offs) : stBit t f i = stBit s f i :=
  h.getF (f := ⟨f.off, f.lo + i, f.lo + i⟩) hf

theorem rdN_of_kept (h : KeptBut offs s t) {o : Nat} (ho : o ∉ offs) : rdN t o = rdN s o := congrArg BitVec.toNat (h o ho)

theorem showStaged_shows (s : State) :
    rd64 (showStaged s) R.PAT_STG_ID_LO R.PAT_STG_ID_HI = (stagedIdent s).1 % 2 ^ 64 ∧
    rdN (showStaged s) R.PAT_STG_CRC = (stagedIdent s).2 % 2 ^ 32 := by
  rw [showStaged_eq]
  refine ⟨?_, rdN_wrN_self _ _ _⟩
  have kept : KeptBut [R.PAT_STG_CRC] (wr64 s R.PAT_STG_ID_LO R.PAT_STG_ID_HI (stagedIdent s).1)
      (wrN (wr64 s R.PAT_STG_ID_LO R.PAT_STG_ID_HI (stagedIdent s).1) R.PAT_STG_CRC (stagedIdent s).2) :=
    (KeptBut.refl _ _).wr (by decide)
  rw [rd64_of_kept kept (by decide) (by decide), rd64_wr64 _ _ (by decide)]

/-! ### What the operations leave alone -/

theorem RegsOnly.patResult {cmd reason amd : Nat} (h : RegsOnly s t) : RegsOnly s (patResult cmd reason amd t) := h.setF.setF.setF

theorem RegsOnly.setStg {v : Nat} (h : RegsOnly s t) : RegsOnly s (setStg v t) := h.setF

theorem RegsOnly.showBusy (h : RegsOnly s t) : RegsOnly s (showBusy t) := h.setF

theorem RegsOnly.patDone (h : RegsOnly s t) : RegsOnly s (patDone t) := h.setBit

theorem RegsOnly.showStaged (h : RegsOnly s t) : RegsOnly s (showStaged t) := by
  rw [showStaged_eq]
  exact h.wr.wr.wr

theorem KeptBut.withPat (h : KeptBut offs s t) (p : PatState) : KeptBut offs s { t with pat := p } := h.of_regs rfl

theorem KeptBut.patResult {cmd reason amd : Nat} (h : KeptBut offs s t) (ho : R.PAT_RESULT ∈ offs) :
    KeptBut offs s (patResult cmd reason amd t) := ((h.setF ho).setF ho).setF ho

theorem KeptBut.showBusy (h : KeptBut offs s t) (ho : R.PAT_STATE ∈ offs) : KeptBut offs s (showBusy t) := h.setF ho

theorem KeptBut.setStg {v : Nat} (h : KeptBut offs s t) (ho : R.PAT_STATE ∈ offs) : KeptBut offs s (setStg v t) := h.setF ho

theorem KeptBut.patDone (h : KeptBut offs s t) (ho : R.PAT_STAT ∈ offs) : KeptBut offs s (patDone t) := h.setBit ho

theorem KeptBut.showStaged (h : KeptBut offs s t) (ho : [R.PAT_STG_ID_LO, R.PAT_STG_ID_HI, R.PAT_STG_CRC] ⊆ offs) :
    KeptBut offs s (showStaged t) := by
  rw [showStaged_eq]
  exact ((h.wr (ho (by decide))).wr (ho (by decide))).wr (ho (by decide))

/-- t is s with its loader in the state p, registers of offs written and changes recorded. -/
structure Loads (offs : List Nat) (p : PatState) (s t : State) : Prop where
  parts : ∃ r j, t = { s with regs := r, jnl := j, pat := p }
  kept : KeptBut offs s t

theorem Noted.loads (h : Noted s t) (hoffs : jnlRegs ⊆ offs) : Loads offs s.pat s t := ⟨h.parts, h.kept.mono hoffs⟩

theorem Loads.withPat (h : Loads offs p s t) (p' : PatState) : Loads offs p' s { t with pat := p' } := by
  refine ⟨?_, h.kept.withPat p'⟩
  obtain ⟨r, j, rfl⟩ := h.parts
  exact ⟨r, j, rfl⟩

theorem Loads.regs (h : Loads offs p s t) (hu : RegsOnly t u) (kept : KeptBut offs s u) : Loads offs p s u := by
  refine ⟨?_, kept⟩
  obtain ⟨r, j, rfl⟩ := h.parts
  obtain ⟨r', rfl⟩ := hu
  exact ⟨r', j, rfl⟩

theorem Loads.setF {f : Fld} {v : Nat} (h : Loads offs p s t) (ho : f.off ∈ offs) : Loads offs p s (setF t f v) :=
  h.regs (.setF (.refl t)) (h.kept.setF ho)

theorem Loads.patResult {cmd reason amd : Nat} (h : Loads offs p s t) (ho : R.PAT_RESULT ∈ offs) :
    Loads offs p s (patResult cmd reason amd t) := ((h.setF ho).setF ho).setF ho

theorem Loads.setStg {v : Nat} (h : Loads offs p s t) (ho : R.PAT_STATE ∈ offs) : Loads offs p s (setStg v t) := h.setF ho

theorem Loads.showBusy (h : Loads offs p s t) (ho : R.PAT_STATE ∈ offs) : Loads offs p s (showBusy t) := h.setF ho

theorem Loads.patDone (h : Loads offs p s t) (ho : R.PAT_STAT ∈ offs) : Loads offs p s (patDone t) := h.setF ho

theorem Loads.showStaged (h : Loads offs p s t) (ho : [R.PAT_STG_ID_LO, R.PAT_STG_ID_HI, R.PAT_STG_CRC] ⊆ offs) :
    Loads offs p s (showStaged t) := h.regs (.showStaged (.refl t)) (h.kept.showStaged ho)

theorem Loads.journal {src : Src} {kind addr value msi : Nat} (h : Loads offs p s t) (hoffs : jnlRegs ⊆ offs) :
    Loads offs p s (journal src kind addr value msi t) := by
  have parts := logsOnly_journal src kind addr value msi t
  have herr := err_journal src kind addr value msi t
  refine ⟨?_, h.kept.journal hoffs⟩
  obtain ⟨r, j, rfl⟩ := h.parts
  obtain ⟨r', e, j', heq⟩ := parts
  rw [heq] at herr ⊢
  exact ⟨r', j', congrArg (fun x => { s with regs := r', err := x, jnl := j', pat := p }) herr⟩

theorem Loads.journalPat {via : Src} {cmd slot id msi : Nat} (h : Loads offs p s t) (hoffs : jnlRegs ⊆ offs) :
    Loads offs p s (journalPat via cmd slot id msi t) := h.journal hoffs

theorem Loads.pat (h : Loads offs p s t) : t.pat = p := by
  obtain ⟨r, j, rfl⟩ := h.parts
  rfl

theorem Loads.frame (h : Loads offs p s t) : Frame offs s t { s with regs := t.regs, jnl := t.jnl, pat := t.pat } := by
  refine ⟨?_, h.kept, ?_⟩
  · obtain ⟨r, j, rfl⟩ := h.parts
    rfl
  · obtain ⟨r, j, rfl⟩ := h.parts
    exact sameMem_of_mem rfl

end Sys2Proof.Machine
end

section
/-! SUPPORT. The loader after a command's write is recorded, and the start of a load and of an arm (R76, R77). -/

namespace Sys2Proof.Machine

variable {s t u : State} {offs : List Nat}

theorem Noted.stg (h : Noted s t) : stg t = stg s := h.getF F.PAT_STATE_STG (by decide)

theorem Noted.loaderBusy (h : Noted s t) : loaderBusy t = loaderBusy s := by
  unfold Machine.loaderBusy amendStaging
  rw [h.pat, h.getF F.PAT_STATE_AMD_PEND (by decide)]

theorem Noted.loaderOut (h : Noted s t) : loaderOut t = loaderOut s := congrArg (bit · 25) (h.getF F.BST_MAP_MAP (by decide))

theorem Noted.stagedPat (h : Noted s t) : stagedPat t = stagedPat s := by
  unfold Machine.stagedPat
  rw [h.pat]

/-- A command of the loader in progress: its operation, the staging state and result 0 shown. -/
def loaderAt (st cmd : Nat) (op : LoaderOp) (via : Src) (s : State) : State :=
  showBusy (setStg st (patResult cmd 0 0 { s with pat := { s.pat with busy := some op, via := via } }))

/-- The REGSET records of the staged Pattern are written. -/
def armWritten (s : State) : State :=
  let s := regsetApply (s.pat.live.getD Pattern.empty).regset (stagedPat s).regset s
  { s with pat := { s.pat with regsetDone := true } }

theorem loaderAt_loads {st cmd : Nat} {op : LoaderOp} {via : Src} (h : Noted s t) :
    Loads ([R.PAT_STATE, R.PAT_RESULT] ++ jnlRegs) { s.pat with busy := some op, via := via } s (loaderAt st cmd op via t) := by
  rw [← h.pat]
  exact (((h.loads (by decide)).withPat _).patResult (by decide)).setStg (by decide) |>.showBusy (by decide)

theorem loaderAt_shows {st cmd : Nat} {op : LoaderOp} {via : Src} (hst : st < 16) (hcmd : cmd < 16) :
    stg (loaderAt st cmd op via t) = st ∧ getF (loaderAt st cmd op via t) F.PAT_STATE_BUSY = 1 ∧
    getF (loaderAt st cmd op via t) F.PAT_RESULT_CMD = cmd ∧ getF (loaderAt st cmd op via t) F.PAT_RESULT_REASON = 0 := by
  unfold loaderAt
  refine ⟨?_, ?_, ?_, ?_⟩
  · exact (getF_showBusy _ (by decide)).trans (stg_setStg hst _)
  · rw [busy_showBusy, loaderBusy_of_busy (op := op) rfl]
    rfl
  · rw [getF_showBusy _ (by decide), getF_setStg _ _ (by decide), resultCmd_patResult _ _ hcmd]
  · rw [getF_showBusy _ (by decide), getF_setStg _ _ (by decide), resultReason_patResult _ _ (by decide)]

theorem loadStart_of_idle {cmd : Nat} {op : LoaderOp} {via : Src} (hb : loaderBusy s = false) (ho : loaderOut s = false)
    (hst : stg s = 0 ∨ stg s = 3) : loadStart cmd op via s = loaderAt 1 cmd op via s := by
  unfold loadStart
  rcases hst with hst | hst <;> rw [hb, ho, hst] <;> rfl

theorem execPatLoadSlot_of_valid (via : Src) (k : Fin 4) (h : Noted s (journalReg via R.PAT_CMD (BitVec.ofNat 32 (2 + 256 * k.val)) s))
    (hb : loaderBusy s = false) (ho : loaderOut s = false) (hv : getF s (F.PAT_SLOT_VALID k.val) ≠ 0) (hst : stg s = 0 ∨ stg s = 3) :
    execPatLoadSlot via k s = .next (loaderAt 1 2 (.loadSlot k.val) via (journalReg via R.PAT_CMD (BitVec.ofNat 32 (2 + 256 * k.val)) s)) := by
  have hslot : ∀ k : Fin 4, (F.PAT_SLOT_VALID k.val).off ∉ jnlRegs := by decide
  unfold execPatLoadSlot
  dsimp only
  rw [if_neg, if_neg, loadStart_of_idle (h.loaderBusy.trans hb) (h.loaderOut.trans ho) (by rwa [h.stg])]
  · rwa [h.getF _ (hslot k)]
  · rw [h.loaderBusy, h.loaderOut, h.stg, hb, ho]
    rcases hst with hst | hst <;> rw [hst] <;> decide

theorem regsetApply_nil (s : State) : regsetApply [] [] s = s := rfl

theorem running_loaderAt (st cmd : Nat) (op : LoaderOp) (via : Src) (s : State) : running (loaderAt st cmd op via s) = running s := by
  unfold running loaderAt
  rw [getF_showBusy _ (by decide), getF_setStg _ _ (by decide), getF_patResult _ _ _ _ (by decide), getF_withPat]

theorem pat_loaderAt (st cmd : Nat) (op : LoaderOp) (via : Src) (s : State) :
    (loaderAt st cmd op via s).pat = { s.pat with busy := some op, via := via } := rfl

theorem stagedPat_loaderAt (st cmd : Nat) (op : LoaderOp) (via : Src) (s : State) :
    stagedPat (loaderAt st cmd op via s) = stagedPat s := by
  unfold stagedPat
  rw [pat_loaderAt]

/-- PAT_ARM of a VALID Pattern at an idle loader copies; while no Pattern runs the REGSET records are written first. -/
theorem armStart_of_valid {via : Src} (hb : loaderBusy s = false) (ho : loaderOut s = false) (hst : stg s = 2) :
    armStart via s = if running (loaderAt 4 3 .arm via s) then loaderAt 4 3 .arm via s
      else armWritten (loaderAt 4 3 .arm via s) := by
  unfold armStart
  rw [hb, ho, hst, if_neg (by decide), if_neg (by decide), if_neg (by decide)]
  rfl

theorem armWritten_of_bare (hr : (stagedPat s).regset = []) (hl : s.pat.live = none) :
    armWritten s = { s with pat := { s.pat with regsetDone := true } } := by
  unfold armWritten
  rw [hr, hl]
  exact congrArg (fun x : State => { x with pat := { x.pat with regsetDone := true } }) (regsetApply_nil s)

end Sys2Proof.Machine
end

section
/-! SUPPORT. The ends of a load and of the copying, and their obligation (O50; R76, R77, R253). -/

namespace Sys2Proof.Machine

variable {s t u : State} {offs : List Nat} {p : Pattern} {e : VErr} {bs : List Byte} {len : Nat}

theorem LogsOnly.pat (h : LogsOnly s t) : t.pat = s.pat := by
  obtain ⟨r, e, j, rfl⟩ := h
  rfl

theorem RegsOnly.logsOnly (h : RegsOnly s t) : LogsOnly s t := by
  obtain ⟨r, rfl⟩ := h
  exact ⟨r, s.err, s.jnl, rfl⟩

/-! ### PAT_LOAD_DONE -/

theorem stg_showBusy (s : State) : stg (showBusy s) = stg s := getF_showBusy s (by decide)

theorem stg_showStaged (s : State) : stg (showStaged s) = stg s := getF_showStaged s (by decide)

theorem stg_patDone (s : State) : stg (patDone s) = stg s := getF_patDone s (by decide)

/-- A load ends: the loader's new state, its staging state and the staged identity are shown. -/
def loadShown (v : Nat) (x : PatState) (s : State) : State := showBusy (showStaged (setStg v { s with pat := x }))

theorem regsOnly_loadShown (v : Nat) (x : PatState) (s : State) : RegsOnly { s with pat := x } (loadShown v x s) :=
  (RegsOnly.refl _).setStg.showStaged.showBusy

theorem stg_loadShown {v : Nat} (hv : v < 16) (x : PatState) (s : State) : stg (loadShown v x s) = v := by
  unfold loadShown
  rw [stg_showBusy, stg_showStaged, stg_setStg hv]

theorem ident_loadShown (v : Nat) (x : PatState) (s : State) :
    rd64 (loadShown v x s) R.PAT_STG_ID_LO R.PAT_STG_ID_HI = (stagedIdent { s with pat := x }).1 % 2 ^ 64 ∧
    rdN (loadShown v x s) R.PAT_STG_CRC = (stagedIdent { s with pat := x }).2 % 2 ^ 32 := by
  obtain ⟨hid, hcrc⟩ := showStaged_shows (setStg v { s with pat := x })
  have kept : KeptBut [R.PAT_STATE] (showStaged (setStg v { s with pat := x })) (loadShown v x s) :=
    (KeptBut.refl _ _).showBusy (by decide)
  exact ⟨(rd64_of_kept kept (by decide) (by decide)).trans hid, (rdN_of_kept kept (by decide)).trans hcrc⟩

/-- The loader's state after a load: the stream that passed, and its conversion. -/
def loadedPat (s : State) (p : Pattern) (bytes : List Byte) (conv : Option ConvJob) : PatState :=
  { s.pat with busy := none, staged := some p, stagedBytes := bytes, conv := conv }

theorem execPatLoadDone_ok (hbs : loadStream s = some (bs, len)) (hok : loadCheck s bs len = .ok p) :
    ∃ c, execPatLoadDone s = .next (patDone (loadShown 2 (loadedPat s p (bs.take len) c) s)) := by
  unfold execPatLoadDone
  rw [hbs]
  dsimp only
  rw [hok]
  dsimp only
  cases p.coefs with
  | none => exact ⟨s.pat.conv, rfl⟩
  | some cs => exact ⟨_, rfl⟩

/-- The loader's state after a load whose stream failed. -/
def unloadedPat (s : State) : PatState := { s.pat with busy := none, staged := none, stagedBytes := [] }

theorem execPatLoadDone_error (hbs : loadStream s = some (bs, len)) (herr : loadCheck s bs len = .error e) :
    execPatLoadDone s = .next (raise .patVerr 0 (showVerr e (loadShown 3 (unloadedPat s) s))) := by
  unfold execPatLoadDone
  rw [hbs]
  dsimp only
  rw [herr]
  rfl

theorem RegsOnly.showVerr (h : RegsOnly s t) : RegsOnly s (showVerr e t) := h.setF.setF.wr

theorem showVerr_shows (e : VErr) (s : State) :
    getF (showVerr e s) F.PAT_VERR_REASON = reasonCode e.reason ∧ rdN (showVerr e s) R.PAT_VREC = e.recOrd % 2 ^ 32 ∧
    stg (showVerr e s) = stg s := by
  unfold showVerr stg
  refine ⟨?_, rdN_wrN_self _ _ _, ?_⟩
  · rw [getF_wrN_of_ne _ _ _ (by decide), getF_setF_of_apart _ _ (by decide), getF_setF_of_lt _ _ (by decide) (reasonCode_lt _)]
  · rw [getF_wrN_of_ne _ _ _ (by decide), getF_setF_of_ne _ _ _ _ (by decide), getF_setF_of_ne _ _ _ _ (by decide)]

/-- A failed validation is raised: its tie is set, and the report stays. -/
theorem raise_patVerr_shows (s : State) :
    stg (raise .patVerr 0 s) = stg s ∧ getF (raise .patVerr 0 s) F.PAT_VERR_REASON = getF s F.PAT_VERR_REASON ∧
    rdN (raise .patVerr 0 s) R.PAT_VREC = rdN s R.PAT_VREC ∧ stBit (raise .patVerr 0 s) F.PAT_STAT_VERR = 1 := by
  have kept : KeptBut errRegs (setBit s F.PAT_STAT_VERR) (raise .patVerr 0 s) :=
    keptBut_raise_of_tie (f := F.PAT_STAT_VERR) (by decide) rfl s
  refine ⟨?_, ?_, ?_, ?_⟩
  · exact (kept.getF (f := F.PAT_STATE_STG) (by decide)).trans (getF_setF_of_ne _ _ _ _ (by decide))
  · exact (kept.getF (by decide)).trans (getF_setF_of_ne _ _ _ _ (by decide))
  · exact (rdN_of_kept kept (by decide)).trans (rdN_setF _ _ _ (by decide))
  · exact (stBit_of_kept kept (f := F.PAT_STAT_VERR) 0 (by decide)).trans (stBit_setBit s _ 0 (by decide))

theorem execPatLoadDone_ok_spec (hbs : loadStream s = some (bs, len)) (hok : loadCheck s bs len = .ok p) :
    ∃ t, exec .patLoadDone s = .next t ∧ t.pat.busy = none ∧ SameMem s t ∧
      stg t = 2 ∧ t.pat.staged = some p ∧ t.pat.stagedBytes = bs.take len ∧ stBit t F.PAT_STAT_DONE = 1 ∧
      rd64 t R.PAT_STG_ID_LO R.PAT_STG_ID_HI = p.patId % 2 ^ 64 ∧ rdN t R.PAT_STG_CRC = p.totalCrc % 2 ^ 32 := by
  obtain ⟨c, hexec⟩ := execPatLoadDone_ok hbs hok
  obtain ⟨hid, hcrc⟩ := ident_loadShown 2 (loadedPat s p (bs.take len) c) s
  have hstg := stg_loadShown (v := 2) (by decide) (loadedPat s p (bs.take len) c) s
  have hlogs := (regsOnly_loadShown 2 (loadedPat s p (bs.take len) c) s).patDone.logsOnly
  generalize loadShown 2 (loadedPat s p (bs.take len) c) s = u at *
  have kept : KeptBut [R.PAT_STAT] u (patDone u) := (KeptBut.refl _ u).patDone (by decide)
  exact ⟨_, hexec, congrArg PatState.busy hlogs.pat, sameMem_of_mem hlogs.mem, (stg_patDone u).trans hstg,
    congrArg PatState.staged hlogs.pat, congrArg PatState.stagedBytes hlogs.pat, done_patDone u,
    (rd64_of_kept kept (by decide) (by decide)).trans hid, (rdN_of_kept kept (by decide)).trans hcrc⟩

theorem execPatLoadDone_error_spec (hbs : loadStream s = some (bs, len)) (herr : loadCheck s bs len = .error e) :
    ∃ t, exec .patLoadDone s = .next t ∧ t.pat.busy = none ∧ SameMem s t ∧
      stg t = 3 ∧ t.pat.staged = none ∧ getF t F.PAT_VERR_REASON = reasonCode e.reason ∧
      rdN t R.PAT_VREC = e.recOrd % 2 ^ 32 ∧ stBit t F.PAT_STAT_VERR = 1 := by
  have hexec := execPatLoadDone_error hbs herr
  have hshown := stg_loadShown (v := 3) (by decide) (unloadedPat s) s
  have hregs := (regsOnly_loadShown 3 (unloadedPat s) s).showVerr (e := e)
  obtain ⟨hreason, hrec, hstg⟩ := showVerr_shows e (loadShown 3 (unloadedPat s) s)
  rw [hshown] at hstg
  generalize showVerr e (loadShown 3 (unloadedPat s) s) = u at *
  obtain ⟨hstg', hreason', hrec', hbit⟩ := raise_patVerr_shows u
  have hlogs := hregs.logsOnly.trans (logsOnly_raise .patVerr 0 u)
  exact ⟨_, hexec, congrArg PatState.busy hlogs.pat, sameMem_of_mem hlogs.mem, hstg'.trans hstg,
    congrArg PatState.staged hlogs.pat, hreason'.trans hreason, hrec'.trans hrec, hbit⟩

theorem execPatLoadDone_spec (hbs : loadStream s = some (bs, len)) :
    ∃ t, exec .patLoadDone s = .next t ∧ t.pat.busy = none ∧ SameMem s t ∧
      (∀ p, loadCheck s bs len = .ok p →
        stg t = 2 ∧ t.pat.staged = some p ∧ t.pat.stagedBytes = bs.take len ∧ stBit t F.PAT_STAT_DONE = 1 ∧
        rd64 t R.PAT_STG_ID_LO R.PAT_STG_ID_HI = p.patId % 2 ^ 64 ∧ rdN t R.PAT_STG_CRC = p.totalCrc % 2 ^ 32) ∧
      (∀ e, loadCheck s bs len = .error e →
        stg t = 3 ∧ t.pat.staged = none ∧ getF t F.PAT_VERR_REASON = reasonCode e.reason ∧
        rdN t R.PAT_VREC = e.recOrd % 2 ^ 32 ∧ stBit t F.PAT_STAT_VERR = 1) := by
  cases hres : loadCheck s bs len with
  | ok p =>
    obtain ⟨t, hexec, hbusy, hmem, hshown⟩ := execPatLoadDone_ok_spec hbs hres
    refine ⟨t, hexec, hbusy, hmem, ?_, fun e he => nomatch he⟩
    rintro _ ⟨⟩
    exact hshown
  | error e =>
    obtain ⟨t, hexec, hbusy, hmem, hshown⟩ := execPatLoadDone_error_spec hbs hres
    refine ⟨t, hexec, hbusy, hmem, fun p hp => (nomatch hp), ?_⟩
    rintro _ ⟨⟩
    exact hshown

/-! ### ARM_DONE -/

theorem writeSteps_eq_with (t b i : Nat) (steps : List Nat) (s : State) : ∃ m, writeSteps t b i steps s = { s with mem := m } :=
  wrBytes_eq_with _ _ _

theorem writeTable_eq_with (t b : Nat) (tab : RunnerTab) (s : State) : ∃ m, writeTable t b tab s = { s with mem := m } := by
  obtain ⟨m, hm⟩ := writeSteps_eq_with t b 0 tab.steps s
  unfold writeTable
  rw [hm]
  dsimp only
  split
  · split
    · exact writeSteps_eq_with _ _ _ _ { s with mem := m }
    · exact ⟨m, rfl⟩
  · exact ⟨m, rfl⟩

theorem forNat_eq_with {f : Nat → State → State} (hf : ∀ i u, ∃ m, f i u = { u with mem := m }) (n : Nat) (s : State) :
    ∃ m, forNat n f s = { s with mem := m } := by
  induction n with
  | zero => exact ⟨s.mem, rfl⟩
  | succ n ih =>
    obtain ⟨m, hm⟩ := ih
    obtain ⟨m', hm'⟩ := hf n { s with mem := m }
    exact ⟨m', by rw [forNat_succ, hm, hm']⟩

theorem copyTables_eq_with (p : Pattern) (s : State) : ∃ m, copyTables p s = { s with mem := m } := by
  refine forNat_eq_with (fun q u => ?_) _ s
  split
  · exact writeTable_eq_with _ _ _ _
  · exact ⟨u.mem, rfl⟩

/-- What the media loop shows once it follows its time base (R253). -/
theorem loopFollow_shows (s : State) :
    getF (loopFollow s) F.TSU_ML_STATE_FOLLOW = followTb s % 4 ∧
    getF (loopFollow s) F.TSU_ML_STATE_STATE =
      if running s = false ∧ (followTb s ≠ getF s F.TSU_ML_STATE_FOLLOW ∨ s.time.excess = true) then 0
      else getF s F.TSU_ML_STATE_STATE := by
  have hrun : running (setF s F.TSU_ML_STATE_FOLLOW (followTb s)) = running s :=
    congrArg (· != 0) (getF_setF_of_ne _ _ _ _ (by decide))
  have hfollow : getF (setF s F.TSU_ML_STATE_FOLLOW (followTb s)) F.TSU_ML_STATE_FOLLOW = followTb s % 4 :=
    getF_setF_self _ _ _ (by decide) (by decide)
  have hstate : getF (setF s F.TSU_ML_STATE_FOLLOW (followTb s)) F.TSU_ML_STATE_STATE = getF s F.TSU_ML_STATE_STATE :=
    getF_setF_of_apart _ _ (by decide)
  unfold loopFollow
  dsimp only
  rw [hrun]
  split
  next h =>
    rw [if_pos (by simpa using h), getF_setF_of_apart _ _ (by decide)]
    exact ⟨hfollow, getF_setF_of_lt _ _ (by decide) (by decide)⟩
  next h =>
    rw [if_neg (by simpa using h)]
    exact ⟨hfollow, hstate⟩

theorem RegsOnly.loopFollow (h : RegsOnly s t) : RegsOnly s (loopFollow t) := .ite h.setF.setF h.setF

theorem KeptBut.loopFollow (h : KeptBut offs s t) (ho : R.TSU_ML_STATE ∈ offs) : KeptBut offs s (loopFollow t) :=
  .ite ((h.setF ho).setF ho) (h.setF ho)

theorem getF_loopFollow (s : State) {f : Fld} (hf : f.off ≠ R.TSU_ML_STATE) : getF (loopFollow s) f = getF s f :=
  ((KeptBut.refl [R.TSU_ML_STATE] s).loopFollow (by decide)).getF (by simpa using hf)

theorem followTb_of_kept (h : KeptBut offs s t) (hl : R.PAT_STATE ∉ offs) (hm : R.TSU_MEDIA_CFG ∉ offs)
    (hp : t.pat.armedMtb = s.pat.armedMtb) : followTb t = followTb s := by
  unfold followTb running
  rw [h.getF (f := F.PAT_STATE_LIVE) hl, h.getF (f := F.TSU_MEDIA_CFG_MTB) hm, hp]

/-- The copying is over: ARMED, DONE, before the media loop looks at its time base. -/
def armCopied (m : List Host.Cell) (s : State) : State :=
  patDone (showBusy (setStg 5 { s with mem := m, pat := { s.pat with
    busy := none, armedMtb := if running s then s.pat.armedMtb else some (stagedPat s).mtb } }))

theorem execArmDone_of_arm (h : s.pat.busy = some .arm) : ∃ m, execArmDone s = .next (loopFollow (armCopied m s)) := by
  unfold execArmDone
  rw [h]
  dsimp only
  obtain ⟨m, hm⟩ := copyTables_eq_with (stagedPat s) { s with pat := { s.pat with
    busy := none, armedMtb := if running s then s.pat.armedMtb else some (stagedPat s).mtb } }
  exact ⟨m, congrArg (fun x => Host.Outcome.next (Machine.loopFollow (patDone (showBusy (setStg 5 x))))) hm⟩

theorem keptBut_armCopied (m : List Host.Cell) (s : State) : KeptBut [R.PAT_STATE, R.PAT_STAT] s (armCopied m s) := by
  have base : KeptBut [R.PAT_STATE, R.PAT_STAT] s { s with mem := m, pat := { s.pat with
    busy := none, armedMtb := if running s then s.pat.armedMtb else some (stagedPat s).mtb } } := (KeptBut.refl _ s).of_regs rfl
  exact ((base.setStg (by decide)).showBusy (by decide)).patDone (by decide)

theorem armCopied_shows (m : List Host.Cell) (s : State) :
    stg (armCopied m s) = 5 ∧ stBit (armCopied m s) F.PAT_STAT_DONE = 1 ∧ running (armCopied m s) = running s := by
  unfold armCopied
  refine ⟨?_, done_patDone _, ?_⟩
  · rw [stg_patDone, stg_showBusy, stg_setStg (by decide)]
  · unfold running
    rw [getF_patDone _ (by decide), getF_showBusy _ (by decide), getF_setStg _ _ (by decide)]
    rfl

theorem execArmDone_spec (h : s.pat.busy = some .arm) :
    ∃ t, exec .armDone s = .next t ∧ stg t = 5 ∧ stBit t F.PAT_STAT_DONE = 1 ∧
      t.pat = { s.pat with busy := none, armedMtb := if running s then s.pat.armedMtb else some (stagedPat s).mtb } ∧
      getF t F.TSU_ML_STATE_FOLLOW = followTb t % 4 ∧
      (running s = true ∨ (followTb t = getF s F.TSU_ML_STATE_FOLLOW ∧ s.time.excess = false) →
        getF t F.TSU_ML_STATE_STATE = getF s F.TSU_ML_STATE_STATE) ∧
      (running s = false → followTb t ≠ getF s F.TSU_ML_STATE_FOLLOW ∨ s.time.excess = true → getF t F.TSU_ML_STATE_STATE = 0) ∧
      KeptBut [R.PAT_STATE, R.PAT_STAT, R.TSU_ML_STATE] s t ∧ t = { s with regs := t.regs, mem := t.mem, pat := t.pat } := by
  obtain ⟨m, hm⟩ := execArmDone_of_arm h
  obtain ⟨hstg, hdone, hrun⟩ := armCopied_shows m s
  obtain ⟨hfollow, hstate⟩ := loopFollow_shows (armCopied m s)
  have kept := keptBut_armCopied m s
  have hregs : RegsOnly (armCopied m s) (loopFollow (armCopied m s)) := (RegsOnly.refl _).loopFollow
  have hpat : (armCopied m s).pat = { s.pat with
    busy := none, armedMtb := if running s then s.pat.armedMtb else some (stagedPat s).mtb } := rfl
  have heq : armCopied m s = { s with regs := (armCopied m s).regs, mem := m, pat := (armCopied m s).pat } := rfl
  have htime : (armCopied m s).time = s.time := rfl
  have htb : followTb (loopFollow (armCopied m s)) = followTb (armCopied m s) := by
    refine followTb_of_kept ((KeptBut.refl [R.TSU_ML_STATE] _).loopFollow (by decide)) (by decide) (by decide) ?_
    obtain ⟨r, hr⟩ := hregs
    rw [hr]
  rw [hrun, kept.getF (f := F.TSU_ML_STATE_FOLLOW) (by decide), kept.getF (f := F.TSU_ML_STATE_STATE) (by decide), htime] at hstate
  refine ⟨_, hm, ?_, ?_, ?_, ?_, ?_, ?_, ?_, ?_⟩
  · exact (getF_loopFollow (f := F.PAT_STATE_STG) _ (by decide)).trans hstg
  · exact (stBit_of_kept ((KeptBut.refl [R.TSU_ML_STATE] _).loopFollow (by decide)) (f := F.PAT_STAT_DONE) 0 (by decide)).trans hdone
  · obtain ⟨r, hr⟩ := hregs
    rw [hr, ← hpat]
  · rw [htb, hfollow]
  · rw [htb, hstate]
    intro hstay
    refine if_neg ?_
    rintro ⟨hidle, hmove⟩
    rcases hstay with hrunning | ⟨hsame, hex⟩
    · rw [hidle] at hrunning
      exact absurd hrunning (by decide)
    · rcases hmove with hmove | hmove
      · exact hmove hsame
      · rw [hex] at hmove
        exact absurd hmove (by decide)
  · rw [htb, hstate]
    exact fun hidle hmove => if_pos ⟨hidle, hmove⟩
  · exact (kept.mono (by decide)).loopFollow (by decide)
  · obtain ⟨r, hr⟩ := hregs
    rw [hr, heq]

/-! ### The obligation -/

/-- PAT_ARM while no Pattern runs, with no REGSET record to write and no Pattern before it. -/
theorem execPatArm_of_bare (via : Src) (hb : loaderBusy s = false) (ho : loaderOut s = false) (hst : stg s = 2)
    (hrun : running s = false) (hbare : (stagedPat s).regset = []) (hlive : s.pat.live = none) :
    ∃ t, exec (.patArm via) s = .next t ∧ stg t = 4 ∧
      t.pat = { s.pat with busy := some .arm, via := via, regsetDone := true } ∧
      Frame ([R.PAT_STATE, R.PAT_RESULT] ++ jnlRegs) s t { s with regs := t.regs, jnl := t.jnl, pat := t.pat } := by
  have h := noted_journalReg via R.PAT_CMD 3 s
  have hpat := h.pat
  have hstaged := h.stagedPat
  have harm := armStart_of_valid (via := via) (h.loaderBusy.trans hb) (h.loaderOut.trans ho) (h.stg.trans hst)
  rw [running_loaderAt, h.running, hrun, if_neg (by decide)] at harm
  obtain ⟨hstg, -, -, -⟩ := loaderAt_shows (t := journalReg via R.PAT_CMD 3 s) (st := 4) (cmd := 3)
    (op := .arm) (via := via) (by decide) (by decide)
  have loads := loaderAt_loads (st := 4) (cmd := 3) (op := .arm) (via := via) h
  have harg : exec (.patArm via) s = .next (armStart via (journalReg via R.PAT_CMD 3 s)) := rfl
  rw [harg, harm]
  generalize journalReg via R.PAT_CMD 3 s = u at *
  have hw : armWritten (loaderAt 4 3 .arm via u) = { loaderAt 4 3 .arm via u with
      pat := { (loaderAt 4 3 .arm via u).pat with regsetDone := true } } := by
    refine armWritten_of_bare ?_ ?_
    · rw [stagedPat_loaderAt, hstaged, hbare]
    · rw [pat_loaderAt, hpat]
      exact hlive
  rw [hw, loads.pat]
  exact ⟨_, rfl, (getF_withPat _ _ F.PAT_STATE_STG).trans hstg, rfl, (loads.withPat _).frame⟩

end Sys2Proof.Machine

namespace Sys2Proof

open Machine

/-- Settles O50: each command goes through the loader's checks unchanged by the record of its own write; the ends of the
load and of the copying show their results in registers that nothing after them touches. -/
theorem patternsLoadAndArm : Obligations.PatternsLoadAndArm := by
  unfold Obligations.PatternsLoadAndArm
  refine ⟨?_, ?_, ?_, ?_, ?_, ?_⟩
  · intro via s ⟨hb, ho⟩ hst
    have h := noted_journalReg via R.PAT_CMD 1 s
    obtain ⟨hstg, hbusy, hcmd, hreason⟩ := loaderAt_shows (t := journalReg via R.PAT_CMD 1 s) (st := 1) (cmd := 1)
      (op := .load (rdN s R.PAT_SRC) (rdN s R.PAT_LEN)) (via := via) (by decide) (by decide)
    have loads := loaderAt_loads (st := 1) (cmd := 1) (op := .load (rdN s R.PAT_SRC) (rdN s R.PAT_LEN)) (via := via) h
    refine ⟨_, ?_, hstg, hbusy, loads.pat, hcmd, hreason, loads.frame⟩
    exact congrArg Host.Outcome.next
      (loadStart_of_idle (h.loaderBusy.trans hb) (h.loaderOut.trans ho) (by rwa [h.stg]))
  · intro via k s ⟨hb, ho, hv⟩ hst
    have h := noted_journalReg via R.PAT_CMD (BitVec.ofNat 32 (2 + 256 * k.val)) s
    obtain ⟨hstg, hbusy, hcmd, hreason⟩ := loaderAt_shows (t := journalReg via R.PAT_CMD (BitVec.ofNat 32 (2 + 256 * k.val)) s)
      (st := 1) (cmd := 2) (op := .loadSlot k.val) (via := via) (by decide) (by decide)
    have loads := loaderAt_loads (st := 1) (cmd := 2) (op := .loadSlot k.val) (via := via) h
    exact ⟨_, execPatLoadSlot_of_valid via k h hb ho hv hst, hstg, hbusy, loads.pat, hcmd, hreason, loads.frame⟩
  · intro s bs len hbs
    exact execPatLoadDone_spec hbs
  · intro via s ⟨hb, ho, hst, hrun⟩
    have h := noted_journalReg via R.PAT_CMD 3 s
    obtain ⟨hstg, hbusy, hcmd, hreason⟩ := loaderAt_shows (t := journalReg via R.PAT_CMD 3 s) (st := 4) (cmd := 3)
      (op := .arm) (via := via) (by decide) (by decide)
    have loads := loaderAt_loads (st := 4) (cmd := 3) (op := .arm) (via := via) h
    refine ⟨_, ?_, hstg, hbusy, loads.pat, hcmd, hreason, loads.frame⟩
    refine congrArg Host.Outcome.next ((armStart_of_valid (h.loaderBusy.trans hb) (h.loaderOut.trans ho) (h.stg.trans hst)).trans ?_)
    rw [running_loaderAt, h.running, hrun, if_pos rfl]
  · exact fun via s ⟨hb, ho, hst, hrun⟩ ⟨hbare, hlive⟩ => execPatArm_of_bare via hb ho hst hrun hbare hlive
  · exact fun s h => execArmDone_spec h

end Sys2Proof
end

section
/-! SUPPORT. POUR, STOP and DISCARD at a unit outside a pair, and their obligation (O51; R77 to R79, R84, R508). -/

namespace Sys2Proof.Machine

variable {s t u : State} {offs : List Nat} {p : PatState}

/-! ### What a recorded command leaves to be judged -/

theorem Noted.rd64 (h : Noted s t) (lo hi : Nat) (hlo : lo ∉ jnlRegs) (hhi : hi ∉ jnlRegs) : rd64 t lo hi = rd64 s lo hi :=
  rd64_of_kept h.kept hlo hhi

theorem Noted.time (h : Noted s t) : t.time = s.time := h.logsOnly.time

theorem Noted.mediaLocked (h : Noted s t) : mediaLocked t = mediaLocked s := by
  unfold Machine.mediaLocked
  rw [h.getF F.TSU_ML_STATE_SEATED (by decide), h.getF F.TSU_ML_STATE_STATE (by decide)]

theorem Noted.followTb (h : Noted s t) : followTb t = followTb s := by
  refine followTb_of_kept h.kept (by decide) (by decide) ?_
  rw [h.pat]

/-- The registers of the time bases lie above the journal's. -/
theorem tbState_offset (n : Nat) : (F.TSU_TB_STATE_STATE n).off ∉ jnlRegs := by
  simp [F.TSU_TB_STATE_STATE, R.TSU_TB_STATE, jnlRegs, R.JNL_WRAP_CNT, R.JNL_MISSED]
  omega

theorem Noted.tbUsable (h : Noted s t) (n : Nat) : tbUsable t n = tbUsable s n := by
  unfold Machine.tbUsable tbState
  rw [h.getF _ (tbState_offset n)]

theorem Noted.epochLoad (h : Noted s t) : epoch (epochLoad t) = epoch (epochLoad s) := by
  show rdS64 t R.TSU_MEPOCH_LO R.TSU_MEPOCH_HI = rdS64 s R.TSU_MEPOCH_LO R.TSU_MEPOCH_HI
  unfold rdS64
  rw [h.rd64 _ _ (by decide) (by decide)]

theorem Noted.pourCut (h : Noted s t) (new : Pattern) (k : Nat) : pourCut t new k = pourCut s new k := by
  unfold Machine.pourCut pourRate pourCutAt tbOf
  rw [h.rate96, h.fsInt, h.epochLoad, h.time, h.blk]

theorem leadCmd_of_lone (h : isPair s = false) : leadCmd s = 1 := by
  unfold leadCmd
  rw [h]
  rfl

/-! ### The accepted commands -/

/-- A command is accepted: DONE, result 0, and its journal entry. -/
theorem accepted_shows {cmd : Nat} (hc : cmd < 16) (via : Src) (j id m : Nat) (s : State) :
    getF (journalPat via j 0 id m (patDone (patResult cmd 0 0 s))) F.PAT_RESULT_CMD = cmd ∧
    getF (journalPat via j 0 id m (patDone (patResult cmd 0 0 s))) F.PAT_RESULT_REASON = 0 ∧
    stBit (journalPat via j 0 id m (patDone (patResult cmd 0 0 s))) F.PAT_STAT_DONE = 1 ∧
    KeptBut ([R.PAT_RESULT, R.PAT_STAT] ++ jnlRegs) s (journalPat via j 0 id m (patDone (patResult cmd 0 0 s))) := by
  have kept : KeptBut jnlRegs (patDone (patResult cmd 0 0 s)) (journalPat via j 0 id m (patDone (patResult cmd 0 0 s))) :=
    (KeptBut.refl _ _).journal (List.Subset.refl _)
  refine ⟨?_, ?_, ?_, ?_⟩
  · rw [getF_journalPat _ _ _ _ _ _ (by decide), getF_patDone _ (by decide), resultCmd_patResult _ _ hc]
  · rw [getF_journalPat _ _ _ _ _ _ (by decide), getF_patDone _ (by decide), resultReason_patResult _ _ (by decide)]
  · exact (stBit_of_kept kept (f := F.PAT_STAT_DONE) 0 (by decide)).trans (done_patDone _)
  · exact (((KeptBut.refl _ s).patResult (by decide)).patDone (by decide)).journal (by decide)

theorem Loads.accepted {cmd : Nat} {via : Src} {j id m : Nat} (h : Loads offs p s t)
    (hoffs : [R.PAT_RESULT, R.PAT_STAT] ++ jnlRegs ⊆ offs) :
    Loads offs p s (Machine.journalPat via j 0 id m (Machine.patDone (Machine.patResult cmd 0 0 t))) :=
  ((h.patResult (hoffs (by decide))).patDone (hoffs (by decide))).journalPat
    (fun _ ho => hoffs (List.mem_append_right _ ho))

/-- An accepted command, from a state of the loader whose registers are written. -/
theorem accepted_spec {cmd : Nat} (hc : cmd < 16) {via : Src} {j id m : Nat} {shown : State → Prop}
    (h : Loads offs p s t) (hoffs : [R.PAT_RESULT, R.PAT_STAT] ++ jnlRegs ⊆ offs)
    (hshown : ∀ u, KeptBut ([R.PAT_RESULT, R.PAT_STAT] ++ jnlRegs) t u → shown u) :
    ∃ u, (.next (journalPat via j 0 id m (patDone (patResult cmd 0 0 t))) : Out) = .next u ∧ shown u ∧ u.pat = p ∧
      getF u F.PAT_RESULT_CMD = cmd ∧ getF u F.PAT_RESULT_REASON = 0 ∧ stBit u F.PAT_STAT_DONE = 1 ∧
      Frame offs s u { s with regs := u.regs, jnl := u.jnl, pat := u.pat } := by
  obtain ⟨hcmd, hreason, hdone, kept⟩ := accepted_shows hc via j id m t
  exact ⟨_, rfl, hshown _ kept, (h.accepted hoffs).pat, hcmd, hreason, hdone, (h.accepted hoffs).frame⟩

/-- The pour that POUR for an MSI schedules. -/
def pourFor (s : State) (m : Nat) (via : Src) (decided : Bool) : PourPend :=
  { block := ceil16 m, cut := pourCut s (stagedPat s) (ceil16 m), via := via, decided := decided }

/-- The stop that STOP schedules. -/
def stopFor (s : State) (via : Src) (decided : Bool) : StopPend :=
  { block := ceil16 (rd64 s R.PAT_MSI_LO R.PAT_MSI_HI), via := via, decided := decided, begun := false }

theorem patPour_of_ready {via : Src} {m : Nat} (hpair : isPair s = false) (hbusy : loaderBusy s = false) (hstg : stg s = 5)
    (hlock : mediaLocked s = true) (hcut : blk s + 1 ≤ pourCut s (stagedPat s) (ceil16 m))
    (htb : (stagedPat s).mtb = followTb s ∨ tbUsable s (stagedPat s).mtb = true) :
    patPour via m s = pourAccept (setStg 6 { s with pat := { s.pat with pour := some (pourFor s m via false) } }) := by
  have hlate : ¬ pourCut s (stagedPat s) (ceil16 m) < blk s + leadCmd s := by
    rw [leadCmd_of_lone hpair]
    omega
  have hlocked : ¬ ((!mediaLocked s || ((stagedPat s).mtb != followTb s && !tbUsable s (stagedPat s).mtb)) = true) := by
    rcases htb with htb | htb <;> simp [hlock, htb]
  unfold patPour
  dsimp only
  rw [isPassive_of_lone hpair, if_neg (by simp), hbusy, if_neg (by decide), hstg, if_neg (by decide),
    if_neg hlate, if_neg hlocked, mirrorCommand_of_lone hpair]
  rfl

theorem pourAccept_of_pending {k : PourPend} (h : s.pat.pour = some k) :
    pourAccept s = journalPat k.via 4 0 (stagedPat s).patId (16 * k.block)
      (patDone (patResult 4 0 0 { s with pat := { s.pat with pour := some { k with decided := true } } })) := by
  unfold pourAccept
  rw [h]
  rfl

theorem patStop_of_ready {via : Src} (hpair : isPair s = false) (hbusy : loaderBusy s = false) (hrun : running s = true)
    (hstop : s.pat.stop = none) (hlate : isLate s (rd64 s R.PAT_MSI_LO R.PAT_MSI_HI) = false) :
    patStop via s = stopAccept { s with pat := { s.pat with stop := some (stopFor s via false) } } := by
  unfold patStop
  dsimp only
  rw [isPassive_of_lone hpair, if_neg (by decide), hbusy, if_neg (by decide), hrun, if_neg (by decide), hstop,
    if_neg (by decide), hlate, if_neg (by decide), mirrorCommand_of_lone hpair]
  rfl

theorem stopAccept_of_pending {k : StopPend} (h : s.pat.stop = some k) (hpour : s.pat.pour = none) :
    ∃ id, stopAccept s = journalPat k.via 5 0 id (16 * k.block) (patDone (patResult 5 0 0
      (setF { s with pat := { s.pat with stop := some { k with decided := true } } } F.PAT_STATE_LIVE 4))) := by
  have hstill : (setF { s with pat := { s.pat with stop := some { k with decided := true } } } F.PAT_STATE_LIVE 4).pat.pour = none :=
    hpour
  unfold stopAccept
  rw [h]
  dsimp only
  rw [hstill]
  exact ⟨_, rfl⟩

theorem patDiscard_of_none {via : Src} (h : s.pat.pour = none) :
    patDiscard via s = journalPat via 6 0 (stagedPat s).patId s.msi
      (patDone (patResult 6 0 0 (setF (stagingEmpty s) F.PAT_STATE_STORING 0))) := by
  unfold patDiscard
  rw [h]
  rfl

theorem pourWithdraw_of_idle {k : PourPend} (h : s.pat.pour = some k) (hrun : running s = false) :
    pourWithdraw s = setStg 5 { s with pat := { s.pat with pour := none } } := by
  have hidle : running (setStg 5 { s with pat := { s.pat with pour := none } }) = false := by
    rw [← hrun]
    exact congrArg (· != 0) (getF_setStg _ _ (by decide))
  unfold pourWithdraw
  rw [h]
  dsimp only
  rw [hidle]
  exact if_neg (by simp)

theorem patDiscard_of_pending {via : Src} {k : PourPend} (hpair : isPair s = false) (h : s.pat.pour = some k)
    (hrun : running s = false) (hin : inTime s k.cut = true) :
    ∃ id, patDiscard via s = journalPat via 6 0 id (16 * k.block)
      (patDone (patResult 6 0 0 (setStg 5 { s with pat := { s.pat with pour := none } }))) := by
  unfold patDiscard
  rw [h]
  dsimp only
  rw [isPassive_of_lone hpair, if_neg (by simp), hin, if_neg (by decide), if_neg (by decide), mirrorCommand_of_lone hpair]
  unfold discardAccept
  dsimp only
  rw [if_neg (by decide), h, pourWithdraw_of_idle h hrun]
  exact ⟨_, rfl⟩

/-! ### The staging area empties -/

/-- The loader's state with an empty staging area. -/
def emptyPat (p : PatState) : PatState :=
  { p with busy := none, staged := none, stagedBytes := [], pour := none, regsetDone := false }

theorem stagingEmpty_eq (s : State) : stagingEmpty s = showBusy (showStaged (setStg 0 { s with pat := emptyPat s.pat })) := rfl

theorem stg_stagingEmpty (s : State) : stg (stagingEmpty s) = 0 := by
  rw [stagingEmpty_eq, stg_showBusy, stg_showStaged, stg_setStg (by decide)]

theorem ident_stagingEmpty (s : State) : rd64 (stagingEmpty s) R.PAT_STG_ID_LO R.PAT_STG_ID_HI = 0 := by
  obtain ⟨hid, -⟩ := showStaged_shows (setStg 0 { s with pat := emptyPat s.pat })
  rw [stagingEmpty_eq]
  exact (rd64_of_kept ((KeptBut.refl [R.PAT_STATE] _).showBusy (by decide)) (by decide) (by decide)).trans hid

theorem Loads.stagingEmpty (h : Loads offs p s t)
    (hoffs : [R.PAT_STATE, R.PAT_STG_ID_LO, R.PAT_STG_ID_HI, R.PAT_STG_CRC] ⊆ offs) :
    Loads offs (emptyPat p) s (stagingEmpty t) := by
  rw [stagingEmpty_eq, h.pat]
  exact (((h.withPat _).setStg (hoffs (by decide))).showStaged (fun _ ho => hoffs (List.mem_cons_of_mem _ ho))).showBusy
    (hoffs (by decide))

/-! ### The commands -/

theorem execPatPour_spec (via : Src) (hpair : isPair s = false) (hbusy : loaderBusy s = false) (hstg : stg s = 5)
    (hlock : mediaLocked s = true) (hcut : blk s + 1 ≤ pourCut s (stagedPat s) (ceil16 (rd64 s R.PAT_MSI_LO R.PAT_MSI_HI)))
    (htb : (stagedPat s).mtb = followTb s ∨ tbUsable s (stagedPat s).mtb = true) :
    ∃ t, exec (.patPour via) s = .next t ∧ stg t = 6 ∧
      t.pat = { s.pat with pour := some (pourFor s (rd64 s R.PAT_MSI_LO R.PAT_MSI_HI) via true) } ∧
      getF t F.PAT_RESULT_CMD = 4 ∧ getF t F.PAT_RESULT_REASON = 0 ∧ stBit t F.PAT_STAT_DONE = 1 ∧
      Frame ([R.PAT_STATE, R.PAT_RESULT, R.PAT_STAT] ++ jnlRegs) s t { s with regs := t.regs, jnl := t.jnl, pat := t.pat } := by
  have h := noted_journalReg via R.PAT_CMD 4 s
  have hexec : exec (.patPour via) s = .next (patPour via (rd64 s R.PAT_MSI_LO R.PAT_MSI_HI) (journalReg via R.PAT_CMD 4 s)) := rfl
  rw [hexec]
  generalize rd64 s R.PAT_MSI_LO R.PAT_MSI_HI = m at *
  generalize journalReg via R.PAT_CMD 4 s = u at *
  have hfor : pourFor u m via false = pourFor s m via false := by
    unfold pourFor
    rw [h.stagedPat, h.pourCut]
  rw [patPour_of_ready (h.isPair.trans hpair) (h.loaderBusy.trans hbusy) (h.stg.trans hstg) (h.mediaLocked.trans hlock)
    (by rw [h.stagedPat, h.pourCut, h.blk]; exact hcut) (by rw [h.stagedPat, h.followTb, h.tbUsable]; exact htb),
    pourAccept_of_pending (k := pourFor u m via false) rfl, hfor, h.pat]
  have loads := (((h.loads (offs := [R.PAT_STATE, R.PAT_RESULT, R.PAT_STAT] ++ jnlRegs) (by decide)).withPat
    { s.pat with pour := some (pourFor s m via false) }).setStg (v := 6) (by decide)).withPat
    { s.pat with pour := some (pourFor s m via true) }
  have hstaged := stg_setStg (v := 6) (by decide) { u with pat := { s.pat with pour := some (pourFor s m via false) } }
  exact accepted_spec (shown := fun t => stg t = 6) (by decide) loads (by decide)
    (fun x kept => (kept.getF (f := F.PAT_STATE_STG) (by decide)).trans ((getF_withPat _ _ F.PAT_STATE_STG).trans hstaged))

theorem execPatStop_spec (via : Src) (hpair : isPair s = false) (hbusy : loaderBusy s = false) (hrun : running s = true)
    (hstop : s.pat.stop = none) (hpour : s.pat.pour = none) (hlate : isLate s (rd64 s R.PAT_MSI_LO R.PAT_MSI_HI) = false) :
    ∃ t, exec (.patStop via) s = .next t ∧ getF t F.PAT_STATE_LIVE = 4 ∧
      t.pat = { s.pat with stop := some (stopFor s via true) } ∧
      getF t F.PAT_RESULT_CMD = 5 ∧ getF t F.PAT_RESULT_REASON = 0 ∧ stBit t F.PAT_STAT_DONE = 1 ∧
      Frame ([R.PAT_STATE, R.PAT_RESULT, R.PAT_STAT] ++ jnlRegs) s t { s with regs := t.regs, jnl := t.jnl, pat := t.pat } := by
  have h := noted_journalReg via R.PAT_CMD 5 s
  have hexec : exec (.patStop via) s = .next (patStop via (journalReg via R.PAT_CMD 5 s)) := rfl
  rw [hexec]
  generalize journalReg via R.PAT_CMD 5 s = u at *
  have hm := h.rd64 R.PAT_MSI_LO R.PAT_MSI_HI (by decide) (by decide)
  have hfor (d : Bool) : stopFor u via d = stopFor s via d := by
    unfold stopFor
    rw [hm]
  rw [patStop_of_ready (h.isPair.trans hpair) (h.loaderBusy.trans hbusy) (h.running.trans hrun)
    ((congrArg PatState.stop h.pat).trans hstop) (by rw [hm, h.isLate]; exact hlate), hfor, h.pat]
  obtain ⟨id, hid⟩ := stopAccept_of_pending (s := { u with pat := { s.pat with stop := some (stopFor s via false) } })
    (k := stopFor s via false) rfl hpour
  rw [hid]
  have loads := ((h.loads (offs := [R.PAT_STATE, R.PAT_RESULT, R.PAT_STAT] ++ jnlRegs) (by decide)).withPat
    { s.pat with stop := some (stopFor s via true) }).setF (f := F.PAT_STATE_LIVE) (v := 4) (by decide)
  exact accepted_spec (shown := fun t => getF t F.PAT_STATE_LIVE = 4) (by decide) loads (by decide)
    (fun x kept => (kept.getF (by decide)).trans (getF_setF_of_lt _ _ (by decide) (by decide)))

theorem execPatDiscard_none_spec (via : Src) (hpour : s.pat.pour = none) :
    ∃ t, exec (.patDiscard via) s = .next t ∧ (stg t = 0 ∧ getF t F.PAT_STATE_STORING = 0 ∧
        rd64 t R.PAT_STG_ID_LO R.PAT_STG_ID_HI = 0) ∧
      t.pat = emptyPat s.pat ∧
      getF t F.PAT_RESULT_CMD = 6 ∧ getF t F.PAT_RESULT_REASON = 0 ∧ stBit t F.PAT_STAT_DONE = 1 ∧
      Frame ([R.PAT_STATE, R.PAT_RESULT, R.PAT_STAT, R.PAT_STG_ID_LO, R.PAT_STG_ID_HI, R.PAT_STG_CRC] ++ jnlRegs) s t
        { s with regs := t.regs, jnl := t.jnl, pat := t.pat } := by
  have h := noted_journalReg via R.PAT_CMD 6 s
  have hexec : exec (.patDiscard via) s = .next (patDiscard via (journalReg via R.PAT_CMD 6 s)) := rfl
  rw [hexec]
  generalize journalReg via R.PAT_CMD 6 s = u at *
  rw [patDiscard_of_none ((congrArg PatState.pour h.pat).trans hpour)]
  have loads := ((h.loads (offs := [R.PAT_STATE, R.PAT_RESULT, R.PAT_STAT, R.PAT_STG_ID_LO, R.PAT_STG_ID_HI, R.PAT_STG_CRC] ++
    jnlRegs) (by decide)).stagingEmpty (by decide)).setF (f := F.PAT_STATE_STORING) (v := 0) (by decide)
  have hstg : stg (setF (stagingEmpty u) F.PAT_STATE_STORING 0) = 0 :=
    (getF_setF_of_apart _ _ (by decide)).trans (stg_stagingEmpty u)
  have hid : rd64 (setF (stagingEmpty u) F.PAT_STATE_STORING 0) R.PAT_STG_ID_LO R.PAT_STG_ID_HI = 0 :=
    (rd64_of_kept ((KeptBut.refl [R.PAT_STATE] _).setF (by decide)) (by decide) (by decide)).trans (ident_stagingEmpty u)
  refine accepted_spec (shown := fun t => stg t = 0 ∧ getF t F.PAT_STATE_STORING = 0 ∧
    rd64 t R.PAT_STG_ID_LO R.PAT_STG_ID_HI = 0) (by decide) loads (by decide) (fun x kept => ⟨?_, ?_, ?_⟩)
  · exact (kept.getF (f := F.PAT_STATE_STG) (by decide)).trans hstg
  · exact (kept.getF (by decide)).trans (getF_setF_of_lt _ _ (by decide) (by decide))
  · exact (rd64_of_kept kept (by decide) (by decide)).trans hid

theorem execPatDiscard_pending_spec (via : Src) {k : PourPend} (hpair : isPair s = false) (hrun : running s = false)
    (hpour : s.pat.pour = some k) (hin : inTime s k.cut = true) :
    ∃ t, exec (.patDiscard via) s = .next t ∧ stg t = 5 ∧ t.pat = { s.pat with pour := none } ∧
      getF t F.PAT_RESULT_CMD = 6 ∧ getF t F.PAT_RESULT_REASON = 0 ∧ stBit t F.PAT_STAT_DONE = 1 ∧
      Frame ([R.PAT_STATE, R.PAT_RESULT, R.PAT_STAT] ++ jnlRegs) s t { s with regs := t.regs, jnl := t.jnl, pat := t.pat } := by
  have h := noted_journalReg via R.PAT_CMD 6 s
  have hexec : exec (.patDiscard via) s = .next (patDiscard via (journalReg via R.PAT_CMD 6 s)) := rfl
  rw [hexec]
  generalize journalReg via R.PAT_CMD 6 s = u at *
  obtain ⟨id, hid⟩ := patDiscard_of_pending (via := via) (h.isPair.trans hpair) ((congrArg PatState.pour h.pat).trans hpour)
    (h.running.trans hrun) ((h.inTime _).trans hin)
  rw [hid, h.pat]
  have loads := ((h.loads (offs := [R.PAT_STATE, R.PAT_RESULT, R.PAT_STAT] ++ jnlRegs) (by decide)).withPat
    { s.pat with pour := none }).setStg (v := 5) (by decide)
  exact accepted_spec (shown := fun t => stg t = 5) (by decide) loads (by decide)
    (fun x kept => (kept.getF (f := F.PAT_STATE_STG) (by decide)).trans (stg_setStg (by decide) _))

end Sys2Proof.Machine

namespace Sys2Proof

open Machine

/-- Settles O51: at a unit outside a pair nothing waits for a peer, so each command that passes its tests is accepted
where it is judged. -/
theorem poursStopsAndDiscards : Obligations.PoursStopsAndDiscards := by
  unfold Obligations.PoursStopsAndDiscards
  refine ⟨?_, ?_, ?_, ?_⟩
  · exact fun via s ⟨hpair, hbusy, hstg, hlock⟩ hcut htb => execPatPour_spec via hpair hbusy hstg hlock hcut htb
  · exact fun via s ⟨hpair, hbusy, hrun, hstop, hpour⟩ hlate => execPatStop_spec via hpair hbusy hrun hstop hpour hlate
  · intro via s hpour
    obtain ⟨t, hexec, ⟨hstg, hstoring, hid⟩, hpat, hcmd, hreason, hdone, hframe⟩ := execPatDiscard_none_spec via hpour
    exact ⟨t, hexec, hstg, hstoring, hpat, hcmd, hreason, hdone, hid, hframe⟩
  · exact fun via s p ⟨hpair, hrun, hpour, hin⟩ => execPatDiscard_pending_spec via hpair hrun hpour hin

end Sys2Proof
end

section
/-! SUPPORT. The stored slots, and their obligation (O53; R89, R90). -/

namespace Sys2Proof.Machine

variable {s t u : State} {offs : List Nat} {k : Nat}

/-! ### Numbers in memory -/

theorem rdByte_withPat (s : State) (p : PatState) (a : Nat) : rdByte { s with pat := p } a = rdByte s a := rfl

theorem length_leBytes (n : Nat) : ∀ v, (leBytes n v).length = n := by
  induction n with
  | zero => exact fun _ => rfl
  | succ n ih => exact fun v => congrArg (· + 1) (ih (v / 256))

theorem leNat_leBytes (n : Nat) : ∀ v, v < 256 ^ n → leNat (leBytes n v) = v := by
  induction n with
  | zero =>
    intro v hv
    rw [Nat.pow_zero, Nat.lt_one_iff] at hv
    rw [hv]
    rfl
  | succ n ih =>
    intro v hv
    have hdiv : v / 256 < 256 ^ n := Nat.div_lt_of_lt_mul (by rwa [Nat.pow_succ, Nat.mul_comm] at hv)
    rw [leBytes, leNat, ih _ hdiv, BitVec.toNat_ofNat]
    exact Nat.mod_add_div v 256

/-- What was written is read, where it was not written over. -/
theorem rdBytes_of_written {bs : List Byte} {a : Nat} (h : ∀ i, i < bs.length → rdByte s (a + i) = (bs[i]?).getD 0) :
    rdBytes s a bs.length = bs := by
  refine List.ext_getElem? (fun i => ?_)
  by_cases hi : i < bs.length
  · rw [getElem?_rdBytes _ _ _ _ hi, h i hi, List.getElem?_eq_getElem hi, Option.getD_some]
  · rw [List.getElem?_eq_none (by rw [length_rdBytes]; omega), List.getElem?_eq_none (by omega)]

/-! ### A slot's register and its word in the directory -/

theorem getF_slotSave (k : Nat) (s : State) (f : Fld) : getF (slotSave k s) f = getF s f := by
  unfold getF rd
  rw [slotSave, regs_wrBytes]

theorem RegsOnly.pat (h : RegsOnly s t) : t.pat = s.pat := by
  obtain ⟨r, rfl⟩ := h
  rfl

theorem RegsOnly.mem (h : RegsOnly s t) : t.mem = s.mem := by
  obtain ⟨r, rfl⟩ := h
  rfl

theorem pat_patResult (cmd reason amd : Nat) (s : State) : (patResult cmd reason amd s).pat = s.pat :=
  (RegsOnly.refl s).patResult.pat

theorem pat_showBusy (s : State) : (showBusy s).pat = s.pat := rfl

theorem mem_patResult (cmd reason amd : Nat) (s : State) : (patResult cmd reason amd s).mem = s.mem :=
  (RegsOnly.refl s).patResult.mem

theorem mem_showBusy (s : State) : (showBusy s).mem = s.mem := rfl

theorem pat_wrBytes (s : State) (a : Nat) (bs : List Byte) : (wrBytes s a bs).pat = s.pat := by
  obtain ⟨m, hm⟩ := wrBytes_eq_with bs s a
  rw [hm]

theorem pat_slotSave (k : Nat) (s : State) : (slotSave k s).pat = s.pat := pat_wrBytes _ _ _

theorem rdByte_slotSave_outside (k : Nat) (s : State) {a : Nat} (h : a < slotDir k ∨ slotDir k + 4 ≤ a) :
    rdByte (slotSave k s) a = rdByte s a :=
  rdByte_wrBytes_outside _ _ _ _ (by rwa [length_leBytes])

theorem KeptBut.wrBytes (h : KeptBut offs s t) (a : Nat) (bs : List Byte) : KeptBut offs s (wrBytes t a bs) :=
  h.of_regs (regs_wrBytes _ _ _)

theorem KeptBut.slotSave (h : KeptBut offs s t) (k : Nat) : KeptBut offs s (slotSave k t) := h.wrBytes _ _

theorem busy_showBusy_of {op : LoaderOp} (h : s.pat.busy = some op) : getF (showBusy s) F.PAT_STATE_BUSY = 1 := by
  rw [busy_showBusy, loaderBusy_of_busy h]
  rfl

theorem slotValid_width (k : Nat) : (F.PAT_SLOT_VALID k).lo ≤ (F.PAT_SLOT_VALID k).hi ∧ (F.PAT_SLOT_VALID k).hi < 32 :=
  ⟨Nat.le_refl 31, Nat.lt_succ_self 31⟩

theorem slotLen_width (k : Nat) : (F.PAT_SLOT_LEN_KIB k).lo ≤ (F.PAT_SLOT_LEN_KIB k).hi ∧ (F.PAT_SLOT_LEN_KIB k).hi < 32 :=
  ⟨Nat.zero_le 23, (by decide : 23 < 32)⟩

theorem storing_apart_slotValid (k : Fin 4) : Apart (F.PAT_SLOT_VALID k.val) F.PAT_STATE_STORING := by
  revert k
  decide

theorem slotValid_apart_len (k : Fin 4) : Apart (F.PAT_SLOT_VALID k.val) (F.PAT_SLOT_LEN_KIB k.val) := by
  revert k
  decide

theorem slot_offset (k : Fin 4) : R.PAT_SLOT k.val ∉ [R.PAT_STATE, R.PAT_RESULT, R.PAT_STAT] ++ jnlRegs := by
  revert k
  decide

theorem pat_journalPat (via : Src) (cmd slot id msi : Nat) (s : State) : (journalPat via cmd slot id msi s).pat = s.pat :=
  (logsOnly_journal _ _ _ _ _ s).pat

theorem rdByte_journalPat (via : Src) (cmd slot id msi : Nat) (s : State) (a : Nat) :
    rdByte (journalPat via cmd slot id msi s) a = rdByte s a :=
  congrArg (aGet memDefault · a) (logsOnly_journal _ _ _ _ _ s).mem

/-! ### PAT_STORE -/

/-- The slot is invalid, in its register and in the directory, and the loader stores. -/
def storeMark (k : Nat) (via : Src) (s : State) : State :=
  slotSave k (setF (setF { s with pat := { s.pat with busy := some (.store k), via := via } } F.PAT_STATE_STORING 1)
    (F.PAT_SLOT_VALID k) 0)

/-- The copy into the slot has begun. -/
def storeBegun (k : Nat) (via : Src) (s : State) : State := showBusy (patResult 8 0 0 (storeMark k via s))

theorem execPatStore_of_idle (via : Src) (k : Fin 4) (h : Noted s u)
    (hu : u = journalReg via R.PAT_CMD (BitVec.ofNat 32 (8 + 256 * k.val)) s) (hb : loaderBusy s = false)
    (ho : loaderOut s = false) (hlen : s.pat.stagedBytes.length ≤ 13 * 1048576) (hst : stg s = 2 ∨ stg s = 5) :
    ∃ id m, execPatStore via k s = .next (journalPat via 8 k.val id m (storeBegun k.val via u)) := by
  unfold execPatStore
  dsimp only
  rw [← hu, h.loaderBusy, h.loaderOut, h.stg, h.pat, hb, ho]
  rw [if_neg (by rcases hst with hst | hst <;> rw [hst] <;> decide),
    if_neg (by rcases hst with hst | hst <;> rw [hst] <;> decide), if_neg (by omega), ← h.pat]
  exact ⟨_, _, rfl⟩

theorem pat_storeMark (k : Nat) (via : Src) (s : State) :
    (storeMark k via s).pat = { s.pat with busy := some (.store k), via := via } := pat_slotSave _ _

theorem pat_storeBegun (k : Nat) (via : Src) (s : State) :
    (storeBegun k via s).pat = { s.pat with busy := some (.store k), via := via } := by
  rw [storeBegun, pat_showBusy, pat_patResult, pat_storeMark]

theorem storeMark_shows (k : Fin 4) (via : Src) (s : State) :
    getF (storeMark k.val via s) F.PAT_STATE_STORING = 1 ∧ getF (storeMark k.val via s) (F.PAT_SLOT_VALID k.val) = 0 := by
  unfold storeMark
  rw [getF_slotSave, getF_slotSave, getF_setF_of_apart _ _ (storing_apart_slotValid k)]
  exact ⟨getF_setF_of_lt _ _ (by decide) (by decide), getF_setF_of_lt _ _ (slotValid_width k) (by simp)⟩

theorem storeBegun_shows (k : Fin 4) (via : Src) (s : State) :
    getF (storeBegun k.val via s) F.PAT_STATE_STORING = 1 ∧ getF (storeBegun k.val via s) (F.PAT_SLOT_VALID k.val) = 0 ∧
    getF (storeBegun k.val via s) F.PAT_STATE_BUSY = 1 ∧ getF (storeBegun k.val via s) F.PAT_RESULT_CMD = 8 ∧
    getF (storeBegun k.val via s) F.PAT_RESULT_REASON = 0 := by
  have hslot : (F.PAT_SLOT_VALID k.val).off ∉ [R.PAT_STATE, R.PAT_RESULT] := by
    revert k
    decide
  obtain ⟨hstate, hresult⟩ := not_or.mp (List.mem_cons.not.mp hslot)
  obtain ⟨hstoring, hvalid⟩ := storeMark_shows k via s
  unfold storeBegun
  refine ⟨?_, ?_, busy_showBusy_of (op := .store k.val) (congrArg PatState.busy ((pat_patResult ..).trans (pat_storeMark k.val via s))), ?_, ?_⟩
  · rw [getF_showBusy _ (by decide), getF_patResult _ _ _ _ (by decide), hstoring]
  · rw [getF_showBusy _ (.inl hstate), getF_patResult _ _ _ _ (fun h => hresult (List.mem_singleton.mpr h)), hvalid]
  · rw [getF_showBusy _ (by decide), resultCmd_patResult _ _ (by decide)]
  · rw [getF_showBusy _ (by decide), resultReason_patResult _ _ (by decide)]

theorem KeptBut.storeBegun (h : KeptBut offs s t) (k : Nat) (via : Src) (hoffs : [R.PAT_STATE, R.PAT_RESULT, R.PAT_SLOT k] ⊆ offs) :
    KeptBut offs s (storeBegun k via t) := by
  have hstate : R.PAT_STATE ∈ offs := hoffs (List.mem_cons_self ..)
  have hresult : R.PAT_RESULT ∈ offs := hoffs (List.mem_cons_of_mem _ (List.mem_cons_self ..))
  have hslot : R.PAT_SLOT k ∈ offs := hoffs (List.mem_cons_of_mem _ (List.mem_cons_of_mem _ (List.mem_cons_self ..)))
  exact ((((h.withPat _).setF hstate).setF hslot).slotSave k |>.patResult hresult).showBusy hstate

theorem rdByte_storeBegun_outside (k : Nat) (via : Src) (s : State) {a : Nat} (h : a < slotDir k ∨ slotDir k + 4 ≤ a) :
    rdByte (storeBegun k via s) a = rdByte s a := by
  unfold rdByte
  rw [storeBegun, mem_showBusy, mem_patResult, storeMark]
  refine (rdByte_slotSave_outside k _ h).trans ?_
  unfold rdByte
  rw [((RegsOnly.refl _).setF.setF : RegsOnly { s with pat := { s.pat with busy := some (.store k), via := via } } _).mem]

theorem execPatStore_spec (via : Src) (k : Fin 4) (hb : loaderBusy s = false) (ho : loaderOut s = false)
    (hlen : s.pat.stagedBytes.length ≤ 13 * 1048576) (hst : stg s = 2 ∨ stg s = 5) :
    ∃ t, exec (.patStore via k) s = .next t ∧ t.pat = { s.pat with busy := some (.store k.val), via := via } ∧
      getF t F.PAT_STATE_STORING = 1 ∧ getF t (F.PAT_SLOT_VALID k.val) = 0 ∧ getF t F.PAT_STATE_BUSY = 1 ∧
      getF t F.PAT_RESULT_CMD = 8 ∧ getF t F.PAT_RESULT_REASON = 0 ∧
      KeptBut ([R.PAT_STATE, R.PAT_RESULT, R.PAT_SLOT k.val] ++ jnlRegs) s t ∧
      (∀ a, a < slotDir k.val ∨ slotDir k.val + 4 ≤ a → rdByte t a = rdByte s a) := by
  have h := noted_journalReg via R.PAT_CMD (BitVec.ofNat 32 (8 + 256 * k.val)) s
  obtain ⟨id, m, hexec⟩ := execPatStore_of_idle via k h rfl hb ho hlen hst
  generalize journalReg via R.PAT_CMD (BitVec.ofNat 32 (8 + 256 * k.val)) s = u at *
  obtain ⟨hstoring, hvalid, hbusy, hcmd, hreason⟩ := storeBegun_shows k via u
  have hslot : (F.PAT_SLOT_VALID k.val).off ∉ jnlRegs := fun hk => slot_offset k (List.mem_append_right _ hk)
  refine ⟨_, hexec, ?_, ?_, ?_, ?_, ?_, ?_, ?_, ?_⟩
  · rw [pat_journalPat, pat_storeBegun, h.pat]
  · rw [getF_journalPat _ _ _ _ _ _ (by decide), hstoring]
  · rw [getF_journalPat _ _ _ _ _ _ hslot, hvalid]
  · rw [getF_journalPat _ _ _ _ _ _ (by decide), hbusy]
  · rw [getF_journalPat _ _ _ _ _ _ (by decide), hcmd]
  · rw [getF_journalPat _ _ _ _ _ _ (by decide), hreason]
  · exact ((h.kept.mono (List.subset_append_right _ _)).storeBegun k.val via (List.subset_append_left _ _)).journal
      (List.subset_append_right _ _)
  · intro a ha
    rw [rdByte_journalPat, rdByte_storeBegun_outside _ _ _ ha, h.sameMem a]

/-! ### STORE_DONE -/

/-- The staged stream and its length are in the slot. -/
def storeCopied (k : Nat) (s : State) : State :=
  wrBytes (wrBytes s (slotBase k) s.pat.stagedBytes) (slotDir k + 16) (leBytes 4 s.pat.stagedBytes.length)

/-- The slot shows its stream and is valid. -/
def storeShown (k : Nat) (s : State) : State :=
  setF (setF (storeCopied k s) (F.PAT_SLOT_LEN_KIB k) ((s.pat.stagedBytes.length + 1023) / 1024)) (F.PAT_SLOT_VALID k) 1

/-- The slot's word is in the directory, and the loader is idle. -/
def storeFreed (k : Nat) (s : State) : State :=
  slotSave k { storeShown k s with pat := { (storeShown k s).pat with busy := none } }

theorem execStoreDone_of_store (h : s.pat.busy = some (.store k)) :
    execStoreDone s = .next (patDone (showBusy (setF (storeFreed k s) F.PAT_STATE_STORING 0))) := by
  unfold execStoreDone
  rw [h]
  rfl

theorem pat_storeCopied (k : Nat) (s : State) : (storeCopied k s).pat = s.pat := by
  rw [storeCopied, pat_wrBytes, pat_wrBytes]

theorem pat_storeShown (k : Nat) (s : State) : (storeShown k s).pat = s.pat :=
  ((RegsOnly.refl _).setF.setF : RegsOnly (storeCopied k s) (storeShown k s)).pat.trans (pat_storeCopied k s)

theorem pat_storeFreed (k : Nat) (s : State) : (storeFreed k s).pat = { s.pat with busy := none } := by
  rw [storeFreed, pat_slotSave, pat_storeShown]

theorem rdByte_storeFreed (k : Nat) (s : State) {a : Nat} (h : a < slotDir k ∨ slotDir k + 4 ≤ a) :
    rdByte (storeFreed k s) a = rdByte (storeCopied k s) a := by
  rw [storeFreed, rdByte_slotSave_outside _ _ h, rdByte_withPat]
  exact ((RegsOnly.refl _).setF.setF : RegsOnly (storeCopied k s) (storeShown k s)).sameMem a

/-- The stream lies above the directory, so its length does not touch it. -/
theorem rdByte_storeCopied_stream {i : Nat} {b : Byte} (hb : s.pat.stagedBytes[i]? = some b) (k : Fin 4) :
    rdByte (storeCopied k.val s) (slotBase k.val + i) = b := by
  have hi : i < s.pat.stagedBytes.length := (List.getElem?_eq_some_iff.mp hb).1
  have hk := k.isLt
  unfold storeCopied
  rw [rdByte_wrBytes_outside _ _ _ _ (by rw [length_leBytes]; unfold slotDir slotBase; omega), rdByte_wrBytes,
    if_pos (by omega), Nat.add_sub_cancel_left, hb]
  rfl

theorem rdByte_storeCopied_length (k i : Nat) (hi : i < 4) (s : State) :
    rdByte (storeCopied k s) (slotDir k + 16 + i) = ((leBytes 4 s.pat.stagedBytes.length)[i]?).getD 0 := by
  unfold storeCopied
  rw [rdByte_wrBytes, length_leBytes, if_pos (by omega), Nat.add_sub_cancel_left]

theorem slotLen_of_bytes {n : Nat} (hn : n < 2 ^ 32)
    (h : ∀ i, i < 4 → rdByte s (slotDir k + 16 + i) = ((leBytes 4 n)[i]?).getD 0) : slotLen s k = n := by
  have hread : rdBytes s (slotDir k + 16) (leBytes 4 n).length = leBytes 4 n :=
    rdBytes_of_written (fun i hi => h i (by rwa [length_leBytes] at hi))
  rw [length_leBytes] at hread
  unfold slotLen
  rw [hread]
  exact leNat_leBytes 4 n hn

theorem storeShown_shows (k : Fin 4) (hlen : s.pat.stagedBytes.length ≤ 13 * 1048576) :
    getF (storeShown k.val s) (F.PAT_SLOT_VALID k.val) = 1 ∧
    getF (storeShown k.val s) (F.PAT_SLOT_LEN_KIB k.val) = (s.pat.stagedBytes.length + 1023) / 1024 := by
  unfold storeShown
  rw [getF_setF_of_apart _ _ (slotValid_apart_len k)]
  have hfits : (s.pat.stagedBytes.length + 1023) / 1024 < 2 ^ 24 := by omega
  exact ⟨getF_setF_of_lt _ _ (slotValid_width k) (Nat.lt_succ_self 1), getF_setF_of_lt _ _ (slotLen_width k) hfits⟩

theorem execStoreDone_spec (k : Fin 4) (h : s.pat.busy = some (.store k.val)) (hlen : s.pat.stagedBytes.length ≤ 13 * 1048576) :
    ∃ t, exec .storeDone s = .next t ∧ t.pat = { s.pat with busy := none } ∧ getF t (F.PAT_SLOT_VALID k.val) = 1 ∧
      getF t (F.PAT_SLOT_LEN_KIB k.val) = (s.pat.stagedBytes.length + 1023) / 1024 ∧ getF t F.PAT_STATE_STORING = 0 ∧
      stBit t F.PAT_STAT_DONE = 1 ∧ slotLen t k.val = s.pat.stagedBytes.length ∧
      (∀ i b, s.pat.stagedBytes[i]? = some b → rdByte t (slotBase k.val + i) = b) ∧
      KeptBut [R.PAT_STATE, R.PAT_STAT, R.PAT_SLOT k.val] s t := by
  have hslot : R.PAT_SLOT k.val ∉ [R.PAT_STATE, R.PAT_STAT] := fun hk => slot_offset k (by
    simp only [List.mem_cons, List.not_mem_nil, or_false] at hk
    rcases hk with hk | hk <;> simp [hk])
  have hk := k.isLt
  obtain ⟨hvalid, hkib⟩ := storeShown_shows k hlen
  have kept : KeptBut [R.PAT_STATE, R.PAT_STAT] (storeFreed k.val s)
      (patDone (showBusy (setF (storeFreed k.val s) F.PAT_STATE_STORING 0))) :=
    (((KeptBut.refl _ _).setF (by decide)).showBusy (by decide)).patDone (by decide)
  have hregs : RegsOnly (storeFreed k.val s) (patDone (showBusy (setF (storeFreed k.val s) F.PAT_STATE_STORING 0))) :=
    (RegsOnly.refl _).setF.showBusy.patDone
  have hbyte (a : Nat) (ha : a < slotDir k.val ∨ slotDir k.val + 4 ≤ a) :
      rdByte (patDone (showBusy (setF (storeFreed k.val s) F.PAT_STATE_STORING 0))) a = rdByte (storeCopied k.val s) a :=
    (hregs.sameMem a).trans (rdByte_storeFreed k.val s ha)
  refine ⟨_, execStoreDone_of_store h, hregs.pat.trans (pat_storeFreed k.val s), ?_, ?_, ?_, done_patDone _, ?_, ?_, ?_⟩
  · rw [kept.getF hslot, storeFreed, getF_slotSave, getF_withPat, hvalid]
  · rw [kept.getF hslot, storeFreed, getF_slotSave, getF_withPat, hkib]
  · rw [getF_patDone _ (by decide), getF_showBusy _ (by decide)]
    exact getF_setF_of_lt _ _ (by decide) (by decide)
  · refine slotLen_of_bytes (by omega) (fun i hi => ?_)
    rw [hbyte _ (by omega), rdByte_storeCopied_length _ _ hi]
  · intro i b hb
    rw [hbyte _ (by unfold slotBase slotDir; omega), rdByte_storeCopied_stream hb]
  · have base : KeptBut [R.PAT_STATE, R.PAT_STAT, R.PAT_SLOT k.val] s (storeCopied k.val s) :=
      ((KeptBut.refl _ s).wrBytes _ _).wrBytes _ _
    exact (((((base.setF (by simp [F.PAT_SLOT_LEN_KIB])).setF (by simp [F.PAT_SLOT_VALID])).withPat _).slotSave k.val).trans
      (kept.mono (List.subset_append_left _ [R.PAT_SLOT k.val])))

/-! ### PAT_ERASE and PAT_AUTO -/

/-- A command that the loader has done. -/
theorem doneResult_shows {cmd : Nat} (hc : cmd < 16) (s : State) :
    getF (patDone (patResult cmd 0 0 s)) F.PAT_RESULT_CMD = cmd ∧ getF (patDone (patResult cmd 0 0 s)) F.PAT_RESULT_REASON = 0 ∧
    stBit (patDone (patResult cmd 0 0 s)) F.PAT_STAT_DONE = 1 ∧
    KeptBut [R.PAT_RESULT, R.PAT_STAT] s (patDone (patResult cmd 0 0 s)) := by
  refine ⟨?_, ?_, done_patDone _, ((KeptBut.refl _ s).patResult (by decide)).patDone (by decide)⟩
  · rw [getF_patDone _ (by decide), resultCmd_patResult _ _ hc]
  · rw [getF_patDone _ (by decide), resultReason_patResult _ _ (by decide)]

theorem slot_not_result (k : Fin 4) : R.PAT_SLOT k.val ∉ [R.PAT_RESULT, R.PAT_STAT] := by
  revert k
  decide

theorem execPatErase_of_idle (via : Src) (k : Fin 4) (h : Noted s u)
    (hu : u = journalReg via R.PAT_CMD (BitVec.ofNat 32 (9 + 256 * k.val)) s) (hb : loaderBusy s = false) :
    ∃ m, execPatErase via k s = .next (journalPat via 9 k.val 0 m
      (patDone (patResult 9 0 0 (slotSave k.val (setF u (F.PAT_SLOT_VALID k.val) 0))))) := by
  unfold execPatErase
  dsimp only
  rw [← hu, h.loaderBusy, hb, if_neg (by decide)]
  exact ⟨_, rfl⟩

theorem execPatErase_spec (via : Src) (k : Fin 4) (hb : loaderBusy s = false) :
    ∃ t, exec (.patErase via k) s = .next t ∧ getF t (F.PAT_SLOT_VALID k.val) = 0 ∧ stBit t F.PAT_STAT_DONE = 1 ∧
      getF t F.PAT_RESULT_CMD = 9 ∧ getF t F.PAT_RESULT_REASON = 0 ∧
      KeptBut ([R.PAT_RESULT, R.PAT_STAT, R.PAT_SLOT k.val] ++ jnlRegs) s t ∧
      (∀ a, a < slotDir k.val ∨ slotDir k.val + 4 ≤ a → rdByte t a = rdByte s a) := by
  have h := noted_journalReg via R.PAT_CMD (BitVec.ofNat 32 (9 + 256 * k.val)) s
  obtain ⟨m, hexec⟩ := execPatErase_of_idle via k h rfl hb
  generalize journalReg via R.PAT_CMD (BitVec.ofNat 32 (9 + 256 * k.val)) s = u at *
  obtain ⟨hcmd, hreason, hdone, kept⟩ := doneResult_shows (cmd := 9) (by decide) (slotSave k.val (setF u (F.PAT_SLOT_VALID k.val) 0))
  have hslot : (F.PAT_SLOT_VALID k.val).off ∉ jnlRegs := fun hk => slot_offset k (List.mem_append_right _ hk)
  have keptJournal (id m : Nat) (v : State) : KeptBut jnlRegs v (journalPat via 9 k.val id m v) :=
    (KeptBut.refl _ _).journal (List.Subset.refl _)
  refine ⟨_, hexec, ?_, ?_, ?_, ?_, ?_, ?_⟩
  · rw [getF_journalPat _ _ _ _ _ _ hslot, kept.getF (slot_not_result k), getF_slotSave]
    exact getF_setF_of_lt _ _ (slotValid_width k) (by simp)
  · exact (stBit_of_kept (keptJournal _ _ _) (f := F.PAT_STAT_DONE) 0 (by decide)).trans hdone
  · rw [getF_journalPat _ _ _ _ _ _ (by decide), hcmd]
  · rw [getF_journalPat _ _ _ _ _ _ (by decide), hreason]
  · have base : KeptBut ([R.PAT_RESULT, R.PAT_STAT, R.PAT_SLOT k.val] ++ jnlRegs) s (slotSave k.val (setF u (F.PAT_SLOT_VALID k.val) 0)) :=
      ((h.kept.mono (List.subset_append_right _ _)).setF (by simp [F.PAT_SLOT_VALID])).slotSave k.val
    exact ((base.patResult (by simp)).patDone (by simp)).journal (List.subset_append_right _ _)
  · intro a ha
    rw [rdByte_journalPat, ((RegsOnly.refl _).patResult.patDone : RegsOnly (slotSave k.val (setF u (F.PAT_SLOT_VALID k.val) 0)) _).sameMem a,
      rdByte_slotSave_outside _ _ ha]
    exact ((RegsOnly.refl u).setF.sameMem a).trans (h.sameMem a)

/-- A slot is made automatic or not. -/
def slotAuto (i v : Nat) (s : State) : State := slotSave i (setF s (F.PAT_SLOT_AUTO i) v)

theorem slotAuto_width (k : Nat) : (F.PAT_SLOT_AUTO k).lo ≤ (F.PAT_SLOT_AUTO k).hi ∧ (F.PAT_SLOT_AUTO k).hi < 32 :=
  ⟨Nat.le_refl 30, (by decide : 30 < 32)⟩

theorem slotReg_injective {i j : Nat} (h : i ≠ j) : R.PAT_SLOT i ≠ R.PAT_SLOT j := by
  unfold R.PAT_SLOT
  omega

theorem auto_slotAuto {v : Nat} (hv : v < 2) (i j : Nat) (s : State) :
    getF (slotAuto i v s) (F.PAT_SLOT_AUTO j) = if i = j then v else getF s (F.PAT_SLOT_AUTO j) := by
  unfold slotAuto
  rw [getF_slotSave]
  split
  next hij =>
    rw [hij]
    exact getF_setF_of_lt _ _ (slotAuto_width j) hv
  next hij => exact getF_setF_of_ne _ _ _ _ (slotReg_injective (Ne.symm hij))

theorem valid_slotAuto (i v j : Nat) (s : State) : getF (slotAuto i v s) (F.PAT_SLOT_VALID j) = getF s (F.PAT_SLOT_VALID j) := by
  unfold slotAuto
  rw [getF_slotSave]
  by_cases hij : j = i
  · rw [hij]
    exact getF_setF_of_apart _ _ (.inr ⟨Nat.le_refl 30, (by decide : 31 < 32), .inl (by decide : 30 < 31)⟩)
  · exact getF_setF_of_ne _ _ _ _ (slotReg_injective hij)

/-- After the slots below n, each of them is automatic exactly if it is the one named. -/
theorem slotAuto_below (k n : Nat) (s : State) :
    (∀ i, i < n → getF (forNat n (fun i => slotAuto i (b2n (i == k))) s) (F.PAT_SLOT_AUTO i) = if i = k then 1 else 0) ∧
    (∀ i, getF (forNat n (fun i => slotAuto i (b2n (i == k))) s) (F.PAT_SLOT_VALID i) = getF s (F.PAT_SLOT_VALID i)) := by
  induction n with
  | zero => exact ⟨fun i hi => absurd hi (Nat.not_lt_zero _), fun _ => rfl⟩
  | succ n ih =>
    obtain ⟨hauto, hvalid⟩ := ih
    rw [forNat_succ]
    refine ⟨fun i hi => ?_, fun i => (valid_slotAuto _ _ _ _).trans (hvalid i)⟩
    rw [auto_slotAuto (by cases (n == k) <;> decide)]
    by_cases hni : n = i
    · rw [if_pos hni, hni]
      by_cases hik : i = k <;> simp [hik, b2n]
    · rw [if_neg hni, hauto i (by omega)]

theorem autoSlot_of_only {k : Nat} (hk : k < 4) (h : ∀ i, i < 4 → getF s (F.PAT_SLOT_AUTO i) = if i = k then 1 else 0) :
    autoSlot s = some k := by
  unfold autoSlot
  rw [List.find?_range_eq_some]
  refine ⟨?_, List.mem_range.mpr hk, fun j hj => ?_⟩
  · rw [h k hk, if_pos rfl]
    rfl
  · rw [h j (by omega), if_neg (by omega)]
    rfl

theorem execPatAuto_of_idle (via : Src) (k : Fin 4) (en : Bool) (h : Noted s u)
    (hu : u = journalReg via R.PAT_CMD (BitVec.ofNat 32 (10 + 256 * k.val + 4096 * b2n en)) s) (hb : loaderBusy s = false) :
    execPatAuto via k en s = .next (patDone (patResult 10 0 0 (if en then forNat 4 (fun i => slotAuto i (b2n (i == k.val))) u
      else slotAuto k.val 0 u))) := by
  unfold execPatAuto
  dsimp only
  rw [← hu, h.loaderBusy, hb, if_neg (by decide)]
  rfl

theorem execPatAuto_set_spec (via : Src) (k : Fin 4) (hb : loaderBusy s = false) :
    ∃ t, exec (.patAuto via k true) s = .next t ∧ (∀ i, i < 4 → getF t (F.PAT_SLOT_AUTO i) = if i = k.val then 1 else 0) ∧
      (∀ i, i < 4 → getF t (F.PAT_SLOT_VALID i) = getF s (F.PAT_SLOT_VALID i)) ∧ autoSlot t = some k.val ∧
      stBit t F.PAT_STAT_DONE = 1 ∧ getF t F.PAT_RESULT_CMD = 10 ∧ getF t F.PAT_RESULT_REASON = 0 := by
  have h := noted_journalReg via R.PAT_CMD (BitVec.ofNat 32 (10 + 256 * k.val + 4096 * b2n true)) s
  have hexec := execPatAuto_of_idle via k true h rfl hb
  generalize journalReg via R.PAT_CMD (BitVec.ofNat 32 (10 + 256 * k.val + 4096 * b2n true)) s = u at *
  rw [if_pos rfl] at hexec
  obtain ⟨hauto, hvalid⟩ := slotAuto_below k.val 4 u
  generalize forNat 4 (fun i => slotAuto i (b2n (i == k.val))) u = v at *
  obtain ⟨hcmd, hreason, hdone, kept⟩ := doneResult_shows (cmd := 10) (by decide) v
  have hnot (i : Nat) (hi : i < 4) : R.PAT_SLOT i ∉ [R.PAT_RESULT, R.PAT_STAT] := slot_not_result ⟨i, hi⟩
  have hjnl (i : Nat) (hi : i < 4) : R.PAT_SLOT i ∉ jnlRegs := fun hk => slot_offset ⟨i, hi⟩ (List.mem_append_right _ hk)
  have honly : ∀ i, i < 4 → getF (patDone (patResult 10 0 0 v)) (F.PAT_SLOT_AUTO i) = if i = k.val then 1 else 0 :=
    fun i hi => (kept.getF (hnot i hi)).trans (hauto i hi)
  exact ⟨_, hexec, honly, fun i hi => ((kept.getF (hnot i hi)).trans (hvalid i)).trans (h.getF _ (hjnl i hi)),
    autoSlot_of_only k.isLt honly, hdone, hcmd, hreason⟩

theorem execPatAuto_clear_spec (via : Src) (k : Fin 4) (hb : loaderBusy s = false) :
    ∃ t, exec (.patAuto via k false) s = .next t ∧ getF t (F.PAT_SLOT_AUTO k.val) = 0 ∧
      stBit t F.PAT_STAT_DONE = 1 ∧ KeptBut ([R.PAT_RESULT, R.PAT_STAT, R.PAT_SLOT k.val] ++ jnlRegs) s t := by
  have h := noted_journalReg via R.PAT_CMD (BitVec.ofNat 32 (10 + 256 * k.val + 4096 * b2n false)) s
  have hexec := execPatAuto_of_idle via k false h rfl hb
  generalize journalReg via R.PAT_CMD (BitVec.ofNat 32 (10 + 256 * k.val + 4096 * b2n false)) s = u at *
  rw [if_neg (by decide)] at hexec
  obtain ⟨-, -, hdone, kept⟩ := doneResult_shows (cmd := 10) (by decide) (slotAuto k.val 0 u)
  refine ⟨_, hexec, ?_, hdone, ?_⟩
  · rw [kept.getF (slot_not_result k), auto_slotAuto (by decide), if_pos rfl]
  · have base : KeptBut ([R.PAT_RESULT, R.PAT_STAT, R.PAT_SLOT k.val] ++ jnlRegs) s (slotAuto k.val 0 u) :=
      ((h.kept.mono (List.subset_append_right _ _)).setF (by simp [F.PAT_SLOT_AUTO])).slotSave k.val
    exact (base.patResult (by simp)).patDone (by simp)

/-! ### The automatic pour -/

/-- The automatic pour, at its first act in block `blk s` unless it began earlier. -/
def autoTimed (s : State) : State := { s with pat := { s.pat with autoAt := some (s.pat.autoAt.getD (blk s)) } }

theorem execAutoPour_of_locked (hauto : autoSlot s = some k) (hover : s.pat.autoDone = false) (hrun : running s = false)
    (hvalid : getF s (F.PAT_SLOT_VALID k) = 1) (hheld : s.err.startupHold = false) (hlock : mediaLocked s = true) :
    execAutoPour s = .next (autoStep k (s.pat.autoAt.getD (blk s)) (autoTimed s)) := by
  unfold execAutoPour
  rw [hauto]
  exact congrArg Host.Outcome.next (if_neg (by simp [hover, hrun, hvalid, hheld, hlock]))

theorem autoStep_of_empty {lock : Nat} (hb : loaderBusy s = false) (hst : stg s = 0) :
    autoStep k lock s = loadStart 2 (.loadSlot k) .device s := by
  unfold autoStep
  rw [hb, if_neg (by decide)]
  split
  next => rfl
  next h => exact absurd (hst.symm.trans h) (by decide)
  next h => exact absurd (hst.symm.trans h) (by decide)
  next h => exact absurd (hst.symm.trans h) (by decide)
  next h _ _ _ => exact absurd hst h

theorem execAutoPour_spec (hauto : autoSlot s = some k) (hover : s.pat.autoDone = false) (hrun : running s = false)
    (hvalid : getF s (F.PAT_SLOT_VALID k) = 1) (hheld : s.err.startupHold = false) (hlock : mediaLocked s = true)
    (hb : loaderBusy s = false) (ho : loaderOut s = false) (hst : stg s = 0) :
    ∃ t, exec .autoPour s = .next t ∧ stg t = 1 ∧
      t.pat = { s.pat with busy := some (.loadSlot k), via := .device, autoAt := some (s.pat.autoAt.getD (blk s)) } ∧
      Frame [R.PAT_STATE, R.PAT_RESULT] s t { s with regs := t.regs, pat := t.pat } := by
  have hexec := execAutoPour_of_locked hauto hover hrun hvalid hheld hlock
  have hbusy : loaderBusy (autoTimed s) = false := hb
  have hout : loaderOut (autoTimed s) = false := ho
  have hstg : stg (autoTimed s) = 0 := hst
  rw [autoStep_of_empty hbusy hstg, loadStart_of_idle hbusy hout (.inl hstg)] at hexec
  obtain ⟨hshown, -, -, -⟩ := loaderAt_shows (t := autoTimed s) (st := 1) (cmd := 2) (op := .loadSlot k) (via := .device)
    (by decide) (by decide)
  have kept : KeptBut [R.PAT_STATE, R.PAT_RESULT] s (loaderAt 1 2 (.loadSlot k) .device (autoTimed s)) :=
    (((((KeptBut.refl _ s).withPat _).withPat _).patResult (by decide)).setStg (by decide)).showBusy (by decide)
  have hregs : RegsOnly { autoTimed s with pat := { (autoTimed s).pat with busy := some (.loadSlot k), via := .device } }
      (loaderAt 1 2 (.loadSlot k) .device (autoTimed s)) := (RegsOnly.refl _).patResult.setStg.showBusy
  refine ⟨_, hexec, hshown, pat_loaderAt 1 2 _ _ (autoTimed s), ?_, kept, ?_⟩
  · obtain ⟨r, hr⟩ := hregs
    rw [hr]
    rfl
  · refine sameMem_of_mem (hregs.mem.trans ?_)
    rfl

end Sys2Proof.Machine

namespace Sys2Proof

open Machine

/-- Settles O53: a slot's register, its word in the directory and its stream lie apart, so each operation shows what it
wrote; one automatic slot is the only one that is found. -/
theorem slotsStoreAndAutoPour : Obligations.SlotsStoreAndAutoPour := by
  unfold Obligations.SlotsStoreAndAutoPour
  refine ⟨?_, ?_, ?_, ?_, ?_, ?_⟩
  · exact fun via k s ⟨hb, ho, hlen⟩ hst => execPatStore_spec via k hb ho hlen hst
  · exact fun s k ⟨h, hlen⟩ => execStoreDone_spec k h hlen
  · exact fun via k s hb => execPatErase_spec via k hb
  · exact fun via k s hb => execPatAuto_set_spec via k hb
  · exact fun via k s hb => execPatAuto_clear_spec via k hb
  · exact fun s k ⟨hauto, hover, hrun, hvalid⟩ ⟨hheld, hlock, hb, ho, hst⟩ =>
      execAutoPour_spec hauto hover hrun hvalid hheld hlock hb ho hst

end Sys2Proof
end

section
/-! SUPPORT. Amendments, and their obligation (O52; R75, R85 to R87). -/

namespace Sys2Proof.Machine

variable {s t u : State} {offs : List Nat} {p : Pattern} {bs : List Byte} {len : Nat} {a : AmendPend}

/-! ### Acceptance -/

theorem rdPackedFrom_of_sameMem (h : SameMem s t) (base w0 : Nat) : ∀ n k, rdPackedFrom t base w0 k n = rdPackedFrom s base w0 k n := by
  intro n
  induction n with
  | zero => exact fun _ => rfl
  | succ n ih =>
    intro k
    rw [rdPackedFrom, rdPackedFrom, h, ih]

theorem rdPacked_of_sameMem (h : SameMem s t) (base w0 n : Nat) : rdPacked t base w0 n = rdPacked s base w0 n :=
  rdPackedFrom_of_sameMem h base w0 n 0

/-- An amendment that is staged and decided shows AMD_PEND and result 0. -/
theorem amendTry_of_ready (h : s.pat.amend = some a) (hstaged : a.staged = true) (hdecided : a.decided = true)
    (hpend : getF s F.PAT_STATE_AMD_PEND = 0) (hfatal : s.err.fatal = false) :
    amendTry s = journal a.via 3 0 (a.amdId % 2 ^ 32) (16 * a.block)
      (patResult 7 0 (a.amdId % 2 ^ 16) (showBusy (setF s F.PAT_STATE_AMD_PEND 1))) := by
  unfold amendTry
  rw [h]
  dsimp only
  exact if_pos (by simp [hstaged, hdecided, hpend, hfatal])

/-- What an accepted amendment shows. -/
def AmendShown (amd : Nat) (t : State) : Prop :=
  getF t F.PAT_STATE_AMD_PEND = 1 ∧ getF t F.PAT_RESULT_CMD = 7 ∧ getF t F.PAT_RESULT_REASON = 0 ∧
  getF t F.PAT_RESULT_AMD_ID = amd % 2 ^ 16

theorem amendTry_shows (h : s.pat.amend = some a) (hstaged : a.staged = true) (hdecided : a.decided = true)
    (hpend : getF s F.PAT_STATE_AMD_PEND = 0) (hfatal : s.err.fatal = false) : AmendShown a.amdId (amendTry s) := by
  rw [amendTry_of_ready h hstaged hdecided hpend hfatal]
  refine ⟨?_, ?_, ?_, ?_⟩
  · rw [getF_journal _ _ _ _ _ _ (by decide), getF_patResult _ _ _ _ (by decide), getF_showBusy _ (by decide)]
    exact getF_setF_of_lt _ _ (by decide) (by decide)
  · rw [getF_journal _ _ _ _ _ _ (by decide), resultCmd_patResult _ _ (by decide)]
  · rw [getF_journal _ _ _ _ _ _ (by decide), resultReason_patResult _ _ (by decide)]
  · rw [getF_journal _ _ _ _ _ _ (by decide), resultAmdId_patResult, Nat.mod_mod]

theorem Loads.amendTry {q : PatState} (h : Loads offs q s t) (hoffs : [R.PAT_STATE, R.PAT_RESULT] ++ jnlRegs ⊆ offs) :
    Loads offs q s (amendTry t) := by
  have hjnl : jnlRegs ⊆ offs := fun _ ho => hoffs (List.mem_append_right _ ho)
  unfold Machine.amendTry
  split
  · exact h
  · split
    · exact (((h.setF (hoffs (by decide))).showBusy (hoffs (by decide))).patResult (hoffs (by decide))).journal hjnl
    · exact h

theorem logsOnly_amendTry (s : State) : LogsOnly s (amendTry s) := by
  unfold amendTry
  split
  · exact .refl s
  · split
    · exact (((logsOnly_setF _ _ _).trans (logsOnly_setF _ _ _)).trans
        (((logsOnly_setF _ _ _).trans (logsOnly_setF _ _ _)).trans (logsOnly_setF _ _ _))).trans (logsOnly_journal ..)
    · exact .refl s

/-- The amendment that AMEND stages for block k: it has no coefficients to convert. -/
def amendFor (via : Src) (k : Nat) (bs : List Byte) (p : Pattern) : AmendPend :=
  { block := k, amdId := amdIdOf bs, xf := amdXf bs, via := via, decided := true, body := p, staged := true }

theorem amendStage_of_bare {via : Src} {k : Nat} (hcoefs : p.coefs = none) (hin : blk s + 2 ≤ k) :
    amendStage via k (amdIdOf bs) (amdXf bs) true p s =
      amendTry (showBusy { s with pat := { s.pat with amend := some (amendFor via k bs p) } }) := by
  have hstaged : (p.coefs.isNone && stagedInTime s k) = true := by
    rw [hcoefs]
    exact decide_eq_true hin
  unfold amendStage
  rw [hstaged, hcoefs]
  rfl

theorem patAmend_of_ready {via : Src} (hpair : isPair s = false) (hfree : s.pat.amend = none) (hbusy : loaderBusy s = false)
    (hout : loaderOut s = false) (hrun : running s = true) (hlate : isLate s (rd64 s R.PAT_MSI_LO R.PAT_MSI_HI) = false)
    (hbs : bs = rdPacked s dramBase (rdN s R.PAT_SRC) (max (rdN s R.PAT_LEN) 32))
    (hcheck : amendCheck s bs (rdN s R.PAT_LEN) = .ok p) (hclash : amendClash s p = false) :
    patAmend via s = amendStage via (ceil16 (rd64 s R.PAT_MSI_LO R.PAT_MSI_HI)) (amdIdOf bs) (amdXf bs) true p s := by
  unfold patAmend
  dsimp only
  rw [← hbs, isPassive_of_lone hpair, if_neg (by decide), hfree, hbusy, hout, if_neg (by decide), hrun, if_neg (by decide),
    hlate, if_neg (by decide), hcheck]
  dsimp only
  rw [hclash, if_neg (by decide), mirrorCommand_of_lone hpair]
  rfl

theorem execPatAmend_spec (via : Src) (hpair : isPair s = false) (hfree : s.pat.amend = none) (hbusy : loaderBusy s = false)
    (hout : loaderOut s = false) (hrun : running s = true) (hlate : isLate s (rd64 s R.PAT_MSI_LO R.PAT_MSI_HI) = false)
    (hin : blk s + 2 ≤ ceil16 (rd64 s R.PAT_MSI_LO R.PAT_MSI_HI))
    (hbs : bs = rdPacked s dramBase (rdN s R.PAT_SRC) (max (rdN s R.PAT_LEN) 32)) (hu : u = journalReg via R.PAT_CMD 7 s)
    (hcheck : amendCheck u bs (rdN s R.PAT_LEN) = .ok p) (hcoefs : p.coefs = none) (hclash : amendClash u p = false)
    (hpend : getF s F.PAT_STATE_AMD_PEND = 0) (hfatal : s.err.fatal = false) :
    ∃ t, exec (.patAmend via) s = .next t ∧
      t.pat = { s.pat with amend := some (amendFor via (ceil16 (rd64 s R.PAT_MSI_LO R.PAT_MSI_HI)) bs p) } ∧
      AmendShown (amdIdOf bs) t ∧
      Frame ([R.PAT_STATE, R.PAT_RESULT] ++ jnlRegs) s t { s with regs := t.regs, jnl := t.jnl, pat := t.pat } := by
  have h := noted_journalReg via R.PAT_CMD 7 s
  have hexec : exec (.patAmend via) s = .next (patAmend via (journalReg via R.PAT_CMD 7 s)) := rfl
  rw [← hu] at h hexec
  have hm := h.rd64 R.PAT_MSI_LO R.PAT_MSI_HI (by decide) (by decide)
  have herr : u.err = s.err := by
    obtain ⟨r, j, hparts⟩ := h.parts
    rw [hparts]
  rw [patAmend_of_ready (bs := bs) (h.isPair.trans hpair) ((congrArg PatState.amend h.pat).trans hfree) (h.loaderBusy.trans hbusy)
    (h.loaderOut.trans hout) (h.running.trans hrun) (by rw [hm, h.isLate]; exact hlate)
    (by rw [rdPacked_of_sameMem h.sameMem, h.rdN _ (by decide), h.rdN _ (by decide)]; exact hbs)
    (by rw [h.rdN _ (by decide)]; exact hcheck) hclash,
    hm, amendStage_of_bare hcoefs (by rw [h.blk]; exact hin), h.pat] at hexec
  have loads := (((h.loads (offs := [R.PAT_STATE, R.PAT_RESULT] ++ jnlRegs) (by decide)).withPat
    { s.pat with amend := some (amendFor via (ceil16 (rd64 s R.PAT_MSI_LO R.PAT_MSI_HI)) bs p) }).showBusy (by decide)).amendTry
    (List.Subset.refl _)
  refine ⟨_, hexec, loads.pat, ?_, loads.frame⟩
  refine amendTry_shows (a := amendFor via (ceil16 (rd64 s R.PAT_MSI_LO R.PAT_MSI_HI)) bs p) rfl rfl rfl ?_ ?_
  · rw [getF_showBusy _ (by decide), getF_withPat, h.getF _ (by decide), hpend]
  · exact (congrArg ErrState.fatal herr).trans hfatal

/-! ### The converter -/

theorem forEach_induct {α : Type} {f : α → State → State} (P : State → Prop) (l : List α) (h : P s)
    (hf : ∀ x, x ∈ l → ∀ u, P u → P (f x u)) : P (forEach l f s) :=
  List.foldlRecOn (motive := P) l _ h (fun u hu x hx => hf x hx u hu)

/-- t is s with other filters. -/
def FiltersOnly (s t : State) : Prop := ∃ f, t = { s with flt := f }

theorem FiltersOnly.refl (s : State) : FiltersOnly s s := ⟨s.flt, rfl⟩

theorem FiltersOnly.step {f : FilterState} (h : FiltersOnly s t) : FiltersOnly s { t with flt := f } := by
  obtain ⟨g, rfl⟩ := h
  exact ⟨f, rfl⟩

theorem FiltersOnly.pat (h : FiltersOnly s t) : t.pat = s.pat := by
  obtain ⟨f, rfl⟩ := h
  rfl

theorem filtersOnly_convKeep (s : State) : FiltersOnly s (convKeep s) := by
  unfold convKeep
  split
  · exact .refl s
  · exact forEach_induct (FiltersOnly s) _ (.refl s) (fun _ _ _ hu => hu.step)

theorem convKeep_of_none (h : s.pat.amend = none) : convKeep s = s := by
  unfold convKeep
  rw [h]

/-- The converter is free again. -/
def converted (s : State) : State := convKeep { s with pat := { s.pat with conv := none } }

theorem execCoefConversionDone_of_none {j : ConvJob} (h : s.pat.conv = some j) (hend : j.endBlock ≤ blk s)
    (hfree : (converted s).pat.amend = none) : execCoefConversionDone s = .next (converted s) := by
  unfold converted at hfree ⊢
  unfold execCoefConversionDone
  rw [h]
  dsimp only
  rw [if_neg (Nat.not_lt.mpr hend), hfree]

theorem execCoefConversionDone_of_some {j : ConvJob} (h : s.pat.conv = some j) (hend : j.endBlock ≤ blk s)
    (ha : (converted s).pat.amend = some a) : execCoefConversionDone s =
      .next (amendTry { converted s with pat := { (converted s).pat with
        amend := some { a with staged := stagedInTime (converted s) a.block } } }) := by
  unfold converted at ha ⊢
  unfold execCoefConversionDone
  rw [h]
  dsimp only
  rw [if_neg (Nat.not_lt.mpr hend), ha]

theorem pat_converted (s : State) : (converted s).pat = { s.pat with conv := none } := (filtersOnly_convKeep _).pat

theorem execCoefConversionDone_none_spec {j : ConvJob} (h : s.pat.conv = some j) (hend : j.endBlock ≤ blk s)
    (hfree : s.pat.amend = none) :
    ∃ t, exec .coefConversionDone s = .next t ∧ t = { s with pat := { s.pat with conv := none } } :=
  ⟨_, execCoefConversionDone_of_none h hend (by rw [pat_converted]; exact hfree), convKeep_of_none hfree⟩

theorem execCoefConversionDone_some_spec {j : ConvJob} (h : s.pat.conv = some j) (hend : j.endBlock ≤ blk s)
    (ha : s.pat.amend = some a) (hdecided : a.decided = true) (hin : blk s + 2 ≤ a.block)
    (hpend : getF s F.PAT_STATE_AMD_PEND = 0) (hfatal : s.err.fatal = false) :
    ∃ t, exec .coefConversionDone s = .next t ∧ t.pat = { s.pat with conv := none, amend := some { a with staged := true } } ∧
      AmendShown a.amdId t ∧ SameMem s t := by
  have hexec := execCoefConversionDone_of_some h hend (a := a) (by rw [pat_converted]; exact ha)
  obtain ⟨f, hf⟩ := filtersOnly_convKeep { s with pat := { s.pat with conv := none } }
  have hconv : converted s = { s with flt := f, pat := { s.pat with conv := none } } := hf
  have hstaged : stagedInTime { s with flt := f, pat := { s.pat with conv := none } } a.block = true := decide_eq_true hin
  rw [hconv, hstaged] at hexec
  have hlogs := logsOnly_amendTry { s with flt := f, pat := { s.pat with conv := none, amend := some { a with staged := true } } }
  exact ⟨_, hexec, hlogs.pat, amendTry_shows (a := { a with staged := true }) rfl rfl hdecided hpend hfatal,
    sameMem_of_mem hlogs.mem⟩

/-! ### Refusal at the last strobe -/

/-- The loader's state without its amendment. -/
def dropPat (q : PatState) : PatState :=
  { q with amend := none, conv := match q.amend with
    | some a => if a.body.coefs.isSome then none else q.conv
    | none => q.conv }

theorem amendDrop_eq (s : State) : amendDrop s = showBusy (setF { s with pat := dropPat s.pat } F.PAT_STATE_AMD_PEND 0) := rfl

theorem withdrawItem_of_none (pick : Item → Bool) (h : s.flk.undecided = []) : withdrawItem pick s = s := by
  unfold withdrawItem
  rw [h]
  rfl

theorem execAmendStageCheck_of_unready (ha : s.pat.amend = some a) (hdue : due s (a.block - 1) = true)
    (hun : (a.staged && a.decided) = false) (hnone : s.flk.undecided = []) :
    execAmendStageCheck s = .next (patRefuse 7 .lateStage (a.amdId % 2 ^ 16) (amendDrop s)) := by
  unfold execAmendStageCheck
  rw [ha]
  dsimp only
  rw [if_neg (by simp [hdue, hun]), withdrawItem_of_none _ hnone]
  unfold amendRefuse
  rw [ha]

/-- What a refused command of the loader shows, and what it leaves. -/
theorem patRefuse_shows {cmd : Nat} (hc : cmd < 16) (r : Reason) (amd : Nat) (s : State) :
    getF (patRefuse cmd r amd s) F.PAT_RESULT_CMD = cmd ∧ getF (patRefuse cmd r amd s) F.PAT_RESULT_REASON = reasonCode r ∧
    getF (patRefuse cmd r amd s) F.PAT_RESULT_AMD_ID = amd % 2 ^ 16 ∧ stBit (patRefuse cmd r amd s) F.PAT_STAT_REFUSED = 1 ∧
    KeptBut ([R.PAT_RESULT, R.PAT_STAT] ++ errRegs) s (patRefuse cmd r amd s) := by
  have kept : KeptBut errRegs (setBit (patResult cmd (reasonCode r) amd s) F.PAT_STAT_REFUSED) (patRefuse cmd r amd s) :=
    keptBut_raise_of_tie (f := F.PAT_STAT_REFUSED) (by decide) rfl _
  have hresult {f : Fld} (hf : f.off = R.PAT_RESULT) :
      getF (patRefuse cmd r amd s) f = getF (patResult cmd (reasonCode r) amd s) f := by
    have hout : f.off ∉ errRegs := by
      rw [hf]
      decide
    have hother : f.off ≠ R.PAT_STAT := by
      rw [hf]
      decide
    exact (kept.getF hout).trans (getF_setF_of_ne _ _ _ _ hother)
  refine ⟨?_, ?_, ?_, ?_, ?_⟩
  · exact (hresult rfl).trans (resultCmd_patResult _ _ hc _)
  · exact (hresult rfl).trans (resultReason_patResult _ _ (reasonCode_lt r) _)
  · exact (hresult rfl).trans (resultAmdId_patResult _ _ _ _)
  · exact (stBit_of_kept kept (f := F.PAT_STAT_REFUSED) 0 (by decide)).trans (stBit_setBit _ _ 0 (by decide))
  · exact (((KeptBut.refl _ s).patResult (by decide)).setBit (f := F.PAT_STAT_REFUSED) (by decide)).trans (kept.mono (by decide))

theorem LogsOnly.frame_pat {q : PatState} (h : LogsOnly { s with pat := q } t) (kept : KeptBut offs s t) :
    Frame offs s t { s with regs := t.regs, err := t.err, jnl := t.jnl, pat := t.pat } := by
  refine ⟨?_, kept, ?_⟩
  · obtain ⟨r, e, j, rfl⟩ := h
    rfl
  · refine sameMem_of_mem ?_
    obtain ⟨r, e, j, rfl⟩ := h
    rfl

theorem logsOnly_patRefuse (cmd : Nat) (r : Reason) (amd : Nat) (s : State) : LogsOnly s (patRefuse cmd r amd s) :=
  (RegsOnly.refl s).patResult.logsOnly.trans (logsOnly_raise _ _ _)

theorem execAmendStageCheck_spec (ha : s.pat.amend = some a) (hdue : due s (a.block - 1) = true)
    (hun : (a.staged && a.decided) = false) (hnone : s.flk.undecided = []) :
    ∃ t, exec .amendStageCheck s = .next t ∧ t.pat.amend = none ∧ getF t F.PAT_STATE_AMD_PEND = 0 ∧
      getF t F.PAT_RESULT_CMD = 7 ∧ getF t F.PAT_RESULT_REASON = reasonCode .lateStage ∧
      getF t F.PAT_RESULT_AMD_ID = a.amdId % 2 ^ 16 ∧ stBit t F.PAT_STAT_REFUSED = 1 ∧
      Frame ([R.PAT_STATE, R.PAT_RESULT, R.PAT_STAT] ++ errRegs) s t
        { s with regs := t.regs, err := t.err, jnl := t.jnl, pat := t.pat } := by
  have hexec := execAmendStageCheck_of_unready ha hdue hun hnone
  obtain ⟨hcmd, hreason, hamd, hbit, kept⟩ := patRefuse_shows (cmd := 7) (by decide) .lateStage (a.amdId % 2 ^ 16) (amendDrop s)
  have hdrop : RegsOnly { s with pat := dropPat s.pat } (amendDrop s) := by
    rw [amendDrop_eq]
    exact (RegsOnly.refl _).setF.showBusy
  have keptDrop : KeptBut ([R.PAT_STATE, R.PAT_RESULT, R.PAT_STAT] ++ errRegs) s (amendDrop s) := by
    rw [amendDrop_eq]
    exact (((KeptBut.refl _ s).withPat _).setF (by decide)).showBusy (by decide)
  have hlogs := hdrop.logsOnly.trans (logsOnly_patRefuse 7 .lateStage (a.amdId % 2 ^ 16) (amendDrop s))
  refine ⟨_, hexec, ?_, ?_, hcmd, hreason, by rw [hamd, Nat.mod_mod], hbit, hlogs.frame_pat (keptDrop.trans (kept.mono (by decide)))⟩
  · rw [hlogs.pat]
    rfl
  · rw [kept.getF (by decide), amendDrop_eq, getF_showBusy _ (by decide)]
    exact getF_setF_of_lt _ _ (by decide) (by decide)

/-! ### Every set becomes live -/

/-- t is s with its layouts laid out anew. -/
def Relaid (s t : State) : Prop := ∃ q g, t = { s with pat := q, geo := g } ∧ q.amend = s.pat.amend

theorem relaid_amendLayouts (k : Nat) (ls : List (Nat × Layout)) (s : State) : Relaid s (amendLayouts k ls s) := by
  refine forEach_induct (Relaid s) ls ⟨s.pat, s.geo, rfl, rfl⟩ ?_
  rintro l - u ⟨q, g, rfl, hq⟩
  exact ⟨_, _, rfl, hq⟩

/-- The registers that show the routes. -/
def routeRegs : List Nat := [R.RTE_STAT, R.RTE_APPLY_LO, R.RTE_APPLY_HI, R.RTE_LIVE_COUNT, R.RTE_STATE] ++ errRegs

/-- t is s with other routes. -/
structure Rerouted (s t : State) : Prop where
  parts : ∃ r e j x, t = { s with regs := r, err := e, jnl := j, rte := x }
  kept : KeptBut routeRegs s t

theorem Rerouted.refl (s : State) : Rerouted s s := ⟨⟨s.regs, s.err, s.jnl, s.rte, rfl⟩, .refl _ s⟩

theorem Rerouted.withRte (h : Rerouted s t) (x : RouteState) : Rerouted s { t with rte := x } := by
  refine ⟨?_, h.kept.of_regs rfl⟩
  obtain ⟨r, e, j, y, rfl⟩ := h.parts
  exact ⟨r, e, j, x, rfl⟩

theorem Rerouted.logs (h : Rerouted s t) (hu : LogsOnly t u) (kept : KeptBut routeRegs s u) : Rerouted s u := by
  refine ⟨?_, kept⟩
  obtain ⟨r, e, j, x, rfl⟩ := h.parts
  obtain ⟨r', e', j', rfl⟩ := hu
  exact ⟨r', e', j', x, rfl⟩

theorem Rerouted.setF {f : Fld} {v : Nat} (h : Rerouted s t) (hf : f.off ∈ routeRegs) : Rerouted s (setF t f v) :=
  h.logs (logsOnly_setF t f v) (h.kept.setF hf)

/-- The ASRC bank's assignment, and the error where it has no channel for a source. -/
theorem asrcAssign_eq (s : State) : ∃ x : RouteState, x.epochs = s.rte.epochs ∧
    (asrcAssign s = raise .rteAsrcFull 0 { s with rte := x } ∨ asrcAssign s = { s with rte := x }) := by
  unfold asrcAssign
  dsimp only
  refine ⟨_, ?_, ite_eq_or_eq _ _ _⟩
  rfl

theorem Rerouted.asrcAssign (h : Rerouted s t) : Rerouted s (asrcAssign t) := by
  obtain ⟨x, -, hx | hx⟩ := asrcAssign_eq t
  · rw [hx]
    exact (h.withRte x).logs (logsOnly_raise _ _ _) ((h.withRte x).kept.raise (by decide) (by decide) (by decide))
  · rw [hx]
    exact h.withRte x

theorem epochs_asrcAssign (s : State) : (asrcAssign s).rte.epochs = s.rte.epochs := by
  obtain ⟨x, hx, h | h⟩ := asrcAssign_eq s
  · obtain ⟨r, e, j, hraise⟩ := logsOnly_raise .rteAsrcFull 0 { s with rte := x }
    rw [h, hraise, hx]
  · rw [h, hx]

/-- A table of n routes is shown as live from block k, and its sources take the ASRC bank. -/
def routesShown (k n : Nat) (moving : Bool) (s : State) : State :=
  rteShow (asrcAssign (setF (wr64 (if moving then setBit s F.RTE_STAT_FROZEN else s) R.RTE_APPLY_LO R.RTE_APPLY_HI (16 * k))
    F.RTE_LIVE_COUNT_COUNT n))

/-- A table goes live at the head of the epochs. -/
theorem rteGoLive_eq (k : Nat) (table : List RouteEnt) (s : State) : ∃ (x : RouteState) (e : RouteEpoch) (moving : Bool),
    x.epochs = (e :: s.rte.epochs).take 8 ∧ e.table = table ∧ e.first = k ∧
    rteGoLive k table s = routesShown k table.length moving { s with rte := x } := by
  unfold rteGoLive
  exact ⟨_, _, _, rfl, rfl, rfl, rfl⟩

theorem Rerouted.wr {o : Nat} {v : Word} (h : Rerouted s t) (ho : o ∈ routeRegs) : Rerouted s (wr t o v) :=
  h.logs (logsOnly_wr t o v) (h.kept.wr ho)

theorem Rerouted.routesShown (h : Rerouted s t) (k n : Nat) (moving : Bool) : Rerouted s (routesShown k n moving t) := by
  have hfrozen : Rerouted s (if moving then setBit t F.RTE_STAT_FROZEN else t) := by
    split
    · exact h.setF (by decide)
    · exact h
  exact ((((hfrozen.wr (by decide)).wr (by decide)).setF (by decide)).asrcAssign.setF (by decide)).setF (by decide)

theorem rerouted_rteGoLive (k : Nat) (table : List RouteEnt) (s : State) : Rerouted s (rteGoLive k table s) := by
  obtain ⟨x, e, moving, -, -, -, h⟩ := rteGoLive_eq k table s
  rw [h]
  exact ((Rerouted.refl s).withRte x).routesShown k table.length moving

theorem RegsOnly.rte (h : RegsOnly s t) : t.rte = s.rte := by
  obtain ⟨r, rfl⟩ := h
  rfl

theorem RegsOnly.wr64 {lo hi v : Nat} (h : RegsOnly s t) : RegsOnly s (wr64 t lo hi v) := h.wr.wr

theorem epochs_routesShown (k n : Nat) (moving : Bool) (s : State) : (routesShown k n moving s).rte.epochs = s.rte.epochs := by
  have hfrozen : RegsOnly s (if moving then setBit s F.RTE_STAT_FROZEN else s) := .ite (RegsOnly.refl s).setBit (.refl s)
  unfold routesShown rteShow
  rw [((RegsOnly.refl (asrcAssign _)).setF.setF).rte, epochs_asrcAssign, hfrozen.wr64.setF.rte]

theorem epochNow_rteGoLive (k : Nat) (table : List RouteEnt) (s : State) :
    (epochNow (rteGoLive k table s)).table = table ∧ (epochNow (rteGoLive k table s)).first = k := by
  obtain ⟨x, e, moving, hx, htable, hfirst, h⟩ := rteGoLive_eq k table s
  have hnow : epochNow (rteGoLive k table s) = e := by
    unfold epochNow
    rw [h, epochs_routesShown, hx]
    rfl
  rw [hnow]
  exact ⟨htable, hfirst⟩

theorem coefOf_coefMod (i j : Nat) (f : CoefSet → CoefSet) (s : State) :
    coefOf (coefMod i f s) j = if j = i then f (coefOf s i) else coefOf s j := aGet_aSet _ _ _ _ _

/-- The coefficient sets of the records begin to cross over. -/
def coefsCross (x : Nat × Nat) (l : List CoefRec) (s : State) : State :=
  forEach l (fun r => coefMod r.out (fun c => { c with xf := some x })) s

/-- The coefficient sets of the records cross over, and no other. -/
theorem coefOf_coefsCross (x : Nat × Nat) (l : List CoefRec) : ∀ s,
    (∀ r, r ∈ l → (coefOf (coefsCross x l s) r.out).xf = some x) ∧
    (∀ j, (∀ r, r ∈ l → r.out ≠ j) → coefOf (coefsCross x l s) j = coefOf s j) := by
  induction l with
  | nil => exact fun s => ⟨fun r hr => absurd hr List.not_mem_nil, fun _ _ => rfl⟩
  | cons r l ih =>
    intro s
    obtain ⟨hin, hout⟩ := ih (coefMod r.out (fun c => { c with xf := some x }) s)
    refine ⟨fun q hq => ?_, fun j hj => ?_⟩
    · by_cases hlater : ∃ q' ∈ l, q'.out = q.out
      · obtain ⟨q', hq', hsame⟩ := hlater
        exact hsame ▸ hin q' hq'
      · have hhead : q = r := (List.mem_cons.mp hq).resolve_right (fun h => hlater ⟨q, h, rfl⟩)
        refine (congrArg CoefSet.xf (hout q.out (fun q' hq' he => hlater ⟨q', hq', he⟩))).trans ?_
        rw [coefOf_coefMod, if_pos (by rw [hhead])]
    · refine (hout j (fun q hq => hj q (List.mem_cons_of_mem _ hq))).trans ?_
      rw [coefOf_coefMod, if_neg (fun h => hj r (List.mem_cons_self ..) h.symm)]

/-- t is s with other gains and equalisers. -/
def GainsOnly (s t : State) : Prop := ∃ f : FilterState, t = { s with flt := f } ∧ f.coef = s.flt.coef

theorem GainsOnly.refl (s : State) : GainsOnly s s := ⟨s.flt, rfl, rfl⟩

theorem GainsOnly.gainMove {kind id k xf : Nat} {target : Int} (h : GainsOnly s t) : GainsOnly s (gainMove kind id target k xf t) := by
  obtain ⟨f, rfl, hf⟩ := h
  exact ⟨_, rfl, hf⟩

theorem GainsOnly.peqMove {kind id k xf : Nat} {bands : List Biquad} (h : GainsOnly s t) : GainsOnly s (peqMove kind id bands k xf t) := by
  obtain ⟨f, rfl, hf⟩ := h
  exact ⟨_, rfl, hf⟩

/-- The layouts and routes of an amendment are live. -/
def amendRouted (a : AmendPend) (s : State) : State :=
  match a.body.routes with
  | some t => rteGoLive a.block t (amendLayouts a.block a.body.layouts s)
  | none => amendLayouts a.block a.body.layouts s

/-- The gains and equalisers of an amendment move. -/
def amendGained (a : AmendPend) (s : State) : State :=
  forEach (peqNames a.body.peq) (fun n s => peqMove n.1 n.2 (bandsOf a.body.peq n.1 n.2) a.block a.xf s)
    (forEach a.body.gains (fun g s => gainMove g.kind g.id g.gain a.block a.xf s) s)

theorem amendLive_eq (a : AmendPend) (s : State) :
    amendLive a s = coefsCross (a.block, a.xf) (a.body.coefs.getD []) (amendGained a (amendRouted a s)) := by
  unfold amendLive amendGained amendRouted
  rfl

theorem gainsOnly_amendGained (a : AmendPend) (s : State) : GainsOnly s (amendGained a s) :=
  forEach_induct (GainsOnly s) _ (forEach_induct (GainsOnly s) _ (.refl s) (fun _ _ _ h => h.gainMove)) (fun _ _ _ h => h.peqMove)

/-- t is s with other layouts, routes and filters. -/
structure Amended (s t : State) : Prop where
  mem : t.mem = s.mem
  amend : t.pat.amend = s.pat.amend
  kept : KeptBut routeRegs s t

theorem amended_amendRouted (a : AmendPend) (s : State) : Amended s (amendRouted a s) ∧ (amendRouted a s).flt = s.flt := by
  have hlaid := relaid_amendLayouts a.block a.body.layouts s
  unfold amendRouted
  split
  next tbl _ =>
    have hrouted := rerouted_rteGoLive a.block tbl (amendLayouts a.block a.body.layouts s)
    obtain ⟨q, g, hq, hamend⟩ := hlaid
    rw [hq] at hrouted ⊢
    have kept := hrouted.kept
    obtain ⟨r, e, j, x, hx⟩ := hrouted.parts
    rw [hx] at kept ⊢
    exact ⟨⟨rfl, hamend, kept⟩, rfl⟩
  next =>
    obtain ⟨q, g, hq, hamend⟩ := hlaid
    rw [hq]
    exact ⟨⟨rfl, hamend, .of_regs (.refl _ s) rfl⟩, rfl⟩

theorem epochNow_amendRouted {tbl : List RouteEnt} (h : a.body.routes = some tbl) (s : State) :
    (epochNow (amendRouted a s)).table = tbl ∧ (epochNow (amendRouted a s)).first = a.block := by
  unfold amendRouted
  rw [h]
  exact epochNow_rteGoLive _ _ _

theorem filtersOnly_amendLive (a : AmendPend) (s : State) : FiltersOnly (amendRouted a s) (amendLive a s) := by
  rw [amendLive_eq]
  obtain ⟨f, hf, -⟩ := gainsOnly_amendGained a (amendRouted a s)
  exact forEach_induct (FiltersOnly (amendRouted a s)) _ ⟨f, hf⟩ (fun _ _ _ h => h.step)

theorem amended_amendLive (a : AmendPend) (s : State) : Amended s (amendLive a s) := by
  obtain ⟨⟨hmem, hamend, kept⟩, -⟩ := amended_amendRouted a s
  obtain ⟨f, hf⟩ := filtersOnly_amendLive a s
  rw [hf]
  exact ⟨hmem, hamend, kept.of_regs rfl⟩

theorem epochNow_amendLive {tbl : List RouteEnt} (h : a.body.routes = some tbl) (s : State) :
    (epochNow (amendLive a s)).table = tbl ∧ (epochNow (amendLive a s)).first = a.block := by
  have hlive : epochNow (amendLive a s) = epochNow (amendRouted a s) := by
    obtain ⟨f, hf⟩ := filtersOnly_amendLive a s
    rw [hf]
    rfl
  rw [hlive]
  exact epochNow_amendRouted h s

theorem coefOf_amendGained (a : AmendPend) (s : State) (j : Nat) : coefOf (amendGained a (amendRouted a s)) j = coefOf s j := by
  obtain ⟨f, hf, hcoef⟩ := gainsOnly_amendGained a (amendRouted a s)
  obtain ⟨-, hflt⟩ := amended_amendRouted a s
  unfold coefOf
  rw [hf, hcoef, hflt]

theorem coefOf_amendLive (a : AmendPend) (s : State) :
    (∀ r, r ∈ a.body.coefs.getD [] → (coefOf (amendLive a s) r.out).xf = some (a.block, a.xf)) ∧
    (∀ j, (∀ r, r ∈ a.body.coefs.getD [] → r.out ≠ j) → coefOf (amendLive a s) j = coefOf s j) := by
  obtain ⟨hin, hout⟩ := coefOf_coefsCross (a.block, a.xf) (a.body.coefs.getD []) (amendGained a (amendRouted a s))
  rw [amendLive_eq]
  exact ⟨hin, fun j hj => (hout j hj).trans (coefOf_amendGained a s j)⟩

/-- The amendment leaves the loader at its block. -/
def amendTaken (s : State) : State := setF { s with pat := { s.pat with amend := none } } F.PAT_STATE_AMD_PEND 0

theorem execAmendApply_of_due (ha : s.pat.amend = some a) (hdue : due s a.block = true) (hpend : getF s F.PAT_STATE_AMD_PEND = 1) :
    execAmendApply s = .next (setBit (amendLive a (amendTaken s)) F.PAT_STAT_AMD_APPLIED) := by
  unfold execAmendApply
  rw [ha]
  exact congrArg Host.Outcome.next (if_pos (by simp [hdue, hpend]))

theorem execAmendApply_spec (ha : s.pat.amend = some a) (hdue : due s a.block = true) (hpend : getF s F.PAT_STATE_AMD_PEND = 1) :
    ∃ t, exec .amendApply s = .next t ∧ t.pat.amend = none ∧ getF t F.PAT_STATE_AMD_PEND = 0 ∧
      stBit t F.PAT_STAT_AMD_APPLIED = 1 ∧ SameMem s t ∧
      (∀ tbl, a.body.routes = some tbl → (epochNow t).table = tbl ∧ (epochNow t).first = a.block) ∧
      (∀ r, r ∈ a.body.coefs.getD [] → (coefOf t r.out).xf = some (a.block, a.xf)) ∧
      (∀ j, (∀ r, r ∈ a.body.coefs.getD [] → r.out ≠ j) → coefOf t j = coefOf s j) := by
  obtain ⟨hmem, hamend, kept⟩ := amended_amendLive a (amendTaken s)
  obtain ⟨hin, hout⟩ := coefOf_amendLive a (amendTaken s)
  refine ⟨_, execAmendApply_of_due ha hdue hpend, hamend, ?_, stBit_setBit _ _ 0 (by decide), sameMem_of_mem hmem, ?_, hin, hout⟩
  · refine (getF_setF_of_ne _ _ _ _ (by decide)).trans ((kept.getF (by decide)).trans ?_)
    exact getF_setF_of_lt _ _ (by decide) (by decide)
  · exact fun tbl htbl => epochNow_amendLive htbl (amendTaken s)

end Sys2Proof.Machine

namespace Sys2Proof

open Machine

/-- Settles O52: a container without coefficients is staged within its command; the sets of an amendment reach the
filters and routes by operations that leave one another's results. -/
theorem amendmentsStageAndApply : Obligations.AmendmentsStageAndApply := by
  unfold Obligations.AmendmentsStageAndApply
  refine ⟨?_, ?_, ?_, ?_, ?_⟩
  · intro via s u bs p ⟨hpair, hfree, hbusy, hout, hrun⟩ ⟨hlate, hin⟩ ⟨hbs, hu⟩ hcheck ⟨hcoefs, hclash, hpend, hfatal⟩
    obtain ⟨t, hexec, hpat, ⟨hshown, hcmd, hreason, hamd⟩, hframe⟩ :=
      execPatAmend_spec via hpair hfree hbusy hout hrun hlate hin hbs hu hcheck hcoefs hclash hpend hfatal
    exact ⟨t, hexec, hpat, hshown, hcmd, hreason, hamd, hframe⟩
  · exact fun s j ⟨hconv, hend, hfree⟩ => execCoefConversionDone_none_spec hconv hend hfree
  · intro s j a ⟨hconv, hend, ha, hdecided, hin⟩ ⟨hpend, hfatal⟩
    obtain ⟨t, hexec, hpat, ⟨hshown, hcmd, hreason, hamd⟩, hmem⟩ :=
      execCoefConversionDone_some_spec hconv hend ha hdecided hin hpend hfatal
    exact ⟨t, hexec, hshown, hpat, hcmd, hreason, hamd, hmem⟩
  · exact fun s a ⟨ha, hdue, hun, hnone⟩ => execAmendStageCheck_spec ha hdue hun hnone
  · exact fun s a ⟨ha, hdue, hpend⟩ => execAmendApply_spec ha hdue hpend

end Sys2Proof
end

section
/-! SUPPORT. What the work of a pour on the rest of the device leaves alone (R80 to R83): the loader's state, the filters, the
route epochs, and what a standby holds to replay. -/

namespace Sys2Proof.Machine

variable {s₀ s t u : State}

/-- What the parts of a pour leave to one another. -/
def pourView (s : State) : PatState × FilterState × List RouteEpoch × List Replayed × List ProvItem :=
  (s.pat, s.flt, s.rte.epochs, s.flk.replay, s.flk.held)

/-- t agrees with s in the loader's state, the filters, the route epochs, and what is held to replay. -/
def PourKept (s t : State) : Prop := pourView t = pourView s

theorem PourKept.refl (s : State) : PourKept s s := Eq.refl _

theorem PourKept.pat (h : PourKept s t) : t.pat = s.pat := congrArg Prod.fst h

theorem PourKept.flt (h : PourKept s t) : t.flt = s.flt := congrArg (fun v => v.2.1) h

theorem PourKept.epochs (h : PourKept s t) : t.rte.epochs = s.rte.epochs := congrArg (fun v => v.2.2.1) h

theorem PourKept.replay (h : PourKept s t) : t.flk.replay = s.flk.replay := congrArg (fun v => v.2.2.2.1) h

theorem PourKept.held (h : PourKept s t) : t.flk.held = s.flk.held := congrArg (fun v => v.2.2.2.2) h

/-- Every other part of the state may change. -/
theorem PourKept.upd {regs live mem msi time err jnl seq bst asc geo rnd str apd pdm cap dac pwr fab net intake clm hier}
    {rdata freeCtr pending} (h : PourKept s₀ s) :
    PourKept s₀ { s with regs := regs, live := live, mem := mem, msi := msi, time := time, err := err, jnl := jnl, seq := seq,
                         bst := bst, asc := asc, geo := geo, rnd := rnd, str := str, apd := apd, pdm := pdm, cap := cap,
                         dac := dac, pwr := pwr, fab := fab, net := net, intake := intake, clm := clm, hier := hier,
                         rdata := rdata, freeCtr := freeCtr, pending := pending } := h

theorem PourKept.updRte {x : RouteState} (h : PourKept s₀ s) (hx : x.epochs = s.rte.epochs) : PourKept s₀ { s with rte := x } :=
  (congrArg (fun e => (s.pat, s.flt, e, s.flk.replay, s.flk.held)) hx).trans h

theorem PourKept.updFlk {x : FlkState} (h : PourKept s₀ s) (hr : x.replay = s.flk.replay) (hh : x.held = s.flk.held) :
    PourKept s₀ { s with flk := x } :=
  ((congrArg (fun r => (s.pat, s.flt, s.rte.epochs, r, x.held)) hr).trans
    (congrArg (fun l => (s.pat, s.flt, s.rte.epochs, s.flk.replay, l)) hh)).trans h

theorem PourKept.logs (h : PourKept s₀ s) (hu : LogsOnly s t) : PourKept s₀ t := by
  obtain ⟨r, e, j, rfl⟩ := hu
  exact h.upd

theorem PourKept.wr {o : Nat} {v : Word} (h : PourKept s₀ s) : PourKept s₀ (wr s o v) := h.upd

theorem PourKept.wrN {o v : Nat} (h : PourKept s₀ s) : PourKept s₀ (wrN s o v) := h.upd

theorem PourKept.wr64 {lo hi v : Nat} (h : PourKept s₀ s) : PourKept s₀ (wr64 s lo hi v) := h.upd.upd

theorem PourKept.setF {f : Fld} {v : Nat} (h : PourKept s₀ s) : PourKept s₀ (setF s f v) := h.upd

theorem PourKept.setBit {f : Fld} {i : Nat} (h : PourKept s₀ s) : PourKept s₀ (setBit s f i) := h.upd

theorem PourKept.cntAdd {o n : Nat} (h : PourKept s₀ s) : PourKept s₀ (cntAdd s o n) := h.upd

theorem PourKept.cnt {o : Nat} (h : PourKept s₀ s) : PourKept s₀ (cnt s o) := h.upd

theorem PourKept.raise {e : Err} {src : Nat} (h : PourKept s₀ s) : PourKept s₀ (raise e src s) := h.logs (logsOnly_raise e src s)

theorem PourKept.wrBytes {a : Nat} {bs : List Byte} (h : PourKept s₀ s) : PourKept s₀ (wrBytes s a bs) := by
  obtain ⟨m, hm⟩ := wrBytes_eq_with bs s a
  rw [hm]
  exact h.upd

theorem PourKept.ite {c : Prop} [Decidable c] (h : PourKept s₀ s) (h' : PourKept s₀ t) : PourKept s₀ (if c then s else t) := by
  split
  · exact h
  · exact h'

theorem PourKept.forEach {α : Type} {l : List α} {f : α → State → State} (h : PourKept s₀ s)
    (hf : ∀ a u, PourKept s₀ u → PourKept s₀ (f a u)) : PourKept s₀ (forEach l f s) :=
  List.foldlRecOn (motive := PourKept s₀) l _ h (fun u hu a _ => hf a u hu)

theorem PourKept.forNat {n : Nat} {f : Nat → State → State} (h : PourKept s₀ s)
    (hf : ∀ i u, PourKept s₀ u → PourKept s₀ (f i u)) : PourKept s₀ (forNat n f s) :=
  List.foldlRecOn (motive := PourKept s₀) _ _ h (fun u hu i _ => hf i u hu)

/-! ### Objects that the Pattern no longer carries -/

theorem PourKept.hqAdvance {n : Nat} (h : PourKept s₀ s) : PourKept s₀ (hqAdvance n s) := by
  induction n generalizing s with
  | zero => exact h
  | succ n ih => exact .ite (ih h.setF.upd) h

theorem PourKept.hqResult {i : Nat} {v : Verdict3} (h : PourKept s₀ s) : PourKept s₀ (hqResult i v s) :=
  h.wrBytes.setBit.upd.hqAdvance

theorem PourKept.giveVerdict {v : Verdict3} {r : AckRef} (h : PourKept s₀ s) : PourKept s₀ (giveVerdict v r s) := by
  unfold Machine.giveVerdict
  split
  · exact h.upd
  · exact h.hqResult

theorem PourKept.flkSend {x : FlkPayload} (h : PourKept s₀ s) : PourKept s₀ (flkSend x s) := .ite h (h.updFlk rfl rfl)

theorem PourKept.flkDiscard {id : Nat} (h : PourKept s₀ s) : PourKept s₀ (flkDiscard id s) := by
  refine PourKept.flkSend ?_
  exact h.updFlk rfl rfl

theorem PourKept.dropItem {id : Nat} (h : PourKept s₀ s) : PourKept s₀ (dropItem id s) := h.updFlk rfl rfl

theorem PourKept.objMod {o : Nat} {f : ObjSt → ObjSt} (h : PourKept s₀ s) : PourKept s₀ (objMod o f s) := h.upd

theorem PourKept.dropRefused {obj seq : Nat} (h : PourKept s₀ s) : PourKept s₀ (dropRefused obj seq s) := h.objMod

theorem PourKept.refuseRec {obj seq reason : Nat} (h : PourKept s₀ s) : PourKept s₀ (refuseRec obj seq reason s) := by
  unfold Machine.refuseRec
  split
  · exact h
  · exact .forEach (.ite h.dropRefused.cnt.setF.setF.setF.raise h.dropRefused) (fun _ _ hu => hu.giveVerdict)

theorem PourKept.portMod {p : Nat} {f : NetPort → NetPort} (h : PourKept s₀ s) : PourKept s₀ (portMod p f s) := h.upd

theorem PourKept.queueLadle {p tc : Nat} {b : List Byte} (h : PourKept s₀ s) : PourKept s₀ (queueLadle p tc b s) :=
  .ite h.portMod h.cnt

theorem PourKept.ladleSend {group ty count : Nat} {entries : List Byte} (h : PourKept s₀ s) :
    PourKept s₀ (ladleSend group ty count entries s) := .ite (PourKept.queueLadle h.upd) h.upd

theorem PourKept.ladleSendAll {group ty size most : Nat} {entries : List (List Byte)} (h : PourKept s₀ s) :
    PourKept s₀ (ladleSendAll group ty size most entries s) := .forEach h (fun _ _ hu => hu.ladleSend)

theorem PourKept.ladleOut {ty : Nat} {entries : List (List Byte)} (h : PourKept s₀ s) : PourKept s₀ (ladleOut ty entries s) := by
  unfold Machine.ladleOut
  split
  · exact h.ladleSendAll
  · exact h.ladleSendAll
  · exact h.ladleSendAll

theorem PourKept.ladleDecide {litem verdict reason : Nat} (h : PourKept s₀ s) : PourKept s₀ (ladleDecide litem verdict reason s) := by
  unfold Machine.ladleDecide ladlePut
  dsimp only
  split
  · exact PourKept.ladleOut h.upd
  · exact h.upd

theorem PourKept.refuseEverywhere {obj seq reason : Nat} {tell : Bool} (h : PourKept s₀ s) :
    PourKept s₀ (refuseEverywhere obj seq reason tell s) := by
  unfold Machine.refuseEverywhere
  split
  · exact h
  · extract_lets s₁
    have h₁ : PourKept s₀ s₁ := by
      unfold s₁
      split
      · exact .ite h.dropItem.flkDiscard h.dropItem
      · exact h
    exact (PourKept.ite h₁ h₁.cnt.ladleDecide.raise).refuseRec

theorem PourKept.objectsPour {new : Pattern} (h : PourKept s₀ s) : PourKept s₀ (objectsPour new s) := by
  unfold Machine.objectsPour
  extract_lets _ s₁
  have h₁ : PourKept s₀ s₁ := .forEach h (fun _ _ hu => .forEach hu (fun _ _ hv => .ite hv.dropRefused hv.refuseEverywhere))
  exact (PourKept.ite h₁ h₁.cntAdd).upd

/-! ### Tiles, geometry, render state, ports -/

theorem PourKept.banksFlip (h : PourKept s₀ s) : PourKept s₀ (banksFlip s) := by
  unfold Machine.banksFlip
  extract_lets
  refine .forNat h (fun _ _ hu => ?_)
  split
  · exact hu.setF
  · exact hu

theorem PourKept.showLive {q : Nat} {new : Pattern} (h : PourKept s₀ s) : PourKept s₀ (showLive q new s) :=
  h.wr64.wrN.wr64.setF.setF.setF.setF.setF.setF.setBit

theorem PourKept.showTables {p : Pattern} (h : PourKept s₀ s) : PourKept s₀ (showTables p s) := by
  unfold Machine.showTables
  extract_lets _ _ s₁
  have h₁ : PourKept s₀ s₁ := by
    refine .forNat h (fun _ _ hu => ?_)
    split
    · exact hu.setF
    · exact hu
  exact h₁.setF.setF

theorem PourKept.gclApply {p : Nat} (h : PourKept s₀ s) : PourKept s₀ (gclApply p s) :=
  (PourKept.forNat h (fun _ _ hu => hu.wr)).setF.setF.setF.portMod.setBit

theorem PourKept.gclPour {new : Pattern} (h : PourKept s₀ s) : PourKept s₀ (gclPour new s) :=
  .forNat h (fun _ _ hu => .ite hu.gclApply hu)

theorem PourKept.geoPour {q : Nat} {new : Pattern} (h : PourKept s₀ s) : PourKept s₀ (geoPour q new s) :=
  (PourKept.setF (PourKept.wrN h.upd)).upd

theorem PourKept.renderPour {q : Nat} {new : Pattern} (h : PourKept s₀ s) : PourKept s₀ (renderPour q new s) := h.upd

theorem PourKept.ascPour {q : Nat} (h : PourKept s₀ s) : PourKept s₀ (ascPour q s) := (PourKept.cnt h.upd).raise

theorem PourKept.decimResetAll {k : Nat} (h : PourKept s₀ s) : PourKept s₀ (decimResetAll k s) := by
  unfold Machine.decimResetAll decimReset
  extract_lets _ s₁ _ s₂
  have h₁ : PourKept s₀ s₁ := PourKept.setBit (PourKept.wr64 h.upd)
  have h₂ : PourKept s₀ s₂ := .ite h₁.upd h₁
  exact .ite h₂.setBit h₂

theorem PourKept.apdPour (h : PourKept s₀ s) : PourKept s₀ (apdPour s) :=
  .forNat h (fun _ _ hu => .ite hu.setF.raise.upd hu)

theorem PourKept.hoTakeBack {x : HoUndo} (h : PourKept s₀ s) : PourKept s₀ (hoTakeBack x s) :=
  (PourKept.forEach h (fun _ _ hu => hu.wr)).upd

theorem PourKept.hoPour {q : Nat} (h : PourKept s₀ s) : PourKept s₀ (hoPour q s) := by
  unfold Machine.hoPour
  extract_lets s₁
  have h₁ : PourKept s₀ s₁ := by
    unfold s₁
    split
    · exact .ite h.hoTakeBack h
    · exact h
  split
  · exact .ite (PourKept.setF (PourKept.setF h₁.upd)) h₁
  · exact h₁

theorem PourKept.hierPour {oldId : Option Nat} {new : Pattern} (h : PourKept s₀ s) : PourKept s₀ (hierPour oldId new s) :=
  .ite h.setF (.ite (.ite h.upd (PourKept.setF h.upd)) h)

/-! ### Shedding -/

theorem PourKept.slotMod {i : Nat} {f : SlotRender → SlotRender} (h : PourKept s₀ s) : PourKept s₀ (slotMod i f s) := h.upd

theorem PourKept.shedObj {o : Nat} (h : PourKept s₀ s) : PourKept s₀ (shedObj o s) := h.objMod.setF

theorem PourKept.shedPlace {dead : List Nat} {k d : Nat} (h : PourKept s₀ s) : PourKept s₀ (shedPlace dead k d s) := by
  unfold Machine.shedPlace
  split
  · exact h.shedObj
  · exact h.slotMod.shedObj

theorem PourKept.shedSeats {qs : List Nat} (h : PourKept s₀ s) : PourKept s₀ (shedSeats qs s) := by
  unfold Machine.shedSeats
  refine PourKept.raise (PourKept.setF (PourKept.upd ?_))
  exact .forEach (.forEach (.forEach h (fun _ _ hu => hu.slotMod)) (fun _ _ hu => hu.shedPlace)) (fun _ _ hu => hu.wrN)

theorem PourKept.shedAction {qs : List Nat} (h : PourKept s₀ s) : PourKept s₀ (shedAction qs s) := .ite h.upd h.shedSeats

/-! ### The pair -/

theorem PourKept.syncEnter {v : Nat} (h : PourKept s₀ s) : PourKept s₀ (syncEnter v s) := by
  refine PourKept.setF ?_
  exact h.updFlk rfl rfl

end Sys2Proof.Machine
end

section
/-! SUPPORT. What a pour makes of the loader's state, the filters and the routes (R80, R81). -/

namespace Sys2Proof.Machine

variable {s₀ s t u : State} {p : PourPend}

/-! ### The pour in its steps -/

/-- The state once what the pour discards is gone and the capture is cut. -/
def pourCleared (p : PourPend) (s : State) : State :=
  let s := discardDue p.cut s
  let s := match s.pat.stop with
    | some k => if p.cut ≤ k.block then superseded 5 0 s else s
    | none => s
  capPour p.cut (routeGains s 3 (p.cut - 1)) s

/-- The block of the pour in the count that then runs, and the state with that count. -/
def pourCounted (new : Pattern) (p : PourPend) (s : State) : Nat × State :=
  if pourRate s new || new.mtb != followTb s then reseat new s else (p.cut, s)

/-- The loader's state as the staged Pattern becomes live at block q. -/
def livePatState (q : Nat) (new : Pattern) (was : Bool) (x : PatState) : PatState :=
  { x with stop := none, live := some new, pouredAt := some q, fadeIn := none, layoutBusy := [],
           zeroFrom := if was then q else 0, zeroTo := if was then q + 6 else 0 }

/-- The Pattern is live, its tables are shown, and the staging area is empty. -/
def pourLive (q : Nat) (new : Pattern) (was : Bool) (s : State) : State :=
  stagingEmpty (showTables new (showLive q new (banksFlip (objectsPour new { s with pat := livePatState q new was s.pat }))))

/-- The filters, the geometry, the render state and the routes start. -/
def pourFilled (q : Nat) (new : Pattern) (s : State) : State :=
  rtePour q new (renderPour q new (geoPour q new { gclPour new s with flt := fltOfPattern new }))

/-- The rest of the pour. -/
def pourSettled (q : Nat) (new : Pattern) (oldId : Option Nat) (s : State) : State :=
  let s := ascPour q s
  let s := decimResetAll q { s with pdm := { s.pdm with resets := [], mics := [] } }
  let s := hierPour oldId new (hoPour q (apdPour s))
  let lostSeats := (List.range 15).filter (fun f => getF s (F.SEQ_FSEAT_VALID f) = 0)
  if fbSeats s && !lostSeats.isEmpty then shedAction lostSeats s else s

/-- The REGSET records that the arming left unwritten are written. -/
def pourRecorded (old new : Pattern) (done : Bool) (s : State) : State :=
  if done then s else regsetApply old.regset new.regset s

theorem pourNow_of_pending (h : s.pat.pour = some p) :
    pourNow s = pourSettled (pourCounted (stagedPat s) p (pourCleared p s)).1 (stagedPat s) (s.pat.live.map (fun x => x.patId))
      (pourFilled (pourCounted (stagedPat s) p (pourCleared p s)).1 (stagedPat s)
        (pourRecorded (s.pat.live.getD Pattern.empty) (stagedPat s) s.pat.regsetDone
          (pourLive (pourCounted (stagedPat s) p (pourCleared p s)).1 (stagedPat s) (running s)
            (pourCounted (stagedPat s) p (pourCleared p s)).2))) := by
  unfold pourNow
  split
  next hn => exact absurd (hn.symm.trans h) (by simp)
  next p' hp =>
    obtain rfl : p' = p := Option.some.inj (hp.symm.trans h)
    rfl

/-! ### What each step makes of the view -/

theorem pourView_stagingEmpty (s : State) :
    pourView (stagingEmpty s) = (emptyPat s.pat, s.flt, s.rte.epochs, s.flk.replay, s.flk.held) := by
  have hregs : RegsOnly { s with pat := emptyPat s.pat } (stagingEmpty s) := by
    rw [stagingEmpty_eq]
    exact (RegsOnly.refl _).setStg.showStaged.showBusy
  obtain ⟨r, hr⟩ := hregs
  rw [hr]
  rfl

theorem pourView_pourLive (q : Nat) (new : Pattern) (was : Bool) (s : State) : pourView (pourLive q new was s) =
    (emptyPat (livePatState q new was s.pat), s.flt, s.rte.epochs, s.flk.replay, s.flk.held) := by
  have h : PourKept { s with pat := livePatState q new was s.pat }
      (showTables new (showLive q new (banksFlip (objectsPour new { s with pat := livePatState q new was s.pat })))) :=
    (PourKept.refl _).objectsPour.banksFlip.showLive.showTables
  unfold pourLive
  rw [pourView_stagingEmpty, h.pat, h.flt, h.epochs, h.replay, h.held]

/-- The routes of a Pattern that is poured at block q. -/
def pouredEpoch (q : Nat) (new : Pattern) : RouteEpoch :=
  { first := q, len := 0, law := 0, old := [], table := new.routes.getD [] }

theorem PourKept.shadowFromLive (h : PourKept s₀ s) : PourKept s₀ (shadowFromLive s) := by
  refine PourKept.setF ?_
  exact List.foldlRecOn (motive := PourKept s₀) _ _ h (fun u hu x _ => hu.wrBytes.wrBytes)

theorem PourKept.asrcAssign (h : PourKept s₀ s) : PourKept s₀ (asrcAssign s) := by
  obtain ⟨x, hx, hs | hs⟩ := asrcAssign_eq s
  · rw [hs]
    exact (h.updRte hx).raise
  · rw [hs]
    exact h.updRte hx

theorem PourKept.rteShow (h : PourKept s₀ s) : PourKept s₀ (rteShow s) := h.setF.setF

theorem pourKept_rtePour (q : Nat) (new : Pattern) (s : State) :
    PourKept { s with rte := { s.rte with epochs := [pouredEpoch q new], doneAt := [] } } (rtePour q new s) := by
  unfold rtePour
  refine PourKept.rteShow (PourKept.asrcAssign (PourKept.shadowFromLive (PourKept.upd ?_)))
  exact PourKept.wr64 (PourKept.setF (PourKept.setF (PourKept.refl _)))

theorem pourView_withRte (s : State) (x : RouteState) :
    pourView { s with rte := x } = (s.pat, s.flt, x.epochs, s.flk.replay, s.flk.held) := rfl

theorem pourView_withFlt (s : State) (f : FilterState) :
    pourView { s with flt := f } = (s.pat, f, s.rte.epochs, s.flk.replay, s.flk.held) := rfl

theorem pourView_rtePour (q : Nat) (new : Pattern) (s : State) :
    pourView (rtePour q new s) = (s.pat, s.flt, [pouredEpoch q new], s.flk.replay, s.flk.held) :=
  Eq.trans (pourKept_rtePour q new s) (pourView_withRte s _)

/-- The filters are those of the Pattern, before the geometry, the render state and the routes. -/
theorem pourView_gclPour_withFlt (new : Pattern) (s : State) :
    pourView { gclPour new s with flt := fltOfPattern new } = (s.pat, fltOfPattern new, s.rte.epochs, s.flk.replay, s.flk.held) := by
  have h : PourKept s (gclPour new s) := (PourKept.refl s).gclPour
  rw [pourView_withFlt, h.pat, h.epochs, h.replay, h.held]

theorem pourView_pourFilled (q : Nat) (new : Pattern) (s : State) :
    pourView (pourFilled q new s) = (s.pat, fltOfPattern new, [pouredEpoch q new], s.flk.replay, s.flk.held) := by
  have hview := pourView_gclPour_withFlt new s
  unfold pourFilled
  generalize { gclPour new s with flt := fltOfPattern new } = g at hview ⊢
  have h : pourView (renderPour q new (geoPour q new g)) = (s.pat, fltOfPattern new, s.rte.epochs, s.flk.replay, s.flk.held) :=
    Eq.trans (PourKept.refl g).geoPour.renderPour hview
  generalize renderPour q new (geoPour q new g) = w at h ⊢
  simp only [pourView, Prod.mk.injEq] at h
  obtain ⟨hpat, hflt, -, hreplay, hheld⟩ := h
  rw [pourView_rtePour, hpat, hflt, hreplay, hheld]

theorem pourKept_pourSettled (q : Nat) (new : Pattern) (oldId : Option Nat) (s : State) :
    PourKept s (pourSettled q new oldId s) := by
  have h : PourKept s (hierPour oldId new (hoPour q (apdPour (decimResetAll q
      { ascPour q s with pdm := { (ascPour q s).pdm with resets := [], mics := [] } })))) :=
    (PourKept.decimResetAll (PourKept.upd (PourKept.refl s).ascPour)).apdPour.hoPour.hierPour
  exact .ite h.shedAction h

/-- The view after a pour whose REGSET records had been written, of a Pattern live from block q. -/
theorem pourView_pourNow {q : Nat} {v : State} (h : s.pat.pour = some p) (hd : s.pat.regsetDone = true)
    (hc : pourCounted (stagedPat s) p (pourCleared p s) = (q, v)) :
    pourView (pourNow s) = (emptyPat (livePatState q (stagedPat s) (running s) v.pat), fltOfPattern (stagedPat s),
        [pouredEpoch q (stagedPat s)], v.flk.replay, v.flk.held) := by
  rw [pourNow_of_pending h, hd, hc]
  dsimp only
  have hlive := pourView_pourLive q (stagedPat s) (running s) v
  have hwritten (old new : Pattern) (x : State) : pourRecorded old new true x = x := if_pos rfl
  rw [hwritten]
  generalize pourLive q (stagedPat s) (running s) v = w at hlive ⊢
  simp only [pourView, Prod.mk.injEq] at hlive
  obtain ⟨hpat, -, -, hreplay, hheld⟩ := hlive
  refine Eq.trans (pourKept_pourSettled _ _ _ _) ((pourView_pourFilled _ _ _).trans ?_)
  rw [hpat, hreplay, hheld]

end Sys2Proof.Machine
end

section
/-! SUPPORT. What a pour or a stop discards, and what that leaves (R81, R84). -/

namespace Sys2Proof.Machine

variable {s t u : State} {offs : List Nat} {a : AmendPend} {c : RouteCmt} {p : PourPend} {k : Nat}

/-! ### The amendment -/

/-- An amendment due at or after block k goes. -/
def amendDue (k : Nat) (s : State) : State :=
  match s.pat.amend with
  | some a => if k ≤ a.block then superseded 7 (a.amdId % 2 ^ 16) (amendDrop s) else s
  | none => s

/-- The loader's state without an amendment due at or after block k. -/
def duePat (k : Nat) (x : PatState) : PatState :=
  match x.amend with
  | some a => if k ≤ a.block then dropPat x else x
  | none => x

theorem amend_duePat {x : PatState} (h : x.amend = some a) (hk : k ≤ a.block) : (duePat k x).amend = none := by
  unfold duePat
  rw [h]
  dsimp only
  rw [if_pos hk]
  rfl

theorem duePat_keeps (k : Nat) (x : PatState) :
    (duePat k x).live = x.live ∧ (duePat k x).stop = x.stop ∧ (duePat k x).armedMtb = x.armedMtb := by
  unfold duePat
  split
  · split
    · exact ⟨rfl, rfl, rfl⟩
    · exact ⟨rfl, rfl, rfl⟩
  · exact ⟨rfl, rfl, rfl⟩

theorem LogsOnly.cnt {o : Nat} (h : LogsOnly s t) : LogsOnly s (cnt t o) := h.trans (logsOnly_cnt t o)

theorem LogsOnly.raise {e : Err} {src : Nat} (h : LogsOnly s t) : LogsOnly s (raise e src t) := h.trans (logsOnly_raise e src t)

theorem logsOnly_superseded (cmd amd : Nat) (s : State) : LogsOnly s (superseded cmd amd s) :=
  ((logsOnly_cnt s _).trans (RegsOnly.refl _).patResult.logsOnly).raise

theorem keptBut_superseded (cmd amd : Nat) (s : State) :
    KeptBut ([R.PAT_RESULT, R.PAT_POUR_DISC] ++ errRegs) s (superseded cmd amd s) :=
  (((KeptBut.refl _ s).cntAdd (by decide)).patResult (by decide)).raise (by decide) (by decide) (by decide)

theorem logsOnly_amendDrop (s : State) : LogsOnly { s with pat := dropPat s.pat } (amendDrop s) := by
  rw [amendDrop_eq]
  exact (RegsOnly.refl _).setF.showBusy.logsOnly

theorem logsOnly_amendDue (k : Nat) (s : State) : LogsOnly { s with pat := duePat k s.pat } (amendDue k s) := by
  unfold amendDue duePat
  split
  · split
    · exact (logsOnly_amendDrop s).trans (logsOnly_superseded _ _ _)
    · exact .refl s
  · exact .refl s

theorem keptBut_amendDue (k : Nat) (s : State) :
    KeptBut ([R.PAT_STATE, R.PAT_RESULT, R.PAT_POUR_DISC] ++ errRegs) s (amendDue k s) := by
  unfold amendDue
  split
  · have hdrop : KeptBut ([R.PAT_STATE, R.PAT_RESULT, R.PAT_POUR_DISC] ++ errRegs) s (amendDrop s) := by
      rw [amendDrop_eq]
      exact (((KeptBut.refl _ s).withPat _).setF (by decide)).showBusy (by decide)
    exact .ite (hdrop.trans ((keptBut_superseded _ _ _).mono (by decide))) (.refl _ s)
  · exact .refl _ s

theorem live_amendDue (k : Nat) (s : State) : getF (amendDue k s) F.PAT_STATE_LIVE = getF s F.PAT_STATE_LIVE := by
  unfold amendDue
  split
  · split
    · rw [(keptBut_superseded _ _ _).getF (by decide), amendDrop_eq, getF_showBusy _ (by decide)]
      exact getF_setF_of_apart _ _ (by decide)
    · rfl
  · rfl

/-! ### The route commits -/

/-- A commit that is superseded: the result, the count and the status. -/
def rteDropped (s : State) : State := setBit (cnt (rteResult 1 9 s) R.PAT_POUR_DISC) F.RTE_STAT_SUPERSEDED

/-- The unit's own commit due at or after block k goes. -/
def rteOwnDue (k : Nat) (s : State) : State :=
  match s.rte.cmt with
  | some c => if k ≤ c.k then rteDropped (rteIdle s) else s
  | none => s

/-- The peer's commit due at or after block k goes. -/
def rteMirroredDue (k : Nat) (s : State) : State :=
  match s.rte.mirrored with
  | some (b, _) => if k ≤ b then rteDropped (rteMirror none s) else s
  | none => s

theorem rteSupersede_eq (k : Nat) (s : State) : rteSupersede k s = rteMirroredDue k (rteOwnDue k s) := rfl

theorem RegsOnly.rteDropped (h : RegsOnly s t) : RegsOnly s (rteDropped t) := h.setF.setF.wr.setBit

theorem reason_rteDropped (s : State) : getF (rteDropped s) F.RTE_RESULT_REASON = 9 := by
  unfold rteDropped
  refine (getF_setF_of_ne _ _ _ _ (by decide)).trans ((getF_wrN_of_ne _ _ _ (by decide)).trans ?_)
  exact getF_setF_of_lt _ _ (by decide) (by decide)

/-- t is s with its commits and their registers changed. -/
def CommitsOnly (s t : State) : Prop := ∃ r x, t = { s with regs := r, rte := x } ∧ x.epochs = s.rte.epochs

theorem CommitsOnly.refl (s : State) : CommitsOnly s s := ⟨s.regs, s.rte, rfl, rfl⟩

theorem CommitsOnly.regs (h : CommitsOnly s t) (hu : RegsOnly t u) : CommitsOnly s u := by
  obtain ⟨r, x, rfl, hx⟩ := h
  obtain ⟨r', rfl⟩ := hu
  exact ⟨r', x, rfl, hx⟩

theorem CommitsOnly.withRte (h : CommitsOnly s t) {x : RouteState} (hx : x.epochs = t.rte.epochs) :
    CommitsOnly s { t with rte := x } := by
  obtain ⟨r, y, rfl, hy⟩ := h
  exact ⟨r, x, rfl, hx.trans hy⟩

theorem CommitsOnly.rteOwnDue (h : CommitsOnly s t) (k : Nat) : CommitsOnly s (rteOwnDue k t) := by
  unfold Machine.rteOwnDue
  split
  · split
    · have hidle : RegsOnly { t with rte := { t.rte with cmt := none } } (rteIdle t) := (RegsOnly.refl _).setF
      exact (h.withRte (x := { t.rte with cmt := none }) rfl).regs hidle.rteDropped
    · exact h
  · exact h

theorem regsOnly_rteMirror (x : Option (Nat × List RouteEnt)) (s : State) :
    RegsOnly { s with rte := { s.rte with mirrored := x } } (rteMirror x s) :=
  .ite (RegsOnly.refl _).setF (.refl _)

theorem CommitsOnly.rteMirroredDue (h : CommitsOnly s t) (k : Nat) : CommitsOnly s (rteMirroredDue k t) := by
  unfold Machine.rteMirroredDue
  split
  · split
    · exact (h.withRte (x := { t.rte with mirrored := none }) rfl).regs (regsOnly_rteMirror none t).rteDropped
    · exact h
  · exact h

theorem commitsOnly_rteSupersede (k : Nat) (s : State) : CommitsOnly s (rteSupersede k s) := by
  rw [rteSupersede_eq]
  exact ((CommitsOnly.refl s).rteOwnDue k).rteMirroredDue k

theorem rteOwnDue_of_due (h : s.rte.cmt = some c) (hk : k ≤ c.k) :
    (rteOwnDue k s).rte.cmt = none ∧ getF (rteOwnDue k s) F.RTE_RESULT_REASON = 9 := by
  unfold rteOwnDue
  rw [h]
  dsimp only
  rw [if_pos hk]
  refine ⟨?_, reason_rteDropped _⟩
  rw [((RegsOnly.refl (rteIdle s)).rteDropped).rte]
  rfl

theorem cmt_rteMirroredDue (h : s.rte.cmt = none) (k : Nat) : (rteMirroredDue k s).rte.cmt = none := by
  unfold rteMirroredDue
  split
  · split
    · rw [(regsOnly_rteMirror none s).rteDropped.rte]
      exact h
    · exact h
  · exact h

theorem reason_rteMirroredDue (h : getF s F.RTE_RESULT_REASON = 9) (k : Nat) :
    getF (rteMirroredDue k s) F.RTE_RESULT_REASON = 9 := by
  unfold rteMirroredDue
  split
  · split
    · exact reason_rteDropped _
    · exact h
  · exact h

theorem rteSupersede_of_due (h : s.rte.cmt = some c) (hk : k ≤ c.k) :
    (rteSupersede k s).rte.cmt = none ∧ getF (rteSupersede k s) F.RTE_RESULT_REASON = 9 := by
  obtain ⟨hcmt, hreason⟩ := rteOwnDue_of_due h hk
  rw [rteSupersede_eq]
  exact ⟨cmt_rteMirroredDue hcmt k, reason_rteMirroredDue hreason k⟩

theorem keptBut_rteSupersede (k : Nat) (s : State) :
    KeptBut [R.RTE_STATE, R.RTE_RESULT, R.RTE_STAT, R.PAT_POUR_DISC] s (rteSupersede k s) := by
  have dropped {u : State} (h : KeptBut [R.RTE_STATE, R.RTE_RESULT, R.RTE_STAT, R.PAT_POUR_DISC] s u) :
      KeptBut [R.RTE_STATE, R.RTE_RESULT, R.RTE_STAT, R.PAT_POUR_DISC] s (rteDropped u) :=
    (((h.setF (by decide)).setF (by decide)).cntAdd (by decide)).setBit (by decide)
  have hown : KeptBut [R.RTE_STATE, R.RTE_RESULT, R.RTE_STAT, R.PAT_POUR_DISC] s (rteOwnDue k s) := by
    unfold rteOwnDue
    split
    · exact .ite (dropped (((KeptBut.refl _ s).of_regs rfl).setF (by decide))) (.refl _ s)
    · exact .refl _ s
  rw [rteSupersede_eq]
  unfold rteMirroredDue
  split
  · exact .ite (dropped (.ite ((hown.of_regs rfl).setF (by decide)) (hown.of_regs rfl))) hown
  · exact hown

/-! ### The register transfers -/

/-- A register whose write is never put off, and that a discarded one does not touch. -/
def Immediate (o : Nat) : Prop := chanShadow o = false ∧ shadowed.contains o = false ∧ o ∉ R.PAT_POUR_DISC :: errRegs

theorem logsOnly_forEach {α : Type} {f : α → State → State} (hf : ∀ x u, LogsOnly u (f x u)) (l : List α) (s : State) :
    LogsOnly s (forEach l f s) := logsOnly_foldl (fun u x => f x u) (fun u x => hf x u) l s

theorem logsOnly_dropTransfers (s : State) : LogsOnly s (dropTransfers s) :=
  logsOnly_forEach (fun _ u => ((logsOnly_wr u _ _).cnt).raise) _ s

theorem not_transferWaits {o : Nat} (h : Immediate o) (s : State) : transferWaits s o = false := by
  obtain ⟨hchan, hshadow, -⟩ := h
  unfold transferWaits
  rw [hchan, hshadow]
  rfl

theorem rd_dropTransfers {o : Nat} (h : Immediate o) (s : State) : rd (dropTransfers s) o = rd s o := by
  have hout : o ∉ R.PAT_POUR_DISC :: errRegs := h.2.2
  refine forEach_induct (fun u => rd u o = rd s o) _ rfl (fun x hx u hu => ?_)
  have hne : o ≠ x := by
    rintro rfl
    have hwaits := (List.mem_filter.mp hx).2
    rw [not_transferWaits h s] at hwaits
    exact absurd hwaits (by decide)
  have kept : KeptBut (R.PAT_POUR_DISC :: errRegs) (wr u x (rdLive u x))
      (raise .patSuperseded 0 (cnt (wr u x (rdLive u x)) R.PAT_POUR_DISC)) :=
    ((KeptBut.refl _ _).cntAdd (by decide)).raise (by decide) (by decide) (by decide)
  exact (kept o hout).trans ((rd_wr_of_ne u _ hne).trans hu)

theorem keptBut_dropMirrored (k : Nat) (s : State) : KeptBut (R.PAT_POUR_DISC :: errRegs) s (dropMirrored k s) := by
  have base (x : FlkState) : KeptBut (R.PAT_POUR_DISC :: errRegs) s { s with flk := x } := (KeptBut.refl _ s).of_regs rfl
  exact .ite (base _) (((base _).cntAdd (by decide)).raise (by decide) (by decide) (by decide))

/-- t is s with fewer held items, and the logs changed. -/
def HeldLess (s t : State) : Prop := ∃ hit : ProvItem → Bool, LogsOnly { s with flk := { s.flk with held := s.flk.held.filter hit } } t

theorem heldLess_dropMirrored (k : Nat) (s : State) : HeldLess s (dropMirrored k s) := by
  unfold dropMirrored
  dsimp only
  split
  · exact ⟨_, .refl _⟩
  · exact ⟨_, LogsOnly.raise ⟨_, s.err, s.jnl, rfl⟩⟩

/-! ### All of it -/

/-- What waits in registers and with the peer goes, once a Pattern has been live. -/
def waitingDue (k : Nat) (s : State) : State := if s.pat.live.isSome then dropMirrored k (dropTransfers s) else s

theorem discardDue_eq (k : Nat) (s : State) : discardDue k s = waitingDue k (rteSupersede k (amendDue k s)) := rfl

theorem rd_waitingDue {o : Nat} (h : Immediate o) (k : Nat) (s : State) : rd (waitingDue k s) o = rd s o := by
  unfold waitingDue
  split
  · exact (keptBut_dropMirrored k _ o h.2.2).trans (rd_dropTransfers h s)
  · rfl

theorem heldLess_waitingDue (k : Nat) (s : State) : HeldLess s (waitingDue k s) := by
  unfold waitingDue
  split
  · obtain ⟨hit, h⟩ := heldLess_dropMirrored k (dropTransfers s)
    obtain ⟨r, e, j, hd⟩ := logsOnly_dropTransfers s
    obtain ⟨r', e', j', hm⟩ := h
    rw [hd] at hm ⊢
    exact ⟨hit, r', e', j', hm⟩
  · exact ⟨fun _ => true, s.regs, s.err, s.jnl, by rw [List.filter_eq_self.mpr (fun _ _ => rfl)]⟩

theorem HeldLess.pat (h : HeldLess s t) : t.pat = s.pat := by
  obtain ⟨hit, r, e, j, rfl⟩ := h
  rfl

theorem HeldLess.rte (h : HeldLess s t) : t.rte = s.rte := by
  obtain ⟨hit, r, e, j, rfl⟩ := h
  rfl

theorem pat_rteSupersede (k : Nat) (s : State) : (rteSupersede k s).pat = s.pat := by
  obtain ⟨r, x, h, -⟩ := commitsOnly_rteSupersede k s
  rw [h]

theorem pat_discardDue (k : Nat) (s : State) : (discardDue k s).pat = duePat k s.pat := by
  rw [discardDue_eq, (heldLess_waitingDue _ _).pat, pat_rteSupersede, (logsOnly_amendDue k s).pat]

theorem LogsOnly.rte (h : LogsOnly s t) : t.rte = s.rte := by
  obtain ⟨r, e, j, rfl⟩ := h
  rfl

theorem epochs_discardDue (k : Nat) (s : State) : (discardDue k s).rte.epochs = s.rte.epochs := by
  obtain ⟨r, x, h, hx⟩ := commitsOnly_rteSupersede k (amendDue k s)
  rw [discardDue_eq, (heldLess_waitingDue _ _).rte, h, hx, (logsOnly_amendDue k s).rte]

theorem immediate_rteResult : Immediate R.RTE_RESULT := by
  unfold Immediate
  decide

theorem discardDue_of_commit (h : s.rte.cmt = some c) (hk : k ≤ c.k) :
    (discardDue k s).rte.cmt = none ∧ getF (discardDue k s) F.RTE_RESULT_REASON = 9 := by
  have hcmt : (amendDue k s).rte.cmt = some c := (congrArg RouteState.cmt (logsOnly_amendDue k s).rte).trans h
  obtain ⟨hnone, hreason⟩ := rteSupersede_of_due hcmt hk
  rw [discardDue_eq, (heldLess_waitingDue _ _).rte]
  exact ⟨hnone, (congrArg (fget · _ _) (rd_waitingDue immediate_rteResult k _)).trans hreason⟩

theorem execStopStrobe_spec {x : StopPend} (h : s.pat.stop = some x) (hdecided : x.decided = true) (hbegun : x.begun = false)
    (hdue : due s x.block = true) :
    ∃ t, exec .stopStrobe s = .next t ∧ t.pat.stop = some { x with begun := true } ∧
      (∀ a, s.pat.amend = some a → x.block ≤ a.block → t.pat.amend = none) ∧
      (∀ c, s.rte.cmt = some c → x.block ≤ c.k → t.rte.cmt = none ∧ getF t F.RTE_RESULT_REASON = 9) ∧
      t.rte.epochs = s.rte.epochs ∧ t.pat.live = s.pat.live := by
  have hexec : execStopStrobe s =
      .next (discardDue x.block { s with pat := { s.pat with stop := some { x with begun := true } } }) := by
    unfold execStopStrobe
    rw [h]
    exact congrArg Host.Outcome.next (if_pos (by simp [hdecided, hbegun, hdue]))
  obtain ⟨hlive, hstop, -⟩ := duePat_keeps x.block { s.pat with stop := some { x with begun := true } }
  refine ⟨_, hexec, ?_, ?_, ?_, ?_, ?_⟩
  · rw [pat_discardDue, hstop]
  · intro a ha hk
    rw [pat_discardDue]
    exact amend_duePat (a := a) ha hk
  · exact fun c hc hk => discardDue_of_commit hc hk
  · rw [epochs_discardDue]
  · rw [pat_discardDue, hlive]

end Sys2Proof.Machine
end

section
/-! SUPPORT. What a stopped Pattern shows (R84). -/

namespace Sys2Proof.Machine

variable {s₀ s t u : State} {offs : List Nat} {k : StopPend}

/-- t is s with other converter channels, and registers written. -/
def ConvertersOnly (s t : State) : Prop := ∃ r d, t = { s with regs := r, dac := d }

theorem ConvertersOnly.refl (s : State) : ConvertersOnly s s := ⟨s.regs, s.dac, rfl⟩

theorem ConvertersOnly.regs (h : ConvertersOnly s t) (hu : RegsOnly t u) : ConvertersOnly s u := by
  obtain ⟨r, d, rfl⟩ := h
  obtain ⟨r', rfl⟩ := hu
  exact ⟨r', d, rfl⟩

theorem ConvertersOnly.dacMod {n : Nat} {f : DacCh → DacCh} (h : ConvertersOnly s t) : ConvertersOnly s (dacMod n f t) := by
  obtain ⟨r, d, rfl⟩ := h
  exact ⟨r, _, rfl⟩

theorem ConvertersOnly.setF {f : Fld} {v : Nat} (h : ConvertersOnly s t) : ConvertersOnly s (setF t f v) :=
  h.regs (RegsOnly.refl t).setF

theorem ConvertersOnly.pat (h : ConvertersOnly s t) : t.pat = s.pat := by
  obtain ⟨r, d, rfl⟩ := h
  rfl

theorem ConvertersOnly.seq (h : ConvertersOnly s t) : t.seq = s.seq := by
  obtain ⟨r, d, rfl⟩ := h
  rfl

theorem convertersOnly_dacStopped (s : State) : ConvertersOnly s (dacStopped s) := by
  refine List.foldlRecOn (motive := ConvertersOnly s) _ _ (.refl s) (fun u hu n _ => ?_)
  dsimp only
  split
  · exact hu.dacMod.setF.dacMod.setF.setF
  · exact hu.dacMod.setF

/-- The state registers of the converter channels. -/
def converterRegs : List Nat := (List.range 32).map R.DAC_CSTATE

theorem KeptBut.dacMod {n : Nat} {f : DacCh → DacCh} (h : KeptBut offs s t) : KeptBut offs s (dacMod n f t) := h.of_regs rfl

theorem KeptBut.dacShow {n : Nat} (h : KeptBut offs s t) (hn : R.DAC_CSTATE n ∈ offs) : KeptBut offs s (dacShow n t) := h.setF hn

theorem KeptBut.dacEnter {n st : Nat} (h : KeptBut offs s t) (hn : R.DAC_CSTATE n ∈ offs) : KeptBut offs s (dacEnter n st t) :=
  (h.setF hn).setF hn

theorem keptBut_dacStopped (s : State) : KeptBut converterRegs s (dacStopped s) := by
  refine (KeptBut.refl _ s).forNat (fun n hn u hu => ?_)
  have hin : R.DAC_CSTATE n ∈ converterRegs := List.mem_map_of_mem (List.mem_range.mpr hn)
  have hshown := (hu.dacMod (n := n) (f := fun x => { x with queue := [], pipe := List.replicate 8 none, silNext := false })).dacShow hin
  exact .ite (hshown.dacMod.dacEnter hin) hshown

/-- The Pattern has stopped: the loader's state and its registers. -/
def stopShown (armed : Nat) (s : State) : State :=
  setF (wrN (wr64 (setBit (setF (setF { s with pat := { s.pat with stop := none, armedMtb := some armed } }
    F.PAT_STATE_LIVE 0) F.PAT_STATE_RATE 0) F.PAT_STAT_STOPPED) R.PAT_LIVE_ID_LO R.PAT_LIVE_ID_HI 0) R.PAT_LIVE_CRC 0)
    F.GEO_UNITS_G_EFF 0

/-- The manager and the tiles have stopped with it. -/
def stopSettled (s : State) : State :=
  let s := if isManager s then setF s F.HIER_STATE_STATE 0 else s
  loopFollow (dacStopped { s with seq := { s.seq with fallbackAt := none, shedSeats := [] } })

theorem execPatternStopped_of_due (h : s.pat.stop = some k) (hbegun : k.begun = true) (hdue : due s (k.block + 6) = true) :
    ∃ armed, execPatternStopped s = .next (stopSettled (stopShown armed s)) := by
  unfold execPatternStopped
  rw [h]
  exact ⟨_, congrArg Host.Outcome.next (if_pos (by simp [hbegun, hdue]))⟩

theorem regsOnly_stopShown (armed : Nat) (s : State) :
    RegsOnly { s with pat := { s.pat with stop := none, armedMtb := some armed } } (stopShown armed s) :=
  (RegsOnly.refl _).setF.setF.setBit.wr64.wr.setF

theorem stopShown_shows (armed : Nat) (s : State) :
    getF (stopShown armed s) F.PAT_STATE_LIVE = 0 ∧ getF (stopShown armed s) F.PAT_STATE_RATE = 0 ∧
    stBit (stopShown armed s) F.PAT_STAT_STOPPED = 1 ∧ rd64 (stopShown armed s) R.PAT_LIVE_ID_LO R.PAT_LIVE_ID_HI = 0 ∧
    rdN (stopShown armed s) R.PAT_LIVE_CRC = 0 ∧ getF (stopShown armed s) F.GEO_UNITS_G_EFF = 0 := by
  have hstate (u : State) : KeptBut [R.PAT_STAT, R.PAT_LIVE_ID_LO, R.PAT_LIVE_ID_HI, R.PAT_LIVE_CRC, R.GEO_UNITS] u
      (setF (wrN (wr64 (setBit u F.PAT_STAT_STOPPED) R.PAT_LIVE_ID_LO R.PAT_LIVE_ID_HI 0) R.PAT_LIVE_CRC 0) F.GEO_UNITS_G_EFF 0) :=
    (((((KeptBut.refl _ u).setBit (by decide)).wr (by decide)).wr (by decide)).wr (by decide)).setF (by decide)
  have hids (u : State) : KeptBut [R.PAT_LIVE_ID_LO, R.PAT_LIVE_ID_HI, R.PAT_LIVE_CRC, R.GEO_UNITS] u
      (setF (wrN (wr64 u R.PAT_LIVE_ID_LO R.PAT_LIVE_ID_HI 0) R.PAT_LIVE_CRC 0) F.GEO_UNITS_G_EFF 0) :=
    ((((KeptBut.refl _ u).wr (by decide)).wr (by decide)).wr (by decide)).setF (by decide)
  have hcrc (u : State) : KeptBut [R.PAT_LIVE_CRC, R.GEO_UNITS] u (setF (wrN u R.PAT_LIVE_CRC 0) F.GEO_UNITS_G_EFF 0) :=
    ((KeptBut.refl _ u).wr (by decide)).setF (by decide)
  unfold stopShown
  refine ⟨?_, ?_, ?_, ?_, ?_, ?_⟩
  · rw [(hstate _).getF (by decide), getF_setF_of_apart _ _ (by decide)]
    exact getF_setF_of_lt _ _ (by decide) (by decide)
  · rw [(hstate _).getF (by decide)]
    exact getF_setF_of_lt _ _ (by decide) (by decide)
  · rw [stBit_of_kept (hids _) 0 (by decide)]
    exact stBit_setBit _ _ 0 (by decide)
  · rw [rd64_of_kept (hcrc _) (by decide) (by decide), rd64_wr64 _ _ (by decide)]
    rfl
  · rw [rdN_setF _ _ _ (by decide), rdN_wrN_self]
    rfl
  · exact getF_setF_of_lt _ _ (by decide) (by decide)

theorem keptBut_stopSettled (s : State) : KeptBut (R.HIER_STATE :: R.TSU_ML_STATE :: converterRegs) s (stopSettled s) := by
  have hmanager : KeptBut (R.HIER_STATE :: R.TSU_ML_STATE :: converterRegs) s
      (if isManager s then setF s F.HIER_STATE_STATE 0 else s) :=
    .ite ((KeptBut.refl _ s).setF (List.mem_cons_self ..)) (.refl _ s)
  have hseq := hmanager.of_regs (u := { (if isManager s then setF s F.HIER_STATE_STATE 0 else s) with
    seq := { (if isManager s then setF s F.HIER_STATE_STATE 0 else s).seq with fallbackAt := none, shedSeats := [] } }) rfl
  exact (hseq.trans ((keptBut_dacStopped _).mono
    (List.subset_cons_of_subset _ (List.subset_cons_of_subset _ (List.Subset.refl _))))).loopFollow
    (List.mem_cons_of_mem _ (List.mem_cons_self ..))

theorem stopSettled_keeps (s : State) : (stopSettled s).pat = s.pat ∧ (stopSettled s).seq.fallbackAt = none := by
  have hmanager : RegsOnly s (if isManager s then setF s F.HIER_STATE_STATE 0 else s) := .ite (RegsOnly.refl s).setF (.refl s)
  unfold stopSettled
  dsimp only
  generalize (if isManager s then setF s F.HIER_STATE_STATE 0 else s) = u at hmanager ⊢
  have hdac := convertersOnly_dacStopped { u with seq := { u.seq with fallbackAt := none, shedSeats := [] } }
  have hloop := hdac.regs (RegsOnly.refl _).loopFollow
  exact ⟨hloop.pat.trans hmanager.pat, congrArg SeqState.fallbackAt hloop.seq⟩

theorem execPatternStopped_spec (h : s.pat.stop = some k) (hbegun : k.begun = true) (hdue : due s (k.block + 6) = true) :
    ∃ t, exec .patternStopped s = .next t ∧ t.pat.stop = none ∧ running t = false ∧ getF t F.PAT_STATE_RATE = 0 ∧
      stBit t F.PAT_STAT_STOPPED = 1 ∧ rd64 t R.PAT_LIVE_ID_LO R.PAT_LIVE_ID_HI = 0 ∧ rdN t R.PAT_LIVE_CRC = 0 ∧
      getF t F.GEO_UNITS_G_EFF = 0 ∧ t.seq.fallbackAt = none ∧ t.pat.live = s.pat.live := by
  obtain ⟨armed, hexec⟩ := execPatternStopped_of_due h hbegun hdue
  have kept := keptBut_stopSettled (stopShown armed s)
  obtain ⟨hlive, hrate, hstopped, hid, hcrc, hgeo⟩ := stopShown_shows armed s
  obtain ⟨hpat, hfallback⟩ := stopSettled_keeps (stopShown armed s)
  have hpat' := hpat.trans (regsOnly_stopShown armed s).pat
  refine ⟨_, hexec, congrArg PatState.stop hpat', ?_, ?_, ?_, ?_, ?_, ?_, hfallback, ?_⟩
  · unfold running
    rw [kept.getF (by decide), hlive]
    rfl
  · rw [kept.getF (by decide), hrate]
  · rw [stBit_of_kept kept 0 (by decide), hstopped]
  · rw [rd64_of_kept kept (by decide) (by decide), hid]
  · rw [rdN_of_kept kept (by decide), hcrc]
  · rw [kept.getF (by decide), hgeo]
  · rw [hpat']

end Sys2Proof.Machine
end

section
/-! SUPPORT. The pour and the join pour at their strobes, and the obligation of the pour and the stop (O54; R80 to R84, R376, R377). -/

namespace Sys2Proof.Machine

variable {s₀ s t u : State} {offs : List Nat} {p : PourPend}

/-! ### The count and the time base that a pour finds -/

theorem pat_withCap (s : State) (c : Option CapRun) : { s with cap := c }.pat = s.pat := rfl

theorem pat_capPour (k : Nat) (gains : List (RouteEnt × List Int)) (s : State) : (capPour k gains s).pat = s.pat := by
  unfold capPour
  split
  · rfl
  · split
    · rfl
    · rw [(logsOnly_raise _ _ _).pat, pat_withCap]
      exact (RegsOnly.refl s).setF.capResult.pat

theorem keptBut_capPour (k : Nat) (gains : List (RouteEnt × List Int)) (s : State) :
    KeptBut ([R.CAP_STATE, R.CAP_STAT] ++ errRegs) s (capPour k gains s) := by
  unfold capPour
  split
  · exact .refl _ s
  · refine .ite ((KeptBut.refl _ s).of_regs rfl) ?_
    have hresult : KeptBut ([R.CAP_STATE, R.CAP_STAT] ++ errRegs) s (capResult 1 5 (setF s F.CAP_STATE_STATE 0)) :=
      ((KeptBut.refl _ s).setF (by decide)).capResult (by decide)
    exact (hresult.withCap none).raise (by decide) (by decide) (by decide)

theorem pourCleared_of_free (h : s.pat.stop = none) : ∃ gains, pourCleared p s = capPour p.cut gains (discardDue p.cut s) := by
  have hstop : (discardDue p.cut s).pat.stop = none := by
    obtain ⟨-, hkeeps, -⟩ := duePat_keeps p.cut s.pat
    rw [pat_discardDue, hkeeps, h]
  unfold pourCleared
  dsimp only
  rw [hstop]
  exact ⟨_, rfl⟩

theorem immediate_patState : Immediate R.PAT_STATE := by
  unfold Immediate
  decide

theorem immediate_mediaCfg : Immediate R.TSU_MEDIA_CFG := by
  unfold Immediate
  decide

theorem live_discardDue (k : Nat) (s : State) : getF (discardDue k s) F.PAT_STATE_LIVE = getF s F.PAT_STATE_LIVE := by
  rw [discardDue_eq]
  refine (congrArg (fget · _ _) (rd_waitingDue immediate_patState k _)).trans ?_
  exact ((keptBut_rteSupersede k _).getF (by decide)).trans (live_amendDue k s)

theorem mediaCfg_discardDue (k : Nat) (s : State) : rd (discardDue k s) R.TSU_MEDIA_CFG = rd s R.TSU_MEDIA_CFG := by
  rw [discardDue_eq, rd_waitingDue immediate_mediaCfg, keptBut_rteSupersede k _ _ (by decide), keptBut_amendDue k s _ (by decide)]

/-- Where no stop is pending, the pour finds the rate and the time base that ran before it. -/
theorem pourCleared_ground (h : s.pat.stop = none) :
    rate96 (pourCleared p s) = rate96 s ∧ followTb (pourCleared p s) = followTb s := by
  obtain ⟨gains, hc⟩ := pourCleared_of_free (p := p) h
  have kept := keptBut_capPour p.cut gains (discardDue p.cut s)
  have hmedia : rd (pourCleared p s) R.TSU_MEDIA_CFG = rd s R.TSU_MEDIA_CFG := by
    rw [hc, kept _ (by decide), mediaCfg_discardDue]
  have hlive : getF (pourCleared p s) F.PAT_STATE_LIVE = getF s F.PAT_STATE_LIVE := by
    rw [hc, kept.getF (by decide), live_discardDue]
  have harmed : (pourCleared p s).pat.armedMtb = s.pat.armedMtb := by
    obtain ⟨-, -, hkeeps⟩ := duePat_keeps p.cut s.pat
    rw [hc, pat_capPour, pat_discardDue, hkeeps]
  refine ⟨congrArg (fun w => fget w _ _ == 1) hmedia, ?_⟩
  have hmtb : getF (pourCleared p s) F.TSU_MEDIA_CFG_MTB = getF s F.TSU_MEDIA_CFG_MTB := congrArg (fget · _ _) hmedia
  unfold followTb running
  rw [hlive, hmtb, harmed]

theorem pourCounted_of_same (hstop : s.pat.stop = none) (hrate : pourRate s (stagedPat s) = false)
    (hmtb : (stagedPat s).mtb = followTb s) :
    pourCounted (stagedPat s) p (pourCleared p s) = (p.cut, pourCleared p s) := by
  obtain ⟨hr, hf⟩ := pourCleared_ground (p := p) hstop
  have hkeep : pourRate (pourCleared p s) (stagedPat s) = false := by
    unfold pourRate at hrate ⊢
    rw [hr, hrate]
  unfold pourCounted
  rw [hkeep, hf, hmtb]
  exact if_neg (by simp)

/-! ### The pair after a pour -/

theorem pourWithdraw_of_none (h : s.pat.pour = none) : pourWithdraw s = s := by
  unfold pourWithdraw
  rw [h]

/-- t agrees with s in the loader's state, the filters and the route epochs. -/
def PourSame (s t : State) : Prop := t.pat = s.pat ∧ t.flt = s.flt ∧ t.rte.epochs = s.rte.epochs

theorem PourSame.refl (s : State) : PourSame s s := ⟨rfl, rfl, rfl⟩

theorem PourSame.trans (h : PourSame s t) (h' : PourSame t u) : PourSame s u := by
  obtain ⟨hp, hf, he⟩ := h
  obtain ⟨hp', hf', he'⟩ := h'
  exact ⟨hp'.trans hp, hf'.trans hf, he'.trans he⟩

theorem PourKept.same (h : PourKept s t) : PourSame s t := ⟨h.pat, h.flt, h.epochs⟩

theorem pourSame_snapDrop (h : s.pat.pour = none) : PourSame s (snapDrop s) := by
  unfold snapDrop
  rw [pourWithdraw_of_none h, ite_self]
  exact ⟨rfl, rfl, rfl⟩

theorem pourSame_notReady (reason : Nat) (h : s.pat.pour = none) : PourSame s (notReady reason s) := by
  refine (pourSame_snapDrop h).trans (PourKept.same ?_)
  have hshown : PourKept (snapDrop s) (setF (syncEnter 8 (snapDrop s)) F.FLK_STATE_FAIL reason) := (PourKept.refl _).syncEnter.setF
  exact .ite hshown.raise hshown

theorem pourSame_pairPour (mirrored : Bool) (h : s.pat.pour = none) : PourSame s (pairPour mirrored s) := by
  unfold pairPour
  split
  · split
    · exact PourKept.same (PourKept.flkSend ((PourKept.refl s).updFlk rfl rfl))
    · exact .refl s
  · split
    · split
      · exact pourSame_notReady 1 h
      · exact (pourSame_snapDrop h).trans (PourKept.refl _).syncEnter.same
    · exact .refl s

/-! ### POUR_STROBE -/

theorem execPourStrobe_of_due (h : s.pat.pour = some p) (hdecided : p.decided = true) (hjoin : s.flk.join = none)
    (hdue : due s p.cut = true) (hfatal : s.err.fatal = false) :
    execPourStrobe s = .next (pairPour (p.via == .flask) (pourNow s)) := by
  unfold execPourStrobe
  rw [h]
  exact congrArg Host.Outcome.next (if_pos (by simp [hdecided, hjoin, hdue, hfatal]))

theorem execPourStrobe_spec (h : s.pat.pour = some p) (hdecided : p.decided = true) (hjoin : s.flk.join = none)
    (hdue : due s p.cut = true) (hfatal : s.err.fatal = false) (hd : s.pat.regsetDone = true) (hstop : s.pat.stop = none)
    (hrate : pourRate s (stagedPat s) = false) (hmtb : (stagedPat s).mtb = followTb s) :
    ∃ t, exec .pourStrobe s = .next t ∧ t.pat.live = some (stagedPat s) ∧ t.pat.staged = none ∧ t.pat.pour = none ∧
      t.pat.stop = none ∧ t.pat.pouredAt = some p.cut ∧ t.flt = fltOfPattern (stagedPat s) ∧
      t.rte.epochs = [pouredEpoch p.cut (stagedPat s)] := by
  have hview := pourView_pourNow h hd (pourCounted_of_same hstop hrate hmtb)
  have hexec := execPourStrobe_of_due h hdecided hjoin hdue hfatal
  generalize pourNow s = w at hview hexec
  simp only [pourView, Prod.mk.injEq] at hview
  obtain ⟨hpat, hflt, hepochs, -, -⟩ := hview
  obtain ⟨hpat', hflt', hepochs'⟩ := pourSame_pairPour (p.via == .flask) (s := w) (by rw [hpat]; rfl)
  refine ⟨_, hexec, ?_, ?_, ?_, ?_, ?_, hflt'.trans hflt, hepochs'.trans hepochs⟩
  · rw [hpat', hpat]
    rfl
  · rw [hpat', hpat]
    rfl
  · rw [hpat', hpat]
    rfl
  · rw [hpat', hpat]
    rfl
  · rw [hpat', hpat]
    rfl

/-! ### JOIN_POUR -/

/-- Nothing waits to be replayed, and no mirrored item is held. -/
def NoReplay (s : State) : Prop := s.flk.replay = [] ∧ s.flk.held = []

theorem NoReplay.of_flk (h : NoReplay s) (e : t.flk = s.flk) : NoReplay t := by
  unfold NoReplay
  rw [e]
  exact h

theorem LogsOnly.flk (h : LogsOnly s t) : t.flk = s.flk := by
  obtain ⟨r, e, j, rfl⟩ := h
  rfl

theorem RegsOnly.flk (h : RegsOnly s t) : t.flk = s.flk := h.logsOnly.flk

theorem CommitsOnly.flk (h : CommitsOnly s t) : t.flk = s.flk := by
  obtain ⟨r, x, rfl, -⟩ := h
  rfl

theorem HeldLess.noReplay (hl : HeldLess s t) (h : NoReplay s) : NoReplay t := by
  obtain ⟨hit, hl⟩ := hl
  obtain ⟨hreplay, hheld⟩ := h
  unfold NoReplay
  rw [hl.flk]
  refine ⟨hreplay, ?_⟩
  dsimp only
  rw [hheld, List.filter_nil]

theorem NoReplay.discardDue (h : NoReplay s) (k : Nat) : NoReplay (discardDue k s) := by
  rw [discardDue_eq]
  refine (heldLess_waitingDue k _).noReplay (h.of_flk ?_)
  rw [(commitsOnly_rteSupersede k _).flk, (logsOnly_amendDue k s).flk]

theorem flk_withCap (s : State) (c : Option CapRun) : { s with cap := c }.flk = s.flk := rfl

theorem flk_capPour (k : Nat) (gains : List (RouteEnt × List Int)) (s : State) : (capPour k gains s).flk = s.flk := by
  unfold capPour
  split
  · rfl
  · split
    · rfl
    · rw [(logsOnly_raise _ _ _).flk, flk_withCap]
      exact (RegsOnly.refl s).setF.capResult.flk

theorem NoReplay.pourCleared (h : NoReplay s) : NoReplay (pourCleared p s) := by
  have hdue := h.discardDue p.cut
  unfold Machine.pourCleared
  extract_lets s₁ s₂
  have h₂ : NoReplay s₂ := by
    unfold s₂
    split
    · split
      · exact hdue.of_flk (logsOnly_superseded _ _ _).flk
      · exact hdue
    · exact hdue
  exact h₂.of_flk (flk_capPour _ _ _)

theorem NoReplay.rebase (h : NoReplay s) (db dm : Int) : NoReplay (rebase db dm s) := by
  obtain ⟨hreplay, hheld⟩ := h
  exact ⟨hreplay, (congrArg (List.map _) hheld).trans List.map_nil⟩

theorem flk_txRestart (q : Nat) (s : State) : (txRestart q s).flk = s.flk :=
  forEach_induct (fun u => u.flk = s.flk) _ rfl (fun _ _ _ hu => hu)

theorem RegsOnly.loopSeated (h : RegsOnly s t) : RegsOnly s (loopSeated t) := h.setF.wr.setF.setF.setBit

theorem flk_loopSwitch (newTb : Bool) (s : State) : (loopSwitch newTb s).flk = s.flk := by
  unfold loopSwitch
  exact (RegsOnly.ite (RegsOnly.refl (freeNat s 32).2).wr (.refl _)).loopSeated.flk

theorem NoReplay.upd {regs live mem msi time err jnl pat seq bst asc geo rte flt rnd str apd pdm cap dac pwr fab net intake clm hier}
    {rdata freeCtr pending} (h : NoReplay s) :
    NoReplay { s with regs := regs, live := live, mem := mem, msi := msi, time := time, err := err, jnl := jnl, pat := pat,
                      seq := seq, bst := bst, asc := asc, geo := geo, rte := rte, flt := flt, rnd := rnd, str := str, apd := apd,
                      pdm := pdm, cap := cap, dac := dac, pwr := pwr, fab := fab, net := net, intake := intake, clm := clm,
                      hier := hier, rdata := rdata, freeCtr := freeCtr, pending := pending } := h

theorem NoReplay.withUndecided {x : List MirItem} (h : NoReplay s) : NoReplay { s with flk := { s.flk with undecided := x } } := h

theorem NoReplay.loopSwitch (h : NoReplay s) (newTb : Bool) : NoReplay (loopSwitch newTb s) := h.of_flk (flk_loopSwitch newTb s)

theorem NoReplay.txRestart (h : NoReplay s) (q : Nat) : NoReplay (txRestart q s) := h.of_flk (flk_txRestart q s)

theorem NoReplay.reseat (h : NoReplay s) (new : Pattern) : NoReplay (reseat new s).2 := by
  unfold Machine.reseat
  refine NoReplay.loopSwitch (NoReplay.txRestart (NoReplay.upd (NoReplay.upd (NoReplay.upd (NoReplay.withUndecided
    (NoReplay.rebase ?_ _ _))))) _) _
  exact NoReplay.upd (NoReplay.upd (NoReplay.upd h))

theorem NoReplay.pourCounted (h : NoReplay s) (new : Pattern) (p : PourPend) : NoReplay (pourCounted new p s).2 := by
  unfold Machine.pourCounted
  split
  · exact h.reseat new
  · exact h

/-! ### A snapshot without parts -/

theorem PourKept.rxMod {c : Nat} {f : RxCtx → RxCtx} (h : PourKept s₀ s) : PourKept s₀ (rxMod c f s) := h.upd

theorem PourKept.txMod {c : Nat} {f : TxCtx → TxCtx} (h : PourKept s₀ s) : PourKept s₀ (txMod c f s) := h.upd

theorem PourKept.rxCtlApply {c : Nat} {v : Word} (h : PourKept s₀ s) : PourKept s₀ (rxCtlApply c v s) := by
  unfold Machine.rxCtlApply
  extract_lets
  refine .ite (.ite (.ite h h.raise) ?_) (.ite h h.setF.rxMod)
  split
  · exact h.setF.raise
  · exact h.setF.setF.rxMod

theorem PourKept.txCtlApply {c : Nat} {v : Word} (h : PourKept s₀ s) : PourKept s₀ (txCtlApply c v s) := by
  unfold Machine.txCtlApply
  extract_lets
  refine .ite (.ite (.ite h h.raise) ?_) (.ite h h.setF.txMod)
  split
  · exact h.setF.raise
  · exact h.setF.setF.txMod

theorem PourKept.plainWrite {o : Nat} {v : Word} (h : PourKept s₀ s) : PourKept s₀ (plainWrite o v s) := by
  unfold Machine.plainWrite
  split
  · exact h
  · exact h.wr

theorem PourKept.strEffect {o : Nat} {v : Word} (h : PourKept s₀ s) : PourKept s₀ (strEffect o v s) := by
  unfold Machine.strEffect
  split
  · exact h.rxCtlApply
  · exact h.txCtlApply
  · exact .ite h.raise h.plainWrite

theorem pourKept_snapRegs_nil (s : State) : PourKept s (snapRegs [] s) := by
  unfold snapRegs
  refine .forEach (.forEach (PourKept.upd (.refl s)) (fun _ _ hu => ?_)) (fun _ _ hu => hu.strEffect)
  exact PourKept.upd hu.wrN

theorem PourKept.txCatchUp (h : PourKept s₀ s) : PourKept s₀ (txCatchUp s) :=
  .forEach h (fun _ _ hu => .ite hu.setF.txMod hu)

theorem forEach_nil {α : Type} (f : α → State → State) (s : State) : forEach [] f s = s := rfl

theorem snapReplay_nil (h : NoReplay s) : snapReplay [] s = txCatchUp s := by
  obtain ⟨hreplay, hheld⟩ := h
  unfold snapReplay
  dsimp only
  rw [forEach_nil, hreplay, List.mergeSort_nil, forEach_nil, hheld, List.filter_nil, forEach_nil]

theorem getF_withFlk (s : State) (x : FlkState) (f : Fld) : getF { s with flk := x } f = getF s f := rfl

/-- The join is over: what it held goes, and the standby is in SHADOW. -/
def joinShown (s : State) : State :=
  let s := syncEnter 4 { s with flk := { s.flk with snap := [], snapAt := none, replay := [], join := none } }
  { s with flk := { s.flk with syncSince := s.pat.pouredAt.getD (dueBlk s) } }

theorem joinShown_shows (s : State) : sync (joinShown s) = 4 ∧ (joinShown s).flk.join = none ∧ (joinShown s).flk.snap = [] ∧
    (joinShown s).pat = s.pat := by
  have hregs : RegsOnly { s with flk := { s.flk with
        snap := [], snapAt := none, replay := [], join := none, syncSince := blk s, equalRun := 0, missRun := 0 } }
      (syncEnter 4 { s with flk := { s.flk with snap := [], snapAt := none, replay := [], join := none } }) := (RegsOnly.refl _).setF
  have hsync : sync (syncEnter 4 { s with flk := { s.flk with snap := [], snapAt := none, replay := [], join := none } }) = 4 :=
    getF_setF_of_lt _ F.FLK_STATE_SYNC (by decide) (by decide)
  unfold joinShown
  dsimp only
  rw [hregs.flk]
  exact ⟨(getF_withFlk _ _ _).trans hsync, rfl, rfl, hregs.pat⟩

theorem execJoinPour_of_due {j : Nat} (hjoin : s.flk.join = some j) (h : s.pat.pour = some p) (hdue : due s p.cut = true)
    (hsnap : s.flk.snap = []) : execJoinPour s = .next (joinShown (snapReplay [] (snapRegs [] (pourNow s)))) := by
  unfold execJoinPour
  split
  next p' _ hp =>
    obtain rfl : p' = p := Option.some.inj (hp.symm.trans h)
    rw [if_pos hdue, hsnap]
    rfl
  next hno => exact absurd h (hno _ _ hjoin)

theorem execJoinPour_spec {j : Nat} (hjoin : s.flk.join = some j) (h : s.pat.pour = some p) (hdue : due s p.cut = true)
    (hd : s.pat.regsetDone = true) (hsnap : s.flk.snap = []) (hreplay : s.flk.replay = []) (hheld : s.flk.held = []) :
    ∃ t, exec .joinPour s = .next t ∧ sync t = 4 ∧ t.flk.join = none ∧ t.flk.snap = [] ∧ t.pat.pour = none ∧
      t.pat.staged = none ∧ t.pat.live = some (stagedPat s) := by
  have hexec := execJoinPour_of_due hjoin h hdue hsnap
  have hidle : NoReplay s := ⟨hreplay, hheld⟩
  obtain ⟨hr, hh⟩ := (hidle.pourCleared (p := p)).pourCounted (stagedPat s) p
  have hview := pourView_pourNow h hd (Prod.eta _).symm
  rw [hr, hh] at hview
  generalize pourNow s = w at hview hexec
  have hregs := pourKept_snapRegs_nil w
  simp only [pourView, Prod.mk.injEq] at hview
  obtain ⟨hpat, -, -, hwr, hwh⟩ := hview
  have hw : NoReplay (snapRegs [] w) := ⟨hregs.replay.trans hwr, hregs.held.trans hwh⟩
  rw [snapReplay_nil hw] at hexec
  obtain ⟨hsync, hnone, hsnap', hkeeps⟩ := joinShown_shows (txCatchUp (snapRegs [] w))
  have hpat' : (joinShown (txCatchUp (snapRegs [] w))).pat = w.pat := hkeeps.trans hregs.txCatchUp.pat
  refine ⟨_, hexec, hsync, hnone, hsnap', ?_, ?_, ?_⟩
  · rw [hpat', hpat]
    rfl
  · rw [hpat', hpat]
    rfl
  · rw [hpat', hpat]
    rfl

end Sys2Proof.Machine

namespace Sys2Proof

open Machine

/-- Settles O54: everything that follows the step in which the Pattern becomes live leaves the loader's state, the filters and
the route epochs as that step and the routes' own start made them; a stop discards before anything else shows it. -/
theorem pourAndStopTakeEffect : Obligations.PourAndStopTakeEffect := by
  unfold Obligations.PourAndStopTakeEffect
  refine ⟨?_, ?_, ?_, ?_⟩
  · exact fun s p ⟨h, hdecided, hjoin, hdue, hfatal⟩ ⟨_, hd, hstop⟩ ⟨hrate, hmtb⟩ =>
      execPourStrobe_spec h hdecided hjoin hdue hfatal hd hstop hrate hmtb
  · exact fun s k ⟨h, hdecided, hbegun, hdue⟩ => execStopStrobe_spec h hdecided hbegun hdue
  · exact fun s k ⟨h, hbegun, hdue⟩ => execPatternStopped_spec h hbegun hdue
  · exact fun s j p ⟨hjoin, h, hdue, hd⟩ ⟨hsnap, hreplay, hheld⟩ => execJoinPour_spec hjoin h hdue hd hsnap hreplay hheld

end Sys2Proof
end

section
/-! SUPPORT. Objects one by one, and errors tied to a status bit or to none (R112, R406, R505). -/

namespace Sys2Proof.Machine

variable {s t u : State} {offs : List Nat} {o p : Nat}

/-! ### An object's state -/

@[simp] theorem objOf_objMod_self (o : Nat) (f : ObjSt → ObjSt) (s : State) : objOf (objMod o f s) o = f (objOf s o) :=
  aGet_aSet_self _ _ _ _

theorem objOf_objMod_of_ne (h : p ≠ o) (f : ObjSt → ObjSt) (s : State) : objOf (objMod o f s) p = objOf s p :=
  aGet_aSet_of_ne _ _ _ h

theorem objOf_of_objs (h : t.intake.objs = s.intake.objs) (p : Nat) : objOf t p = objOf s p :=
  congrArg (aGet (fun _ => ObjSt.init) · p) h

theorem KeptBut.objMod {f : ObjSt → ObjSt} (h : KeptBut offs s t) : KeptBut offs s (objMod o f t) := h.of_regs rfl

theorem KeptBut.withIntake (h : KeptBut offs s t) (i : IntakeState) : KeptBut offs s { t with intake := i } := h.of_regs rfl

theorem SameMem.withIntake (h : SameMem s t) (i : IntakeState) : SameMem s { t with intake := i } := h

theorem RegsOnly.intake (h : RegsOnly s t) : t.intake = s.intake := by
  obtain ⟨r, rfl⟩ := h
  rfl

theorem LogsOnly.intake (h : LogsOnly s t) : t.intake = s.intake := by
  obtain ⟨r, e, j, rfl⟩ := h
  rfl

theorem LogsOnly.frame (h : LogsOnly s t) (kept : KeptBut offs s t) :
    Frame offs s t { s with regs := t.regs, err := t.err, jnl := t.jnl } := by
  refine ⟨?_, kept, sameMem_of_mem h.mem⟩
  obtain ⟨r, e, j, rfl⟩ := h
  rfl

/-! ### Errors below FATAL -/

/-- A write that is recorded and then answered by a notice with no status bit. -/
theorem raise_recorded_spec {e : Err} (he : errSev e ≠ .fatal) (htie : errTie e 0 = none) (via : Src) (off : Nat) (v : Word)
    (s : State) :
    let t := raise e 0 (journalReg via off v s)
    (s.err.current = none → t.err.current.map (fun x => x.err) = some e) ∧
      Frame logRegs s t { s with regs := t.regs, jnl := t.jnl, err := t.err } := by
  have kept : KeptBut logRegs s (raise e 0 (journalReg via off v s)) := by
    refine ((keptBut_journalReg via off v s).mono (by decide)).raise he (by decide) fun f hf => ?_
    rw [htie] at hf
    contradiction
  refine ⟨fun hcur => ?_, ((logsOnly_journalReg via off v s).raise).frame kept⟩
  exact current_raise_of_none ((congrArg ErrState.current (err_journal _ _ _ _ _ s)).trans hcur) he htie

/-- A tied error shows its status bit, whether or not the bit is masked. -/
theorem stBit_raise_of_tie {e : Err} {f : Fld} (he : errSev e ≠ .fatal) (htie : errTie e 0 = some f) (hf : f.hi = f.lo)
    (hlt : f.lo < 32) (hoff : f.off ∉ errRegs) (s : State) : stBit (raise e 0 s) f = 1 := by
  have kept := keptBut_raise_of_tie he htie s
  rw [if_pos hf] at kept
  exact (stBit_of_kept kept 0 hoff).trans (stBit_setBit s f 0 hlt)

/-! ### A unit's part in a pair, once a change is recorded -/

theorem Noted.isActive (h : Noted s t) : isActive t = isActive s := by
  unfold Machine.isActive
  rw [h.isPair, h.getF F.CLM_STATE_ROLE (by decide)]

theorem Noted.isPassive (h : Noted s t) : isPassive t = isPassive s := by
  unfold Machine.isPassive
  rw [h.isPair, h.getF F.CLM_STATE_ROLE (by decide)]

theorem Noted.flkUp (h : Noted s t) : flkUp t = flkUp s := congrArg (· == 1) (h.getF F.FLK_STATE_LINK (by decide))

theorem isActive_of_lone (h : isPair s = false) : isActive s = false := by
  unfold isActive
  rw [h, Bool.false_and]

/-- The active unit of a pair is neither in LISTEN nor in STANDBY. -/
theorem isPassive_of_active (h : isActive s = true) : isPassive s = false := by
  unfold isActive at h
  obtain ⟨-, hrole⟩ := Bool.and_eq_true_iff.mp h
  unfold isPassive
  rw [eq_of_beq hrole]
  simp

/-! ### Mirroring of an untimed item (R370, R371) -/

theorem mirrorUntimed_of_lone (h : isPair s = false) (it : Item) : mirrorUntimed it s = (false, s) := by
  unfold mirrorUntimed
  rw [isActive_of_lone h]
  rfl

theorem mirrorUntimed_of_active (h : isActive s = true) (hup : flkUp s = true) (it : Item) :
    mirrorUntimed it s = (true, (mirrorSend it none s).2) := by
  unfold mirrorUntimed
  rw [h, hup]
  rfl

theorem flkSend_keeps (x : FlkPayload) (s : State) :
    (flkSend x s).intake = s.intake ∧ (flkSend x s).flk.undecided = s.flk.undecided ∧ (flkSend x s).mem = s.mem := by
  unfold flkSend
  split
  · exact ⟨rfl, rfl, rfl⟩
  · exact ⟨rfl, rfl, rfl⟩

/-- An item that is sent awaits its decision under the next ITEM_ID. -/
theorem mirrorSend_spec (it : Item) (deadline : Option Nat) (s : State) :
    (mirrorSend it deadline s).2.intake = s.intake ∧
    (mirrorSend it deadline s).2.flk.undecided = s.flk.undecided ++ [⟨s.flk.nextItem, it, deadline⟩] ∧
    (mirrorSend it deadline s).2.mem = s.mem := by
  unfold mirrorSend
  dsimp only [takeItemId]
  split
  · exact flkSend_keeps _ _
  · exact ⟨rfl, rfl, rfl⟩

end Sys2Proof.Machine
end

section
/-! SUPPORT. The host queue's TAIL and BASE, object commands, and their obligation (O42; R122, R126, R134, R370, R503, R504). -/

namespace Sys2Proof.Machine

variable {s t u : State} {offs : List Nat} {o op k : Nat}

/-! ### OBJ_HQ_TAIL and OBJ_HQ_BASE -/

theorem hqTailWrite_of_near {v : Nat} (h : (v % 32768 + 32768 - getF s F.OBJ_HQ_DONE_INDEX) % 32768 ≤ 16384) :
    hqTailWrite v s = setF s F.OBJ_HQ_TAIL_INDEX (v % 32768) := if_neg (Nat.not_lt.mpr h)

theorem hqTailWrite_of_far {v : Nat} (h : 16384 < (v % 32768 + 32768 - getF s F.OBJ_HQ_DONE_INDEX) % 32768) :
    hqTailWrite v s = raise .objHqOvf 0 s := if_pos h

theorem hqTailWrite_near_spec {v : Nat} (h : (v % 32768 + 32768 - getF s F.OBJ_HQ_DONE_INDEX) % 32768 ≤ 16384) :
    getF (hqTailWrite v s) F.OBJ_HQ_TAIL_INDEX = v % 32768 ∧
      Frame [R.OBJ_HQ_TAIL] s (hqTailWrite v s) { s with regs := (hqTailWrite v s).regs } := by
  rw [hqTailWrite_of_near h]
  exact ⟨getF_setF_of_lt _ _ (by decide) (Nat.mod_lt _ (by decide)),
    (RegsOnly.refl s).setF.frame ((KeptBut.refl _ s).setF (by decide))⟩

theorem hqTailWrite_far_spec {v : Nat} (h : 16384 < (v % 32768 + 32768 - getF s F.OBJ_HQ_DONE_INDEX) % 32768) :
    let t := hqTailWrite v s
    stBit t F.OBJ_STAT_HQ_OVF = 1 ∧
      Frame (R.OBJ_STAT :: errRegs) s t { s with regs := t.regs, err := t.err, jnl := t.jnl } := by
  rw [hqTailWrite_of_far h]
  refine ⟨stBit_raise_of_tie (by decide) rfl rfl (by decide) (by decide) s, (logsOnly_raise _ _ s).frame ?_⟩
  exact (KeptBut.refl _ s).raise (by decide) (by decide) (by decide)

/-- OBJ_HQ_BASE takes its value and the three indices return to 0. -/
def hqRebased (v : Word) (s : State) : State :=
  setF (setF (setF (wr s R.OBJ_HQ_BASE (v &&& 0x1FFFFFF0#32)) F.OBJ_HQ_TAIL_INDEX 0) F.OBJ_HQ_HEAD_INDEX 0)
    F.OBJ_HQ_DONE_INDEX 0

theorem hqBaseApply_eq (v : Word) (s : State) :
    hqBaseApply v s = { hqRebased v s with intake := { (hqRebased v s).intake with hqFinal := [] } } := rfl

theorem regsOnly_hqRebased (v : Word) (s : State) : RegsOnly s (hqRebased v s) := (RegsOnly.refl s).wr.setF.setF.setF

theorem keptBut_hqRebased (v : Word) (s : State) :
    KeptBut [R.OBJ_HQ_BASE, R.OBJ_HQ_TAIL, R.OBJ_HQ_HEAD, R.OBJ_HQ_DONE] s (hqRebased v s) :=
  ((((KeptBut.refl _ s).wr (by decide)).setF (by decide)).setF (by decide)).setF (by decide)

theorem hqRebased_shows (v : Word) (s : State) :
    rd (hqRebased v s) R.OBJ_HQ_BASE = v &&& 0x1FFFFFF0#32 ∧ getF (hqRebased v s) F.OBJ_HQ_TAIL_INDEX = 0 ∧
      getF (hqRebased v s) F.OBJ_HQ_HEAD_INDEX = 0 ∧ getF (hqRebased v s) F.OBJ_HQ_DONE_INDEX = 0 := by
  unfold hqRebased
  refine ⟨?_, ?_, ?_, ?_⟩
  · rw [rd_setF_of_ne _ _ _ (by decide), rd_setF_of_ne _ _ _ (by decide), rd_setF_of_ne _ _ _ (by decide), rd_wr_self]
  · rw [getF_setF_of_ne _ _ _ _ (by decide), getF_setF_of_ne _ _ _ _ (by decide),
      getF_setF_of_lt _ _ (by decide) (by decide)]
  · rw [getF_setF_of_ne _ _ _ _ (by decide), getF_setF_of_lt _ _ (by decide) (by decide)]
  · rw [getF_setF_of_lt _ _ (by decide) (by decide)]

theorem hqBaseWrite_of_stopped (h : running s = false) (via : Src) (v : Word) :
    hqBaseWrite via v s = hqBaseApply v (journalReg via R.OBJ_HQ_BASE v s) := by
  unfold hqBaseWrite
  dsimp only
  rw [running_journalReg, h]
  rfl

theorem hqBaseWrite_of_running (h : running s = true) (via : Src) (v : Word) :
    hqBaseWrite via v s = raise .errRwlWrite 0 (journalReg via R.OBJ_HQ_BASE v s) := by
  unfold hqBaseWrite
  dsimp only
  rw [running_journalReg, h]
  rfl

theorem hqBaseWrite_stopped_spec (h : running s = false) (via : Src) (v : Word) :
    let t := hqBaseWrite via v s
    rd t R.OBJ_HQ_BASE = v &&& 0x1FFFFFF0#32 ∧
      getF t F.OBJ_HQ_TAIL_INDEX = 0 ∧ getF t F.OBJ_HQ_HEAD_INDEX = 0 ∧ getF t F.OBJ_HQ_DONE_INDEX = 0 ∧
      Frame ([R.OBJ_HQ_BASE, R.OBJ_HQ_TAIL, R.OBJ_HQ_HEAD, R.OBJ_HQ_DONE] ++ jnlRegs) s t
        { s with regs := t.regs, jnl := t.jnl, intake := { s.intake with hqFinal := [] } } := by
  have noted := noted_journalReg via R.OBJ_HQ_BASE v s
  rw [hqBaseWrite_of_stopped h]
  generalize journalReg via R.OBJ_HQ_BASE v s = u at noted
  obtain ⟨hbase, htail, hhead, hdone⟩ := hqRebased_shows v u
  have kept := (noted.kept.mono (by decide)).trans ((keptBut_hqRebased v u).mono (List.subset_append_left _ jnlRegs))
  have same : KeptBut [] (hqRebased v u) (hqBaseApply v u) := (KeptBut.refl _ _).withIntake _
  refine ⟨(same _ (by decide)).trans hbase, (same.getF (by decide)).trans htail, (same.getF (by decide)).trans hhead,
    (same.getF (by decide)).trans hdone, ?_, kept.withIntake _, ?_⟩
  · obtain ⟨r', hr⟩ := regsOnly_hqRebased v u
    obtain ⟨r, j, rfl⟩ := noted.parts
    rw [hqBaseApply_eq, hr]
  · exact fun a => ((regsOnly_hqRebased v u).sameMem.withIntake _ a).trans (noted.sameMem a)

/-! ### OBJ_CMD -/

theorem objCmd_of_lone (h : isPair s = false) (via : Src) (o op : Nat) :
    objCmd via o op s =
      objCmdPlace o op (blk s + 1) (journalReg via R.OBJ_CMD (BitVec.ofNat 32 (op * 2 ^ 28 + o)) s) := by
  have noted := noted_journalReg via R.OBJ_CMD (BitVec.ofNat 32 (op * 2 ^ 28 + o)) s
  have hp : isPair (journalReg via R.OBJ_CMD (BitVec.ofNat 32 (op * 2 ^ 28 + o)) s) = false := noted.isPair.trans h
  unfold objCmd
  dsimp only
  rw [isPassive_of_lone hp, if_neg (by decide), mirrorUntimed_of_lone hp, noted.blk]
  rfl

theorem objCmd_of_active (h : isActive s = true) (hup : flkUp s = true) (via : Src) (o op : Nat) :
    objCmd via o op s =
      (mirrorSend (.objCmd o op) none (journalReg via R.OBJ_CMD (BitVec.ofNat 32 (op * 2 ^ 28 + o)) s)).2 := by
  have noted := noted_journalReg via R.OBJ_CMD (BitVec.ofNat 32 (op * 2 ^ 28 + o)) s
  have hact := noted.isActive.trans h
  unfold objCmd
  dsimp only
  rw [isPassive_of_active hact, if_neg (by decide), mirrorUntimed_of_active hact (noted.flkUp.trans hup)]
  rfl

theorem objCmd_of_passive (h : isPassive s = true) (via : Src) (o op : Nat) :
    objCmd via o op s = raise .errWriteIgnored 0 (journalReg via R.OBJ_CMD (BitVec.ofNat 32 (op * 2 ^ 28 + o)) s) := by
  unfold objCmd
  dsimp only
  rw [(noted_journalReg via _ _ s).isPassive, h, if_pos rfl]
  rfl

theorem objCmd_lone_spec (h : isPair s = false) (via : Src) (o op : Nat) :
    let t := objCmd via o op s
    objOf t o = { objOf s o with cmd := some (op, blk s + 1) } ∧ (∀ p, p ≠ o → objOf t p = objOf s p) ∧
      Frame jnlRegs s t { s with regs := t.regs, jnl := t.jnl, intake := { s.intake with objs := t.intake.objs } } := by
  rw [objCmd_of_lone h]
  have noted := noted_journalReg via R.OBJ_CMD (BitVec.ofNat 32 (op * 2 ^ 28 + o)) s
  generalize journalReg via R.OBJ_CMD (BitVec.ofNat 32 (op * 2 ^ 28 + o)) s = u at noted
  have hobj : ∀ p, objOf u p = objOf s p := objOf_of_objs (congrArg IntakeState.objs noted.logsOnly.intake)
  refine ⟨?_, fun p hp => (objOf_objMod_of_ne hp _ u).trans (hobj p), ?_, noted.kept.objMod, noted.sameMem⟩
  · exact (objOf_objMod_self _ _ _).trans (by rw [hobj])
  · obtain ⟨r, j, rfl⟩ := noted.parts
    rfl

theorem objCmd_active_spec (h : isActive s = true) (hup : flkUp s = true) (via : Src) (o op : Nat) :
    let t := objCmd via o op s
    t.intake = s.intake ∧ t.flk.undecided = s.flk.undecided ++ [⟨s.flk.nextItem, .objCmd o op, none⟩] ∧ SameMem s t := by
  rw [objCmd_of_active h hup]
  have logs := logsOnly_journalReg via R.OBJ_CMD (BitVec.ofNat 32 (op * 2 ^ 28 + o)) s
  generalize journalReg via R.OBJ_CMD (BitVec.ofNat 32 (op * 2 ^ 28 + o)) s = u at logs
  obtain ⟨hintake, hflk, hmem⟩ := mirrorSend_spec (.objCmd o op) none u
  exact ⟨hintake.trans logs.intake, hflk.trans (by rw [logs.flk]), sameMem_of_mem (hmem.trans logs.mem)⟩

theorem objCmd_passive_spec (h : isPassive s = true) (via : Src) (o op : Nat) :
    let t := objCmd via o op s
    (s.err.current = none → t.err.current.map (fun e => e.err) = some .errWriteIgnored) ∧
      Frame logRegs s t { s with regs := t.regs, jnl := t.jnl, err := t.err } := by
  rw [objCmd_of_passive h]
  exact raise_recorded_spec (by decide) rfl _ _ _ s

/-! ### A command at its boundary -/

theorem exec_objCmdAct_of_due {o : Fin 2048} (hcmd : (objOf s o.val).cmd = some (op, k)) (hdue : due s k = true)
    (hfree : anyPending (objOf s o.val) = false) :
    exec (.objCmdAct o) s = .next (objCmdEffect o.val op (objMod o.val (fun x => { x with cmd := none }) s)) := by
  change execObjCmdAct o s = _
  unfold execObjCmdAct
  rw [hcmd]
  exact congrArg _ (if_pos ⟨hdue, by rw [hfree]; rfl⟩)

/-- With no record pending, all that an object's queue holds is accepted. -/
theorem queue_pending_of_none {x : ObjSt} (h : anyPending x = false) :
    x.queue.filter (fun q => q.pending) = [] ∧ x.queue.filter (fun q => !q.pending) = x.queue := by
  have hq : ∀ q ∈ x.queue, q.pending = false := by
    simpa [anyPending] using h
  exact ⟨List.filter_eq_nil_iff.mpr fun q hm => by rw [hq q hm]; decide,
    List.filter_eq_self.mpr fun q hm => by rw [hq q hm]; rfl⟩

theorem objCmdEffect_reseq (o : Nat) (s : State) :
    objCmdEffect o 1 s = objMod o (fun x => { x with seqValid := false, history := [] }) s := rfl

theorem objCmdEffect_flush (h : (objOf s o).queue.filter (fun q => !q.pending) ≠ []) :
    objCmdEffect o 2 s = setBit (cntAdd (objMod o (fun x => { x with queue := x.queue.filter (fun q => q.pending) }) s)
      R.OBJ_FLUSH_CNT ((objOf s o).queue.filter (fun q => !q.pending)).length) F.OBJ_STAT_FLUSHED := by
  unfold objCmdEffect
  rw [if_neg (by decide)]
  exact if_neg (mt List.length_eq_zero_iff.mp h)

theorem objCmdAct_reseq_spec (o : Nat) (s : State) :
    let t := objCmdEffect o 1 (objMod o (fun x => { x with cmd := none }) s)
    objOf t o = { objOf s o with cmd := none, seqValid := false, history := [] } ∧
      (∀ p, p ≠ o → objOf t p = objOf s p) ∧ Frame [] s t { s with intake := { s.intake with objs := t.intake.objs } } := by
  rw [objCmdEffect_reseq]
  refine ⟨?_, fun p hp => ?_, rfl, (KeptBut.refl _ s).objMod.objMod, sameMem_of_mem rfl⟩
  · rw [objOf_objMod_self, objOf_objMod_self]
  · rw [objOf_objMod_of_ne hp, objOf_objMod_of_ne hp]

theorem objCmdAct_flush_spec (hfree : anyPending (objOf s o) = false) (hq : (objOf s o).queue ≠ []) :
    let t := objCmdEffect o 2 (objMod o (fun x => { x with cmd := none }) s)
    objOf t o = { objOf s o with cmd := none, queue := [] } ∧
      rdN t R.OBJ_FLUSH_CNT = min (rdN s R.OBJ_FLUSH_CNT + (objOf s o).queue.length) 0xFFFFFFFF ∧
      stBit t F.OBJ_STAT_FLUSHED = 1 ∧ (∀ p, p ≠ o → objOf t p = objOf s p) ∧
      Frame [R.OBJ_FLUSH_CNT, R.OBJ_STAT] s t { s with regs := t.regs, intake := { s.intake with objs := t.intake.objs } } := by
  obtain ⟨hnone, hall⟩ := queue_pending_of_none hfree
  have hall' : (objOf (objMod o (fun x => { x with cmd := none }) s) o).queue.filter (fun q => !q.pending) =
      (objOf s o).queue := by rw [objOf_objMod_self, hall]
  rw [objCmdEffect_flush (by rwa [hall']), hall']
  refine ⟨?_, ?_, stBit_setBit _ _ 0 (by decide), fun p hp => ?_, rfl,
    (((KeptBut.refl _ s).objMod.objMod).cntAdd (by decide)).setBit (by decide), sameMem_of_mem rfl⟩
  · change objOf (objMod o _ (objMod o _ s)) o = _
    rw [objOf_objMod_self, objOf_objMod_self, hnone]
  · exact (rdN_setF _ _ _ (by decide)).trans (rdN_cntAdd_self _ _ _)
  · change objOf (objMod o _ (objMod o _ s)) p = _
    rw [objOf_objMod_of_ne hp, objOf_objMod_of_ne hp]

end Sys2Proof.Machine

namespace Sys2Proof

open Machine

/-- Settles O42: a write of the host queue's registers is a write of fields or one error, and an object command is recorded, then
placed, mirrored or ignored by the unit's part in a pair. -/
theorem hostQueueAndObjectCommands : Obligations.HostQueueAndObjectCommands := by
  unfold Obligations.HostQueueAndObjectCommands
  refine ⟨?_, ?_, ?_, ?_, ?_, ?_, ?_, ?_, ?_, ?_⟩
  · exact fun v s h => ⟨_, rfl, hqTailWrite_near_spec h⟩
  · exact fun v s h => ⟨_, rfl, hqTailWrite_far_spec h⟩
  · exact fun via v s h => ⟨_, rfl, hqBaseWrite_stopped_spec h via v⟩
  · intro via v s h
    obtain ⟨hcur, hframe⟩ := raise_recorded_spec (e := .errRwlWrite) (by decide) rfl via R.OBJ_HQ_BASE v s
    rw [← hqBaseWrite_of_running h] at hcur hframe
    exact ⟨_, rfl, hframe.2.1 _ (by decide), hcur, hframe⟩
  · exact fun via o s h => ⟨_, rfl, objCmd_lone_spec h via o.val 1⟩
  · exact fun via o s h => ⟨_, rfl, objCmd_lone_spec h via o.val 2⟩
  · rintro via o c op s ⟨h, hup⟩ (⟨rfl, rfl⟩ | ⟨rfl, rfl⟩)
    · exact ⟨_, rfl, objCmd_active_spec h hup via o.val 1⟩
    · exact ⟨_, rfl, objCmd_active_spec h hup via o.val 2⟩
  · rintro via o c s h (rfl | rfl)
    · exact ⟨_, rfl, objCmd_passive_spec h via o.val 1⟩
    · exact ⟨_, rfl, objCmd_passive_spec h via o.val 2⟩
  · rintro o s k ⟨hcmd, hdue, hfree⟩
    exact ⟨_, exec_objCmdAct_of_due hcmd hdue hfree, objCmdAct_reseq_spec o.val s⟩
  · rintro o s k ⟨hcmd, hdue, hfree⟩ hq
    exact ⟨_, exec_objCmdAct_of_due hcmd hdue hfree, objCmdAct_flush_spec hfree hq⟩

end Sys2Proof
end

section
/-! SUPPORT. Result words, rejections and the ladle's outbox: what each shows and what it leaves alone (R122 to R125, R388). -/

namespace Sys2Proof.Machine

variable {s t u : State} {offs : List Nat}

/-! ### A 72-bit word in memory -/

theorem rdBytes_of_sameMem (h : SameMem s t) (n : Nat) : ∀ a, rdBytes t a n = rdBytes s a n := by
  induction n with
  | zero => exact fun _ => rfl
  | succ n ih => exact fun a => congrArg₂ List.cons (h a) (ih (a + 1))

theorem rdWord72_of_sameMem (h : SameMem s t) (base i : Nat) : rdWord72 t base i = rdWord72 s base i :=
  congrArg leNat (rdBytes_of_sameMem h 9 _)

/-- A 72-bit word reads as written. -/
theorem rdWord72_wrWord72_self (s : State) (base i : Nat) {w : Nat} (h : w < 2 ^ 72) :
    rdWord72 (wrWord72 s base i w) base i = w := by
  have hlen := length_leBytes 9 w
  have hbytes : rdBytes (wrWord72 s base i w) (base + 16 * i) (leBytes 9 w).length = leBytes 9 w := by
    refine rdBytes_of_written fun j hj => ?_
    unfold wrWord72
    rw [rdByte_wrBytes, if_pos ⟨Nat.le_add_right _ _, Nat.add_lt_add_left hj _⟩, Nat.add_sub_cancel_left]
  rw [hlen] at hbytes
  unfold rdWord72
  rw [hbytes, leNat_leBytes 9 w (by omega)]

/-! ### A host-queue entry's result -/

/-- Of the state, only registers and the entries that wait for DONE to pass them may differ. -/
def DoneOnly (s t : State) : Prop := ∃ r f, t = { s with regs := r, intake := { s.intake with hqFinal := f } }

theorem DoneOnly.trans (h : DoneOnly s t) (h' : DoneOnly t u) : DoneOnly s u := by
  obtain ⟨r, f, rfl⟩ := h
  obtain ⟨r', f', rfl⟩ := h'
  exact ⟨r', f', rfl⟩

theorem DoneOnly.sameMem (h : DoneOnly s t) : SameMem s t := by
  obtain ⟨r, f, rfl⟩ := h
  exact sameMem_of_mem rfl

/-- DONE moves on over finished entries; of the registers it writes its own alone. -/
theorem hqAdvance_spec (n : Nat) : ∀ s, DoneOnly s (hqAdvance n s) ∧ KeptBut [R.OBJ_HQ_DONE] s (hqAdvance n s) := by
  induction n with
  | zero => exact fun s => ⟨⟨s.regs, s.intake.hqFinal, rfl⟩, .refl _ s⟩
  | succ n ih =>
    intro s
    unfold hqAdvance
    dsimp only
    split
    · have first : KeptBut [R.OBJ_HQ_DONE] s (setF s F.OBJ_HQ_DONE_INDEX ((getF s F.OBJ_HQ_DONE_INDEX + 1) % 32768)) :=
        (KeptBut.refl _ s).setF (by decide)
      obtain ⟨parts, kept⟩ := ih _
      exact ⟨DoneOnly.trans ⟨_, _, rfl⟩ parts, (first.withIntake _).trans kept⟩
    · exact ⟨⟨s.regs, s.intake.hqFinal, rfl⟩, .refl _ s⟩

/-- The entry's result word is written and it waits for DONE to pass it. -/
def hqWritten (i w : Nat) (s : State) : State :=
  let t := setBit (wrWord72 s dramBase (getF s F.OBJ_HQ_BASE_BASE + 16 * (i % 16384) + 15) w) F.OBJ_STAT_HQ_DONE
  { t with intake := { t.intake with hqFinal := i :: t.intake.hqFinal } }

/-- A verdict as a result word (R123). -/
def resultWord (v : Verdict3) : Nat := v.code + v.reason * 2 ^ 8 + v.e % 2 ^ 48 * 2 ^ 16

theorem hqResult_eq (i : Nat) (v : Verdict3) (s : State) :
    hqResult i v s = hqAdvance (hqWritten i (resultWord v) s).intake.hqFinal.length (hqWritten i (resultWord v) s) := rfl

theorem hqWritten_eq_with (i w : Nat) (s : State) :
    ∃ r m f, hqWritten i w s = { s with regs := r, mem := m, intake := { s.intake with hqFinal := f } } := by
  obtain ⟨m, hm⟩ := wrBytes_eq_with (leBytes 9 w) s (dramBase + 16 * (getF s F.OBJ_HQ_BASE_BASE + 16 * (i % 16384) + 15))
  unfold hqWritten wrWord72
  rw [hm]
  exact ⟨_, m, _, rfl⟩

/-- What a result does to the state's parts. -/
theorem hqResult_eq_with (i : Nat) (v : Verdict3) (s : State) :
    ∃ r m f, hqResult i v s = { s with regs := r, mem := m, intake := { s.intake with hqFinal := f } } := by
  rw [hqResult_eq]
  obtain ⟨⟨r', f', hr⟩, -⟩ := hqAdvance_spec (hqWritten i (resultWord v) s).intake.hqFinal.length (hqWritten i (resultWord v) s)
  obtain ⟨r, m, f, hw⟩ := hqWritten_eq_with i (resultWord v) s
  rw [hr, hw]
  exact ⟨r', m, f', rfl⟩

theorem hqResult_intake (i : Nat) (v : Verdict3) (s : State) :
    (hqResult i v s).intake.objs = s.intake.objs ∧ (hqResult i v s).intake.used = s.intake.used := by
  obtain ⟨r, m, f, h⟩ := hqResult_eq_with i v s
  rw [h]
  exact ⟨rfl, rfl⟩

/-- A result sets HQ_DONE, may move DONE, and leaves every other field as it was. -/
theorem keptBut_hqResult (i : Nat) (v : Verdict3) (s : State) :
    KeptBut [R.OBJ_HQ_DONE] (setBit s F.OBJ_STAT_HQ_DONE) (hqResult i v s) := by
  rw [hqResult_eq]
  obtain ⟨-, kept⟩ := hqAdvance_spec (hqWritten i (resultWord v) s).intake.hqFinal.length (hqWritten i (resultWord v) s)
  refine KeptBut.trans (KeptBut.of_regs (.refl _ _) ?_) kept
  obtain ⟨m, hm⟩ := wrBytes_eq_with (leBytes 9 (resultWord v)) s
    (dramBase + 16 * (getF s F.OBJ_HQ_BASE_BASE + 16 * (i % 16384) + 15))
  unfold hqWritten wrWord72
  rw [hm]
  rfl

theorem getF_hqResult {f : Fld} (hf : Apart F.OBJ_STAT_HQ_DONE f) (hdone : f.off ∉ [R.OBJ_HQ_DONE]) (i : Nat) (v : Verdict3)
    (s : State) : getF (hqResult i v s) f = getF s f :=
  ((keptBut_hqResult i v s).getF hdone).trans (getF_setF_of_apart s 1 hf)

theorem rdN_hqResult {o : Nat} (ho : o ∉ [R.OBJ_STAT, R.OBJ_HQ_DONE]) (i : Nat) (v : Verdict3) (s : State) :
    rdN (hqResult i v s) o = rdN s o := by
  obtain ⟨hstat, hdone⟩ := not_or.mp (List.mem_cons.not.mp ho)
  exact (rdN_of_kept (keptBut_hqResult i v s) hdone).trans (rdN_setF s _ _ hstat)

theorem hqDone_hqResult (i : Nat) (v : Verdict3) (s : State) : stBit (hqResult i v s) F.OBJ_STAT_HQ_DONE = 1 :=
  (stBit_of_kept (keptBut_hqResult i v s) 0 (by decide)).trans (stBit_setBit s _ 0 (by decide))

theorem resultWord_rejected (reason : Nat) : resultWord ⟨3, reason, 0⟩ = 3 + reason * 2 ^ 8 := by simp [resultWord]

theorem resultWord_accepted (e : Nat) : resultWord ⟨1, 0, e⟩ = 1 + e % 2 ^ 48 * 2 ^ 16 := by simp [resultWord]

theorem resultWord_lt {v : Verdict3} (hcode : v.code < 2 ^ 8) (hreason : v.reason < 2 ^ 8) : resultWord v < 2 ^ 72 := by
  unfold resultWord
  have := Nat.mod_lt v.e (Nat.two_pow_pos 48)
  omega

/-- The result word stands at word 15 of its entry. -/
theorem rdWord72_hqResult (i : Nat) {v : Verdict3} (hcode : v.code < 2 ^ 8) (hreason : v.reason < 2 ^ 8) (s : State) :
    rdWord72 (hqResult i v s) dramBase (getF s F.OBJ_HQ_BASE_BASE + 16 * (i % 16384) + 15) = resultWord v := by
  rw [hqResult_eq]
  obtain ⟨parts, -⟩ := hqAdvance_spec (hqWritten i (resultWord v) s).intake.hqFinal.length (hqWritten i (resultWord v) s)
  have hmem : SameMem (wrWord72 s dramBase (getF s F.OBJ_HQ_BASE_BASE + 16 * (i % 16384) + 15) (resultWord v))
      (hqWritten i (resultWord v) s) := sameMem_of_mem rfl
  rw [rdWord72_of_sameMem parts.sameMem, rdWord72_of_sameMem hmem, rdWord72_wrWord72_self _ _ _ (resultWord_lt hcode hreason)]

/-! ### A rejection -/

/-- A rejection counted, shown in OBJ_REJ_LAST and raised. -/
def rejectShown (reason src obj : Nat) (s : State) : State :=
  raise .objReject 0 (setF (setF (setF (cnt s R.OBJ_REJ_CNT) F.OBJ_REJ_LAST_REASON reason) F.OBJ_REJ_LAST_SRC src)
    F.OBJ_REJ_LAST_OBJ_ID obj)

theorem recReason_lt (why : RecReason) : recReason why < 256 := by cases why <;> decide

theorem logsOnly_rejectShown (reason src obj : Nat) (s : State) : LogsOnly s (rejectShown reason src obj s) :=
  ((((logsOnly_cnt s _).trans (logsOnly_setF _ _ _)).trans (logsOnly_setF _ _ _)).trans (logsOnly_setF _ _ _)).raise

theorem keptBut_rejectShown (reason src obj : Nat) (s : State) :
    KeptBut ([R.OBJ_REJ_CNT, R.OBJ_REJ_LAST, R.OBJ_STAT] ++ errRegs) s (rejectShown reason src obj s) := by
  have shown : KeptBut ([R.OBJ_REJ_CNT, R.OBJ_REJ_LAST, R.OBJ_STAT] ++ errRegs) s
      (setF (setF (setF (cnt s R.OBJ_REJ_CNT) F.OBJ_REJ_LAST_REASON reason) F.OBJ_REJ_LAST_SRC src)
        F.OBJ_REJ_LAST_OBJ_ID obj) :=
    ((((KeptBut.refl _ s).cntAdd (by decide)).setF (by decide)).setF (by decide)).setF (by decide)
  exact shown.raise (by decide) (by decide) (by decide)

theorem rejectShown_shows {reason src obj : Nat} (hreason : reason < 256) (hsrc : src < 8) (hobj : obj < 2048) (s : State) :
    rdN (rejectShown reason src obj s) R.OBJ_REJ_CNT = min (rdN s R.OBJ_REJ_CNT + 1) 0xFFFFFFFF ∧
    getF (rejectShown reason src obj s) F.OBJ_REJ_LAST_REASON = reason ∧
    getF (rejectShown reason src obj s) F.OBJ_REJ_LAST_SRC = src ∧
    getF (rejectShown reason src obj s) F.OBJ_REJ_LAST_OBJ_ID = obj ∧
    stBit (rejectShown reason src obj s) F.OBJ_STAT_REJECT = 1 := by
  unfold rejectShown
  have raised : ∀ u, KeptBut (R.OBJ_STAT :: errRegs) u (raise .objReject 0 u) :=
    fun u => (KeptBut.refl _ u).raise (by decide) (by decide) (by decide)
  refine ⟨?_, ?_, ?_, ?_, stBit_raise_of_tie (by decide) rfl rfl (by decide) (by decide) _⟩
  · rw [rdN_of_kept (raised _) (by decide), rdN_setF _ _ _ (by decide), rdN_setF _ _ _ (by decide),
      rdN_setF _ _ _ (by decide)]
    exact rdN_cntAdd_self _ _ _
  · rw [(raised _).getF (by decide), getF_setF_of_apart _ _ (by decide), getF_setF_of_apart _ _ (by decide),
      getF_setF_of_lt _ _ (by decide) hreason]
  · rw [(raised _).getF (by decide), getF_setF_of_apart _ _ (by decide), getF_setF_of_lt _ _ (by decide) hsrc]
  · rw [(raised _).getF (by decide), getF_setF_of_lt _ _ (by decide) hobj]

/-! ### The ladle's outbox -/

theorem ladleOut_nil (ty : Nat) (s : State) : ladleOut ty [] s = s := by
  unfold ladleOut
  split
  · rfl
  · rfl
  · rfl

theorem ladleFlush_of_empty (h : s.hier.outbox = some []) :
    ladleFlush s = { s with hier := { s.hier with outbox := none } } := by
  unfold ladleFlush
  rw [h]
  exact forEach_induct (· = { s with hier := { s.hier with outbox := none } }) _ rfl
    fun ty _ u hu => (ladleOut_nil ty u).trans hu

/-- What sending ladle frames leaves alone: the intake, memory, and the registers below those of the ports. -/
structure LadleSent (s t : State) : Prop where
  intake : t.intake = s.intake
  mem : SameMem s t
  low : ∀ o, o < 0x600000 → rd t o = rd s o

theorem LadleSent.refl (s : State) : LadleSent s s := ⟨rfl, fun _ => rfl, fun _ _ => rfl⟩

theorem LadleSent.trans (h : LadleSent s t) (h' : LadleSent t u) : LadleSent s u :=
  ⟨h'.intake.trans h.intake, fun a => (h'.mem a).trans (h.mem a), fun o ho => (h'.low o ho).trans (h.low o ho)⟩

theorem LadleSent.getF (h : LadleSent s t) {f : Fld} (hf : f.off < 0x600000) : getF t f = getF s f :=
  congrArg (fget · _ _) (h.low _ hf)

theorem LadleSent.rdN (h : LadleSent s t) {o : Nat} (ho : o < 0x600000) : rdN t o = rdN s o := congrArg BitVec.toNat (h.low o ho)

theorem LadleSent.stBit (h : LadleSent s t) {f : Fld} (hf : f.off < 0x600000) (i : Nat) : stBit t f i = stBit s f i :=
  h.getF (f := ⟨f.off, f.lo + i, f.lo + i⟩) hf

theorem ladleSent_hier (i : HierState) (s : State) : LadleSent s { s with hier := i } := ⟨rfl, fun _ => rfl, fun _ _ => rfl⟩

theorem ladleSent_queueLadle (p tc : Nat) (b : List Byte) (s : State) : LadleSent s (queueLadle p tc b s) := by
  unfold queueLadle
  split
  · exact ⟨rfl, fun _ => rfl, fun _ _ => rfl⟩
  · refine ⟨rfl, fun _ => rfl, fun o ho => rd_wr_of_ne s _ ?_⟩
    unfold R.NET_TX_LINK
    omega

theorem ladleSent_ladleSend (group ty count : Nat) (entries : List Byte) (s : State) :
    LadleSent s (ladleSend group ty count entries s) := by
  unfold ladleSend
  extract_lets p seq t up body
  split
  · exact (ladleSent_hier _ s).trans (ladleSent_queueLadle _ _ _ _)
  · exact ladleSent_hier _ s

theorem ladleSent_ladleSendAll (group ty size most : Nat) (entries : List (List Byte)) (s : State) :
    LadleSent s (ladleSendAll group ty size most entries s) :=
  forEach_induct (LadleSent s) _ (.refl s) fun _ _ _ h => h.trans (ladleSent_ladleSend _ _ _ _ _)

theorem ladleSent_ladleOut (ty : Nat) (entries : List (List Byte)) (s : State) : LadleSent s (ladleOut ty entries s) := by
  unfold ladleOut
  split
  · exact ladleSent_ladleSendAll _ _ _ _ _ s
  · exact ladleSent_ladleSendAll _ _ _ _ _ s
  · exact ladleSent_ladleSendAll _ _ _ _ _ s

theorem ladleSent_ladleFlush (s : State) : LadleSent s (ladleFlush s) := by
  unfold ladleFlush
  split
  · exact .refl s
  · exact (ladleSent_hier _ s).trans
      (forEach_induct (LadleSent _) _ (.refl _) fun _ _ _ h => h.trans (ladleSent_ladleOut _ _ _))

end Sys2Proof.Machine
end

section
/-! SUPPORT. RECORD_JUDGE: a host-queue record rejected at check 1, or accepted at a lone unit (R121 to R129) (O43). -/

namespace Sys2Proof.Machine

variable {s t u : State} {offs : List Nat} {b : List Byte} {g : Seg} {q : QEnt} {ack : AckRef} {obj seq e i : Nat} {origin : Int}

/-! ### The engine's turn -/

/-- The engine answers with what it made of the record, at a manager after the ladle's frames have gone out. -/
theorem exec_recordJudge_of_source {src : Nat} (h : judgeSource s = some src) :
    ∃ t v, exec .recordJudge s = .next t ∧ (v = s ∨ v = ladleOpen s) ∧ LadleSent (judgeOne src v) t := by
  change ∃ t v, execRecordJudge s = _ ∧ _
  unfold execRecordJudge
  rw [h]
  dsimp only
  split
  · exact ⟨_, s, rfl, .inl rfl, .refl _⟩
  · split
    · exact ⟨_, ladleOpen s, rfl, .inr rfl, .refl _⟩
    · exact ⟨_, ladleOpen s, rfl, .inr rfl, ladleSent_ladleFlush _⟩

theorem exec_recordJudge_of_unmanaged {src : Nat} (h : judgeSource s = some src) (hm : isManager s = false) :
    exec .recordJudge s = .next (judgeOne src s) := by
  change execRecordJudge s = _
  unfold execRecordJudge
  rw [h, hm]
  rfl

theorem judgeSource_of_next {src : Nat} (hused : s.intake.used < 2048) (hfatal : s.err.fatal = false)
    (h : nextSource s = some src) : judgeSource s = some src := by
  unfold judgeSource
  rw [hfatal, if_neg (by simp; omega), h]

/-- The turn is the host queue's, one more record is taken in the block, and HEAD moves past the entry. -/
def hqTaken (s : State) : State :=
  setF { s with intake := { s.intake with turn := 4, used := s.intake.used + 1 } } F.OBJ_HQ_HEAD_INDEX
    ((getF s F.OBJ_HQ_HEAD_INDEX + 1) % 32768)

/-- The record at HEAD. -/
def hqRecord (s : State) : List Byte :=
  rdPacked s dramBase (getF s F.OBJ_HQ_BASE_BASE + 16 * (getF s F.OBJ_HQ_HEAD_INDEX % 16384)) 112

/-- The compact view is in use (TSU_MEDIA_CFG.CMP). -/
def compactView (s : State) : Bool := getF s F.TSU_MEDIA_CFG_CMP == 1

theorem keptBut_hqTaken (s : State) : KeptBut [R.OBJ_HQ_HEAD] s (hqTaken s) :=
  ((KeptBut.refl _ s).withIntake _).setF (by decide)

theorem objs_hqTaken (s : State) : (hqTaken s).intake.objs = s.intake.objs := rfl

theorem head_hqTaken (s : State) : getF (hqTaken s) F.OBJ_HQ_HEAD_INDEX = (getF s F.OBJ_HQ_HEAD_INDEX + 1) % 32768 :=
  getF_setF_of_lt _ _ (by decide) (Nat.mod_lt _ (Nat.two_pow_pos 15))

theorem judgeOne_hq (s : State) :
    judgeOne 4 s = judge (hqRecord s) (compactView s) 4 (.hq (getF s F.OBJ_HQ_HEAD_INDEX)) (hqTaken s) := by
  have hmem : SameMem s { s with intake := { s.intake with turn := 4, used := s.intake.used + 1 } } := sameMem_of_mem rfl
  have hbytes := rdPacked_of_sameMem hmem dramBase
    (getF s F.OBJ_HQ_BASE_BASE + 16 * (getF s F.OBJ_HQ_HEAD_INDEX % 16384)) 112
  have hview : compactView (hqTaken s) = compactView s := congrArg (· == 1) ((keptBut_hqTaken s).getF (by decide))
  rw [hqRecord, ← hbytes, ← hview]
  rfl

/-! ### Rejection at check 1 (R124) -/

theorem judge_of_checkFailed {compact : Bool} {why : RecReason} (hcheck : checkRecord b compact = why) (hwhy : why ≠ .none)
    (src : Nat) (ack : AckRef) (s : State) : judge b compact src ack s = rejectNow why src (recOf b).obj ack s := by
  unfold judge
  dsimp only
  split
  · exact absurd (hcheck.symm.trans ‹_›) hwhy
  · rw [hcheck]

theorem rejectNow_hq (why : RecReason) (src obj i : Nat) (s : State) :
    rejectNow why src obj (.hq i) s =
      hqResult i ⟨3, recReason why, 0⟩ (rejectShown (recReason why) src (obj % 2048) s) := rfl

/-- What a rejected host-queue entry shows. -/
theorem rejectNow_hq_shows (why : RecReason) (obj i : Nat) (s : State) :
    let t := rejectNow why 4 obj (.hq i) s
    t.intake.objs = s.intake.objs ∧
    rdN t R.OBJ_REJ_CNT = min (rdN s R.OBJ_REJ_CNT + 1) 0xFFFFFFFF ∧ getF t F.OBJ_REJ_LAST_REASON = recReason why ∧
    getF t F.OBJ_REJ_LAST_SRC = 4 ∧ getF t F.OBJ_REJ_LAST_OBJ_ID = obj % 2048 ∧ stBit t F.OBJ_STAT_REJECT = 1 ∧
    getF t F.OBJ_HQ_HEAD_INDEX = getF s F.OBJ_HQ_HEAD_INDEX ∧
    rdWord72 t dramBase (getF s F.OBJ_HQ_BASE_BASE + 16 * (i % 16384) + 15) = 3 + recReason why * 2 ^ 8 := by
  rw [rejectNow_hq]
  obtain ⟨hcnt, hreason, hsrc, hobj, hbit⟩ :=
    rejectShown_shows (recReason_lt why) (show 4 < 8 by decide) (Nat.mod_lt obj (show 0 < 2048 by decide)) s
  have kept := keptBut_rejectShown (recReason why) 4 (obj % 2048) s
  have hintake := (logsOnly_rejectShown (recReason why) 4 (obj % 2048) s).intake
  generalize rejectShown (recReason why) 4 (obj % 2048) s = u at *
  have hword := rdWord72_hqResult i (v := ⟨3, recReason why, 0⟩) (show 3 < 2 ^ 8 by decide) (recReason_lt why) u
  rw [kept.getF (by decide), resultWord_rejected] at hword
  refine ⟨(hqResult_intake i _ u).1.trans (congrArg IntakeState.objs hintake), ?_, ?_, ?_, ?_, ?_, ?_, hword⟩
  · rw [rdN_hqResult (by decide), hcnt]
  · rw [getF_hqResult (by decide) (by decide), hreason]
  · rw [getF_hqResult (by decide) (by decide), hsrc]
  · rw [getF_hqResult (by decide) (by decide), hobj]
  · exact (getF_hqResult (f := ⟨R.OBJ_STAT, 2, 2⟩) (by decide) (by decide) _ _ _).trans hbit
  · rw [getF_hqResult (by decide) (by decide), kept.getF (by decide)]

/-- RECORD_JUDGE of a host queue's record that fails check 1: what shows, once the ladle's frames have gone out where the unit is
a manager. -/
theorem judgeOne_hq_rejects {why : RecReason} {v : State} (hwhy : why ≠ .none)
    (hcheck : checkRecord (hqRecord s) (compactView s) = why) (hv : v = s ∨ v = ladleOpen s)
    (sent : LadleSent (judgeOne 4 v) t) :
    t.intake.objs = s.intake.objs ∧
    rdN t R.OBJ_REJ_CNT = min (rdN s R.OBJ_REJ_CNT + 1) 0xFFFFFFFF ∧ getF t F.OBJ_REJ_LAST_REASON = recReason why ∧
    getF t F.OBJ_REJ_LAST_SRC = 4 ∧ getF t F.OBJ_REJ_LAST_OBJ_ID = (recOf (hqRecord s)).obj % 2048 ∧
    stBit t F.OBJ_STAT_REJECT = 1 ∧ getF t F.OBJ_HQ_HEAD_INDEX = (getF s F.OBJ_HQ_HEAD_INDEX + 1) % 32768 ∧
    rdWord72 t dramBase (getF s F.OBJ_HQ_BASE_BASE + 16 * (getF s F.OBJ_HQ_HEAD_INDEX % 16384) + 15) =
      3 + recReason why * 2 ^ 8 := by
  have hopened : LadleSent s v := by
    rcases hv with rfl | rfl
    · exact .refl _
    · exact ladleSent_hier _ _
  have hrecord : hqRecord v = hqRecord s := by
    unfold hqRecord
    rw [rdPacked_of_sameMem hopened.mem, hopened.getF (by decide), hopened.getF (by decide)]
  have hview : compactView v = compactView s := congrArg (· == 1) (hopened.getF (by decide))
  have htaken := keptBut_hqTaken v
  have hjudge := judgeOne_hq v
  rw [judge_of_checkFailed (why := why) (by rw [hrecord, hview]; exact hcheck) hwhy] at hjudge
  obtain ⟨hobjs, hcnt, hreason, hsrc, hobj, hbit, hhead, hword⟩ :=
    rejectNow_hq_shows why (recOf (hqRecord v)).obj (getF v F.OBJ_HQ_HEAD_INDEX) (hqTaken v)
  rw [← hjudge] at hobjs hcnt hreason hsrc hobj hbit hhead hword
  refine ⟨?_, ?_, ?_, ?_, ?_, ?_, ?_, ?_⟩
  · rw [sent.intake, hobjs, objs_hqTaken, hopened.intake]
  · rw [sent.rdN (by decide), hcnt, rdN_of_kept htaken (by decide), hopened.rdN (by decide)]
  · rw [sent.getF (by decide), hreason]
  · rw [sent.getF (by decide), hsrc]
  · rw [sent.getF (by decide), hobj, hrecord]
  · rw [sent.stBit (by decide), hbit]
  · rw [sent.getF (by decide), hhead, head_hqTaken, hopened.getF (by decide)]
  · rw [htaken.getF (by decide), hopened.getF (by decide), hopened.getF (by decide)] at hword
    rw [rdWord72_of_sameMem sent.mem, hword]

/-! ### Acceptance at a lone unit (R124 to R129) -/

/-- The entry of a record that awaits its decision, from the host queue, of a unit that neither mirrors nor forwards it. -/
def freshEnt (g : Seg) (ack : AckRef) : QEnt :=
  { seg := g, pending := true, removed := false, item := none, committed := false, litem := 0, needed := [], src := 4,
    acks := [ack] }

/-- An object that has taken a new record into its queue. -/
def objQueued (g : Seg) (ack : AckRef) (x : ObjSt) : ObjSt :=
  { x with high := g.rcd.seq, seqValid := true, queue := x.queue ++ [freshEnt g ack] }

/-- The minimum lead hangs on the unit's part in a hierarchy and in a pair alone (R57). -/
theorem lead_of_kept (h : KeptBut offs s t) (hoffs : ∀ o ∈ [R.HIER_CFG, R.CLM_CFG, R.CLM_STATE], o ∉ offs) :
    lead t = lead s := by
  simp only [List.mem_cons, List.not_mem_nil, or_false, forall_eq_or_imp, forall_eq] at hoffs
  obtain ⟨hhier, hcfg, hstate⟩ := hoffs
  unfold lead isManager isActive isPair
  rw [h.getF (f := F.HIER_CFG_ROLE) hhier, h.getF (f := F.CLM_CFG_EN) hcfg, h.getF (f := F.CLM_STATE_ROLE) hstate]

/-- Taking the entry moves nothing that its time is judged by. -/
theorem recordTime_hqTaken (s : State) (r : Rec) (compact : Bool) : recordTime (hqTaken s) r compact = recordTime s r compact := by
  have kept := keptBut_hqTaken s
  have hlead : lead (hqTaken s) = lead s := lead_of_kept kept (by decide)
  have hrate : fsInt (hqTaken s) = fsInt s := by
    unfold fsInt rate96
    rw [kept.getF (by decide)]
  have hblk : blk (hqTaken s) = blk s := rfl
  have hepoch : epoch (hqTaken s) = epoch s := rfl
  have hlive : ∀ f, getL (hqTaken s) f = getL s f := fun _ => rfl
  unfold recordTime applyMsi
  rw [hlead, hrate, hblk, hepoch, hlive, hlive]

theorem judge_of_new {compact : Bool} (hcheck : checkRecord b compact = .none) (hrun : running s = true)
    (hst : (objOf s (recOf b).obj).st = 1 ∨ (objOf s (recOf b).obj).st = 2) (hpair : isPair s = false)
    (hworker : isWorker s = false) (hfate : seqFate (objOf s (recOf b).obj) (recOf b).seq = .new false false)
    (src : Nat) (ack : AckRef) : judge b compact src ack s = judgeNew (recOf b) compact false src ack s := by
  have hlive : (objOf s (recOf b).obj).st ≠ 0 ∧ (objOf s (recOf b).obj).st ≠ 3 := by omega
  unfold judge
  rw [hcheck]
  dsimp only
  rw [hrun, if_neg (by decide), if_neg hlive.1, if_neg hlive.2, hpair, hworker, if_neg (by simp), hfate]
  rfl

theorem eLast_of_bare {x : ObjSt} (hq : x.queue = []) (hcur : x.cur = none) : eLast x = none := by
  unfold eLast inUse
  rw [hq, hcur]
  rfl

theorem judgeNew_of_bare {r : Rec} {compact : Bool} (htime : recordTime s r compact = .ok (e, origin, false))
    (hq : (objOf s r.obj).queue = []) (hcur : (objOf s r.obj).cur = none) (hpair : isPair s = false) (src : Nat)
    (ack : AckRef) : judgeNew r compact false src ack s = enqueue ⟨r, e, origin, false⟩ false src ack false s := by
  unfold judgeNew
  rw [htime]
  simp only [Bool.false_eq_true, if_false, eLast_of_bare hq hcur, and_false, inUse, hq, isActive_of_lone hpair, Bool.false_and,
    false_and]
  rfl

/-- The record stands in its object's queue and awaits its decision. -/
def recQueued (g : Seg) (ack : AckRef) (s : State) : State :=
  objMod g.rcd.obj (fun x => { x with queue := x.queue ++ [freshEnt g ack] })
    (objMod g.rcd.obj (fun x => { x with refused := x.refused, high := g.rcd.seq, seqValid := true }) s)

theorem objOf_recQueued_self (g : Seg) (ack : AckRef) (s : State) :
    objOf (recQueued g ack s) g.rcd.obj = objQueued g ack (objOf s g.rcd.obj) := by
  unfold recQueued
  rw [objOf_objMod_self, objOf_objMod_self]
  rfl

theorem objOf_recQueued_of_ne {p : Nat} (h : p ≠ g.rcd.obj) (ack : AckRef) (s : State) :
    objOf (recQueued g ack s) p = objOf s p :=
  (objOf_objMod_of_ne h _ _).trans (objOf_objMod_of_ne h _ _)

/-- At a lone unit a record enters the queue and is decided at once. -/
theorem enqueue_of_lone (hpair : isPair s = false) (hman : isManager s = false) (g : Seg) (ack : AckRef) :
    enqueue g false 4 ack false s = tryAccept g.rcd.obj g.rcd.seq (recQueued g ack s) := by
  have hactive (o : Nat) (f : ObjSt → ObjSt) : isActive (objMod o f s) = false := isActive_of_lone (s := objMod o f s) hpair
  have hmanager (o : Nat) (f : ObjSt → ObjSt) : isManager (objMod o f s) = false := hman
  unfold enqueue
  simp only [Bool.false_eq_true, if_false, hmanager, hactive, Bool.false_and, false_and]
  rfl

/-- An entry that awaits neither the standby nor a worker is accepted. -/
theorem tryAccept_of_unmirrored (hpend : pendingOf (objOf s obj) seq = some q) (hitem : q.item = none)
    (hneeded : q.needed = []) (hlitem : q.litem = 0) (hfatal : s.err.fatal = false) :
    tryAccept obj seq s = acceptRec obj seq q.seg.unprot s := by
  unfold tryAccept
  rw [hpend]
  dsimp only
  rw [hitem, hneeded, hlitem, hfatal]
  rfl

theorem pendingOf_single {x : ObjSt} (hq : x.queue = [q]) (hpend : q.pending = true) (hseq : q.seg.rcd.seq = seq) :
    pendingOf x seq = some q := by
  unfold pendingOf
  rw [hq]
  simp [hpend, hseq]

/-- The entry of an accepted record (R127). -/
def entAccepted (unprot : Bool) (q : QEnt) : QEnt :=
  { q with pending := false, item := none, needed := [], acks := [], seg := { q.seg with unprot := unprot } }

theorem queueAccept_single (hpend : q.pending = true) (hseq : q.seg.rcd.seq = seq) (hrem : q.removed = false) (unprot : Bool) :
    queueAccept seq unprot [q] = [entAccepted unprot q] := by
  simp [queueAccept, entAccepted, hpend, hseq, hrem]

theorem queueHits_single (hpend : q.pending = true) (hseq : q.seg.rcd.seq = seq) : queueHits seq [q] = 0 := by
  simp [queueHits, hpend, hseq]

/-- An object whose pending record of a sequence number and effective block is accepted. -/
def objTook (seq e : Nat) (x : ObjSt) : ObjSt :=
  { x with queue := queueAccept seq false x.queue, history := ((seq, e) :: x.history).take 8 }

/-- A record is accepted and counted. -/
def recCounted (obj seq : Nat) (q : QEnt) (s : State) : State :=
  cnt (objMod obj (objTook seq q.seg.e) s) R.OBJ_ACC_CNT

/-- A record is accepted, counted and recorded in the journal; its verdict is still to be given. -/
def recAccepted (obj seq : Nat) (q : QEnt) (s : State) : State :=
  journal (recSrc q.src) 1 obj seq (16 * q.seg.e) (recCounted obj seq q s)

/-- The acceptance of an object's only record, with no segment current, removes nothing. -/
theorem acceptRec_single (hq : (objOf s obj).queue = [q]) (hpend : q.pending = true) (hseq : q.seg.rcd.seq = seq)
    (hcur : (objOf s obj).cur = none) :
    acceptRec obj seq false s = forEach q.acks (giveVerdict ⟨1, 0, q.seg.e⟩) (recAccepted obj seq q s) := by
  unfold acceptRec
  dsimp only
  rw [pendingOf_single hq hpend hseq, hcur, hq, queueHits_single hpend hseq]
  simp only [Bool.and_false, Bool.false_eq_true, if_false]
  rfl

/-- An object with nothing queued once its new record is accepted. -/
def objAccepted (g : Seg) (ack : AckRef) (x : ObjSt) : ObjSt :=
  { x with high := g.rcd.seq, seqValid := true, queue := [entAccepted false (freshEnt g ack)],
           history := ((g.rcd.seq, g.e) :: x.history).take 8 }

theorem objTook_objQueued {x : ObjSt} (hq : x.queue = []) (g : Seg) (ack : AckRef) :
    objTook g.rcd.seq g.e (objQueued g ack x) = objAccepted g ack x := by
  have hown : queueAccept g.rcd.seq false [freshEnt g ack] = [entAccepted false (freshEnt g ack)] :=
    queueAccept_single rfl rfl rfl false
  unfold objTook objQueued objAccepted
  rw [hq, List.nil_append, hown]

/-- The host queue's record, from its entry on: queued, accepted, and answered in its result word. -/
def hqAccepted (g : Seg) (i : Nat) (s : State) : State :=
  hqResult i ⟨1, 0, g.e⟩ (recAccepted g.rcd.obj g.rcd.seq (freshEnt g (.hq i)) (recQueued g (.hq i) s))

theorem enqueue_of_lone_bare (hpair : isPair s = false) (hman : isManager s = false) (hfatal : s.err.fatal = false)
    (hq : (objOf s g.rcd.obj).queue = []) (hcur : (objOf s g.rcd.obj).cur = none) (hg : g.unprot = false) (i : Nat) :
    enqueue g false 4 (.hq i) false s = hqAccepted g i s := by
  have hobj := objOf_recQueued_self g (.hq i) s
  have hqueue : (objOf (recQueued g (.hq i) s) g.rcd.obj).queue = [freshEnt g (.hq i)] := by
    rw [hobj, objQueued, hq]
    rfl
  have hcur' : (objOf (recQueued g (.hq i) s) g.rcd.obj).cur = none := by
    rw [hobj]
    exact hcur
  have hpend : pendingOf (objOf (recQueued g (.hq i) s) g.rcd.obj) g.rcd.seq = some (freshEnt g (.hq i)) :=
    pendingOf_single hqueue rfl rfl
  have hseg : (freshEnt g (.hq i)).seg.unprot = false := hg
  rw [enqueue_of_lone hpair hman, tryAccept_of_unmirrored hpend rfl rfl rfl hfatal, hseg,
    acceptRec_single (seq := g.rcd.seq) hqueue rfl rfl hcur']
  rfl

theorem recAccepted_intake (obj seq : Nat) (q : QEnt) (s : State) :
    (recAccepted obj seq q s).intake = (recCounted obj seq q s).intake := (logsOnly_journal _ _ _ _ _ _).intake

theorem objOf_recAccepted_self (obj seq : Nat) (q : QEnt) (s : State) :
    objOf (recAccepted obj seq q s) obj = objTook seq q.seg.e (objOf s obj) :=
  (objOf_of_objs (congrArg IntakeState.objs (recAccepted_intake obj seq q s)) obj).trans (objOf_objMod_self obj _ s)

theorem objOf_recAccepted_of_ne {p : Nat} (h : p ≠ obj) (seq : Nat) (q : QEnt) (s : State) :
    objOf (recAccepted obj seq q s) p = objOf s p :=
  (objOf_of_objs (congrArg IntakeState.objs (recAccepted_intake obj seq q s)) p).trans (objOf_objMod_of_ne h _ s)

theorem used_recAccepted (obj seq : Nat) (q : QEnt) (s : State) : (recAccepted obj seq q s).intake.used = s.intake.used :=
  (congrArg IntakeState.used (recAccepted_intake obj seq q s)).trans rfl

theorem keptBut_recAccepted (obj seq : Nat) (q : QEnt) (s : State) :
    KeptBut (R.OBJ_ACC_CNT :: jnlRegs) s (recAccepted obj seq q s) :=
  (((KeptBut.refl _ s).objMod).cntAdd (by decide)).journal (by decide)

theorem accCnt_recAccepted (obj seq : Nat) (q : QEnt) (s : State) :
    rdN (recAccepted obj seq q s) R.OBJ_ACC_CNT = min (rdN s R.OBJ_ACC_CNT + 1) 0xFFFFFFFF := by
  have kept : KeptBut jnlRegs (recCounted obj seq q s) (recAccepted obj seq q s) :=
    (KeptBut.refl _ _).journal (List.Subset.refl _)
  exact (rdN_of_kept kept (by decide)).trans (rdN_cntAdd_self _ _ _)

/-- What the acceptance of a host queue's record shows and leaves alone. -/
theorem hqAccepted_spec (hq : (objOf s g.rcd.obj).queue = []) (i : Nat) :
    let t := hqAccepted g i s
    objOf t g.rcd.obj = objAccepted g (.hq i) (objOf s g.rcd.obj) ∧ (∀ p, p ≠ g.rcd.obj → objOf t p = objOf s p) ∧
    t.intake.used = s.intake.used ∧ rdN t R.OBJ_ACC_CNT = min (rdN s R.OBJ_ACC_CNT + 1) 0xFFFFFFFF ∧
    getF t F.OBJ_HQ_HEAD_INDEX = getF s F.OBJ_HQ_HEAD_INDEX ∧ stBit t F.OBJ_STAT_HQ_DONE = 1 ∧
    rdWord72 t dramBase (getF s F.OBJ_HQ_BASE_BASE + 16 * (i % 16384) + 15) = 1 + g.e % 2 ^ 48 * 2 ^ 16 := by
  unfold hqAccepted
  have hself := objOf_recQueued_self g (.hq i) s
  have hother : ∀ p, p ≠ g.rcd.obj → objOf (recQueued g (.hq i) s) p = objOf s p := fun p h => objOf_recQueued_of_ne h _ s
  have kept : KeptBut [] s (recQueued g (.hq i) s) := (KeptBut.refl _ s).objMod.objMod
  have hused : (recQueued g (.hq i) s).intake.used = s.intake.used := rfl
  generalize recQueued g (.hq i) s = u at *
  have hacc := objOf_recAccepted_self g.rcd.obj g.rcd.seq (freshEnt g (.hq i)) u
  have hacc' : ∀ p, p ≠ g.rcd.obj → objOf (recAccepted g.rcd.obj g.rcd.seq (freshEnt g (.hq i)) u) p = objOf s p :=
    fun p hp => (objOf_recAccepted_of_ne hp _ _ u).trans (hother p hp)
  have hused' := (used_recAccepted g.rcd.obj g.rcd.seq (freshEnt g (.hq i)) u).trans hused
  have hcnt := accCnt_recAccepted g.rcd.obj g.rcd.seq (freshEnt g (.hq i)) u
  have kept' := (kept.mono (List.nil_subset _)).trans (keptBut_recAccepted g.rcd.obj g.rcd.seq (freshEnt g (.hq i)) u)
  rw [rdN_of_kept kept (by decide)] at hcnt
  generalize recAccepted g.rcd.obj g.rcd.seq (freshEnt g (.hq i)) u = v at *
  have hword := rdWord72_hqResult i (v := ⟨1, 0, g.e⟩) (show 1 < 2 ^ 8 by decide) (show 0 < 2 ^ 8 by decide) v
  rw [kept'.getF (by decide), resultWord_accepted] at hword
  obtain ⟨hres, hresUsed⟩ := hqResult_intake i ⟨1, 0, g.e⟩ v
  refine ⟨?_, fun p hp => ?_, hresUsed.trans hused', ?_, ?_, hqDone_hqResult _ _ _, hword⟩
  · rw [objOf_of_objs hres, hacc, hself]
    exact objTook_objQueued hq g (.hq i)
  · exact (objOf_of_objs hres p).trans (hacc' p hp)
  · rw [rdN_hqResult (by decide), hcnt]
  · rw [getF_hqResult (by decide) (by decide), kept'.getF (by decide)]

/-- RECORD_JUDGE of a good new record of the host queue at a lone unit (R124, R127, R129). -/
theorem judgeOne_hq_accepts (hcheck : checkRecord (hqRecord s) (compactView s) = .none) (hrun : running s = true)
    (hst : (objOf s (recOf (hqRecord s)).obj).st = 1 ∨ (objOf s (recOf (hqRecord s)).obj).st = 2)
    (hpair : isPair s = false) (hworker : isWorker s = false) (hman : isManager s = false) (hfatal : s.err.fatal = false)
    (hfate : seqFate (objOf s (recOf (hqRecord s)).obj) (recOf (hqRecord s)).seq = .new false false)
    (hq : (objOf s (recOf (hqRecord s)).obj).queue = []) (hcur : (objOf s (recOf (hqRecord s)).obj).cur = none)
    (htime : recordTime s (recOf (hqRecord s)) (compactView s) = .ok (e, origin, false)) :
    judgeOne 4 s = hqAccepted ⟨recOf (hqRecord s), e, origin, false⟩ (getF s F.OBJ_HQ_HEAD_INDEX) (hqTaken s) := by
  have kept := keptBut_hqTaken s
  have hrun' : running (hqTaken s) = true := (congrArg (· != 0) (kept.getF (by decide))).trans hrun
  have hpair' : isPair (hqTaken s) = false := (congrArg (· == 1) (kept.getF (by decide))).trans hpair
  have hworker' : isWorker (hqTaken s) = false := (congrArg (· == 2) (kept.getF (by decide))).trans hworker
  have hman' : isManager (hqTaken s) = false := (congrArg (· == 1) (kept.getF (by decide))).trans hman
  rw [judgeOne_hq, judge_of_new hcheck hrun' hst hpair' hworker' hfate,
    judgeNew_of_bare ((recordTime_hqTaken s _ _).trans htime) hq hcur hpair',
    enqueue_of_lone_bare (g := ⟨recOf (hqRecord s), e, origin, false⟩) hpair' hman' hfatal hq hcur rfl]

end Sys2Proof.Machine
end

section
/-! SUPPORT. A pending record refused at its effective block, metadata frames taken up, acknowledgements, and the obligation of
the records (O43; R60, R116, R122 to R131). -/

namespace Sys2Proof.Machine

variable {s t u : State} {offs : List Nat} {q : QEnt} {o n : Nat}

/-! ### RECORD_LATE_REFUSE -/

/-- A record that waits for the decision of this unit alone: it came by a port or the host queue, and nobody is to be told. -/
structure OwnPending (q : QEnt) : Prop where
  pending : q.pending = true
  src : q.src < 5
  item : q.item = none
  litem : q.litem = 0
  acks : q.acks = []

/-- An object's pending record is dropped and its rejection shown. -/
def recRefused (o reason : Nat) (q : QEnt) (s : State) : State :=
  rejectShown reason q.src o (dropRefused o q.seg.rcd.seq s)

theorem refuseRec_of_own (h : OwnPending q) (hq : (objOf s o).queue = [q]) (reason : Nat) :
    refuseRec o q.seg.rcd.seq reason s = recRefused o reason q s := by
  unfold refuseRec
  rw [pendingOf_single hq h.pending rfl]
  dsimp only
  rw [if_pos h.src, h.acks, forEach_nil]
  rfl

theorem refuseEverywhere_of_own (h : OwnPending q) (hq : (objOf s o).queue = [q]) (reason : Nat) (tell : Bool) :
    refuseEverywhere o q.seg.rcd.seq reason tell s = recRefused o reason q s := by
  rw [← refuseRec_of_own h hq]
  unfold refuseEverywhere
  rw [pendingOf_single hq h.pending rfl]
  dsimp only
  rw [h.item, h.litem, if_pos (.inl rfl)]

/-- Of the state, only registers, error engine, journal and objects may differ. -/
def ObjLogsOnly (s t : State) : Prop :=
  ∃ r e j o, t = { s with regs := r, err := e, jnl := j, intake := { s.intake with objs := o } }

theorem ObjLogsOnly.mem (h : ObjLogsOnly s t) : t.mem = s.mem := by
  obtain ⟨r, e, j, o, rfl⟩ := h
  rfl

theorem objLogsOnly_recRefused (o reason : Nat) (q : QEnt) (s : State) : ObjLogsOnly s (recRefused o reason q s) := by
  obtain ⟨r, e, j, h⟩ := logsOnly_rejectShown reason q.src o (dropRefused o q.seg.rcd.seq s)
  exact ⟨r, e, j, _, h⟩

/-- What the refusal of an object's one record does to the object. -/
def objRefused (q : QEnt) (x : ObjSt) : ObjSt :=
  { x with queue := [], refused := (q.seg.rcd.seq :: x.refused.filter (· != q.seg.rcd.seq)).take 8 }

theorem objOf_recRefused_self (hpend : q.pending = true) (hq : (objOf s o).queue = [q]) (reason : Nat) :
    objOf (recRefused o reason q s) o = objRefused q (objOf s o) := by
  have hobjs := congrArg IntakeState.objs
    (logsOnly_rejectShown reason q.src o (dropRefused o q.seg.rcd.seq s)).intake
  have hdrop : [q].filter (fun x => !(x.pending && x.seg.rcd.seq == q.seg.rcd.seq)) = [] := by simp [hpend]
  unfold recRefused
  rw [objOf_of_objs hobjs, dropRefused, objOf_objMod_self, hq, hdrop]
  rfl

theorem objOf_recRefused_of_ne {p : Nat} (h : p ≠ o) (reason : Nat) (q : QEnt) (s : State) :
    objOf (recRefused o reason q s) p = objOf s p := by
  have hobjs := congrArg IntakeState.objs
    (logsOnly_rejectShown reason q.src o (dropRefused o q.seg.rcd.seq s)).intake
  exact (objOf_of_objs hobjs p).trans (objOf_objMod_of_ne h _ s)

/-- What the refusal LATE of an object's one record shows, and all that it may change. -/
structure LateShown (o : Nat) (q : QEnt) (s t : State) : Prop where
  self : objOf t o = objRefused q (objOf s o)
  other : ∀ p, p ≠ o → objOf t p = objOf s p
  count : rdN t R.OBJ_REJ_CNT = min (rdN s R.OBJ_REJ_CNT + 1) 0xFFFFFFFF
  reason : getF t F.OBJ_REJ_LAST_REASON = 8
  src : getF t F.OBJ_REJ_LAST_SRC = q.src
  obj : getF t F.OBJ_REJ_LAST_OBJ_ID = o
  bit : stBit t F.OBJ_STAT_REJECT = 1
  kept : KeptBut ([R.OBJ_REJ_CNT, R.OBJ_REJ_LAST, R.OBJ_STAT] ++ errRegs) s t
  parts : ObjLogsOnly s t

theorem lateShown_recRefused (h : OwnPending q) (hq : (objOf s o).queue = [q]) (ho : o < 2048) :
    LateShown o q s (recRefused o 8 q s) := by
  have hsrc : q.src < 8 := Nat.lt_trans h.src (by decide)
  obtain ⟨hcnt, hreason, hlast, hobj, hbit⟩ :=
    rejectShown_shows (show 8 < 256 by decide) hsrc ho (dropRefused o q.seg.rcd.seq s)
  exact ⟨objOf_recRefused_self h.pending hq 8, fun p hp => objOf_recRefused_of_ne hp 8 q s, hcnt, hreason, hlast, hobj, hbit,
    (KeptBut.refl _ s).objMod.trans (keptBut_rejectShown _ _ _ _), objLogsOnly_recRefused o 8 q s⟩

/-- With the ladle's side put back, nothing of it has changed. -/
theorem LateShown.withHier_back {i : HierState} (h : LateShown o q { s with hier := i } t) :
    LateShown o q s { t with hier := s.hier } := by
  obtain ⟨hself, hother, hcnt, hreason, hsrc, hobj, hbit, kept, r, e, j, l, rfl⟩ := h
  exact ⟨hself, hother, hcnt, hreason, hsrc, hobj, hbit, kept, r, e, j, l, rfl⟩

theorem LateShown.frame (h : LateShown o q s t) :
    Frame ([R.OBJ_REJ_CNT, R.OBJ_REJ_LAST, R.OBJ_STAT] ++ errRegs) s t
      { s with regs := t.regs, err := t.err, jnl := t.jnl, intake := { s.intake with objs := t.intake.objs } } := by
  refine ⟨?_, h.kept, sameMem_of_mem h.parts.mem⟩
  obtain ⟨r, e, j, l, rfl⟩ := h.parts
  rfl

/-- An effect that sends nothing over the ladle leaves its outbox as it was. -/
theorem ladleBatch_of_silent {f : State → State} (hf : ∀ i, ObjLogsOnly { s with hier := i } (f { s with hier := i })) :
    ∃ i, ladleBatch f s = { f { s with hier := i } with hier := s.hier } := by
  unfold ladleBatch
  split
  · obtain ⟨r, e, j, o, h⟩ := hf s.hier
    exact ⟨s.hier, by rw [h]⟩
  next hopen =>
    have hout : s.hier.outbox = none := by simpa using hopen
    have hback : { s.hier with outbox := none } = s.hier := by rw [← hout]
    obtain ⟨r, e, j, o, h⟩ := hf { s.hier with outbox := some [] }
    refine ⟨{ s.hier with outbox := some [] }, ?_⟩
    unfold ladleOpen
    rw [hout, Option.getD_none, h, ladleFlush_of_empty rfl]
    exact congrArg (fun i => { s with regs := r, err := e, jnl := j, intake := { s.intake with objs := o }, hier := i }) hback

theorem forEach_single {α : Type} (a : α) (f : α → State → State) (s : State) : forEach [a] f s = f a s := rfl

/-- Refusals of records of an object whose effective block has come. -/
def lateRefusals (o : Nat) (l : List QEnt) (s : State) : State :=
  forEach l (fun q s => refuseEverywhere o q.seg.rcd.seq (recReason .late) true
    (if s.flk.undecided.any (fun i => q.item == some i.id) then cnt s R.FLK_LATE_CNT else s)) s

theorem execRecordLateRefuse_eq (o : Fin 2048) (s : State) :
    execRecordLateRefuse o s = .next (ladleBatch (lateRefusals o ((objOf s o).queue.filter (fun q =>
      q.pending && (q.src < 5 || (q.src == 5 && q.item.isNone)) && due s q.seg.e))) s) := rfl

theorem lateRefusals_of_own (h : OwnPending q) (hq : (objOf s o).queue = [q]) :
    lateRefusals o [q] s = recRefused o 8 q s := by
  have hnot : s.flk.undecided.any (fun i => q.item == some i.id) = false := by simp [h.item]
  unfold lateRefusals
  rw [forEach_single, hnot, if_neg (by decide), refuseEverywhere_of_own h hq]
  rfl

/-- The refusal of an object's one record leaves the ladle as it was. -/
theorem ladleBatch_lateRefusals_of_own (h : OwnPending q) (hq : (objOf s o).queue = [q]) :
    ∃ i, ladleBatch (lateRefusals o [q]) s = { recRefused o 8 q { s with hier := i } with hier := s.hier } := by
  have hown : ∀ i, lateRefusals o [q] { s with hier := i } = recRefused o 8 q { s with hier := i } := by
    intro i
    have hqi : (objOf { s with hier := i } o).queue = [q] := hq
    exact lateRefusals_of_own h hqi
  obtain ⟨i, hbatch⟩ := ladleBatch_of_silent (s := s) (f := lateRefusals o [q])
    (fun i => by rw [hown]; exact objLogsOnly_recRefused _ _ _ _)
  exact ⟨i, by rw [hbatch, hown]⟩

theorem exec_recordLateRefuse_of_due {o : Fin 2048} (h : OwnPending q) (hq : (objOf s o.val).queue = [q])
    (hdue : due s q.seg.e = true) : exec (.recordLateRefuse o) s = .next (ladleBatch (lateRefusals o.val [q]) s) := by
  have hlate : [q].filter (fun q => q.pending && (q.src < 5 || (q.src == 5 && q.item.isNone)) && due s q.seg.e) = [q] := by
    simp [h.pending, h.src, hdue]
  change execRecordLateRefuse o s = _
  rw [execRecordLateRefuse_eq, hq, hlate]

/-- RECORD_LATE_REFUSE of an object's one record, which is pending, at its effective block (R60, R129). -/
theorem execRecordLateRefuse_spec {o : Fin 2048} (h : OwnPending q) (hq : (objOf s o.val).queue = [q])
    (hdue : due s q.seg.e = true) : ∃ t, exec (.recordLateRefuse o) s = .next t ∧ LateShown o.val q s t := by
  obtain ⟨i, hbatch⟩ := ladleBatch_lateRefusals_of_own h hq
  have hqi : (objOf { s with hier := i } o.val).queue = [q] := hq
  have shown : LateShown o.val q s (ladleBatch (lateRefusals o.val [q]) s) := by
    rw [hbatch]
    exact (lateShown_recRefused h hqi o.isLt).withHier_back
  exact ⟨_, exec_recordLateRefuse_of_due h hq hdue, shown⟩

/-! ### METADATA_FRAME_CHECK -/

/-- A ladle frame that passes R116 waits with its descriptors. -/
theorem exec_metadataFrameCheck_ladle {p : Fin 4} {sport dport : Nat} {b : List Byte}
    (hcur : (aGet (fun _ => none) s.intake.cur p.val).isSome = false) (hn : moabyCount s p.val = some n)
    (hwhole : bit (moabyWord s p.val (n - 1)) 47 = false)
    (hudp : (parseFrame (moabyBytes s p.val n)).udp = some (sport, dport, b))
    (hty : 0x10 ≤ leAt b 3 1 ∧ leAt b 3 1 ≤ 0x1F) (hok : frameCheck b (getF s F.TSU_MEDIA_CFG_CMP) = 0) :
    exec (.metadataFrameCheck p) s = .next { s with intake := { s.intake with
      ladleIn := s.intake.ladleIn ++ [(p.val, n, (parseFrame (moabyBytes s p.val n)).src, b)] } } := by
  have hladle : (decide (0x10 ≤ leAt b 3 1) && decide (leAt b 3 1 ≤ 0x1F)) = true := by simp [hty]
  change execMetadataFrameCheck p s = _
  unfold execMetadataFrameCheck
  rw [hcur, if_neg (by decide), hn]
  dsimp only
  rw [hudp, Option.getD_some, hladle, if_neg (by simp), hwhole, if_neg (by decide), hok, if_neg (by simp), if_pos rfl]

/-- A METADATA frame that passes R116 opens its job at a unit that judges records itself. -/
theorem exec_metadataFrameCheck_records {p : Fin 4} {sport dport : Nat} {b : List Byte}
    (hcur : (aGet (fun _ => none) s.intake.cur p.val).isSome = false) (hn : moabyCount s p.val = some n)
    (hwhole : bit (moabyWord s p.val (n - 1)) 47 = false) (hown : judgesOwn s = true)
    (hudp : (parseFrame (moabyBytes s p.val n)).udp = some (sport, dport, b))
    (hty : leAt b 3 1 = 1) (hok : frameCheck b (getF s F.TSU_MEDIA_CFG_CMP) = 0) :
    exec (.metadataFrameCheck p) s = .next (frameTake p.val n (parseFrame (moabyBytes s p.val n))
      (beAt (moabyBytes s p.val n) 6 6) b s) := by
  change execMetadataFrameCheck p s = _
  unfold execMetadataFrameCheck
  rw [hcur, if_neg (by decide), hn]
  dsimp only
  rw [hudp, Option.getD_some, hown, if_neg (by simp), hwhole, if_neg (by decide), hok, if_neg (by simp), hty,
    if_neg (by decide)]

theorem frameTake_spec (p n : Nat) (f : Parsed) (mac : Nat) (b : List Byte) (s : State) :
    let t := frameTake p n f mac b s
    t.intake.nextJob = s.intake.nextJob + 1 ∧ t.intake.jobs.length = s.intake.jobs.length + 1 ∧
    t.intake.objs = s.intake.objs ∧
    aGet (fun _ => none) t.intake.cur p = some { descs := n, fmt := leAt b 6 1, job := s.intake.nextJob, pos := 0,
                                                 left := chunks 112 17 (slice b 24 (112 * leAt b 4 2)) } ∧
    Frame [] s t { s with intake := t.intake } := by
  refine ⟨rfl, List.length_append, rfl, ?_, rfl, (KeptBut.refl _ s).withIntake _, sameMem_of_mem rfl⟩
  unfold frameTake
  dsimp only
  exact aGet_aSet_self _ _ _ _

/-! ### ACK_FRAME_SEND -/

theorem portOf_portMod_self (p : Nat) (f : NetPort → NetPort) (s : State) : portOf (portMod p f s) p = f (portOf s p) :=
  aGet_aSet_self _ _ _ _

theorem portOf_portMod_of_ne {p p' : Nat} (h : p' ≠ p) (f : NetPort → NetPort) (s : State) :
    portOf (portMod p f s) p' = portOf s p' := aGet_aSet_of_ne _ _ _ h

/-- The acknowledgement of a job leaves the list of jobs and joins those that its port has to send. -/
def ackQueued (j : AckJob) (s : State) : State :=
  portMod j.port (fun x => { x with acks := x.acks ++ [⟨getF s F.OBJ_CFG_ACK_TC, 256, ackFrame s j⟩] })
    { s with intake := { s.intake with jobs := s.intake.jobs.filter (fun x => x.id != j.id) } }

theorem exec_ackFrameSend_of_done {j : AckJob} (hjob : s.intake.jobs.find? jobDone = some j) (hasked : j.asked = true)
    (hen : getF s F.OBJ_CFG_ACK_EN = 1) (hfatal : s.err.fatal = false) (hup : linkUp s j.port = true) :
    exec .ackFrameSend s = .next (ackQueued j s) := by
  change execAckFrameSend s = _
  unfold execAckFrameSend
  rw [hjob]
  dsimp only
  have hask : j.asked = true ∧ getF { s with intake := { s.intake with jobs := s.intake.jobs.filter (fun x => x.id != j.id) } }
      F.OBJ_CFG_ACK_EN = 1 ∧ (!s.err.fatal) = true := ⟨hasked, hen, by rw [hfatal]; rfl⟩
  rw [if_pos hask]
  exact congrArg _ (if_pos hup)

end Sys2Proof.Machine

namespace Sys2Proof

open Machine

/-- Settles O43: a record of the host queue is taken at HEAD, judged, and answered in its entry's result word; a refused pending
record is dropped and shown; frames and acknowledgements move between the rings, the intake and the ports. -/
theorem recordsJudgedAndAnswered : Obligations.RecordsJudgedAndAnswered := by
  unfold Obligations.RecordsJudgedAndAnswered
  refine ⟨?_, ?_, ?_, ?_, ?_, ?_⟩
  · rintro s b e origin ⟨hused, hfatal, hnext⟩ hb ⟨hcheck, hrun⟩ hst ⟨hpair, hworker, hman⟩ hfate ⟨hq, hcur⟩ htime
    obtain rfl : hqRecord s = b := hb
    have kept := keptBut_hqTaken s
    have hexec := exec_recordJudge_of_unmanaged (judgeSource_of_next hused hfatal hnext) hman
    rw [judgeOne_hq_accepts hcheck hrun hst hpair hworker hman hfatal hfate hq hcur htime] at hexec
    obtain ⟨hobj, hother, hcount, hacc, hhead, hdone, hword⟩ :=
      hqAccepted_spec (g := ⟨recOf (hqRecord s), e, origin, false⟩) (s := hqTaken s) hq (getF s F.OBJ_HQ_HEAD_INDEX)
    rw [kept.getF (by decide)] at hword
    rw [rdN_of_kept kept (by decide)] at hacc
    exact ⟨_, hexec, congrArg ObjSt.queue hobj, congrArg ObjSt.history hobj, congrArg ObjSt.high hobj,
      congrArg ObjSt.seqValid hobj, hother, hacc, hhead.trans (head_hqTaken s), hdone, hcount, hword⟩
  · rintro s b why ⟨hused, hfatal, hnext⟩ hb ⟨hcheck, hwhy⟩
    obtain rfl : hqRecord s = b := hb
    obtain ⟨t, v, hexec, hv, sent⟩ := exec_recordJudge_of_source (judgeSource_of_next hused hfatal hnext)
    exact ⟨t, hexec, judgeOne_hq_rejects hwhy hcheck hv sent⟩
  · rintro o s q ⟨hq, hpend, hsrc, hitem, hlitem, hacks⟩ hdue
    obtain ⟨t, hexec, shown⟩ := execRecordLateRefuse_spec ⟨hpend, hsrc, hitem, hlitem, hacks⟩ hq hdue
    exact ⟨t, hexec, shown.self, shown.other, shown.count, shown.reason, shown.src, shown.obj, shown.bit, shown.frame⟩
  · rintro p s n sport dport b ⟨hcur, hn⟩ hwhole hudp ⟨hlo, hhi, hok⟩
    exact ⟨_, exec_metadataFrameCheck_ladle hcur hn hwhole hudp ⟨hlo, hhi⟩ hok, rfl, rfl,
      (KeptBut.refl _ s).withIntake _, sameMem_of_mem rfl⟩
  · rintro p s n sport dport b ⟨hcur, hn⟩ ⟨hwhole, hown⟩ hudp ⟨hty, hok⟩
    exact ⟨_, exec_metadataFrameCheck_records hcur hn hwhole hown hudp hty hok, frameTake_spec _ _ _ _ _ _⟩
  · rintro s j ⟨hjob, hasked⟩ ⟨hen, hfatal, hup⟩
    exact ⟨_, exec_ackFrameSend_of_done hjob hasked hen hfatal hup, rfl, portOf_portMod_self _ _ _,
      fun p hp => portOf_portMod_of_ne hp _ _, rfl, (KeptBut.refl _ s).of_regs rfl, sameMem_of_mem rfl⟩

end Sys2Proof
end

section
/-! SUPPORT. G_CHANGE (R143) carries the layout crossfades under way over to the new period (R86), which O46's frame rules out. -/

namespace Sys2Proof.Machine

variable {s : State} {g q : Nat}

/-- The crossfades of layouts once period g is in effect from block q: one still under way then ends at block k + 2g + 1 at the
earliest, where k is its effective block (R86). -/
def crossfadesUnder (g q : Nat) (busy : Tbl (Nat × Nat)) : Tbl (Nat × Nat) :=
  busy.map (fun x => (x.1, (x.2.1, if q < x.2.2 then max x.2.2 (x.2.1 + 2 * g + 1) else x.2.2)))

/-- The state once period g is in effect from block q (R143). -/
def periodChanged (g q : Nat) (s : State) : State :=
  setBit (setF { s with pat := { s.pat with layoutBusy := crossfadesUnder g q s.pat.layoutBusy },
                        geo := { s.geo with gPrev := s.geo.gEff, gEff := g, gSince := q, gNext := none } }
    F.GEO_UNITS_G_EFF g) F.GEO_STAT_G_CHG

theorem exec_gChange_of_due (hnext : s.geo.gNext = some (g, q)) (hdue : due s q = true) :
    exec .gChange s = .next (periodChanged g q s) := by
  change execGChange s = _
  unfold execGChange
  rw [hnext]
  exact congrArg Host.Outcome.next (if_pos hdue)

theorem layoutBusy_periodChanged (g q : Nat) (s : State) :
    (periodChanged g q s).pat.layoutBusy = crossfadesUnder g q s.pat.layoutBusy := rfl

/-- Where a due change of period moves the end of a layout's crossfade, the loader's state does not stay as it was. -/
theorem pat_ne_of_exec_gChange {t : State} (hnext : s.geo.gNext = some (g, q)) (hdue : due s q = true)
    (hbusy : crossfadesUnder g q s.pat.layoutBusy ≠ s.pat.layoutBusy) (ht : exec .gChange s = .next t) : t.pat ≠ s.pat := by
  obtain rfl : periodChanged g q s = t := Host.Outcome.next.inj ((exec_gChange_of_due hnext hdue).symm.trans ht)
  intro hpat
  exact hbusy ((layoutBusy_periodChanged g q s).symm.trans (congrArg PatState.layoutBusy hpat))

/-- Block 4 at period 1. Layout 3 was amended with effect at block 2, so that its crossfade would end by block 5, and period 4
takes effect now: the crossfade goes on until block 11. -/
def amendedLayoutAtChange : State :=
  { State.reset with
    msi := 64
    pat := { State.reset.pat with layoutBusy := [(3, (2, 5))] }
    geo := { State.reset.geo with gNext := some (4, 4) } }

theorem due_amendedLayoutAtChange : due amendedLayoutAtChange 4 = true := by decide

theorem crossfadesUnder_amendedLayoutAtChange :
    crossfadesUnder 4 4 amendedLayoutAtChange.pat.layoutBusy = [(3, (2, 11))] := by decide

end Sys2Proof.Machine

namespace Sys2Proof

open Machine

/-- Refutes O46: the clause of G_CHANGE holds all but the registers and the geometry to stay, yet the crossfade of an amended
layout that is under way ends later under a longer period (R86), and the loader's state holds that end. -/
theorem not_renderEventsAtBoundaries : ¬ Obligations.RenderEventsAtBoundaries := by
  unfold Obligations.RenderEventsAtBoundaries
  rintro ⟨-, -, -, -, periodChange, -, -⟩
  obtain ⟨t, hexec, -, -, -, frame, -, -⟩ := periodChange amendedLayoutAtChange 4 4 ⟨rfl, due_amendedLayoutAtChange⟩
  have hpat : t.pat = amendedLayoutAtChange.pat := (congrArg State.pat frame).trans rfl
  have hbusy : crossfadesUnder 4 4 amendedLayoutAtChange.pat.layoutBusy ≠ amendedLayoutAtChange.pat.layoutBusy := by
    rw [crossfadesUnder_amendedLayoutAtChange]
    decide
  exact pat_ne_of_exec_gChange rfl due_amendedLayoutAtChange hbusy hexec hpat

end Sys2Proof
end

section
/-! SUPPORT. The results and refusals of the route commands, and effects on the routes' state alone (R230 to R234). -/

namespace Sys2Proof.Machine

variable {offs : List Nat} {s t u : State} {x : RouteState} {cmd reason : Nat}

/-- t is s with its routes in the state x, registers of offs written and changes recorded. -/
structure Routes (offs : List Nat) (x : RouteState) (s t : State) : Prop where
  parts : ∃ r j, t = { s with regs := r, jnl := j, rte := x }
  kept : KeptBut offs s t

theorem Routes.refl (offs : List Nat) (s : State) : Routes offs s.rte s s := ⟨⟨s.regs, s.jnl, rfl⟩, .refl offs s⟩

theorem Noted.routes (h : Noted s t) (hoffs : jnlRegs ⊆ offs) : Routes offs s.rte s t := ⟨h.parts, h.kept.mono hoffs⟩

theorem Routes.withRte (h : Routes offs x s t) (y : RouteState) : Routes offs y s { t with rte := y } := by
  refine ⟨?_, h.kept.of_regs rfl⟩
  obtain ⟨r, j, rfl⟩ := h.parts
  exact ⟨r, j, rfl⟩

theorem Routes.rte (h : Routes offs x s t) : t.rte = x := by
  obtain ⟨r, j, rfl⟩ := h.parts
  rfl

theorem Routes.setF {f : Fld} {v : Nat} (h : Routes offs x s t) (ho : f.off ∈ offs) : Routes offs x s (setF t f v) := by
  refine ⟨?_, h.kept.setF ho⟩
  obtain ⟨r, j, rfl⟩ := h.parts
  exact ⟨_, j, rfl⟩

theorem Routes.setBit {f : Fld} {i : Nat} (h : Routes offs x s t) (ho : f.off ∈ offs) : Routes offs x s (setBit t f i) :=
  h.setF ho

theorem Routes.cnt {o : Nat} (h : Routes offs x s t) (ho : o ∈ offs) : Routes offs x s (cnt t o) := by
  refine ⟨?_, h.kept.cntAdd ho⟩
  obtain ⟨r, j, rfl⟩ := h.parts
  exact ⟨_, j, rfl⟩

theorem Routes.journal {src : Src} {kind addr value msi : Nat} (h : Routes offs x s t) (hoffs : jnlRegs ⊆ offs) :
    Routes offs x s (journal src kind addr value msi t) := by
  have parts := logsOnly_journal src kind addr value msi t
  have herr := err_journal src kind addr value msi t
  refine ⟨?_, h.kept.journal hoffs⟩
  obtain ⟨r, j, rfl⟩ := h.parts
  obtain ⟨r', e, j', heq⟩ := parts
  rw [heq] at herr ⊢
  exact ⟨r', j', congrArg (fun e => { s with regs := r', err := e, jnl := j', rte := x }) herr⟩

theorem Routes.rteResult (h : Routes offs x s t) (ho : R.RTE_RESULT ∈ offs) : Routes offs x s (rteResult cmd reason t) :=
  (h.setF ho).setF ho

theorem Routes.rteIdle (h : Routes offs x s t) (ho : R.RTE_STATE ∈ offs) : Routes offs { x with cmt := none } s (rteIdle t) := by
  obtain rfl := h.rte
  exact (h.withRte _).setF ho

theorem Routes.rteMirror {m : Option (Nat × List RouteEnt)} (h : Routes offs x s t) (ho : R.RTE_STATE ∈ offs) :
    Routes offs { x with mirrored := m } s (rteMirror m t) := by
  obtain rfl := h.rte
  unfold Machine.rteMirror
  dsimp only
  split
  · exact (h.withRte _).setF ho
  · exact h.withRte _

theorem Routes.sameMem (h : Routes offs x s t) : SameMem s t := by
  obtain ⟨r, j, rfl⟩ := h.parts
  exact sameMem_of_mem rfl

theorem Routes.frame (h : Routes offs x s t) : Frame offs s t { s with regs := t.regs, jnl := t.jnl, rte := t.rte } := by
  refine ⟨?_, h.kept, h.sameMem⟩
  obtain ⟨r, j, rfl⟩ := h.parts
  rfl

/-- Of the routes' state only the commit is exchanged. -/
theorem Routes.frame_cmt {c : Option RouteCmt} (h : Routes offs { s.rte with cmt := c } s t) :
    Frame offs s t { s with regs := t.regs, jnl := t.jnl, rte := { s.rte with cmt := t.rte.cmt } } := by
  refine ⟨?_, h.kept, h.sameMem⟩
  obtain ⟨r, j, rfl⟩ := h.parts
  rfl

theorem rteResult_shows (hc : cmd < 16) (hr : reason < 256) (s : State) :
    getF (rteResult cmd reason s) F.RTE_RESULT_CMD = cmd ∧ getF (rteResult cmd reason s) F.RTE_RESULT_REASON = reason := by
  refine ⟨?_, getF_setF_of_lt _ _ (by decide) hr⟩
  exact (getF_setF_of_apart _ _ (by decide)).trans (getF_setF_of_lt _ _ (by decide) hc)

/-- The result lies in a register of its own. -/
theorem getF_rteResult_of_ne (s : State) {f : Fld} (hf : f.off ≠ R.RTE_RESULT) :
    getF (rteResult cmd reason s) f = getF s f :=
  (getF_setF_of_ne _ _ _ _ hf).trans (getF_setF_of_ne _ _ _ _ hf)

/-- What a refusal shows. -/
theorem rteRefuse_shows (hc : cmd < 16) (hr : reason < 256) (s : State) :
    getF (rteRefuse cmd reason s) F.RTE_RESULT_CMD = cmd ∧ getF (rteRefuse cmd reason s) F.RTE_RESULT_REASON = reason ∧
    stBit (rteRefuse cmd reason s) F.RTE_STAT_REFUSED = 1 := by
  obtain ⟨hcmd, hreason⟩ := rteResult_shows hc hr s
  have raised : KeptBut (R.RTE_STAT :: errRegs) (cnt (rteResult cmd reason s) R.RTE_REFUSE_CNT) (rteRefuse cmd reason s) :=
    (KeptBut.refl _ _).raise (by decide) (by decide) (by rintro f ⟨⟩; decide)
  have kept : KeptBut ([R.RTE_REFUSE_CNT, R.RTE_STAT] ++ errRegs) (rteResult cmd reason s) (rteRefuse cmd reason s) :=
    ((KeptBut.refl _ _).cntAdd (by decide)).trans (raised.mono (by decide))
  refine ⟨(kept.getF (by decide)).trans hcmd, (kept.getF (by decide)).trans hreason, ?_⟩
  exact stBit_raise_of_tie (by decide) rfl rfl (by decide) (by decide) _

theorem logsOnly_rteRefuse (cmd reason : Nat) (s : State) : LogsOnly s (rteRefuse cmd reason s) :=
  ((RegsOnly.refl s).setF.setF.wr).logsOnly.trans (logsOnly_raise _ _ _)

theorem keptBut_rteRefuse (cmd reason : Nat) (s : State) :
    KeptBut ([R.RTE_RESULT, R.RTE_REFUSE_CNT, R.RTE_STAT] ++ errRegs) s (rteRefuse cmd reason s) := by
  refine KeptBut.raise ?_ (by decide) (by decide) (by rintro f ⟨⟩; decide)
  exact (((KeptBut.refl _ s).setF (by decide)).setF (by decide)).cntAdd (by decide)

/-- A command that is recorded and refused leaves the routes as they are. -/
theorem rteRefuse_spec (hc : cmd < 16) (hr : reason < 256) (h : Noted s t) :
    let u := rteRefuse cmd reason t
    u.rte = s.rte ∧ getF u F.RTE_STATE_CMT = getF s F.RTE_STATE_CMT ∧ getF u F.RTE_RESULT_CMD = cmd ∧
    getF u F.RTE_RESULT_REASON = reason ∧ stBit u F.RTE_STAT_REFUSED = 1 ∧
    Frame ([R.RTE_RESULT, R.RTE_REFUSE_CNT, R.RTE_STAT] ++ logRegs) s u { s with regs := u.regs, jnl := u.jnl, err := u.err } := by
  obtain ⟨hcmd, hreason, hbit⟩ := rteRefuse_shows hc hr t
  have parts : LogsOnly s (rteRefuse cmd reason t) := h.logsOnly.trans (logsOnly_rteRefuse cmd reason t)
  have kept : KeptBut ([R.RTE_RESULT, R.RTE_REFUSE_CNT, R.RTE_STAT] ++ logRegs) s (rteRefuse cmd reason t) :=
    (h.kept.mono (by decide)).trans ((keptBut_rteRefuse cmd reason t).mono (by decide))
  exact ⟨parts.rte, kept.getF (by decide), hcmd, hreason, hbit, parts.frame kept⟩

/-! ### What a route command is judged by, once it is recorded -/

theorem Noted.rte (h : Noted s t) : t.rte = s.rte := h.logsOnly.rte

theorem Noted.rtePending (h : Noted s t) : rtePending t = rtePending s := by
  unfold Machine.rtePending
  rw [h.rte]

theorem rtePending_eq_false_iff : rtePending s = false ↔ s.rte.cmt = none ∧ s.rte.mirrored = none := by
  simp [rtePending]

theorem Noted.leadCmd (h : Noted s t) : leadCmd t = leadCmd s := by
  unfold Machine.leadCmd
  rw [h.isPair]

theorem Noted.flk (h : Noted s t) : t.flk = s.flk := by
  obtain ⟨r, j, rfl⟩ := h.parts
  rfl

/-- Only an active unit of a pair mirrors its commands. -/
theorem mirrorCommand_of_inactive (h : isActive s = false) (it : Item) (deadline : Nat) :
    mirrorCommand it deadline s = (false, s) := by
  unfold mirrorCommand
  rw [h]
  rfl

/-- An active unit whose link is up mirrors a command, which then awaits its decision. -/
theorem mirrorCommand_of_active (h : isActive s = true) (hup : flkUp s = true) (it : Item) (deadline : Nat) :
    mirrorCommand it deadline s = (true, (mirrorSend it (some deadline) s).2) := by
  unfold mirrorCommand
  rw [h, hup]
  rfl

/-! ### What goes over the link -/

theorem lanesUp_of_kept (h : KeptBut offs s t) (ho : R.FLK_STATE ∉ offs) : lanesUp t = lanesUp s := by
  unfold lanesUp
  rw [h.getF ho, h.getF ho]

theorem sent_flkSend_of_same (hlanes : lanesUp t = lanesUp s) (hseq : t.flk.txLseq = s.flk.txLseq) (hsent : t.flk.sent = s.flk.sent)
    (hmsi : t.msi = s.msi) (m : FlkPayload) : (flkSend m t).flk.sent = (flkSend m s).flk.sent := by
  unfold flkSend blk
  rw [hlanes, hmsi]
  split
  · exact hsent
  · rw [hseq, hsent]

theorem rte_flkSend (m : FlkPayload) (s : State) : (flkSend m s).rte = s.rte := by
  unfold flkSend
  split <;> rfl

/-- A recorded command that goes over the link as an item leaves the routes as they are. -/
theorem mirrorSend_recorded (h : Noted s t) (hup : flkUp s = true) (it : Item) (deadline : Option Nat) :
    (mirrorSend it deadline t).2.rte = s.rte ∧
    (mirrorSend it deadline t).2.flk.sent = (flkSend (.mirror [(s.flk.nextItem, it)]) s).flk.sent := by
  have kept : KeptBut (R.FLK_MIR_CNT :: jnlRegs) s (cnt { t with flk := { t.flk with
      nextItem := t.flk.nextItem + 1, undecided := t.flk.undecided ++ [⟨t.flk.nextItem, it, deadline⟩] } } R.FLK_MIR_CNT) :=
    ((h.kept.mono (by decide)).of_regs rfl).cntAdd (by decide)
  have hsend : (mirrorSend it deadline t).2 = flkSend (.mirror [(t.flk.nextItem, it)]) (cnt { t with flk := { t.flk with
      nextItem := t.flk.nextItem + 1, undecided := t.flk.undecided ++ [⟨t.flk.nextItem, it, deadline⟩] } } R.FLK_MIR_CNT) :=
    if_pos (h.flkUp.trans hup)
  rw [hsend, rte_flkSend, h.flk]
  rw [h.flk] at kept
  exact ⟨h.rte, sent_flkSend_of_same (lanesUp_of_kept kept (by decide)) rfl rfl h.msi _⟩

end Sys2Proof.Machine
end

section
/-! SUPPORT. RTE_CANCEL, and its obligation (O45; R232, R240, R371). -/

namespace Sys2Proof.Machine

variable {s t : State} {c : RouteCmt} {k : Nat} {mirrored : Bool}

/-- CANCEL of a commit for block k, which the standby of a pair may have been told of. -/
def cancelOf (k : Nat) (mirrored : Bool) (s : State) : State :=
  if !inTime s k then rteRefuse 3 10 s
  else if isActive s && mirrored then
    let (wait, s) := mirrorCommand (.routeCancel k) k s
    if wait then s else rteCancelAccept s
  else rteCancelAccept s

theorem exec_rteCancel (via : Src) (s : State) :
    exec (.rteCancel via) s = .next (rteCancel (journalReg via R.RTE_CMD 3 s)) := rfl

theorem rteCancel_of_own (hp : isPassive s = false) (h : s.rte.cmt = some c) : rteCancel s = cancelOf c.k c.validated s := by
  unfold rteCancel
  rw [hp, if_neg (by decide), h]
  rfl

theorem rteCancel_of_mirrored {tbl : List RouteEnt} (hp : isPassive s = false) (h : s.rte.cmt = none)
    (hm : s.rte.mirrored = some (k, tbl)) : rteCancel s = cancelOf k true s := by
  unfold rteCancel
  rw [hp, if_neg (by decide), h, hm]
  rfl

theorem rteCancel_of_none (hp : isPassive s = false) (h : rtePending s = false) : rteCancel s = rteRefuse 3 12 s := by
  obtain ⟨hc, hm⟩ := rtePending_eq_false_iff.mp h
  unfold rteCancel
  rw [hp, if_neg (by decide), hc, hm]
  rfl

theorem cancelOf_of_late (h : k < blk s + leadCmd s) : cancelOf k mirrored s = rteRefuse 3 10 s := by
  have hlate : inTime s k = false := decide_eq_false (Nat.not_le.mpr h)
  unfold cancelOf
  rw [hlate]
  rfl

theorem cancelOf_of_alone (h : blk s + leadCmd s ≤ k) (ha : (isActive s && mirrored) = false) :
    cancelOf k mirrored s = rteCancelAccept s := by
  have hin : inTime s k = true := decide_eq_true h
  unfold cancelOf
  rw [hin, ha]
  rfl

theorem cancelOf_of_told (h : blk s + leadCmd s ≤ k) (ha : isActive s = true) (hup : flkUp s = true) :
    cancelOf k true s = (mirrorSend (.routeCancel k) (some k) s).2 := by
  have hin : inTime s k = true := decide_eq_true h
  unfold cancelOf
  rw [hin, ha, mirrorCommand_of_active ha hup]
  rfl

/-- A withdrawal leaves neither commit. -/
theorem rteCancelAccept_spec (h : Noted s t) :
    let u := rteCancelAccept t
    u.rte = { s.rte with cmt := none, mirrored := none } ∧ getF u F.RTE_STATE_CMT = 0 ∧
    getF u F.RTE_RESULT_CMD = 3 ∧ getF u F.RTE_RESULT_REASON = 0 ∧
    Frame ([R.RTE_STATE, R.RTE_RESULT] ++ jnlRegs) s u { s with regs := u.regs, jnl := u.jnl, rte := u.rte } := by
  have ended : Routes ([R.RTE_STATE, R.RTE_RESULT] ++ jnlRegs) { s.rte with cmt := none, mirrored := none } s
      (rteMirror none (rteIdle t)) := ((h.routes (by decide)).rteIdle (by decide)).rteMirror (by decide)
  have shown := ended.rteResult (cmd := 3) (reason := 0) (by decide)
  obtain ⟨hcmd, hreason⟩ := rteResult_shows (cmd := 3) (reason := 0) (by decide) (by decide) (rteMirror none (rteIdle t))
  have hstate : getF (rteMirror none (rteIdle t)) F.RTE_STATE_CMT = 0 := getF_setF_of_lt _ _ (by decide) (by decide)
  exact ⟨shown.rte, (getF_rteResult_of_ne _ (by decide)).trans hstate, hcmd, hreason, shown.frame⟩

end Sys2Proof.Machine

namespace Sys2Proof

open Machine

/-- Settles O45: the recorded command goes by the unit's own commit or else by the mirrored one; in time it ends both, or tells
the standby first, and otherwise it is one refusal. -/
theorem routeCancelRule : Obligations.RouteCancelRule := by
  unfold Obligations.RouteCancelRule
  have noted (via : Src) (s : State) : Noted s (journalReg via R.RTE_CMD 3 s) := noted_journalReg via R.RTE_CMD 3 s
  refine ⟨?_, ?_, ?_, ?_, ?_⟩
  · rintro via s c ⟨hp, hc, hin⟩ halone
    have h := noted via s
    refine ⟨_, exec_rteCancel via s, ?_⟩
    rw [rteCancel_of_own (h.isPassive.trans hp) (h.rte.symm ▸ hc),
      cancelOf_of_alone (by rwa [h.blk, h.leadCmd]) (by rwa [h.isActive])]
    exact rteCancelAccept_spec h
  · rintro via s c ⟨hp, hc, hlate⟩
    have h := noted via s
    refine ⟨_, exec_rteCancel via s, ?_⟩
    rw [rteCancel_of_own (h.isPassive.trans hp) (h.rte.symm ▸ hc), cancelOf_of_late (by rwa [h.blk, h.leadCmd])]
    exact rteRefuse_spec (by decide) (by decide) h
  · rintro via s ⟨hp, hnone⟩
    have h := noted via s
    refine ⟨_, exec_rteCancel via s, ?_⟩
    rw [rteCancel_of_none (h.isPassive.trans hp) (h.rtePending.trans hnone)]
    exact rteRefuse_spec (by decide) (by decide) h
  · rintro via s k tbl ⟨hp, ha, hc, hm, hin⟩
    have h := noted via s
    refine ⟨_, exec_rteCancel via s, ?_⟩
    rw [rteCancel_of_mirrored (h.isPassive.trans hp) (h.rte.symm ▸ hc) (h.rte.symm ▸ hm),
      cancelOf_of_alone (by rwa [h.blk, h.leadCmd]) (by rw [h.isActive, ha]; rfl)]
    obtain ⟨hrte, shown⟩ := rteCancelAccept_spec h
    refine ⟨hrte.trans ?_, shown⟩
    rw [← hc]
  · rintro via s c ⟨hc, hin, ha, hv, hup⟩
    have h := noted via s
    obtain ⟨hrte, hsent⟩ := mirrorSend_recorded h hup (.routeCancel c.k) (some c.k)
    obtain ⟨-, hundecided, -⟩ := mirrorSend_spec (.routeCancel c.k) (some c.k) (journalReg via R.RTE_CMD 3 s)
    refine ⟨_, exec_rteCancel via s, ?_⟩
    rw [rteCancel_of_own (h.isPassive.trans (isPassive_of_active ha)) (h.rte.symm ▸ hc), hv,
      cancelOf_of_told (by rwa [h.blk, h.leadCmd]) (h.isActive.trans ha) (h.flkUp.trans hup)]
    rw [h.flk] at hundecided
    exact ⟨hrte, hsent, hundecided⟩

end Sys2Proof
end

section
/-! SUPPORT. RTE_COMMIT, and the validation that accepts or refuses it (R225, R231) (O44). -/

namespace Sys2Proof.Machine

variable {offs : List Nat} {s t u : State} {x : RouteState} {c : RouteCmt} {via : Src}

/-! ### The command -/

/-- The commit that COMMIT makes pending. -/
def commitFor (via : Src) (s : State) : RouteCmt :=
  { via := via, k := ceil16 (rd64 s R.RTE_MSI_LO R.RTE_MSI_HI),
    endBlock := blk s + max 1 ((getF s F.RTE_SHD_COUNT_COUNT + 16383) / 16384), validated := false, accepted := false }

/-- The first test of COMMIT that fails, as the reason that RTE_RESULT shows (R231). -/
def commitGround (s : State) : Nat :=
  if running s = false then 8 else if rtePending s then 1
  else if isLate s (rd64 s R.RTE_MSI_LO R.RTE_MSI_HI) then 2 else 11

theorem commitGround_lt (s : State) : commitGround s < 256 := by
  unfold commitGround
  split_ifs <;> decide

theorem Noted.commitFor (h : Noted s t) (via : Src) : commitFor via t = commitFor via s := by
  unfold Machine.commitFor
  rw [h.rd64 _ _ (by decide) (by decide), h.blk, h.getF _ (by decide)]

theorem Noted.commitGround (h : Noted s t) : commitGround t = commitGround s := by
  unfold Machine.commitGround
  rw [h.running, h.rtePending, h.isLate, h.rd64 _ _ (by decide) (by decide)]

theorem exec_rteCommit (via : Src) (s : State) :
    exec (.rteCommit via) s = .next (rteCommit via (journalReg via R.RTE_CMD 1 s)) := rfl

theorem rteCommit_of_free (hp : isPassive s = false) (hrun : running s = true) (hfree : rtePending s = false)
    (hlate : isLate s (rd64 s R.RTE_MSI_LO R.RTE_MSI_HI) = false) (hlen : getF s F.RTE_SHD_COUNT_COUNT ≤ 143392) :
    rteCommit via s = setF { s with rte := { s.rte with cmt := some (commitFor via s) } } F.RTE_STATE_CMT 1 := by
  unfold rteCommit
  dsimp only
  rw [hp, hrun, hfree, hlate, if_neg (by decide), if_neg (by decide), if_neg (by decide), if_neg (by decide),
    if_neg (Nat.not_lt.mpr hlen)]
  rfl

theorem rteCommit_of_refused (hp : isPassive s = false)
    (h : running s = false ∨ rtePending s = true ∨ isLate s (rd64 s R.RTE_MSI_LO R.RTE_MSI_HI) = true ∨
      143392 < getF s F.RTE_SHD_COUNT_COUNT) :
    rteCommit via s = rteRefuse 1 (commitGround s) s := by
  unfold rteCommit commitGround
  dsimp only
  rw [hp, if_neg (by decide)]
  cases hrun : running s with
  | false => simp only [Bool.not_false, reduceIte]
  | true =>
    simp only [Bool.not_true, Bool.false_eq_true, Bool.true_eq_false, reduceIte]
    cases hpend : rtePending s with
    | true => simp only [reduceIte]
    | false =>
      simp only [Bool.false_eq_true, reduceIte]
      cases hlate : isLate s (rd64 s R.RTE_MSI_LO R.RTE_MSI_HI) with
      | true => simp only [reduceIte]
      | false =>
        have hlen : 143392 < getF s F.RTE_SHD_COUNT_COUNT := by simpa [hrun, hpend, hlate] using h
        simp only [Bool.false_eq_true, reduceIte, if_pos hlen]

/-! ### The validation -/

/-- What the verdict on the shadow table makes of the commit. -/
def commitJudged (c : RouteCmt) (verdict : Except (Nat × Nat) (List RouteEnt)) (s : State) : State :=
  match verdict with
  | .error (reason, i) => rteCmtRefuse reason (setF s F.RTE_RENT_ENTRY i)
  | .ok t => if 2048 < (nonLockedOf s t).length then rteCmtRefuse 7 s else rteValidated c t s

theorem exec_rteValidationDone_of_over (hc : s.rte.cmt = some c) (hv : c.validated = false) (hend : c.endBlock ≤ blk s)
    (hf : s.err.fatal = false) :
    exec .rteValidationDone s = .next (commitJudged c (shadowCheck s (getF s F.RTE_SHD_COUNT_COUNT) 0 []) s) := by
  have hover : ¬(c.validated = true ∨ blk s < c.endBlock ∨ s.err.fatal = true) := by simp [hv, hf, hend]
  change execRteValidationDone s = _
  unfold execRteValidationDone
  rw [hc]
  dsimp only
  rw [if_neg hover]
  rfl

theorem KeptBut.withRte (h : KeptBut offs s t) (x : RouteState) : KeptBut offs s { t with rte := x } := h.of_regs rfl

theorem isActive_of_kept (h : KeptBut offs s t) (hcfg : R.CLM_CFG ∉ offs) (hstate : R.CLM_STATE ∉ offs) :
    isActive t = isActive s := by
  unfold isActive isPair
  rw [h.getF hcfg, h.getF hstate]

/-- The commit, validated. -/
def commitValid (c : RouteCmt) (s : State) : State :=
  setF { s with rte := { s.rte with cmt := some { c with validated := true } } } F.RTE_STATE_CMT 2

/-- Nothing is mirrored.  The function's body takes the place of its name as one lambda term: against its defining equation the
kernel would run the mirroring on the registers just written. -/
theorem rteValidated_of_inactive (h : isActive s = false) (c : RouteCmt) (tbl : List RouteEnt) :
    rteValidated c tbl s = rteAccept (commitValid c s) := by
  have kept : KeptBut [R.RTE_STATE] s (commitValid c s) := ((KeptBut.refl _ s).withRte _).setF (by decide)
  have halone := mirrorCommand_of_inactive ((isActive_of_kept kept (by decide) (by decide)).trans h) (.route c.k tbl) c.k
  generalize hf : rteValidated = f
  delta rteValidated at hf
  subst hf
  beta_reduce
  generalize hu : setF { s with rte := { s.rte with cmt := some { c with validated := true } } } F.RTE_STATE_CMT 2 = u
  obtain rfl : commitValid c s = u := hu
  extract_lets
  split
  next wait u heq =>
    obtain ⟨rfl, rfl⟩ := Prod.mk.inj (halone.symm.trans heq)
    exact if_neg Bool.false_ne_true

/-- What an acceptance shows, before it is recorded. -/
def acceptShown (s : State) : State := rteResult 1 0 (setBit (cnt s R.RTE_COMMIT_CNT) F.RTE_STAT_ACCEPTED)

/-- The commit, accepted. -/
def commitAccepted (c : RouteCmt) (s : State) : State := { s with rte := { s.rte with cmt := some { c with accepted := true } } }

theorem rteAccept_of_pending (h : s.rte.cmt = some c) :
    rteAccept s = journal c.via 2 0 (getF (acceptShown (commitAccepted c s)) F.RTE_SHD_COUNT_COUNT) (16 * c.k)
      (acceptShown (commitAccepted c s)) := by
  unfold rteAccept
  rw [h]
  rfl

theorem acceptShown_shows (s : State) :
    rdN (acceptShown s) R.RTE_COMMIT_CNT = min (rdN s R.RTE_COMMIT_CNT + 1) 0xFFFFFFFF ∧
    getF (acceptShown s) F.RTE_RESULT_CMD = 1 ∧ getF (acceptShown s) F.RTE_RESULT_REASON = 0 ∧
    stBit (acceptShown s) F.RTE_STAT_ACCEPTED = 1 := by
  have kept : KeptBut [R.RTE_STAT, R.RTE_RESULT] (cnt s R.RTE_COMMIT_CNT) (acceptShown s) :=
    (((KeptBut.refl _ _).setBit (by decide)).setF (by decide)).setF (by decide)
  obtain ⟨hcmd, hreason⟩ := rteResult_shows (cmd := 1) (reason := 0) (by decide) (by decide)
    (setBit (cnt s R.RTE_COMMIT_CNT) F.RTE_STAT_ACCEPTED)
  refine ⟨(rdN_of_kept kept (by decide)).trans (rdN_cntAdd_self _ _ _), hcmd, hreason, ?_⟩
  exact (getF_rteResult_of_ne _ (by decide)).trans (stBit_setBit _ F.RTE_STAT_ACCEPTED 0 (by decide))

theorem Routes.acceptShown (h : Routes offs x s t) (hoffs : [R.RTE_COMMIT_CNT, R.RTE_STAT, R.RTE_RESULT] ⊆ offs) :
    Routes offs x s (acceptShown t) :=
  ((h.cnt (hoffs (by decide))).setBit (hoffs (by decide))).rteResult (hoffs (by decide))

/-- A valid shadow table at a unit that tells no standby: its commit is accepted. -/
theorem rteValidated_spec (h : isActive s = false) (c : RouteCmt) (tbl : List RouteEnt) :
    let u := rteValidated c tbl s
    u.rte.cmt = some { c with validated := true, accepted := true } ∧ getF u F.RTE_STATE_CMT = 2 ∧
    rdN u R.RTE_COMMIT_CNT = min (rdN s R.RTE_COMMIT_CNT + 1) 0xFFFFFFFF ∧ getF u F.RTE_RESULT_CMD = 1 ∧
    getF u F.RTE_RESULT_REASON = 0 ∧ stBit u F.RTE_STAT_ACCEPTED = 1 ∧
    Frame ([R.RTE_STATE, R.RTE_COMMIT_CNT, R.RTE_STAT, R.RTE_RESULT] ++ jnlRegs) s u
      { s with regs := u.regs, jnl := u.jnl, rte := { s.rte with cmt := u.rte.cmt } } := by
  have hrec := (rteValidated_of_inactive h c tbl).trans (rteAccept_of_pending (c := { c with validated := true }) rfl)
  generalize hw : commitAccepted { c with validated := true } (commitValid c s) = w at hrec
  have hkept := (KeptBut.refl jnlRegs (acceptShown w)).journal (src := c.via) (kind := 2) (addr := 0)
    (value := getF (acceptShown w) F.RTE_SHD_COUNT_COUNT) (msi := 16 * c.k) (List.Subset.refl _)
  have hroutes : Routes ([R.RTE_STATE, R.RTE_COMMIT_CNT, R.RTE_STAT, R.RTE_RESULT] ++ jnlRegs)
      { s.rte with cmt := some { c with validated := true, accepted := true } } s w := by
    subst hw
    exact (((Routes.refl _ s).withRte _).setF (by decide)).withRte _
  have hstate : getF w F.RTE_STATE_CMT = 2 := by
    subst hw
    exact getF_setF_of_lt _ F.RTE_STATE_CMT (by decide) (by decide)
  have hcount : rdN w R.RTE_COMMIT_CNT = rdN s R.RTE_COMMIT_CNT := by
    subst hw
    exact congrArg BitVec.toNat (rd_setF_of_ne _ _ _ (by decide))
  have hshown : KeptBut [R.RTE_COMMIT_CNT, R.RTE_STAT, R.RTE_RESULT] w (acceptShown w) :=
    ((Routes.refl _ w).acceptShown (List.Subset.refl _)).kept
  obtain ⟨hcnt, hcmd, hreason, hbit⟩ := acceptShown_shows w
  have hfinal := (hroutes.acceptShown (by decide)).journal (src := c.via) (kind := 2) (addr := 0)
    (value := getF (acceptShown w) F.RTE_SHD_COUNT_COUNT) (msi := 16 * c.k) (by decide)
  rw [hrec]
  refine ⟨congrArg RouteState.cmt hfinal.rte, ?_, ?_, (hkept.getF (by decide)).trans hcmd,
    (hkept.getF (by decide)).trans hreason, (stBit_of_kept hkept 0 (by decide)).trans hbit, hfinal.frame_cmt⟩
  · exact (hkept.getF (by decide)).trans ((hshown.getF (by decide)).trans hstate)
  · rw [rdN_of_kept hkept (by decide), hcnt, hcount]

/-- A refusal for an entry of the shadow table ends the commit and leaves the live tables. -/
theorem rteCmtRefuse_spec {why : Nat} (hwhy : why < 256) (i : Nat) (s : State) :
    let u := rteCmtRefuse why (setF s F.RTE_RENT_ENTRY i)
    u.rte.cmt = none ∧ getF u F.RTE_STATE_CMT = 0 ∧ getF u F.RTE_RESULT_CMD = 1 ∧ getF u F.RTE_RESULT_REASON = why ∧
    getF u F.RTE_RENT_ENTRY = i % 2 ^ 18 ∧ stBit u F.RTE_STAT_REFUSED = 1 ∧ u.rte.epochs = s.rte.epochs := by
  have hidle : Routes [R.RTE_RENT, R.RTE_STATE] { s.rte with cmt := none } s (rteIdle (setF s F.RTE_RENT_ENTRY i)) :=
    ((Routes.refl _ s).setF (by decide)).rteIdle (by decide)
  have hstate : getF (rteIdle (setF s F.RTE_RENT_ENTRY i)) F.RTE_STATE_CMT = 0 := getF_setF_of_lt _ _ (by decide) (by decide)
  have hentry : getF (rteIdle (setF s F.RTE_RENT_ENTRY i)) F.RTE_RENT_ENTRY = i % 2 ^ 18 :=
    (getF_setF_of_ne _ _ _ _ (by decide)).trans (getF_setF_self s F.RTE_RENT_ENTRY i (by decide) (by decide))
  have kept := keptBut_rteRefuse 1 why (rteIdle (setF s F.RTE_RENT_ENTRY i))
  obtain ⟨hcmd, hreason, hbit⟩ := rteRefuse_shows (cmd := 1) (by decide) hwhy (rteIdle (setF s F.RTE_RENT_ENTRY i))
  have hrte : (rteCmtRefuse why (setF s F.RTE_RENT_ENTRY i)).rte = { s.rte with cmt := none } :=
    (logsOnly_rteRefuse _ _ _).rte.trans hidle.rte
  exact ⟨congrArg RouteState.cmt hrte, (kept.getF (by decide)).trans hstate, hcmd, hreason,
    (kept.getF (by decide)).trans hentry, hbit, by rw [hrte]⟩

end Sys2Proof.Machine
end

section
/-! SUPPORT. RTE_COMMIT_APPLY and RTE_XF_DONE: a table goes live with its crossfade, and the crossfade ends (R231, R233, R234)
(O44). -/

namespace Sys2Proof.Machine

variable {offs : List Nat} {s t u : State} {x : RouteState} {c : RouteCmt}

/-! ### What shows the routes -/

theorem KeptBut.rteShow (h : KeptBut offs s t) (ho : R.RTE_STATE ∈ offs) : KeptBut offs s (rteShow t) := (h.setF ho).setF ho

theorem RegsOnly.rteShow (h : RegsOnly s t) : RegsOnly s (rteShow t) := h.setF.setF

/-- A crossfade is shown while one has its end before it, and none has frames left. -/
theorem rteShow_shows (s : State) :
    getF (rteShow s) F.RTE_STATE_CMT = getF s F.RTE_STATE_CMT ∧ getF (rteShow s) F.RTE_STATE_XF = b2n (!s.rte.doneAt.isEmpty) ∧
    (s.rte.doneAt = [] → getF (rteShow s) F.RTE_STATE_REMAIN = 0) := by
  have hflag (b : Bool) : b2n b < 2 := by cases b <;> decide
  refine ⟨?_, ?_, fun hnone => ?_⟩
  · exact (getF_setF_of_apart _ _ (by decide)).trans (getF_setF_of_apart _ _ (by decide))
  · exact (getF_setF_of_apart _ _ (by decide)).trans (getF_setF_of_lt _ _ (by decide) (hflag _))
  · unfold rteShow
    rw [hnone]
    exact getF_setF_of_lt (v := 0) _ _ (by decide) (by decide)

/-- The assignment of the ASRC bank changes its own lists alone, and may report that the bank is full. -/
theorem asrcAssign_cases (s : State) : ∃ held wait,
    asrcAssign s = raise .rteAsrcFull 0 { s with rte := { s.rte with asrc := held, asrcWait := wait } } ∨
    asrcAssign s = { s with rte := { s.rte with asrc := held, asrcWait := wait } } := by
  unfold asrcAssign
  exact ⟨_, _, ite_eq_or_eq _ _ _⟩

theorem rte_asrcAssign (s : State) : ∃ held wait, (asrcAssign s).rte = { s.rte with asrc := held, asrcWait := wait } := by
  obtain ⟨held, wait, h | h⟩ := asrcAssign_cases s
  · exact ⟨held, wait, by rw [h, (logsOnly_raise _ _ _).rte]⟩
  · exact ⟨held, wait, by rw [h]⟩

theorem keptBut_asrcAssign (s : State) : KeptBut (R.RTE_STAT :: errRegs) s (asrcAssign s) := by
  obtain ⟨held, wait, h | h⟩ := asrcAssign_cases s
  · rw [h]
    refine KeptBut.raise ?_ (by decide) (by decide) (by rintro f ⟨⟩; decide)
    exact (KeptBut.refl _ s).withRte _
  · rw [h]
    exact (KeptBut.refl _ s).withRte _

/-- The registers of a table of n routes that goes live at block k, before the bank is assigned. -/
def applyShown (k n : Nat) (moving : Bool) (s : State) : State :=
  setF (wr64 (if moving then setBit s F.RTE_STAT_FROZEN else s) R.RTE_APPLY_LO R.RTE_APPLY_HI (16 * k)) F.RTE_LIVE_COUNT_COUNT n

theorem routesShown_eq (k n : Nat) (moving : Bool) (s : State) :
    routesShown k n moving s = rteShow (asrcAssign (applyShown k n moving s)) := rfl

theorem regsOnly_applyShown (k n : Nat) (moving : Bool) (s : State) : RegsOnly s (applyShown k n moving s) :=
  (RegsOnly.ite (RegsOnly.refl s).setBit (.refl s)).wr64.setF

theorem rte_routesShown (k n : Nat) (moving : Bool) (s : State) :
    ∃ held wait, (routesShown k n moving s).rte = { s.rte with asrc := held, asrcWait := wait } := by
  obtain ⟨held, wait, h⟩ := rte_asrcAssign (applyShown k n moving s)
  rw [(regsOnly_applyShown k n moving s).rte] at h
  exact ⟨held, wait, by rw [routesShown_eq, ((RegsOnly.refl _).rteShow).rte, h]⟩

theorem routesShown_shows (k n : Nat) (moving : Bool) (s : State) :
    getF (routesShown k n moving s) F.RTE_STATE_CMT = getF s F.RTE_STATE_CMT ∧
    getF (routesShown k n moving s) F.RTE_STATE_XF = b2n (!s.rte.doneAt.isEmpty) ∧
    rd64 (routesShown k n moving s) R.RTE_APPLY_LO R.RTE_APPLY_HI = 16 * k % 2 ^ 64 ∧
    getF (routesShown k n moving s) F.RTE_LIVE_COUNT_COUNT = n % 2 ^ 18 := by
  have assigned := keptBut_asrcAssign (applyShown k n moving s)
  have kept : KeptBut (R.RTE_STATE :: R.RTE_STAT :: errRegs) (applyShown k n moving s) (routesShown k n moving s) :=
    (assigned.mono (by decide)).rteShow (by decide)
  have before : KeptBut [R.RTE_STAT, R.RTE_APPLY_LO, R.RTE_APPLY_HI, R.RTE_LIVE_COUNT] s (applyShown k n moving s) :=
    (((KeptBut.ite ((KeptBut.refl _ s).setBit (by decide)) (.refl _ s)).wr (by decide)).wr (by decide)).setF (by decide)
  obtain ⟨hcmt, hxf, -⟩ := rteShow_shows (asrcAssign (applyShown k n moving s))
  obtain ⟨held, wait, hrte⟩ := rte_asrcAssign (applyShown k n moving s)
  rw [hrte, (regsOnly_applyShown k n moving s).rte] at hxf
  refine ⟨?_, hxf, ?_, ?_⟩
  · exact hcmt.trans ((assigned.getF (by decide)).trans (before.getF (by decide)))
  · rw [rd64_of_kept kept (by decide) (by decide)]
    have live : KeptBut [R.RTE_LIVE_COUNT] (wr64 (if moving then setBit s F.RTE_STAT_FROZEN else s) R.RTE_APPLY_LO
        R.RTE_APPLY_HI (16 * k)) (applyShown k n moving s) := (KeptBut.refl _ _).setF (by decide)
    rw [rd64_of_kept live (by decide) (by decide), rd64_wr64 _ _ (by decide)]
  · rw [kept.getF (by decide)]
    exact getF_setF_self _ F.RTE_LIVE_COUNT_COUNT n (by decide) (by decide)

/-! ### A table goes live -/

/-- The length of a table's crossfade in blocks, by the live RTE_CFG (R233). -/
def fadeLen (s : State) : Nat := if getL s F.RTE_CFG_XF = 0 then 64 else getL s F.RTE_CFG_XF

/-- The routes once a table is live from block k: its epoch is the newest, and the end of its crossfade the last. -/
def routesLive (k : Nat) (table old : List RouteEnt) (ends : List Nat) (s : State) : RouteState :=
  { s.rte with
    epochs := ({ first := k, len := fadeLen s, law := getL s F.RTE_CFG_LAW, old := old, table := table } :: s.rte.epochs).take 8
    doneAt := ends ++ [k + fadeLen s + 2] }

theorem rteGoLive_eq_routesLive (k : Nat) (table : List RouteEnt) (s : State) : ∃ old ends moving,
    rteGoLive k table s = routesShown k table.length moving { s with rte := routesLive k table old ends s } := by
  unfold rteGoLive
  exact ⟨_, _, _, rfl⟩

theorem rte_rteGoLive (k : Nat) (table : List RouteEnt) (s : State) : ∃ old ends held wait,
    (rteGoLive k table s).rte = { routesLive k table old ends s with asrc := held, asrcWait := wait } := by
  obtain ⟨old, ends, moving, h⟩ := rteGoLive_eq_routesLive k table s
  obtain ⟨held, wait, hrte⟩ := rte_routesShown k table.length moving { s with rte := routesLive k table old ends s }
  exact ⟨old, ends, held, wait, (congrArg State.rte h).trans hrte⟩

theorem rteGoLive_shows (k : Nat) (table : List RouteEnt) (s : State) :
    getF (rteGoLive k table s) F.RTE_STATE_CMT = getF s F.RTE_STATE_CMT ∧
    getF (rteGoLive k table s) F.RTE_STATE_XF = 1 ∧
    rd64 (rteGoLive k table s) R.RTE_APPLY_LO R.RTE_APPLY_HI = 16 * k % 2 ^ 64 ∧
    getF (rteGoLive k table s) F.RTE_LIVE_COUNT_COUNT = table.length % 2 ^ 18 := by
  obtain ⟨old, ends, moving, h⟩ := rteGoLive_eq_routesLive k table s
  have hends : b2n (!(routesLive k table old ends s).doneAt.isEmpty) = 1 := by simp [routesLive, b2n]
  obtain ⟨hcmt, hxf, happly, hlive⟩ := routesShown_shows k table.length moving { s with rte := routesLive k table old ends s }
  rw [h]
  exact ⟨hcmt, hxf.trans hends, happly, hlive⟩

theorem Rerouted.sameMem (h : Rerouted s t) : SameMem s t := by
  obtain ⟨r, e, j, x, rfl⟩ := h.parts
  exact sameMem_of_mem rfl

/-- The unit's own commit at its block: it goes live, or is refused where no decision came. -/
def ownCommitDue (s : State) : State :=
  match s.rte.cmt with
  | none => s
  | some c =>
    if !due s c.k then s
    else if c.accepted then rteGoLive c.k (shadowTable s) (rteIdle s)
    else rteCmtRefuse 3 s

/-- The table of the peer's commit at its block. -/
def mirroredCommitDue (s : State) : State :=
  match s.rte.mirrored with
  | none => s
  | some (k, t) => if due s k then rteGoLive k t (rteMirror none s) else s

theorem exec_rteCommitApply (s : State) : exec .rteCommitApply s = .next (mirroredCommitDue (ownCommitDue s)) := rfl

theorem ownCommitDue_of_accepted (hc : s.rte.cmt = some c) (ha : c.accepted = true) (hdue : due s c.k = true) :
    ownCommitDue s = rteGoLive c.k (shadowTable s) (rteIdle s) := by
  unfold ownCommitDue
  rw [hc]
  dsimp only
  rw [hdue, ha, if_neg (by decide), if_pos rfl]

theorem mirroredCommitDue_of_none (h : s.rte.mirrored = none) : mirroredCommitDue s = s := by
  unfold mirroredCommitDue
  rw [h]

theorem mirrored_rteGoLive (k : Nat) (table : List RouteEnt) (s : State) :
    (rteGoLive k table s).rte.mirrored = s.rte.mirrored := by
  obtain ⟨old, ends, held, wait, hrte⟩ := rte_rteGoLive k table s
  rw [hrte]
  rfl

theorem rte_rteIdle (s : State) : (rteIdle s).rte = { s.rte with cmt := none } := rfl

theorem exec_rteCommitApply_of_due (hc : s.rte.cmt = some c) (ha : c.accepted = true) (hdue : due s c.k = true)
    (hm : s.rte.mirrored = none) :
    exec .rteCommitApply s = .next (rteGoLive c.k (shadowTable s) (rteIdle s)) := by
  have hnone : (rteGoLive c.k (shadowTable s) (rteIdle s)).rte.mirrored = none := by
    rw [mirrored_rteGoLive, rte_rteIdle, hm]
  rw [exec_rteCommitApply, ownCommitDue_of_accepted hc ha hdue, mirroredCommitDue_of_none hnone]

theorem getL_of_live (h : t.live = s.live) (f : Fld) : getL t f = getL s f := by
  unfold getL rdLive
  rw [h]

theorem fadeLen_of_live (h : t.live = s.live) : fadeLen t = fadeLen s := by
  unfold fadeLen
  rw [getL_of_live h]

/-- The accepted commit goes live at its block. -/
theorem rteGoLive_of_commit (k : Nat) (table : List RouteEnt) (s : State) :
    let u := rteGoLive k table (rteIdle s)
    u.rte.cmt = none ∧ getF u F.RTE_STATE_CMT = 0 ∧ (epochNow u).first = k ∧ (epochNow u).table = table ∧
    (epochNow u).len = fadeLen s ∧ (epochNow u).law = getL s F.RTE_CFG_LAW ∧ k + (epochNow u).len + 2 ∈ u.rte.doneAt ∧
    getF u F.RTE_STATE_XF = 1 ∧ rd64 u R.RTE_APPLY_LO R.RTE_APPLY_HI = 16 * k % 2 ^ 64 ∧
    getF u F.RTE_LIVE_COUNT_COUNT = table.length % 2 ^ 18 ∧ SameMem s u := by
  have hlive : (rteIdle s).live = s.live := setF_live _ _ _
  obtain ⟨old, ends, held, wait, hrte⟩ := rte_rteGoLive k table (rteIdle s)
  unfold routesLive at hrte
  rw [fadeLen_of_live hlive, getL_of_live hlive, rte_rteIdle] at hrte
  obtain ⟨hcmt, hxf, happly, hcount⟩ := rteGoLive_shows k table (rteIdle s)
  have hstate : getF (rteIdle s) F.RTE_STATE_CMT = 0 := getF_setF_of_lt _ _ (by decide) (by decide)
  have hnow : epochNow (rteGoLive k table (rteIdle s)) =
      { first := k, len := fadeLen s, law := getL s F.RTE_CFG_LAW, old := old, table := table } := by
    unfold epochNow
    rw [hrte]
    rfl
  have hidle : SameMem s (rteIdle s) := ((Routes.refl [R.RTE_STATE] s).rteIdle (by decide)).sameMem
  have hmem : SameMem s (rteGoLive k table (rteIdle s)) :=
    fun a => ((rerouted_rteGoLive k table (rteIdle s)).sameMem a).trans (hidle a)
  have hend : k + fadeLen s + 2 ∈ (rteGoLive k table (rteIdle s)).rte.doneAt := by
    rw [hrte]
    exact List.mem_append_right ends (List.mem_singleton_self _)
  dsimp only
  rw [hnow]
  exact ⟨congrArg RouteState.cmt hrte, hcmt.trans hstate, rfl, rfl, rfl, rfl, hend, hxf, happly, hcount, hmem⟩

/-! ### The end of a crossfade -/

/-- The crossfades that are due have ended. -/
def fadesEnded (s : State) : State :=
  setBit { s with rte := { s.rte with doneAt := s.rte.doneAt.filter (fun d => !due s d) } } F.RTE_STAT_XF_DONE

theorem exec_rteXfDone_of_due (h : s.rte.doneAt.any (due s) = true) : exec .rteXfDone s = .next (rteShow (fadesEnded s)) := by
  change execRteXfDone s = _
  unfold execRteXfDone
  rw [if_pos h]
  rfl

theorem rteShow_fadesEnded_spec (s : State) :
    let u := rteShow (fadesEnded s)
    u.rte = { s.rte with doneAt := s.rte.doneAt.filter (fun d => !due s d) } ∧ stBit u F.RTE_STAT_XF_DONE = 1 ∧
    (u.rte.doneAt = [] → getF u F.RTE_STATE_XF = 0 ∧ getF u F.RTE_STATE_REMAIN = 0) ∧
    Frame [R.RTE_STAT, R.RTE_STATE] s u { s with regs := u.regs, rte := u.rte } := by
  have parts : RegsOnly { s with rte := { s.rte with doneAt := s.rte.doneAt.filter (fun d => !due s d) } }
      (rteShow (fadesEnded s)) := (RegsOnly.refl _).setBit.rteShow
  have ended : KeptBut [R.RTE_STAT, R.RTE_STATE] s (fadesEnded s) := ((KeptBut.refl _ s).withRte _).setBit (by decide)
  have kept : KeptBut [R.RTE_STAT, R.RTE_STATE] s (rteShow (fadesEnded s)) := ended.rteShow (by decide)
  have shown : KeptBut [R.RTE_STATE] (fadesEnded s) (rteShow (fadesEnded s)) := (KeptBut.refl _ _).rteShow (by decide)
  obtain ⟨-, hxf, hremain⟩ := rteShow_shows (fadesEnded s)
  refine ⟨parts.rte, ?_, fun hnone => ?_, ?_, kept, parts.sameMem⟩
  · exact (stBit_of_kept shown 0 (by decide)).trans (stBit_setBit _ F.RTE_STAT_XF_DONE 0 (by decide))
  · rw [((RegsOnly.refl (fadesEnded s)).rteShow).rte] at hnone
    rw [hnone] at hxf
    exact ⟨hxf, hremain hnone⟩
  · obtain ⟨r, hr⟩ := parts
    rw [hr]

end Sys2Proof.Machine
end

section
/-! SUPPORT. RTE_COPY: the shadow table takes the live table, entry by entry (R230), and the obligation of the route commit
(O44). -/

namespace Sys2Proof

/-- A number is written as it is cut to the bytes that it gets. -/
theorem leBytes_mod (n : Nat) : ∀ v, leBytes n (v % 256 ^ n) = leBytes n v := by
  induction n with
  | zero => exact fun _ => rfl
  | succ n ih =>
    intro v
    have hlow : BitVec.ofNat 8 (v % 256 ^ (n + 1)) = BitVec.ofNat 8 v := by
      refine BitVec.eq_of_toNat_eq ?_
      rw [BitVec.toNat_ofNat, BitVec.toNat_ofNat, Nat.pow_succ', Nat.mod_mul_right_mod]
    rw [leBytes, leBytes, hlow, Nat.pow_succ', Nat.mod_mul_right_div_self, ih]

theorem code_lt (n : Nat) (x : Int) : code n x < 2 ^ n := by
  have hpos : (0 : Int) < 2 ^ n := by positivity
  have hlt := Int.emod_lt_of_pos x hpos
  have hnonneg := Int.emod_nonneg x hpos.ne'
  unfold code
  exact (Int.toNat_lt hnonneg).mpr (by exact_mod_cast hlt)

namespace Machine

variable {offs : List Nat} {s t : State}

/-! ### Words apart from one another -/

/-- A 72-bit word reads as the low 72 bits written. -/
theorem rdWord72_wrWord72 (s : State) (base i w : Nat) : rdWord72 (wrWord72 s base i w) base i = w % 2 ^ 72 := by
  have hcut : wrWord72 s base i w = wrWord72 s base i (w % 2 ^ 72) := congrArg (wrBytes s _) (leBytes_mod 9 w).symm
  rw [hcut, rdWord72_wrWord72_self s base i (Nat.mod_lt w (Nat.two_pow_pos 72))]

theorem rdWord72_wrWord72_of_ne (s : State) (base w : Nat) {i j : Nat} (h : j ≠ i) :
    rdWord72 (wrWord72 s base i w) base j = rdWord72 s base j := by
  refine congrArg leNat (List.ext_getElem? fun n => ?_)
  by_cases hn : n < 9
  · rw [getElem?_rdBytes _ _ _ _ hn, getElem?_rdBytes _ _ _ _ hn]
    refine congrArg some (rdByte_wrBytes_outside _ _ _ _ ?_)
    rw [length_leBytes]
    omega
  · rw [List.getElem?_eq_none (by rw [length_rdBytes]; omega), List.getElem?_eq_none (by rw [length_rdBytes]; omega)]

/-! ### Shadow entries -/

/-- The words of a shadow entry as pool words 2i and 2i + 1 behind the table's base. -/
def ShadowHolds (i : Nat) (r : RouteEnt) (s : State) : Prop :=
  rdWord72 s poolBase (shadowBase + 2 * i) = (r.source + 65536 * r.dst + 2 ^ 32 * r.kind) % 2 ^ 72 ∧
  rdWord72 s poolBase (shadowBase + 2 * i + 1) = code 36 r.gain

theorem shadowHolds_putShadow (i : Nat) (r : RouteEnt) (s : State) : ShadowHolds i r (putShadow i r s) := by
  have hgain : code 36 r.gain < 2 ^ 72 := (code_lt 36 r.gain).trans (by decide)
  refine ⟨?_, (rdWord72_wrWord72 _ _ _ _).trans (Nat.mod_eq_of_lt hgain)⟩
  exact (rdWord72_wrWord72_of_ne _ _ _ (by omega)).trans (rdWord72_wrWord72 _ _ _ _)

/-- Other entries stay. -/
theorem ShadowHolds.putShadow {i j : Nat} {q r : RouteEnt} (h : ShadowHolds i q s) (hne : i ≠ j) :
    ShadowHolds i q (putShadow j r s) := by
  obtain ⟨hwhere, hgain⟩ := h
  refine ⟨Eq.trans ?_ hwhere, Eq.trans ?_ hgain⟩
  · exact (rdWord72_wrWord72_of_ne _ _ _ (by omega)).trans (rdWord72_wrWord72_of_ne _ _ _ (by omega))
  · exact (rdWord72_wrWord72_of_ne _ _ _ (by omega)).trans (rdWord72_wrWord72_of_ne _ _ _ (by omega))

/-- Write a list of entries from the n-th on. -/
def putShadows (n : Nat) (l : List RouteEnt) (s : State) : State := (l.zipIdx n).foldl (fun s p => putShadow p.2 p.1 s) s

theorem putShadows_cons (n : Nat) (r : RouteEnt) (l : List RouteEnt) (s : State) :
    putShadows n (r :: l) s = putShadows (n + 1) l (putShadow n r s) := by
  unfold putShadows
  rw [List.zipIdx_cons, List.foldl_cons]

/-- Entries before the n-th stay. -/
theorem ShadowHolds.putShadows {i : Nat} {q : RouteEnt} (l : List RouteEnt) :
    ∀ {n : Nat} {s : State}, i < n → ShadowHolds i q s → ShadowHolds i q (putShadows n l s) := by
  induction l with
  | nil => exact fun _ h => h
  | cons r l ih =>
    intro n s hi h
    rw [putShadows_cons]
    exact ih (Nat.lt_succ_of_lt hi) (h.putShadow hi.ne)

/-- The i-th entry of a list is the (n + i)-th of the table. -/
theorem shadowHolds_putShadows {q : RouteEnt} (l : List RouteEnt) :
    ∀ {i : Nat} (n : Nat) (s : State), l[i]? = some q → ShadowHolds (n + i) q (putShadows n l s) := by
  induction l with
  | nil => exact fun _ _ h => nomatch h
  | cons r l ih =>
    intro i n s h
    rw [putShadows_cons]
    cases i with
    | zero =>
      obtain rfl : r = q := by simpa using h
      exact (shadowHolds_putShadow n r s).putShadows l (Nat.lt_succ_self n)
    | succ i =>
      rw [← Nat.succ_add_eq_add_succ]
      exact ih (n + 1) _ h

theorem putShadows_eq_with (l : List RouteEnt) : ∀ (n : Nat) (s : State), ∃ m, putShadows n l s = { s with mem := m } := by
  induction l with
  | nil => exact fun _ s => ⟨s.mem, rfl⟩
  | cons r l ih =>
    intro n s
    obtain ⟨m, hm⟩ := wrBytes_eq_with (leBytes 9 (r.source + 65536 * r.dst + 2 ^ 32 * r.kind)) s
      (poolBase + 16 * (shadowBase + 2 * n))
    obtain ⟨m', hm'⟩ := wrBytes_eq_with (leBytes 9 (code 36 r.gain)) { s with mem := m }
      (poolBase + 16 * (shadowBase + 2 * n + 1))
    have hput : putShadow n r s = { s with mem := m' } := by
      unfold putShadow wrWord72
      rw [hm, hm']
    obtain ⟨m'', hm''⟩ := ih (n + 1) { s with mem := m' }
    exact ⟨m'', by rw [putShadows_cons, hput, hm'']⟩

/-! ### The copy -/

theorem exec_rteCopy (via : Src) (s : State) : exec (.rteCopy via) s = .next (rteCopy (journalReg via R.RTE_CMD 2 s)) := rfl

theorem rteCopy_of_free (hp : isPassive s = false) (h : s.rte.cmt = none) : rteCopy s = rteResult 2 0 (shadowFromLive s) := by
  unfold rteCopy
  rw [hp, h]
  rfl

theorem shadowFromLive_eq (s : State) :
    shadowFromLive s = setF (putShadows 0 (epochNow s).table s) F.RTE_SHD_COUNT_COUNT (epochNow s).table.length := rfl

theorem rteCopied_spec (h : Noted s t) :
    let u := rteResult 2 0 (shadowFromLive t)
    getF u F.RTE_RESULT_CMD = 2 ∧ getF u F.RTE_RESULT_REASON = 0 ∧
    getF u F.RTE_SHD_COUNT_COUNT = (epochNow s).table.length % 2 ^ 18 ∧
    (∀ i r, (epochNow s).table[i]? = some r → ShadowHolds i r u) ∧
    u.rte = s.rte ∧ KeptBut ([R.RTE_RESULT, R.RTE_SHD_COUNT] ++ jnlRegs) s u := by
  have hnow : epochNow t = epochNow s := by
    unfold epochNow
    rw [h.rte]
  obtain ⟨hcmd, hreason⟩ := rteResult_shows (cmd := 2) (reason := 0) (by decide) (by decide) (shadowFromLive t)
  rw [shadowFromLive_eq, hnow] at hcmd hreason ⊢
  have written : RegsOnly (putShadows 0 (epochNow s).table t) (rteResult 2 0
      (setF (putShadows 0 (epochNow s).table t) F.RTE_SHD_COUNT_COUNT (epochNow s).table.length)) :=
    (RegsOnly.refl _).setF.setF.setF
  obtain ⟨m, hm⟩ := putShadows_eq_with (epochNow s).table 0 t
  refine ⟨hcmd, hreason, ?_, fun i r hr => ?_, ?_, ?_⟩
  · exact (getF_rteResult_of_ne _ (by decide)).trans (getF_setF_self _ F.RTE_SHD_COUNT_COUNT _ (by decide) (by decide))
  · obtain ⟨hwhere, hgain⟩ := shadowHolds_putShadows (epochNow s).table 0 t hr
    rw [Nat.zero_add] at hwhere hgain
    exact ⟨(rdWord72_of_sameMem written.sameMem _ _).trans hwhere, (rdWord72_of_sameMem written.sameMem _ _).trans hgain⟩
  · rw [written.rte, hm]
    exact h.rte
  · rw [hm]
    exact ((((h.kept.mono (by decide)).of_regs rfl).setF (by decide)).setF (by decide)).setF (by decide)

end Machine

open Machine

/-- Settles O44: each command is its record followed by its tests' outcome; the validation's verdict accepts or ends the commit; a
table that goes live heads the epochs, with the end of its crossfade behind the others; the copy writes entries that lie apart. -/
theorem routeTablesCommit : Obligations.RouteTablesCommit := by
  unfold Obligations.RouteTablesCommit
  refine ⟨?_, ?_, ?_, ?_, ?_, ?_, ?_⟩
  · rintro via s ⟨hp, hrun, hfree⟩ ⟨hlate, hlen⟩
    have h := noted_journalReg via R.RTE_CMD 1 s
    have hroutes := ((h.routes (offs := R.RTE_STATE :: jnlRegs) (by decide)).withRte
      { s.rte with cmt := some (commitFor via s) }).setF (f := F.RTE_STATE_CMT) (v := 1) (by decide)
    refine ⟨_, exec_rteCommit via s, ?_⟩
    rw [rteCommit_of_free (h.isPassive.trans hp) (h.running.trans hrun) (h.rtePending.trans hfree)
      (by rw [h.isLate, h.rd64 _ _ (by decide) (by decide), hlate]) (by rwa [h.getF _ (by decide)]), h.commitFor, h.rte]
    exact ⟨congrArg RouteState.cmt hroutes.rte, getF_setF_of_lt _ _ (by decide) (by decide), hroutes.frame_cmt⟩
  · intro via s hp hground
    have h := noted_journalReg via R.RTE_CMD 1 s
    refine ⟨_, exec_rteCommit via s, ?_⟩
    rw [rteCommit_of_refused (h.isPassive.trans hp)
      (by rwa [h.running, h.rtePending, h.isLate, h.rd64 _ _ (by decide) (by decide), h.getF _ (by decide)]), h.commitGround]
    obtain ⟨-, -, hcmd, hreason, hbit, frame⟩ := rteRefuse_spec (cmd := 1) (by decide) (commitGround_lt s) h
    exact ⟨hcmd, hbit, hreason, frame⟩
  · rintro s c tbl ⟨hc, hv, hend, hfatal, hactive⟩ hok hasrc
    refine ⟨_, exec_rteValidationDone_of_over hc hv hend hfatal, ?_⟩
    rw [hok, show commitJudged c (.ok tbl) s = rteValidated c tbl s from if_neg (Nat.not_lt.mpr hasrc)]
    exact rteValidated_spec hactive c tbl
  · rintro s c why i ⟨hc, hv, hend, hfatal⟩ herr hwhy
    refine ⟨_, exec_rteValidationDone_of_over hc hv hend hfatal, ?_⟩
    rw [herr]
    exact rteCmtRefuse_spec hwhy i s
  · rintro s c ⟨hc, ha, hdue, hm⟩
    exact ⟨_, exec_rteCommitApply_of_due hc ha hdue hm, rteGoLive_of_commit c.k (shadowTable s) s⟩
  · intro s hdue
    exact ⟨_, exec_rteXfDone_of_due hdue, rteShow_fadesEnded_spec s⟩
  · rintro via s ⟨hp, hc⟩
    have h := noted_journalReg via R.RTE_CMD 2 s
    refine ⟨_, exec_rteCopy via s, ?_⟩
    rw [rteCopy_of_free (h.isPassive.trans hp) (h.rte.symm ▸ hc)]
    exact rteCopied_spec h

end Sys2Proof
end

section
/-! SUPPORT. Steps of a time base (R243, R260) (O21). -/

namespace Sys2Proof.Machine

variable {n m : Nat} {s : State}

/-- Any error tied to one bit shows it, whatever its source. -/
theorem stBit_raise_of_oneBit {e : Err} {f : Fld} {src : Nat} (he : errSev e ≠ .fatal) (htie : errTie e src = some f)
    (hf : f.hi = f.lo) (hlt : f.lo < 32) (hoff : f.off ∉ errRegs) (s : State) : stBit (raise e src s) f = 1 := by
  have kept := keptBut_raise_of_tie he htie s
  rw [if_pos hf] at kept
  exact (stBit_of_kept kept 0 hoff).trans (stBit_setBit s f 0 hlt)

/-- The step that TB_STEP commands, added to the one that awaits the strobe. -/
def addHostStep (d : Int) (x : TimeBase) : TimeBase := { x with hostStep := some (x.hostStep.getD 0 + d) }

theorem exec_tbStep (via : Src) (n : Fin 4) (s : State) :
    exec (.tbStep via n) s = .next (tbMod n.val (addHostStep (stepOffset (journalReg via (R.TSU_TB_CMD n.val) 1 s) n.val))
      (journalReg via (R.TSU_TB_CMD n.val) 1 s)) := rfl

theorem Noted.stepOffset {t : State} (h : Noted s t) (n : Fin 4) : stepOffset t n.val = stepOffset s n.val := by
  have away : ∀ n : Fin 4, R.TSU_TB_STEP_SEC n.val ∉ jnlRegs ∧ R.TSU_TB_STEP_NS n.val ∉ jnlRegs := by decide
  obtain ⟨hsec, hns⟩ := away n
  unfold Machine.stepOffset
  rw [h.rdN _ hsec, h.rdN _ hns]

/-- A time base with no step awaiting the strobe. -/
def stepsCleared (x : TimeBase) : TimeBase := { x with hostStep := none, servoStep := none }

/-- A step that awaits the strobe, if there is one, is applied. -/
def awaitedStep (n : Nat) (d : Option Int) (s : State) : State :=
  match d with
  | some d => applyStep n d s
  | none => s

theorem exec_tbStepApply (n : Fin 4) (s : State) :
    exec (.tbStepApply n) s = .next (showPhase (awaitedStep n.val (tbOf s n.val).servoStep
      (awaitedStep n.val (tbOf s n.val).hostStep (tbMod n.val stepsCleared s)))) := rfl

theorem tbOf_applyStep (n : Nat) (d : Int) (s : State) (m : Nat) :
    tbOf (applyStep n d s) m = if m = n then { tbOf s n with time := (tbOf s n).time + d } else tbOf s m :=
  (tbOf_of_time (logsOnly_raise _ _ _).time m).trans (tbOf_tbMod n _ s m)

theorem tbOf_awaitedStep (n : Nat) (d : Option Int) (s : State) (m : Nat) :
    tbOf (awaitedStep n d s) m = if m = n then { tbOf s n with time := (tbOf s n).time + d.getD 0 } else tbOf s m := by
  cases d with
  | some d => exact tbOf_applyStep n d s m
  | none =>
    by_cases h : m = n
    · subst h
      simp [awaitedStep]
    · simp [awaitedStep, h]

theorem mem_awaitedStep (n : Nat) (d : Option Int) (s : State) : (awaitedStep n d s).mem = s.mem := by
  cases d with
  | some d => exact (logsOnly_raise _ _ _).mem
  | none => rfl

theorem tbStepBit_applyStep (n : Nat) (d : Int) (s : State) : stBit (applyStep n d s) F.TSU_STAT_TB_STEP = 1 :=
  stBit_raise_of_oneBit (by decide) rfl rfl (by decide) (by decide) _

/-- The bit is set by either of two steps: the second leaves set what the first has set. -/
theorem tbStepBit_awaitedSteps {a b : Option Int} (h : a.isSome = true ∨ b.isSome = true) (n : Nat) (s : State) :
    stBit (awaitedStep n b (awaitedStep n a s)) F.TSU_STAT_TB_STEP = 1 := by
  cases b with
  | some d => exact tbStepBit_applyStep n d _
  | none =>
    obtain ⟨d, rfl⟩ := Option.isSome_iff_exists.mp (h.resolve_right Bool.false_ne_true)
    exact tbStepBit_applyStep n d s

theorem stBit_showPhase (s : State) {f : Fld} (hf : f.off ≠ R.TSU_MPHASE) : stBit (showPhase s) f = stBit s f :=
  congrArg (fget · _ _) (rd_wr_of_ne s _ hf)

/-- Settles O21: the command adds its offset behind the record of its write; at the strobe the two awaited steps, emptied first, are
added one after the other. -/
theorem timeBaseStepsAtStrobe : Obligations.TimeBaseStepsAtStrobe := by
  unfold Obligations.TimeBaseStepsAtStrobe
  refine ⟨?_, ?_⟩
  · intro via n s
    have h := noted_journalReg via (R.TSU_TB_CMD n.val) 1 s
    have same : ∀ m, tbOf (journalReg via (R.TSU_TB_CMD n.val) 1 s) m = tbOf s m := tbOf_of_time h.logsOnly.time
    refine ⟨_, exec_tbStep via n s, ?_, fun m => ?_, ?_⟩
    · rw [tbOf_tbMod, if_pos rfl, same, h.stepOffset]
      rfl
    · rw [tbOf_tbMod, ← same m]
      split
      next hm => rw [hm]; rfl
      · rfl
    · have hmem := h.sameMem
      have hkept := h.kept
      obtain ⟨r, j, heq⟩ := h.parts
      rw [heq] at hmem hkept ⊢
      exact ⟨rfl, hkept, hmem⟩
  · intro n s h
    have steps : ∀ m, tbOf (showPhase (awaitedStep n.val (tbOf s n.val).servoStep
        (awaitedStep n.val (tbOf s n.val).hostStep (tbMod n.val stepsCleared s)))) m =
        if m = n.val then { stepsCleared (tbOf s n.val) with
          time := (tbOf s n.val).time + (tbOf s n.val).hostStep.getD 0 + (tbOf s n.val).servoStep.getD 0 } else tbOf s m := by
      intro m
      refine (tbOf_awaitedStep n.val _ _ m).trans ?_
      rw [tbOf_awaitedStep, tbOf_awaitedStep, tbOf_tbMod, tbOf_tbMod, if_pos rfl, if_pos rfl]
      split <;> rfl
    have self := (steps n.val).trans (if_pos rfl)
    refine ⟨_, exec_tbStepApply n s, ?_, ?_, ?_, ?_, fun m hm => (steps m).trans (if_neg hm), ?_⟩
    · rw [self]
    · rw [self]
      rfl
    · rw [self]
      rfl
    · rw [stBit_showPhase _ (by decide)]
      exact tbStepBit_awaitedSteps h n.val _
    · exact sameMem_of_mem ((mem_awaitedStep _ _ _).trans (mem_awaitedStep _ _ _))

end Sys2Proof.Machine
end

section
/-! SUPPORT. An offset from a Sync message that the profile does not accept (R249), and the refutation of O23. -/

namespace Sys2Proof.Machine

/-- The offset of a discarded message changes nothing. -/
theorem exec_ptpMeasWrite_of_discarded {n : Fin 4} {intervalNs : BitVec 32} {s : State}
    (h : syncAccepted s n.val intervalNs.toNat = false) (offset : BitVec 32) :
    exec (.ptpMeasWrite n offset intervalNs) s = .next s :=
  congrArg _ (if_pos (.inr (.inr h)))

/-- Time base 0 LOCKED to a PTP master, everything else as after reset: OFS shows 0. -/
def lockedToMaster : State := setF (setF State.reset (F.TSU_TB_CFG_SRC 0) 1) (F.TSU_TB_STATE_STATE 0) 2

/-- Refutes O23: the first clause holds for no Sync interval that the profile does not accept, such as 0 ns: the offset is that
of a discarded message (R249), and OFS still shows 0 once an offset of 1 ns has been written. -/
theorem not_ptpMeasurementSteersServo : ¬ Obligations.PtpMeasurementSteersServo := by
  unfold Obligations.PtpMeasurementSteersServo
  rintro ⟨steers, -⟩
  obtain ⟨t, hexec, hofs, -⟩ := steers 0 256#32 0#32 lockedToMaster (by decide) (by decide)
  have discarded : syncAccepted lockedToMaster 0 (0#32).toNat = false := by decide
  rw [exec_ptpMeasWrite_of_discarded discarded] at hexec
  obtain rfl : lockedToMaster = t := Host.Outcome.next.inj hexec
  have shown : rd lockedToMaster (R.TSU_TB_OFS 0) = 0#32 := by decide
  exact absurd (shown.symm.trans hofs) (by decide)

end Sys2Proof.Machine
end

section
/-! SUPPORT. Effects on one time base (R245 to R251): of the registers some listed ones may differ, of the time bases one, which
keeps its time and its last accepted edge.  One lemma for each function that judges a reference, in the order of the model's files;
`h.f.g` reads "f, then g". -/

namespace Sys2Proof.Machine

variable {offs : List Nat} {n : Nat} {s t u : State}

/-- Registers outside a list, the time and last accepted edge of time base n, every other time base, the pins and memory are in t
as in s. -/
structure TbKept (offs : List Nat) (n : Nat) (s t : State) : Prop where
  regs : KeptBut offs s t
  time : (tbOf t n).time = (tbOf s n).time
  accepted : (tbOf t n).lastAccepted = (tbOf s n).lastAccepted
  others : ∀ m, m ≠ n → tbOf t m = tbOf s m
  pins : t.time.pins = s.time.pins
  mem : t.mem = s.mem

theorem TbKept.refl (offs : List Nat) (n : Nat) (s : State) : TbKept offs n s s := ⟨.refl _ s, rfl, rfl, fun _ _ => rfl, rfl, rfl⟩

theorem TbKept.trans (h : TbKept offs n s t) (h' : TbKept offs n t u) : TbKept offs n s u where
  regs := h.regs.trans h'.regs
  time := h'.time.trans h.time
  accepted := h'.accepted.trans h.accepted
  others m hm := (h'.others m hm).trans (h.others m hm)
  pins := h'.pins.trans h.pins
  mem := h'.mem.trans h.mem

theorem TbKept.mono {offs' : List Nat} (h : TbKept offs n s t) (ho : offs ⊆ offs') : TbKept offs' n s t :=
  ⟨h.regs.mono ho, h.time, h.accepted, h.others, h.pins, h.mem⟩

theorem TbKept.ite {p : Prop} [Decidable p] (h : TbKept offs n s t) (h' : TbKept offs n s u) :
    TbKept offs n s (if p then t else u) := by
  split
  · exact h
  · exact h'

/-- An effect outside the time subsystem. -/
theorem TbKept.outside (h : TbKept offs n s t) (regs : KeptBut offs t u) (htime : u.time = t.time) (hmem : u.mem = t.mem) :
    TbKept offs n s u :=
  h.trans ⟨regs, congrArg TimeBase.time (tbOf_of_time htime n), congrArg TimeBase.lastAccepted (tbOf_of_time htime n),
    fun m _ => tbOf_of_time htime m, congrArg TimeState.pins htime, hmem⟩

theorem TbKept.wr {o : Nat} {v : Word} (h : TbKept offs n s t) (ho : o ∈ offs) : TbKept offs n s (wr t o v) :=
  h.outside ((KeptBut.refl _ t).wr ho) rfl rfl

theorem TbKept.setF {f : Fld} {v : Nat} (h : TbKept offs n s t) (ho : f.off ∈ offs) : TbKept offs n s (setF t f v) := h.wr ho

theorem TbKept.cnt {o : Nat} (h : TbKept offs n s t) (ho : o ∈ offs) : TbKept offs n s (cnt t o) := h.wr ho

theorem TbKept.raise {e : Err} {f : Fld} (h : TbKept offs n s t) (he : errSev e ≠ .fatal) (htie : errTie e n = some f)
    (hf : f.off ∈ offs) (ho : errRegs ⊆ offs) : TbKept offs n s (raise e n t) := by
  refine h.outside ((KeptBut.refl _ t).raise he ho ?_) (logsOnly_raise e n t).time (logsOnly_raise e n t).mem
  intro g hg
  obtain rfl : f = g := Option.some.inj (htie.symm.trans hg)
  exact hf

/-- A change of the time base that sets neither its time nor its last accepted edge; both equations hold by computation. -/
theorem TbKept.tbMod {f : TimeBase → TimeBase} (h : TbKept offs n s t)
    (hf : ∀ x, (f x).time = x.time ∧ (f x).lastAccepted = x.lastAccepted := by exact fun _ => ⟨rfl, rfl⟩) :
    TbKept offs n s (tbMod n f t) := by
  have self : tbOf (Machine.tbMod n f t) n = f (tbOf t n) := (tbOf_tbMod n f t n).trans (if_pos rfl)
  exact h.trans ⟨(KeptBut.refl _ t).of_regs rfl, by rw [self, (hf _).1], by rw [self, (hf _).2],
    fun m hm => (tbOf_tbMod n f t m).trans (if_neg hm), rfl, rfl⟩

theorem TbKept.fadjSet {stamp : Nat} {v : Word} (h : TbKept offs n s t) (ho : R.TSU_TB_FADJ n ∈ offs) :
    TbKept offs n s (fadjSet n stamp v t) := h.tbMod.wr ho

theorem pins_tbMod (n : Nat) (f : TimeBase → TimeBase) (s : State) : (tbMod n f s).time.pins = s.time.pins := rfl

theorem pins_tbEnter (n st : Nat) (s : State) : (tbEnter n st s).time.pins = s.time.pins := by
  have hold : ∀ u, (if st = 3 then setF u (F.TSU_TB_STATE_HOLD n) 0 else u).time.pins = u.time.pins := by
    intro u
    split <;> rfl
  have pps : ∀ (p : Prop) [Decidable p] (u : State),
      (if p then { u with time := { u.time with ppsHigh := none } } else u).time.pins = u.time.pins := by
    intro p _ u
    split <;> rfl
  have follows : ∀ u, (mediaLoopFollows n st u).time.pins = u.time.pins := by
    intro u
    unfold mediaLoopFollows
    split_ifs
    · rw [setF_time]
    · rw [setF_time]
    · rfl
    · rfl
  have entered : (enterState n st s).time.pins = s.time.pins := by
    unfold enterState
    exact ((pps _ _).trans (hold _)).trans (congrArg TimeState.pins (setF_time _ _ _))
  rw [tbEnter_eq, follows, pins_tbMod, entered]

/-- The entry into any state writes the state's register and the media loop's. -/
theorem KeptBut.tbEnter {st : Nat} (h : KeptBut offs s t) (hst : R.TSU_TB_STATE n ∈ offs) (hml : R.TSU_ML_STATE ∈ offs) :
    KeptBut offs s (tbEnter n st t) := by
  have entered : KeptBut offs s (enterState n st t) := by
    have set := h.setF (f := F.TSU_TB_STATE_STATE n) (v := st) hst
    have held := KeptBut.ite (p := st = 3) (set.setF (f := F.TSU_TB_STATE_HOLD n) (v := 0) hst) set
    exact .ite (held.of_regs rfl) held
  have ml : F.TSU_ML_STATE_STATE.off ∈ offs := hml
  have follows : ∀ u, KeptBut offs s u → KeptBut offs s (mediaLoopFollows n st u) :=
    fun u hu => .ite (.ite (hu.setF ml) (.ite ((hu.of_regs rfl).setF ml) hu)) hu
  exact follows _ (entered.of_regs rfl)

theorem TbKept.tbEnter {st : Nat} (h : TbKept offs n s t) (hst : R.TSU_TB_STATE n ∈ offs) (hml : R.TSU_ML_STATE ∈ offs) :
    TbKept offs n s (tbEnter n st t) := by
  have self := (tbOf_tbEnter n st t n).trans (if_pos rfl)
  exact h.trans ⟨(KeptBut.refl _ t).tbEnter hst hml, by rw [self], by rw [self],
    fun m hm => (tbOf_tbEnter n st t m).trans (if_neg hm), pins_tbEnter n st t, (timeLogsOnly_tbEnter n st t).mem⟩

/-- The registers that the loss of a reference may write. -/
def lossRegs (n : Nat) : List Nat :=
  [R.TSU_TB_LOSS_CNT n, R.TSU_TB_STATE n, R.TSU_TB_FADJ n, R.TSU_ML_STATE, R.TSU_STAT] ++ errRegs

/-- The registers that an edge judged for a time base may write. -/
def edgeRegs (n : Nat) : List Nat := lossRegs n ++ [R.TSU_TB_GLITCH_CNT n, R.TSU_TB_OFS n, R.TSU_TB_RATE n] ++ ascRegs

theorem lossRegs_subset_edgeRegs : lossRegs n ⊆ edgeRegs n :=
  List.Subset.trans (List.subset_append_left _ _) (List.subset_append_left _ _)

theorem errRegs_subset_lossRegs : errRegs ⊆ lossRegs n := List.subset_append_right _ _

theorem ascRegs_subset_edgeRegs : ascRegs ⊆ edgeRegs n := List.subset_append_right _ _

theorem rateRegs_subset_edgeRegs : R.TSU_TB_RATE n :: lossRegs n ⊆ edgeRegs n :=
  List.cons_subset.mpr ⟨by simp [edgeRegs], lossRegs_subset_edgeRegs⟩

theorem TbKept.restartGood (h : TbKept offs n s t) : TbKept offs n s (restartGood n t) := h.tbMod

/-- A loss of reference that is noted: counted, reported, and not to be counted again in this gap. -/
def lossNoted (n : Nat) (s : State) : State :=
  tbMod n (fun x => { x with lost := true }) (raise .tsuRefLoss n (cnt (restartGood n s) (R.TSU_TB_LOSS_CNT n)))

theorem TbKept.lossNoted (h : TbKept offs n s t) (ho : lossRegs n ⊆ offs) : TbKept offs n s (lossNoted n t) := by
  have counted : TbKept offs n s (Machine.cnt (Machine.restartGood n t) (R.TSU_TB_LOSS_CNT n)) :=
    h.restartGood.cnt (ho (by simp [lossRegs]))
  exact (counted.raise (by decide) rfl (ho (by simp [lossRegs, F.TSU_STAT_REF_LOSS]))
    (List.Subset.trans errRegs_subset_lossRegs ho)).tbMod

theorem TbKept.refLoss (h : TbKept offs n s t) (ho : lossRegs n ⊆ offs) : TbKept offs n s (refLoss n t) := by
  have hst : R.TSU_TB_STATE n ∈ offs := ho (by simp [lossRegs])
  have hml : R.TSU_ML_STATE ∈ offs := ho (by simp [lossRegs])
  have noted := h.lossNoted ho
  unfold Machine.refLoss
  extract_lets _ _ s1
  refine .ite h.restartGood ?_
  split
  · exact noted.tbEnter hst hml
  · exact (noted.fadjSet (ho (by simp [lossRegs]))).tbEnter hst hml
  · exact noted.tbEnter hst hml
  · exact noted

theorem TbKept.recoverClock {b : Nat} (h : TbKept offs n s t) (ho : ascRegs ⊆ offs) : TbKept offs n s (recoverClock b t) := by
  have trigger : ∀ c f l, TbKept offs n s (ascTrigger c f l false t) := by
    intro c f l
    have kept := (keptBut_ascTrigger c f l false t).mono ho
    obtain ⟨r, e, j, a, heq⟩ := scaleLogsOnly_ascTrigger c f l false t
    rw [heq] at kept ⊢
    exact h.outside kept rfl rfl
  exact .ite (trigger _ _ _) h

theorem TbKept.refQualified (h : TbKept offs n s t) (ho : edgeRegs n ⊆ offs) : TbKept offs n s (refQualified n t) := by
  have hloss : lossRegs n ⊆ offs := List.Subset.trans lossRegs_subset_edgeRegs ho
  have hst : R.TSU_TB_STATE n ∈ offs := hloss (by simp [lossRegs])
  unfold Machine.refQualified
  extract_lets s1 s2 s3 s4
  have h3 : TbKept offs n s s3 :=
    TbKept.tbEnter (.setF h.tbMod hst) hst (hloss (by simp [lossRegs]))
  have h4 : TbKept offs n s s4 :=
    h3.raise (by decide) rfl (hloss (by simp [lossRegs, F.TSU_STAT_REINSTATED])) (List.Subset.trans errRegs_subset_lossRegs hloss)
  exact .ite (h4.recoverClock (List.Subset.trans ascRegs_subset_edgeRegs ho)) h4

theorem TbKept.servo {stamp tNs : Nat} {e : Int} (h : TbKept offs n s t) (ho : edgeRegs n ⊆ offs) :
    TbKept offs n s (servo n stamp e tNs t) :=
  (h.tbMod.wr (ho (by simp [edgeRegs]))).fadjSet (ho (by simp [edgeRegs, lossRegs]))

theorem TbKept.lockWindow {inside : Bool} (h : TbKept offs n s t) (ho : lossRegs n ⊆ offs) :
    TbKept offs n s (lockWindow n inside t) := by
  have hst : R.TSU_TB_STATE n ∈ offs := ho (by simp [lossRegs])
  unfold Machine.lockWindow
  extract_lets s1
  have h1 : TbKept offs n s s1 := h.tbMod
  exact .ite (.tbEnter (.setF (h1.tbMod) hst) hst (ho (by simp [lossRegs]))) h1

theorem TbKept.noteMeasure {stamp : Nat} (h : TbKept offs n s t) : TbKept offs n s (noteMeasure n stamp t) :=
  h.tbMod

theorem TbKept.servoStep {e : Int} (h : TbKept offs n s t) : TbKept offs n s (servoStep n e t) := h.tbMod

/-- A glitch is counted and reported. -/
theorem TbKept.glitch (h : TbKept offs n s t) (ho : edgeRegs n ⊆ offs) :
    TbKept offs n s (Machine.raise .tsuGlitch n (Machine.cnt t (R.TSU_TB_GLITCH_CNT n))) := by
  have hloss : lossRegs n ⊆ offs := List.Subset.trans lossRegs_subset_edgeRegs ho
  exact (h.cnt (ho (by simp [edgeRegs]))).raise (by decide) rfl (hloss (by simp [lossRegs, F.TSU_STAT_GLITCH]))
    (List.Subset.trans errRegs_subset_lossRegs hloss)

theorem TbKept.measure {stamp tNs : Nat} {e : Int} {inside : Bool} (h : TbKept offs n s t) (ho : edgeRegs n ⊆ offs) :
    TbKept offs n s (measure n stamp e tNs inside t) := by
  unfold Machine.measure
  extract_lets far s1 s2 s3
  have h2 : TbKept offs n s s2 := (h.glitch ho).tbMod
  have h3 : TbKept offs n s s3 := h.tbMod.servo ho
  exact .ite h.servoStep (.ite (.ite h2.servoStep h2) (h3.noteMeasure.lockWindow (List.Subset.trans lossRegs_subset_edgeRegs ho)))

/-- An accepted edge is the last accepted one. -/
def edgeNoted (stamp : Nat) (x : TimeBase) : TimeBase := { x with rejects := 0, lastAccepted := some stamp }

/-- What follows an accepted edge leaves it the last accepted one. -/
theorem tbKept_edgeAccepted (n stamp interval : Nat) (s : State) :
    TbKept (edgeRegs n) n (tbMod n (edgeNoted stamp) s) (edgeAccepted n stamp interval s) := by
  have ho : edgeRegs n ⊆ edgeRegs n := List.Subset.refl _
  unfold edgeAccepted
  extract_lets e tNs s1 k s2 r
  have h1 : TbKept (edgeRegs n) n s1 s1 := .refl _ _ _
  have h2 : TbKept (edgeRegs n) n s1 s2 := h1.tbMod
  refine .ite ?_ (h1.measure ho)
  split
  · exact h1.tbMod
  · exact .ite (.ite (h2.refQualified ho) (h2.tbMod)) h2

/-- A rejected edge, once it is counted and reported, is a loss at most. -/
theorem tbKept_edgeRejected (n : Nat) (s : State) :
    TbKept (lossRegs n) n (raise .tsuGlitch n (cnt s (R.TSU_TB_GLITCH_CNT n))) (edgeRejected n s) := by
  unfold edgeRejected
  extract_lets s1 s2
  have h2 : TbKept (lossRegs n) n s1 s2 := ((TbKept.refl _ n s1).tbMod).restartGood
  exact .ite ((h2.tbMod).refLoss (List.Subset.refl _)) h2

/-- What follows the judgement of an edge: a changed rate of the reference is shown and reported (R247). -/
def rateJudged (n : Nat) (intervals : List Nat) (rate : Nat) (s : State) : State :=
  if rateChanged intervals rate ∧ getF s (F.TSU_TB_STATE_RATE_CHG n) = 0 then
    raise .tsuRateChg n (setF (wrN s (R.TSU_TB_RATE n) (256 * 256 * stampsPerSec / intervals.foldl (· + ·) 0))
      (F.TSU_TB_STATE_RATE_CHG n) 1)
  else s

theorem TbKept.rateJudged {intervals : List Nat} {rate : Nat} (h : TbKept offs n s t)
    (ho : R.TSU_TB_RATE n :: lossRegs n ⊆ offs) : TbKept offs n s (rateJudged n intervals rate t) := by
  obtain ⟨hrate, hloss⟩ := List.cons_subset.mp ho
  refine .ite (TbKept.raise (.setF (h.wr hrate) ?_) (by decide) rfl ?_ (List.Subset.trans errRegs_subset_lossRegs hloss)) h
  · exact hloss (by simp [lossRegs, F.TSU_TB_STATE_RATE_CHG])
  · exact hloss (by simp [lossRegs, F.TSU_STAT_RATE_CHG])

/-- A reference that has come back. -/
def refFound (x : TimeBase) : TimeBase := { x with lost := false }

theorem edgeFor_of_first {pin : RefPinSt} (h : pin.lastEdge = none) (n stamp : Nat) (s : State) :
    edgeFor n stamp pin s = tbMod n refFound s := by
  unfold edgeFor
  rw [h]
  rfl

theorem edgeFor_of_next {pin : RefPinSt} {prev : Nat} (h : pin.lastEdge = some prev) (n stamp : Nat) (s : State) :
    edgeFor n stamp pin s = rateJudged n (((stamp - prev) :: pin.intervals).take 256) (nominalRate s n)
      (if withinPpm (stamp - prev) (nominalRate s n) 125000 then edgeAccepted n stamp (stamp - prev) (tbMod n refFound s)
        else edgeRejected n (tbMod n refFound s)) := by
  unfold edgeFor
  rw [h]
  rfl

variable {pin : RefPinSt} {stamp prev : Nat}

theorem tbKept_edgeFor_of_accepted (h : pin.lastEdge = some prev)
    (hin : withinPpm (stamp - prev) (nominalRate s n) 125000 = true) :
    TbKept (edgeRegs n) n (tbMod n (edgeNoted stamp) (tbMod n refFound s)) (edgeFor n stamp pin s) := by
  rw [edgeFor_of_next h, if_pos hin]
  exact (tbKept_edgeAccepted n stamp (stamp - prev) _).rateJudged rateRegs_subset_edgeRegs

theorem tbKept_edgeFor_of_rejected (h : pin.lastEdge = some prev)
    (hout : withinPpm (stamp - prev) (nominalRate s n) 125000 = false) :
    TbKept (R.TSU_TB_RATE n :: lossRegs n) n (raise .tsuGlitch n (cnt (tbMod n refFound s) (R.TSU_TB_GLITCH_CNT n)))
      (edgeFor n stamp pin s) := by
  rw [edgeFor_of_next h, hout]
  exact ((tbKept_edgeRejected n _).mono (List.subset_cons_self _ _)).rateJudged (List.Subset.refl _)

theorem accepted_edgeFor (h : pin.lastEdge = some prev) (hin : withinPpm (stamp - prev) (nominalRate s n) 125000 = true) :
    (tbOf (edgeFor n stamp pin s) n).lastAccepted = some stamp := by
  rw [(tbKept_edgeFor_of_accepted h hin).accepted, tbOf_tbMod, if_pos rfl]
  rfl

theorem rejected_edgeFor (hn : n < 4) (h : pin.lastEdge = some prev)
    (hout : withinPpm (stamp - prev) (nominalRate s n) 125000 = false) :
    (tbOf (edgeFor n stamp pin s) n).lastAccepted = (tbOf s n).lastAccepted ∧
    rdN (edgeFor n stamp pin s) (R.TSU_TB_GLITCH_CNT n) = min (rdN s (R.TSU_TB_GLITCH_CNT n) + 1) 0xFFFFFFFF := by
  have away : ∀ n : Fin 4, R.TSU_TB_GLITCH_CNT n ∉ R.TSU_TB_RATE n :: lossRegs n ∧
      R.TSU_TB_GLITCH_CNT n ∉ R.TSU_STAT :: errRegs := by decide
  obtain ⟨hloss, hraise⟩ := away ⟨n, hn⟩
  have counted := rdN_cntAdd_self (tbMod n refFound s) (R.TSU_TB_GLITCH_CNT n) 1
  have raised : KeptBut (R.TSU_STAT :: errRegs) _ (raise .tsuGlitch n (cnt (tbMod n refFound s) (R.TSU_TB_GLITCH_CNT n))) :=
    (KeptBut.refl _ _).raise (by decide) (List.subset_cons_self _ _) (by rintro f ⟨⟩; exact List.mem_cons_self)
  have found : TbKept (edgeRegs n) n s (tbMod n refFound s) := (TbKept.refl _ n s).tbMod
  have judged := tbKept_edgeFor_of_rejected h hout
  exact ⟨judged.accepted.trans (found.glitch (List.Subset.refl _)).accepted,
    ((rdN_of_kept judged.regs hloss).trans (rdN_of_kept raised hraise)).trans counted⟩

end Sys2Proof.Machine
end

section
/-! SUPPORT. The loss of the reference of a LOCKED time base (R245, R247, R251) (O22). -/

namespace Sys2Proof.Machine

variable {n : Nat} {s : State}

theorem exec_refEdgeTimeout_of_edgeRef {n : Fin 4}
    (h : getF s (F.TSU_TB_CFG_SRC n.val) = 2 ∨ getF s (F.TSU_TB_CFG_SRC n.val) = 3) :
    exec (.refEdgeTimeout n) s = .next (refLoss n.val s) := congrArg _ (if_pos h)

theorem tbState_lossNoted (hn : n < 4) (s : State) : tbState (lossNoted n s) n = tbState s n := by
  have away : ∀ n : Fin 4, R.TSU_TB_STATE n ∉ [R.TSU_TB_LOSS_CNT n, R.TSU_STAT] ++ errRegs := by decide
  have counted : KeptBut ([R.TSU_TB_LOSS_CNT n, R.TSU_STAT] ++ errRegs) s (cnt (restartGood n s) (R.TSU_TB_LOSS_CNT n)) :=
    ((KeptBut.refl _ s).of_regs rfl).cntAdd List.mem_cons_self
  have noted : KeptBut ([R.TSU_TB_LOSS_CNT n, R.TSU_STAT] ++ errRegs) s (lossNoted n s) :=
    (counted.raise (by decide) (List.subset_append_right _ _) (by rintro f ⟨⟩; simp [F.TSU_STAT_REF_LOSS])).of_regs rfl
  exact noted.getF (f := F.TSU_TB_STATE_STATE n) (away ⟨n, hn⟩)

/-- The FADJ that a time base keeps in HOLDOVER (R245). -/
def holdoverFadj (n : Nat) (s : State) : Word := BitVec.ofInt 32 (fadjMean (tbOf s n) (fadjOf s n))

theorem refLoss_of_locked (hn : n < 4) (hlost : (tbOf s n).lost = false) (hstate : tbState s n = 2) :
    refLoss n s = tbEnter n 3 (fadjSet n (nowStamp (lossNoted n s)) (holdoverFadj n (lossNoted n s)) (lossNoted n s)) := by
  have present : ¬ (tbOf (restartGood n s) n).lost = true := by
    unfold restartGood
    rw [tbOf_tbMod, if_pos rfl, hlost]
    exact Bool.false_ne_true
  have noted : tbState (lossNoted n s) n = 2 := (tbState_lossNoted hn s).trans hstate
  unfold refLoss
  refine (if_neg present).trans ?_
  dsimp only
  split
  next h => exact absurd (noted.symm.trans h) (by decide)
  · rfl
  next h => exact absurd (noted.symm.trans h) (by decide)
  next h _ => exact absurd noted h

/-- The entry into HOLDOVER shows it, with its HOLD count beside it. -/
theorem tbState_tbEnter_holdover (hn : n < 4) (s : State) : tbState (tbEnter n 3 s) n = 3 := by
  have away : ∀ n : Fin 4, R.TSU_TB_STATE n ∉ [R.TSU_ML_STATE] := by decide
  have entered : tbState (enterState n 3 s) n = 3 := by
    have shown : KeptBut [] (setF (setF s (F.TSU_TB_STATE_STATE n) 3) (F.TSU_TB_STATE_HOLD n) 0) (enterState n 3 s) :=
      .ite ((KeptBut.refl _ _).of_regs rfl) (.refl _ _)
    refine (shown.getF List.not_mem_nil).trans ((getF_setF_of_apart _ _ ?_).trans (getF_setF_of_lt s _ ?_ ?_))
    · exact .inr (show 0 ≤ 15 ∧ 31 < 32 ∧ (15 < 29 ∨ 31 < 0) by decide)
    · exact (show 29 ≤ 31 ∧ 31 < 32 by decide)
    · exact (show 3 < 2 ^ (31 + 1 - 29) by decide)
  have follows : ∀ u, KeptBut [R.TSU_ML_STATE] u (mediaLoopFollows n 3 u) :=
    fun u => .ite ((KeptBut.refl _ u).setF List.mem_cons_self) (.refl _ u)
  rw [tbEnter_eq]
  exact ((follows _).getF (f := F.TSU_TB_STATE_STATE n) (away ⟨n, hn⟩)).trans entered

theorem lossNoted_shows (hn : n < 4) (s : State) :
    rdN (lossNoted n s) (R.TSU_TB_LOSS_CNT n) = min (rdN s (R.TSU_TB_LOSS_CNT n) + 1) 0xFFFFFFFF ∧
    stBit (lossNoted n s) F.TSU_STAT_REF_LOSS = 1 ∧ (tbOf (lossNoted n s) n).lost = true := by
  have away : ∀ n : Fin 4, R.TSU_TB_LOSS_CNT n ∉ R.TSU_STAT :: errRegs := by decide
  have raised : KeptBut (R.TSU_STAT :: errRegs) (cnt (restartGood n s) (R.TSU_TB_LOSS_CNT n)) (lossNoted n s) :=
    ((KeptBut.refl _ _).raise (by decide) (List.subset_cons_self _ _) (by rintro f ⟨⟩; exact List.mem_cons_self)).of_regs rfl
  refine ⟨(rdN_of_kept raised (away ⟨n, hn⟩)).trans (rdN_cntAdd_self _ _ _), ?_, ?_⟩
  · exact stBit_raise_of_oneBit (by decide) rfl rfl (by decide) (by decide) _
  · unfold lossNoted
    rw [tbOf_tbMod, if_pos rfl]

theorem lost_fadjSet (n stamp : Nat) (v : Word) (s : State) : (tbOf (fadjSet n stamp v s) n).lost = (tbOf s n).lost := by
  refine (congrArg TimeBase.lost (tbOf_tbMod n _ s n)).trans ?_
  rw [if_pos rfl]

/-- A LOCKED time base whose reference is lost: HOLDOVER, one loss counted and reported. -/
theorem refLoss_of_locked_spec (hn : n < 4) (hlost : (tbOf s n).lost = false) (hstate : tbState s n = 2) :
    tbState (refLoss n s) n = 3 ∧ (tbOf (refLoss n s) n).lost = true ∧
    rdN (refLoss n s) (R.TSU_TB_LOSS_CNT n) = min (rdN s (R.TSU_TB_LOSS_CNT n) + 1) 0xFFFFFFFF ∧
    stBit (refLoss n s) F.TSU_STAT_REF_LOSS = 1 ∧ (tbOf (refLoss n s) n).time = (tbOf s n).time ∧ SameMem s (refLoss n s) := by
  have away : ∀ n : Fin 4, R.TSU_TB_LOSS_CNT n ∉ [R.TSU_TB_FADJ n, R.TSU_TB_STATE n, R.TSU_ML_STATE] ∧
      R.TSU_STAT ∉ [R.TSU_TB_FADJ n, R.TSU_TB_STATE n, R.TSU_ML_STATE] := by decide
  obtain ⟨hcnt, hstat⟩ := away ⟨n, hn⟩
  obtain ⟨counted, reported, lost⟩ := lossNoted_shows hn s
  have whole : TbKept (lossRegs n) n s (refLoss n s) := (TbKept.refl _ n s).refLoss (List.Subset.refl _)
  have held : TbKept [R.TSU_TB_FADJ n, R.TSU_TB_STATE n, R.TSU_ML_STATE] n (lossNoted n s) (refLoss n s) := by
    rw [refLoss_of_locked hn hlost hstate]
    exact ((TbKept.refl _ n _).fadjSet (by simp)).tbEnter (by simp) (by simp)
  refine ⟨?_, ?_, (rdN_of_kept held.regs hcnt).trans counted, (stBit_of_kept held.regs 0 hstat).trans reported, whole.time,
    sameMem_of_mem whole.mem⟩
  · rw [refLoss_of_locked hn hlost hstate]
    exact tbState_tbEnter_holdover hn _
  · rw [refLoss_of_locked hn hlost hstate, tbOf_tbEnter, if_pos rfl]
    exact (lost_fadjSet _ _ _ _).trans lost

end Sys2Proof.Machine
end

section
/-! SUPPORT. An edge at a reference pin, judged for every time base that follows the pin (R244, R246, R247, R258) (O22). -/

namespace Sys2Proof.Machine

variable {n : Nat} {s t u : State}

/-! ### A step run for each of some numbers -/

theorem forNat_related {Q : State → State → Prop} (refl : ∀ s, Q s s) (trans : ∀ {s t u}, Q s t → Q t u → Q s u)
    {f : Nat → State → State} {N : Nat} (hf : ∀ m < N, ∀ u, Q u (f m u)) (s : State) : Q s (forNat N f s) := by
  induction N with
  | zero => exact refl s
  | succ N ih =>
    rw [forNat_succ]
    exact trans (ih fun m hm => hf m (by omega)) (hf N (by omega) _)

/-- One of the numbers at its turn: the steps before it and after it are those of the others. -/
theorem forNat_turn {Q : State → State → Prop} (refl : ∀ s, Q s s) (trans : ∀ {s t u}, Q s t → Q t u → Q s u)
    {f : Nat → State → State} {N n : Nat} (hn : n < N) (hf : ∀ m < N, m ≠ n → ∀ u, Q u (f m u)) (s : State) :
    ∃ u, Q s u ∧ Q (f n u) (forNat N f s) := by
  induction N with
  | zero => omega
  | succ N ih =>
    rw [forNat_succ]
    by_cases h : n = N
    · subst h
      exact ⟨forNat n f s, forNat_related refl trans (fun m hm => hf m (by omega) (by omega)) s, refl _⟩
    · obtain ⟨u, before, after⟩ := ih (by omega) fun m hm => hf m (by omega)
      exact ⟨u, before, trans after (hf N (by omega) (fun e => h e.symm) _)⟩

/-! ### What judging an edge for some time bases leaves alone -/

/-- All but the time bases ns and what their edges write is in t as in s. -/
structure EdgesKept (ns : List Nat) (s t : State) : Prop where
  regs : KeptBut (ns.flatMap edgeRegs) s t
  others : ∀ m, m ∉ ns → tbOf t m = tbOf s m
  pins : t.time.pins = s.time.pins
  mem : t.mem = s.mem

theorem EdgesKept.refl (ns : List Nat) (s : State) : EdgesKept ns s s := ⟨.refl _ s, fun _ _ => rfl, rfl, rfl⟩

theorem EdgesKept.trans {ns : List Nat} (h : EdgesKept ns s t) (h' : EdgesKept ns t u) : EdgesKept ns s u where
  regs := h.regs.trans h'.regs
  others m hm := (h'.others m hm).trans (h.others m hm)
  pins := h'.pins.trans h.pins
  mem := h'.mem.trans h.mem

theorem TbKept.edgesKept {ns : List Nat} (h : TbKept (edgeRegs n) n s t) (hn : n ∈ ns) : EdgesKept ns s t where
  regs := h.regs.mono fun _ ho => List.mem_flatMap_of_mem hn ho
  others m hm := h.others m (ne_of_mem_of_not_mem hn hm).symm
  pins := h.pins
  mem := h.mem

theorem edgesKept_tbMod {ns : List Nat} (hn : n ∈ ns) (f : TimeBase → TimeBase) (s : State) : EdgesKept ns s (tbMod n f s) :=
  ⟨(KeptBut.refl _ s).of_regs rfl, fun m hm => (tbOf_tbMod n f s m).trans (if_neg (ne_of_mem_of_not_mem hn hm).symm), rfl, rfl⟩

theorem edgesKept_edgeFor {ns : List Nat} (hn : n ∈ ns) (stamp : Nat) (pin : RefPinSt) (s : State) :
    EdgesKept ns s (edgeFor n stamp pin s) := by
  have found := edgesKept_tbMod hn refFound s
  cases h : pin.lastEdge with
  | none =>
    rw [edgeFor_of_first h]
    exact found
  | some prev =>
    cases hw : withinPpm (stamp - prev) (nominalRate s n) 125000 with
    | true => exact (found.trans (edgesKept_tbMod hn _ _)).trans ((tbKept_edgeFor_of_accepted h hw).edgesKept hn)
    | false =>
      have counted := (TbKept.refl (edgeRegs n) n (tbMod n refFound s)).glitch (List.Subset.refl _)
      exact found.trans ((counted.trans ((tbKept_edgeFor_of_rejected h hw).mono rateRegs_subset_edgeRegs)).edgesKept hn)

/-- The turn of a time base at an edge of the pin with a SRC code. -/
def edgeTurn (src stamp : Nat) (pin : RefPinSt) (n : Nat) (s : State) : State :=
  if getF s (F.TSU_TB_CFG_SRC n) = src then edgeFor n stamp pin s else s

/-- An edge judged for every time base that follows the pin. -/
def edgeJudged (src stamp : Nat) (pin : RefPinSt) (s : State) : State := forNat 4 (edgeTurn src stamp pin) s

theorem edgesKept_edgeTurn {ns : List Nat} (hn : n ∈ ns) (src stamp : Nat) (pin : RefPinSt) (s : State) :
    EdgesKept ns s (edgeTurn src stamp pin n s) := by
  unfold edgeTurn
  split
  · exact edgesKept_edgeFor hn stamp pin s
  · exact .refl ns s

theorem edgesKept_edgeJudged (src stamp : Nat) (pin : RefPinSt) (s : State) :
    EdgesKept (List.range 4) s (edgeJudged src stamp pin s) :=
  forNat_related (Q := EdgesKept _) (.refl _) EdgesKept.trans (fun _ hm => edgesKept_edgeTurn (List.mem_range.mpr hm) src stamp pin) s

/-- The time bases but one. -/
def otherBases (n : Nat) : List Nat := (List.range 4).erase n

theorem own_registers_kept (h : EdgesKept (otherBases n) s t) (hn : n < 4) :
    rd t (R.TSU_TB_CFG n) = rd s (R.TSU_TB_CFG n) ∧ rdN t (R.TSU_TB_GLITCH_CNT n) = rdN s (R.TSU_TB_GLITCH_CNT n) ∧
    tbOf t n = tbOf s n := by
  have away : ∀ n : Fin 4, R.TSU_TB_CFG n ∉ (otherBases n).flatMap edgeRegs ∧
      R.TSU_TB_GLITCH_CNT n ∉ (otherBases n).flatMap edgeRegs ∧ n.val ∉ otherBases n := by decide
  obtain ⟨hcfg, hglitch, hown⟩ := away ⟨n, hn⟩
  exact ⟨h.regs _ hcfg, rdN_of_kept h.regs hglitch, h.others n hown⟩

theorem nominalRate_of_cfg (h : rd t (R.TSU_TB_CFG n) = rd s (R.TSU_TB_CFG n)) : nominalRate t n = nominalRate s n := by
  unfold nominalRate getF F.TSU_TB_CFG_SRC F.TSU_TB_CFG_WRATE
  rw [h]

/-- For a time base that follows the pin the edge is judged once, where its configuration, glitch count and own state are as before;
what is judged for the others does not touch those. -/
theorem edgeJudged_follower {src : Nat} (hn : n < 4) (hsrc : getF s (F.TSU_TB_CFG_SRC n) = src) (stamp : Nat) (pin : RefPinSt) :
    ∃ u, nominalRate u n = nominalRate s n ∧ rdN u (R.TSU_TB_GLITCH_CNT n) = rdN s (R.TSU_TB_GLITCH_CNT n) ∧
      tbOf u n = tbOf s n ∧
      rdN (edgeJudged src stamp pin s) (R.TSU_TB_GLITCH_CNT n) = rdN (edgeFor n stamp pin u) (R.TSU_TB_GLITCH_CNT n) ∧
      tbOf (edgeJudged src stamp pin s) n = tbOf (edgeFor n stamp pin u) n := by
  have turns : ∀ m < 4, m ≠ n → ∀ u, EdgesKept (otherBases n) u (edgeTurn src stamp pin m u) :=
    fun m hm hne => edgesKept_edgeTurn ((List.mem_erase_of_ne hne).mpr (List.mem_range.mpr hm)) src stamp pin
  obtain ⟨u, before, after⟩ := forNat_turn (Q := EdgesKept _) (.refl _) EdgesKept.trans hn turns s
  obtain ⟨hcfg, hglitch, htb⟩ := own_registers_kept before hn
  have turn : edgeTurn src stamp pin n u = edgeFor n stamp pin u :=
    if_pos ((congrArg (fget · 31 29) hcfg).trans hsrc)
  rw [turn] at after
  obtain ⟨-, hglitch', htb'⟩ := own_registers_kept after hn
  exact ⟨u, nominalRate_of_cfg hcfg, hglitch, htb, hglitch', htb'⟩

/-! ### The command -/

/-- A pin after an edge at a stamp. -/
def stampedPin (stamp : Nat) (x : RefPinSt) : RefPinSt where
  lastEdge := some stamp
  intervals := match x.lastEdge with
    | none => x.intervals
    | some p => ((stamp - p) :: x.intervals).take 256

/-- The state with a pin's edge stamped. -/
def pinStamped (src stamp : Nat) (s : State) : State :=
  { s with time := { s.time with pins := aSet (fun _ => RefPinSt.init) s.time.pins src (stampedPin stamp (pinOf s src)) } }

/-- A PPS_IN edge about a second after the one before is stamped into TSU_PPSI_*. -/
def ppsiJudged (pin : RefPin) (stamp : Nat) (x : RefPinSt) (s : State) : State :=
  match pin, x.lastEdge with
  | .ppsIn, some p => if withinPpm (stamp - p) 1 125000 then ppsiStamp stamp s else s
  | _, _ => s

/-- The state after an edge: the pin stamped, the edge judged for its followers, and stamped into TSU_PPSI_* where it counts as a
second. -/
def refEdgeTaken (pin : RefPin) (stamp : Nat) (s : State) : State :=
  ppsiJudged pin stamp (pinOf s (pinSrc pin)) (edgeJudged (pinSrc pin) stamp (pinOf s (pinSrc pin)) (pinStamped (pinSrc pin) stamp s))

theorem exec_refEdge (pin : RefPin) (stamp : BitVec 64) (s : State) :
    exec (.refEdge pin stamp) s = .next (refEdgeTaken pin stamp.toNat s) := rfl

theorem ppsiJudged_of_second {x : RefPinSt} {stamp prev : Nat} (h : x.lastEdge = some prev)
    (hin : withinPpm (stamp - prev) 1 125000 = true) (s : State) : ppsiJudged .ppsIn stamp x s = ppsiStamp stamp s := by
  unfold ppsiJudged
  rw [h]
  exact if_pos hin

theorem ppsiJudged_of_other {x : RefPinSt} {stamp : Nat}
    (h : x.lastEdge.all (fun p => !withinPpm (stamp - p) 1 125000) = true) (pin : RefPin) (s : State) :
    ppsiJudged pin stamp x s = s := by
  unfold ppsiJudged
  split
  next p hp =>
    rw [hp, Option.all_some, Bool.not_eq_true'] at h
    rw [h]
    rfl
  · rfl

theorem ppsiJudged_cases (pin : RefPin) (stamp : Nat) (x : RefPinSt) (s : State) :
    ppsiJudged pin stamp x s = s ∨ ppsiJudged pin stamp x s = ppsiStamp stamp s := by
  unfold ppsiJudged
  split
  · split
    · exact .inr rfl
    · exact .inl rfl
  · exact .inl rfl

/-- The registers that a stamp of PPS_IN writes. -/
def ppsiRegs : List Nat := [R.TSU_PPSI_NS, R.TSU_PPSI_FRAC, R.TSU_PPSI_SLO, R.TSU_PPSI_SHI, R.TSU_STAT]

theorem regsOnly_ppsiJudged (pin : RefPin) (stamp : Nat) (x : RefPinSt) (s : State) : RegsOnly s (ppsiJudged pin stamp x s) := by
  obtain h | h := ppsiJudged_cases pin stamp x s
  · rw [h]
    exact .refl s
  · rw [h]
    exact RegsOnly.setBit (.wr (.wr (.wr (.wr (.refl s)))))

theorem keptBut_ppsiJudged (pin : RefPin) (stamp : Nat) (x : RefPinSt) (s : State) :
    KeptBut ppsiRegs s (ppsiJudged pin stamp x s) := by
  obtain h | h := ppsiJudged_cases pin stamp x s
  · rw [h]
    exact .refl _ s
  · rw [h]
    exact KeptBut.setBit (.wr (.wr (.wr (.wr (.refl _ s) (by decide)) (by decide)) (by decide)) (by decide)) (by decide)

theorem RegsOnly.time (h : RegsOnly s t) : t.time = s.time := h.logsOnly.time

theorem lastEdge_of_pins {src stamp : Nat} (h : t.time.pins = (pinStamped src stamp s).time.pins) :
    (pinOf t src).lastEdge = some stamp := by
  unfold pinOf
  rw [h]
  unfold pinStamped
  dsimp only
  rw [aGet_aSet_self]
  rfl

/-- The pin keeps the stamp of its edge, and memory stays. -/
theorem refEdgeTaken_stamps (pin : RefPin) (stamp : Nat) (s : State) :
    (pinOf (refEdgeTaken pin stamp s) (pinSrc pin)).lastEdge = some stamp ∧ SameMem s (refEdgeTaken pin stamp s) := by
  have judged := edgesKept_edgeJudged (pinSrc pin) stamp (pinOf s (pinSrc pin)) (pinStamped (pinSrc pin) stamp s)
  have shown : RegsOnly _ (refEdgeTaken pin stamp s) := regsOnly_ppsiJudged _ _ _ _
  exact ⟨lastEdge_of_pins ((congrArg TimeState.pins shown.time).trans judged.pins), sameMem_of_mem (shown.mem.trans judged.mem)⟩

/-! ### An edge after another -/

/-- What a follower shows of an edge after another: what is judged for it alone. -/
theorem refEdgeTaken_follower {pin : RefPin} (hn : n < 4) (hsrc : getF s (F.TSU_TB_CFG_SRC n) = pinSrc pin) (stamp : Nat) :
    ∃ u, nominalRate u n = nominalRate s n ∧ rdN u (R.TSU_TB_GLITCH_CNT n) = rdN s (R.TSU_TB_GLITCH_CNT n) ∧
      tbOf u n = tbOf s n ∧
      rdN (refEdgeTaken pin stamp s) (R.TSU_TB_GLITCH_CNT n) =
        rdN (edgeFor n stamp (pinOf s (pinSrc pin)) u) (R.TSU_TB_GLITCH_CNT n) ∧
      tbOf (refEdgeTaken pin stamp s) n = tbOf (edgeFor n stamp (pinOf s (pinSrc pin)) u) n := by
  have away : ∀ n : Fin 4, R.TSU_TB_GLITCH_CNT n ∉ ppsiRegs := by decide
  obtain ⟨u, hrate, hglitch, htb, hglitch', htb'⟩ := edgeJudged_follower (s := pinStamped (pinSrc pin) stamp s) hn hsrc
    stamp (pinOf s (pinSrc pin))
  refine ⟨u, hrate, hglitch, htb, ?_, ?_⟩
  · exact (rdN_of_kept (keptBut_ppsiJudged _ _ _ _) (away ⟨n, hn⟩)).trans hglitch'
  · exact (tbOf_of_time (regsOnly_ppsiJudged _ _ _ _).time n).trans htb'

/-! ### The first edge -/

/-- Of the state, only the table of the time bases may differ, and there not the time base n. -/
structure TableKept (n : Nat) (s t : State) : Prop where
  parts : ∃ l, t = { s with time := { s.time with tb := l } }
  tb : tbOf t n = tbOf s n

theorem TableKept.refl (n : Nat) (s : State) : TableKept n s s := ⟨⟨s.time.tb, rfl⟩, rfl⟩

theorem TableKept.trans (h : TableKept n s t) (h' : TableKept n t u) : TableKept n s u := by
  refine ⟨?_, h'.tb.trans h.tb⟩
  obtain ⟨l, rfl⟩ := h.parts
  obtain ⟨l', rfl⟩ := h'.parts
  exact ⟨l', rfl⟩

theorem tableKept_edgeTurn {pin : RefPinSt} {m : Nat} (h : pin.lastEdge = none) (hne : m ≠ n) (src stamp : Nat) (s : State) :
    TableKept n s (edgeTurn src stamp pin m s) := by
  unfold edgeTurn
  split
  · rw [edgeFor_of_first h]
    exact ⟨⟨_, rfl⟩, (tbOf_tbMod m refFound s n).trans (if_neg hne.symm)⟩
  · exact .refl n s

/-- The first edge ends a gap for a follower of the pin, and changes nothing of it but that. -/
theorem edgeJudged_of_first {pin : RefPinSt} {src : Nat} (h : pin.lastEdge = none) (hn : n < 4)
    (hsrc : getF s (F.TSU_TB_CFG_SRC n) = src) (stamp : Nat) :
    tbOf (edgeJudged src stamp pin s) n = refFound (tbOf s n) ∧
    ∃ l, edgeJudged src stamp pin s = { s with time := { s.time with tb := l } } := by
  obtain ⟨u, before, after⟩ := forNat_turn (Q := TableKept n) (.refl n) TableKept.trans hn
    (fun m _ hne => tableKept_edgeTurn h hne src stamp) s
  have htb := before.tb
  obtain ⟨l, rfl⟩ := before.parts
  have turn : edgeTurn src stamp pin n { s with time := { s.time with tb := l } } =
      tbMod n refFound { s with time := { s.time with tb := l } } := (if_pos hsrc).trans (edgeFor_of_first h n stamp _)
  rw [turn] at after
  refine ⟨?_, ?_⟩
  · refine after.tb.trans ?_
    rw [tbOf_tbMod, if_pos rfl, htb]
  · obtain ⟨l', hl'⟩ := after.parts
    exact ⟨l', hl'⟩

/-! ### The obligation -/

/-- Settles O22: an edge is judged for the time bases in turn, each of which keeps to its own state and registers; what a follower
shows is its own turn, and TSU_PPSI_* are written after the last. -/
theorem edgeReferenceJudged : Obligations.EdgeReferenceJudged := by
  unfold Obligations.EdgeReferenceJudged
  refine ⟨?_, ?_, ?_, ?_, ?_, ?_⟩
  · intro pin stamp n s hsrc hfirst
    obtain ⟨hstamp, -⟩ := refEdgeTaken_stamps pin stamp.toNat s
    have notShown : refEdgeTaken pin stamp.toNat s = _ := ppsiJudged_of_other (by rw [hfirst]; rfl) pin _
    obtain ⟨htb, l, hl⟩ := edgeJudged_of_first (s := pinStamped (pinSrc pin) stamp.toNat s) hfirst n.isLt hsrc stamp.toNat
    refine ⟨_, exec_refEdge pin stamp s, hstamp, ?_⟩
    rw [notShown]
    refine ⟨htb, ?_⟩
    rw [hl]
    exact ⟨rfl, (KeptBut.refl _ s).of_regs rfl, sameMem_of_mem rfl⟩
  · intro pin stamp n s prev hsrc hprev hin
    obtain ⟨hstamp, hmem⟩ := refEdgeTaken_stamps pin stamp.toNat s
    obtain ⟨u, hrate, -, -, -, htb⟩ := refEdgeTaken_follower n.isLt hsrc stamp.toNat
    refine ⟨_, exec_refEdge pin stamp s, hstamp, ?_, hmem⟩
    rw [htb, accepted_edgeFor hprev (by rwa [hrate])]
  · intro pin stamp n s prev hsrc hprev hout
    obtain ⟨hstamp, hmem⟩ := refEdgeTaken_stamps pin stamp.toNat s
    obtain ⟨u, hrate, hglitch, htb, hglitch', htb'⟩ := refEdgeTaken_follower n.isLt hsrc stamp.toNat
    obtain ⟨hkept, hcount⟩ := rejected_edgeFor (s := u) n.isLt hprev (by rwa [hrate])
    refine ⟨_, exec_refEdge pin stamp s, hstamp, ?_, ?_, hmem⟩
    · rw [htb', hkept, htb]
    · rw [hglitch', hcount, hglitch]
  · intro stamp s prev hprev hin
    obtain ⟨hstamp, hmem⟩ := refEdgeTaken_stamps .ppsIn stamp.toNat s
    have shown : refEdgeTaken .ppsIn stamp.toNat s = _ := ppsiJudged_of_second hprev hin _
    refine ⟨_, exec_refEdge .ppsIn stamp s, hstamp, ?_, hmem⟩
    rw [shown]
    exact stBit_setBit _ _ 0 (by decide)
  · intro stamp s hother
    obtain ⟨hstamp, hmem⟩ := refEdgeTaken_stamps .ppsIn stamp.toNat s
    have notShown : refEdgeTaken .ppsIn stamp.toNat s = _ := ppsiJudged_of_other hother .ppsIn _
    have judged := edgesKept_edgeJudged 3 stamp.toNat (pinOf s 3) (pinStamped 3 stamp.toNat s)
    have away : ∀ o ∈ [R.TSU_PPSI_NS, R.TSU_PPSI_FRAC, R.TSU_PPSI_SLO, R.TSU_PPSI_SHI], o ∉ (List.range 4).flatMap edgeRegs := by
      decide
    refine ⟨_, exec_refEdge .ppsIn stamp s, hstamp, fun o ho => ?_, hmem⟩
    rw [notShown]
    exact judged.regs o (away o ho)
  · rintro n s hsrc ⟨hlost, hstate⟩
    exact ⟨_, exec_refEdgeTimeout_of_edgeRef hsrc, refLoss_of_locked_spec n.isLt hlost hstate⟩

end Sys2Proof.Machine
end

section
/-! SUPPORT. Effects on the Ethernet ports (R262 to R280): which parts of the state they may change, and what is read of registers,
counters and ports behind them. -/

namespace Sys2Proof.Machine

variable {s t u : State} {offs : List Nat}

/-! ### Registers of a port -/

/-- Setting a field of a port leaves a field of it apart from that alone. -/
theorem getF_setF_port (f g : Nat → Fld) (h : ∀ p : Fin 4, Apart (f p) (g p)) (p : Fin 4) (s : State) (v : Nat) :
    getF (setF s (f p) v) (g p) = getF s (g p) := getF_setF_of_apart s v (h p)

/-- Setting a field of a ring leaves a field of it apart from that alone. -/
theorem getF_setF_ring (f g : Nat → Nat → Fld) (h : ∀ p r : Fin 4, Apart (f p r) (g p r)) (p r : Fin 4) (s : State) (v : Nat) :
    getF (setF s (f p r) v) (g p r) = getF s (g p r) := getF_setF_of_apart s v (h p r)

theorem getF_cntAdd_of_ne (s : State) {o : Nat} (n : Nat) {f : Fld} (h : f.off ≠ o) : getF (cntAdd s o n) f = getF s f :=
  congrArg (fget · f.hi f.lo) (rd_wr_of_ne s _ h)

theorem getF_cnt_of_ne (s : State) {o : Nat} {f : Fld} (h : f.off ≠ o) : getF (cnt s o) f = getF s f := getF_cntAdd_of_ne s 1 h

theorem rdN_cnt_self (s : State) (o : Nat) : rdN (cnt s o) o = min (rdN s o + 1) 0xFFFFFFFF := rdN_cntAdd_self s o 1

/-- A ring's index goes round at 8,192. -/
theorem getF_setF_index_mod (s : State) {f : Fld} (v : Nat) (hhi : f.hi = 12) (hlo : f.lo = 0) :
    getF (setF s f v) f = v % 8192 := by
  rw [getF_setF_self s f v (by omega) (by omega), hhi, hlo]
  rfl

/-- A ring's index, or the count of its free descriptors, holds any value below 8,192. -/
theorem getF_setF_index (s : State) {f : Fld} {v : Nat} (hhi : f.hi = 12) (hlo : f.lo = 0) (hv : v < 8192) :
    getF (setF s f v) f = v := (getF_setF_index_mod s v hhi hlo).trans (Nat.mod_eq_of_lt hv)

/-! ### Parts of the state -/

/-- Of the state, only registers and what the ports hold may differ. -/
def PortsOnly (s t : State) : Prop := ∃ r n, t = { s with regs := r, net := n }

theorem PortsOnly.refl (s : State) : PortsOnly s s := ⟨s.regs, s.net, rfl⟩

theorem PortsOnly.trans (h : PortsOnly s t) (h' : PortsOnly t u) : PortsOnly s u := by
  obtain ⟨r, n, rfl⟩ := h
  obtain ⟨r', n', rfl⟩ := h'
  exact ⟨r', n', rfl⟩

theorem PortsOnly.wr {o : Nat} {v : Word} (h : PortsOnly s t) : PortsOnly s (wr t o v) := h.trans ⟨_, t.net, rfl⟩

theorem PortsOnly.setF {f : Fld} {v : Nat} (h : PortsOnly s t) : PortsOnly s (setF t f v) := h.wr

theorem PortsOnly.setBit {f : Fld} {i : Nat} (h : PortsOnly s t) : PortsOnly s (setBit t f i) := h.wr

theorem PortsOnly.cntAdd {o n : Nat} (h : PortsOnly s t) : PortsOnly s (cntAdd t o n) := h.wr

theorem PortsOnly.portMod {p : Nat} {f : NetPort → NetPort} (h : PortsOnly s t) : PortsOnly s (portMod p f t) :=
  h.trans ⟨t.regs, _, rfl⟩

theorem RegsOnly.portsOnly (h : RegsOnly s t) : PortsOnly s t := by
  obtain ⟨r, hr⟩ := h
  exact ⟨r, s.net, hr⟩

theorem PortsOnly.mem (h : PortsOnly s t) : t.mem = s.mem := by
  obtain ⟨r, n, rfl⟩ := h
  rfl

theorem PortsOnly.sameMem (h : PortsOnly s t) : SameMem s t := sameMem_of_mem h.mem

theorem PortsOnly.frame (h : PortsOnly s t) (kept : KeptBut offs s t) :
    Frame offs s t { s with regs := t.regs, net := t.net } := by
  refine ⟨?_, kept, h.sameMem⟩
  obtain ⟨r, n, rfl⟩ := h
  rfl

/-- Registers and ports written after the record of a command. -/
theorem Noted.frame_ports (h : Noted s t) (hu : PortsOnly t u) (kept : KeptBut offs s u) :
    Frame offs s u { s with regs := u.regs, jnl := u.jnl, net := u.net } := by
  refine ⟨?_, kept, fun a => (hu.sameMem a).trans (h.sameMem a)⟩
  obtain ⟨r, j, rfl⟩ := h.parts
  obtain ⟨r', n, rfl⟩ := hu
  rfl

/-- Of the state, only the bytes of memory may differ. -/
def MemOnly (s t : State) : Prop := ∃ m, t = { s with mem := m }

theorem MemOnly.refl (s : State) : MemOnly s s := ⟨s.mem, rfl⟩

theorem MemOnly.trans (h : MemOnly s t) (h' : MemOnly t u) : MemOnly s u := by
  obtain ⟨m, rfl⟩ := h
  obtain ⟨m', rfl⟩ := h'
  exact ⟨m', rfl⟩

theorem MemOnly.regs (h : MemOnly s t) : t.regs = s.regs := by
  obtain ⟨m, rfl⟩ := h
  rfl

theorem MemOnly.net (h : MemOnly s t) : t.net = s.net := by
  obtain ⟨m, rfl⟩ := h
  rfl

theorem MemOnly.keptBut (h : MemOnly s t) (offs : List Nat) : KeptBut offs s t := (KeptBut.refl offs s).of_regs h.regs

theorem MemOnly.getF (h : MemOnly s t) (f : Fld) : getF t f = getF s f := (h.keptBut []).getF (by simp)

theorem memOnly_wrWord72 (s : State) (base i w : Nat) : MemOnly s (wrWord72 s base i w) := wrBytes_eq_with _ _ _

theorem memOnly_wrPacked (s : State) (base w0 : Nat) (bs : List Byte) : MemOnly s (wrPacked s base w0 bs) := by
  unfold wrPacked
  generalize 0 = k
  induction bs generalizing s k with
  | nil => exact .refl s
  | cons b bs ih => exact MemOnly.trans ⟨_, rfl⟩ (ih _ (k + 1))

theorem LogsOnly.net (h : LogsOnly s t) : t.net = s.net := by
  obtain ⟨r, e, j, rfl⟩ := h
  rfl

theorem KeptBut.portMod {p : Nat} {f : NetPort → NetPort} (h : KeptBut offs s t) : KeptBut offs s (portMod p f t) := h.of_regs rfl

@[simp] theorem getF_portMod (p : Nat) (g : NetPort → NetPort) (s : State) (f : Fld) : getF (portMod p g s) f = getF s f := rfl

theorem portOf_of_net (h : t.net = s.net) (p : Nat) : portOf t p = portOf s p :=
  congrArg (fun n : NetState => aGet (fun _ => NetPort.init) n.ports p) h

end Sys2Proof.Machine
end

section
/-! SUPPORT. The receive rings (R268 to R272): a frame placed in one descriptor, and writes of a ring's registers. -/

namespace Sys2Proof.Machine

variable {s t u : State} {offs : List Nat}

/-! ### Indices of a receive ring -/

theorem rrFree_of_kept (h : KeptBut offs s t) {p r : Nat} (htail : R.NET_RR_TAIL p r ∉ offs) (hhead : R.NET_RR_HEAD p r ∉ offs) :
    rrFree t p r = rrFree s p r := by
  unfold rrFree
  rw [h.getF (f := F.NET_RR_TAIL_INDEX p r) htail, h.getF (f := F.NET_RR_HEAD_INDEX p r) hhead]

theorem rrFree_lt (s : State) (p r : Nat) : rrFree s p r < 8192 := Nat.mod_lt _ (by decide)

theorem rrDesc_of_kept (h : KeptBut offs s t) {p r : Nat} (hbase : R.NET_RR_BASE p r ∉ offs) (hcfg : R.NET_RR_CFG p r ∉ offs)
    (idx k : Nat) : rrDesc t p r idx k = rrDesc s p r idx k := by
  unfold rrDesc
  rw [h.getF (f := F.NET_RR_BASE_BASE p r) hbase, h.getF (f := F.NET_RR_CFG_SIZE p r) hcfg]

theorem bufBytes_of_kept (h : KeptBut offs s t) {p r : Nat} (hcfg : R.NET_RR_CFG p r ∉ offs) : bufBytes t p r = bufBytes s p r := by
  unfold bufBytes
  rw [h.getF (f := F.NET_RR_CFG_BUFSZ p r) hcfg]

/-- The free count is shown in full. -/
theorem free_rrShow (p r : Fin 4) (s : State) : getF (rrShow p r s) (F.NET_RR_STATE_FREE p r) = rrFree s p r :=
  getF_setF_index s (f := F.NET_RR_STATE_FREE p r) rfl rfl (rrFree_lt s p r)

theorem KeptBut.rrShow {p r : Nat} (h : KeptBut offs s t) (ho : R.NET_RR_STATE p r ∈ offs) : KeptBut offs s (rrShow p r t) :=
  h.setF ho

theorem RegsOnly.rrShow {p r : Nat} (h : RegsOnly s t) : RegsOnly s (rrShow p r t) := h.setF

/-! ### A write of TAIL -/

/-- TAIL is taken and the free count shown. -/
def rrTailTaken (p r : Nat) (tail : Nat) (s : State) : State := rrShow p r (setF s (F.NET_RR_TAIL_INDEX p r) tail)

theorem rrTailApply_of_near {p r : Nat} {v : Word} (hr : r ≠ 1)
    (h : (v.toNat % 8192 + 8192 - getF s (F.NET_RR_HEAD_INDEX p r)) % 8192 ≤ getF s (F.NET_RR_CFG_SIZE p r)) :
    rrTailApply p r v s = rrTailTaken p r (v.toNat % 8192) s := by
  unfold rrTailApply
  rw [if_neg hr, if_neg (Nat.not_lt.mpr h)]
  rfl

/-- Ring 1 is the intake engine's: its TAIL is not written. -/
theorem rrTailApply_ring1 (p : Nat) (v : Word) (s : State) : rrTailApply p 1 v s = s := by
  unfold rrTailApply
  rw [if_pos rfl]

theorem rrTailTaken_spec (p r : Fin 4) {tail : Nat} (h : tail < 8192) (s : State) :
    let t := rrTailTaken p r tail s
    getF t (F.NET_RR_TAIL_INDEX p r) = tail ∧
    getF t (F.NET_RR_STATE_FREE p r) = (tail + 8192 - getF s (F.NET_RR_HEAD_INDEX p r)) % 8192 ∧
    Frame [R.NET_RR_TAIL p r, R.NET_RR_STATE p r] s t { s with regs := t.regs } := by
  have htail : getF (setF s (F.NET_RR_TAIL_INDEX p r) tail) (F.NET_RR_TAIL_INDEX p r) = tail := getF_setF_index s rfl rfl h
  refine ⟨?_, ?_, (RegsOnly.refl s).setF.rrShow.frame (.rrShow (.setF (.refl _ s) (.head _)) (.tail _ (.head _)))⟩
  · exact (getF_setF_ring F.NET_RR_STATE_FREE F.NET_RR_TAIL_INDEX (by decide) p r _ _).trans htail
  · refine (free_rrShow p r _).trans ?_
    unfold rrFree
    rw [htail, getF_setF_ring F.NET_RR_TAIL_INDEX F.NET_RR_HEAD_INDEX (by decide)]

/-! ### Writes of BASE and CFG -/

/-- A receive ring other than ring 1 takes a CFG and starts anew. -/
def rrConfigured (p r : Nat) (v : Word) (s : State) : State :=
  rrShow p r (setF (setF (wr s (R.NET_RR_CFG p r) v) (F.NET_RR_HEAD_INDEX p r) 0) (F.NET_RR_TAIL_INDEX p r) 0)

/-- A ring of a port has a new BASE or CFG: no frame of it is left inside, overdue or on the line. -/
def trForgotten (r : Nat) (x : NetPort) : NetPort where
  __ := x
  inside := aErase x.inside r
  overdue := aErase x.overdue r
  sending := x.sending.map (fun y => if y.1 = r then (4, 0, y.2.2) else y)

/-- A transmit ring takes a BASE and starts anew. -/
def trRebased (p r : Nat) (v : Word) (s : State) : State :=
  portMod p (trForgotten r)
    (setF (setF (wr s (R.NET_TR_BASE p r) v) (F.NET_TR_HEAD_INDEX p r) 0) (F.NET_TR_TAIL_INDEX p r) 0)

theorem ringCfgWrite_rrCfg {r : Nat} {v : Word} (hstop : running s = false) (hr : r ≠ 1) (hsize : ringSizeOk (fget v 12 0) = true)
    (hbuf : fget v 18 16 ≤ 3) (via : Src) (p : Nat) :
    ringCfgWrite via p r false false v s = rrConfigured p r (v &&& 0x00071FFF#32) (journalReg via (R.NET_RR_CFG p r) v s) := by
  have hstop' := (noted_journalReg via (R.NET_RR_CFG p r) v s).running.trans hstop
  unfold ringCfgWrite
  simp [ringCfgOff, ringCfgApply, hstop', hsize, hbuf, hr]
  rfl

theorem ringCfgWrite_trBase (hstop : running s = false) (via : Src) (p r : Nat) (v : Word) :
    ringCfgWrite via p r true true v s = trRebased p r (v &&& 0x1FFFFFFE#32) (journalReg via (R.NET_TR_BASE p r) v s) := by
  have hstop' := (noted_journalReg via (R.NET_TR_BASE p r) v s).running.trans hstop
  unfold ringCfgWrite
  simp [ringCfgOff, ringCfgApply, hstop']
  rfl

theorem ringCfgWrite_rrCfg_of_running (hrun : running s = true) (via : Src) (p r : Nat) (v : Word) :
    ringCfgWrite via p r false false v s = raise .errRwlWrite 0 (journalReg via (R.NET_RR_CFG p r) v s) := by
  have hrun' := (noted_journalReg via (R.NET_RR_CFG p r) v s).running.trans hrun
  unfold ringCfgWrite
  simp [ringCfgOff, hrun']

theorem rrConfigured_spec (p r : Fin 4) (v : Word) (s : State) :
    let t := rrConfigured p r v s
    rd t (R.NET_RR_CFG p r) = v ∧ getF t (F.NET_RR_HEAD_INDEX p r) = 0 ∧ getF t (F.NET_RR_TAIL_INDEX p r) = 0 ∧
    getF t (F.NET_RR_STATE_NOBUF p r) = getF s (F.NET_RR_STATE_NOBUF p r) ∧ getF t (F.NET_RR_STATE_FREE p r) = 0 ∧
    RegsOnly s t ∧ KeptBut [R.NET_RR_CFG p r, R.NET_RR_HEAD p r, R.NET_RR_TAIL p r, R.NET_RR_STATE p r] s t := by
  have hhead : getF (setF (setF (wr s (R.NET_RR_CFG p r) v) (F.NET_RR_HEAD_INDEX p r) 0) (F.NET_RR_TAIL_INDEX p r) 0)
      (F.NET_RR_HEAD_INDEX p r) = 0 := by
    rw [getF_setF_ring F.NET_RR_TAIL_INDEX F.NET_RR_HEAD_INDEX (by decide)]
    exact getF_setF_index _ rfl rfl (by decide)
  have htail : getF (setF (setF (wr s (R.NET_RR_CFG p r) v) (F.NET_RR_HEAD_INDEX p r) 0) (F.NET_RR_TAIL_INDEX p r) 0)
      (F.NET_RR_TAIL_INDEX p r) = 0 := getF_setF_index _ rfl rfl (by decide)
  have kept : KeptBut [R.NET_RR_HEAD p r, R.NET_RR_TAIL p r, R.NET_RR_STATE p r] (wr s (R.NET_RR_CFG p r) v)
      (rrConfigured p r v s) :=
    .rrShow (.setF (.setF (.refl _ _) (.head _)) (.tail _ (.head _))) (.tail _ (.tail _ (.head _)))
  refine ⟨?_, ?_, ?_, ?_, ?_, (RegsOnly.refl s).wr.setF.setF.rrShow, ?_⟩
  · have away : ∀ p r : Fin 4, R.NET_RR_CFG p r ∉ [R.NET_RR_HEAD p r, R.NET_RR_TAIL p r, R.NET_RR_STATE p r] := by decide
    exact (kept _ (away p r)).trans (rd_wr_self _ _ _)
  · exact (getF_setF_ring F.NET_RR_STATE_FREE F.NET_RR_HEAD_INDEX (by decide) p r _ _).trans hhead
  · exact (getF_setF_ring F.NET_RR_STATE_FREE F.NET_RR_TAIL_INDEX (by decide) p r _ _).trans htail
  · have away : ∀ p r : Fin 4, R.NET_RR_STATE p r ∉ [R.NET_RR_CFG p r, R.NET_RR_HEAD p r, R.NET_RR_TAIL p r] := by decide
    have before : KeptBut [R.NET_RR_CFG p r, R.NET_RR_HEAD p r, R.NET_RR_TAIL p r] s
        (setF (setF (wr s (R.NET_RR_CFG p r) v) (F.NET_RR_HEAD_INDEX p r) 0) (F.NET_RR_TAIL_INDEX p r) 0) :=
      .setF (.setF (.wr (.refl _ _) (.head _)) (.tail _ (.head _))) (.tail _ (.tail _ (.head _)))
    exact (getF_setF_ring F.NET_RR_STATE_FREE F.NET_RR_STATE_NOBUF (by decide) p r _ _).trans (before.getF (away p r))
  · refine (free_rrShow p r _).trans ?_
    unfold rrFree
    rw [hhead, htail]
  · exact KeptBut.trans ((KeptBut.refl _ s).wr (.head _)) (kept.mono (List.subset_cons_self _ _))

theorem trRebased_spec (p r : Fin 4) (v : Word) (s : State) :
    let t := trRebased p r v s
    rd t (R.NET_TR_BASE p r) = v ∧ getF t (F.NET_TR_HEAD_INDEX p r) = 0 ∧ getF t (F.NET_TR_TAIL_INDEX p r) = 0 ∧
    (∀ q, q ≠ p.val → portOf t q = portOf s q) ∧ PortsOnly s t ∧
    KeptBut [R.NET_TR_BASE p r, R.NET_TR_HEAD p r, R.NET_TR_TAIL p r] s t := by
  have kept : KeptBut [R.NET_TR_HEAD p r, R.NET_TR_TAIL p r] (wr s (R.NET_TR_BASE p r) v) (trRebased p r v s) :=
    .portMod (.setF (.setF (.refl _ _) (.head _)) (.tail _ (.head _)))
  refine ⟨?_, ?_, ?_, ?_, (PortsOnly.refl s).wr.setF.setF.portMod, ?_⟩
  · have away : ∀ p r : Fin 4, R.NET_TR_BASE p r ∉ [R.NET_TR_HEAD p r, R.NET_TR_TAIL p r] := by decide
    exact (kept _ (away p r)).trans (rd_wr_self _ _ _)
  · refine (getF_portMod _ _ _ _).trans ((getF_setF_ring F.NET_TR_TAIL_INDEX F.NET_TR_HEAD_INDEX (by decide) p r _ _).trans ?_)
    exact getF_setF_index _ rfl rfl (by decide)
  · exact (getF_portMod _ _ _ _).trans (getF_setF_index _ rfl rfl (by decide))
  · exact fun q hq => (portOf_portMod_of_ne hq _ _).trans (portOf_of_net rfl q)
  · exact KeptBut.trans ((KeptBut.refl _ s).wr (.head _)) (kept.mono (List.subset_cons_self _ _))

end Sys2Proof.Machine
end

section
/-! SUPPORT. A received frame from the port to its descriptor (R264 to R270). -/

namespace Sys2Proof.Machine

variable {s t u : State} {offs : List Nat}

/-! ### Judged at the port -/

theorem exec_rxFrame_runt {p : Fin 4} {inp : RxIn} (hmode : getF s (F.NET_CFG_MODE p) ≠ 0) (hup : linkUp s p = true)
    (hlen : inp.bytes.length ≤ 63) : exec (.rxFrame p inp) s = .next (cnt s (R.NET_RX_RUNT p)) := by
  change execRxFrame p inp s = _
  unfold execRxFrame
  extract_lets
  rw [if_neg hmode, if_neg (by simp [hup]), if_pos hlen]

/-- A frame that passes size, FCS and address is counted and handed on without its FCS. -/
theorem exec_rxFrame_passed {p : Fin 4} {inp : RxIn} (hmode : getF s (F.NET_CFG_MODE p) ≠ 0) (hup : linkUp s p = true)
    (hmin : 64 ≤ inp.bytes.length) (hmax : inp.bytes.length ≤ getF s (F.NET_MAXFRM_MAXFRM p)) (hfcs : fcsOk inp.bytes = true)
    (haddr : addressOk s p (beAt inp.bytes 0 6) = true) :
    exec (.rxFrame p inp) s =
      .next (rxDeliver p inp (inp.bytes.take (inp.bytes.length - 4)) (cnt s (R.NET_RX_FRAMES p))) := by
  change execRxFrame p inp s = _
  unfold execRxFrame
  extract_lets
  rw [if_neg hmode, if_neg (by simp [hup]), if_neg (by omega), if_neg (by omega), if_neg (by simp [hfcs]), if_neg (by simp [haddr])]

/-- A frame for a configured ring that the FIFO holds goes to the ring. -/
theorem rxDeliver_ring {p r : Nat} {inp : RxIn} {bytes : List Byte} (hmap : bit (getF s F.BST_MAP_MAP) (21 + p) = false)
    (hclass : classify s p (parseFrame bytes) = .ring r) (hsize : getF s (F.NET_RR_CFG_SIZE p r) ≠ 0)
    (hfifo : inp.fifoRing + bytes.length ≤ 65536) :
    rxDeliver p inp bytes s = rrPlace p r (parseFrame bytes) inp.stamp bytes s := by
  unfold rxDeliver
  simp only [hmap, hclass]
  rw [if_neg (by decide), if_neg hsize, if_neg (Nat.not_lt.mpr hfifo)]

/-! ### Placed in one descriptor -/

/-- A frame written whole into the first free descriptor of a ring: the frame's first and last. -/
def rrWritten (p r : Nat) (f : Parsed) (stamp : Nat) (bytes : List Byte) (s : State) : State :=
  rrWriteOne p r 1 false f stamp bytes 0 s

/-- A frame in one descriptor, HEAD behind it and the free count shown. -/
def rrTaken (p r : Nat) (f : Parsed) (stamp : Nat) (bytes : List Byte) (s : State) : State :=
  rrShow p r (setF (rrWritten p r f stamp bytes (setF s (F.NET_RR_STATE_NOBUF p r) 0)) (F.NET_RR_HEAD_INDEX p r)
    (getF (rrWritten p r f stamp bytes (setF s (F.NET_RR_STATE_NOBUF p r) 0)) (F.NET_RR_HEAD_INDEX p r) + 1))

theorem rrPlace_of_fits {p r stamp : Nat} {f : Parsed} {bytes : List Byte} (hpos : 0 < bytes.length)
    (hfit : bytes.length ≤ bufBytes s p r) (hfree : rrFree s p r ≠ 0) (hnobuf : getF s (F.NET_RR_STATE_NOBUF p r) = 0) :
    rrPlace p r f stamp bytes s = rrTaken p r f stamp bytes s := by
  have hwant : (bytes.length + bufBytes s p r - 1) / bufBytes s p r = 1 :=
    Nat.div_eq_of_lt_le (by omega) (by omega)
  have hone : min 1 (rrFree s p r) = 1 := by omega
  unfold rrPlace
  simp only [hwant, hone, hnobuf, hfree]
  rfl

/-- Word 0 of the descriptor of a frame that it holds whole: the buffer stays, length, DONE, SOP and EOP are set, and from bit 49 on
stand the stamp's and the tag's fields. -/
def wholeFrameWord (buf len upper : Nat) : Nat := buf + len * 2 ^ 32 + 2 ^ 44 + 2 ^ 45 + 2 ^ 46 + upper * 2 ^ 49

theorem wholeFrameWord_fields {buf len w : Nat} (upper : Nat) (hbuf : buf < 2 ^ 29) (hlen : len < 2 ^ 12)
    (h : w = wholeFrameWord buf len upper % 2 ^ 72) :
    bit w 44 = true ∧ bit w 45 = true ∧ bit w 46 = true ∧ bit w 47 = false ∧ bits w 43 32 = len ∧ bits w 28 0 = buf := by
  unfold wholeFrameWord at h
  unfold bit bits
  simp only [beq_iff_eq, beq_eq_false_iff_ne]
  omega

theorem rrWritten_spec (p r : Nat) (f : Parsed) (stamp : Nat) {bytes : List Byte} (hfit : bytes.length ≤ bufBytes s p r) :
    MemOnly s (rrWritten p r f stamp bytes s) ∧
    ∃ upper, rdWord72 (rrWritten p r f stamp bytes s) (rrBase r) (rrDesc s p r (getF s (F.NET_RR_HEAD_INDEX p r)) 0) =
      wholeFrameWord (bits (rdWord72 s (rrBase r) (rrDesc s p r (getF s (F.NET_RR_HEAD_INDEX p r)) 0)) 28 0) bytes.length upper %
        2 ^ 72 := by
  have hpart : slice bytes (bufBytes s p r * 0) (bufBytes s p r) = bytes := by
    unfold slice
    rw [Nat.mul_zero, List.drop_zero, List.take_of_length_le hfit]
  unfold rrWritten rrWriteOne
  extract_lets idx sz w buf part sop eop s1 s2
  have hmem : MemOnly s s2 := (memOnly_wrPacked _ _ _ _).trans (memOnly_wrWord72 _ _ _ _)
  have hlen : part.length = bytes.length := congrArg List.length hpart
  have hdesc : rrDesc s2 p r idx 0 = rrDesc s p r (getF s (F.NET_RR_HEAD_INDEX p r)) 0 :=
    rrDesc_of_kept ((KeptBut.refl [] s).of_regs hmem.regs) (by simp) (by simp) _ _
  refine ⟨hmem.trans (memOnly_wrWord72 _ _ _ _), 1 + b2n f.vid.isSome * 2 + (f.pcp + stampTb s2 p * 8) * 4, ?_⟩
  · have hbuf : buf = bits (rdWord72 s (rrBase r) (rrDesc s p r (getF s (F.NET_RR_HEAD_INDEX p r)) 0)) 28 0 := rfl
    have hsop : sop = true := rfl
    have heop : eop = true := rfl
    rw [← hbuf, ← hdesc, rdWord72_wrWord72, hlen, hsop, heop]
    refine congrArg (· % 2 ^ 72) ?_
    simp only [wholeFrameWord, b2n, Bool.and_false, Bool.true_and, Bool.false_eq_true, if_true, if_false]
    ring

/-- A frame that its ring's buffers hold takes one descriptor. -/
theorem rrTaken_spec (p r : Fin 4) (f : Parsed) (stamp : Nat) {bytes : List Byte} (hfit : bytes.length ≤ bufBytes s p r)
    (hlen : bytes.length < 4096) (hfree : rrFree s p r ≠ 0) (htaken : rrTaken p r f stamp bytes s = t) {w : Nat}
    (hw : rdWord72 t (rrBase r) (rrDesc s p r (getF s (F.NET_RR_HEAD_INDEX p r)) 0) = w) :
    getF t (F.NET_RR_HEAD_INDEX p r) = (getF s (F.NET_RR_HEAD_INDEX p r) + 1) % 8192 ∧
    getF t (F.NET_RR_STATE_FREE p r) = rrFree s p r - 1 ∧
    (bit w 44 = true ∧ bit w 45 = true ∧ bit w 46 = true ∧ bit w 47 = false ∧ bits w 43 32 = bytes.length ∧
      bits w 28 0 = bits (rdWord72 s (rrBase r) (rrDesc s p r (getF s (F.NET_RR_HEAD_INDEX p r)) 0)) 28 0) ∧
    t = { s with regs := t.regs, mem := t.mem } ∧ KeptBut [R.NET_RR_HEAD p r, R.NET_RR_STATE p r] s t := by
  unfold rrTaken at htaken
  obtain ⟨s1, hs1⟩ : ∃ u, setF s (F.NET_RR_STATE_NOBUF p r) 0 = u := ⟨_, rfl⟩
  rw [hs1] at htaken
  obtain ⟨u, hu⟩ : ∃ u, rrWritten p r f stamp bytes s1 = u := ⟨_, rfl⟩
  rw [hu] at htaken
  have kept1 : KeptBut [R.NET_RR_STATE p r] s s1 := hs1 ▸ .setF (.refl _ s) (.head _)
  have away : ∀ p r : Fin 4, R.NET_RR_CFG p r ∉ [R.NET_RR_STATE p r] ∧ R.NET_RR_BASE p r ∉ [R.NET_RR_STATE p r] ∧
      R.NET_RR_HEAD p r ∉ [R.NET_RR_STATE p r] ∧ R.NET_RR_TAIL p r ∉ [R.NET_RR_STATE p r] := by decide
  obtain ⟨hcfg, hbase, hhead, htail⟩ := away p r
  have hmem1 : SameMem s s1 := sameMem_of_mem (hs1 ▸ setF_mem s _ _)
  obtain ⟨hmem, upper, hword⟩ := rrWritten_spec (s := s1) p r f stamp (hfit.trans_eq (bufBytes_of_kept kept1 hcfg).symm)
  rw [hu] at hmem hword
  rw [kept1.getF (f := F.NET_RR_HEAD_INDEX p r) hhead, rrDesc_of_kept kept1 hbase hcfg, rdWord72_of_sameMem hmem1] at hword
  have hheadU : getF u (F.NET_RR_HEAD_INDEX p r) = getF s (F.NET_RR_HEAD_INDEX p r) :=
    (hmem.getF _).trans (kept1.getF hhead)
  have htailU : getF u (F.NET_RR_TAIL_INDEX p r) = getF s (F.NET_RR_TAIL_INDEX p r) :=
    (hmem.getF _).trans (kept1.getF htail)
  have hnext : getF (setF u (F.NET_RR_HEAD_INDEX p r) (getF u (F.NET_RR_HEAD_INDEX p r) + 1)) (F.NET_RR_HEAD_INDEX p r) =
      (getF s (F.NET_RR_HEAD_INDEX p r) + 1) % 8192 := by
    rw [hheadU]
    exact getF_setF_index_mod _ _ rfl rfl
  have keptU : KeptBut [R.NET_RR_HEAD p r, R.NET_RR_STATE p r] s u :=
    (kept1.mono (List.subset_cons_self _ _)).of_regs hmem.regs
  refine ⟨?_, ?_, ?_, ?_, ?_⟩
  · rw [← htaken]
    exact (getF_setF_ring F.NET_RR_STATE_FREE F.NET_RR_HEAD_INDEX (by decide) p r _ _).trans hnext
  · rw [← htaken, free_rrShow]
    have h1 : getF s (F.NET_RR_HEAD_INDEX p r) < 8192 := getF_lt s _
    have h2 : getF s (F.NET_RR_TAIL_INDEX p r) < 8192 := getF_lt s _
    unfold rrFree at hfree ⊢
    rw [hnext, getF_setF_ring F.NET_RR_HEAD_INDEX F.NET_RR_TAIL_INDEX (by decide), htailU]
    omega
  · have hsame : SameMem u t := (htaken ▸ (RegsOnly.refl u).setF.rrShow : RegsOnly u t).sameMem
    refine wholeFrameWord_fields upper (Nat.mod_lt _ (by decide)) hlen ?_
    exact hw.symm.trans ((rdWord72_of_sameMem hsame _ _).trans hword)
  · obtain ⟨r₁, h₁⟩ : RegsOnly s s1 := hs1 ▸ (RegsOnly.refl s).setF
    obtain ⟨m, hm⟩ := hmem
    obtain ⟨r₂, h₂⟩ : RegsOnly u t := htaken ▸ (RegsOnly.refl u).setF.rrShow
    rw [h₂, hm, h₁]
  · rw [← htaken]
    exact .rrShow (.setF keptU (.head _)) (.tail _ (.head _))

end Sys2Proof.Machine
end

section
/-! SUPPORT. Descriptors of a transmit ring completed with a reason (R273, R274). -/

namespace Sys2Proof.Machine

variable {s t u : State} {offs : List Nat}

/-! ### Descriptors of a transmit ring -/

theorem trDesc_of_kept (h : KeptBut offs s t) {p r : Nat} (hbase : R.NET_TR_BASE p r ∉ offs) (hcfg : R.NET_TR_CFG p r ∉ offs)
    (idx k : Nat) : trDesc t p r idx k = trDesc s p r idx k := by
  unfold trDesc
  rw [h.getF (f := F.NET_TR_BASE_BASE p r) hbase, h.getF (f := F.NET_TR_CFG_SIZE p r) hcfg]

theorem MemOnly.trDesc (h : MemOnly s t) (p r idx k : Nat) : trDesc t p r idx k = trDesc s p r idx k :=
  trDesc_of_kept (h.keptBut []) (by simp) (by simp) idx k

/-- Word 0 of a descriptor once it is completed with a reason. -/
def completedWord (reason w : Nat) : Nat :=
  let w := putBits (putBits w 44 44 1) 53 50 reason
  if reason = 0 then w else putBits w 47 47 1

theorem reason_completedWord {reason : Nat} (h : reason < 16) (w : Nat) : bits (completedWord reason w) 53 50 = reason := by
  have hset : ∀ x, bits (putBits x 53 50 reason) 53 50 = reason :=
    fun x => (bits_putBits x 53 50 reason (by decide)).trans (Nat.mod_eq_of_lt h)
  unfold completedWord
  dsimp only
  split
  · exact hset _
  · rw [bits_putBits_above _ _ (by decide) (by decide), hset]

/-- Complete the i-th descriptor from HEAD on. -/
def trMark (p r reason i : Nat) (s : State) : State :=
  let k := trDesc s p r (getF s (F.NET_TR_HEAD_INDEX p r) + i) 0
  wrWord72 s dramBase k (completedWord reason (rdWord72 s dramBase k))

/-- The first n descriptors completed in memory. -/
def trMarked (p r n reason : Nat) (s : State) : State := forNat n (trMark p r reason) s

/-- The frames that n completed descriptors held are neither left inside nor overdue any more. -/
def trPassed (r h n : Nat) (x : NetPort) : NetPort where
  __ := x
  inside := x.inside.filter (fun y => !(y.1 == r && decide ((y.2.1 + 8192 - h) % 8192 < n)))
  overdue := x.overdue.filter (fun y => !(y.1 == r && decide ((y.2 + 8192 - h) % 8192 < n)))

theorem trComplete_eq (p r n reason : Nat) (s : State) :
    trComplete p r n reason s = portMod p (trPassed r (getF s (F.NET_TR_HEAD_INDEX p r)) n)
      (setF (trMarked p r n reason s) (F.NET_TR_HEAD_INDEX p r) (getF s (F.NET_TR_HEAD_INDEX p r) + n)) := rfl

theorem memOnly_trMarked (p r n reason : Nat) (s : State) : MemOnly s (trMarked p r n reason s) :=
  forNat_eq_with (fun _ u => memOnly_wrWord72 u _ _ _) n s

/-- Each of the descriptors shows the reason; one that the ring's end brings twice is written with it twice. -/
theorem reason_trMarked (p r : Nat) {reason : Nat} (h : reason < 16) (s : State) (n : Nat) : ∀ i < n,
    bits (rdWord72 (trMarked p r n reason s) dramBase (trDesc s p r (getF s (F.NET_TR_HEAD_INDEX p r) + i) 0)) 53 50 = reason := by
  induction n with
  | zero => omega
  | succ n ih =>
    intro i hi
    have hmem := memOnly_trMarked p r n reason s
    have hstep : trMarked p r (n + 1) reason s = trMark p r reason n (trMarked p r n reason s) := forNat_succ _ _ _
    unfold trMark at hstep
    rw [hstep, hmem.getF, hmem.trDesc]
    by_cases hsame : trDesc s p r (getF s (F.NET_TR_HEAD_INDEX p r) + i) 0 = trDesc s p r (getF s (F.NET_TR_HEAD_INDEX p r) + n) 0
    · rw [hsame, rdWord72_wrWord72, bits_mod_two_pow _ _ (by decide), reason_completedWord h]
    · rw [rdWord72_wrWord72_of_ne _ _ _ hsame]
      exact ih i (lt_of_le_of_ne (Nat.lt_succ_iff.mp hi) fun e => hsame (by rw [e]))

/-! ### A refused frame -/

theorem txReason_code_lt (p : Nat) (why : TxReason) : (txReason p why).1 < 16 := by cases why <;> simp [txReason]

/-- The counter of a reason is none of the registers that a refusal reads and writes beside it. -/
theorem txReason_counter_apart (p r : Fin 4) (why : TxReason) :
    R.NET_TR_BASE p r ∉ [(txReason p why).2] ∧ R.NET_TR_CFG p r ∉ [(txReason p why).2] ∧
    R.NET_TR_HEAD p r ∉ [(txReason p why).2] ∧ (txReason p why).2 ∉ R.NET_TR_HEAD p r :: R.NET_STAT p :: errRegs := by
  revert p r
  cases why <;> decide

/-- What refusing n descriptors of a transmit ring shows, and what it leaves alone. -/
structure Refused (p r n : Nat) (why : TxReason) (s t : State) : Prop where
  words : ∀ i < n,
    bits (rdWord72 t dramBase (trDesc s p r (getF s (F.NET_TR_HEAD_INDEX p r) + i) 0)) 53 50 = (txReason p why).1
  head : getF t (F.NET_TR_HEAD_INDEX p r) = (getF s (F.NET_TR_HEAD_INDEX p r) + n) % 8192
  counted : rdN t (txReason p why).2 = min (rdN s (txReason p why).2 + 1) 0xFFFFFFFF
  shown : stBit t (F.NET_STAT_TX_REJECT p) = 1
  port : portOf t p = trPassed r (getF s (F.NET_TR_HEAD_INDEX p r)) n (portOf s p)
  others : ∀ q, q ≠ p → portOf t q = portOf s q
  regs : KeptBut ((txReason p why).2 :: R.NET_TR_HEAD p r :: R.NET_STAT p :: errRegs) s t

theorem refused_trRefuse (p r : Fin 4) (n : Nat) (why : TxReason) (s : State) : Refused p r n why s (trRefuse p r n why s) := by
  obtain ⟨hbase, hcfg, hhead, hcounter⟩ := txReason_counter_apart p r why
  obtain ⟨o, ho⟩ : ∃ o, (txReason p why).2 = o := ⟨_, rfl⟩
  rw [ho] at hbase hcfg hhead hcounter
  obtain ⟨c, hc⟩ : ∃ c, cnt s o = c := ⟨_, rfl⟩
  have keptC : KeptBut [o] s c := hc ▸ .cntAdd (.refl _ s) (.head _)
  have hheadC : getF c (F.NET_TR_HEAD_INDEX p r) = getF s (F.NET_TR_HEAD_INDEX p r) := keptC.getF hhead
  obtain ⟨m, hm⟩ : ∃ m, trMarked p r n (txReason p why).1 c = m := ⟨_, rfl⟩
  have hmem : MemOnly c m := hm ▸ memOnly_trMarked _ _ _ _ _
  obtain ⟨d, hd⟩ : ∃ d, trComplete p r n (txReason p why).1 c = d := ⟨_, rfl⟩
  have hraise : trRefuse p r n why s = raise .netTxReject p d := by
    unfold trRefuse
    rw [ho, hc, hd]
  rw [trComplete_eq, hm, hheadC] at hd
  have hlog := logsOnly_raise .netTxReject p d
  have keptD : KeptBut [R.NET_TR_HEAD p r] m d := hd ▸ .portMod (.setF (.refl _ m) (.head _))
  have keptR : KeptBut (R.NET_STAT p :: errRegs) d (raise .netTxReject p d) :=
    (KeptBut.refl _ d).raise (by decide) (List.subset_cons_self _ _) fun f hf => Option.some.inj hf ▸ .head _
  have kept : KeptBut (R.NET_TR_HEAD p r :: R.NET_STAT p :: errRegs) m (raise .netTxReject p d) :=
    (keptD.mono (by simp)).trans (keptR.mono (List.subset_cons_self _ _))
  rw [hraise]
  constructor
  case words =>
    intro i hi
    have hsame : SameMem m (raise .netTxReject p d) :=
      sameMem_of_mem (hlog.mem.trans (hd ▸ (PortsOnly.refl m).setF.portMod.mem))
    rw [rdWord72_of_sameMem hsame, ← hm, ← trDesc_of_kept keptC hbase hcfg, ← hheadC]
    exact reason_trMarked p r (txReason_code_lt p why) c n i hi
  case head =>
    have away : ∀ p r : Fin 4, R.NET_TR_HEAD p r ∉ R.NET_STAT p :: errRegs := by decide
    rw [keptR.getF (f := F.NET_TR_HEAD_INDEX p r) (away p r), ← hd, getF_portMod, getF_setF_index_mod _ _ rfl rfl]
  case counted =>
    rw [ho, rdN_of_kept kept hcounter, ← rdN_cnt_self, hc]
    exact congrArg BitVec.toNat (hmem.keptBut [] o (by simp))
  case shown =>
    have away : ∀ p : Fin 4, (F.NET_STAT_TX_REJECT p).off ∉ errRegs := by decide
    have tied : KeptBut errRegs (setBit d (F.NET_STAT_TX_REJECT p)) (raise .netTxReject p d) :=
      keptBut_raise_of_tie (e := .netTxReject) (f := F.NET_STAT_TX_REJECT p) (by decide) rfl d
    exact (stBit_of_kept tied 0 (away p)).trans (stBit_setBit d _ 0 (by decide : 6 < 32))
  case port =>
    rw [portOf_of_net hlog.net, ← hd, portOf_portMod_self]
    exact congrArg _ (portOf_of_net (hmem.net.trans (hc ▸ wr_net s _ _)) p)
  case others =>
    intro q hq
    rw [portOf_of_net hlog.net, ← hd, portOf_portMod_of_ne hq]
    exact portOf_of_net (hmem.net.trans (hc ▸ wr_net s _ _)) q
  case regs =>
    rw [ho]
    exact ((keptC.mono (by simp)).of_regs hmem.regs).trans (kept.mono (List.subset_cons_self _ _))

end Sys2Proof.Machine
end

section
/-! SUPPORT. A port's link comes up and is lost (R262, R263, R275, R280). -/

namespace Sys2Proof.Machine

variable {s t u : State} {offs : List Nat}

/-! ### LINK_UP -/

/-- A link comes up; a frame cut before is no longer awaited. -/
def linkRaised (p : Nat) (anDone fec : Bool) (s : State) : State :=
  setBit (setF (setF (setF (setF (portMod p (fun q => { q with cut := false }) s) (F.NET_LINK_STATE p) 2)
    (F.NET_LINK_SPD_ERR p) 0) (F.NET_LINK_AN_DONE p) (b2n anDone)) (F.NET_LINK_FEC p) (b2n fec)) (F.NET_STAT_LINK_UP p)

theorem exec_linkUp_of_good {p : Fin 4} {badSpeed anDone : Bool} (hmode : getF s (F.NET_CFG_MODE p) ≠ 0)
    (hdown : linkUp s p = false) (hspeed : getF s (F.NET_CFG_MODE p) = 5 → badSpeed = false)
    (han : getF s (F.NET_CFG_MODE p) = 4 → getF s (F.NET_CFG_AN_EN p) = 1 → anDone = true) :
    exec (.linkUp p badSpeed anDone) s = .next (linkRaised p anDone (getF s (F.NET_CFG_MODE p) == 2) s) := by
  change execLinkUp p badSpeed anDone s = _
  have hgood : ¬ (getF s (F.NET_CFG_MODE p) = 5 ∧ badSpeed = true) := fun h => by simp [hspeed h.1] at h
  have hready : ¬ (((getF s (F.NET_CFG_MODE p) = 4 ∧ getF s (F.NET_CFG_AN_EN p) = 1 ∧ (!anDone) = true)) ∨ linkUp s p = true) := by
    rintro (⟨h4, h1, hnot⟩ | hup)
    · simp [han h4 h1] at hnot
    · simp [hdown] at hup
  unfold execLinkUp
  extract_lets
  rw [if_neg hmode, if_neg hgood, if_neg hready]
  rfl

theorem exec_linkUp_of_badSpeed {p : Fin 4} (anDone : Bool) (hmode : getF s (F.NET_CFG_MODE p) = 5) (hdown : linkUp s p = false) :
    exec (.linkUp p true anDone) s = .next (setF s (F.NET_LINK_SPD_ERR p) 1) := by
  change execLinkUp p true anDone s = _
  unfold execLinkUp
  extract_lets
  rw [if_neg (by omega), if_pos ⟨hmode, rfl⟩, if_neg (by simp [hdown])]

/-- A flag of one bit shows what is put in. -/
theorem getF_setF_flag (s : State) {f : Fld} {v : Nat} (hbit : f.hi = f.lo) (h32 : f.hi < 32) (hv : v < 2) : getF (setF s f v) f = v :=
  getF_setF_of_lt s f (by omega) (by rw [hbit, Nat.add_sub_cancel_left]; exact hv)

theorem b2n_lt_two (b : Bool) : b2n b < 2 := by cases b <;> decide

theorem linkRaised_spec (p : Fin 4) (anDone fec : Bool) (s : State) :
    let t := linkRaised p anDone fec s
    linkUp t p = true ∧ getF t (F.NET_LINK_SPD_ERR p) = 0 ∧ getF t (F.NET_LINK_AN_DONE p) = b2n anDone ∧
    getF t (F.NET_LINK_FEC p) = b2n fec ∧ stBit t (F.NET_STAT_LINK_UP p) = 1 ∧
    portOf t p = { portOf s p with cut := false } ∧ (∀ q, q ≠ p.val → portOf t q = portOf s q) ∧
    Frame [R.NET_LINK p, R.NET_STAT p] s t { s with regs := t.regs, net := t.net } := by
  obtain ⟨s₀, h₀⟩ : ∃ u, portMod p (fun q => { q with cut := false }) s = u := ⟨_, rfl⟩
  obtain ⟨s₁, h₁⟩ : ∃ u, setF s₀ (F.NET_LINK_STATE p) 2 = u := ⟨_, rfl⟩
  obtain ⟨s₂, h₂⟩ : ∃ u, setF s₁ (F.NET_LINK_SPD_ERR p) 0 = u := ⟨_, rfl⟩
  obtain ⟨s₃, h₃⟩ : ∃ u, setF s₂ (F.NET_LINK_AN_DONE p) (b2n anDone) = u := ⟨_, rfl⟩
  obtain ⟨s₄, h₄⟩ : ∃ u, setF s₃ (F.NET_LINK_FEC p) (b2n fec) = u := ⟨_, rfl⟩
  have away : ∀ p : Fin 4, R.NET_LINK p ≠ R.NET_STAT p := by decide
  have hlink : ∀ f : Fld, f.off = R.NET_LINK p → getF (setBit s₄ (F.NET_STAT_LINK_UP p)) f = getF s₄ f :=
    fun f hf => getF_setF_of_ne s₄ _ f 1 (hf.trans_ne (away p))
  have state : getF s₄ (F.NET_LINK_STATE p) = 2 := by
    rw [← h₄, getF_setF_port F.NET_LINK_FEC F.NET_LINK_STATE (by decide), ← h₃,
      getF_setF_port F.NET_LINK_AN_DONE F.NET_LINK_STATE (by decide), ← h₂,
      getF_setF_port F.NET_LINK_SPD_ERR F.NET_LINK_STATE (by decide), ← h₁]
    exact getF_setF_of_lt s₀ (F.NET_LINK_STATE p) (by decide : 30 ≤ 31 ∧ 31 < 32) (by decide : 2 < 2 ^ 2)
  have speed : getF s₄ (F.NET_LINK_SPD_ERR p) = 0 := by
    rw [← h₄, getF_setF_port F.NET_LINK_FEC F.NET_LINK_SPD_ERR (by decide), ← h₃,
      getF_setF_port F.NET_LINK_AN_DONE F.NET_LINK_SPD_ERR (by decide), ← h₂]
    exact getF_setF_flag s₁ rfl (by decide : 29 < 32) (by decide)
  have done : getF s₄ (F.NET_LINK_AN_DONE p) = b2n anDone := by
    rw [← h₄, getF_setF_port F.NET_LINK_FEC F.NET_LINK_AN_DONE (by decide), ← h₃]
    exact getF_setF_flag s₂ rfl (by decide : 28 < 32) (b2n_lt_two _)
  have shown : getF s₄ (F.NET_LINK_FEC p) = b2n fec := by
    rw [← h₄]
    exact getF_setF_flag s₃ rfl (by decide : 27 < 32) (b2n_lt_two _)
  have ht : linkRaised p anDone fec s = setBit s₄ (F.NET_STAT_LINK_UP p) := by
    unfold linkRaised
    rw [h₀, h₁, h₂, h₃, h₄]
  have hnet : (setBit s₄ (F.NET_STAT_LINK_UP p)).net = (portMod p (fun q => { q with cut := false }) s).net := by
    rw [← h₄, ← h₃, ← h₂, ← h₁, ← h₀]
    rfl
  have parts : PortsOnly s (linkRaised p anDone fec s) := (PortsOnly.refl s).portMod.setF.setF.setF.setF.setBit
  have kept : KeptBut [R.NET_LINK p, R.NET_STAT p] s (linkRaised p anDone fec s) :=
    .setBit (.setF (.setF (.setF (.setF (.portMod (.refl _ s)) (.head _)) (.head _)) (.head _)) (.head _)) (.tail _ (.head _))
  dsimp only
  refine ⟨?_, ?_, ?_, ?_, ?_, ?_, ?_, parts.frame kept⟩
  · rw [ht]
    unfold linkUp
    rw [hlink _ rfl, state]
    rfl
  · rw [ht, hlink _ rfl, speed]
  · rw [ht, hlink _ rfl, done]
  · rw [ht, hlink _ rfl, shown]
  · rw [ht]
    exact stBit_setBit s₄ _ 0 (by decide : 0 < 32)
  · rw [ht, portOf_of_net hnet, portOf_portMod_self]
  · intro q hq
    rw [ht, portOf_of_net hnet, portOf_portMod_of_ne hq]

theorem setSpdErr_spec (p : Fin 4) (s : State) :
    let t := setF s (F.NET_LINK_SPD_ERR p) 1
    linkUp t p = linkUp s p ∧ getF t (F.NET_LINK_SPD_ERR p) = 1 ∧ Frame [R.NET_LINK p] s t { s with regs := t.regs } := by
  refine ⟨congrArg (· == 2) (getF_setF_port F.NET_LINK_SPD_ERR F.NET_LINK_STATE (by decide) p s 1),
    getF_setF_flag s rfl (by decide : 29 < 32) (by decide), (RegsOnly.refl s).setF.frame (.setF (.refl _ s) (.head _))⟩

/-! ### The frame on the line is cut -/

/-- The line is left. -/
def lineLeft (x : NetPort) : NetPort := { x with sending := none }

theorem txSettle_of_idle {p : Nat} (h : (portOf s p).sending = none) (now : Bool) : txSettle p now s = s := by
  unfold txSettle
  rw [h]

/-- With no ring's frame on the line, at most that is noted. -/
theorem txCut_of_source {p : Nat} (h : ∀ x, (portOf s p).sending = some x → 4 ≤ x.1) :
    (∃ n, txCut p s = { s with net := n }) ∧ portOf (txCut p s) p = lineLeft (portOf s p) ∧
    ∀ q, q ≠ p → portOf (txCut p s) q = portOf s q := by
  have hleft : portOf (portMod p lineLeft s) p = lineLeft (portOf s p) := portOf_portMod_self _ _ _
  cases hs : (portOf s p).sending with
  | none =>
    have hcut : txCut p s = s := by
      unfold txCut
      rw [txSettle_of_idle hs]
      dsimp only
      rw [hs]
    rw [hcut]
    exact ⟨⟨s.net, rfl⟩, by unfold lineLeft; rw [← hs], fun _ _ => rfl⟩
  | some x =>
    obtain ⟨r, n, stop⟩ := x
    have hr : ¬ r < 4 := Nat.not_lt.mpr (h _ hs)
    have hcut : txCut p s = portMod p lineLeft s := by
      unfold txCut txSettle
      rw [hs]
      dsimp only
      by_cases hend : false = true ∨ stop ≤ nowStamp s
      · rw [if_pos hend, if_neg hr]
        change (match (portOf (portMod p lineLeft s) p).sending with
          | none => portMod p lineLeft s
          | some (r, n, _) => _) = _
        rw [hleft]
        rfl
      · rw [if_neg hend, hs]
        dsimp only
        rw [if_neg hr]
        rfl
    rw [hcut]
    exact ⟨⟨_, rfl⟩, hleft, fun q hq => portOf_portMod_of_ne hq _ _⟩

/-- A ring's frame whose time on the line is not over is refused under LINK. -/
theorem txCut_of_ring {p r n stop : Nat} (h : (portOf s p).sending = some (r, n, stop)) (hr : r < 4) (hstop : nowStamp s < stop) :
    txCut p s = trRefuse p r n .link (portMod p lineLeft s) := by
  have hsettle : txSettle p false s = s := by
    unfold txSettle
    rw [h]
    exact if_neg (by simp [hstop])
  unfold txCut
  rw [hsettle]
  dsimp only
  rw [h]
  exact if_pos hr

/-! ### LINK_DOWN -/

/-- NETn_LINK of a link that is lost. -/
def linkDownShown (p : Nat) (s : State) : State :=
  let s := setF (setF (setF s (F.NET_LINK_STATE p) (if getF s (F.NET_CFG_MODE p) = 0 then 0 else 1)) (F.NET_LINK_TX_LPI p) 0)
    (F.NET_LINK_AN_DONE p) 0
  setF (setF s (F.NET_LINK_FEC p) 0) (F.NET_LINK_RX_LPI p) 0

/-- What a port's acknowledgement and ladle sources had queued is gone, and a frame in reception is cut. -/
def sourcesHushed (x : NetPort) : NetPort := { x with acks := [], ladle := [], waking := none, cut := true }

/-- The queued stream frames of a port are discarded, each with its context's counter. -/
def streamsLost (p : Nat) (s : State) : State := dropStreams p (fun _ => true) R.STR_TX_LINK false s

/-- What a port's hardware sources had queued is discarded and counted. -/
def queuesLost (p : Nat) (s : State) : State :=
  portMod p sourcesHushed (cntAdd (streamsLost p s) (R.NET_TX_LINK p)
    ((portOf (streamsLost p s) p).acks.length + (portOf (streamsLost p s) p).ladle.length))

theorem portLost_eq (p : Nat) (s : State) :
    portLost p s = raise .netLinkDown p (cnt (queuesLost p (linkDownShown p (txCut p s))) (R.NET_LINKDN_CNT p)) := rfl

theorem linkDownShown_spec (p : Fin 4) (s : State) :
    getF (linkDownShown p s) (F.NET_LINK_STATE p) = (if getF s (F.NET_CFG_MODE p) = 0 then 0 else 1) ∧
    getF (linkDownShown p s) (F.NET_LINK_TX_LPI p) = 0 ∧ getF (linkDownShown p s) (F.NET_LINK_AN_DONE p) = 0 ∧
    RegsOnly s (linkDownShown p s) ∧ KeptBut [R.NET_LINK p] s (linkDownShown p s) := by
  have hstate : (if getF s (F.NET_CFG_MODE p) = 0 then 0 else 1) < 2 ^ 2 := by split <;> decide
  unfold linkDownShown
  dsimp only
  refine ⟨?_, ?_, ?_, (RegsOnly.refl s).setF.setF.setF.setF.setF, ?_⟩
  · rw [getF_setF_port F.NET_LINK_RX_LPI F.NET_LINK_STATE (by decide), getF_setF_port F.NET_LINK_FEC F.NET_LINK_STATE (by decide),
      getF_setF_port F.NET_LINK_AN_DONE F.NET_LINK_STATE (by decide), getF_setF_port F.NET_LINK_TX_LPI F.NET_LINK_STATE (by decide)]
    exact getF_setF_of_lt s (F.NET_LINK_STATE p) (by decide : 30 ≤ 31 ∧ 31 < 32) hstate
  · rw [getF_setF_port F.NET_LINK_RX_LPI F.NET_LINK_TX_LPI (by decide), getF_setF_port F.NET_LINK_FEC F.NET_LINK_TX_LPI (by decide),
      getF_setF_port F.NET_LINK_AN_DONE F.NET_LINK_TX_LPI (by decide)]
    exact getF_setF_flag _ rfl (by decide : 26 < 32) (by decide)
  · rw [getF_setF_port F.NET_LINK_RX_LPI F.NET_LINK_AN_DONE (by decide), getF_setF_port F.NET_LINK_FEC F.NET_LINK_AN_DONE (by decide)]
    exact getF_setF_flag _ rfl (by decide : 28 < 32) (by decide)
  · exact .setF (.setF (.setF (.setF (.setF (.refl _ s) (.head _)) (.head _)) (.head _)) (.head _)) (.head _)

/-- The link-loss counters of the contexts that have a frame queued at a port. -/
def streamCounters (x : NetPort) : List Nat := x.streams.map (fun y => R.STR_TX_LINK y.ctx)

theorem not_mem_streamCounters (x : NetPort) {o : Nat} (h : o < 0x700000) : o ∉ streamCounters x := by
  intro hm
  obtain ⟨y, -, rfl⟩ := List.mem_map.mp hm
  unfold R.STR_TX_LINK at h
  omega

theorem not_mem_append_streamCounters {l : List Nat} {o : Nat} (hl : o ∉ l) (h : o < 0x700000) (x : NetPort) :
    o ∉ l ++ streamCounters x := fun hm => (List.mem_append.mp hm).elim hl (not_mem_streamCounters x h)

theorem streamsLost_spec (p : Nat) (s : State) :
    PortsOnly s (streamsLost p s) ∧ KeptBut (streamCounters (portOf s p)) s (streamsLost p s) ∧
    portOf (streamsLost p s) p = { portOf s p with streams := [] } ∧
    ∀ q, q ≠ p → portOf (streamsLost p s) q = portOf s q := by
  obtain ⟨u, hu⟩ : ∃ u, portMod p (fun q => { q with streams := [] }) s = u := ⟨_, rfl⟩
  have hself : portOf u p = { portOf s p with streams := [] } := hu ▸ portOf_portMod_self p _ s
  have hothers : ∀ q, q ≠ p → portOf u q = portOf s q := fun q hq => hu ▸ portOf_portMod_of_ne hq _ s
  have hlost : streamsLost p s = forEach (portOf s p).streams (fun x t => cnt t (R.STR_TX_LINK x.ctx)) u := by
    unfold streamsLost dropStreams
    rw [← hu]
    simp
  have hregs : RegsOnly u (streamsLost p s) :=
    hlost ▸ forEach_induct (RegsOnly u) _ (.refl u) (fun x _ t ht => RegsOnly.wr ht)
  have hkept : KeptBut (streamCounters (portOf s p)) u (streamsLost p s) :=
    hlost ▸ forEach_induct (KeptBut _ u) _ (.refl _ u) (fun x hx t ht => ht.cntAdd (List.mem_map_of_mem hx))
  have hnet : (streamsLost p s).net = u.net := hregs.logsOnly.net
  refine ⟨?_, ?_, (portOf_of_net hnet p).trans hself, fun q hq => (portOf_of_net hnet q).trans (hothers q hq)⟩
  · obtain ⟨r, hr⟩ := hregs
    rw [hr, ← hu]
    exact ⟨r, _, rfl⟩
  · exact KeptBut.trans (hu ▸ (KeptBut.refl _ s).portMod) hkept

/-- What is queued at a port whose link is lost is counted: stream frames by context, the others at the port. -/
theorem queuesLost_spec (p : Fin 4) (s : State) :
    PortsOnly s (queuesLost p s) ∧ KeptBut (R.NET_TX_LINK p :: streamCounters (portOf s p)) s (queuesLost p s) ∧
    portOf (queuesLost p s) p = sourcesHushed { portOf s p with streams := [] } ∧
    (∀ q, q ≠ p.val → portOf (queuesLost p s) q = portOf s q) ∧
    rdN (queuesLost p s) (R.NET_TX_LINK p) =
      min (rdN s (R.NET_TX_LINK p) + ((portOf s p).acks.length + (portOf s p).ladle.length)) 0xFFFFFFFF := by
  obtain ⟨parts, kept, hself, hothers⟩ := streamsLost_spec p s
  have below : ∀ p : Fin 4, R.NET_TX_LINK p < 0x700000 := by decide
  unfold queuesLost
  generalize streamsLost p s = u at parts kept hself hothers ⊢
  refine ⟨parts.cntAdd.portMod, .portMod (.cntAdd (kept.mono (List.subset_cons_self _ _)) (.head _)), ?_, ?_, ?_⟩
  · rw [portOf_portMod_self]
    exact congrArg sourcesHushed ((portOf_of_net rfl _).trans hself)
  · intro q hq
    rw [portOf_portMod_of_ne hq]
    exact (portOf_of_net rfl q).trans (hothers q hq)
  · rw [hself, ← rdN_of_kept kept (not_mem_streamCounters _ (below p))]
    exact rdN_cntAdd_self _ _ _

/-- What the loss of a link shows, and what it leaves alone, once the frame on the line is cut. -/
structure LinkLost (p : Nat) (s t : State) : Prop where
  link : getF t (F.NET_LINK_STATE p) = (if getF s (F.NET_CFG_MODE p) = 0 then 0 else 1)
  lpi : getF t (F.NET_LINK_TX_LPI p) = 0
  done : getF t (F.NET_LINK_AN_DONE p) = 0
  port : portOf t p = sourcesHushed { portOf s p with streams := [] }
  others : ∀ q, q ≠ p → portOf t q = portOf s q
  discarded : rdN t (R.NET_TX_LINK p) =
    min (rdN s (R.NET_TX_LINK p) + ((portOf s p).acks.length + (portOf s p).ladle.length)) 0xFFFFFFFF
  counted : rdN t (R.NET_LINKDN_CNT p) = min (rdN s (R.NET_LINKDN_CNT p) + 1) 0xFFFFFFFF
  shown : stBit t (F.NET_STAT_LINK_DN p) = 1
  parts : ∃ r n e j, t = { s with regs := r, net := n, err := e, jnl := j }
  regs : KeptBut ([R.NET_LINK p, R.NET_TX_LINK p, R.NET_LINKDN_CNT p, R.NET_STAT p] ++ errRegs ++ streamCounters (portOf s p)) s t

theorem linkLost_portLost (p : Fin 4) (s : State) : LinkLost p (txCut p s) (portLost p s) := by
  rw [portLost_eq]
  generalize txCut p s = s
  obtain ⟨hstate, hlpi, hdone, regs1, kept1⟩ := linkDownShown_spec p s
  have hport1 : ∀ q, portOf (linkDownShown p s) q = portOf s q := fun q => portOf_of_net regs1.logsOnly.net q
  obtain ⟨s1, h1⟩ : ∃ u, linkDownShown p s = u := ⟨_, rfl⟩
  rw [h1] at hstate hlpi hdone regs1 kept1 hport1 ⊢
  obtain ⟨parts2, kept2, hself, hothers, hcount⟩ := queuesLost_spec p s1
  rw [hport1] at kept2 hself hcount
  obtain ⟨s2, h2⟩ : ∃ u, queuesLost p s1 = u := ⟨_, rfl⟩
  rw [h2] at parts2 kept2 hself hothers hcount ⊢
  obtain ⟨s3, h3⟩ : ∃ u, cnt s2 (R.NET_LINKDN_CNT p) = u := ⟨_, rfl⟩
  have regs3 : RegsOnly s2 s3 := h3 ▸ (RegsOnly.refl s2).wr
  have kept3 : KeptBut [R.NET_LINKDN_CNT p] s2 s3 := h3 ▸ .cntAdd (.refl _ s2) (.head _)
  rw [h3]
  have hlog := logsOnly_raise .netLinkDown p s3
  have kept4 : KeptBut (R.NET_STAT p :: errRegs) s3 (raise .netLinkDown p s3) :=
    (KeptBut.refl _ s3).raise (by decide) (List.subset_cons_self _ _) fun f hf => Option.some.inj hf ▸ .head _
  have tied : KeptBut errRegs (setBit s3 (F.NET_STAT_LINK_DN p)) (raise .netLinkDown p s3) :=
    keptBut_raise_of_tie (e := .netLinkDown) (f := F.NET_STAT_LINK_DN p) (by decide) rfl s3
  have below : ∀ p : Fin 4, R.NET_LINK p < 0x700000 ∧ R.NET_LINKDN_CNT p < 0x700000 := by decide
  have away : ∀ p : Fin 4, R.NET_LINK p ∉ [R.NET_TX_LINK p, R.NET_LINKDN_CNT p, R.NET_STAT p] ++ errRegs ∧
      R.NET_TX_LINK p ∉ R.NET_LINKDN_CNT p :: R.NET_STAT p :: errRegs ∧ R.NET_TX_LINK p ∉ [R.NET_LINK p] ∧
      R.NET_LINKDN_CNT p ∉ R.NET_STAT p :: errRegs ∧ R.NET_LINKDN_CNT p ∉ [R.NET_LINK p, R.NET_TX_LINK p] ∧
      (F.NET_STAT_LINK_DN p).off ∉ errRegs := by decide
  obtain ⟨hlink, htx, htx', hdn, hdn', hstat⟩ := away p
  have kept02 : KeptBut ([R.NET_LINK p, R.NET_TX_LINK p] ++ streamCounters (portOf s p)) s s2 :=
    (kept1.mono (by simp)).trans (kept2.mono (by simp))
  have kept34 : KeptBut (R.NET_LINKDN_CNT p :: R.NET_STAT p :: errRegs) s2 (raise .netLinkDown p s3) :=
    (kept3.mono (by simp)).trans (kept4.mono (List.subset_cons_self _ _))
  have kept24 : KeptBut ([R.NET_TX_LINK p, R.NET_LINKDN_CNT p, R.NET_STAT p] ++ errRegs ++ streamCounters (portOf s p)) s1
      (raise .netLinkDown p s3) :=
    (kept2.mono fun o => by simp only [List.mem_append, List.mem_cons]; tauto).trans
      (kept34.mono fun o => by simp only [List.mem_append, List.mem_cons]; tauto)
  have linkField : ∀ f : Fld, f.off = R.NET_LINK p → getF (raise .netLinkDown p s3) f = getF s1 f :=
    fun f hf => kept24.getF (hf ▸ not_mem_append_streamCounters hlink (below p).1 _)
  have hnet : (raise .netLinkDown p s3).net = s2.net := hlog.net.trans regs3.logsOnly.net
  constructor
  case link => rw [linkField _ rfl, hstate]
  case lpi => rw [linkField _ rfl, hlpi]
  case done => rw [linkField _ rfl, hdone]
  case port => rw [portOf_of_net hnet, hself]
  case others =>
    intro q hq
    rw [portOf_of_net hnet, hothers q hq, hport1]
  case discarded => rw [rdN_of_kept kept34 htx, hcount, rdN_of_kept kept1 htx']
  case counted =>
    rw [rdN_of_kept kept4 hdn, ← h3, rdN_cnt_self, rdN_of_kept kept02 (not_mem_append_streamCounters hdn' (below p).2 _)]
  case shown => exact (stBit_of_kept tied 0 hstat).trans (stBit_setBit s3 _ 0 (by decide : 1 < 32))
  case parts =>
    obtain ⟨r₄, e, j, h₄⟩ := hlog
    obtain ⟨r₃, h₃⟩ := regs3
    obtain ⟨r₂, n, h₂⟩ := parts2
    obtain ⟨r₁, h₁⟩ := regs1
    rw [h₄, h₃, h₂, h₁]
    exact ⟨r₄, n, e, j, rfl⟩
  case regs => exact (kept1.mono (by simp)).trans (kept24.mono (by simp))

end Sys2Proof.Machine
end

section
/-! SUPPORT. The obligation of received frames, links and ring registers (O47; R262 to R264, R266, R268 to R271, R275, R280). -/

namespace Sys2Proof.Machine

variable {s t u : State}

/-- A frame that passes size, FCS and address and that its ring's first free descriptor holds. -/
theorem rxFrame_placed_spec {p r : Fin 4} {inp : RxIn} {b : List Byte} (hmode : getF s (F.NET_CFG_MODE p) ≠ 0)
    (hup : linkUp s p = true) (hmin : 64 ≤ inp.bytes.length) (hmax : inp.bytes.length ≤ getF s (F.NET_MAXFRM_MAXFRM p))
    (hfcs : fcsOk inp.bytes = true) (haddr : addressOk s p (beAt inp.bytes 0 6) = true)
    (hmap : bit (getF s F.BST_MAP_MAP) (21 + p) = false) (hu : u = cnt s (R.NET_RX_FRAMES p))
    (hb : b = inp.bytes.take (inp.bytes.length - 4)) (hclass : classify u p (parseFrame b) = .ring r)
    (hsize : getF s (F.NET_RR_CFG_SIZE p r) ≠ 0) (hfifo : inp.fifoRing + b.length ≤ 65536) (hfit : b.length ≤ bufBytes s p r)
    (hlen : b.length < 4096) (hfree : rrFree s p r ≠ 0) (hnobuf : getF s (F.NET_RR_STATE_NOBUF p r) = 0) :
    ∃ t w, exec (.rxFrame p inp) s = .next t ∧
      rdN t (R.NET_RX_FRAMES p) = min (rdN s (R.NET_RX_FRAMES p) + 1) 0xFFFFFFFF ∧
      getF t (F.NET_RR_HEAD_INDEX p r) = (getF s (F.NET_RR_HEAD_INDEX p r) + 1) % 8192 ∧
      getF t (F.NET_RR_STATE_FREE p r) = rrFree s p r - 1 ∧
      rdWord72 t (rrBase r) (rrDesc s p r (getF s (F.NET_RR_HEAD_INDEX p r)) 0) = w ∧
      bit w 44 = true ∧ bit w 45 = true ∧ bit w 46 = true ∧ bit w 47 = false ∧ bits w 43 32 = b.length ∧
      bits w 28 0 = bits (rdWord72 s (rrBase r) (rrDesc s p r (getF s (F.NET_RR_HEAD_INDEX p r)) 0)) 28 0 ∧
      t = { s with regs := t.regs, mem := t.mem } ∧
      KeptBut [R.NET_RX_FRAMES p, R.NET_RR_HEAD p r, R.NET_RR_STATE p r] s t := by
  have away : ∀ p r : Fin 4, F.BST_MAP_MAP.off ∉ [R.NET_RX_FRAMES p] ∧ R.NET_RR_CFG p r ∉ [R.NET_RX_FRAMES p] ∧
      R.NET_RR_BASE p r ∉ [R.NET_RX_FRAMES p] ∧ R.NET_RR_HEAD p r ∉ [R.NET_RX_FRAMES p] ∧
      R.NET_RR_TAIL p r ∉ [R.NET_RX_FRAMES p] ∧ R.NET_RR_STATE p r ∉ [R.NET_RX_FRAMES p] ∧
      R.NET_RX_FRAMES p ∉ [R.NET_RR_HEAD p r, R.NET_RR_STATE p r] := by decide
  obtain ⟨hmapOff, hcfg, hbase, hhead, htail, hstate, hframes⟩ := away p r
  have kept : KeptBut [R.NET_RX_FRAMES p] s u := hu ▸ .cntAdd (.refl _ s) (.head _)
  have hmem : SameMem s u := hu ▸ sameMem_of_mem (wr_mem s _ _)
  obtain ⟨t, ht⟩ : ∃ t, rrTaken p r (parseFrame b) inp.stamp b u = t := ⟨_, rfl⟩
  have hexec : exec (.rxFrame p inp) s = .next t := by
    rw [exec_rxFrame_passed hmode hup hmin hmax hfcs haddr, ← hb, ← hu,
      rxDeliver_ring (by rwa [kept.getF hmapOff]) hclass (by rwa [kept.getF (f := F.NET_RR_CFG_SIZE p r) hcfg]) hfifo,
      rrPlace_of_fits (by rw [hb, List.length_take]; omega) (by rwa [bufBytes_of_kept kept hcfg])
        (by rwa [rrFree_of_kept kept htail hhead]) (by rwa [kept.getF (f := F.NET_RR_STATE_NOBUF p r) hstate]), ht]
  obtain ⟨h1, h2, ⟨h44, h45, h46, h47, hl, hbuf⟩, hparts, hkept⟩ := rrTaken_spec p r (parseFrame b) inp.stamp
    (by rwa [bufBytes_of_kept kept hcfg]) hlen (by rwa [rrFree_of_kept kept htail hhead]) ht rfl
  rw [kept.getF (f := F.NET_RR_HEAD_INDEX p r) hhead] at h1 h44 h45 h46 h47 hl hbuf
  rw [rrDesc_of_kept kept hbase hcfg] at h44 h45 h46 h47 hl hbuf
  refine ⟨t, _, hexec, ?_, h1, h2.trans (by rw [rrFree_of_kept kept htail hhead]), rfl, h44, h45, h46, h47, hl, ?_, ?_, ?_⟩
  · rw [rdN_of_kept hkept hframes, hu, rdN_cnt_self]
  · rw [hbuf, rdWord72_of_sameMem hmem]
  · rw [hparts, hu]
    rfl
  · exact (kept.mono (by simp)).trans (hkept.mono (List.subset_cons_self _ _))

theorem exec_linkDown {p : Fin 4} (hup : linkUp s p = true) : exec (.linkDown p) s = .next (portLost p s) := by
  change execLinkDown p s = _
  unfold execLinkDown
  rw [if_pos hup]

/-- A link is lost while no ring's frame is on the line. -/
theorem portLost_of_source_spec {p : Fin 4} (h : ∀ x, (portOf s p).sending = some x → 4 ≤ x.1) :
    let t := portLost p s
    getF t (F.NET_LINK_STATE p) = (if getF s (F.NET_CFG_MODE p) = 0 then 0 else 1) ∧
    getF t (F.NET_LINK_TX_LPI p) = 0 ∧ getF t (F.NET_LINK_AN_DONE p) = 0 ∧
    portOf t p = { portOf s p with streams := [], acks := [], ladle := [], waking := none, cut := true, sending := none } ∧
    (∀ q, q ≠ p.val → portOf t q = portOf s q) ∧
    rdN t (R.NET_TX_LINK p) =
      min (rdN s (R.NET_TX_LINK p) + ((portOf s p).acks.length + (portOf s p).ladle.length)) 0xFFFFFFFF ∧
    rdN t (R.NET_LINKDN_CNT p) = min (rdN s (R.NET_LINKDN_CNT p) + 1) 0xFFFFFFFF ∧
    stBit t (F.NET_STAT_LINK_DN p) = 1 ∧
    Frame ([R.NET_LINK p, R.NET_TX_LINK p, R.NET_LINKDN_CNT p, R.NET_STAT p] ++ errRegs ++
        (portOf s p).streams.map (fun x => R.STR_TX_LINK x.ctx))
      s t { s with regs := t.regs, err := t.err, jnl := t.jnl, net := t.net } := by
  obtain ⟨⟨n, hcut⟩, hport, hothers⟩ := txCut_of_source h
  have lost := linkLost_portLost p s
  have discarded := lost.discarded
  have kept := lost.regs
  have parts := lost.parts
  rw [hport] at discarded kept
  rw [hcut] at parts kept
  refine ⟨?_, lost.lpi, lost.done, lost.port.trans (by rw [hport]; rfl), fun q hq => (lost.others q hq).trans (hothers q hq),
    ?_, ?_, lost.shown, ?_, kept, ?_⟩
  · exact lost.link.trans (by rw [hcut]; rfl)
  · exact discarded.trans (by rw [hcut]; rfl)
  · exact lost.counted.trans (by rw [hcut]; rfl)
  · obtain ⟨r, n', e, j, ht⟩ := parts
    rw [ht]
  · obtain ⟨r, n', e, j, ht⟩ := parts
    rw [ht]
    exact sameMem_of_mem rfl

/-- A link is lost while a ring's frame is on the line and nothing else is queued. -/
theorem portLost_of_ring_spec {p r : Fin 4} {n stop : Nat} (hsend : (portOf s p).sending = some (r.val, n, stop))
    (hstop : nowStamp s < stop) (hacks : (portOf s p).acks = []) (hladle : (portOf s p).ladle = []) :
    let t := portLost p s
    linkUp t p = false ∧ (portOf t p).sending = none ∧ (portOf t p).cut = true ∧
    getF t (F.NET_TR_HEAD_INDEX p r) = (getF s (F.NET_TR_HEAD_INDEX p r) + n) % 8192 ∧
    rdN t (R.NET_TX_LINK p) = min (rdN s (R.NET_TX_LINK p) + 1) 0xFFFFFFFF ∧
    (∀ i, i < n → bits (rdWord72 t dramBase (trDesc s p r (getF s (F.NET_TR_HEAD_INDEX p r) + i) 0)) 53 50 = 4) ∧
    (∀ q, q ≠ p.val → portOf t q = portOf s q) := by
  have lost := linkLost_portLost p s
  rw [txCut_of_ring hsend r.isLt hstop] at lost
  have refused := refused_trRefuse p r n .link (portMod p lineLeft s)
  obtain ⟨u, hu⟩ : ∃ u, trRefuse p r n .link (portMod p lineLeft s) = u := ⟨_, rfl⟩
  rw [hu] at lost refused
  have hport : portOf u p = trPassed r (getF s (F.NET_TR_HEAD_INDEX p r)) n (lineLeft (portOf s p)) :=
    refused.port.trans (by rw [portOf_portMod_self]; rfl)
  have away : ∀ p r : Fin 4, R.NET_TR_HEAD p r ∉ [R.NET_LINK p, R.NET_TX_LINK p, R.NET_LINKDN_CNT p, R.NET_STAT p] ++ errRegs ∧
      R.NET_TR_HEAD p r < 0x700000 := by decide
  obtain ⟨hhead, hbelow⟩ := away p r
  refine ⟨?_, ?_, ?_, ?_, ?_, ?_, ?_⟩
  · unfold linkUp
    rw [lost.link]
    split
    · rfl
    · rfl
  · rw [lost.port, hport]
    rfl
  · rw [lost.port]
    rfl
  · rw [lost.regs.getF (f := F.NET_TR_HEAD_INDEX p r) (not_mem_append_streamCounters hhead hbelow _), refused.head, getF_portMod]
  · have hcount := refused.counted
    rw [lost.discarded, hport]
    change rdN u (R.NET_TX_LINK p) = min (rdN s (R.NET_TX_LINK p) + 1) 0xFFFFFFFF at hcount
    change min (rdN u (R.NET_TX_LINK p) + ((portOf s p).acks.length + (portOf s p).ladle.length)) _ = _
    rw [hcount, hacks, hladle]
    simp
  · intro i hi
    have hmem : (portLost p s).mem = u.mem := by
      obtain ⟨r', n', e, j, ht⟩ := lost.parts
      rw [ht]
    rw [rdWord72_of_sameMem (sameMem_of_mem hmem)]
    exact refused.words i hi
  · exact fun q hq => (lost.others q hq).trans ((refused.others q hq).trans (portOf_portMod_of_ne hq _ _))

/-- Settles O47: a frame is judged at its port and placed in its ring's first free descriptor; a lost link cuts the frame on the line
before it discards what was queued; ring registers are taken while no Pattern runs. -/
theorem framesReceivedIntoRings : Obligations.FramesReceivedIntoRings := by
  unfold Obligations.FramesReceivedIntoRings
  refine ⟨?_, ?_, ?_, ?_, ?_, ?_, ?_, ?_, ?_, ?_, ?_⟩
  · rintro p inp s ⟨hmode, hup, hlen⟩
    exact ⟨_, exec_rxFrame_runt hmode hup hlen, rdN_cnt_self _ _,
      RegsOnly.frame (.wr (.refl s)) (.cntAdd (.refl _ s) (.head _))⟩
  · rintro p r inp s u b ⟨hmode, hup⟩ ⟨hmin, hmax, hfcs⟩ ⟨haddr, hmap⟩ ⟨hu, hb⟩ ⟨hclass, hsize⟩ ⟨hfifo, hfit, hlen⟩ ⟨hfree, hnobuf⟩
    exact rxFrame_placed_spec hmode hup hmin hmax hfcs haddr hmap hu hb hclass hsize hfifo hfit hlen hfree hnobuf
  · rintro p badSpeed anDone s ⟨hmode, hdown, hspeed⟩ han
    exact ⟨_, exec_linkUp_of_good hmode hdown hspeed han, linkRaised_spec p anDone _ s⟩
  · rintro p anDone s ⟨hmode, hdown⟩
    obtain ⟨hup, hspd, hframe⟩ := setSpdErr_spec p s
    exact ⟨_, exec_linkUp_of_badSpeed anDone hmode hdown, hup.trans hdown, hspd, hframe⟩
  · rintro p s ⟨hup, -, hline⟩
    exact ⟨_, exec_linkDown hup, portLost_of_source_spec hline⟩
  · rintro p s r n stop ⟨hup, hsend, hr, hstop⟩ ⟨-, hacks, hladle⟩
    exact ⟨_, exec_linkDown hup, portLost_of_ring_spec (r := ⟨r, hr⟩) hsend hstop hacks hladle⟩
  · exact fun p r v s hr hnear =>
      ⟨_, congrArg Host.Outcome.next (rrTailApply_of_near hr hnear), rrTailTaken_spec p r (Nat.mod_lt _ (by decide)) s⟩
  · exact fun p v s => congrArg Host.Outcome.next (rrTailApply_ring1 p v s)
  · rintro via p r v s ⟨hstop, hr, hsize, hbuf⟩
    have noted := noted_journalReg via (R.NET_RR_CFG p r) v s
    obtain ⟨hcfg, hhead, htail, hnobuf, hfree, parts, kept⟩ :=
      rrConfigured_spec p r (v &&& 0x00071FFF#32) (journalReg via (R.NET_RR_CFG p r) v s)
    have away : ∀ p r : Fin 4, R.NET_RR_STATE p r ∉ jnlRegs := by decide
    refine ⟨_, congrArg Host.Outcome.next (ringCfgWrite_rrCfg hstop hr hsize hbuf via p), hcfg, hhead, htail, ?_, hfree, ?_⟩
    · exact hnobuf.trans (noted.getF (F.NET_RR_STATE_NOBUF p r) (away p r))
    · exact noted.frame_regs parts
        ((noted.kept.mono (List.subset_append_right _ _)).trans (kept.mono (List.subset_append_left _ _)))
  · intro via p r v s hstop
    have noted := noted_journalReg via (R.NET_TR_BASE p r) v s
    obtain ⟨hbase, hhead, htail, hothers, parts, kept⟩ :=
      trRebased_spec p r (v &&& 0x1FFFFFFE#32) (journalReg via (R.NET_TR_BASE p r) v s)
    refine ⟨_, congrArg Host.Outcome.next (ringCfgWrite_trBase hstop via p r v), hbase, hhead, htail, ?_, ?_⟩
    · exact fun q hq => (hothers q hq).trans (portOf_of_net noted.logsOnly.net q)
    · exact noted.frame_ports parts
        ((noted.kept.mono (List.subset_append_right _ _)).trans (kept.mono (List.subset_append_left _ _)))
  · intro via p r v s hrun
    obtain ⟨-, ht, hkept, hmem⟩ := raise_recorded_spec (e := .errRwlWrite) (by decide) rfl via (R.NET_RR_CFG p r) v s
    have away : ∀ p r : Fin 4, R.NET_RR_CFG p r ∉ logRegs := by decide
    have hlog := (logsOnly_journalReg via (R.NET_RR_CFG p r) v s).raise (e := .errRwlWrite) (src := 0)
    exact ⟨_, congrArg Host.Outcome.next (ringCfgWrite_rrCfg_of_running hrun via p r v), hkept _ (away p r), hlog.net, hmem⟩

end Sys2Proof.Machine
end

section
/-! SUPPORT. Transmit rings' TAIL, and a frame of a hardware source put on the line (R270, R273 to R277). -/

namespace Sys2Proof.Machine

variable {s t u : State} {offs : List Nat}

/-! ### A write of TAIL -/

/-- The frames that TAIL was left inside, once a ring's is found to begin at an index or not: one that is new is noted with the
present MSI. -/
def insideNoted (r msi : Nat) (found : Option Nat) (was : Option (Nat × Nat)) (l : Tbl (Nat × Nat)) : Tbl (Nat × Nat) :=
  match found, was with
  | none, _ => aErase l r
  | some i, some (j, at_) => aInsert l r (i, if i = j then at_ else msi)
  | some i, none => aInsert l r (i, msi)

/-- A transmit ring's TAIL is taken. -/
def trTailTaken (p r tail : Nat) (s : State) : State :=
  portMod p (fun q => { q with
      inside := insideNoted r s.msi (trInside (setF s (F.NET_TR_TAIL_INDEX p r) tail) p r)
        (((portOf s p).inside.find? (fun x => x.1 == r)).map (fun x => x.2)) q.inside })
    (setF s (F.NET_TR_TAIL_INDEX p r) tail)

theorem trTailApply_of_near {p r : Nat} {v : Word}
    (h : (v.toNat % 8192 + 8192 - getF s (F.NET_TR_HEAD_INDEX p r)) % 8192 ≤ getF s (F.NET_TR_CFG_SIZE p r)) :
    trTailApply p r v s = trTailTaken p r (v.toNat % 8192) s := by
  unfold trTailApply
  extract_lets
  rw [if_neg (Nat.not_lt.mpr h)]
  rfl

theorem trInside_portMod (p' : Nat) (f : NetPort → NetPort) (s : State) (p r : Nat) :
    trInside (portMod p' f s) p r = trInside s p r := rfl

theorem trTailTaken_spec (p r : Fin 4) {tail : Nat} (h : tail < 8192) (s : State) :
    let t := trTailTaken p r tail s
    getF t (F.NET_TR_TAIL_INDEX p r) = tail ∧
    portOf t p = { portOf s p with
      inside := insideNoted r s.msi (trInside t p r) (((portOf s p).inside.find? (fun x => x.1 == r.val)).map (fun x => x.2))
        (portOf s p).inside } ∧
    (∀ q, q ≠ p.val → portOf t q = portOf s q) ∧
    Frame [R.NET_TR_TAIL p r] s t { s with regs := t.regs, net := t.net } := by
  unfold trTailTaken
  dsimp only
  refine ⟨?_, ?_, ?_, PortsOnly.frame (.portMod (.setF (.refl s))) (.portMod (.setF (.refl _ s) (.head _)))⟩
  · rw [getF_portMod, getF_setF_index _ rfl rfl h]
  · rw [portOf_portMod_self, trInside_portMod, portOf_of_net (setF_net s _ _)]
  · intro q hq
    rw [portOf_portMod_of_ne hq, portOf_of_net (setF_net s _ _)]

/-! ### A TAIL left inside a frame for more than one block -/

theorem exec_txTailTimeout_of_late {p r : Fin 4} {i at_ : Nat}
    (hfind : (portOf s p).inside.find? (fun x => x.1 == r.val) = some (r.val, i, at_)) (hlate : at_ + 16 < s.msi)
    (hin : trInside s p r = some i) :
    exec (.txTailTimeout p r) s = .next (if trCount s p r = none then trRefuse p r (trAvail s p r) .baddesc s
      else portMod p (fun q => { q with overdue := aInsert q.overdue r i }) s) := by
  change execTxTailTimeout p r s = _
  unfold execTxTailTimeout
  rw [hfind]
  dsimp only
  rw [if_pos ⟨hlate, hin⟩]

theorem trAvail_lt (s : State) (p r : Nat) : trAvail s p r < 8192 := Nat.mod_lt _ (by decide)

/-- HEAD moved over all that is published stands at TAIL. -/
theorem head_add_trAvail (s : State) (p r : Nat) :
    (getF s (F.NET_TR_HEAD_INDEX p r) + trAvail s p r) % 8192 = getF s (F.NET_TR_TAIL_INDEX p r) := by
  have hhead : getF s (F.NET_TR_HEAD_INDEX p r) < 8192 := getF_lt s _
  have htail : getF s (F.NET_TR_TAIL_INDEX p r) < 8192 := getF_lt s _
  unfold trAvail
  omega

/-- A frame that TAIL lies inside begins among the published descriptors. -/
theorem lt_trAvail_of_trInside {p r i : Nat} (h : trInside s p r = some i) :
    (i + 8192 - getF s (F.NET_TR_HEAD_INDEX p r)) % 8192 < trAvail s p r := by
  have hhead : getF s (F.NET_TR_HEAD_INDEX p r) < 8192 := getF_lt s _
  have havail := trAvail_lt s p r
  unfold trInside at h
  extract_lets n done at h
  split at h
  next hlt =>
    have hi := Option.some.inj h
    have hlt' : done < trAvail s p r := hlt
    omega
  next => contradiction

theorem txTailTimeout_refused_spec {p r : Fin 4} {i : Nat} (hin : trInside s p r = some i) :
    let t := trRefuse p r (trAvail s p r) .baddesc s
    rdN t (R.NET_TX_BADDESC p) = min (rdN s (R.NET_TX_BADDESC p) + 1) 0xFFFFFFFF ∧
    getF t (F.NET_TR_HEAD_INDEX p r) = getF s (F.NET_TR_TAIL_INDEX p r) ∧
    stBit t (F.NET_STAT_TX_REJECT p) = 1 ∧
    (portOf t p).inside.find? (fun x => x.1 == r.val && x.2.1 == i) = none ∧ (∀ q, q ≠ p.val → portOf t q = portOf s q) ∧
    (∀ i, i < trAvail s p r →
      bits (rdWord72 t dramBase (trDesc s p r (getF s (F.NET_TR_HEAD_INDEX p r) + i) 0)) 53 50 = 5) ∧
    KeptBut ([R.NET_TX_BADDESC p, R.NET_TR_HEAD p r, R.NET_STAT p] ++ errRegs) s t := by
  have refused := refused_trRefuse p r (trAvail s p r) .baddesc s
  refine ⟨refused.counted, refused.head.trans (head_add_trAvail s p r), refused.shown, ?_, refused.others, refused.words,
    refused.regs⟩
  rw [refused.port, List.find?_eq_none]
  intro x hx hxi
  obtain ⟨-, hkept⟩ := List.mem_filter.mp hx
  obtain ⟨hr, hi⟩ := Bool.and_eq_true_iff.mp hxi
  rw [hr, eq_of_beq hi, decide_eq_true (lt_trAvail_of_trInside hin)] at hkept
  contradiction

/-! ### States that read alike -/

/-- Every register, byte and port of t reads as that of s. -/
structure Alike (s t : State) : Prop where
  parts : PortsOnly s t
  regs : KeptBut [] s t
  port : ∀ q, portOf t q = portOf s q

theorem Alike.trans (h : Alike s t) (h' : Alike t u) : Alike s u :=
  ⟨h.parts.trans h'.parts, h.regs.trans h'.regs, fun q => (h'.port q).trans (h.port q)⟩

theorem Alike.getF (h : Alike s t) (f : Fld) : getF t f = getF s f := h.regs.getF (by simp)

/-- A change that leaves the port as it stands. -/
theorem alike_portMod {p : Nat} {f : NetPort → NetPort} (h : f (portOf s p) = portOf s p) : Alike s (portMod p f s) where
  parts := (PortsOnly.refl s).portMod
  regs := (KeptBut.refl _ s).portMod
  port q := by
    by_cases hq : q = p
    · rw [hq, portOf_portMod_self, h]
    · rw [portOf_portMod_of_ne hq]

/-- Counting nothing. -/
theorem alike_cntAdd_zero (s : State) (o : Nat) : Alike s (cntAdd s o 0) where
  parts := (PortsOnly.refl s).cntAdd
  regs q _ := by
    have hcount : min (rdN s o + 0) 0xFFFFFFFF = rdN s o := Nat.min_eq_left (Nat.le_of_lt_succ (rd s o).isLt)
    unfold cntAdd wrN
    rw [hcount, rd_wr]
    split
    next h => rw [h, rdN, BitVec.ofNat_toNat, BitVec.setWidth_eq]
    next => rfl
  port q := portOf_of_net rfl q

theorem Alike.trAvail (h : Alike s t) (p r : Nat) : trAvail t p r = trAvail s p r := by
  unfold Machine.trAvail
  rw [h.getF, h.getF]

theorem Alike.linkUp (h : Alike s t) (p : Nat) : linkUp t p = linkUp s p := congrArg (· == 2) (h.getF _)

theorem Alike.gateOpen (h : Alike s t) : gateOpen t = gateOpen s := by
  unfold Machine.gateOpen isPair
  rw [h.getF, h.getF]

theorem Alike.wakingAt (h : Alike s t) (p stamp : Nat) : wakingAt t p stamp = wakingAt s p stamp := by
  unfold Machine.wakingAt
  rw [h.port, h.getF]

theorem Alike.lineStamps (h : Alike s t) (p n : Nat) : lineStamps t p n = lineStamps s p n := by
  unfold Machine.lineStamps lineMbps
  rw [h.getF]

/-! ### Nothing is discarded -/

theorem alike_dropStreams {p : Nat} (h : (portOf s p).streams = []) (bad : TxItem → Bool) (counter : Nat → Nat) (err : Bool) :
    Alike s (dropStreams p bad counter err s) := by
  unfold dropStreams
  rw [h]
  refine alike_portMod ?_
  rw [h, List.filter_nil, ← h]

/-- While no gate list is in force every frame fits. -/
theorem fitsWindow_of_ungated {p : Nat} (h : getF s (F.NET_GCL_STATE_OPER_EN p) = 0) (n tc : Nat) :
    fitsWindow s p n (longestOpen s p tc) = true := by
  unfold longestOpen
  rw [if_pos h]
  rfl

theorem alike_dropNofit {p : Nat} (hstreams : (portOf s p).streams = []) (hgate : getF s (F.NET_GCL_STATE_OPER_EN p) = 0) :
    Alike s (dropNofit p s) := by
  unfold dropNofit
  extract_lets s1 bad q n s2
  have h1 : Alike s s1 := alike_dropStreams hstreams _ _ _
  have hbad : ∀ x, bad x = false := by
    intro x
    have hfits := fitsWindow_of_ungated ((h1.getF _).trans hgate) x.bytes.length x.tc
    change (!fitsWindow s1 p x.bytes.length (longestOpen s1 p x.tc)) = false
    rw [hfits]
    rfl
  have hn : n = 0 := by
    change ((q.streams ++ q.acks ++ q.ladle).filter bad).length = 0
    rw [List.filter_eq_nil_iff.mpr (fun x _ => by simp [hbad])]
    rfl
  have h2 : Alike s s2 := by
    have hcount : Alike s1 (cntAdd s1 (R.NET_TX_NOFIT p) n) := hn ▸ alike_cntAdd_zero s1 _
    refine (h1.trans hcount).trans (alike_dropStreams ?_ _ _ _)
    rw [hcount.port, h1.port, hstreams]
  refine h2.trans (alike_portMod ?_)
  simp only [hbad, Bool.not_false, List.filter_true]

/-! ### The next frame is an acknowledgement -/

theorem trCount_of_empty {p r : Nat} (h : trAvail s p r = 0) : trCount s p r = none := by
  unfold trCount
  rw [h]
  rfl

theorem refusedRing_of_empty {p : Nat} (h : ∀ r < 4, trAvail s p r = 0) : refusedRing s p = none := by
  unfold refusedRing
  rw [List.findSome?_eq_none_iff]
  intro r hr
  have hempty := h r (List.mem_range.mp hr)
  rw [trCount_of_empty hempty, hempty]
  rfl

/-- The only frame of a port's sources is one acknowledgement. -/
structure OneAck (s : State) (p : Nat) (x : TxItem) : Prop where
  streams : (portOf s p).streams = []
  acks : (portOf s p).acks = [x]
  ladle : (portOf s p).ladle = []
  rings : ∀ r < 4, trAvail s p r = 0

theorem Alike.oneAck {p : Nat} {x : TxItem} (h : Alike s t) (one : OneAck s p x) : OneAck t p x where
  streams := by rw [h.port, one.streams]
  acks := by rw [h.port, one.acks]
  ladle := by rw [h.port, one.ladle]
  rings r hr := (h.trAvail p r).trans (one.rings r hr)

/-- It stands at the head of the acknowledgement source, in its class. -/
theorem OneAck.headIn {p src : Nat} {x : TxItem} (one : OneAck s p x) (hsrc : src < 7) (tc : Nat) :
    headIn s p tc src = if src = 1 ∧ x.tc = tc then some x.bytes else none := by
  unfold Machine.headIn
  match src, hsrc with
  | 0, _ =>
    rw [if_pos rfl, streamHead, one.streams]
    rfl
  | 1, _ =>
    rw [if_neg (by decide), headFrame, one.acks]
    simp
  | 2, _ =>
    rw [if_neg (by decide), headFrame, one.ladle]
    rfl
  | r + 3, hr =>
    have hnone : headFrame s p (r + 3) = none := by
      unfold headFrame
      simp [trCount_of_empty (one.rings r (by omega))]
    rw [if_neg (by omega), hnone, if_neg (by omega)]

theorem one_mem_turnOrder (s : State) (p tc : Nat) : 1 ∈ turnOrder s p tc := by
  unfold turnOrder
  extract_lets last
  exact List.mem_map.mpr ⟨(8 - (last + 1) % 7) % 7, List.mem_range.mpr (Nat.mod_lt _ (by decide)), by omega⟩

theorem lt_of_mem_turnOrder {p tc src : Nat} (h : src ∈ turnOrder s p tc) : src < 7 := by
  obtain ⟨i, -, rfl⟩ := List.mem_map.mp h
  exact Nat.mod_lt _ (by decide)

/-- A list finds what one of its members alone yields. -/
theorem findSome?_of_unique {α β : Type} {f : α → Option β} {l : List α} {a : α} {b : β} (ha : a ∈ l) (hf : f a = some b)
    (hothers : ∀ y ∈ l, y ≠ a → f y = none) : l.findSome? f = some b := by
  obtain ⟨l₁, l₂, hl, hnot⟩ := List.eq_append_cons_of_mem ha
  rw [List.findSome?_eq_some_iff]
  refine ⟨l₁, a, l₂, hl, hf, fun y hy => hothers y ?_ (ne_of_mem_of_not_mem hy hnot)⟩
  rw [hl]
  exact List.mem_append_left _ hy

theorem OneAck.nextFrame {p : Nat} {x : TxItem} (one : OneAck s p x) (htc : x.tc < 8)
    (hgate : getF s (F.NET_GCL_STATE_OPER_EN p) = 0) (ns : Nat) : nextFrame s p ns = some (x.tc, 1, x.bytes) := by
  have hfits : ∀ n tc, fitsWindow s p n (openFor s p tc ns) = true := by
    intro n tc
    unfold openFor
    rw [if_pos hgate]
    rfl
  unfold Machine.nextFrame
  refine findSome?_of_unique (a := 7 - x.tc) (List.mem_range.mpr (by omega)) ?_ ?_
  · dsimp only
    refine findSome?_of_unique (one_mem_turnOrder s p _) ?_ fun src hsrc hne => ?_
    · rw [one.headIn (by decide), show 7 - (7 - x.tc) = x.tc by omega, if_pos ⟨rfl, rfl⟩]
      exact if_pos (hfits _ _)
    · rw [one.headIn (lt_of_mem_turnOrder hsrc), if_neg (fun h => hne h.1)]
  · intro i hi hne
    dsimp only
    rw [List.findSome?_eq_none_iff]
    intro src hsrc
    have hlt := List.mem_range.mp hi
    rw [one.headIn (lt_of_mem_turnOrder hsrc), if_neg (by omega)]

/-! ### It is put on the line -/

/-- A port after an acknowledgement is put on the line at a stamp. -/
def ackSent (x : TxItem) (stop : Nat) (q : NetPort) : NetPort where
  __ := q
  acks := q.acks.drop 1
  line := padFrame x.bytes ++ leBytes 4 (crc32 (padFrame x.bytes))
  sending := some (4, 0, stop)
  waking := none
  turn := aInsert q.turn x.tc 1

theorem txStart_ack (p stamp : Nat) (x : TxItem) (s : State) :
    txStart p x.tc 1 stamp x.bytes s =
      portMod p (fun q => { ackSent x (stamp + lineStamps s p x.bytes.length) q with acks := q.acks })
        (portMod p (fun q => { q with acks := q.acks.drop 1 }) (cnt s (R.NET_TX_FRAMES p))) := rfl

theorem txStart_ack_spec (p stamp : Nat) (x : TxItem) (s : State) :
    let t := txStart p x.tc 1 stamp x.bytes s
    portOf t p = ackSent x (stamp + lineStamps s p x.bytes.length) (portOf s p) ∧ (∀ q, q ≠ p → portOf t q = portOf s q) ∧
    rdN t (R.NET_TX_FRAMES p) = min (rdN s (R.NET_TX_FRAMES p) + 1) 0xFFFFFFFF ∧ PortsOnly s t ∧
    KeptBut [R.NET_TX_FRAMES p] s t := by
  have hport : ∀ q, portOf (cnt s (R.NET_TX_FRAMES p)) q = portOf s q := fun q => portOf_of_net (wr_net s _ _) q
  rw [txStart_ack]
  dsimp only
  refine ⟨?_, ?_, rdN_cnt_self s _, .portMod (.portMod (.cntAdd (.refl s))), .portMod (.portMod (.cntAdd (.refl _ s) (.head _)))⟩
  · rw [portOf_portMod_self, portOf_portMod_self, hport]
    rfl
  · intro q hq
    rw [portOf_portMod_of_ne hq, portOf_portMod_of_ne hq, hport]

/-- An UP, awake, ungated port with an idle line sends its one acknowledgement. -/
theorem exec_txFrame_ack {p : Fin 4} {stamp : BitVec 64} {x : TxItem} (one : OneAck s p x) (htc : x.tc < 8)
    (hfatal : s.err.fatal = false) (hmap : bit (getF s F.BST_MAP_MAP) (21 + p) = false)
    (hgate : getF s (F.NET_GCL_STATE_OPER_EN p) = 0) (hup : linkUp s p = true) (hopen : gateOpen s = true)
    (hlpi : getF s (F.NET_LINK_TX_LPI p) = 0) (hidle : (portOf s p).sending = none) (hawake : wakingAt s p stamp.toNat = false)
    (cycleNs : BitVec 64) :
    exec (.txFrame p cycleNs stamp) s = .next (txStart p x.tc 1 stamp.toNat x.bytes (dropNofit p s)) := by
  have alike := alike_dropNofit one.streams hgate
  have one' := alike.oneAck one
  change execTxFrame p cycleNs stamp s = _
  unfold execTxFrame txFrame
  rw [if_neg (by simp [hfatal, hmap]), txSettle_of_idle hidle]
  dsimp only
  rw [refusedRing_of_empty one'.rings]
  dsimp only
  rw [if_neg (by simp [alike.linkUp, hup, alike.gateOpen, hopen, alike.getF, hlpi, alike.wakingAt, hawake]),
    one'.nextFrame htc ((alike.getF _).trans hgate)]

end Sys2Proof.Machine
end

section
/-! SUPPORT. The gate list's commands and its course, and low-power idle (R276, R278, R279). -/

namespace Sys2Proof.Machine

variable {s t u : State} {offs : List Nat}

/-! ### GCL_COMMIT and GCL_CANCEL -/

/-- A gate commit is pending for a block, or none is, and the command that brought this succeeded. -/
def gclPended (p cmd : Nat) (k : Option Nat) (s : State) : State :=
  setF (setF (setF (portMod p (fun q => { q with gclPend := k }) s) (F.NET_GCL_STATE_PEND p) (b2n k.isSome))
    (F.NET_GCL_STATE_CMD p) cmd) (F.NET_GCL_STATE_REASON p) 0

theorem gclPended_spec (p : Fin 4) {cmd : Nat} (hcmd : cmd < 16) (k : Option Nat) (s : State) :
    let t := gclPended p cmd k s
    portOf t p = { portOf s p with gclPend := k } ∧ (∀ q, q ≠ p.val → portOf t q = portOf s q) ∧
    getF t (F.NET_GCL_STATE_PEND p) = b2n k.isSome ∧ getF t (F.NET_GCL_STATE_CMD p) = cmd ∧
    getF t (F.NET_GCL_STATE_REASON p) = 0 ∧ PortsOnly s t ∧ KeptBut [R.NET_GCL_STATE p] s t := by
  have hnet : (gclPended p cmd k s).net = (portMod p (fun q => { q with gclPend := k }) s).net := rfl
  dsimp only
  refine ⟨?_, ?_, ?_, ?_, ?_, .setF (.setF (.setF (.portMod (.refl s)))),
    .setF (.setF (.setF (.portMod (.refl _ s)) (.head _)) (.head _)) (.head _)⟩
  · rw [portOf_of_net hnet, portOf_portMod_self]
  · intro q hq
    rw [portOf_of_net hnet, portOf_portMod_of_ne hq]
  · unfold gclPended
    rw [getF_setF_port F.NET_GCL_STATE_REASON F.NET_GCL_STATE_PEND (by decide),
      getF_setF_port F.NET_GCL_STATE_CMD F.NET_GCL_STATE_PEND (by decide)]
    exact getF_setF_flag _ rfl (by decide : 30 < 32) (b2n_lt_two _)
  · unfold gclPended
    rw [getF_setF_port F.NET_GCL_STATE_REASON F.NET_GCL_STATE_CMD (by decide)]
    exact getF_setF_of_lt _ (F.NET_GCL_STATE_CMD p) (by decide : 12 ≤ 15 ∧ 15 < 32) hcmd
  · exact getF_setF_of_lt _ (F.NET_GCL_STATE_REASON p) (by decide : 0 ≤ 7 ∧ 7 < 32) (by decide : 0 < 2 ^ 8)

/-- The registers of the ports lie above those that a record counts in. -/
theorem not_mem_jnlRegs {o : Nat} (h : 0x600000 ≤ o) : o ∉ jnlRegs := by
  intro hm
  simp only [jnlRegs, R.JNL_WRAP_CNT, R.JNL_MISSED, List.mem_cons, List.not_mem_nil, or_false] at hm
  omega

theorem Noted.gclRangeOk (h : Noted s t) (p : Nat) : gclRangeOk t p = gclRangeOk s p := by
  have hctl : R.NET_GCL_CTL p ∉ jnlRegs := not_mem_jnlRegs (by unfold R.NET_GCL_CTL; omega)
  have hcycle : R.NET_GCL_CYCLE p ∉ jnlRegs := not_mem_jnlRegs (by unfold R.NET_GCL_CYCLE; omega)
  have hshd : ∀ i, R.NET_GCL_SHD p i ∉ jnlRegs := fun i => not_mem_jnlRegs (by unfold R.NET_GCL_SHD; omega)
  have hlen : Machine.getF t (F.NET_GCL_CTL_LEN p) = Machine.getF s (F.NET_GCL_CTL_LEN p) := h.getF _ hctl
  have hcyc : Machine.getF t (F.NET_GCL_CYCLE_CYCLE p) = Machine.getF s (F.NET_GCL_CYCLE_CYCLE p) := h.getF _ hcycle
  have hint : ∀ i, Machine.getF t (F.NET_GCL_SHD_INTERVAL p i) = Machine.getF s (F.NET_GCL_SHD_INTERVAL p i) :=
    fun i => h.getF _ (hshd i)
  unfold Machine.gclRangeOk
  simp only [hlen, hcyc, hint]

theorem exec_gclCommit_of_good {p : Fin 4}
    (htime : isLate s (rd64 s (R.NET_GCL_MSI_LO p) (R.NET_GCL_MSI_HI p)) = false) (hfree : (portOf s p).gclPend = none)
    (hrange : gclRangeOk s p = true) (via : Src) :
    exec (.gclCommit via p) s =
      .next (gclPended p 1 (some (ceil16 (rd64 s (R.NET_GCL_MSI_LO p) (R.NET_GCL_MSI_HI p)))) (journalReg via (R.NET_GCL_CMD p) 1 s)) := by
  have noted := noted_journalReg via (R.NET_GCL_CMD p) 1 s
  have away : ∀ p : Fin 4, R.NET_GCL_MSI_LO p ∉ jnlRegs ∧ R.NET_GCL_MSI_HI p ∉ jnlRegs := by decide
  obtain ⟨hlo, hhi⟩ := away p
  change Host.Outcome.next (gclCommit via p s) = _
  unfold gclCommit
  extract_lets s1 m
  have hm : m = rd64 s (R.NET_GCL_MSI_LO p) (R.NET_GCL_MSI_HI p) := rd64_of_kept noted.kept hlo hhi
  have hpend : (portOf s1 p).gclPend = none := (congrArg _ (portOf_of_net noted.logsOnly.net p)).trans hfree
  rw [if_neg (by rw [hm, noted.isLate, htime]; decide), if_neg (by rw [hpend]; decide),
    if_neg (by rw [noted.gclRangeOk, hrange]; decide), hm]
  rfl

theorem exec_gclCancel_of_inTime {p : Fin 4} {k : Nat} (hpend : (portOf s p).gclPend = some k) (htime : inTime s k = true)
    (via : Src) : exec (.gclCancel via p) s = .next (gclPended p 2 none (journalReg via (R.NET_GCL_CMD p) 2 s)) := by
  have noted := noted_journalReg via (R.NET_GCL_CMD p) 2 s
  change Host.Outcome.next (gclCancel via p s) = _
  unfold gclCancel
  extract_lets s1
  have hpend' : (portOf s1 p).gclPend = some k := (congrArg _ (portOf_of_net noted.logsOnly.net p)).trans hpend
  rw [hpend']
  dsimp only
  rw [if_pos (by rw [noted.inTime, htime])]
  rfl

/-- A recorded gate command that succeeds. -/
theorem gclPended_recorded_spec (p : Fin 4) {cmd : Nat} (hcmd : cmd < 16) (k : Option Nat) {via : Src} {off : Nat} {v : Word} :
    let t := gclPended p cmd k (journalReg via off v s)
    portOf t p = { portOf s p with gclPend := k } ∧ (∀ q, q ≠ p.val → portOf t q = portOf s q) ∧
    getF t (F.NET_GCL_STATE_PEND p) = b2n k.isSome ∧ getF t (F.NET_GCL_STATE_CMD p) = cmd ∧
    getF t (F.NET_GCL_STATE_REASON p) = 0 ∧
    Frame (R.NET_GCL_STATE p :: jnlRegs) s t { s with regs := t.regs, jnl := t.jnl, net := t.net } := by
  have noted := noted_journalReg via off v s
  have hport := portOf_of_net noted.logsOnly.net
  obtain ⟨hself, hothers, hpend, hcmd, hreason, parts, kept⟩ := gclPended_spec p hcmd k (journalReg via off v s)
  refine ⟨hself.trans (by rw [hport]), fun q hq => (hothers q hq).trans (hport q), hpend, hcmd, hreason, noted.frame_ports parts ?_⟩
  exact (noted.kept.mono (List.subset_cons_self _ _)).trans (kept.mono (by simp))

/-! ### GCL_APPLY -/

/-- The operational entries of a port. -/
def operRegs (p : Nat) : List Nat := (List.range 256).map (R.NET_GCL_OPER p)

theorem not_mem_operRegs {p o : Nat} (h : o < R.NET_GCL_OPER p 0) : o ∉ operRegs p := by
  intro hm
  obtain ⟨i, -, rfl⟩ := List.mem_map.mp hm
  unfold R.NET_GCL_OPER at h
  omega

/-- The first n shadow entries become operational. -/
def gclCopied (p n : Nat) (s : State) : State := forNat n (fun i s => wr s (R.NET_GCL_OPER p i) (rd s (R.NET_GCL_SHD p i))) s

theorem gclCopied_spec (p : Nat) {n : Nat} (hn : n ≤ 256) (s : State) :
    RegsOnly s (gclCopied p n s) ∧ KeptBut (operRegs p) s (gclCopied p n s) ∧
    ∀ i < n, rd (gclCopied p n s) (R.NET_GCL_OPER p i) = rd s (R.NET_GCL_SHD p i) := by
  induction n with
  | zero => exact ⟨.refl s, .refl _ s, fun i hi => absurd hi (Nat.not_lt_zero i)⟩
  | succ n ih =>
    obtain ⟨parts, kept, copied⟩ := ih (by omega)
    have hstep : gclCopied p (n + 1) s = _ := forNat_succ _ _ _
    rw [hstep]
    refine ⟨parts.wr, kept.wr (List.mem_map_of_mem (List.mem_range.mpr (by omega))), fun i hi => ?_⟩
    by_cases h : i = n
    · rw [h, rd_wr_self]
      exact kept _ (not_mem_operRegs (by unfold R.NET_GCL_SHD R.NET_GCL_OPER; omega))
    · rw [rd_wr_of_ne _ _ (by unfold R.NET_GCL_OPER; omega)]
      exact copied i (by omega)

/-- What GCL_STATE shows of the list just copied. -/
def gclShown (p en : Nat) (s : State) : State :=
  setF (setF (setF s (F.NET_GCL_STATE_OPER_EN p) en) (F.NET_GCL_STATE_PEND p) 0) (F.NET_GCL_STATE_ENTRY p) 0

theorem gclShown_spec (p en : Nat) (s : State) : RegsOnly s (gclShown p en s) ∧ KeptBut [R.NET_GCL_STATE p] s (gclShown p en s) :=
  ⟨.setF (.setF (.setF (.refl s))), .setF (.setF (.setF (.refl _ s) (.head _)) (.head _)) (.head _)⟩

theorem gclShown_fields (p : Fin 4) {en : Nat} (hen : en < 2) (s : State) :
    let t := gclShown p en s
    getF t (F.NET_GCL_STATE_OPER_EN p) = en ∧ getF t (F.NET_GCL_STATE_PEND p) = 0 ∧ getF t (F.NET_GCL_STATE_ENTRY p) = 0 := by
  unfold gclShown
  refine ⟨?_, ?_, ?_⟩
  · rw [getF_setF_port F.NET_GCL_STATE_ENTRY F.NET_GCL_STATE_OPER_EN (by decide),
      getF_setF_port F.NET_GCL_STATE_PEND F.NET_GCL_STATE_OPER_EN (by decide)]
    exact getF_setF_flag _ rfl (by decide : 31 < 32) hen
  · rw [getF_setF_port F.NET_GCL_STATE_ENTRY F.NET_GCL_STATE_PEND (by decide)]
    exact getF_setF_flag _ rfl (by decide : 30 < 32) (by decide)
  · exact getF_setF_of_lt _ (F.NET_GCL_STATE_ENTRY p) (by decide : 16 ≤ 23 ∧ 23 < 32) (by decide : 0 < 2 ^ 8)

/-- A port is changed as its list goes in force, and the event is shown. -/
def gclStarted (p : Nat) (f : NetPort → NetPort) (s : State) : State := setBit (portMod p f s) (F.NET_STAT_GCL_APPLIED p)

theorem gclStarted_spec (p : Fin 4) (f : NetPort → NetPort) (s : State) :
    let t := gclStarted p f s
    portOf t p = f (portOf s p) ∧ (∀ q, q ≠ p.val → portOf t q = portOf s q) ∧
    (∀ fld : Fld, fld.off = R.NET_GCL_STATE p → getF t fld = getF s fld) ∧ stBit t (F.NET_STAT_GCL_APPLIED p) = 1 ∧
    PortsOnly s t ∧ KeptBut [R.NET_STAT p] s t := by
  have away : ∀ p : Fin 4, R.NET_GCL_STATE p ≠ R.NET_STAT p := by decide
  have hnet : (gclStarted p f s).net = (portMod p f s).net := setF_net _ _ _
  dsimp only
  refine ⟨?_, ?_, fun fld h => getF_setF_of_ne _ _ fld 1 (h.trans_ne (away p)), stBit_setBit _ _ 0 (by decide : 7 < 32),
    .setBit (.portMod (.refl s)), .setBit (.portMod (.refl _ s)) (.head _)⟩
  · rw [portOf_of_net hnet, portOf_portMod_self]
  · intro q hq
    rw [portOf_of_net hnet, portOf_portMod_of_ne hq]

/-- The list just copied is in force from its first entry on. -/
def gclInForce (p en : Nat) (f : NetPort → NetPort) (s : State) : State := gclStarted p f (gclShown p en s)

theorem gclInForce_spec (p : Fin 4) {en : Nat} (hen : en < 2) (f : NetPort → NetPort) (s : State) :
    let t := gclInForce p en f s
    portOf t p = f (portOf s p) ∧ (∀ q, q ≠ p.val → portOf t q = portOf s q) ∧ getF t (F.NET_GCL_STATE_OPER_EN p) = en ∧
    getF t (F.NET_GCL_STATE_PEND p) = 0 ∧ getF t (F.NET_GCL_STATE_ENTRY p) = 0 ∧ stBit t (F.NET_STAT_GCL_APPLIED p) = 1 ∧
    PortsOnly s t ∧ KeptBut [R.NET_GCL_STATE p, R.NET_STAT p] s t := by
  obtain ⟨hen, hpend, hentry⟩ := gclShown_fields p hen s
  obtain ⟨shownParts, shown⟩ := gclShown_spec p en s
  obtain ⟨hself, hothers, hfld, hstat, parts, kept⟩ := gclStarted_spec p f (gclShown p en s)
  have hport := portOf_of_net shownParts.logsOnly.net
  exact ⟨hself.trans (congrArg f (hport p)), fun q hq => (hothers q hq).trans (hport q), (hfld _ rfl).trans hen,
    (hfld _ rfl).trans hpend, (hfld _ rfl).trans hentry, hstat, shownParts.portsOnly.trans parts,
    (shown.mono (by simp)).trans (kept.mono (by simp))⟩

/-- A port whose list goes in force. -/
def listStarted (len cycle now : Nat) (q : NetPort) : NetPort :=
  { q with gclPend := none, operLen := len, operCycle := cycle, entryAt := 0, entrySince := now }

theorem nowStamp_of_kept (h : KeptBut offs s t) (htime : t.time = s.time) (hcfg : R.TSU_MEDIA_CFG ∉ offs) :
    nowStamp t = nowStamp s := by
  unfold nowStamp fsInt rate96
  rw [htime, h.getF (f := F.TSU_MEDIA_CFG_RATE) hcfg]

theorem gclApply_unfolded (p : Nat) (s : State) :
    let u := gclCopied p (getF s (F.NET_GCL_CTL_LEN p)) s
    let w := gclShown p (getF u (F.NET_GCL_CTL_EN p)) u
    gclApply p s = gclInForce p (getF u (F.NET_GCL_CTL_EN p))
      (listStarted (getF s (F.NET_GCL_CTL_LEN p)) (getF w (F.NET_GCL_CYCLE_CYCLE p)) (nowStamp w)) u := rfl

/-- The list is copied, then put in force. -/
theorem gclApply_eq {p : Fin 4} (hlen : getF s (F.NET_GCL_CTL_LEN p) ≤ 256) :
    gclApply p s = gclInForce p (getF s (F.NET_GCL_CTL_EN p))
      (listStarted (getF s (F.NET_GCL_CTL_LEN p)) (getF s (F.NET_GCL_CYCLE_CYCLE p)) (nowStamp s))
      (gclCopied p (getF s (F.NET_GCL_CTL_LEN p)) s) := by
  have below : ∀ p : Fin 4, R.NET_GCL_CTL p < R.NET_GCL_OPER p 0 ∧ R.NET_GCL_CYCLE p < R.NET_GCL_OPER p 0 ∧
      R.TSU_MEDIA_CFG < R.NET_GCL_OPER p 0 ∧ R.NET_GCL_CYCLE p ∉ [R.NET_GCL_STATE p] ∧ R.TSU_MEDIA_CFG ∉ [R.NET_GCL_STATE p] := by
    decide
  obtain ⟨hctl, hcyc, hmedia, hcyc', hmedia'⟩ := below p
  obtain ⟨parts, kept, -⟩ := gclCopied_spec p hlen s
  rw [gclApply_unfolded]
  generalize gclCopied p (getF s (F.NET_GCL_CTL_LEN p)) s = u at parts kept ⊢
  have hen : getF u (F.NET_GCL_CTL_EN p) = getF s (F.NET_GCL_CTL_EN p) := kept.getF (not_mem_operRegs hctl)
  obtain ⟨shownParts, shown⟩ := gclShown_spec p (getF s (F.NET_GCL_CTL_EN p)) u
  rw [hen, shown.getF hcyc', kept.getF (not_mem_operRegs hcyc), nowStamp_of_kept shown shownParts.time hmedia',
    nowStamp_of_kept kept parts.time (not_mem_operRegs hmedia)]

theorem gclApply_spec {p : Fin 4} (hlen : getF s (F.NET_GCL_CTL_LEN p) ≤ 256) :
    let t := gclApply p s
    portOf t p = listStarted (getF s (F.NET_GCL_CTL_LEN p)) (getF s (F.NET_GCL_CYCLE_CYCLE p)) (nowStamp s) (portOf s p) ∧
    (∀ q, q ≠ p.val → portOf t q = portOf s q) ∧
    (∀ i, i < getF s (F.NET_GCL_CTL_LEN p) → rd t (R.NET_GCL_OPER p i) = rd s (R.NET_GCL_SHD p i)) ∧
    getF t (F.NET_GCL_STATE_OPER_EN p) = getF s (F.NET_GCL_CTL_EN p) ∧ getF t (F.NET_GCL_STATE_PEND p) = 0 ∧
    getF t (F.NET_GCL_STATE_ENTRY p) = 0 ∧ stBit t (F.NET_STAT_GCL_APPLIED p) = 1 ∧
    Frame ([R.NET_GCL_STATE p, R.NET_STAT p] ++ operRegs p) s t { s with regs := t.regs, net := t.net } := by
  obtain ⟨copyParts, copyKept, copied⟩ := gclCopied_spec p hlen s
  obtain ⟨hself, hothers, hen, hpend, hentry, hstat, parts, kept⟩ := gclInForce_spec p (getF_lt s (F.NET_GCL_CTL_EN p))
    (listStarted (getF s (F.NET_GCL_CTL_LEN p)) (getF s (F.NET_GCL_CYCLE_CYCLE p)) (nowStamp s))
    (gclCopied p (getF s (F.NET_GCL_CTL_LEN p)) s)
  rw [← gclApply_eq hlen] at hself hothers hen hpend hentry hstat parts kept
  have hport : ∀ q, portOf (gclCopied p (getF s (F.NET_GCL_CTL_LEN p)) s) q = portOf s q :=
    fun q => portOf_of_net copyParts.logsOnly.net q
  rw [hport] at hself
  refine ⟨hself, fun q hq => (hothers q hq).trans (hport q), fun i hi => ?_, hen, hpend, hentry, hstat, ?_⟩
  · have away : R.NET_GCL_OPER p i ∉ [R.NET_GCL_STATE p, R.NET_STAT p] := by
      simp only [R.NET_GCL_OPER, R.NET_GCL_STATE, R.NET_STAT, List.mem_cons, List.not_mem_nil, or_false]
      omega
    exact (kept _ away).trans (copied i hi)
  · exact PortsOnly.frame (copyParts.portsOnly.trans parts) ((copyKept.mono (by simp)).trans (kept.mono (by simp)))

theorem exec_gclApply_of_due {p : Fin 4} {k : Nat} (hpend : (portOf s p).gclPend = some k) (hdue : due s k = true) :
    exec (.gclApply p) s = .next (gclApply p s) := by
  change execGclApply p s = _
  unfold execGclApply
  rw [hpend]
  dsimp only
  rw [if_pos hdue]

/-! ### GCL_ENTRY_ADVANCE -/

/-- An entry takes effect at a cycle time. -/
def entryStarted (p i at_ : Nat) (s : State) : State :=
  setF (portMod p (fun q => { q with entryAt := at_, entrySince := nowStamp s }) s) (F.NET_GCL_STATE_ENTRY p) i

theorem entryStarted_spec (p : Fin 4) {i : Nat} (hi : i < 256) (at_ : Nat) (s : State) :
    let t := entryStarted p i at_ s
    getF t (F.NET_GCL_STATE_ENTRY p) = i ∧ (portOf t p).entryAt = at_ ∧
    Frame [R.NET_GCL_STATE p] s t { s with regs := t.regs, net := t.net } := by
  unfold entryStarted
  dsimp only
  refine ⟨?_, ?_, PortsOnly.frame (.setF (.portMod (.refl s))) (.setF (.portMod (.refl _ s)) (.head _))⟩
  · exact getF_setF_of_lt _ (F.NET_GCL_STATE_ENTRY p) (by decide : 16 ≤ 23 ∧ 23 < 32) hi
  · rw [portOf_of_net (setF_net _ _ _), portOf_portMod_self]

theorem exec_gclEntryAdvance_next {p : Fin 4} (hen : getF s (F.NET_GCL_STATE_OPER_EN p) = 1)
    (hmore : getF s (F.NET_GCL_STATE_ENTRY p) + 1 < (portOf s p).operLen)
    (hcycle : (portOf s p).entryAt + getF s (F.NET_GCL_OPER_INTERVAL p (getF s (F.NET_GCL_STATE_ENTRY p))) < (portOf s p).operCycle) :
    exec (.gclEntryAdvance p) s = .next (entryStarted p (getF s (F.NET_GCL_STATE_ENTRY p) + 1)
      ((portOf s p).entryAt + getF s (F.NET_GCL_OPER_INTERVAL p (getF s (F.NET_GCL_STATE_ENTRY p)))) s) := by
  change execGclEntryAdvance p s = _
  unfold execGclEntryAdvance
  extract_lets q i at_
  rw [if_neg (by omega), if_neg (not_or.mpr ⟨Nat.not_le.mpr hmore, Nat.not_le.mpr hcycle⟩)]
  rfl

theorem exec_gclEntryAdvance_last {p : Fin 4} (hen : getF s (F.NET_GCL_STATE_OPER_EN p) = 1)
    (hlast : (portOf s p).operLen ≤ getF s (F.NET_GCL_STATE_ENTRY p) + 1) :
    exec (.gclEntryAdvance p) s = .next (entryStarted p 0 0 s) := by
  change execGclEntryAdvance p s = _
  unfold execGclEntryAdvance
  extract_lets q i at_
  rw [if_neg (by omega), if_pos (.inl hlast)]
  rfl

/-! ### Low-power idle -/

theorem exec_lpiEnter_of_allowed {p : Fin 4} {cycleNs : BitVec 64} (hmin : 3 ≤ getF s (F.NET_CFG_MODE p))
    (hmax : getF s (F.NET_CFG_MODE p) ≤ 5) (hen : getF s (F.NET_CFG_LPI_EN p) = 1) (hup : linkUp s p = true)
    (hlpi : getF s (F.NET_LINK_TX_LPI p) = 0) (hempty : txEmpty s p = true) (hclear : lpiClear s p cycleNs.toNat = true) :
    exec (.lpiEnter p cycleNs) s = .next (cnt (setF s (F.NET_LINK_TX_LPI p) 1) (R.NET_LPI_CNT p)) := by
  have hidle : (portOf s p).sending = none := by
    unfold txEmpty at hempty
    simp only [Bool.and_eq_true, Option.isNone_iff_eq_none] at hempty
    exact hempty.1.1.1.1
  change execLpiEnter p cycleNs s = _
  unfold execLpiEnter
  rw [txSettle_of_idle hidle]
  extract_lets
  rw [if_pos ⟨hmin, hmax, hen, hup, hlpi, hempty, hclear⟩]

theorem lpiEntered_spec (p : Fin 4) (s : State) :
    let t := cnt (setF s (F.NET_LINK_TX_LPI p) 1) (R.NET_LPI_CNT p)
    getF t (F.NET_LINK_TX_LPI p) = 1 ∧ rdN t (R.NET_LPI_CNT p) = min (rdN s (R.NET_LPI_CNT p) + 1) 0xFFFFFFFF ∧
    Frame [R.NET_LINK p, R.NET_LPI_CNT p] s t { s with regs := t.regs } := by
  have away : ∀ p : Fin 4, R.NET_LINK p ≠ R.NET_LPI_CNT p := by decide
  refine ⟨?_, ?_, RegsOnly.frame (.wr (.setF (.refl s))) (.cntAdd (.setF (.refl _ s) (.head _)) (.tail _ (.head _)))⟩
  · refine (getF_cnt_of_ne _ (away p)).trans ?_
    exact getF_setF_flag s rfl (by decide : 26 < 32) (by decide)
  · rw [rdN_cnt_self, rdN_setF s _ _ (away p).symm]

/-- The transmitter starts waking. -/
def lpiLeft (p : Nat) (s : State) : State :=
  portMod p (fun q => { q with waking := some (nowStamp s) }) (setF s (F.NET_LINK_TX_LPI p) 0)

theorem exec_lpiWake_of_due {p : Fin 4} (hlpi : getF s (F.NET_LINK_TX_LPI p) = 1)
    (hdue : (if getF s (F.NET_GCL_STATE_OPER_EN p) = 1 then
      opensSoon s p (queuedClasses s p ||| getF s (F.NET_EEE_WAKE_TCS p)) else queuedClasses s p != 0) = true) :
    exec (.lpiWake p) s = .next (lpiLeft p s) := by
  change execLpiWake p s = _
  unfold execLpiWake
  extract_lets gating queued
  have hwake : (if gating then opensSoon s p (queued ||| getF s (F.NET_EEE_WAKE_TCS p)) else queued != 0) = true := by
    simpa [gating, queued] using hdue
  rw [if_pos ⟨hlpi, hwake⟩]
  rfl

theorem lpiLeft_spec (p : Fin 4) (s : State) :
    let t := lpiLeft p s
    getF t (F.NET_LINK_TX_LPI p) = 0 ∧ portOf t p = { portOf s p with waking := some (nowStamp s) } ∧
    (∀ q, q ≠ p.val → portOf t q = portOf s q) ∧ Frame [R.NET_LINK p] s t { s with regs := t.regs, net := t.net } := by
  unfold lpiLeft
  dsimp only
  refine ⟨?_, ?_, ?_, PortsOnly.frame (.portMod (.setF (.refl s))) (.portMod (.setF (.refl _ s) (.head _)))⟩
  · rw [getF_portMod]
    exact getF_setF_flag s rfl (by decide : 26 < 32) (by decide)
  · rw [portOf_portMod_self, portOf_of_net (setF_net s _ _)]
  · intro q hq
    rw [portOf_portMod_of_ne hq, portOf_of_net (setF_net s _ _)]

end Sys2Proof.Machine
end

section
/-! SUPPORT. The obligation of frames sent, gate lists and low-power idle (O48; R270, R273, R274, R276, R278, R279). -/

namespace Sys2Proof.Machine

/-- Settles O48: every frame goes by way of what its command takes, sends, pends or starts, whose registers and ports are read off
one effect at a time. -/
theorem framesSentAndGated : Obligations.FramesSentAndGated := by
  unfold Obligations.FramesSentAndGated
  refine ⟨?tail, ?send, ?overdue, ?refused, ?commit, ?cancel, ?apply, ?next, ?last, ?enter, ?wake⟩
  case tail =>
    intro p r v s h
    obtain ⟨htail, hself, hothers, frame⟩ := trTailTaken_spec p r (Nat.mod_lt v.toNat (by decide : 0 < 8192)) s
    exact ⟨_, congrArg Host.Outcome.next (trTailApply_of_near h), htail, hself, hothers, frame⟩
  case send =>
    rintro p cycleNs stamp s x ⟨hfatal, hmap⟩ ⟨hstreams, hladle, hacks, htc⟩ ⟨hrings, hgate⟩ ⟨hup, hopen, hlpi⟩ ⟨hidle, hawake⟩
    have one : OneAck s p x := ⟨hstreams, hacks, hladle, fun r hr => eq_of_beq (List.all_eq_true.mp hrings r (List.mem_range.mpr hr))⟩
    have alike := alike_dropNofit hstreams hgate
    obtain ⟨hself, hothers, hcount, parts, kept⟩ := txStart_ack_spec p stamp.toNat x (dropNofit p s)
    refine ⟨_, exec_txFrame_ack one htc hfatal hmap hgate hup hopen hlpi hidle hawake cycleNs, ?_,
      fun q hq => (hothers q hq).trans (alike.port q), ?_,
      (alike.parts.trans parts).frame ((alike.regs.mono (List.nil_subset _)).trans kept)⟩
    · rw [hself, alike.port, alike.lineStamps, ackSent, hacks]
      rfl
    · rw [hcount, rdN_of_kept alike.regs List.not_mem_nil]
  case overdue =>
    rintro p r s i at_ ⟨hfind, hlate⟩ ⟨hin, hcount⟩
    refine ⟨_, (exec_txTailTimeout_of_late hfind hlate hin).trans (congrArg _ (if_neg (Option.isSome_iff_ne_none.mp hcount))),
      portOf_portMod_self _ _ _, fun q hq => portOf_portMod_of_ne hq _ _, PortsOnly.frame (.portMod (.refl s)) (.portMod (.refl _ s))⟩
  case refused =>
    rintro p r s i at_ ⟨hfind, hlate⟩ ⟨hin, hcount⟩
    exact ⟨_, (exec_txTailTimeout_of_late hfind hlate hin).trans (congrArg _ (if_pos hcount)), txTailTimeout_refused_spec hin⟩
  case commit =>
    rintro via p s htime ⟨hfree, hrange⟩
    exact ⟨_, exec_gclCommit_of_good htime hfree hrange via, gclPended_recorded_spec p (by decide) _⟩
  case cancel =>
    rintro via p s k ⟨hpend, htime⟩
    exact ⟨_, exec_gclCancel_of_inTime hpend htime via, gclPended_recorded_spec p (by decide) _⟩
  case apply =>
    rintro p s k ⟨hpend, hdue, hlen⟩
    exact ⟨_, exec_gclApply_of_due hpend hdue, gclApply_spec hlen⟩
  case next =>
    rintro p s ⟨hen, hlen⟩ hmore hcycle
    exact ⟨_, exec_gclEntryAdvance_next hen hmore hcycle, entryStarted_spec p (by omega) _ s⟩
  case last =>
    rintro p s ⟨hen, hlast⟩
    exact ⟨_, exec_gclEntryAdvance_last hen hlast, entryStarted_spec p (by decide) 0 s⟩
  case enter =>
    rintro p cycleNs s ⟨hmin, hmax, hen⟩ ⟨hup, hlpi, hempty, hclear⟩
    exact ⟨_, exec_lpiEnter_of_allowed hmin hmax hen hup hlpi hempty hclear, lpiEntered_spec p s⟩
  case wake =>
    intro p s hlpi hdue
    exact ⟨_, exec_lpiWake_of_due hlpi hdue, lpiLeft_spec p s⟩

end Sys2Proof.Machine
end
